-- ==== Sys2Proof/Word.lean ====
section
/-!
DEFINITION. The word types of the E7160: 32-bit registers (R11), 64-bit engine instructions (R145), bytes of memory.
-/
namespace Sys2Proof

/-- One byte of SRAM or NOR. -/
abbrev Byte := BitVec 8
/-- One 32-bit register, memory or engine word (R11). -/
abbrev Word := BitVec 32
/-- One 64-bit word of engine program memory. -/
abbrev ProgWord := BitVec 64

end Sys2Proof
end

