-- ==== Sys2Proof/Syntax.lean ====
section
/-!
DEFINITION. The commands of the E7160 as a block: one constructor per row of spec/opcode_table.json, and the types of their
operands.
-/
namespace Sys2Proof

/-- The cores (R3). -/
inductive Core where
  | ta | tb | mc
  deriving DecidableEq, Repr

/-- Who sends a bus access (R124): a core, the host port, a DMA channel programmed by a core, a debugger that has halted
a core, or the checker core of a split pair (R436). -/
inductive Master where
  | core (c : Core)
  | hsp
  | dma (by_ : Core)
  | dbg (halted : Core)
  | chk (pair : Core)
  deriving DecidableEq, Repr

/-- A gate channel: GH0–GH47 or GL0–GL23 (R2). -/
inductive Chan where
  | gh (n : Fin 48)
  | gl (n : Fin 24)
  deriving DecidableEq, Repr

/-- A power leg: HL0–HL23 or LL0–LL11 (R2). -/
inductive PowerLeg where
  | hl (n : Fin 24)
  | ll (n : Fin 12)
  deriving DecidableEq, Repr

/-- The size and alignment an access asks for: a whole aligned word, or anything narrower or unaligned (R11). -/
inductive Width where
  | word | narrow
  deriving DecidableEq, Repr

/-- A stored word under ECC: one on the bus, by its address (R102, R132), or a word of context memory (R132). -/
inductive EccWord where
  | bus (addr : Word)
  | ctx (c : Fin 160) (o : Fin 64)
  deriving DecidableEq, Repr

/-- What befalls the ECC-protected memories as a command runs: nothing, or an error of one bit or of two bits in a stored word, which the
next read of that word meets. -/
inductive Ecc where
  | clean
  | single (w : EccWord)
  | double (w : EccWord)
  deriving DecidableEq, Repr

/-- A frame on a CAN bus (R445): identifier, format bits, data length code and data. -/
structure CanFrame where
  id : BitVec 29
  ide : Bool
  rtr : Bool
  fdf : Bool
  brs : Bool
  esi : Bool
  dlc : Fin 16
  data : List Byte
  deriving DecidableEq, Repr

/-- How a frame arrives at the host port: whole, with a bad CRC, or not 80 bits long (R464). -/
inductive HspFrame where
  | good | crc | length
  deriving DecidableEq, Repr

/-- A word that failed a memory self-test (R538): its address, its bank, the first failing bit (0–31 data, 32–38 ECC), and whether more
than one bit failed. -/
structure BistFail where
  addr : Word
  bank : Fin 64
  bit : Fin 39
  multi : Bool
  deriving DecidableEq, Repr

/-- The commands of the E7160: one constructor per row of spec/opcode_table.json. An operand carries what the world
outside the part supplies with the event (a sender, a value, a received frame) or names the unit it happens to. -/
inductive Instr where
  /-- POWER_ON_RESET (R126). -/
  | powerOnReset (dies : Bool)
  /-- RESET_RELEASE (R73). -/
  | resetRelease (ctlOk : Bool) (fails : List (Fin 7 × BistFail))
  /-- WAKE (R126). -/
  | wake
  /-- WARM_RESET (R126). -/
  | warmReset (m : Master) (key : Fin 256)
  /-- TICK_BOUNDARY (R14). -/
  | tickBoundary
  /-- TICK_MISMATCH (R15). -/
  | tickMismatch
  /-- ADMISSION_REQUEST (R27). -/
  | admissionRequest (m : Master)
  /-- ADMISSION_CHECK_DONE (R30). -/
  | admissionCheckDone
  /-- TICK_RUN_DISPATCH (R162). -/
  | tickRunDispatch (lane : Fin 4) (ecc : Ecc)
  /-- RUN_COMPLETE (R163). -/
  | runComplete (lane : Fin 4)
  /-- RUN_DEADLINE_ABORT (R37). -/
  | runDeadlineAbort (lane : Fin 4) (crit : Bool)
  /-- CONTEXT_DROP_FAULT (R40). -/
  | contextDropFault (c : Fin 160)
  /-- MAILBOX_WORD_WRITE (R44). -/
  | mailboxWordWrite (m : Master) (c : Fin 160) (k : Fin 8) (v : Word)
  /-- MAILBOX_COMMIT (R43). -/
  | mailboxCommit (m : Master) (c : Fin 160) (epoch : Fin 256)
  /-- J3_LOST_REPORT (R49). -/
  | j3LostReport
  /-- REGISTER_WRITE (R4). -/
  | registerWrite (m : Master) (addr : Word) (width : Width) (v : Word)
  /-- ACCESS_TIMEOUT (R123). -/
  | accessTimeout (m : Master) (addr : Word) (wr : Option Word) (took : Bool)
  /-- PAGE_SRST (R111). -/
  | pageSrst (m : Master) (page : Word) (v : Word)
  /-- PAGE_LOCK_WRITE (R114). -/
  | pageLockWrite (m : Master) (page : Word) (v : Word)
  /-- PAGE_COMMIT (R115). -/
  | pageCommit (m : Master) (page : Word) (v : Word)
  /-- EVT_SET_WRITE (R118). -/
  | evtSetWrite (m : Master) (page : Word) (v : Word)
  /-- STAGED_WRITE (R116). -/
  | stagedWrite (m : Master) (addr : Word) (v : Word)
  /-- SRAM_READ (R102). -/
  | sramRead (m : Master) (addr : Word) (bytes : Fin 3) (ecc : Ecc)
  /-- MEMORY_WRITE (R101). -/
  | memoryWrite (m : Master) (addr : Word) (bytes : Fin 3) (v : Word)
  /-- NOR_WINDOW_READ (R106). -/
  | norWindowRead (m : Master) (addr : Word) (bytes : Fin 3)
  /-- PF_WARN_FALLING (R74). -/
  | pfWarnFalling
  /-- PF_WARN_CLEARED (R74). -/
  | pfWarnCleared
  /-- UV_OFF (R75). -/
  | uvOff
  /-- PF_FLUSH_END (R525). -/
  | pfFlushEnd
  /-- FLUSH_RESTART (R76). -/
  | flushRestart
  /-- HOLDUP_CUTOFF (R82). -/
  | holdupCutoff (written : Fin 7681)
  /-- VLV_HIGH (R72). -/
  | vlvHigh
  /-- HOLDUP_CHARGED (R77). -/
  | holdupCharged
  /-- HOLDUP_MEASURED (R79). -/
  | holdupMeasured (cap : Fin 4096)
  /-- BACKUP_FAIL (R81). -/
  | backupFail
  /-- GATE_PWR_HIGH (R84). -/
  | gatePwrHigh (avg : Fin 1024)
  /-- GATE_OVERLOAD (R84). -/
  | gateOverload
  /-- SENS_OC (R98). -/
  | sensOc (k : Fin 4)
  /-- X2_ATTACH (R91). -/
  | x2Attach
  /-- X1_LOOP_OPEN (R92). -/
  | x1LoopOpen
  /-- X2_LOOP_OPEN (R92). -/
  | x2LoopOpen
  /-- DETACH_REQUEST (R94). -/
  | detachRequest (m : Master) (x2 : Bool)
  /-- DETACH_READY (R95). -/
  | detachReady
  /-- DETACH_CANCEL (R96). -/
  | detachCancel (m : Master)
  /-- DETACH_TIMEOUT (R96). -/
  | detachTimeout
  /-- REISSUE (R129). -/
  | reissue (lane : Fin 4)
  /-- LANE_FAULT (R130). -/
  | laneFault (lane : Fin 4)
  /-- LANE_CHECK (R131). -/
  | laneCheck (m : Master) (lane : Fin 4)
  /-- LANE_CHECK_DONE (R131). -/
  | laneCheckDone (lane : Fin 4) (pass : Bool)
  /-- STATE_REQUEST (R134). -/
  | stateRequest (m : Master) (c : Fin 160) (req : Fin 8)
  /-- FOLLOWING_ERROR_TRIP (R161). -/
  | followingErrorTrip (c : Fin 160)
  /-- CONTEXT_WORD_WRITE (R141). -/
  | contextWordWrite (m : Master) (c : Fin 160) (v : Word)
  /-- CONTEXT_WORD_READ (R141). -/
  | contextWordRead (m : Master) (c : Fin 160)
  /-- ENGINE_CONSTANT_WRITE (R148). -/
  | engineConstantWrite (m : Master) (k : Fin 31) (v : Word)
  /-- PROGRAM_MEMORY_WRITE (R164). -/
  | programMemoryWrite (m : Master) (k : Fin 8192) (v : Word)
  /-- TABLE_MEMORY_WRITE (R132). -/
  | tableMemoryWrite (m : Master) (k : Fin 16384) (v : Word)
  /-- VALIDATION_START (R165). -/
  | validationStart (m : Master) (start : Fin 4096) (len : Fin 8192)
  /-- VALIDATION_DONE (R165). -/
  | validationDone
  /-- DUTY_PORT_APPLY (R150). -/
  | dutyPortApply (lane : Fin 4)
  /-- UNDEFINED_INSTRUCTION (R153). -/
  | undefinedInstruction (lane : Fin 4)
  /-- NOP (R153). -/
  | nop (lane : Fin 4)
  /-- MOV (R142). -/
  | mov (lane : Fin 4)
  /-- ADD (R153). -/
  | add (lane : Fin 4)
  /-- SUB (R153). -/
  | sub (lane : Fin 4)
  /-- MUL (R153). -/
  | mul (lane : Fin 4)
  /-- MAC (R153). -/
  | mac (lane : Fin 4)
  /-- MSB (R153). -/
  | msb (lane : Fin 4)
  /-- NEG (R142). -/
  | neg (lane : Fin 4)
  /-- ABS (R142). -/
  | abs (lane : Fin 4)
  /-- MIN (R153). -/
  | min (lane : Fin 4)
  /-- MAX (R153). -/
  | max (lane : Fin 4)
  /-- CLAMP (R153). -/
  | clamp (lane : Fin 4)
  /-- LERP (R153). -/
  | lerp (lane : Fin 4)
  /-- RATE (R153). -/
  | rate (lane : Fin 4)
  /-- WRAP (R153). -/
  | wrap (lane : Fin 4)
  /-- RCP (R153). -/
  | rcp (lane : Fin 4)
  /-- RSQ (R153). -/
  | rsq (lane : Fin 4)
  /-- DIV (R153). -/
  | div (lane : Fin 4)
  /-- SQRT (R153). -/
  | sqrt (lane : Fin 4)
  /-- HYP (R153). -/
  | hyp (lane : Fin 4)
  /-- ATAN2 (R153). -/
  | atan2 (lane : Fin 4)
  /-- SINCOS (R155). -/
  | sincos (lane : Fin 4)
  /-- CVTI (R144). -/
  | cvti (lane : Fin 4)
  /-- CVTF (R144). -/
  | cvtf (lane : Fin 4)
  /-- CMPLT (R153). -/
  | cmplt (lane : Fin 4)
  /-- CMPLE (R153). -/
  | cmple (lane : Fin 4)
  /-- CMPEQ (R153). -/
  | cmpeq (lane : Fin 4)
  /-- CMPAG (R153). -/
  | cmpag (lane : Fin 4)
  /-- PANDLT (R153). -/
  | pandlt (lane : Fin 4)
  /-- PORLT (R153). -/
  | porlt (lane : Fin 4)
  /-- SEL (R142). -/
  | sel (lane : Fin 4)
  /-- BTST (R153). -/
  | btst (lane : Fin 4)
  /-- AND (R144). -/
  | and (lane : Fin 4)
  /-- OR (R144). -/
  | or (lane : Fin 4)
  /-- XOR (R144). -/
  | xor (lane : Fin 4)
  /-- SHR (R144). -/
  | shr (lane : Fin 4)
  /-- CLK3 (R156). -/
  | clk3 (lane : Fin 4)
  /-- VSD6 (R156). -/
  | vsd6 (lane : Fin 4)
  /-- PARK (R155). -/
  | park (lane : Fin 4)
  /-- IPARK (R155). -/
  | ipark (lane : Fin 4)
  /-- PARKSC (R156). -/
  | parksc (lane : Fin 4)
  /-- IPARKSC (R156). -/
  | iparksc (lane : Fin 4)
  /-- PIC (R157). -/
  | pic (lane : Fin 4)
  /-- SVM (R158). -/
  | svm (lane : Fin 4)
  /-- LUT1 (R159). -/
  | lut1 (lane : Fin 4)
  /-- LUT2 (R159). -/
  | lut2 (lane : Fin 4)
  /-- CONVERSION_END (R171). -/
  | conversionEnd (codes : List Int)
  /-- LONG_WINDOW_CLOSE (R180). -/
  | longWindowClose (src : Fin 16)
  /-- WINDOW_AVERAGE_DELIVERY (R179). -/
  | windowAverageDelivery (src : Fin 16) (ecc : Ecc)
  /-- REFERENCE_SELECT (R173). -/
  | referenceSelect (m : Master) (sel : Fin 4)
  /-- REFERENCE_READY (R173). -/
  | referenceReady (meas : Fin 65536)
  /-- REF_FAIL (R174). -/
  | refFail (meas : Fin 65536)
  /-- LAST_READ (R182). -/
  | lastRead (m : Master) (ch : Fin 32)
  /-- FAQ_POP (R184). -/
  | faqPop (m : Master)
  /-- FAQ_DISCARD (R205). -/
  | faqDiscard (m : Master)
  /-- FAQ_FALLBACK_WRITE (R186). -/
  | faqFallbackWrite
  /-- HK_ROUND_START (R188). -/
  | hkRoundStart
  /-- HK_SLOT_END (R188). -/
  | hkSlotEnd (code0 : Fin 65536) (code1 : Fin 65536)
  /-- HK_STALL (R191). -/
  | hkStall (conv : Fin 2)
  /-- MONITOR_TRIP (R198). -/
  | monitorTrip (k : Fin 32) (hi : Bool) (ch : Fin 32) (x : Int)
  /-- MONITOR_RELEASE (R192). -/
  | monitorRelease (k : Fin 32) (hi : Bool) (ch : Fin 32) (x : Int)
  /-- MONITOR_RESOLVE (R193). -/
  | monitorResolve (k : Fin 32) (hi : Bool) (ch : Fin 32) (x : Int)
  /-- MONITOR_SWAP_CHECK (R200). -/
  | monitorSwapCheck (m : Master) (k : Fin 32)
  /-- MONITOR_TIE_CHECK (R200). -/
  | monitorTieCheck (m : Master) (k : Fin 32)
  /-- MONITOR_CHECK_DONE (R200). -/
  | monitorCheckDone (k : Fin 32) (pass : Bool)
  /-- CARRIER_PERIOD_START (R215). -/
  | carrierPeriodStart (g : Fin 12)
  /-- HALF_PERIOD_POINT (R215). -/
  | halfPeriodPoint (g : Fin 12)
  /-- CNT_MISMATCH (R218). -/
  | cntMismatch (g : Fin 12)
  /-- EDGE_DUE (R220). -/
  | edgeDue (g : Fin 12) (slot : Fin 6)
  /-- ARM (R227). -/
  | arm (m : Master) (g : Fin 12)
  /-- ARMING_COMPLETE (R228). -/
  | armingComplete (g : Fin 12)
  /-- ARMING_ABORT (R228). -/
  | armingAbort (g : Fin 12)
  /-- DISARM (R229). -/
  | disarm (m : Master) (g : Fin 12)
  /-- DISARM_TAKE_EFFECT (R229). -/
  | disarmTakeEffect (g : Fin 12)
  /-- IDLE_FRAME (R236). -/
  | idleFrame (k : Fin 15) (noise : List Byte) (hot : List Nat)
  /-- EDGE_FRAME (R234). -/
  | edgeFrame (k : Fin 15) (n : Fin 5) (lag : Fin 65536) (noise : List Byte) (hot : List Nat)
  /-- SAFE_FRAME (R233). -/
  | safeFrame (k : Fin 15) (noise : List Byte) (hot : List Nat)
  /-- REG_FRAME (R233). -/
  | regFrame (k : Fin 15) (crcOk : Bool)
  /-- CFG_FRAME (R238). -/
  | cfgFrame (k : Fin 15) (crcOk : Bool)
  /-- STATUS_FRAME (R236). -/
  | statusFrame (k : Fin 15) (sel : Fin 3) (v : Fin 4096) (meas : List Nat)
  /-- DIE_LINK_LOSS (R238). -/
  | dieLinkLoss (k : Fin 15) (hot : List Nat)
  /-- CONTROLLER_LINK_LOSS (R239). -/
  | controllerLinkLoss (k : Fin 15)
  /-- LINK_TRAINED (R237). -/
  | linkTrained (k : Fin 15)
  /-- LINK_CAL_DONE (R237). -/
  | linkCalDone (k : Fin 15) (trim : Fin 256)
  /-- LINK_RESTART (R239). -/
  | linkRestart (m : Master) (k : Fin 15)
  /-- REGION_MISMATCH (R240). -/
  | regionMismatch (k : Fin 15) (q : Fin 3)
  /-- DSAT_TRIP (R249). -/
  | dsatTrip (c : Fin 48)
  /-- TWO_STEP_HOLD_END (R250). -/
  | twoStepHoldEnd (c : Fin 48)
  /-- SUPPLY_UVLO (R253). -/
  | supplyUvlo (c : Fin 48) (pos : Bool) (low : Bool)
  /-- READY_SET (R248). -/
  | readySet (c : Chan)
  /-- CLAMP_ON (R254). -/
  | clampOn (c : Fin 48)
  /-- CHANNEL_PWR_HIGH (R255). -/
  | channelPwrHigh (c : Fin 48) (avg : Fin 256)
  /-- CHANNEL_PWR_TRIP (R255). -/
  | channelPwrTrip (c : Fin 48)
  /-- TRIP_LATCH_CLEAR (R252). -/
  | tripLatchClear (m : Master) (c : Chan) (dsat : Bool) (pwr : Bool)
  /-- BOOTSTRAP_UVLO (R258). -/
  | bootstrapUvlo (l : Fin 12) (vbst : Fin 256)
  /-- LV_DIE_SUPPLY_FAULT (R258). -/
  | lvDieSupplyFault (k : Fin 3) (vbr : Bool) (bad : Bool)
  /-- REFRESH_PULSE (R259). -/
  | refreshPulse (l : Fin 12)
  /-- REFRESH_PULSE_END (R259). -/
  | refreshPulseEnd (l : Fin 12)
  /-- CHOPPER_SAMPLE (R262). -/
  | chopperSample
  /-- CHOPPER_FAULT (R262). -/
  | chopperFault (whileOff : Bool)
  /-- SPEED_FREEWHEEL_CHANGE (R264). -/
  | speedFreewheelChange (g : Fin 12)
  /-- QUADRATURE_EDGE (R273). -/
  | quadratureEdge (p : Fin 4) (l : List (Fin 8))
  /-- ILLEGAL_TRANSITION (R274). -/
  | illegalTransition (p : Fin 4) (l : List (Fin 8))
  /-- ILL_WINDOW_END (R274). -/
  | illWindowEnd (p : Fin 4)
  /-- INDEX_PULSE (R275). -/
  | indexPulse (p : Fin 4) (l : List (Fin 8))
  /-- HALL_EDGE (R276). -/
  | hallEdge (p : Fin 4) (l : List (Fin 8))
  /-- RESOLVER_RESULT (R278). -/
  | resolverResult (p : Fin 4) (cur : Fin 1048576)
  /-- SERIAL_WORD (R281). -/
  | serialWord (p : Fin 4) (line : List (Nat × Bool))
  /-- SERIAL_WORD_TIMEOUT (R282). -/
  | serialWordTimeout (p : Fin 4)
  /-- STANDSTILL (R286). -/
  | standstill (p : Fin 4)
  /-- POS_RESTART (R287). -/
  | posRestart (m : Master) (p : Fin 4) (wireOk : Bool)
  /-- SENSOR_FAULT (R288). -/
  | sensorFault (p : Fin 4) (cause : Fin 6)
  /-- EMU_STEP (R290). -/
  | emuStep (e : Fin 2)
  /-- EMU_ENABLE (R291). -/
  | emuEnable (m : Master) (e : Fin 2) (v : Word)
  /-- TRC_DECLARATION (R309). -/
  | trcDeclaration (n : Fin 2)
  /-- DROP_MODE_CHANGE (R310). -/
  | dropModeChange (n : Fin 2)
  /-- DEGRADE_WARNING (R313). -/
  | degradeWarning (n : Fin 2)
  /-- DEGRADE_EXPIRY (R313). -/
  | degradeExpiry (n : Fin 2)
  /-- TRC_CLEAR (R314). -/
  | trcClear (m : Master) (n : Fin 2)
  /-- KE_IDENTIFICATION (R318). -/
  | keIdentification (n : Fin 2)
  /-- KE_RESTART (R318). -/
  | keRestart (m : Master) (n : Fin 2)
  /-- CHG_ENABLE (R325). -/
  | chgEnable (m : Master) (v : Word)
  /-- CP_EDGE (R328). -/
  | cpEdge (rising : Bool)
  /-- CP_OSC_TIMEOUT (R328). -/
  | cpOscTimeout
  /-- CP_CAPTURE (R329). -/
  | cpCapture (high : Bool) (code : Fin 65536)
  /-- CP_STATE_CHANGE (R330). -/
  | cpStateChange
  /-- PP_RATING_CHANGE (R332). -/
  | ppRatingChange
  /-- HANDSHAKE_TIMEOUT (R335). -/
  | handshakeTimeout (t : Fin 4)
  /-- GRID_ZERO_CROSSING (R337). -/
  | gridZeroCrossing
  /-- GRID_OK_SET (R337). -/
  | gridOkSet
  /-- GRID_VOLTAGE_TRIP (R338). -/
  | gridVoltageTrip (phase : Fin 3) (high : Bool)
  /-- GRID_FREQUENCY_TRIP (R338). -/
  | gridFrequencyTrip (kind : Fin 3)
  /-- POWER_LIMIT_TRIP (R338). -/
  | powerLimitTrip (direction : Bool)
  /-- DRIVE_INTERLOCK (R341). -/
  | driveInterlock (g : Fin 2)
  /-- AUX_ENABLE (R342). -/
  | auxEnable (m : Master) (v : Word)
  /-- AUX_TEST_PULSE_END (R347). -/
  | auxTestPulseEnd
  /-- AUX_SOFT_START_LIMIT (R348). -/
  | auxSoftStartLimit
  /-- AUX_SOFT_START_TIMEOUT (R346). -/
  | auxSoftStartTimeout
  /-- AUX_OVERLOAD (R349). -/
  | auxOverload
  /-- AUX_HICCUP_END (R346). -/
  | auxHiccupEnd
  /-- AUX_RUN_STABLE (R348). -/
  | auxRunStable
  /-- AUXL_COMMAND_FRAME (R466). -/
  | auxlCommandFrame (bytes : List Byte) (framing : Bool)
  /-- AUXL_RX_READ (R466). -/
  | auxlRxRead (m : Master)
  /-- AUXL_LINK_TIMEOUT (R466). -/
  | auxlLinkTimeout
  /-- AUXL_ACK_SEND (R466). -/
  | auxlAckSend (m : Master)
  /-- AUXL_TX_DONE (R466). -/
  | auxlTxDone
  /-- ACT_ENABLE (R361). -/
  | actEnable (m : Master) (n : Fin 3) (v : Word)
  /-- ACT_HALL_EDGE (R366). -/
  | actHallEdge (n : Fin 3) (hall : Fin 8)
  /-- ACT_HALL_FAULT (R366). -/
  | actHallFault (n : Fin 3)
  /-- ACT_SW_SAMPLE (R367). -/
  | actSwSample (n : Fin 3) (a : Fin 4096) (b : Fin 4096) (c : Fin 4096)
  /-- ACT_DESYNC (R368). -/
  | actDesync (n : Fin 3)
  /-- ACT_SPEED_TIMEOUT (R369). -/
  | actSpeedTimeout (n : Fin 3)
  /-- ACT_PRECHARGE_END (R365). -/
  | actPrechargeEnd (n : Fin 3)
  /-- ACT_OBSERVE_END (R371). -/
  | actObserveEnd (n : Fin 3)
  /-- ACT_REVBRAKE_END (R371). -/
  | actRevbrakeEnd (n : Fin 3)
  /-- ACT_CATCH_TIMEOUT (R371). -/
  | actCatchTimeout (n : Fin 3)
  /-- ACT_ALIGN_END (R370). -/
  | actAlignEnd (n : Fin 3)
  /-- ACT_RAMP_END (R372). -/
  | actRampEnd (n : Fin 3)
  /-- ACT_RETRY_END (R372). -/
  | actRetryEnd (n : Fin 3)
  /-- ACT_RUN_STABLE (R372). -/
  | actRunStable (n : Fin 3)
  /-- ACT_STALL (R373). -/
  | actStall (n : Fin 3)
  /-- ACT_EMF_FAULT (R374). -/
  | actEmfFault (n : Fin 3)
  /-- ACT_ZERO (R376). -/
  | actZero (m : Master) (n : Fin 3)
  /-- PARK_SLIP (R377). -/
  | parkSlip (n : Fin 3)
  /-- SHIFT_GO (R378). -/
  | shiftGo (m : Master) (start : Fin 8)
  /-- SHIFT_ABORT (R382). -/
  | shiftAbort (m : Master)
  /-- SHIFT_STEP_TIMEOUT (R382). -/
  | shiftStepTimeout
  /-- FAULT_LINE_RAISE (R389). -/
  | faultLineRaise (lines : List (Fin 128 × Fin 4096))
  /-- PENDING_CLEAR (R389). -/
  | pendingClear (m : Master) (k : Fin 4) (v : Word)
  /-- HOLD_MAX_EXPIRY (R394). -/
  | holdMaxExpiry (g : Fin 12)
  /-- RELEASE (R396). -/
  | release (m : Master) (groups : Fin 4096)
  /-- FAULT_INJECT (R398). -/
  | faultInject (m : Master) (line : Fin 128) (key : Fin 256)
  /-- SAFETY_INPUT_CHANGE (R400). -/
  | safetyInputChange (n : Fin 8) (a : Fin 3) (b : Fin 3) (together : Bool)
  /-- SI_DISCREPANCY (R401). -/
  | siDiscrepancy (n : Fin 8)
  /-- SI_TEST_PULSE (R402). -/
  | siTestPulse (n : Fin 8) (srcB : Bool) (aLow : Bool) (bLow : Bool)
  /-- SI_RESET (R401). -/
  | siReset (m : Master) (n : Fin 8)
  /-- SO_HIGH_SIDE_CLOSE (R405). -/
  | soHighSideClose (m : Fin 4)
  /-- SO_SWITCH_TEST (R406). -/
  | soSwitchTest (m : Fin 4) (low : Bool) (hsNode : Fin 3) (lsNode : Fin 3)
  /-- SO_TEST_END (R407). -/
  | soTestEnd (m : Fin 4) (hsNode : Fin 3) (lsNode : Fin 3)
  /-- SO_OVERCURRENT (R407). -/
  | soOvercurrent (m : Fin 4)
  /-- SO_DEGRADE_EXPIRY (R407). -/
  | soDegradeExpiry (m : Fin 4)
  /-- SO_RESET (R407). -/
  | soReset (m : Master) (k : Fin 4)
  /-- EPTAL_SEND (R411). -/
  | eptalSend (m : Master) (k : Fin 16) (epoch : Fin 256)
  /-- EPTAL_SEND_MISS (R411). -/
  | eptalSendMiss (k : Fin 16) (pathB : Bool)
  /-- EPTAL_COPY (R413). -/
  | eptalCopy (k : Fin 16) (pathB : Bool) (bytes : List Byte)
  /-- EPTAL_WINDOW_EXPIRY (R413). -/
  | eptalWindowExpiry (k : Fin 16)
  /-- EPTAL_SINGLE_EXPIRY (R414). -/
  | eptalSingleExpiry (k : Fin 16)
  /-- EPTAL_DELIVERY_TIMEOUT (R416). -/
  | eptalDeliveryTimeout (k : Fin 16)
  /-- EPTAL_RESET (R416). -/
  | eptalReset (m : Master) (k : Fin 16)
  /-- GATE_MISMATCH (R428). -/
  | gateMismatch (p : Fin 2) (addr : Word) (write : Bool) (fold : Option (Fin 100))
  /-- STATE_FOLD (R426). -/
  | stateFold (p : Fin 2) (diff : Option (Fin 100))
  /-- FOLD_REQUEST (R443). -/
  | foldRequest (m : Master) (p : Fin 2)
  /-- CACHE_ECC_ERROR (R427). -/
  | cacheEccError (p : Fin 2) (chk : Bool) (data : Bool) (double : Bool)
  /-- ASSAY_VERDICT (R430). -/
  | assayVerdict (p : Fin 2) (main : Option (Fin 4)) (chk : Option (Fin 4))
  /-- ASSAY_TIMEOUT (R429). -/
  | assayTimeout (p : Fin 2)
  /-- RESTART_FETCH (R431). -/
  | restartFetch (p : Fin 2)
  /-- SC_WARNING (R433). -/
  | scWarning (p : Fin 2)
  /-- SC_EXPIRY (R433). -/
  | scExpiry (p : Fin 2)
  /-- ASSAY_REQUEST (R434). -/
  | assayRequest (m : Master) (p : Fin 2)
  /-- SPLIT_REQUEST (R435). -/
  | splitRequest (m : Master) (p : Fin 2)
  /-- SPLIT_SYNC (R435). -/
  | splitSync (p : Fin 2) (diff : Option (Fin 100))
  /-- SPLIT_TIMEOUT (R435). -/
  | splitTimeout (p : Fin 2)
  /-- REJOIN_REQUEST (R437). -/
  | rejoinRequest (m : Master) (p : Fin 2)
  /-- REJOIN_SYNC (R437). -/
  | rejoinSync (p : Fin 2)
  /-- REJOIN_COPY_DONE (R437). -/
  | rejoinCopyDone (p : Fin 2) (diff : Option (Fin 100))
  /-- REJOIN_TIMEOUT (R437). -/
  | rejoinTimeout (p : Fin 2)
  /-- DEBUG_HALT (R439). -/
  | debugHalt (m : Master) (p : Fin 2) (diff : Option (Fin 100))
  /-- DEBUG_RESUME (R440). -/
  | debugResume (m : Master) (p : Fin 2) (diff : Option (Fin 100))
  /-- DEBUG_STEP (R440). -/
  | debugStep (m : Master) (p : Fin 2) (diff : Option (Fin 100))
  /-- DEBUG_STATE_WRITE (R440). -/
  | debugStateWrite (p : Fin 2) (reg : Word) (v : Word)
  /-- CAN_START_OF_FRAME (R451). -/
  | canStartOfFrame (n : Fin 4)
  /-- CAN_FRAME_RECEIVED (R452). -/
  | canFrameReceived (n : Fin 4) (f : CanFrame)
  /-- CAN_TX_DONE (R451). -/
  | canTxDone (n : Fin 4) (dly : Option (Fin 4096))
  /-- CAN_TX_ERROR (R451). -/
  | canTxError (n : Fin 4) (lost : Bool) (err : Fin 7) (dphase : Bool) (collision : Bool) (counted : Bool) (dly : Option (Fin 4096))
  /-- CAN_BUS_OFF (R454). -/
  | canBusOff (n : Fin 4)
  /-- CAN_RECOVER (R454). -/
  | canRecover (m : Master) (n : Fin 4)
  /-- CAN_RECOVERY_DONE (R454). -/
  | canRecoveryDone (n : Fin 4)
  /-- CAN_COMMIT (R450). -/
  | canCommit (m : Master) (n : Fin 4) (k : Fin 128) (epoch : Fin 256)
  /-- CAN_CANCEL (R455). -/
  | canCancel (m : Master) (n : Fin 4) (k : Fin 128) (won : Bool)
  /-- CAN_LOCK (R452). -/
  | canLock (m : Master) (n : Fin 4) (k : Fin 128)
  /-- CAN_RELEASE (R452). -/
  | canRelease (m : Master) (n : Fin 4) (k : Fin 128)
  /-- CAN_BUFFER_CONFIG (R448). -/
  | canBufferConfig (m : Master) (n : Fin 4) (k : Fin 128) (v : Word) (receiving : Bool)
  /-- CAN_DOMINANT_TIMEOUT (R458). -/
  | canDominantTimeout (n : Fin 4)
  /-- ETH_FRAME_RECEIVED (R460). -/
  | ethFrameReceived (n : Fin 2) (bytes : List Byte) (fcsOk : Bool) (ecc : Ecc)
  /-- ETH_TX_KICK (R461). -/
  | ethTxKick (m : Master) (n : Fin 2) (ecc : Ecc)
  /-- ETH_TX_DONE (R461). -/
  | ethTxDone (n : Fin 2) (ecc : Ecc)
  /-- ETH_LINK_CHANGE (R459). -/
  | ethLinkChange (n : Fin 2) (up : Bool) (sqi : Fin 8)
  /-- HSP_READ (R463). -/
  | hspRead (f : HspFrame) (pend : Bool) (tag : Fin 16) (addr : Word)
  /-- HSP_WRITE (R463). -/
  | hspWrite (f : HspFrame) (pend : Bool) (tag : Fin 16) (addr : Word) (v : Word)
  /-- HSP_NOP (R462). -/
  | hspNop (f : HspFrame) (pend : Bool) (tag : Fin 16)
  /-- HSP_TIMEOUT (R465). -/
  | hspTimeout (tag : Fin 16)
  /-- ROM_STAGE_DONE (R475). -/
  | romStageDone (cfgValid : Bool)
  /-- EARLY_SERVICE_READY (R476). -/
  | earlyServiceReady
  /-- HALLMARK_SLOT_VERIFIED (R483). -/
  | hallmarkSlotVerified (slot : Fin 2) (ecdsa : Bool) (lms : Bool)
  /-- FULL_SERVICE_START (R476). -/
  | fullServiceStart
  /-- EARLY_MAX_EXPIRY (R481). -/
  | earlyMaxExpiry
  /-- EARLY_OVERSPEED (R479). -/
  | earlyOverspeed (mac : Fin 2)
  /-- EARLY_DEMAND_TIMEOUT (R478). -/
  | earlyDemandTimeout (mac : Fin 2)
  /-- IMAGE_CONFIRM (R484). -/
  | imageConfirm (m : Master)
  /-- ROLLBACK_ADVANCE (R485). -/
  | rollbackAdvance (m : Master) (key : Fin 256)
  /-- SLOT_OPEN (R486). -/
  | slotOpen (m : Master) (slot : Fin 2)
  /-- SLOT_CLOSE (R486). -/
  | slotClose (m : Master)
  /-- SLOT_ACTIVATE (R487). -/
  | slotActivate (m : Master) (slot : Fin 2)
  /-- ACTIVATION_DONE (R487). -/
  | activationDone (ecdsa : Bool) (lms : Bool)
  /-- ATTESTATION_REQUEST (R489). -/
  | attestationRequest (m : Master)
  /-- ATTESTATION_DONE (R489). -/
  | attestationDone
  /-- NONCE_DRAW (R492). -/
  | nonceDraw (m : Master)
  /-- STATEMENT_SUBMIT (R493). -/
  | statementSubmit (m : Master)
  /-- AUTH_STATEMENT (R494). -/
  | authStatement
  /-- CHANGE_STATEMENT (R500). -/
  | changeStatement
  /-- LIFECYCLE_STATEMENT (R496). -/
  | lifecycleStatement
  /-- CLEAR_STATEMENT (R529). -/
  | clearStatement
  /-- REVOKE_STATEMENT (R495). -/
  | revokeStatement
  /-- LIFECYCLE_HOLD_EXPIRY (R496). -/
  | lifecycleHoldExpiry
  /-- AUTH_LOGOUT (R494). -/
  | authLogout (m : Master)
  /-- AUTH_SESSION_EXPIRY (R494). -/
  | authSessionExpiry
  /-- CHANGE_OPEN (R498). -/
  | changeOpen (m : Master) (pages : Fin 64)
  /-- CHANGE_SEAL (R499). -/
  | changeSeal (m : Master)
  /-- CHANGE_DIGEST_DONE (R499). -/
  | changeDigestDone
  /-- CHANGE_COMMIT (R501). -/
  | changeCommit (ok : Bool)
  /-- CHANGE_WINDOW_EXPIRY (R502). -/
  | changeWindowExpiry
  /-- CHANGE_ABORT (R502). -/
  | changeAbort (m : Master)
  /-- DEBUG_OPEN (R504). -/
  | debugOpen (m : Master)
  /-- DEBUG_CLOSE (R504). -/
  | debugClose (m : Master)
  /-- DEBUG_ACCESS (R504). -/
  | debugAccess (m : Master) (p : Fin 2) (op : Fin 4)
  /-- RECORD_CAPTURE (R513). -/
  | recordCapture
  /-- RING_ROOM_RECORD (R513). -/
  | ringRoomRecord
  /-- RATE_WINDOW_END (R515). -/
  | rateWindowEnd
  /-- START_FLUSH (R524). -/
  | startFlush
  /-- FLUSH_PERIODIC (R524). -/
  | flushPeriodic
  /-- FLUSH_BACKLOG (R524). -/
  | flushBacklog
  /-- FLUSH_REQUEST (R524). -/
  | flushRequest (m : Master)
  /-- FLUSH_DONE (R524). -/
  | flushDone (ok : Bool)
  /-- CLEAR_ERASE_DONE (R529). -/
  | clearEraseDone
  /-- NOR_PROGRAM_PAGE (R539). -/
  | norProgramPage (m : Master)
  /-- NOR_ERASE_SECTOR (R539). -/
  | norEraseSector (m : Master)
  /-- NOR_RESET_DIE (R544). -/
  | norResetDie (m : Master)
  /-- NOR_OP_DONE (R540). -/
  | norOpDone (page : Option (List Byte))
  /-- NOR_OP_TIMEOUT (R527). -/
  | norOpTimeout
  /-- DERATE_CHANNEL_WRITE (R533). -/
  | derateChannelWrite (m : Master) (k : Fin 8) (v : Word)
  /-- BIST_REQUEST (R537). -/
  | bistRequest (m : Master) (target : Fin 16) (alg : Fin 4)
  /-- BIST_DONE (R538). -/
  | bistDone (fails : List BistFail)
  /-- BIST_ABORT (R536). -/
  | bistAbort (m : Master)
  /-- BIST_REPAIR (R538). -/
  | bistRepair (m : Master)
  /-- PRECHARGE_END (R228). -/
  | prechargeEnd (g : Fin 12)
  /-- DEAD_TIME_END (R221). -/
  | deadTimeEnd (l : PowerLeg)
  /-- LV_SOFT_TURN_OFF_END (R258). -/
  | lvSoftTurnOffEnd (l : Fin 12)
  /-- CAN_RECEIVE_ERROR (R454). -/
  | canReceiveError (n : Fin 4) (res : Bool) (err : Fin 7) (dphase : Bool) (eight : Bool)
  /-- BACKUP_SUPPLY_CHANGE (R80). -/
  | backupSupplyChange (active : Bool)
  /-- HL21_TEST_START (R347). -/
  | hl21TestStart
  deriving DecidableEq, Repr

end Sys2Proof
end

