-- ==== Sys2Proof/Config.lean ====
section
/-!
DEFINITION. What one part fixes and the manual does not state, and the values it leaves open: constants with no body, so that
nothing can be proved of them that does not hold for every value. The assumption log names each.
-/
namespace Sys2Proof.Config

/-- The bytes of the boot ROM (R104): the manual gives no contents. -/
opaque romByte : Nat → Byte
/-- The module instance number of location codes, read from NOR at boot (R6). -/
opaque moduleInstance : BitVec 2
/-- What the byte at an address holds where the manual says its contents are undefined or gives them no layout; the first argument
numbers the occasions. -/
opaque undefByte : Nat → Nat → Byte
/-- The bytes of the maker root's key digest in OTP (R490). -/
opaque makerDigest : Nat → Byte
/-- The n-th free 32-bit value: a value the manual leaves open. `State.free` counts the values taken. -/
opaque freeWord : Nat → Word

end Sys2Proof.Config
end

