-- ==== Sys2Proof/Machine/State.lean ====
section
/-!
DEFINITION. The state of the block as plain data: the register file, the memories, and beside them the state that the manual
gives the hardware behind its registers, one structure per subsystem. A `Store` lists only what differs from the value an
unlisted key reads as, so that `State.reset` lists nothing.
-/
namespace Sys2Proof.Machine

/-- A sparse table of values by number: address, unit, slot or index. -/
abbrev Store (α : Type) := List (Nat × α)

/-- No command of the block ends in a fault: every rule gives a next state. -/
inductive Fault where
  /-- Raised by no command (safe: it is never answered). -/
  | none
  deriving DecidableEq, Repr

/-- Why a command has no meaning in the model. -/
inductive Refusal where
  /-- Answered by an arm of `exec` whose command has no meaning yet (safe: nothing can be proved of its effect). -/
  | notModelled (mnemonic : String)
  deriving DecidableEq, Repr

/-- The answer to the last bus access: the KIND of R122 (0 where it succeeded) and the data a read returned. -/
structure Resp where
  kind : Nat := 0
  data : Word := 0
  deriving DecidableEq, Repr

/-- One post in the J3 queue (R48): event code (R10), location code without MODULE (R6), data word, and the clock it was made at. -/
structure Post where
  code : Nat
  loc : Nat
  data : Nat
  at_ : Nat := 0
  deriving DecidableEq, Repr

/-- Cadence state behind the CAD page (chapter 1). -/
structure Cad where
  /-- The two tick counters have disagreed since reset (R15). -/
  tickMismatch : Bool := false
  /-- An admission check is running (R27). -/
  checking : Bool := false
  /-- An admitted configuration awaits its apply boundary (R28). -/
  awaitApply : Bool := false
  /-- The clock on which the last freeze ended: the fields are still frozen on it (R29). -/
  frozenAt : Option Nat := none
  /-- Results of the admitting check, applied with it: LOAD_WC, LAT_WC and CRIT per lane, OCC per context (R32). -/
  wc : Store Word := []
  occ : Store Nat := []
  /-- Losses not yet reported by event 0x1011 (R49). -/
  lostSince : Nat := 0
  deriving DecidableEq, Repr

/-- The state of a power group behind its page (chapter 6). -/
structure Group where
  /-- Raw carrier phase in units of 1/32 clock, from the period start. -/
  phase : Nat := 0
  /-- The period in force; the live PG_PRD becomes it at a period start (R213). -/
  prd : Nat := 640000
  /-- A DISARM waits for the period start (R229). -/
  disarmPend : Bool := false
  /-- ARMING: the precharge is running, or is over (R228). -/
  precharging : Bool := false
  charged : Bool := false
  /-- Instants, in 1/32 clock, at which the master's period starts place this group's (R217). -/
  syncs : List Nat := []
  /-- Clock from which the group's command has been Hold (R394). -/
  holdAt : Option Nat := none
  /-- Instant of the last edge of each slot, and the slots whose edge is being held (R220). -/
  tLast : Store Nat := []
  held : Nat := 0
  /-- Clocks of the last two commanded edges of any leg, newest first, for the monitors' blanking (R197). -/
  lastEdges : List Nat := []
  /-- Clock of the last carrier period start (R195, R228). -/
  start : Option Nat := none
  deriving DecidableEq, Repr

/-- What a link carries towards its die, in the order of its instants (R233). -/
inductive LinkItem where
  /-- An edge of a leg index: the new level and its instant in 1/32 clock. -/
  | edge (leg : Nat) (level : Bool) (t : Nat)
  /-- A SAFE frame: its instant and the 2-bit code of each leg index. -/
  | safe (t : Nat) (codes : Nat)
  /-- A CFG frame. -/
  | cfg
  deriving DecidableEq, Repr

/-- A Nolil link and the die at its end (R232, R238). -/
structure Link where
  queue : List LinkItem := []
  /-- Frames sent, modulo 4 (R233). -/
  seq : Nat := 0
  /-- The die is in its link-loss fallback. -/
  fallback : Bool := false
  /-- The fallback choice last delivered by a CFG frame: low-side active short. -/
  fbShort : Bool := false
  /-- The die holds a CFG frame since its last fallback. -/
  cfgd : Bool := false
  /-- A RESTART was written: the CFG frame after it releases the fallback. -/
  restarted : Bool := false
  /-- Leg indices whose level the last IDLE frame corrected, not yet reported (R236). -/
  corrected : Nat := 0
  deriving DecidableEq, Repr

/-- A leg at its driver die (R221, R233, R259): configuration, level, command code and what waits on its dead time. -/
structure Leg where
  configured : Bool := false
  use : Nat := 0
  dt : Nat := 3200
  /-- The level last commanded. -/
  level : Bool := false
  /-- Code in force: 0 off, 1 low side on, 2 high side on, 3 follow edges. -/
  code : Nat := 0
  /-- A channel waiting on dead time: 0 none, 1 low side, 2 high side. -/
  incoming : Nat := 0
  /-- The high side of an LV leg sinks softly after a bootstrap lock-out (R258). -/
  soft : Bool := false
  deriving DecidableEq, Repr

/-- A gate channel behind its status register. -/
structure ChanRec where
  /-- The supplies have been good for 100 µs (R248). -/
  supOk : Bool := false
  /-- Held off since a lock-out, until READY returns (R253). -/
  uvHold : Bool := false
  /-- Fault bits the controller has already taken from a status frame: 1 DSAT, 2 PUV, 4 NUV, 8 PWR, 16 BST. -/
  seen : Nat := 0
  deriving DecidableEq, Repr

/-- A ratio. -/
structure Q where
  n : Int := 0
  d : Nat := 1
  deriving DecidableEq, Repr

/-- What a position channel's angle and speed are computed from at any later clock (R271, R275, R276, R279, R285). -/
structure Meas where
  /-- Mechanical angle in turns at clock `t0`. -/
  ang : Q := {}
  t0 : Nat := 0
  /-- Measured mechanical speed in turns per second. -/
  spd : Q := {}
  /-- Clock of the last edge and the angle of one edge in turns: the bound on the speed between edges; none while no bound acts. -/
  decay : Option (Nat × Q) := none
  /-- The angle advances with the speed, by no more than this many turns where a bound is given. -/
  advance : Bool := false
  limit : Option Q := none
  /-- Machine pole pairs and the offset in effect. -/
  pp : Nat := 1
  ofs : Nat := 0
  deriving DecidableEq, Repr

/-- What an edge on the clock of a standstill undoes (R286): that clock, and the restart mark, the measurement, EVT_STAT.STILL and OP_TO before it. -/
structure StillUndo where
  clock : Nat
  restart : Nat
  meas : Meas
  evt : Bool
  opTo : Bool
  deriving DecidableEq, Repr

/-- A position channel behind its registers (chapter 8). -/
structure PosRec where
  meas : Meas := {}
  /-- Earlier measurements and the clock each began at, newest first, back to 64 µs ago (R289). -/
  hist : List (Nat × Meas) := []
  /-- The filtered lines S1, S2, S3 as bits 0 to 2 (A, B, Z or H1, H2, H3), and the Hall sector (6: none). -/
  lines : Nat := 0
  sector : Nat := 6
  /-- The sector before state 0 or 7. -/
  was : Nat := 6
  /-- Clock of the last legal edge or restart, and the standstill that an edge on its clock undoes (R286). -/
  lastAt : Nat := 0
  still : Option StillUndo := none
  /-- Clock of the last sensor fault (R289). -/
  faultAt : Nat := 0
  /-- Restart pending: 0 none, 1 restart or standstill, 2 illegal transition (R284). -/
  restart : Nat := 1
  /-- Direction of the latest edge, timestamps of the latest edges, newest first, and the span in use. -/
  back : Bool := false
  edges : List Nat := []
  m : Nat := 0
  /-- Illegal transitions in the present window (R274). -/
  ill : Nat := 0
  /-- Resolver: the samples of the present excitation period with their sample clocks; periods out of range in a row. -/
  smp : List (Nat × Int × Int) := []
  ampBad : Nat := 0
  excBad : Nat := 0
  /-- Previous angle in cycles with its clock, filtered speed in cycles per second, and the unwrapped angle in turns. -/
  prev : Option (Q × Nat) := none
  w : Q := {}
  unw : Option Q := none
  /-- Serial word: a transaction runs, the instant of its latch, and the end of the gap after it; bad words in a row. -/
  busy : Bool := false
  tk : Nat := 0
  gapEnd : Nat := 0
  badRun : Nat := 0
  deriving DecidableEq, Repr

/-- A traction supervision block behind its registers (chapter 9). -/
structure TracRec where
  /-- A declaration of the last window that has not been carried out: 1 and 2 drop a set, 3 BOTH, 4 SECOND, 5 OVERLOAD (R306, R312). -/
  decl : Nat := 0
  declCause : Nat := 0
  declPhase : Nat := 7
  /-- Clocks of degraded time (R313). -/
  degClk : Nat := 0
  /-- Sum of the identification samples (R318); a sample falls on the present clock, and the clock of the last KE_RESTART (R316). -/
  keSum : Q := {}
  keDue : Bool := false
  keAt : Option Nat := none
  /-- After a CLEAR in SAFE: the set that stays out until the group is armed again, and whether it is shorted (R314). -/
  kept : Option (Nat × Bool) := none
  deriving DecidableEq, Repr

/-- An emulator's outputs (R290, R291): output count, clock of its last step, and A, B, Z as bits 0 to 2. -/
structure EmuRec where
  count : Int := 0
  last : Option Nat := none
  pins : Nat := 0
  deriving DecidableEq, Repr

/-- Position channels and emulators. -/
structure Pos where
  ch : Store PosRec := []
  emu : Store EmuRec := []
  deriving DecidableEq, Repr

/-- Power groups, links and gate channels. -/
structure Pwm where
  grp : Store Group := []
  link : Store Link := []
  /-- Legs by number: HL0–HL23 are 0–23, LL0–LL11 are 32–43 (R211). -/
  leg : Store Leg := []
  /-- Channels: GH0–GH47 are 0–47, GL0–GL23 are 64–87. -/
  chan : Store ChanRec := []
  /-- LV die supply faults already reported: bit 2k VDD, bit 2k + 1 VBR of die k. -/
  dieSeen : Nat := 0
  deriving DecidableEq, Repr

/-- A safety output behind its registers: switches closed, and the test that is running (R405, R406). -/
structure SoRec where
  ls : Bool := false
  hs : Bool := false
  /-- Both switches have closed and none has been opened but by a test. -/
  on : Bool := false
  /-- 0 no test, 1 the high side, 2 the low side under test. -/
  testing : Nat := 0
  /-- Switches last found stuck closed, and last found not to close: 1 high, 2 low. -/
  stuck : Nat := 0
  open_ : Nat := 0
  /-- Seconds left of DEG_MAX while DEGRADED. -/
  degSecs : Nat := 0
  deriving DecidableEq, Repr

/-- An Eptal stream behind its registers (R411–R416). -/
structure EptRec where
  /-- The copy that awaits its partner: its path (true for B) and its bytes. -/
  held : Option (Bool × List Byte) := none
  /-- A message has been delivered since enable or RESET, and the last one carried demand. -/
  got : Bool := false
  lastDem : Bool := false
  /-- Copies of the last sent message that their networks have not sent. -/
  unsentA : Bool := false
  unsentB : Bool := false
  deriving DecidableEq, Repr

/-- The safety manager behind SAF and SIO (chapter 12). -/
structure Safe where
  so : Store SoRec := []
  /-- Inputs whose channels have been in demand together for FILT since the last RESET (R400). -/
  siDem : Nat := 0
  ept : Store EptRec := []
  /-- Groups of the source of a PENDING line, latched as it is raised (R390, R391). -/
  own : Store Nat := []
  /-- A line has been raised since the recorder last looked (R524). -/
  raised : Bool := false
  /-- Groups whose Hold has lasted HOLD_MAX (R394). -/
  speedAdded : Nat := 0
  deriving DecidableEq, Repr

/-- One run of a context's program (R23, R154, R162). -/
structure Run where
  ctx : Nat
  crit : Bool
  /-- The program it runs: START and LEN as live at its start (R30). -/
  base : Nat
  len : Nat
  /-- First clock of its dispatch. -/
  start : Nat
  /-- The context's state when it started (R138). -/
  state : Nat
  /-- Index within the program of the next instruction, and the predicate flag. -/
  idx : Nat := 0
  pf : Bool := false
  /-- The run has set INVALID (R143). -/
  invalid : Bool := false
  /-- The present instruction has been reissued once (R130). -/
  reissued : Bool := false
  /-- Snapshot of the input ports by operand, and of the engine constants by number (R149, R148). -/
  snap : Store Word := []
  consts : Store Word := []
  /-- X words the run has written (R140), and the output-port values it has written (R147). -/
  xs : Store Word := []
  outs : Store Word := []
  /-- Output-port writes not yet completed, one list per writing instruction, oldest first (R150). -/
  drain : List (List (Nat × Word)) := []
  /-- Clock of the last duty that reached its port, 0 if none. -/
  lastDuty : Nat := 0
  deriving DecidableEq, Repr

/-- A lane (R127, R162). -/
structure Lane where
  run : Option Run := none
  /-- The tick run that a critical run has suspended (R22). -/
  susp : Option Run := none
  /-- Runs that have issued their last instruction and drain beside the run after them (R162), oldest first. -/
  tail : List Run := []
  /-- Tick contexts due in this tick and not yet dispatched, ascending. -/
  due : List Nat := []
  /-- The ticks of the reissues of the last 1024 ticks (R130). -/
  reissues : List Nat := []
  /-- Busy clocks of this tick (LOAD_MAX of R167). -/
  busy : Nat := 0
  deriving DecidableEq, Repr

/-- A limit word on its way to a context (R50). -/
structure J4Post where
  lim : Nat
  word : Word
  epoch : Nat
  deriving DecidableEq, Repr

/-- A loop context behind its frame (R139). -/
structure Ctx where
  /-- The 64 context words K, X and S, by operand. -/
  words : Store Word := []
  /-- Output ports as they stand, by operand, and the exchange words XO0–XO3. -/
  port : Store Word := []
  xo : Store Word := []
  /-- The following-error port (R161). -/
  fe : Word := 0
  /-- PIC instructions marked for bumpless initialisation, by program index (R137). -/
  picMarks : List Nat := []
  /-- TRIP was written, a run set INVALID under NUM_TRIP, DROP_MAX was reached: FAULT at the next boundary. -/
  tripPend : Bool := false
  numPend : Bool := false
  dropPend : Bool := false
  /-- Barred until the first trigger after the next boundary, and aborted in this tick (R39). -/
  barred : Bool := false
  aborted : Bool := false
  /-- Start of the previous run; the next run is the first after entry to OPEN (R154). -/
  prevStart : Nat := 0
  first : Bool := true
  /-- Shortest trigger interval of the last admission that applied (R154). -/
  minT : Nat := 0
  /-- J4 limit words in force by number, and those posted since the last boundary (R50). -/
  j4 : Store Word := []
  j4Posts : List J4Post := []
  /-- LPX_XSEL0 and LPX_XSEL1 in effect (R152). -/
  xsel : Store Word := []
  /-- A run has completed since the last tick boundary (R316). -/
  ran : Bool := false
  deriving DecidableEq, Repr

/-- The Volmir loop engine (chapter 4). -/
structure Eng where
  lane : Store Lane := []
  ctx : Store Ctx := []
  /-- Engine constants in effect (R148). -/
  const : Store Word := []
  /-- The boot ROM has written the sine table (R132). -/
  sine : Bool := false
  /-- Words of program, table and context memory that hold an error, by `eccKey`: 1 of one bit, 2 of two (R132). -/
  bad : Store Nat := []
  deriving DecidableEq, Repr

/-- A window that has closed and awaits delivery (R179). -/
structure Closed where
  /-- The channels it delivers, with q, N, OVR and NREF of each. -/
  chans : List (Nat × Int × Nat × Bool × Bool)
  seq : Nat
  long : Bool
  deriving DecidableEq, Repr

/-- A window source: a power group's carrier, or the tick (15) (R176). -/
structure WinSrc where
  /-- Accumulation has begun. -/
  started : Bool := false
  seq : Nat := 0
  /-- Conversions in the open window (R180). -/
  n : Nat := 0
  /-- The window closes at the end of the conversion in progress (R177). -/
  closePend : Bool := false
  /-- The window was delivered ahead of its boundary (R179). -/
  pre : Bool := false
  /-- The conversion in progress was sampled before accumulation began (R177). -/
  skip : Bool := false
  /-- Clocks of the boundaries that stand as scheduled before a resynchronisation (R177). -/
  sched : List Nat := []
  closed : List Closed := []
  deriving DecidableEq, Repr

/-- A fast converter channel's open window and its input port (R180, R181). -/
structure FastCh where
  sum : Int := 0
  n : Nat := 0
  ovr : Bool := false
  nref : Bool := false
  port : Word := 0
  deriving DecidableEq, Repr

/-- A window monitor behind its registers (R196, R200). -/
structure Mon where
  /-- Self-check running: 0 none, 1 swap, 2 tie-off; it started with a comparator UNRESOLVED. -/
  check : Nat := 0
  unres : Bool := false
  /-- The last check failed: UNRESOLVED until a check passes. -/
  failed : Bool := false
  /-- The high threshold latched from the exchange word, in units of 1/16 code (R196). -/
  th : Option Int := none
  deriving DecidableEq, Repr

/-- Converters, queue, housekeeping and monitors (chapter 5). -/
structure Sens where
  /-- The conversion of the present grid cycle has ended (R171). -/
  ended : Bool := false
  src : Store WinSrc := []
  ch : Store FastCh := []
  mon : Store Mon := []
  /-- The tagged queue, oldest first, as words 0 and 1 (R184), and the entries waiting for the fall-back (R186). -/
  faq : List (Word × Word) := []
  waits : List (Word × Word) := []
  /-- The clock of the latest entries, with how many of them the queue took and how many wait (R184). -/
  faqAt : Nat × Nat × Nat := (0, 0, 0)
  /-- A fall-back access received an error response: every later entry is lost (R187). -/
  faqDead : Bool := false
  /-- The selected reference has failed and not settled since (R174); the housekeeping round is overdue (R191). -/
  refBad : Bool := false
  hkLate : Bool := false
  /-- Slots of the housekeeping round that have ended (R188), and the round's number. -/
  hkSlot : Nat := 0
  hkRound : Nat := 0
  deriving DecidableEq, Repr

/-- The charger's supervision behind its page (chapter 10). -/
structure Chg where
  /-- Clocks of the last rising and falling edges of CP (R328). -/
  rise : Option Nat := none
  fall : Option Nat := none
  /-- The held high and low levels as the housekeeping converter codes them (R329). -/
  cpHigh : Nat := 0
  cpLow : Nat := 0
  /-- Widths of the last high and low level, and a captured level that has not yet lasted 10 µs (R329). -/
  widths : Nat × Nat := (0, 0)
  cap : Option (Bool × Nat) := none
  /-- What the last rounds classified, and how many rounds have agreed: CP state, diode fault, cable (R330, R332). -/
  cpCand : Nat := 7
  cpRun : Nat := 0
  dioRun : Nat := 0
  ppCand : Nat := 0
  ppRun : Nat := 0
  /-- A diode fault is present. -/
  diode : Bool := false
  /-- REQ at the entry to STOPPING (R334). -/
  stopReq : Nat := 0
  /-- What falls on the present clock (R336): the END_REASON of a trip, that of a timer, and a tick boundary; the clock of the last event
  0x1091 (R338). -/
  trip : Option Nat := none
  timer : Option Nat := none
  bnd : Bool := false
  tinhAt : Option Nat := none
  /-- Instants of the last rising zero crossings of L1 in clocks, newest first, and FREQ with its clock back to 0.5 s (R337). -/
  cross : List Q := []
  freqs : List (Nat × Q) := []
  /-- The last L1 window average with its clock. -/
  last : Option (Nat × Int) := none
  /-- Sums over the windows since the last crossing: their number, v1², v2², v3², i1², i2², i3², p, in units of 2^-298. -/
  n : Nat := 0
  sums : List Int := []
  /-- A crossing not yet evaluated: its instant and the sums before it. -/
  found : Option (Q × Nat × List Int) := none
  deriving DecidableEq, Repr

/-- The auxiliary converter's supervision behind its page (chapter 10). -/
structure Aux where
  /-- CHECK: 0 awaits a period start, 1 and 3 a leg's low side is on, 2 and 4 after that test (R347). -/
  phase : Nat := 0
  /-- Clock from which a period start begins SOFT. -/
  softAt : Nat := 0
  /-- T_HIC has elapsed (R346). -/
  hicDone : Bool := false
  /-- The present period, and the last completed one, is current-limited (R343, R349). -/
  limited : Bool := false
  lastLimited : Bool := false
  /-- SP0 as taken at the last boundary. -/
  vset : Word := 0
  /-- What falls on the present clock (R350): the REASON of a hiccup, and a tick boundary. -/
  hic : Option Nat := none
  bnd : Bool := false
  deriving DecidableEq, Repr

/-- Charger and auxiliary converter. -/
structure Conv where
  chg : Chg := {}
  aux : Aux := {}
  /-- Governed groups whose slots their block enables, and those where the enable has taken effect, as masks (R323). -/
  want : Nat := 0
  act : Nat := 0
  deriving DecidableEq, Repr

/-- Zero-crossing detection of one phase (R367, R368). -/
structure Zc where
  /-- Sign confirmed while all phases float: 0 unknown, 1 positive, 2 negative. -/
  sgn : Nat := 0
  /-- Sign of the last counted samples, how many in a row, and the clock of the first of them. -/
  cand : Nat := 0
  run : Nat := 0
  first : Nat := 0
  /-- Samples since the phase began to float, and whether this float's crossing is confirmed. -/
  n : Nat := 0
  done : Bool := false
  deriving DecidableEq, Repr

/-- A commutator behind its registers (chapter 11). -/
structure ActRec where
  /-- SP7 and SP1 as last swapped in (R363). -/
  sp7 : Word := 0
  sp1 : Word := 0
  /-- Commanded direction is reverse; the target of the present command; its start is held for speed (R373, R377). -/
  rev : Bool := false
  tgt : Option Int := none
  wait : Bool := false
  /-- The bootstrap precharge runs before this state: 0 none (R365). -/
  pre : Nat := 0
  /-- A failed attempt coasts; failed attempts; ALIGN or RUN has been reached (R371, R372). -/
  retry : Bool := false
  fails : Nat := 0
  reached : Bool := false
  /-- DUTY0 as last written, and the SAFE codes of phases a, b, c (R361, R364). -/
  amp : Word := 0
  codes : Nat := 0
  /-- θ in degrees at a clock, its rate in degrees per clock, and how far it may advance (R366, R368). -/
  th : Q := {}
  t0 : Nat := 0
  rate : Q := {}
  lim : Q := {}
  /-- Clock at which the present state was entered, and the amplitude a caught motor starts from (R371). -/
  since : Nat := 0
  aFrom : Option Q := none
  /-- Hall sector (6: none), clocks of the latest steps, newest first, and of the last illegal transitions; speed held after one. -/
  sec : Nat := 6
  steps : List Nat := []
  ill : List Nat := []
  held : Bool := false
  /-- The filtered Hall state H3, H2, H1, and the sector before state 0 or 7 (R366). -/
  hall : Nat := 0
  was : Nat := 6
  /-- Sensing: the phases, crossings in one direction, the last crossing by phase and slope, and the interval before it. -/
  zc : Store Zc := []
  cross : Nat := 0
  last : Option (Nat × Bool) := none
  gap : Nat := 0
  locks : Nat := 0
  /-- A first crossing in OBSERVE, whose direction the next will tell (R369). -/
  pre1 : Option Nat := none
  /-- What the swap of the present clock brings, to act at its end (R375): 0 nothing, 1 the command, 2 the start of a held RUN. -/
  due : Nat := 0
  /-- The amplitude in force when J2 commanded Hold (R365). -/
  hold : Option Q := none
  /-- Peak |e| of the latest steps in units of a third of a code, newest first (R374). -/
  pk : List Nat := []
  deriving DecidableEq, Repr

/-- The Derailleur sequencer behind its registers (chapter 11). -/
structure Drl where
  /-- The actuator's source context, and the EPOCH of every context to be written, as recorded at GO (R378). -/
  src : Nat := 0
  epochs : List (Nat × Nat) := []
  /-- COUNT of the actuator at GO. -/
  count : Int := 0
  /-- Clocks of GO and of the entry to the present step. -/
  goAt : Nat := 0
  stepAt : Nat := 0
  /-- Every slip has been within tolerance since this clock. -/
  inTol : Option Nat := none
  /-- ABORT was written; the step timer has expired; the present clock is a tick boundary. -/
  abort : Bool := false
  expired : Bool := false
  tick : Bool := false
  /-- RESTORE: 0 none, 1 the actuator moves back, 2 the limits rise. -/
  restore : Nat := 0
  /-- PAR of the SYNC step whose control runs. -/
  ratio : Word := 0
  /-- Words of the torque contexts as last written: context index × 8 + word. -/
  sp : Store Word := []
  /-- Contexts with words to commit: written by DRL, or SP3–SP7 by TA since DRL's last commit (R379). -/
  dirty : List Nat := []
  deriving DecidableEq, Repr

/-- A Tandem pair behind its registers (chapter 13). -/
structure TndRec where
  /-- STATE after a restart: 0, 6 or 7 (R431); the Assay was requested (R434). -/
  target : Nat := 0
  requested : Bool := false
  /-- Operating seconds of the TRANSIENT verdicts that count towards REPEAT (R430). -/
  trans : List Nat := []
  /-- A fold is due at the next instruction boundary (R426, R438). -/
  foldDue : Bool := false
  /-- The main core has written REJOIN to SYNC and its state is being copied (R437). -/
  copying : Bool := false
  /-- Core state written by the debugger in this halt, oldest first: register number and value (R440). -/
  replay : List (Nat × Word) := []
  deriving DecidableEq, Repr

/-- A CAN controller behind its page (chapter 14). -/
structure CanRec where
  /-- The buffer whose frame is on the bus, and whether its cancel came after arbitration was won (R455). -/
  bus : Option Nat := none
  late : Bool := false
  /-- Buffers whose COMMIT waits for the end of that frame (R450), and those with a frame waiting in the shadow (R452). -/
  commits : List Nat := []
  waits : List Nat := []
  /-- The transceiver holds its transmitter off (R458). -/
  dark : Bool := false
  deriving DecidableEq, Repr

/-- An Ethernet port behind its page (chapter 14). -/
structure EthRec where
  /-- Eptal copies that wait for the line: stream and path (R460). -/
  queue : List (Nat × Bool) := []
  /-- The frame of the transmit descriptor TX_NEXT is on the line; a ring has stopped (R461). -/
  sending : Bool := false
  txStop : Bool := false
  rxStop : Bool := false
  deriving DecidableEq, Repr

/-- A response of the host port (R462): RESULT, TAG and the word in bytes 1 to 4. -/
structure HspAns where
  result : Nat
  tag : Nat
  data : Word
  deriving DecidableEq, Repr

/-- The host port behind its page (chapter 14). -/
structure HspRec where
  /-- Responses not yet sent, in the order they are due. -/
  due : List HspAns := []
  /-- The last frame sent on MISO. -/
  miso : List Byte := []
  deriving DecidableEq, Repr

/-- Networks and host port. -/
structure Net where
  can : Store CanRec := []
  eth : Store EthRec := []
  hsp : HspRec := {}
  /-- The acknowledge frame being sent on the setpoint link (R466). -/
  ack : List Byte := []
  deriving DecidableEq, Repr

/-- A span of memory with undefined contents: first address, length, and the number of the occasion. -/
structure Undef where
  start : Nat
  len : Nat
  gen : Nat
  deriving DecidableEq, Repr

/-- An entry of the recorder's rate table (R515): code, records in this window, posts suppressed, location of the last of them. -/
structure RateEnt where
  code : Nat
  n : Nat
  sup : Nat := 0
  loc : Nat := 0
  deriving DecidableEq, Repr

/-- The header of the last valid snapshot in NOR (R520), without HEAD and TAIL, which the log itself shows. -/
structure Snap where
  num : Nat := 0
  /-- Records of step 2 of the power-fail flush that wrote it. -/
  pf : Nat := 0
  opsec : Nat := 0
  pcc : Nat := 0
  seq : Nat := 0
  deriving DecidableEq, Repr

/-- The recorder, NOR page and memory self-test behind their pages (chapter 16). -/
structure Rec where
  rate : List RateEnt := []
  /-- Posts lost to a full ring and not yet reported (R513). -/
  lost : Nat := 0
  /-- The open record, if the last record in the ring is one (R516). -/
  open_ : Option Post := none
  /-- Records that the flush in progress includes, whether it writes a snapshot, and step 4 of a power-fail flush (R524, R525). -/
  upto : Nat := 0
  snapDue : Bool := false
  step4 : Bool := false
  /-- Clock of this start's last snapshot (R520). -/
  snapAt : Option Nat := none
  snap : Snap := {}
  /-- Outcome of the last power-fail flush for R526: 0 none, 1 its snapshot is not complete, 2 complete; records of step 4. -/
  pf : Nat := 0
  pf4 : Nat := 0
  /-- CAUSE of a flush that a power loss cut; WR, FL, BACKLOG and SEQ as the control block keeps them through a reset (R517, R518). -/
  cut : Nat := 0
  ring : Nat × Nat × Nat × Nat := (0, 0, 0, 0)
  /-- A clear that waits for the flush in progress, and one whose record is not yet in NOR: credential or SEQ, and scope (R529, R530). -/
  clearWait : Option (Nat × Nat) := none
  clearSeq : Option (Nat × Nat) := none
  /-- The NOR page operation in progress: OP and address; slots written in this power cycle (R487). -/
  nor : Option (Nat × Nat) := none
  written : Nat := 0
  /-- Die maximum at or above TJ_WARN, TJ_LIMIT (R532). -/
  warn : Bool := false
  limit : Bool := false
  /-- Spare rows used by memory: SRAM banks 0–15, LPE memories 16–18 (R538); the next start-up BIST segment (R535). -/
  spare : Store Nat := []
  seg : Nat := 0
  deriving DecidableEq, Repr

/-- Supplies and connectors behind the PWR page (chapter 2): causes that last. -/
structure Pwr where
  /-- An unplanned withdrawal (R93). -/
  x1Lost : Bool := false
  x2Lost : Bool := false
  /-- The backup supply is inactive with the DC link at 200 V or more (R81); the gate power has been at 66 W or more for 100 ms (R84). -/
  backupFail : Bool := false
  overload : Bool := false
  /-- Step 4 of a planned detach has taken the networks down (R95). -/
  netDown : Bool := false
  deriving DecidableEq, Repr

/-- Bring-up, Hallmark, roles and changes behind SEC and ROL (chapter 15). -/
structure Sec where
  /-- The module has left reset (R73); the ROM stage has done its steps (R475). -/
  released : Bool := false
  romDone : Bool := false
  /-- The committed configuration in NOR: RW2 words by address, where they differ from reset (R475, R501). -/
  cfg : Store Word := []
  /-- The TRIAL image has run since its activation (R484); the slot under activation (R487). -/
  trialRun : Bool := false
  act : Option Nat := none
  /-- The calibration region as it was at boot, and the nonce of the report being produced (R489). -/
  cal : List Host.Cell := []
  calUndef : List Undef := []
  att : List Byte := []
  /-- ROL_NONCE holds a nonce not yet consumed (R492); the credential of the first RETURNED statement (R496). -/
  nonce : Bool := false
  held : Option Nat := none
  /-- A change: its digest is being computed, its second credential, and its commit awaits the tick boundary (R499–R501). -/
  sealing : Bool := false
  cred2 : Nat := 0
  apply : Bool := false
  /-- What a reset leaves to post at the next start: the session it discarded, the life-cycle state it left (R502, R496). -/
  lost : Option Nat := none
  lcOld : Option Nat := none
  deriving DecidableEq, Repr

/-- The state of the block. -/
structure State where
  /-- The commands that wait, first in, first out (the model's own). -/
  pending : List Instr := []
  /-- System clocks since reset (the model's own). -/
  now : Nat := 0
  /-- How many free values have been taken (the model's own; DESIGN CHOICE 0, log entry 2). -/
  free : Nat := 0
  /-- Spans of SRAM and NOR whose contents the manual leaves undefined, and how many there have been (the model's own). -/
  undef : List Undef := [⟨0x203C0000, 0x40000, 0⟩, ⟨0x61400000, 0x600000, 1⟩]
  undefGen : Nat := 2
  /-- The answer to the last bus access. -/
  resp : Resp := {}
  /-- The register file by bus address; an unlisted register reads its reset value. For a staged field (R28) it holds the
  staged value, for an RW2 field (R116) the live value. -/
  regs : Store Word := []
  /-- Pages whose software reset runs, by the address of PAGE_CTL, and the clock at which it ends (R111). -/
  srstEnds : Store Nat := []
  /-- Live copies of the registers whose fields are staged for admission (R28). -/
  live : Store Word := []
  /-- Staged copies of RW2 registers written in a change session (R116). -/
  staged : Store Word := []
  /-- SRAM and NOR by byte address, and the SRAM words that hold an error by address: 1 of one bit, 2 of two (R102). -/
  mem : List Host.Cell := []
  bad : Store Nat := []
  /-- Engine program memory, by instruction index, and table memory, by word (R132). -/
  prog : Store ProgWord := []
  tab : Store Word := []
  /-- CAN message RAM by word address: active and shadow copies (R449). -/
  canAct : Store Word := []
  canShadow : Store Word := []
  /-- The J3 queue, oldest first (R48). -/
  j3 : List Post := []
  cad : Cad := {}
  eng : Eng := {}
  sens : Sens := {}
  pwm : Pwm := {}
  safe : Safe := {}
  pos : Pos := {}
  trac : Store TracRec := []
  conv : Conv := {}
  act : Store ActRec := []
  drl : Drl := {}
  tnd : Store TndRec := []
  net : Net := {}
  rcd : Rec := {}
  pwr : Pwr := {}
  sec : Sec := {}
  deriving DecidableEq, Repr

/-- The machine right after a power-on reset: every register at its reset value, no memory listed, nothing waiting. -/
def State.reset : State := {}

end Sys2Proof.Machine
end

