-- ==== Sys2Proof/Machine/Fields.lean ====
section
/-!
DEFINITION. The address and the fields of every register of the manual's register tables, by the manual's names:
`R.PAGE_REG i k` is the bus address of a register (i the page instance where the page type has several, k the unit
within the page) and `R.PAGE_REG_FIELD i k` one of its fields. The rule that lists each register is given beside it.
-/
namespace Sys2Proof.Machine

/-- A field of a register: the register's bus address, the lowest bit and the width. -/
structure Fld where
  addr : Nat
  lo : Nat
  w : Nat
  deriving DecidableEq, Repr

namespace R

/-- CAD_PERIOD_ACT (R57). -/
def CAD_PERIOD_ACT : Nat := 0x40002040
def CAD_PERIOD_ACT_PERIOD : Fld := ⟨CAD_PERIOD_ACT, 0, 13⟩
/-- CAD_PERIOD_NEW (R57). -/
def CAD_PERIOD_NEW : Nat := 0x40002044
def CAD_PERIOD_NEW_PERIOD : Fld := ⟨CAD_PERIOD_NEW, 0, 13⟩
/-- CAD_TICK (R57). -/
def CAD_TICK : Nat := 0x40002048
def CAD_TICK_COUNT : Fld := ⟨CAD_TICK, 0, 32⟩
/-- CAD_POS (R57). -/
def CAD_POS : Nat := 0x4000204C
def CAD_POS_CLK_IN_TICK : Fld := ⟨CAD_POS, 0, 13⟩
def CAD_POS_T_CFG : Fld := ⟨CAD_POS, 16, 12⟩
/-- CAD_ADM_CTL (R57). -/
def CAD_ADM_CTL : Nat := 0x40002050
def CAD_ADM_CTL_REQ : Fld := ⟨CAD_ADM_CTL, 0, 1⟩
/-- CAD_ADM_STAT (R57). -/
def CAD_ADM_STAT : Nat := 0x40002054
def CAD_ADM_STAT_BUSY : Fld := ⟨CAD_ADM_STAT, 0, 1⟩
def CAD_ADM_STAT_RESULT : Fld := ⟨CAD_ADM_STAT, 1, 2⟩
def CAD_ADM_STAT_APPLIED : Fld := ⟨CAD_ADM_STAT, 3, 1⟩
def CAD_ADM_STAT_REASON : Fld := ⟨CAD_ADM_STAT, 4, 4⟩
def CAD_ADM_STAT_LANE : Fld := ⟨CAD_ADM_STAT, 8, 2⟩
def CAD_ADM_STAT_CONTEXT : Fld := ⟨CAD_ADM_STAT, 12, 8⟩
def CAD_ADM_STAT_RESIDUE : Fld := ⟨CAD_ADM_STAT, 20, 12⟩
/-- CAD_ADM_HYPER (R57). -/
def CAD_ADM_HYPER : Nat := 0x40002058
def CAD_ADM_HYPER_H : Fld := ⟨CAD_ADM_HYPER, 0, 13⟩
/-- CAD_LANE_WCk (R57). -/
def CAD_LANE_WC (k : Nat) : Nat := 0x40002060 + 0x4 * k
def CAD_LANE_WC_LOAD_WC (k : Nat) : Fld := ⟨CAD_LANE_WC k, 0, 13⟩
def CAD_LANE_WC_LAT_WC (k : Nat) : Fld := ⟨CAD_LANE_WC k, 16, 9⟩
def CAD_LANE_WC_CRIT (k : Nat) : Fld := ⟨CAD_LANE_WC k, 25, 1⟩
/-- CAD_LATE_TOTAL (R57). -/
def CAD_LATE_TOTAL : Nat := 0x40002070
def CAD_LATE_TOTAL_COUNT : Fld := ⟨CAD_LATE_TOTAL, 0, 16⟩
/-- CAD_J3_LOST (R57). -/
def CAD_J3_LOST : Nat := 0x40002074
def CAD_J3_LOST_COUNT : Fld := ⟨CAD_J3_LOST, 0, 16⟩
/-- PWR_VLV (R99). -/
def PWR_VLV : Nat := 0x40001040
def PWR_VLV_MV : Fld := ⟨PWR_VLV, 0, 16⟩
/-- PWR_VDC (R99). -/
def PWR_VDC : Nat := 0x40001044
def PWR_VDC_VOLT : Fld := ⟨PWR_VDC, 0, 11⟩
def PWR_VDC_BACKUP_ACT : Fld := ⟨PWR_VDC, 11, 1⟩
/-- PWR_HOLDUP (R99). -/
def PWR_HOLDUP : Nat := 0x40001048
def PWR_HOLDUP_VOLT : Fld := ⟨PWR_HOLDUP, 0, 8⟩
def PWR_HOLDUP_CAP : Fld := ⟨PWR_HOLDUP, 12, 12⟩
def PWR_HOLDUP_CHARGED : Fld := ⟨PWR_HOLDUP, 24, 1⟩
def PWR_HOLDUP_TESTED : Fld := ⟨PWR_HOLDUP, 25, 1⟩
/-- PWR_GATE (R99). -/
def PWR_GATE : Nat := 0x4000104C
def PWR_GATE_AVG : Fld := ⟨PWR_GATE, 0, 10⟩
def PWR_GATE_PEAK : Fld := ⟨PWR_GATE, 16, 10⟩
/-- PWR_STAT (R99). -/
def PWR_STAT : Nat := 0x40001050
def PWR_STAT_VLV_OK : Fld := ⟨PWR_STAT, 0, 1⟩
def PWR_STAT_PF_WARN : Fld := ⟨PWR_STAT, 1, 1⟩
def PWR_STAT_ON_HOLDUP : Fld := ⟨PWR_STAT, 2, 1⟩
def PWR_STAT_HOLDUP_OK : Fld := ⟨PWR_STAT, 3, 1⟩
def PWR_STAT_BACKUP_OK : Fld := ⟨PWR_STAT, 4, 1⟩
def PWR_STAT_X1_PRESENT : Fld := ⟨PWR_STAT, 5, 1⟩
def PWR_STAT_X2_PRESENT : Fld := ⟨PWR_STAT, 6, 1⟩
def PWR_STAT_GATE_PWR_HIGH : Fld := ⟨PWR_STAT, 7, 1⟩
/-- PWR_SENS_CTL (R99). -/
def PWR_SENS_CTL : Nat := 0x40001054
def PWR_SENS_CTL_VS5_0_EN : Fld := ⟨PWR_SENS_CTL, 0, 1⟩
def PWR_SENS_CTL_VS5_1_EN : Fld := ⟨PWR_SENS_CTL, 1, 1⟩
def PWR_SENS_CTL_VS12_EN : Fld := ⟨PWR_SENS_CTL, 2, 1⟩
def PWR_SENS_CTL_VS5_ACT_EN : Fld := ⟨PWR_SENS_CTL, 3, 1⟩
/-- PWR_SENS_STAT (R99). -/
def PWR_SENS_STAT : Nat := 0x40001058
def PWR_SENS_STAT_ON : Fld := ⟨PWR_SENS_STAT, 0, 4⟩
def PWR_SENS_STAT_OC : Fld := ⟨PWR_SENS_STAT, 8, 4⟩
/-- PWR_DETACH_CTL (R99). -/
def PWR_DETACH_CTL : Nat := 0x4000105C
def PWR_DETACH_CTL_REQ : Fld := ⟨PWR_DETACH_CTL, 0, 1⟩
def PWR_DETACH_CTL_CANCEL : Fld := ⟨PWR_DETACH_CTL, 1, 1⟩
def PWR_DETACH_CTL_SCOPE : Fld := ⟨PWR_DETACH_CTL, 2, 1⟩
def PWR_DETACH_CTL_HOLD_S : Fld := ⟨PWR_DETACH_CTL, 8, 8⟩
/-- PWR_DETACH_STAT (R99). -/
def PWR_DETACH_STAT : Nat := 0x40001060
def PWR_DETACH_STAT_STATE : Fld := ⟨PWR_DETACH_STAT, 0, 3⟩
def PWR_DETACH_STAT_FLUSH_OK : Fld := ⟨PWR_DETACH_STAT, 3, 1⟩
def PWR_DETACH_STAT_DENY : Fld := ⟨PWR_DETACH_STAT, 4, 2⟩
def PWR_DETACH_STAT_SCOPE_ACT : Fld := ⟨PWR_DETACH_STAT, 6, 1⟩
def PWR_DETACH_STAT_HOLD_LEFT : Fld := ⟨PWR_DETACH_STAT, 16, 8⟩
/-- SYS_DEV_ID (R126). -/
def SYS_DEV_ID : Nat := 0x40000040
def SYS_DEV_ID_PART : Fld := ⟨SYS_DEV_ID, 0, 16⟩
def SYS_DEV_ID_STEPPING : Fld := ⟨SYS_DEV_ID, 16, 8⟩
/-- SYS_RST_CAUSE (R126). -/
def SYS_RST_CAUSE : Nat := 0x40000044
def SYS_RST_CAUSE_POR : Fld := ⟨SYS_RST_CAUSE, 0, 1⟩
def SYS_RST_CAUSE_FLUSH_RESTART : Fld := ⟨SYS_RST_CAUSE, 1, 1⟩
def SYS_RST_CAUSE_SW_RESET : Fld := ⟨SYS_RST_CAUSE, 2, 1⟩
def SYS_RST_CAUSE_WAKE : Fld := ⟨SYS_RST_CAUSE, 3, 1⟩
/-- SYS_RST_CTL (R126). -/
def SYS_RST_CTL : Nat := 0x40000048
def SYS_RST_CTL_RESET : Fld := ⟨SYS_RST_CTL, 0, 1⟩
def SYS_RST_CTL_KEY : Fld := ⟨SYS_RST_CTL, 8, 8⟩
/-- SYS_ERR_ADDR (R126). -/
def SYS_ERR_ADDR : Nat := 0x4000004C
def SYS_ERR_ADDR_ADDR : Fld := ⟨SYS_ERR_ADDR, 0, 32⟩
/-- SYS_ERR_INFO (R126). -/
def SYS_ERR_INFO : Nat := 0x40000050
def SYS_ERR_INFO_KIND : Fld := ⟨SYS_ERR_INFO, 0, 4⟩
def SYS_ERR_INFO_MASTER : Fld := ⟨SYS_ERR_INFO, 4, 3⟩
def SYS_ERR_INFO_WRITE : Fld := ⟨SYS_ERR_INFO, 7, 1⟩
def SYS_ERR_INFO_VALID : Fld := ⟨SYS_ERR_INFO, 8, 1⟩
/-- SYS_ERR_CNT (R126). -/
def SYS_ERR_CNT : Nat := 0x40000054
def SYS_ERR_CNT_COUNT : Fld := ⟨SYS_ERR_CNT, 0, 16⟩
/-- SYS_ECC_CNT (R126). -/
def SYS_ECC_CNT : Nat := 0x40000058
def SYS_ECC_CNT_CE_COUNT : Fld := ⟨SYS_ECC_CNT, 0, 16⟩
/-- SYS_ECC_ADDR (R126). -/
def SYS_ECC_ADDR : Nat := 0x4000005C
def SYS_ECC_ADDR_ADDR : Fld := ⟨SYS_ECC_ADDR, 0, 32⟩
/-- LPE_LANEn_STAT (R167). -/
def LPE_LANE_STAT (k : Nat) : Nat := 0x40010040 + 0x10 * k
def LPE_LANE_STAT_MODE (k : Nat) : Fld := ⟨LPE_LANE_STAT k, 0, 2⟩
def LPE_LANE_STAT_SUSPENDED (k : Nat) : Fld := ⟨LPE_LANE_STAT k, 2, 1⟩
def LPE_LANE_STAT_CTX (k : Nat) : Fld := ⟨LPE_LANE_STAT k, 8, 8⟩
/-- LPE_LANEn_CMP (R167). -/
def LPE_LANE_CMP (k : Nat) : Nat := 0x40010044 + 0x10 * k
def LPE_LANE_CMP_REISSUE (k : Nat) : Fld := ⟨LPE_LANE_CMP k, 0, 8⟩
def LPE_LANE_CMP_FAULTED (k : Nat) : Fld := ⟨LPE_LANE_CMP k, 8, 1⟩
def LPE_LANE_CMP_CHECK_BUSY (k : Nat) : Fld := ⟨LPE_LANE_CMP k, 9, 1⟩
def LPE_LANE_CMP_CHECK_PASS (k : Nat) : Fld := ⟨LPE_LANE_CMP k, 10, 1⟩
/-- LPE_LANEn_MEAS (R167). -/
def LPE_LANE_MEAS (k : Nat) : Nat := 0x40010048 + 0x10 * k
def LPE_LANE_MEAS_LOAD_MAX (k : Nat) : Fld := ⟨LPE_LANE_MEAS k, 0, 13⟩
def LPE_LANE_MEAS_CRIT_MAX (k : Nat) : Fld := ⟨LPE_LANE_MEAS k, 16, 9⟩
/-- LPE_LANEn_CTL (R167). -/
def LPE_LANE_CTL (k : Nat) : Nat := 0x4001004C + 0x10 * k
def LPE_LANE_CTL_CHECK (k : Nat) : Fld := ⟨LPE_LANE_CTL k, 0, 1⟩
/-- LPE_CTL (R167). -/
def LPE_CTL : Nat := 0x40010080
def LPE_CTL_RETRY_MAX : Fld := ⟨LPE_CTL, 0, 4⟩
/-- LPE_VAL_CTL (R167). -/
def LPE_VAL_CTL : Nat := 0x40010084
def LPE_VAL_CTL_START : Fld := ⟨LPE_VAL_CTL, 0, 12⟩
def LPE_VAL_CTL_LEN : Fld := ⟨LPE_VAL_CTL, 13, 13⟩
def LPE_VAL_CTL_GO : Fld := ⟨LPE_VAL_CTL, 31, 1⟩
/-- LPE_VAL_STAT (R167). -/
def LPE_VAL_STAT : Nat := 0x40010088
def LPE_VAL_STAT_BUSY : Fld := ⟨LPE_VAL_STAT, 0, 1⟩
def LPE_VAL_STAT_RESULT : Fld := ⟨LPE_VAL_STAT, 1, 2⟩
def LPE_VAL_STAT_ERR : Fld := ⟨LPE_VAL_STAT, 3, 4⟩
def LPE_VAL_STAT_ERR_INDEX : Fld := ⟨LPE_VAL_STAT, 8, 12⟩
/-- LPE_VAL_OCC (R167). -/
def LPE_VAL_OCC : Nat := 0x4001008C
def LPE_VAL_OCC_OCC : Fld := ⟨LPE_VAL_OCC, 0, 16⟩
def LPE_VAL_OCC_PREFIX : Fld := ⟨LPE_VAL_OCC, 16, 16⟩
/-- LPE_VAL_CNT (R167). -/
def LPE_VAL_CNT : Nat := 0x40010090
def LPE_VAL_CNT_INSTR : Fld := ⟨LPE_VAL_CNT, 0, 13⟩
/-- LPE_ECC_CNT (R167). -/
def LPE_ECC_CNT : Nat := 0x40010094
def LPE_ECC_CNT_CE_COUNT : Fld := ⟨LPE_ECC_CNT, 0, 16⟩
/-- LPE_ECC_ADDR (R167). -/
def LPE_ECC_ADDR : Nat := 0x40010098
def LPE_ECC_ADDR_ADDR : Fld := ⟨LPE_ECC_ADDR, 0, 32⟩
/-- LPE_CONSTk (R167). -/
def LPE_CONST (k : Nat) : Nat := 0x40010100 + 0x4 * k
def LPE_CONST_VALUE (k : Nat) : Fld := ⟨LPE_CONST k, 0, 32⟩
/-- LPX_CFG (R169). -/
def LPX_CFG (i : Nat) : Nat := 0x40011040 + 0x100 * i
def LPX_CFG_LANE (i : Nat) : Fld := ⟨LPX_CFG i, 0, 2⟩
def LPX_CFG_TRIG (i : Nat) : Fld := ⟨LPX_CFG i, 2, 1⟩
def LPX_CFG_TGRP (i : Nat) : Fld := ⟨LPX_CFG i, 4, 4⟩
def LPX_CFG_OWNER (i : Nat) : Fld := ⟨LPX_CFG i, 8, 1⟩
def LPX_CFG_EPOCH (i : Nat) : Fld := ⟨LPX_CFG i, 24, 8⟩
/-- LPX_PROG (R169). -/
def LPX_PROG (i : Nat) : Nat := 0x40011044 + 0x100 * i
def LPX_PROG_START (i : Nat) : Fld := ⟨LPX_PROG i, 0, 12⟩
def LPX_PROG_LEN (i : Nat) : Fld := ⟨LPX_PROG i, 13, 13⟩
/-- LPX_RATE (R169). -/
def LPX_RATE (i : Nat) : Nat := 0x40011048 + 0x100 * i
def LPX_RATE_DIV (i : Nat) : Fld := ⟨LPX_RATE i, 0, 7⟩
def LPX_RATE_PHASE (i : Nat) : Fld := ⟨LPX_RATE i, 8, 6⟩
/-- LPX_STATE (R169). -/
def LPX_STATE (i : Nat) : Nat := 0x4001104C + 0x100 * i
def LPX_STATE_REQ (i : Nat) : Fld := ⟨LPX_STATE i, 0, 3⟩
def LPX_STATE_STATE (i : Nat) : Fld := ⟨LPX_STATE i, 4, 3⟩
def LPX_STATE_REQ_PEND (i : Nat) : Fld := ⟨LPX_STATE i, 8, 1⟩
def LPX_STATE_CFG_PEND (i : Nat) : Fld := ⟨LPX_STATE i, 9, 1⟩
def LPX_STATE_FAULT_CAUSE (i : Nat) : Fld := ⟨LPX_STATE i, 10, 3⟩
def LPX_STATE_CARRY (i : Nat) : Fld := ⟨LPX_STATE i, 13, 1⟩
/-- LPX_CTL (R169). -/
def LPX_CTL (i : Nat) : Nat := 0x40011050 + 0x100 * i
def LPX_CTL_DROP_MAX (i : Nat) : Fld := ⟨LPX_CTL i, 0, 4⟩
def LPX_CTL_NUM_TRIP (i : Nat) : Fld := ⟨LPX_CTL i, 4, 1⟩
/-- LPX_FE_LIMIT (R169). -/
def LPX_FE_LIMIT (i : Nat) : Nat := 0x40011054 + 0x100 * i
def LPX_FE_LIMIT_LIMIT (i : Nat) : Fld := ⟨LPX_FE_LIMIT i, 0, 32⟩
/-- LPX_FE_TICKS (R169). -/
def LPX_FE_TICKS (i : Nat) : Nat := 0x40011058 + 0x100 * i
def LPX_FE_TICKS_FE_TICKS (i : Nat) : Fld := ⟨LPX_FE_TICKS i, 0, 16⟩
def LPX_FE_TICKS_FE_CNT (i : Nat) : Fld := ⟨LPX_FE_TICKS i, 16, 16⟩
/-- LPX_STAT (R169). -/
def LPX_STAT (i : Nat) : Nat := 0x4001105C + 0x100 * i
def LPX_STAT_COEF_REJ (i : Nat) : Fld := ⟨LPX_STAT i, 0, 1⟩
def LPX_STAT_INVALID (i : Nat) : Fld := ⟨LPX_STAT i, 1, 1⟩
def LPX_STAT_OVF (i : Nat) : Fld := ⟨LPX_STAT i, 2, 1⟩
def LPX_STAT_DIVZ (i : Nat) : Fld := ⟨LPX_STAT i, 3, 1⟩
def LPX_STAT_DUTY_DISC (i : Nat) : Fld := ⟨LPX_STAT i, 4, 1⟩
def LPX_STAT_LATE (i : Nat) : Fld := ⟨LPX_STAT i, 5, 1⟩
def LPX_STAT_FE_OVER (i : Nat) : Fld := ⟨LPX_STAT i, 6, 1⟩
def LPX_STAT_FORCED_HELD (i : Nat) : Fld := ⟨LPX_STAT i, 7, 1⟩
/-- LPX_CNT (R169). -/
def LPX_CNT (i : Nat) : Nat := 0x40011060 + 0x100 * i
def LPX_CNT_LATE_CNT (i : Nat) : Fld := ⟨LPX_CNT i, 0, 8⟩
def LPX_CNT_DROP_RUN (i : Nat) : Fld := ⟨LPX_CNT i, 8, 4⟩
def LPX_CNT_MBX_WR_REJ (i : Nat) : Fld := ⟨LPX_CNT i, 16, 8⟩
/-- LPX_OCC (R169). -/
def LPX_OCC (i : Nat) : Nat := 0x40011064 + 0x100 * i
def LPX_OCC_OCC (i : Nat) : Fld := ⟨LPX_OCC i, 0, 16⟩
def LPX_OCC_PREFIX (i : Nat) : Fld := ⟨LPX_OCC i, 16, 16⟩
/-- LPX_XSEL0 (R169). -/
def LPX_XSEL0 (i : Nat) : Nat := 0x40011068 + 0x100 * i
def LPX_XSEL0_CTX_LO (i : Nat) : Fld := ⟨LPX_XSEL0 i, 0, 8⟩
def LPX_XSEL0_IDX_LO (i : Nat) : Fld := ⟨LPX_XSEL0 i, 8, 2⟩
def LPX_XSEL0_CTX_HI (i : Nat) : Fld := ⟨LPX_XSEL0 i, 16, 8⟩
def LPX_XSEL0_IDX_HI (i : Nat) : Fld := ⟨LPX_XSEL0 i, 24, 2⟩
/-- LPX_XSEL1 (R169). -/
def LPX_XSEL1 (i : Nat) : Nat := 0x4001106C + 0x100 * i
def LPX_XSEL1_CTX_LO (i : Nat) : Fld := ⟨LPX_XSEL1 i, 0, 8⟩
def LPX_XSEL1_IDX_LO (i : Nat) : Fld := ⟨LPX_XSEL1 i, 8, 2⟩
def LPX_XSEL1_CTX_HI (i : Nat) : Fld := ⟨LPX_XSEL1 i, 16, 8⟩
def LPX_XSEL1_IDX_HI (i : Nat) : Fld := ⟨LPX_XSEL1 i, 24, 2⟩
/-- LPX_CW_IDX (R169). -/
def LPX_CW_IDX (i : Nat) : Nat := 0x40011070 + 0x100 * i
def LPX_CW_IDX_INDEX (i : Nat) : Fld := ⟨LPX_CW_IDX i, 0, 6⟩
def LPX_CW_IDX_AUTOINC (i : Nat) : Fld := ⟨LPX_CW_IDX i, 8, 1⟩
/-- LPX_CW_DATA (R169). -/
def LPX_CW_DATA (i : Nat) : Nat := 0x40011074 + 0x100 * i
def LPX_CW_DATA_DATA (i : Nat) : Fld := ⟨LPX_CW_DATA i, 0, 32⟩
/-- LPX_MBX_CMT (R169). -/
def LPX_MBX_CMT (i : Nat) : Nat := 0x40011078 + 0x100 * i
def LPX_MBX_CMT_COMMIT (i : Nat) : Fld := ⟨LPX_MBX_CMT i, 0, 1⟩
def LPX_MBX_CMT_PEND (i : Nat) : Fld := ⟨LPX_MBX_CMT i, 1, 1⟩
def LPX_MBX_CMT_EPOCH (i : Nat) : Fld := ⟨LPX_MBX_CMT i, 8, 8⟩
/-- LPX_TSTEP (R169). -/
def LPX_TSTEP (i : Nat) : Nat := 0x4001107C + 0x100 * i
def LPX_TSTEP_CLOCKS (i : Nat) : Fld := ⟨LPX_TSTEP i, 0, 24⟩
/-- LPX_MBXk (R169). -/
def LPX_MBX (i k : Nat) : Nat := 0x40011080 + 0x100 * i + 0x4 * k
def LPX_MBX_WORD (i k : Nat) : Fld := ⟨LPX_MBX i k, 0, 32⟩
/-- LPX_ACTk (R169). -/
def LPX_ACT (i k : Nat) : Nat := 0x400110A0 + 0x100 * i + 0x4 * k
def LPX_ACT_WORD (i k : Nat) : Fld := ⟨LPX_ACT i k, 0, 32⟩
/-- LPX_OBSk (R169). -/
def LPX_OBS (i k : Nat) : Nat := 0x400110C0 + 0x100 * i + 0x4 * k
def LPX_OBS_VALUE (i k : Nat) : Fld := ⟨LPX_OBS i k, 0, 32⟩
/-- FAD_REF (R203). -/
def FAD_REF : Nat := 0x40060040
def FAD_REF_SEL : Fld := ⟨FAD_REF, 0, 2⟩
def FAD_REF_REF_RDY : Fld := ⟨FAD_REF, 2, 1⟩
/-- FAD_REF_MEAS (R203). -/
def FAD_REF_MEAS : Nat := 0x40060044
def FAD_REF_MEAS_VALUE : Fld := ⟨FAD_REF_MEAS, 0, 16⟩
/-- FAD_GRID (R203). -/
def FAD_GRID : Nat := 0x40060048
def FAD_GRID_PHASE : Fld := ⟨FAD_GRID, 0, 7⟩
/-- FAD_OVR (R203). -/
def FAD_OVR : Nat := 0x4006004C
def FAD_OVR_CH : Fld := ⟨FAD_OVR, 0, 32⟩
/-- FAD_CHn_CFG (R203). -/
def FAD_CH_CFG (k : Nat) : Nat := 0x40060100 + 0x20 * k
def FAD_CH_CFG_GRP (k : Nat) : Fld := ⟨FAD_CH_CFG k, 0, 4⟩
def FAD_CH_CFG_EN (k : Nat) : Fld := ⟨FAD_CH_CFG k, 4, 1⟩
def FAD_CH_CFG_FAQ_EN (k : Nat) : Fld := ⟨FAD_CH_CFG k, 5, 1⟩
def FAD_CH_CFG_OVR_EVT (k : Nat) : Fld := ⟨FAD_CH_CFG k, 6, 1⟩
/-- FAD_CHn_GAIN (R203). -/
def FAD_CH_GAIN (k : Nat) : Nat := 0x40060104 + 0x20 * k
def FAD_CH_GAIN_GAIN (k : Nat) : Fld := ⟨FAD_CH_GAIN k, 0, 32⟩
/-- FAD_CHn_OFS (R203). -/
def FAD_CH_OFS (k : Nat) : Nat := 0x40060108 + 0x20 * k
def FAD_CH_OFS_OFS (k : Nat) : Fld := ⟨FAD_CH_OFS k, 0, 32⟩
/-- FAD_CHn_LAST (R203). -/
def FAD_CH_LAST (k : Nat) : Nat := 0x4006010C + 0x20 * k
def FAD_CH_LAST_AVG (k : Nat) : Fld := ⟨FAD_CH_LAST k, 0, 20⟩
def FAD_CH_LAST_FRESH (k : Nat) : Fld := ⟨FAD_CH_LAST k, 20, 1⟩
def FAD_CH_LAST_OVR (k : Nat) : Fld := ⟨FAD_CH_LAST k, 21, 1⟩
def FAD_CH_LAST_NREF (k : Nat) : Fld := ⟨FAD_CH_LAST k, 22, 1⟩
def FAD_CH_LAST_LONG (k : Nat) : Fld := ⟨FAD_CH_LAST k, 23, 1⟩
def FAD_CH_LAST_SEQ (k : Nat) : Fld := ⟨FAD_CH_LAST k, 24, 8⟩
/-- FAD_CHn_RAW (R203). -/
def FAD_CH_RAW (k : Nat) : Nat := 0x40060110 + 0x20 * k
def FAD_CH_RAW_CODE (k : Nat) : Fld := ⟨FAD_CH_RAW k, 0, 16⟩
def FAD_CH_RAW_OVR (k : Nat) : Fld := ⟨FAD_CH_RAW k, 16, 1⟩
/-- FAD_CHn_N (R203). -/
def FAD_CH_N (k : Nat) : Nat := 0x40060114 + 0x20 * k
def FAD_CH_N_N (k : Nat) : Fld := ⟨FAD_CH_N k, 0, 13⟩
def FAD_CH_N_SEQ (k : Nat) : Fld := ⟨FAD_CH_N k, 24, 8⟩
/-- FAQ_CTL (R205). -/
def FAQ_CTL : Nat := 0x40061040
def FAQ_CTL_EN : Fld := ⟨FAQ_CTL, 0, 1⟩
def FAQ_CTL_DMA_EN : Fld := ⟨FAQ_CTL, 1, 1⟩
def FAQ_CTL_DISCARD : Fld := ⟨FAQ_CTL, 2, 1⟩
def FAQ_CTL_LEVEL : Fld := ⟨FAQ_CTL, 16, 10⟩
/-- FAQ_STAT (R205). -/
def FAQ_STAT : Nat := 0x40061044
def FAQ_STAT_COUNT : Fld := ⟨FAQ_STAT, 0, 10⟩
def FAQ_STAT_FULL : Fld := ⟨FAQ_STAT, 10, 1⟩
def FAQ_STAT_ON_DMA : Fld := ⟨FAQ_STAT, 11, 1⟩
def FAQ_STAT_WAITING : Fld := ⟨FAQ_STAT, 12, 7⟩
/-- FAQ_POP0 (R205). -/
def FAQ_POP0 : Nat := 0x40061048
def FAQ_POP0_AVG : Fld := ⟨FAQ_POP0, 0, 20⟩
def FAQ_POP0_OVR : Fld := ⟨FAQ_POP0, 20, 1⟩
def FAQ_POP0_NREF : Fld := ⟨FAQ_POP0, 21, 1⟩
def FAQ_POP0_LONG : Fld := ⟨FAQ_POP0, 22, 1⟩
def FAQ_POP0_CH : Fld := ⟨FAQ_POP0, 23, 5⟩
def FAQ_POP0_VALID : Fld := ⟨FAQ_POP0, 31, 1⟩
/-- FAQ_POP1 (R205). -/
def FAQ_POP1 : Nat := 0x4006104C
def FAQ_POP1_SEQ : Fld := ⟨FAQ_POP1, 0, 8⟩
def FAQ_POP1_N : Fld := ⟨FAQ_POP1, 8, 13⟩
def FAQ_POP1_GRP : Fld := ⟨FAQ_POP1, 24, 4⟩
/-- FAQ_HEAD1 (R205). -/
def FAQ_HEAD1 : Nat := 0x40061050
def FAQ_HEAD1_SEQ : Fld := ⟨FAQ_HEAD1, 0, 8⟩
def FAQ_HEAD1_N : Fld := ⟨FAQ_HEAD1, 8, 13⟩
def FAQ_HEAD1_GRP : Fld := ⟨FAQ_HEAD1, 24, 4⟩
/-- FAQ_UNDERRUN (R205). -/
def FAQ_UNDERRUN : Nat := 0x40061054
def FAQ_UNDERRUN_COUNT : Fld := ⟨FAQ_UNDERRUN, 0, 16⟩
/-- FAQ_LOST (R205). -/
def FAQ_LOST : Nat := 0x40061058
def FAQ_LOST_COUNT : Fld := ⟨FAQ_LOST, 0, 16⟩
/-- FAQ_DMA_BASE (R205). -/
def FAQ_DMA_BASE : Nat := 0x4006105C
def FAQ_DMA_BASE_ADDR : Fld := ⟨FAQ_DMA_BASE, 0, 32⟩
/-- FAQ_DMA_SIZE (R205). -/
def FAQ_DMA_SIZE : Nat := 0x40061060
def FAQ_DMA_SIZE_LOG2 : Fld := ⟨FAQ_DMA_SIZE, 0, 4⟩
/-- FAQ_DMA_WR (R205). -/
def FAQ_DMA_WR : Nat := 0x40061064
def FAQ_DMA_WR_INDEX : Fld := ⟨FAQ_DMA_WR, 0, 15⟩
/-- HKA_ROUND (R207). -/
def HKA_ROUND : Nat := 0x40062040
def HKA_ROUND_PERIOD : Fld := ⟨HKA_ROUND, 0, 14⟩
/-- HKA_STAT (R207). -/
def HKA_STAT : Nat := 0x40062044
def HKA_STAT_ROUNDS : Fld := ⟨HKA_STAT, 0, 16⟩
def HKA_STAT_BUSY : Fld := ⟨HKA_STAT, 16, 1⟩
/-- HKA_TSEL (R207). -/
def HKA_TSEL : Nat := 0x40062048
def HKA_TSEL_NTC : Fld := ⟨HKA_TSEL, 0, 6⟩
/-- HKA_OPEN (R207). -/
def HKA_OPEN : Nat := 0x4006204C
def HKA_OPEN_OPEN : Fld := ⟨HKA_OPEN, 0, 6⟩
def HKA_OPEN_SHORT : Fld := ⟨HKA_OPEN, 8, 6⟩
/-- HKA_NTCk (R207). -/
def HKA_NTC (k : Nat) : Nat := 0x40062050 + 0x4 * k
def HKA_NTC_NOM_RES (k : Nat) : Fld := ⟨HKA_NTC k, 0, 16⟩
def HKA_NTC_BETA (k : Nat) : Fld := ⟨HKA_NTC k, 16, 16⟩
/-- HKA_TEMPk (R207). -/
def HKA_TEMP (k : Nat) : Nat := 0x40062068 + 0x4 * k
def HKA_TEMP_TEMP (k : Nat) : Fld := ⟨HKA_TEMP k, 0, 16⟩
def HKA_TEMP_SEQ (k : Nat) : Fld := ⟨HKA_TEMP k, 16, 8⟩
def HKA_TEMP_VALID (k : Nat) : Fld := ⟨HKA_TEMP k, 24, 1⟩
/-- HKA_MIRk (R207). -/
def HKA_MIR (k : Nat) : Nat := 0x40062080 + 0x4 * k
def HKA_MIR_CH (k : Nat) : Fld := ⟨HKA_MIR k, 0, 5⟩
def HKA_MIR_EN (k : Nat) : Fld := ⟨HKA_MIR k, 8, 1⟩
/-- HKA_INn (R207). -/
def HKA_IN (k : Nat) : Nat := 0x40062100 + 0x4 * k
def HKA_IN_CODE (k : Nat) : Fld := ⟨HKA_IN k, 0, 16⟩
def HKA_IN_SEQ (k : Nat) : Fld := ⟨HKA_IN k, 16, 8⟩
def HKA_IN_FRESH (k : Nat) : Fld := ⟨HKA_IN k, 24, 1⟩
/-- WMA_CFGn (R209). -/
def WMA_CFG (k : Nat) : Nat := 0x40063100 + 0x20 * k
def WMA_CFG_EN (k : Nat) : Fld := ⟨WMA_CFG k, 0, 1⟩
def WMA_CFG_SRC (k : Nat) : Fld := ⟨WMA_CFG k, 1, 5⟩
def WMA_CFG_GRP (k : Nat) : Fld := ⟨WMA_CFG k, 6, 4⟩
def WMA_CFG_LATCH_MODE (k : Nat) : Fld := ⟨WMA_CFG k, 10, 1⟩
def WMA_CFG_J2_EN (k : Nat) : Fld := ⟨WMA_CFG k, 11, 1⟩
def WMA_CFG_PT_EN (k : Nat) : Fld := ⟨WMA_CFG k, 12, 1⟩
def WMA_CFG_HYS (k : Nat) : Fld := ⟨WMA_CFG k, 13, 2⟩
def WMA_CFG_TH_SRC (k : Nat) : Fld := ⟨WMA_CFG k, 15, 1⟩
def WMA_CFG_BLANK (k : Nat) : Fld := ⟨WMA_CFG k, 16, 7⟩
def WMA_CFG_HI_EN (k : Nat) : Fld := ⟨WMA_CFG k, 23, 1⟩
def WMA_CFG_LO_EN (k : Nat) : Fld := ⟨WMA_CFG k, 24, 1⟩
/-- WMA_THn (R209). -/
def WMA_TH (k : Nat) : Nat := 0x40063104 + 0x20 * k
def WMA_TH_TH_HI (k : Nat) : Fld := ⟨WMA_TH k, 0, 12⟩
def WMA_TH_TH_LO (k : Nat) : Fld := ⟨WMA_TH k, 16, 12⟩
/-- WMA_RAMPn (R209). -/
def WMA_RAMP (k : Nat) : Nat := 0x40063108 + 0x20 * k
def WMA_RAMP_SLOPE (k : Nat) : Fld := ⟨WMA_RAMP k, 0, 16⟩
/-- WMA_XSRCn (R209). -/
def WMA_XSRC (k : Nat) : Nat := 0x4006310C + 0x20 * k
def WMA_XSRC_CTX (k : Nat) : Fld := ⟨WMA_XSRC k, 0, 8⟩
def WMA_XSRC_IDX (k : Nat) : Fld := ⟨WMA_XSRC k, 8, 2⟩
/-- WMA_STATn (R209). -/
def WMA_STAT (k : Nat) : Nat := 0x40063110 + 0x20 * k
def WMA_STAT_HI_STATE (k : Nat) : Fld := ⟨WMA_STAT k, 0, 2⟩
def WMA_STAT_LO_STATE (k : Nat) : Fld := ⟨WMA_STAT k, 2, 2⟩
def WMA_STAT_LATCH_HI (k : Nat) : Fld := ⟨WMA_STAT k, 4, 1⟩
def WMA_STAT_LATCH_LO (k : Nat) : Fld := ⟨WMA_STAT k, 5, 1⟩
def WMA_STAT_CHECK_BUSY (k : Nat) : Fld := ⟨WMA_STAT k, 6, 1⟩
def WMA_STAT_CHECK_RESULT (k : Nat) : Fld := ⟨WMA_STAT k, 7, 2⟩
def WMA_STAT_TRIP_CNT (k : Nat) : Fld := ⟨WMA_STAT k, 16, 8⟩
/-- WMA_CHKn (R209). -/
def WMA_CHK (k : Nat) : Nat := 0x40063114 + 0x20 * k
def WMA_CHK_SWAP (k : Nat) : Fld := ⟨WMA_CHK k, 0, 1⟩
def WMA_CHK_TIE (k : Nat) : Fld := ⟨WMA_CHK k, 1, 1⟩
/-- PG_SLOT0 (R242). -/
def PG_SLOT0 (i : Nat) : Nat := 0x40040040 + 0x1000 * i
def PG_SLOT0_LEG_A (i : Nat) : Fld := ⟨PG_SLOT0 i, 0, 6⟩
def PG_SLOT0_USE_A (i : Nat) : Fld := ⟨PG_SLOT0 i, 6, 2⟩
def PG_SLOT0_LEG_B (i : Nat) : Fld := ⟨PG_SLOT0 i, 8, 6⟩
def PG_SLOT0_USE_B (i : Nat) : Fld := ⟨PG_SLOT0 i, 14, 2⟩
def PG_SLOT0_LEG_C (i : Nat) : Fld := ⟨PG_SLOT0 i, 16, 6⟩
def PG_SLOT0_USE_C (i : Nat) : Fld := ⟨PG_SLOT0 i, 22, 2⟩
/-- PG_SLOT1 (R242). -/
def PG_SLOT1 (i : Nat) : Nat := 0x40040044 + 0x1000 * i
def PG_SLOT1_LEG_A (i : Nat) : Fld := ⟨PG_SLOT1 i, 0, 6⟩
def PG_SLOT1_USE_A (i : Nat) : Fld := ⟨PG_SLOT1 i, 6, 2⟩
def PG_SLOT1_LEG_B (i : Nat) : Fld := ⟨PG_SLOT1 i, 8, 6⟩
def PG_SLOT1_USE_B (i : Nat) : Fld := ⟨PG_SLOT1 i, 14, 2⟩
def PG_SLOT1_LEG_C (i : Nat) : Fld := ⟨PG_SLOT1 i, 16, 6⟩
def PG_SLOT1_USE_C (i : Nat) : Fld := ⟨PG_SLOT1 i, 22, 2⟩
/-- PG_CAR (R242). -/
def PG_CAR (i : Nat) : Nat := 0x40040048 + 0x1000 * i
def PG_CAR_CAR_EN (i : Nat) : Fld := ⟨PG_CAR i, 0, 1⟩
def PG_CAR_CMODE (i : Nat) : Fld := ⟨PG_CAR i, 1, 2⟩
def PG_CAR_WMODE (i : Nat) : Fld := ⟨PG_CAR i, 3, 2⟩
/-- PG_PRD (R242). -/
def PG_PRD (i : Nat) : Nat := 0x4004004C + 0x1000 * i
def PG_PRD_PRD (i : Nat) : Fld := ⟨PG_PRD i, 0, 24⟩
/-- PG_SRC (R242). -/
def PG_SRC (i : Nat) : Nat := 0x40040050 + 0x1000 * i
def PG_SRC_CTX (i : Nat) : Fld := ⟨PG_SRC i, 0, 8⟩
/-- PG_SYNC (R242). -/
def PG_SYNC (i : Nat) : Nat := 0x40040054 + 0x1000 * i
def PG_SYNC_MASTER (i : Nat) : Fld := ⟨PG_SYNC i, 0, 4⟩
def PG_SYNC_OFFSET (i : Nat) : Fld := ⟨PG_SYNC i, 8, 24⟩
/-- PG_ARM (R242). -/
def PG_ARM (i : Nat) : Nat := 0x40040058 + 0x1000 * i
def PG_ARM_ARM (i : Nat) : Fld := ⟨PG_ARM i, 0, 1⟩
def PG_ARM_DISARM (i : Nat) : Fld := ⟨PG_ARM i, 1, 1⟩
/-- PG_STAT (R242). -/
def PG_STAT (i : Nat) : Nat := 0x4004005C + 0x1000 * i
def PG_STAT_STATE (i : Nat) : Fld := ⟨PG_STAT i, 0, 2⟩
def PG_STAT_SAFE_KIND (i : Nat) : Fld := ⟨PG_STAT i, 2, 3⟩
def PG_STAT_DENY (i : Nat) : Fld := ⟨PG_STAT i, 8, 4⟩
def PG_STAT_CFG_PEND (i : Nat) : Fld := ⟨PG_STAT i, 12, 1⟩
def PG_STAT_CAR_RUN (i : Nat) : Fld := ⟨PG_STAT i, 13, 1⟩
def PG_STAT_PT (i : Nat) : Fld := ⟨PG_STAT i, 14, 1⟩
def PG_STAT_PCOUNT (i : Nat) : Fld := ⟨PG_STAT i, 16, 16⟩
/-- PG_DT01 (R242). -/
def PG_DT01 (i : Nat) : Nat := 0x40040060 + 0x1000 * i
def PG_DT01_DT_EVEN (i : Nat) : Fld := ⟨PG_DT01 i, 0, 15⟩
def PG_DT01_DT_ODD (i : Nat) : Fld := ⟨PG_DT01 i, 16, 15⟩
/-- PG_DT23 (R242). -/
def PG_DT23 (i : Nat) : Nat := 0x40040064 + 0x1000 * i
def PG_DT23_DT_EVEN (i : Nat) : Fld := ⟨PG_DT23 i, 0, 15⟩
def PG_DT23_DT_ODD (i : Nat) : Fld := ⟨PG_DT23 i, 16, 15⟩
/-- PG_DT45 (R242). -/
def PG_DT45 (i : Nat) : Nat := 0x40040068 + 0x1000 * i
def PG_DT45_DT_EVEN (i : Nat) : Fld := ⟨PG_DT45 i, 0, 15⟩
def PG_DT45_DT_ODD (i : Nat) : Fld := ⟨PG_DT45 i, 16, 15⟩
/-- PG_MINPW (R242). -/
def PG_MINPW (i : Nat) : Nat := 0x4004006C + 0x1000 * i
def PG_MINPW_MIN_PW (i : Nat) : Fld := ⟨PG_MINPW i, 0, 12⟩
/-- PG_PRECHG (R242). -/
def PG_PRECHG (i : Nat) : Nat := 0x40040070 + 0x1000 * i
def PG_PRECHG_US (i : Nat) : Fld := ⟨PG_PRECHG i, 0, 10⟩
/-- PG_PT (R242). -/
def PG_PT (i : Nat) : Nat := 0x40040074 + 0x1000 * i
def PG_PT_MASK (i : Nat) : Fld := ⟨PG_PT i, 0, 6⟩
/-- PG_CNT (R242). -/
def PG_CNT (i : Nat) : Nat := 0x40040078 + 0x1000 * i
def PG_CNT_X (i : Nat) : Fld := ⟨PG_CNT i, 0, 24⟩
def PG_CNT_DOWN (i : Nat) : Fld := ⟨PG_CNT i, 24, 1⟩
/-- PG_CMPk (R242). -/
def PG_CMP (i k : Nat) : Nat := 0x40040080 + 0x1000 * i + 0x4 * k
def PG_CMP_CMP (i k : Nat) : Fld := ⟨PG_CMP i k, 0, 24⟩
/-- PG_LVL (R242). -/
def PG_LVL (i : Nat) : Nat := 0x40040098 + 0x1000 * i
def PG_LVL_LEVEL (i : Nat) : Fld := ⟨PG_LVL i, 0, 6⟩
def PG_LVL_SUPP (i : Nat) : Fld := ⟨PG_LVL i, 8, 6⟩
/-- PG_GCNT (R242). -/
def PG_GCNT (i : Nat) : Nat := 0x4004009C + 0x1000 * i
def PG_GCNT_SUPPRESS (i : Nat) : Fld := ⟨PG_GCNT i, 0, 8⟩
def PG_GCNT_HELD (i : Nat) : Fld := ⟨PG_GCNT i, 8, 8⟩
def PG_GCNT_PT (i : Nat) : Fld := ⟨PG_GCNT i, 16, 8⟩
def PG_GCNT_CATCHUP (i : Nat) : Fld := ⟨PG_GCNT i, 24, 8⟩
/-- NL_CTLk (R243). -/
def NL_CTL (k : Nat) : Nat := 0x40040800 + 0x20 * k
def NL_CTL_EN (k : Nat) : Fld := ⟨NL_CTL k, 0, 1⟩
def NL_CTL_FALLBACK (k : Nat) : Fld := ⟨NL_CTL k, 1, 1⟩
def NL_CTL_RESTART (k : Nat) : Fld := ⟨NL_CTL k, 2, 1⟩
/-- NL_STATk (R243). -/
def NL_STAT (k : Nat) : Nat := 0x40040804 + 0x20 * k
def NL_STAT_STATE (k : Nat) : Fld := ⟨NL_STAT k, 0, 3⟩
def NL_STAT_CONFIGURED (k : Nat) : Fld := ⟨NL_STAT k, 3, 1⟩
def NL_STAT_DIE_FALLBACK (k : Nat) : Fld := ⟨NL_STAT k, 4, 1⟩
def NL_STAT_CAL_DONE (k : Nat) : Fld := ⟨NL_STAT k, 5, 1⟩
def NL_STAT_TRIM (k : Nat) : Fld := ⟨NL_STAT k, 8, 8⟩
/-- NL_ERRk (R243). -/
def NL_ERR (k : Nat) : Nat := 0x40040808 + 0x20 * k
def NL_ERR_CRC_ERR (k : Nat) : Fld := ⟨NL_ERR k, 0, 8⟩
def NL_ERR_LVL_MISMATCH (k : Nat) : Fld := ⟨NL_ERR k, 8, 8⟩
def NL_ERR_LATE_FIELD (k : Nat) : Fld := ⟨NL_ERR k, 16, 8⟩
def NL_ERR_LOSS (k : Nat) : Fld := ⟨NL_ERR k, 24, 8⟩
/-- NL_REGk (R243). -/
def NL_REG (k : Nat) : Nat := 0x4004080C + 0x20 * k
def NL_REG_OSC (k : Nat) : Fld := ⟨NL_REG k, 0, 8⟩
def NL_REG_SUPPLY (k : Nat) : Fld := ⟨NL_REG k, 8, 8⟩
def NL_REG_TJ (k : Nat) : Fld := ⟨NL_REG k, 16, 12⟩
def NL_REG_TEMP_MM (k : Nat) : Fld := ⟨NL_REG k, 28, 1⟩
def NL_REG_OSC_MM (k : Nat) : Fld := ⟨NL_REG k, 29, 1⟩
def NL_REG_SUP_MM (k : Nat) : Fld := ⟨NL_REG k, 30, 1⟩
/-- GHD_SUPc (R266). -/
def GHD_SUP (i k : Nat) : Nat := 0x40050100 + 0x1000 * i + 0x40 * k
def GHD_SUP_VPOS (i k : Nat) : Fld := ⟨GHD_SUP i k, 0, 8⟩
def GHD_SUP_VNEG (i k : Nat) : Fld := ⟨GHD_SUP i k, 8, 8⟩
def GHD_SUP_EN (i k : Nat) : Fld := ⟨GHD_SUP i k, 16, 1⟩
/-- GHD_UVc (R266). -/
def GHD_UV (i k : Nat) : Nat := 0x40050104 + 0x1000 * i + 0x40 * k
def GHD_UV_PUV (i k : Nat) : Fld := ⟨GHD_UV i k, 0, 6⟩
def GHD_UV_NUV (i k : Nat) : Fld := ⟨GHD_UV i k, 8, 5⟩
def GHD_UV_NUV_EN (i k : Nat) : Fld := ⟨GHD_UV i k, 16, 1⟩
/-- GHD_DSATc (R266). -/
def GHD_DSAT (i k : Nat) : Nat := 0x40050108 + 0x1000 * i + 0x40 * k
def GHD_DSAT_TH (i k : Nat) : Fld := ⟨GHD_DSAT i k, 0, 6⟩
def GHD_DSAT_BLANK (i k : Nat) : Fld := ⟨GHD_DSAT i k, 8, 9⟩
def GHD_DSAT_DSAT_EN (i k : Nat) : Fld := ⟨GHD_DSAT i k, 24, 1⟩
/-- GHD_STOc (R266). -/
def GHD_STO (i k : Nat) : Nat := 0x4005010C + 0x1000 * i + 0x40 * k
def GHD_STO_LEVEL (i k : Nat) : Fld := ⟨GHD_STO i k, 0, 8⟩
def GHD_STO_HOLD (i k : Nat) : Fld := ⟨GHD_STO i k, 8, 9⟩
def GHD_STO_STO_ON_SAFE (i k : Nat) : Fld := ⟨GHD_STO i k, 24, 1⟩
/-- GHD_CLPc (R266). -/
def GHD_CLP (i k : Nat) : Nat := 0x40050110 + 0x1000 * i + 0x40 * k
def GHD_CLP_CLAMP_EN (i k : Nat) : Fld := ⟨GHD_CLP i k, 0, 1⟩
def GHD_CLP_CLAMP_TH (i k : Nat) : Fld := ⟨GHD_CLP i k, 4, 2⟩
/-- GHD_STATc (R266). -/
def GHD_STAT (i k : Nat) : Nat := 0x40050114 + 0x1000 * i + 0x40 * k
def GHD_STAT_READY (i k : Nat) : Fld := ⟨GHD_STAT i k, 0, 1⟩
def GHD_STAT_ON (i k : Nat) : Fld := ⟨GHD_STAT i k, 1, 1⟩
def GHD_STAT_TWO_STEP (i k : Nat) : Fld := ⟨GHD_STAT i k, 2, 1⟩
def GHD_STAT_CLAMP_ON (i k : Nat) : Fld := ⟨GHD_STAT i k, 3, 1⟩
def GHD_STAT_PUV (i k : Nat) : Fld := ⟨GHD_STAT i k, 4, 1⟩
def GHD_STAT_NUV (i k : Nat) : Fld := ⟨GHD_STAT i k, 5, 1⟩
def GHD_STAT_PWR_HIGH (i k : Nat) : Fld := ⟨GHD_STAT i k, 6, 1⟩
def GHD_STAT_DSAT_LATCH (i k : Nat) : Fld := ⟨GHD_STAT i k, 8, 1⟩
def GHD_STAT_PWR_LATCH (i k : Nat) : Fld := ⟨GHD_STAT i k, 9, 1⟩
/-- GHD_PWRc (R266). -/
def GHD_PWR (i k : Nat) : Nat := 0x40050118 + 0x1000 * i + 0x40 * k
def GHD_PWR_AVG (i k : Nat) : Fld := ⟨GHD_PWR i k, 0, 8⟩
def GHD_PWR_PEAK (i k : Nat) : Fld := ⟨GHD_PWR i k, 8, 8⟩
/-- GHD_CNTc (R266). -/
def GHD_CNT (i k : Nat) : Nat := 0x4005011C + 0x1000 * i + 0x40 * k
def GHD_CNT_DSAT_CNT (i k : Nat) : Fld := ⟨GHD_CNT i k, 0, 8⟩
def GHD_CNT_UV_CNT (i k : Nat) : Fld := ⟨GHD_CNT i k, 8, 8⟩
def GHD_CNT_STO_CNT (i k : Nat) : Fld := ⟨GHD_CNT i k, 16, 8⟩
/-- GHD_MEASc (R266). -/
def GHD_MEAS (i k : Nat) : Nat := 0x40050120 + 0x1000 * i + 0x40 * k
def GHD_MEAS_VPOS_M (i k : Nat) : Fld := ⟨GHD_MEAS i k, 0, 8⟩
def GHD_MEAS_VNEG_M (i k : Nat) : Fld := ⟨GHD_MEAS i k, 8, 8⟩
/-- GLD_SUP (R268). -/
def GLD_SUP (i : Nat) : Nat := 0x4005C040 + 0x1000 * i
def GLD_SUP_VDD_M (i : Nat) : Fld := ⟨GLD_SUP i, 0, 8⟩
def GLD_SUP_VBR_M (i : Nat) : Fld := ⟨GLD_SUP i, 8, 8⟩
def GLD_SUP_VDD_UV (i : Nat) : Fld := ⟨GLD_SUP i, 16, 1⟩
def GLD_SUP_VBR_OUT (i : Nat) : Fld := ⟨GLD_SUP i, 17, 1⟩
/-- GLD_LEGi_CFG (R268). -/
def GLD_LEG_CFG (i k : Nat) : Nat := 0x4005C100 + 0x1000 * i + 0x40 * k
def GLD_LEG_CFG_TREF (i k : Nat) : Fld := ⟨GLD_LEG_CFG i k, 0, 8⟩
def GLD_LEG_CFG_REF_LOW (i k : Nat) : Fld := ⟨GLD_LEG_CFG i k, 8, 4⟩
def GLD_LEG_CFG_REF_EN (i k : Nat) : Fld := ⟨GLD_LEG_CFG i k, 12, 1⟩
/-- GLD_LEGi_STAT (R268). -/
def GLD_LEG_STAT (i k : Nat) : Nat := 0x4005C104 + 0x1000 * i + 0x40 * k
def GLD_LEG_STAT_HS_READY (i k : Nat) : Fld := ⟨GLD_LEG_STAT i k, 0, 1⟩
def GLD_LEG_STAT_LS_READY (i k : Nat) : Fld := ⟨GLD_LEG_STAT i k, 1, 1⟩
def GLD_LEG_STAT_HS_ON (i k : Nat) : Fld := ⟨GLD_LEG_STAT i k, 2, 1⟩
def GLD_LEG_STAT_LS_ON (i k : Nat) : Fld := ⟨GLD_LEG_STAT i k, 3, 1⟩
def GLD_LEG_STAT_BST_LOW (i k : Nat) : Fld := ⟨GLD_LEG_STAT i k, 4, 1⟩
def GLD_LEG_STAT_REFRESHING (i k : Nat) : Fld := ⟨GLD_LEG_STAT i k, 5, 1⟩
def GLD_LEG_STAT_BST_LATCH (i k : Nat) : Fld := ⟨GLD_LEG_STAT i k, 8, 1⟩
/-- GLD_LEGi_BST (R268). -/
def GLD_LEG_BST (i k : Nat) : Nat := 0x4005C108 + 0x1000 * i + 0x40 * k
def GLD_LEG_BST_VBST (i k : Nat) : Fld := ⟨GLD_LEG_BST i k, 0, 8⟩
/-- GLD_LEGi_CNT (R268). -/
def GLD_LEG_CNT (i k : Nat) : Nat := 0x4005C10C + 0x1000 * i + 0x40 * k
def GLD_LEG_CNT_REFRESH_CNT (i k : Nat) : Fld := ⟨GLD_LEG_CNT i k, 0, 16⟩
def GLD_LEG_CNT_BST_UV_CNT (i k : Nat) : Fld := ⟨GLD_LEG_CNT i k, 16, 8⟩
/-- POSn_CFG (R293). -/
def POS_CFG (i : Nat) : Nat := 0x40070040 + 0x1000 * i
def POS_CFG_MODE (i : Nat) : Fld := ⟨POS_CFG i, 0, 3⟩
def POS_CFG_DIR_INV (i : Nat) : Fld := ⟨POS_CFG i, 3, 1⟩
def POS_CFG_FILT (i : Nat) : Fld := ⟨POS_CFG i, 4, 3⟩
def POS_CFG_INTERP (i : Nat) : Fld := ⟨POS_CFG i, 7, 1⟩
def POS_CFG_SENS_PP (i : Nat) : Fld := ⟨POS_CFG i, 8, 4⟩
def POS_CFG_MACH_PP (i : Nat) : Fld := ⟨POS_CFG i, 12, 6⟩
def POS_CFG_SPAN (i : Nat) : Fld := ⟨POS_CFG i, 18, 2⟩
/-- POSn_OFS (R293). -/
def POS_OFS (i : Nat) : Nat := 0x40070044 + 0x1000 * i
def POS_OFS_OFS (i : Nat) : Fld := ⟨POS_OFS i, 0, 16⟩
/-- POSn_QEI (R293). -/
def POS_QEI (i : Nat) : Nat := 0x40070048 + 0x1000 * i
def POS_QEI_LINES (i : Nat) : Fld := ⟨POS_QEI i, 0, 16⟩
def POS_QEI_Z_EN (i : Nat) : Fld := ⟨POS_QEI i, 16, 1⟩
def POS_QEI_Z_CORR (i : Nat) : Fld := ⟨POS_QEI i, 17, 1⟩
def POS_QEI_Z_TOL (i : Nat) : Fld := ⟨POS_QEI i, 24, 8⟩
/-- POSn_HALL (R293). -/
def POS_HALL (i : Nat) : Nat := 0x4007004C + 0x1000 * i
def POS_HALL_MAP (i : Nat) : Fld := ⟨POS_HALL i, 0, 18⟩
/-- POSn_TIME (R293). -/
def POS_TIME (i : Nat) : Nat := 0x40070050 + 0x1000 * i
def POS_TIME_STILL_MS (i : Nat) : Fld := ⟨POS_TIME i, 0, 10⟩
def POS_TIME_SPD_SH (i : Nat) : Fld := ⟨POS_TIME i, 16, 3⟩
/-- POSn_ILL (R293). -/
def POS_ILL (i : Nat) : Nat := 0x40070054 + 0x1000 * i
def POS_ILL_ILL_MAX (i : Nat) : Fld := ⟨POS_ILL i, 0, 8⟩
def POS_ILL_ILL_WIN (i : Nat) : Fld := ⟨POS_ILL i, 8, 10⟩
/-- POSn_RSLV0 (R293). -/
def POS_RSLV0 (i : Nat) : Nat := 0x40070058 + 0x1000 * i
def POS_RSLV0_FA_SIN (i : Nat) : Fld := ⟨POS_RSLV0 i, 0, 5⟩
def POS_RSLV0_FA_COS (i : Nat) : Fld := ⟨POS_RSLV0 i, 5, 5⟩
def POS_RSLV0_EXC_DIV (i : Nat) : Fld := ⟨POS_RSLV0 i, 10, 11⟩
def POS_RSLV0_EXC_AMP (i : Nat) : Fld := ⟨POS_RSLV0 i, 21, 5⟩
def POS_RSLV0_EXC_EN (i : Nat) : Fld := ⟨POS_RSLV0 i, 26, 1⟩
/-- POSn_RSLV1 (R293). -/
def POS_RSLV1 (i : Nat) : Nat := 0x4007005C + 0x1000 * i
def POS_RSLV1_PHASE (i : Nat) : Fld := ⟨POS_RSLV1 i, 0, 11⟩
def POS_RSLV1_AMP_LO (i : Nat) : Fld := ⟨POS_RSLV1 i, 16, 8⟩
def POS_RSLV1_AMP_HI (i : Nat) : Fld := ⟨POS_RSLV1 i, 24, 8⟩
/-- POSn_SER0 (R293). -/
def POS_SER0 (i : Nat) : Nat := 0x40070060 + 0x1000 * i
def POS_SER0_FRAME_LEN (i : Nat) : Fld := ⟨POS_SER0 i, 0, 7⟩
def POS_SER0_POS_OFS (i : Nat) : Fld := ⟨POS_SER0 i, 8, 6⟩
def POS_SER0_POS_LEN (i : Nat) : Fld := ⟨POS_SER0 i, 16, 6⟩
def POS_SER0_ST_BITS (i : Nat) : Fld := ⟨POS_SER0 i, 22, 5⟩
/-- POSn_SER1 (R293). -/
def POS_SER1 (i : Nat) : Nat := 0x40070064 + 0x1000 * i
def POS_SER1_ERR_BIT (i : Nat) : Fld := ⟨POS_SER1 i, 0, 6⟩
def POS_SER1_ERR_EN (i : Nat) : Fld := ⟨POS_SER1 i, 6, 1⟩
def POS_SER1_ERR_POL (i : Nat) : Fld := ⟨POS_SER1 i, 7, 1⟩
def POS_SER1_CRC_SEL (i : Nat) : Fld := ⟨POS_SER1 i, 8, 2⟩
def POS_SER1_CRC_INV (i : Nat) : Fld := ⟨POS_SER1 i, 10, 1⟩
def POS_SER1_CLK_HALF (i : Nat) : Fld := ⟨POS_SER1 i, 16, 8⟩
def POS_SER1_START_MAX (i : Nat) : Fld := ⟨POS_SER1 i, 24, 6⟩
/-- POSn_SER2 (R293). -/
def POS_SER2 (i : Nat) : Nat := 0x40070068 + 0x1000 * i
def POS_SER2_TRIG (i : Nat) : Fld := ⟨POS_SER2 i, 0, 4⟩
def POS_SER2_N_BAD (i : Nat) : Fld := ⟨POS_SER2 i, 4, 4⟩
def POS_SER2_WTO (i : Nat) : Fld := ⟨POS_SER2 i, 8, 7⟩
def POS_SER2_SMP_DLY (i : Nat) : Fld := ⟨POS_SER2 i, 16, 8⟩
def POS_SER2_GAP (i : Nat) : Fld := ⟨POS_SER2 i, 24, 6⟩
/-- POSn_CTL (R293). -/
def POS_CTL (i : Nat) : Nat := 0x4007006C + 0x1000 * i
def POS_CTL_RESTART (i : Nat) : Fld := ⟨POS_CTL i, 0, 1⟩
/-- POSn_STAT (R293). -/
def POS_STAT (i : Nat) : Nat := 0x40070070 + 0x1000 * i
def POS_STAT_MODE (i : Nat) : Fld := ⟨POS_STAT i, 0, 3⟩
def POS_STAT_SPD_VALID (i : Nat) : Fld := ⟨POS_STAT i, 3, 1⟩
def POS_STAT_DIR (i : Nat) : Fld := ⟨POS_STAT i, 4, 1⟩
def POS_STAT_STILL (i : Nat) : Fld := ⟨POS_STAT i, 5, 1⟩
def POS_STAT_HOMED (i : Nat) : Fld := ⟨POS_STAT i, 6, 1⟩
def POS_STAT_FROZEN (i : Nat) : Fld := ⟨POS_STAT i, 7, 1⟩
def POS_STAT_SENSOR_FAULT (i : Nat) : Fld := ⟨POS_STAT i, 8, 1⟩
def POS_STAT_CAUSE (i : Nat) : Fld := ⟨POS_STAT i, 9, 3⟩
def POS_STAT_HELD (i : Nat) : Fld := ⟨POS_STAT i, 12, 1⟩
/-- POSn_ANG (R293). -/
def POS_ANG (i : Nat) : Nat := 0x40070074 + 0x1000 * i
def POS_ANG_VALUE (i : Nat) : Fld := ⟨POS_ANG i, 0, 32⟩
/-- POSn_SPD (R293). -/
def POS_SPD (i : Nat) : Nat := 0x40070078 + 0x1000 * i
def POS_SPD_VALUE (i : Nat) : Fld := ⟨POS_SPD i, 0, 32⟩
/-- POSn_RPM (R293). -/
def POS_RPM (i : Nat) : Nat := 0x4007007C + 0x1000 * i
def POS_RPM_VALUE (i : Nat) : Fld := ⟨POS_RPM i, 0, 32⟩
/-- POSn_COUNT (R293). -/
def POS_COUNT (i : Nat) : Nat := 0x40070080 + 0x1000 * i
def POS_COUNT_COUNT (i : Nat) : Fld := ⟨POS_COUNT i, 0, 32⟩
/-- POSn_PERIOD (R293). -/
def POS_PERIOD (i : Nat) : Nat := 0x40070084 + 0x1000 * i
def POS_PERIOD_CLOCKS (i : Nat) : Fld := ⟨POS_PERIOD i, 0, 32⟩
/-- POSn_MTURN (R293). -/
def POS_MTURN (i : Nat) : Nat := 0x40070088 + 0x1000 * i
def POS_MTURN_TURNS (i : Nat) : Fld := ⟨POS_MTURN i, 0, 16⟩
/-- POSn_AMP (R293). -/
def POS_AMP (i : Nat) : Nat := 0x4007008C + 0x1000 * i
def POS_AMP_AMP (i : Nat) : Fld := ⟨POS_AMP i, 0, 16⟩
/-- POSn_RAW0 (R293). -/
def POS_RAW0 (i : Nat) : Nat := 0x40070090 + 0x1000 * i
def POS_RAW0_BITS (i : Nat) : Fld := ⟨POS_RAW0 i, 0, 32⟩
/-- POSn_RAW1 (R293). -/
def POS_RAW1 (i : Nat) : Nat := 0x40070094 + 0x1000 * i
def POS_RAW1_BITS (i : Nat) : Fld := ⟨POS_RAW1 i, 0, 32⟩
/-- POSn_ERRC (R293). -/
def POS_ERRC (i : Nat) : Nat := 0x40070098 + 0x1000 * i
def POS_ERRC_ILLEGAL_CNT (i : Nat) : Fld := ⟨POS_ERRC i, 0, 8⟩
def POS_ERRC_BAD_WORD (i : Nat) : Fld := ⟨POS_ERRC i, 8, 8⟩
def POS_ERRC_ZERR (i : Nat) : Fld := ⟨POS_ERRC i, 16, 8⟩
def POS_ERRC_DISCARD (i : Nat) : Fld := ⟨POS_ERRC i, 24, 8⟩
/-- POSn_SKIP (R293). -/
def POS_SKIP (i : Nat) : Nat := 0x4007009C + 0x1000 * i
def POS_SKIP_SKIP (i : Nat) : Fld := ⟨POS_SKIP i, 0, 8⟩
/-- EMU_CFGe (R295). -/
def EMU_CFG (k : Nat) : Nat := 0x40074040 + 0x10 * k
def EMU_CFG_EN (k : Nat) : Fld := ⟨EMU_CFG k, 0, 1⟩
def EMU_CFG_MODE (k : Nat) : Fld := ⟨EMU_CFG k, 1, 1⟩
def EMU_CFG_SRC (k : Nat) : Fld := ⟨EMU_CFG k, 2, 2⟩
def EMU_CFG_Z_EN (k : Nat) : Fld := ⟨EMU_CFG k, 4, 1⟩
def EMU_CFG_INV_DIR (k : Nat) : Fld := ⟨EMU_CFG k, 5, 1⟩
/-- EMU_RATIOe (R295). -/
def EMU_RATIO (k : Nat) : Nat := 0x40074044 + 0x10 * k
def EMU_RATIO_N (k : Nat) : Fld := ⟨EMU_RATIO k, 0, 16⟩
def EMU_RATIO_D (k : Nat) : Fld := ⟨EMU_RATIO k, 16, 16⟩
/-- EMU_ZPERe (R295). -/
def EMU_ZPER (k : Nat) : Nat := 0x40074048 + 0x10 * k
def EMU_ZPER_Z_PER (k : Nat) : Fld := ⟨EMU_ZPER k, 0, 24⟩
/-- EMU_STATe (R295). -/
def EMU_STAT (k : Nat) : Nat := 0x4007404C + 0x10 * k
def EMU_STAT_BACKLOG (k : Nat) : Fld := ⟨EMU_STAT k, 0, 16⟩
def EMU_STAT_OVF (k : Nat) : Fld := ⟨EMU_STAT k, 16, 1⟩
def EMU_STAT_HOLDING (k : Nat) : Fld := ⟨EMU_STAT k, 17, 1⟩
/-- TRC_CFG (R321). -/
def TRC_CFG (i : Nat) : Nat := 0x40080040 + 0x1000 * i
def TRC_CFG_GRP (i : Nat) : Fld := ⟨TRC_CFG i, 0, 4⟩
def TRC_CFG_POS (i : Nat) : Fld := ⟨TRC_CFG i, 4, 2⟩
def TRC_CFG_OPD_EN (i : Nat) : Fld := ⟨TRC_CFG i, 6, 1⟩
def TRC_CFG_KE_EN (i : Nat) : Fld := ⟨TRC_CFG i, 7, 1⟩
def TRC_CFG_DROP_SPD (i : Nat) : Fld := ⟨TRC_CFG i, 8, 1⟩
/-- TRC_FA (R321). -/
def TRC_FA (i : Nat) : Nat := 0x40080044 + 0x1000 * i
def TRC_FA_A1 (i : Nat) : Fld := ⟨TRC_FA i, 0, 5⟩
def TRC_FA_B1 (i : Nat) : Fld := ⟨TRC_FA i, 5, 5⟩
def TRC_FA_C1 (i : Nat) : Fld := ⟨TRC_FA i, 10, 5⟩
def TRC_FA_A2 (i : Nat) : Fld := ⟨TRC_FA i, 15, 5⟩
def TRC_FA_B2 (i : Nat) : Fld := ⟨TRC_FA i, 20, 5⟩
def TRC_FA_C2 (i : Nat) : Fld := ⟨TRC_FA i, 25, 5⟩
/-- TRC_OPD (R321). -/
def TRC_OPD (i : Nat) : Nat := 0x40080048 + 0x1000 * i
def TRC_OPD_DET_CNT (i : Nat) : Fld := ⟨TRC_OPD i, 0, 8⟩
/-- TRC_RES_TH (R321). -/
def TRC_RES_TH (i : Nat) : Nat := 0x4008004C + 0x1000 * i
def TRC_RES_TH_VALUE (i : Nat) : Fld := ⟨TRC_RES_TH i, 0, 32⟩
/-- TRC_Z_TH (R321). -/
def TRC_Z_TH (i : Nat) : Nat := 0x40080050 + 0x1000 * i
def TRC_Z_TH_VALUE (i : Nat) : Fld := ⟨TRC_Z_TH i, 0, 32⟩
/-- TRC_DEG (R321). -/
def TRC_DEG (i : Nat) : Nat := 0x40080054 + 0x1000 * i
def TRC_DEG_DEGRADE_MAX (i : Nat) : Fld := ⟨TRC_DEG i, 0, 11⟩
def TRC_DEG_DEG_WARN (i : Nat) : Fld := ⟨TRC_DEG i, 16, 6⟩
/-- TRC_DEG_ILIM (R321). -/
def TRC_DEG_ILIM (i : Nat) : Nat := 0x40080058 + 0x1000 * i
def TRC_DEG_ILIM_VALUE (i : Nat) : Fld := ⟨TRC_DEG_ILIM i, 0, 32⟩
/-- TRC_CTL (R321). -/
def TRC_CTL (i : Nat) : Nat := 0x4008005C + 0x1000 * i
def TRC_CTL_CLEAR (i : Nat) : Fld := ⟨TRC_CTL i, 0, 1⟩
def TRC_CTL_KE_RESTART (i : Nat) : Fld := ⟨TRC_CTL i, 1, 1⟩
/-- TRC_STAT (R321). -/
def TRC_STAT (i : Nat) : Nat := 0x40080060 + 0x1000 * i
def TRC_STAT_STATE (i : Nat) : Fld := ⟨TRC_STAT i, 0, 2⟩
def TRC_STAT_SET (i : Nat) : Fld := ⟨TRC_STAT i, 2, 1⟩
def TRC_STAT_CAUSE (i : Nat) : Fld := ⟨TRC_STAT i, 3, 2⟩
def TRC_STAT_PHASE (i : Nat) : Fld := ⟨TRC_STAT i, 5, 3⟩
def TRC_STAT_DROP_SHORT (i : Nat) : Fld := ⟨TRC_STAT i, 8, 1⟩
def TRC_STAT_FCAUSE (i : Nat) : Fld := ⟨TRC_STAT i, 9, 3⟩
/-- TRC_DEG_TIME (R321). -/
def TRC_DEG_TIME (i : Nat) : Nat := 0x40080064 + 0x1000 * i
def TRC_DEG_TIME_ELAPSED_MS (i : Nat) : Fld := ⟨TRC_DEG_TIME i, 0, 21⟩
/-- TRC_CNT (R321). -/
def TRC_CNT (i : Nat) : Nat := 0x40080068 + 0x1000 * i
def TRC_CNT_S1 (i : Nat) : Fld := ⟨TRC_CNT i, 0, 8⟩
def TRC_CNT_S2 (i : Nat) : Fld := ⟨TRC_CNT i, 8, 8⟩
def TRC_CNT_O1 (i : Nat) : Fld := ⟨TRC_CNT i, 16, 8⟩
def TRC_CNT_O2 (i : Nat) : Fld := ⟨TRC_CNT i, 24, 8⟩
/-- TRC_RES (R321). -/
def TRC_RES (i : Nat) : Nat := 0x4008006C + 0x1000 * i
def TRC_RES_VALUE (i : Nat) : Fld := ⟨TRC_RES i, 0, 32⟩
/-- TRC_Z1 (R321). -/
def TRC_Z1 (i : Nat) : Nat := 0x40080070 + 0x1000 * i
def TRC_Z1_VALUE (i : Nat) : Fld := ⟨TRC_Z1 i, 0, 32⟩
/-- TRC_Z2 (R321). -/
def TRC_Z2 (i : Nat) : Nat := 0x40080074 + 0x1000 * i
def TRC_Z2_VALUE (i : Nat) : Fld := ⟨TRC_Z2 i, 0, 32⟩
/-- TRC_ISET (R321). -/
def TRC_ISET (i : Nat) : Nat := 0x40080078 + 0x1000 * i
def TRC_ISET_VALUE (i : Nat) : Fld := ⟨TRC_ISET i, 0, 32⟩
/-- TRC_KE_SRC (R321). -/
def TRC_KE_SRC (i : Nat) : Nat := 0x40080080 + 0x1000 * i
def TRC_KE_SRC_CTX (i : Nat) : Fld := ⟨TRC_KE_SRC i, 0, 8⟩
def TRC_KE_SRC_IDX_EST (i : Nat) : Fld := ⟨TRC_KE_SRC i, 8, 2⟩
def TRC_KE_SRC_IDX_WT (i : Nat) : Fld := ⟨TRC_KE_SRC i, 10, 2⟩
def TRC_KE_SRC_TSRC (i : Nat) : Fld := ⟨TRC_KE_SRC i, 12, 3⟩
/-- TRC_KE_NOM (R321). -/
def TRC_KE_NOM (i : Nat) : Nat := 0x40080084 + 0x1000 * i
def TRC_KE_NOM_VALUE (i : Nat) : Fld := ⟨TRC_KE_NOM i, 0, 32⟩
/-- TRC_KE_ALPHA (R321). -/
def TRC_KE_ALPHA (i : Nat) : Nat := 0x40080088 + 0x1000 * i
def TRC_KE_ALPHA_VALUE (i : Nat) : Fld := ⟨TRC_KE_ALPHA i, 0, 32⟩
/-- TRC_KE_TOL (R321). -/
def TRC_KE_TOL (i : Nat) : Nat := 0x4008008C + 0x1000 * i
def TRC_KE_TOL_DEMAG_TOL (i : Nat) : Fld := ⟨TRC_KE_TOL i, 0, 8⟩
def TRC_KE_TOL_WRONG_TOL (i : Nat) : Fld := ⟨TRC_KE_TOL i, 8, 8⟩
def TRC_KE_TOL_N_ID (i : Nat) : Fld := ⟨TRC_KE_TOL i, 16, 8⟩
def TRC_KE_TOL_KE_SH (i : Nat) : Fld := ⟨TRC_KE_TOL i, 24, 4⟩
/-- TRC_KE_LAST (R321). -/
def TRC_KE_LAST (i : Nat) : Nat := 0x40080090 + 0x1000 * i
def TRC_KE_LAST_VALUE (i : Nat) : Fld := ⟨TRC_KE_LAST i, 0, 32⟩
/-- TRC_KE_RATIO (R321). -/
def TRC_KE_RATIO (i : Nat) : Nat := 0x40080094 + 0x1000 * i
def TRC_KE_RATIO_VALUE (i : Nat) : Fld := ⟨TRC_KE_RATIO i, 0, 32⟩
/-- TRC_KE_IDR (R321). -/
def TRC_KE_IDR (i : Nat) : Nat := 0x40080098 + 0x1000 * i
def TRC_KE_IDR_VALUE (i : Nat) : Fld := ⟨TRC_KE_IDR i, 0, 32⟩
/-- TRC_KE_STAT (R321). -/
def TRC_KE_STAT (i : Nat) : Nat := 0x4008009C + 0x1000 * i
def TRC_KE_STAT_VERDICT (i : Nat) : Fld := ⟨TRC_KE_STAT i, 0, 3⟩
def TRC_KE_STAT_SUSPENDED (i : Nat) : Fld := ⟨TRC_KE_STAT i, 3, 1⟩
def TRC_KE_STAT_ID_N (i : Nat) : Fld := ⟨TRC_KE_STAT i, 8, 8⟩
def TRC_KE_STAT_SAMPLES (i : Nat) : Fld := ⟨TRC_KE_STAT i, 16, 16⟩
/-- CHG_CFG (R357). -/
def CHG_CFG : Nat := 0x40082040
def CHG_CFG_EN : Fld := ⟨CHG_CFG, 0, 1⟩
def CHG_CFG_DRIVE_INTLK : Fld := ⟨CHG_CFG, 1, 1⟩
def CHG_CFG_CMD_CTX : Fld := ⟨CHG_CFG, 8, 8⟩
/-- CHG_FA0 (R357). -/
def CHG_FA0 : Nat := 0x40082044
def CHG_FA0_V1 : Fld := ⟨CHG_FA0, 0, 5⟩
def CHG_FA0_V2 : Fld := ⟨CHG_FA0, 5, 5⟩
def CHG_FA0_V3 : Fld := ⟨CHG_FA0, 10, 5⟩
def CHG_FA0_I1 : Fld := ⟨CHG_FA0, 15, 5⟩
def CHG_FA0_I2 : Fld := ⟨CHG_FA0, 20, 5⟩
def CHG_FA0_I3 : Fld := ⟨CHG_FA0, 25, 5⟩
/-- CHG_FA1 (R357). -/
def CHG_FA1 : Nat := 0x40082048
def CHG_FA1_VBUS : Fld := ⟨CHG_FA1, 0, 5⟩
/-- CHG_TO0 (R357). -/
def CHG_TO0 : Nat := 0x4008204C
def CHG_TO0_T_PILOT : Fld := ⟨CHG_TO0, 0, 10⟩
def CHG_TO0_T_S2 : Fld := ⟨CHG_TO0, 16, 10⟩
/-- CHG_TO1 (R357). -/
def CHG_TO1 : Nat := 0x40082050
def CHG_TO1_T_GRID : Fld := ⟨CHG_TO1, 0, 10⟩
def CHG_TO1_T_STOP : Fld := ⟨CHG_TO1, 16, 10⟩
/-- CHG_PROT0 (R357). -/
def CHG_PROT0 : Nat := 0x40082054
def CHG_PROT0_VLO : Fld := ⟨CHG_PROT0, 0, 12⟩
def CHG_PROT0_VHI : Fld := ⟨CHG_PROT0, 16, 12⟩
/-- CHG_PROT1 (R357). -/
def CHG_PROT1 : Nat := 0x40082058
def CHG_PROT1_FLO : Fld := ⟨CHG_PROT1, 0, 16⟩
def CHG_PROT1_FHI : Fld := ⟨CHG_PROT1, 16, 16⟩
/-- CHG_PROT2 (R357). -/
def CHG_PROT2 : Nat := 0x4008205C
def CHG_PROT2_T_VTRIP : Fld := ⟨CHG_PROT2, 0, 10⟩
def CHG_PROT2_T_FTRIP : Fld := ⟨CHG_PROT2, 16, 10⟩
/-- CHG_PROT3 (R357). -/
def CHG_PROT3 : Nat := 0x40082060
def CHG_PROT3_P_IMP_MAX : Fld := ⟨CHG_PROT3, 0, 16⟩
def CHG_PROT3_P_EXP_MAX : Fld := ⟨CHG_PROT3, 16, 16⟩
/-- CHG_PROT4 (R357). -/
def CHG_PROT4 : Nat := 0x40082064
def CHG_PROT4_EXPORT_EN : Fld := ⟨CHG_PROT4, 0, 1⟩
def CHG_PROT4_ROCOF_MAX : Fld := ⟨CHG_PROT4, 8, 8⟩
/-- CHG_TINH (R357). -/
def CHG_TINH : Nat := 0x40082068
def CHG_TINH_TSRC : Fld := ⟨CHG_TINH, 0, 3⟩
def CHG_TINH_T_LO : Fld := ⟨CHG_TINH, 8, 8⟩
def CHG_TINH_T_HI : Fld := ⟨CHG_TINH, 16, 8⟩
/-- CHG_STAT (R357). -/
def CHG_STAT : Nat := 0x4008206C
def CHG_STAT_SESS : Fld := ⟨CHG_STAT, 0, 3⟩
def CHG_STAT_CP_STATE : Fld := ⟨CHG_STAT, 3, 3⟩
def CHG_STAT_CP_OSC : Fld := ⟨CHG_STAT, 6, 1⟩
def CHG_STAT_DIGITAL : Fld := ⟨CHG_STAT, 7, 1⟩
def CHG_STAT_RATING : Fld := ⟨CHG_STAT, 8, 3⟩
def CHG_STAT_TINH : Fld := ⟨CHG_STAT, 11, 1⟩
def CHG_STAT_GRID_OK : Fld := ⟨CHG_STAT, 12, 1⟩
def CHG_STAT_REQ : Fld := ⟨CHG_STAT, 13, 2⟩
def CHG_STAT_END_REASON : Fld := ⟨CHG_STAT, 16, 4⟩
/-- CHG_CP (R357). -/
def CHG_CP : Nat := 0x40082070
def CHG_CP_DUTY : Fld := ⟨CHG_CP, 0, 10⟩
def CHG_CP_ALLOW : Fld := ⟨CHG_CP, 16, 12⟩
/-- CHG_CPV (R357). -/
def CHG_CPV : Nat := 0x40082074
def CHG_CPV_VHIGH : Fld := ⟨CHG_CPV, 0, 16⟩
def CHG_CPV_VLOW : Fld := ⟨CHG_CPV, 16, 16⟩
/-- CHG_PP (R357). -/
def CHG_PP : Nat := 0x40082078
def CHG_PP_RES : Fld := ⟨CHG_PP, 0, 16⟩
/-- CHG_VRMSk (R357). -/
def CHG_VRMS (k : Nat) : Nat := 0x4008207C + 0x4 * k
def CHG_VRMS_VRMS (k : Nat) : Fld := ⟨CHG_VRMS k, 0, 12⟩
def CHG_VRMS_IRMS (k : Nat) : Fld := ⟨CHG_VRMS k, 16, 12⟩
/-- CHG_FREQ (R357). -/
def CHG_FREQ : Nat := 0x40082088
def CHG_FREQ_FREQ : Fld := ⟨CHG_FREQ, 0, 16⟩
def CHG_FREQ_ROCOF : Fld := ⟨CHG_FREQ, 16, 16⟩
/-- CHG_PWR (R357). -/
def CHG_PWR : Nat := 0x4008208C
def CHG_PWR_P : Fld := ⟨CHG_PWR, 0, 32⟩
/-- CHG_CNT (R357). -/
def CHG_CNT : Nat := 0x40082090
def CHG_CNT_GRID_TRIPS : Fld := ⟨CHG_CNT, 0, 8⟩
def CHG_CNT_FAULT_ENDS : Fld := ⟨CHG_CNT, 8, 8⟩
/-- AUX_CFG (R359). -/
def AUX_CFG : Nat := 0x40083040
def AUX_CFG_EN : Fld := ⟨AUX_CFG, 0, 1⟩
def AUX_CFG_WM : Fld := ⟨AUX_CFG, 1, 5⟩
def AUX_CFG_SRC_CTX : Fld := ⟨AUX_CFG, 6, 8⟩
def AUX_CFG_FA_VOUT : Fld := ⟨AUX_CFG, 14, 5⟩
def AUX_CFG_FA_IOUT : Fld := ⟨AUX_CFG, 19, 5⟩
/-- AUX_CHK (R359). -/
def AUX_CHK : Nat := 0x40083044
def AUX_CHK_T_CHK : Fld := ⟨AUX_CHK, 0, 7⟩
def AUX_CHK_CHK_EN : Fld := ⟨AUX_CHK, 7, 1⟩
/-- AUX_SS (R359). -/
def AUX_SS : Nat := 0x40083048
def AUX_SS_T_SSTO : Fld := ⟨AUX_SS, 0, 10⟩
def AUX_SS_N_SS : Fld := ⟨AUX_SS, 16, 8⟩
/-- AUX_CEIL (R359). -/
def AUX_CEIL : Nat := 0x4008304C
def AUX_CEIL_CEIL_SS : Fld := ⟨AUX_CEIL, 0, 12⟩
def AUX_CEIL_CEIL_RUN : Fld := ⟨AUX_CEIL, 16, 12⟩
/-- AUX_HIC (R359). -/
def AUX_HIC : Nat := 0x40083050
def AUX_HIC_T_HIC : Fld := ⟨AUX_HIC, 0, 11⟩
def AUX_HIC_HIC_MAX : Fld := ⟨AUX_HIC, 16, 4⟩
/-- AUX_VMON (R359). -/
def AUX_VMON : Nat := 0x40083054
def AUX_VMON_T_OL : Fld := ⟨AUX_VMON, 0, 10⟩
def AUX_VMON_GOOD_PCT : Fld := ⟨AUX_VMON, 16, 7⟩
def AUX_VMON_UV_PCT : Fld := ⟨AUX_VMON, 24, 7⟩
/-- AUX_STAT (R359). -/
def AUX_STAT : Nat := 0x40083058
def AUX_STAT_STATE : Fld := ⟨AUX_STAT, 0, 3⟩
def AUX_STAT_REASON : Fld := ⟨AUX_STAT, 4, 3⟩
def AUX_STAT_HIC_CNT : Fld := ⟨AUX_STAT, 7, 4⟩
def AUX_STAT_RUN_CMD : Fld := ⟨AUX_STAT, 11, 1⟩
def AUX_STAT_CEIL : Fld := ⟨AUX_STAT, 12, 1⟩
def AUX_STAT_CL_CNT : Fld := ⟨AUX_STAT, 16, 16⟩
/-- AUX_MEAS (R359). -/
def AUX_MEAS : Nat := 0x4008305C
def AUX_MEAS_VOUT : Fld := ⟨AUX_MEAS, 0, 16⟩
def AUX_MEAS_IOUT : Fld := ⟨AUX_MEAS, 16, 16⟩
/-- AUX_CNT (R359). -/
def AUX_CNT : Nat := 0x40083060
def AUX_CNT_HICCUPS : Fld := ⟨AUX_CNT, 0, 8⟩
def AUX_CNT_CHK_FAIL : Fld := ⟨AUX_CNT, 8, 8⟩
def AUX_CNT_CL_TOTAL : Fld := ⟨AUX_CNT, 16, 16⟩
/-- ACT_CFG (R385). -/
def ACT_CFG (i : Nat) : Nat := 0x40084040 + 0x1000 * i
def ACT_CFG_EN (i : Nat) : Fld := ⟨ACT_CFG i, 0, 1⟩
def ACT_CFG_SENSE (i : Nat) : Fld := ⟨ACT_CFG i, 1, 1⟩
def ACT_CFG_GRP (i : Nat) : Fld := ⟨ACT_CFG i, 2, 4⟩
def ACT_CFG_PARK_EN (i : Nat) : Fld := ⟨ACT_CFG i, 6, 1⟩
def ACT_CFG_EMF_EN (i : Nat) : Fld := ⟨ACT_CFG i, 7, 1⟩
/-- ACT_HALL (R385). -/
def ACT_HALL (i : Nat) : Nat := 0x40084044 + 0x1000 * i
def ACT_HALL_MAP (i : Nat) : Fld := ⟨ACT_HALL i, 0, 18⟩
def ACT_HALL_HOFS (i : Nat) : Fld := ⟨ACT_HALL i, 18, 6⟩
def ACT_HALL_FILT (i : Nat) : Fld := ⟨ACT_HALL i, 24, 3⟩
/-- ACT_PLN (R385). -/
def ACT_PLN (i : Nat) : Nat := 0x40084048 + 0x1000 * i
def ACT_PLN_P (i : Nat) : Fld := ⟨ACT_PLN i, 0, 6⟩
def ACT_PLN_ADV (i : Nat) : Fld := ⟨ACT_PLN i, 8, 6⟩
def ACT_PLN_AMIN (i : Nat) : Fld := ⟨ACT_PLN i, 16, 8⟩
def ACT_PLN_ZC_FILT (i : Nat) : Fld := ⟨ACT_PLN i, 24, 3⟩
def ACT_PLN_FLT_SKIP (i : Nat) : Fld := ⟨ACT_PLN i, 28, 3⟩
/-- ACT_START0 (R385). -/
def ACT_START0 (i : Nat) : Nat := 0x4008404C + 0x1000 * i
def ACT_START0_A_ST (i : Nat) : Fld := ⟨ACT_START0 i, 0, 8⟩
def ACT_START0_T_ALIGN (i : Nat) : Fld := ⟨ACT_START0 i, 8, 8⟩
def ACT_START0_RAMP_MS (i : Nat) : Fld := ⟨ACT_START0 i, 16, 10⟩
def ACT_START0_START_RETRIES (i : Nat) : Fld := ⟨ACT_START0 i, 26, 3⟩
/-- ACT_START1 (R385). -/
def ACT_START1 (i : Nat) : Nat := 0x40084050 + 0x1000 * i
def ACT_START1_F_END (i : Nat) : Fld := ⟨ACT_START1 i, 0, 16⟩
def ACT_START1_T_RETRY (i : Nat) : Fld := ⟨ACT_START1 i, 16, 8⟩
def ACT_START1_N_LOCK (i : Nat) : Fld := ⟨ACT_START1 i, 24, 4⟩
/-- ACT_CATCH (R385). -/
def ACT_CATCH (i : Nat) : Nat := 0x40084054 + 0x1000 * i
def ACT_CATCH_REV_TH (i : Nat) : Fld := ⟨ACT_CATCH i, 0, 16⟩
def ACT_CATCH_OBS_MS (i : Nat) : Fld := ⟨ACT_CATCH i, 16, 8⟩
def ACT_CATCH_BRK_MS (i : Nat) : Fld := ⟨ACT_CATCH i, 24, 8⟩
/-- ACT_TIME (R385). -/
def ACT_TIME (i : Nat) : Nat := 0x40084058 + 0x1000 * i
def ACT_TIME_CATCH_TO (i : Nat) : Fld := ⟨ACT_TIME i, 0, 10⟩
def ACT_TIME_CATCH_RAMP (i : Nat) : Fld := ⟨ACT_TIME i, 10, 6⟩
def ACT_TIME_STALL_MS (i : Nat) : Fld := ⟨ACT_TIME i, 16, 10⟩
/-- ACT_KE (R385). -/
def ACT_KE (i : Nat) : Nat := 0x4008405C + 0x1000 * i
def ACT_KE_KE (i : Nat) : Fld := ⟨ACT_KE i, 0, 32⟩
/-- ACT_EMF (R385). -/
def ACT_EMF (i : Nat) : Nat := 0x40084060 + 0x1000 * i
def ACT_EMF_EMF_TOL (i : Nat) : Fld := ⟨ACT_EMF i, 0, 8⟩
def ACT_EMF_TGT_TOL (i : Nat) : Fld := ⟨ACT_EMF i, 8, 8⟩
/-- ACT_PARK (R385). -/
def ACT_PARK (i : Nat) : Nat := 0x40084064 + 0x1000 * i
def ACT_PARK_ENG_LO (i : Nat) : Fld := ⟨ACT_PARK i, 0, 16⟩
def ACT_PARK_ENG_HI (i : Nat) : Fld := ⟨ACT_PARK i, 16, 16⟩
/-- ACT_PARK_SPD (R385). -/
def ACT_PARK_SPD (i : Nat) : Nat := 0x40084068 + 0x1000 * i
def ACT_PARK_SPD_ENG_SPD (i : Nat) : Fld := ⟨ACT_PARK_SPD i, 0, 12⟩
def ACT_PARK_SPD_SLIP_SPD (i : Nat) : Fld := ⟨ACT_PARK_SPD i, 16, 12⟩
def ACT_PARK_SPD_PARK_POS (i : Nat) : Fld := ⟨ACT_PARK_SPD i, 28, 2⟩
/-- ACT_CTL (R385). -/
def ACT_CTL (i : Nat) : Nat := 0x4008406C + 0x1000 * i
def ACT_CTL_ZERO (i : Nat) : Fld := ⟨ACT_CTL i, 0, 1⟩
/-- ACT_STAT (R385). -/
def ACT_STAT (i : Nat) : Nat := 0x40084070 + 0x1000 * i
def ACT_STAT_STATE (i : Nat) : Fld := ⟨ACT_STAT i, 0, 4⟩
def ACT_STAT_REASON (i : Nat) : Fld := ⟨ACT_STAT i, 4, 3⟩
def ACT_STAT_AT_TARGET (i : Nat) : Fld := ⟨ACT_STAT i, 7, 1⟩
def ACT_STAT_STALLED (i : Nat) : Fld := ⟨ACT_STAT i, 8, 1⟩
def ACT_STAT_HOMED (i : Nat) : Fld := ⟨ACT_STAT i, 9, 1⟩
def ACT_STAT_ENGAGED (i : Nat) : Fld := ⟨ACT_STAT i, 10, 1⟩
def ACT_STAT_PARK_WAIT (i : Nat) : Fld := ⟨ACT_STAT i, 11, 1⟩
def ACT_STAT_DIR (i : Nat) : Fld := ⟨ACT_STAT i, 12, 1⟩
def ACT_STAT_SPD_VALID (i : Nat) : Fld := ⟨ACT_STAT i, 13, 1⟩
def ACT_STAT_ATTEMPTS (i : Nat) : Fld := ⟨ACT_STAT i, 16, 3⟩
def ACT_STAT_SECTOR (i : Nat) : Fld := ⟨ACT_STAT i, 20, 3⟩
/-- ACT_COUNT (R385). -/
def ACT_COUNT (i : Nat) : Nat := 0x40084074 + 0x1000 * i
def ACT_COUNT_VALUE (i : Nat) : Fld := ⟨ACT_COUNT i, 0, 32⟩
/-- ACT_SPEED (R385). -/
def ACT_SPEED (i : Nat) : Nat := 0x40084078 + 0x1000 * i
def ACT_SPEED_VALUE (i : Nat) : Fld := ⟨ACT_SPEED i, 0, 32⟩
/-- ACT_MEAS (R385). -/
def ACT_MEAS (i : Nat) : Nat := 0x4008407C + 0x1000 * i
def ACT_MEAS_EMF_PK (i : Nat) : Fld := ⟨ACT_MEAS i, 0, 16⟩
def ACT_MEAS_A_APP (i : Nat) : Fld := ⟨ACT_MEAS i, 24, 8⟩
/-- ACT_CNT (R385). -/
def ACT_CNT (i : Nat) : Nat := 0x40084080 + 0x1000 * i
def ACT_CNT_RETRIES (i : Nat) : Fld := ⟨ACT_CNT i, 0, 8⟩
def ACT_CNT_STALLS (i : Nat) : Fld := ⟨ACT_CNT i, 8, 8⟩
def ACT_CNT_ILLEGAL (i : Nat) : Fld := ⟨ACT_CNT i, 16, 8⟩
def ACT_CNT_DESYNC (i : Nat) : Fld := ⟨ACT_CNT i, 24, 8⟩
/-- DRL_CFG (R387). -/
def DRL_CFG : Nat := 0x40087040
def DRL_CFG_ACT : Fld := ⟨DRL_CFG, 0, 2⟩
def DRL_CFG_RETRY_MAX : Fld := ⟨DRL_CFG, 4, 4⟩
def DRL_CFG_TQ_CTX0 : Fld := ⟨DRL_CFG, 8, 8⟩
def DRL_CFG_TQ_CTX1 : Fld := ⟨DRL_CFG, 16, 8⟩
def DRL_CFG_TQ_OBS : Fld := ⟨DRL_CFG, 24, 4⟩
/-- DRL_POS (R387). -/
def DRL_POS : Nat := 0x40087044
def DRL_POS_POS_M0 : Fld := ⟨DRL_POS, 0, 2⟩
def DRL_POS_POS_M1 : Fld := ⟨DRL_POS, 2, 2⟩
def DRL_POS_POS_OUT : Fld := ⟨DRL_POS, 4, 2⟩
/-- DRL_KSYNC (R387). -/
def DRL_KSYNC : Nat := 0x40087048
def DRL_KSYNC_VALUE : Fld := ⟨DRL_KSYNC, 0, 32⟩
/-- DRL_TQ_SYNC (R387). -/
def DRL_TQ_SYNC : Nat := 0x4008704C
def DRL_TQ_SYNC_VALUE : Fld := ⟨DRL_TQ_SYNC, 0, 32⟩
/-- DRL_TQ_TH (R387). -/
def DRL_TQ_TH : Nat := 0x40087050
def DRL_TQ_TH_VALUE : Fld := ⟨DRL_TQ_TH, 0, 32⟩
/-- DRL_HAND (R387). -/
def DRL_HAND : Nat := 0x40087054
def DRL_HAND_VALUE : Fld := ⟨DRL_HAND, 0, 32⟩
/-- DRL_RST_RATE (R387). -/
def DRL_RST_RATE : Nat := 0x40087058
def DRL_RST_RATE_VALUE : Fld := ⟨DRL_RST_RATE, 0, 32⟩
/-- DRL_SYNC (R387). -/
def DRL_SYNC : Nat := 0x4008705C
def DRL_SYNC_SYNC_TOL : Fld := ⟨DRL_SYNC, 0, 16⟩
def DRL_SYNC_SYNC_HOLD : Fld := ⟨DRL_SYNC, 16, 10⟩
/-- DRL_RST (R387). -/
def DRL_RST : Nat := 0x40087060
def DRL_RST_RST_TO : Fld := ⟨DRL_RST, 0, 9⟩
/-- DRL_CTL (R387). -/
def DRL_CTL : Nat := 0x40087064
def DRL_CTL_GO : Fld := ⟨DRL_CTL, 0, 1⟩
def DRL_CTL_ABORT : Fld := ⟨DRL_CTL, 1, 1⟩
def DRL_CTL_START : Fld := ⟨DRL_CTL, 8, 3⟩
/-- DRL_STAT (R387). -/
def DRL_STAT : Nat := 0x40087068
def DRL_STAT_BUSY : Fld := ⟨DRL_STAT, 0, 1⟩
def DRL_STAT_SYNC_ON : Fld := ⟨DRL_STAT, 1, 1⟩
def DRL_STAT_RESTORING : Fld := ⟨DRL_STAT, 2, 1⟩
def DRL_STAT_STEP : Fld := ⟨DRL_STAT, 4, 3⟩
def DRL_STAT_RESULT : Fld := ⟨DRL_STAT, 8, 3⟩
def DRL_STAT_REASON : Fld := ⟨DRL_STAT, 12, 3⟩
def DRL_STAT_RETRY : Fld := ⟨DRL_STAT, 16, 4⟩
/-- DRL_TIME (R387). -/
def DRL_TIME : Nat := 0x4008706C
def DRL_TIME_STEP_MS : Fld := ⟨DRL_TIME, 0, 16⟩
def DRL_TIME_SHIFT_MS : Fld := ⟨DRL_TIME, 16, 16⟩
/-- DRL_SAVEk (R387). -/
def DRL_SAVE (k : Nat) : Nat := 0x40087070 + 0x4 * k
def DRL_SAVE_VALUE (k : Nat) : Fld := ⟨DRL_SAVE k, 0, 32⟩
/-- DRL_STEPk_CTL (R387). -/
def DRL_STEP_CTL (k : Nat) : Nat := 0x40087100 + 0x8 * k
def DRL_STEP_CTL_KIND (k : Nat) : Fld := ⟨DRL_STEP_CTL k, 0, 3⟩
def DRL_STEP_CTL_FB (k : Nat) : Fld := ⟨DRL_STEP_CTL k, 3, 2⟩
def DRL_STEP_CTL_GOTO (k : Nat) : Fld := ⟨DRL_STEP_CTL k, 5, 3⟩
def DRL_STEP_CTL_TIMEOUT (k : Nat) : Fld := ⟨DRL_STEP_CTL k, 8, 9⟩
/-- DRL_STEPk_PAR (R387). -/
def DRL_STEP_PAR (k : Nat) : Nat := 0x40087104 + 0x8 * k
def DRL_STEP_PAR_PAR (k : Nat) : Fld := ⟨DRL_STEP_PAR k, 0, 32⟩
/-- SAF_GRPn (R418). -/
def SAF_GRP (k : Nat) : Nat := 0x40090040 + 0x4 * k
def SAF_GRP_N_CROSS (k : Nat) : Fld := ⟨SAF_GRP k, 0, 16⟩
def SAF_GRP_AS_SIDE (k : Nat) : Fld := ⟨SAF_GRP k, 16, 1⟩
def SAF_GRP_TRAC (k : Nat) : Fld := ⟨SAF_GRP k, 17, 1⟩
def SAF_GRP_POS (k : Nat) : Fld := ⟨SAF_GRP k, 18, 2⟩
/-- SAF_CHOP (R418). -/
def SAF_CHOP : Nat := 0x40090070
def SAF_CHOP_MON : Fld := ⟨SAF_CHOP, 0, 5⟩
def SAF_CHOP_DLY : Fld := ⟨SAF_CHOP, 8, 7⟩
def SAF_CHOP_N : Fld := ⟨SAF_CHOP, 16, 4⟩
def SAF_CHOP_EN : Fld := ⟨SAF_CHOP, 20, 1⟩
/-- SAF_OV2 (R418). -/
def SAF_OV2 : Nat := 0x40090074
def SAF_OV2_MON : Fld := ⟨SAF_OV2, 0, 5⟩
def SAF_OV2_EN : Fld := ⟨SAF_OV2, 5, 1⟩
/-- SAF_HOLD (R418). -/
def SAF_HOLD : Nat := 0x40090078
def SAF_HOLD_HOLD_MAX : Fld := ⟨SAF_HOLD, 0, 10⟩
/-- SAF_SAFE (R418). -/
def SAF_SAFE : Nat := 0x4009007C
def SAF_SAFE_SAFE : Fld := ⟨SAF_SAFE, 0, 12⟩
def SAF_SAFE_BLOCKED : Fld := ⟨SAF_SAFE, 16, 12⟩
/-- SAF_REL (R418). -/
def SAF_REL : Nat := 0x40090080
def SAF_REL_GROUPS : Fld := ⟨SAF_REL, 0, 12⟩
/-- SAF_REL_STAT (R418). -/
def SAF_REL_STAT : Nat := 0x40090084
def SAF_REL_STAT_DENY : Fld := ⟨SAF_REL_STAT, 0, 4⟩
def SAF_REL_STAT_GROUP : Fld := ⟨SAF_REL_STAT, 4, 4⟩
/-- SAF_INJ (R418). -/
def SAF_INJ : Nat := 0x40090088
def SAF_INJ_LINE : Fld := ⟨SAF_INJ, 0, 7⟩
def SAF_INJ_GO : Fld := ⟨SAF_INJ, 8, 1⟩
def SAF_INJ_KEY : Fld := ⟨SAF_INJ, 16, 8⟩
/-- SAF_LAST (R418). -/
def SAF_LAST : Nat := 0x4009008C
def SAF_LAST_LINE : Fld := ⟨SAF_LAST, 0, 7⟩
def SAF_LAST_REACT : Fld := ⟨SAF_LAST, 8, 3⟩
def SAF_LAST_GROUPS : Fld := ⟨SAF_LAST, 16, 12⟩
/-- SAF_CHOPSTAT (R418). -/
def SAF_CHOPSTAT : Nat := 0x40090090
def SAF_CHOPSTAT_MISS : Fld := ⟨SAF_CHOPSTAT, 0, 4⟩
/-- SAF_CNT (R418). -/
def SAF_CNT : Nat := 0x40090094
def SAF_CNT_CMDS : Fld := ⟨SAF_CNT, 0, 16⟩
def SAF_CNT_RELEASES : Fld := ⟨SAF_CNT, 16, 16⟩
/-- SAF_PENDk (R418). -/
def SAF_PEND (k : Nat) : Nat := 0x400900A0 + 0x4 * k
def SAF_PEND_PENDING (k : Nat) : Fld := ⟨SAF_PEND k, 0, 32⟩
/-- SAF_RXNk (R418). -/
def SAF_RXN (k : Nat) : Nat := 0x40090100 + 0x4 * k
def SAF_RXN_REACT (k : Nat) : Fld := ⟨SAF_RXN k, 0, 3⟩
def SAF_RXN_OWN (k : Nat) : Fld := ⟨SAF_RXN k, 3, 1⟩
def SAF_RXN_MASK (k : Nat) : Fld := ⟨SAF_RXN k, 4, 12⟩
def SAF_RXN_SO (k : Nat) : Fld := ⟨SAF_RXN k, 16, 4⟩
/-- SIO_TP (R420). -/
def SIO_TP : Nat := 0x40091040
def SIO_TP_TP_EN : Fld := ⟨SIO_TP, 0, 1⟩
def SIO_TP_TP_W : Fld := ⟨SIO_TP, 4, 8⟩
def SIO_TP_TP_PER : Fld := ⟨SIO_TP, 16, 8⟩
/-- SIO_SO_CMD (R420). -/
def SIO_SO_CMD : Nat := 0x40091044
def SIO_SO_CMD_CTX : Fld := ⟨SIO_SO_CMD, 0, 8⟩
/-- SIO_SIn_CFG (R420). -/
def SIO_SI_CFG (k : Nat) : Nat := 0x40091100 + 0x10 * k
def SIO_SI_CFG_MODE (k : Nat) : Fld := ⟨SIO_SI_CFG k, 0, 2⟩
def SIO_SI_CFG_START (k : Nat) : Fld := ⟨SIO_SI_CFG k, 2, 1⟩
def SIO_SI_CFG_TP_A (k : Nat) : Fld := ⟨SIO_SI_CFG k, 3, 1⟩
def SIO_SI_CFG_TP_B (k : Nat) : Fld := ⟨SIO_SI_CFG k, 4, 1⟩
def SIO_SI_CFG_FILT (k : Nat) : Fld := ⟨SIO_SI_CFG k, 8, 4⟩
def SIO_SI_CFG_DISC (k : Nat) : Fld := ⟨SIO_SI_CFG k, 16, 9⟩
/-- SIO_SIn_STAT (R420). -/
def SIO_SI_STAT (k : Nat) : Nat := 0x40091104 + 0x10 * k
def SIO_SI_STAT_A (k : Nat) : Fld := ⟨SIO_SI_STAT k, 0, 2⟩
def SIO_SI_STAT_B (k : Nat) : Fld := ⟨SIO_SI_STAT k, 2, 2⟩
def SIO_SI_STAT_RUN (k : Nat) : Fld := ⟨SIO_SI_STAT k, 4, 1⟩
def SIO_SI_STAT_FIRST (k : Nat) : Fld := ⟨SIO_SI_STAT k, 5, 1⟩
def SIO_SI_STAT_FAULT (k : Nat) : Fld := ⟨SIO_SI_STAT k, 6, 1⟩
def SIO_SI_STAT_CAUSE (k : Nat) : Fld := ⟨SIO_SI_STAT k, 8, 2⟩
/-- SIO_SIn_CNT (R420). -/
def SIO_SI_CNT (k : Nat) : Nat := 0x4009110C + 0x10 * k
def SIO_SI_CNT_DEMANDS (k : Nat) : Fld := ⟨SIO_SI_CNT k, 0, 16⟩
def SIO_SI_CNT_FAULTS (k : Nat) : Fld := ⟨SIO_SI_CNT k, 16, 8⟩
/-- SIO_SOm_CFG (R420). -/
def SIO_SO_CFG (k : Nat) : Nat := 0x40091200 + 0x10 * k
def SIO_SO_CFG_EN (k : Nat) : Fld := ⟨SIO_SO_CFG k, 0, 1⟩
def SIO_SO_CFG_TP_EN (k : Nat) : Fld := ⟨SIO_SO_CFG k, 1, 1⟩
def SIO_SO_CFG_TP_W (k : Nat) : Fld := ⟨SIO_SO_CFG k, 4, 8⟩
def SIO_SO_CFG_TP_PER (k : Nat) : Fld := ⟨SIO_SO_CFG k, 16, 8⟩
def SIO_SO_CFG_DEG_MAX (k : Nat) : Fld := ⟨SIO_SO_CFG k, 24, 8⟩
/-- SIO_SOm_STAT (R420). -/
def SIO_SO_STAT (k : Nat) : Nat := 0x40091204 + 0x10 * k
def SIO_SO_STAT_REQ (k : Nat) : Fld := ⟨SIO_SO_STAT k, 0, 1⟩
def SIO_SO_STAT_ON (k : Nat) : Fld := ⟨SIO_SO_STAT k, 1, 1⟩
def SIO_SO_STAT_DEGRADED (k : Nat) : Fld := ⟨SIO_SO_STAT k, 2, 1⟩
def SIO_SO_STAT_FAULT (k : Nat) : Fld := ⟨SIO_SO_STAT k, 3, 1⟩
def SIO_SO_STAT_CAUSE (k : Nat) : Fld := ⟨SIO_SO_STAT k, 4, 3⟩
def SIO_SO_STAT_DEG_LEFT (k : Nat) : Fld := ⟨SIO_SO_STAT k, 16, 8⟩
/-- SIO_SOm_CNT (R420). -/
def SIO_SO_CNT (k : Nat) : Nat := 0x4009120C + 0x10 * k
def SIO_SO_CNT_TESTS (k : Nat) : Fld := ⟨SIO_SO_CNT k, 0, 16⟩
def SIO_SO_CNT_FAILS (k : Nat) : Fld := ⟨SIO_SO_CNT k, 16, 8⟩
/-- EPT_Ss_CFG (R422). -/
def EPT_CFG (k : Nat) : Nat := 0x40092100 + 0x40 * k
def EPT_CFG_EN (k : Nat) : Fld := ⟨EPT_CFG k, 0, 1⟩
def EPT_CFG_DIR (k : Nat) : Fld := ⟨EPT_CFG k, 1, 1⟩
def EPT_CFG_LEN (k : Nat) : Fld := ⟨EPT_CFG k, 2, 6⟩
def EPT_CFG_DEMAND_EN (k : Nat) : Fld := ⟨EPT_CFG k, 8, 1⟩
def EPT_CFG_DEMAND_BIT (k : Nat) : Fld := ⟨EPT_CFG k, 9, 8⟩
def EPT_CFG_EPOCH (k : Nat) : Fld := ⟨EPT_CFG k, 24, 8⟩
/-- EPT_Ss_SID (R422). -/
def EPT_SID (k : Nat) : Nat := 0x40092104 + 0x40 * k
def EPT_SID_SID (k : Nat) : Fld := ⟨EPT_SID k, 0, 16⟩
def EPT_SID_NET_A (k : Nat) : Fld := ⟨EPT_SID k, 16, 3⟩
def EPT_SID_NET_B (k : Nat) : Fld := ⟨EPT_SID k, 20, 3⟩
/-- EPT_Ss_BUF (R422). -/
def EPT_BUF (k : Nat) : Nat := 0x40092108 + 0x40 * k
def EPT_BUF_BUF_A (k : Nat) : Fld := ⟨EPT_BUF k, 0, 7⟩
def EPT_BUF_BUF_B (k : Nat) : Fld := ⟨EPT_BUF k, 8, 7⟩
/-- EPT_Ss_TIME (R422). -/
def EPT_TIME (k : Nat) : Nat := 0x4009210C + 0x40 * k
def EPT_TIME_WIN (k : Nat) : Fld := ⟨EPT_TIME k, 0, 7⟩
def EPT_TIME_PER_MAX (k : Nat) : Fld := ⟨EPT_TIME k, 8, 8⟩
def EPT_TIME_SINGLE_MAX (k : Nat) : Fld := ⟨EPT_TIME k, 16, 12⟩
/-- EPT_Ss_CTL (R422). -/
def EPT_CTL (k : Nat) : Nat := 0x40092110 + 0x40 * k
def EPT_CTL_SEND (k : Nat) : Fld := ⟨EPT_CTL k, 0, 1⟩
def EPT_CTL_RESET (k : Nat) : Fld := ⟨EPT_CTL k, 1, 1⟩
def EPT_CTL_EPOCH (k : Nat) : Fld := ⟨EPT_CTL k, 8, 8⟩
/-- EPT_Ss_STAT (R422). -/
def EPT_STAT (k : Nat) : Nat := 0x40092114 + 0x40 * k
def EPT_STAT_STATE (k : Nat) : Fld := ⟨EPT_STAT k, 0, 3⟩
def EPT_STAT_HOLDING (k : Nat) : Fld := ⟨EPT_STAT k, 3, 1⟩
def EPT_STAT_DEMAND (k : Nat) : Fld := ⟨EPT_STAT k, 4, 1⟩
def EPT_STAT_FRESH (k : Nat) : Fld := ⟨EPT_STAT k, 5, 1⟩
def EPT_STAT_CAUSE (k : Nat) : Fld := ⟨EPT_STAT k, 6, 2⟩
def EPT_STAT_EXP_EPOCH (k : Nat) : Fld := ⟨EPT_STAT k, 8, 8⟩
def EPT_STAT_SINGLE_LEFT (k : Nat) : Fld := ⟨EPT_STAT k, 16, 12⟩
/-- EPT_Ss_SEQ (R422). -/
def EPT_SEQ (k : Nat) : Nat := 0x40092118 + 0x40 * k
def EPT_SEQ_SEQ (k : Nat) : Fld := ⟨EPT_SEQ k, 0, 16⟩
def EPT_SEQ_HELD_SEQ (k : Nat) : Fld := ⟨EPT_SEQ k, 16, 16⟩
/-- EPT_Ss_CNT (R422). -/
def EPT_CNT (k : Nat) : Nat := 0x4009211C + 0x40 * k
def EPT_CNT_MISS_A (k : Nat) : Fld := ⟨EPT_CNT k, 0, 8⟩
def EPT_CNT_MISS_B (k : Nat) : Fld := ⟨EPT_CNT k, 8, 8⟩
def EPT_CNT_REJECT (k : Nat) : Fld := ⟨EPT_CNT k, 16, 8⟩
def EPT_CNT_MISMATCH (k : Nat) : Fld := ⟨EPT_CNT k, 24, 8⟩
/-- EPT_Ss_DATAk (R422). -/
def EPT_DATA (k j : Nat) : Nat := 0x40092120 + 0x40 * k + 0x4 * j
def EPT_DATA_BYTES (k j : Nat) : Fld := ⟨EPT_DATA k j, 0, 32⟩
/-- TND_DBG (R443). -/
def TND_DBG : Nat := 0x40003040
def TND_DBG_HALTED : Fld := ⟨TND_DBG, 0, 2⟩
def TND_DBG_REPLAY_TA : Fld := ⟨TND_DBG, 8, 6⟩
def TND_DBG_REPLAY_TB : Fld := ⟨TND_DBG, 16, 6⟩
/-- TND_Pp_CFG (R443). -/
def TND_CFG (k : Nat) : Nat := 0x40003100 + 0x40 * k
def TND_CFG_FOLD_PER (k : Nat) : Fld := ⟨TND_CFG k, 0, 7⟩
def TND_CFG_SC_MAX (k : Nat) : Fld := ⟨TND_CFG k, 8, 12⟩
def TND_CFG_TRANS_MAX (k : Nat) : Fld := ⟨TND_CFG k, 20, 4⟩
def TND_CFG_TRANS_WIN (k : Nat) : Fld := ⟨TND_CFG k, 24, 8⟩
/-- TND_Pp_TO (R443). -/
def TND_TO (k : Nat) : Nat := 0x40003104 + 0x40 * k
def TND_TO_SPLIT_TO (k : Nat) : Fld := ⟨TND_TO k, 0, 7⟩
def TND_TO_REJOIN_TO (k : Nat) : Fld := ⟨TND_TO k, 16, 7⟩
/-- TND_Pp_RVEC (R443). -/
def TND_RVEC (k : Nat) : Nat := 0x40003108 + 0x40 * k
def TND_RVEC_ADDR (k : Nat) : Fld := ⟨TND_RVEC k, 0, 32⟩
/-- TND_Pp_CVEC (R443). -/
def TND_CVEC (k : Nat) : Nat := 0x4000310C + 0x40 * k
def TND_CVEC_ADDR (k : Nat) : Fld := ⟨TND_CVEC k, 0, 32⟩
/-- TND_Pp_CWIN (R443). -/
def TND_CWIN (k : Nat) : Nat := 0x40003110 + 0x40 * k
def TND_CWIN_BASE (k : Nat) : Fld := ⟨TND_CWIN k, 0, 16⟩
def TND_CWIN_SIZE (k : Nat) : Fld := ⟨TND_CWIN k, 16, 4⟩
/-- TND_Pp_CTL (R443). -/
def TND_CTL (k : Nat) : Nat := 0x40003114 + 0x40 * k
def TND_CTL_SPLIT (k : Nat) : Fld := ⟨TND_CTL k, 0, 1⟩
def TND_CTL_REJOIN (k : Nat) : Fld := ⟨TND_CTL k, 1, 1⟩
def TND_CTL_ASSAY (k : Nat) : Fld := ⟨TND_CTL k, 2, 1⟩
def TND_CTL_FOLD (k : Nat) : Fld := ⟨TND_CTL k, 3, 1⟩
/-- TND_Pp_STAT (R443). -/
def TND_STAT (k : Nat) : Nat := 0x40003118 + 0x40 * k
def TND_STAT_STATE (k : Nat) : Fld := ⟨TND_STAT k, 0, 4⟩
def TND_STAT_VERDICT (k : Nat) : Fld := ⟨TND_STAT k, 4, 3⟩
def TND_STAT_CAUSE (k : Nat) : Fld := ⟨TND_STAT k, 8, 3⟩
def TND_STAT_HALTED (k : Nat) : Fld := ⟨TND_STAT k, 11, 1⟩
def TND_STAT_CHK_PARKED (k : Nat) : Fld := ⟨TND_STAT k, 12, 1⟩
def TND_STAT_SC_LEFT (k : Nat) : Fld := ⟨TND_STAT k, 16, 12⟩
/-- TND_Pp_MM (R443). -/
def TND_MM (k : Nat) : Nat := 0x4000311C + 0x40 * k
def TND_MM_KIND (k : Nat) : Fld := ⟨TND_MM k, 0, 2⟩
def TND_MM_WORD (k : Nat) : Fld := ⟨TND_MM k, 2, 7⟩
def TND_MM_WRITE (k : Nat) : Fld := ⟨TND_MM k, 9, 1⟩
/-- TND_Pp_MMADDR (R443). -/
def TND_MMADDR (k : Nat) : Nat := 0x40003120 + 0x40 * k
def TND_MMADDR_ADDR (k : Nat) : Fld := ⟨TND_MMADDR k, 0, 32⟩
/-- TND_Pp_CNT (R443). -/
def TND_CNT (k : Nat) : Nat := 0x40003124 + 0x40 * k
def TND_CNT_FOLDS (k : Nat) : Fld := ⟨TND_CNT k, 0, 16⟩
def TND_CNT_TRANSIENTS (k : Nat) : Fld := ⟨TND_CNT k, 16, 8⟩
def TND_CNT_SPLITS (k : Nat) : Fld := ⟨TND_CNT k, 24, 8⟩
/-- TND_Pp_CERR (R443). -/
def TND_CERR (k : Nat) : Nat := 0x40003128 + 0x40 * k
def TND_CERR_COUNT (k : Nat) : Fld := ⟨TND_CERR k, 0, 16⟩
def TND_CERR_KIND (k : Nat) : Fld := ⟨TND_CERR k, 16, 4⟩
/-- TND_Pp_ECC (R443). -/
def TND_ECC (k : Nat) : Nat := 0x4000312C + 0x40 * k
def TND_ECC_CE_MAIN (k : Nat) : Fld := ⟨TND_ECC k, 0, 8⟩
def TND_ECC_CE_CHK (k : Nat) : Fld := ⟨TND_ECC k, 8, 8⟩
/-- CAN_CTL (R468). -/
def CAN_CTL (i : Nat) : Nat := 0x400A0040 + 0x1000 * i
def CAN_CTL_EN (i : Nat) : Fld := ⟨CAN_CTL i, 0, 1⟩
def CAN_CTL_MODE (i : Nat) : Fld := ⟨CAN_CTL i, 1, 2⟩
def CAN_CTL_FD_EN (i : Nat) : Fld := ⟨CAN_CTL i, 3, 1⟩
def CAN_CTL_NO_RETX (i : Nat) : Fld := ⟨CAN_CTL i, 4, 1⟩
def CAN_CTL_AUTO_REC (i : Nat) : Fld := ⟨CAN_CTL i, 5, 1⟩
def CAN_CTL_RES_TOL (i : Nat) : Fld := ⟨CAN_CTL i, 6, 1⟩
def CAN_CTL_RECOVER (i : Nat) : Fld := ⟨CAN_CTL i, 7, 1⟩
/-- CAN_NBT (R468). -/
def CAN_NBT (i : Nat) : Nat := 0x400A0044 + 0x1000 * i
def CAN_NBT_N_PRESC (i : Nat) : Fld := ⟨CAN_NBT i, 0, 6⟩
def CAN_NBT_N_PH1 (i : Nat) : Fld := ⟨CAN_NBT i, 8, 8⟩
def CAN_NBT_N_PH2 (i : Nat) : Fld := ⟨CAN_NBT i, 16, 6⟩
def CAN_NBT_N_RJW (i : Nat) : Fld := ⟨CAN_NBT i, 24, 6⟩
/-- CAN_DBT (R468). -/
def CAN_DBT (i : Nat) : Nat := 0x400A0048 + 0x1000 * i
def CAN_DBT_D_PRESC (i : Nat) : Fld := ⟨CAN_DBT i, 0, 4⟩
def CAN_DBT_D_PH1 (i : Nat) : Fld := ⟨CAN_DBT i, 8, 6⟩
def CAN_DBT_D_PH2 (i : Nat) : Fld := ⟨CAN_DBT i, 16, 5⟩
def CAN_DBT_D_RJW (i : Nat) : Fld := ⟨CAN_DBT i, 24, 5⟩
/-- CAN_TDC (R468). -/
def CAN_TDC (i : Nat) : Nat := 0x400A004C + 0x1000 * i
def CAN_TDC_TDC_EN (i : Nat) : Fld := ⟨CAN_TDC i, 0, 1⟩
def CAN_TDC_SSP_OFS (i : Nat) : Fld := ⟨CAN_TDC i, 8, 7⟩
def CAN_TDC_DLY_MIN (i : Nat) : Fld := ⟨CAN_TDC i, 16, 7⟩
def CAN_TDC_DLY_MEAS (i : Nat) : Fld := ⟨CAN_TDC i, 24, 8⟩
/-- CAN_STAT (R468). -/
def CAN_STAT (i : Nat) : Nat := 0x400A0050 + 0x1000 * i
def CAN_STAT_STATE (i : Nat) : Fld := ⟨CAN_STAT i, 0, 2⟩
def CAN_STAT_RECOVERING (i : Nat) : Fld := ⟨CAN_STAT i, 2, 1⟩
def CAN_STAT_RES_SEEN (i : Nat) : Fld := ⟨CAN_STAT i, 3, 1⟩
def CAN_STAT_ACT (i : Nat) : Fld := ⟨CAN_STAT i, 4, 2⟩
def CAN_STAT_TEC (i : Nat) : Fld := ⟨CAN_STAT i, 8, 8⟩
def CAN_STAT_REC (i : Nat) : Fld := ⟨CAN_STAT i, 16, 8⟩
/-- CAN_ERRC (R468). -/
def CAN_ERRC (i : Nat) : Nat := 0x400A0054 + 0x1000 * i
def CAN_ERRC_LAST_ERR (i : Nat) : Fld := ⟨CAN_ERRC i, 0, 3⟩
def CAN_ERRC_ERR_DPHASE (i : Nat) : Fld := ⟨CAN_ERRC i, 3, 1⟩
def CAN_ERRC_ID_COLLISION (i : Nat) : Fld := ⟨CAN_ERRC i, 8, 8⟩
def CAN_ERRC_BUSOFF_CNT (i : Nat) : Fld := ⟨CAN_ERRC i, 16, 8⟩
def CAN_ERRC_ERRFRM (i : Nat) : Fld := ⟨CAN_ERRC i, 24, 8⟩
/-- CAN_BUFCMD (R468). -/
def CAN_BUFCMD (i : Nat) : Nat := 0x400A0058 + 0x1000 * i
def CAN_BUFCMD_BUF (i : Nat) : Fld := ⟨CAN_BUFCMD i, 0, 7⟩
def CAN_BUFCMD_OP (i : Nat) : Fld := ⟨CAN_BUFCMD i, 8, 2⟩
def CAN_BUFCMD_EPOCH (i : Nat) : Fld := ⟨CAN_BUFCMD i, 16, 8⟩
/-- CAN_RXDROP (R468). -/
def CAN_RXDROP (i : Nat) : Nat := 0x400A005C + 0x1000 * i
def CAN_RXDROP_COUNT (i : Nat) : Fld := ⟨CAN_RXDROP i, 0, 16⟩
def CAN_RXDROP_OVERRUN (i : Nat) : Fld := ⟨CAN_RXDROP i, 16, 16⟩
/-- CAN_PENDj (R468). -/
def CAN_PEND (i k : Nat) : Nat := 0x400A0060 + 0x1000 * i + 0x4 * k
def CAN_PEND_BITS (i k : Nat) : Fld := ⟨CAN_PEND i k, 0, 32⟩
/-- CAN_NEWj (R468). -/
def CAN_NEW (i k : Nat) : Nat := 0x400A0070 + 0x1000 * i + 0x4 * k
def CAN_NEW_BITS (i k : Nat) : Fld := ⟨CAN_NEW i k, 0, 32⟩
/-- CAN_BUFk_CFG (R468). -/
def CAN_BUF_CFG (i k : Nat) : Nat := 0x400A0200 + 0x1000 * i + 0x4 * k
def CAN_BUF_CFG_ID (i k : Nat) : Fld := ⟨CAN_BUF_CFG i k, 0, 29⟩
def CAN_BUF_CFG_IDE (i k : Nat) : Fld := ⟨CAN_BUF_CFG i k, 29, 1⟩
def CAN_BUF_CFG_DIR (i k : Nat) : Fld := ⟨CAN_BUF_CFG i k, 30, 1⟩
def CAN_BUF_CFG_EN (i k : Nat) : Fld := ⟨CAN_BUF_CFG i k, 31, 1⟩
/-- CAN_BUFk_MASK (R468). -/
def CAN_BUF_MASK (i k : Nat) : Nat := 0x400A0400 + 0x1000 * i + 0x4 * k
def CAN_BUF_MASK_MASK (i k : Nat) : Fld := ⟨CAN_BUF_MASK i k, 0, 29⟩
/-- ETH_CTL (R470). -/
def ETH_CTL (i : Nat) : Nat := 0x400C0040 + 0x1000 * i
def ETH_CTL_EN (i : Nat) : Fld := ⟨ETH_CTL i, 0, 1⟩
def ETH_CTL_ROLE (i : Nat) : Fld := ⟨ETH_CTL i, 1, 1⟩
def ETH_CTL_LOOP (i : Nat) : Fld := ⟨ETH_CTL i, 2, 1⟩
def ETH_CTL_PROMISC (i : Nat) : Fld := ⟨ETH_CTL i, 3, 1⟩
/-- ETH_STAT (R470). -/
def ETH_STAT (i : Nat) : Nat := 0x400C0044 + 0x1000 * i
def ETH_STAT_LINK (i : Nat) : Fld := ⟨ETH_STAT i, 0, 1⟩
def ETH_STAT_SQI (i : Nat) : Fld := ⟨ETH_STAT i, 1, 3⟩
/-- ETH_MACL (R470). -/
def ETH_MACL (i : Nat) : Nat := 0x400C0048 + 0x1000 * i
def ETH_MACL_MAC (i : Nat) : Fld := ⟨ETH_MACL i, 0, 32⟩
/-- ETH_MACH (R470). -/
def ETH_MACH (i : Nat) : Nat := 0x400C004C + 0x1000 * i
def ETH_MACH_MAC (i : Nat) : Fld := ⟨ETH_MACH i, 0, 16⟩
/-- ETH_IP (R470). -/
def ETH_IP (i : Nat) : Nat := 0x400C0050 + 0x1000 * i
def ETH_IP_IP (i : Nat) : Fld := ⟨ETH_IP i, 0, 32⟩
/-- ETH_EPT_PORT (R470). -/
def ETH_EPT_PORT (i : Nat) : Nat := 0x400C0054 + 0x1000 * i
def ETH_EPT_PORT_PORT (i : Nat) : Fld := ⟨ETH_EPT_PORT i, 0, 16⟩
def ETH_EPT_PORT_EPT_EN (i : Nat) : Fld := ⟨ETH_EPT_PORT i, 16, 1⟩
/-- ETH_EPT_PEER_IP (R470). -/
def ETH_EPT_PEER_IP (i : Nat) : Nat := 0x400C0058 + 0x1000 * i
def ETH_EPT_PEER_IP_IP (i : Nat) : Fld := ⟨ETH_EPT_PEER_IP i, 0, 32⟩
/-- ETH_EPT_PEER_MACL (R470). -/
def ETH_EPT_PEER_MACL (i : Nat) : Nat := 0x400C005C + 0x1000 * i
def ETH_EPT_PEER_MACL_MAC (i : Nat) : Fld := ⟨ETH_EPT_PEER_MACL i, 0, 32⟩
/-- ETH_EPT_PEER_MACH (R470). -/
def ETH_EPT_PEER_MACH (i : Nat) : Nat := 0x400C0060 + 0x1000 * i
def ETH_EPT_PEER_MACH_MAC (i : Nat) : Fld := ⟨ETH_EPT_PEER_MACH i, 0, 16⟩
/-- ETH_RXRING (R470). -/
def ETH_RXRING (i : Nat) : Nat := 0x400C0064 + 0x1000 * i
def ETH_RXRING_BASE (i : Nat) : Fld := ⟨ETH_RXRING i, 0, 32⟩
/-- ETH_TXRING (R470). -/
def ETH_TXRING (i : Nat) : Nat := 0x400C0068 + 0x1000 * i
def ETH_TXRING_BASE (i : Nat) : Fld := ⟨ETH_TXRING i, 0, 32⟩
/-- ETH_RING (R470). -/
def ETH_RING (i : Nat) : Nat := 0x400C006C + 0x1000 * i
def ETH_RING_RX_LOG2 (i : Nat) : Fld := ⟨ETH_RING i, 0, 4⟩
def ETH_RING_TX_LOG2 (i : Nat) : Fld := ⟨ETH_RING i, 4, 4⟩
/-- ETH_TXKICK (R470). -/
def ETH_TXKICK (i : Nat) : Nat := 0x400C0070 + 0x1000 * i
def ETH_TXKICK_KICK (i : Nat) : Fld := ⟨ETH_TXKICK i, 0, 1⟩
/-- ETH_IDX (R470). -/
def ETH_IDX (i : Nat) : Nat := 0x400C0074 + 0x1000 * i
def ETH_IDX_RX_NEXT (i : Nat) : Fld := ⟨ETH_IDX i, 0, 8⟩
def ETH_IDX_TX_NEXT (i : Nat) : Fld := ⟨ETH_IDX i, 8, 8⟩
/-- ETH_CNT (R470). -/
def ETH_CNT (i : Nat) : Nat := 0x400C0078 + 0x1000 * i
def ETH_CNT_FCS_ERR (i : Nat) : Fld := ⟨ETH_CNT i, 0, 8⟩
def ETH_CNT_RX_NOBUF (i : Nat) : Fld := ⟨ETH_CNT i, 8, 8⟩
def ETH_CNT_EPT_REJ (i : Nat) : Fld := ⟨ETH_CNT i, 16, 8⟩
def ETH_CNT_LINK_DOWN (i : Nat) : Fld := ⟨ETH_CNT i, 24, 8⟩
/-- HSP_CTL (R472). -/
def HSP_CTL : Nat := 0x400C2040
def HSP_CTL_EN : Fld := ⟨HSP_CTL, 0, 1⟩
/-- HSP_IRQ (R472). -/
def HSP_IRQ : Nat := 0x400C2044
def HSP_IRQ_REQ : Fld := ⟨HSP_IRQ, 0, 1⟩
def HSP_IRQ_ERR_EN : Fld := ⟨HSP_IRQ, 1, 1⟩
/-- HSP_STAT (R472). -/
def HSP_STAT : Nat := 0x400C2048
def HSP_STAT_BUSY : Fld := ⟨HSP_STAT, 0, 1⟩
def HSP_STAT_RESULT : Fld := ⟨HSP_STAT, 4, 4⟩
def HSP_STAT_TAG : Fld := ⟨HSP_STAT, 8, 4⟩
/-- HSP_CNT (R472). -/
def HSP_CNT : Nat := 0x400C204C
def HSP_CNT_CRC_ERR : Fld := ⟨HSP_CNT, 0, 8⟩
def HSP_CNT_LEN_ERR : Fld := ⟨HSP_CNT, 8, 8⟩
def HSP_CNT_TIMEOUT : Fld := ⟨HSP_CNT, 16, 8⟩
def HSP_CNT_BUSY_REJ : Fld := ⟨HSP_CNT, 24, 8⟩
/-- AUXL_CTL (R472). -/
def AUXL_CTL : Nat := 0x400C2080
def AUXL_CTL_EN : Fld := ⟨AUXL_CTL, 0, 1⟩
def AUXL_CTL_LINK_TO : Fld := ⟨AUXL_CTL, 4, 10⟩
/-- AUXL_RX0 (R472). -/
def AUXL_RX0 : Nat := 0x400C2084
def AUXL_RX0_BYTES : Fld := ⟨AUXL_RX0, 0, 32⟩
/-- AUXL_RX1 (R472). -/
def AUXL_RX1 : Nat := 0x400C2088
def AUXL_RX1_BYTES : Fld := ⟨AUXL_RX1, 0, 32⟩
/-- AUXL_STAT (R472). -/
def AUXL_STAT : Nat := 0x400C208C
def AUXL_STAT_NEW : Fld := ⟨AUXL_STAT, 0, 1⟩
def AUXL_STAT_TO_FLAG : Fld := ⟨AUXL_STAT, 1, 1⟩
def AUXL_STAT_TX_BUSY : Fld := ⟨AUXL_STAT, 2, 1⟩
/-- AUXL_TX0 (R472). -/
def AUXL_TX0 : Nat := 0x400C2090
def AUXL_TX0_BYTES : Fld := ⟨AUXL_TX0, 0, 32⟩
/-- AUXL_TX1 (R472). -/
def AUXL_TX1 : Nat := 0x400C2094
def AUXL_TX1_BYTES : Fld := ⟨AUXL_TX1, 0, 24⟩
/-- AUXL_TXCTL (R472). -/
def AUXL_TXCTL : Nat := 0x400C2098
def AUXL_TXCTL_SEND : Fld := ⟨AUXL_TXCTL, 0, 1⟩
/-- AUXL_CNT (R472). -/
def AUXL_CNT : Nat := 0x400C209C
def AUXL_CNT_CRC_ERR : Fld := ⟨AUXL_CNT, 0, 8⟩
def AUXL_CNT_FRAMING : Fld := ⟨AUXL_CNT, 8, 8⟩
def AUXL_CNT_OVERRUN : Fld := ⟨AUXL_CNT, 16, 8⟩
def AUXL_CNT_TIMEOUTS : Fld := ⟨AUXL_CNT, 24, 8⟩
/-- SEC_LC (R506). -/
def SEC_LC : Nat := 0x400D0040
def SEC_LC_STATE : Fld := ⟨SEC_LC, 0, 3⟩
def SEC_LC_REQ : Fld := ⟨SEC_LC, 3, 3⟩
def SEC_LC_HELD : Fld := ⟨SEC_LC, 6, 1⟩
/-- SEC_BOOT (R506). -/
def SEC_BOOT : Nat := 0x400D0044
def SEC_BOOT_STAGE : Fld := ⟨SEC_BOOT, 0, 3⟩
def SEC_BOOT_SLOT : Fld := ⟨SEC_BOOT, 3, 2⟩
def SEC_BOOT_PREF : Fld := ⟨SEC_BOOT, 5, 1⟩
def SEC_BOOT_TRIAL : Fld := ⟨SEC_BOOT, 6, 1⟩
def SEC_BOOT_CFG_DEFAULT : Fld := ⟨SEC_BOOT, 7, 1⟩
def SEC_BOOT_RES_A : Fld := ⟨SEC_BOOT, 8, 3⟩
def SEC_BOOT_RES_B : Fld := ⟨SEC_BOOT, 11, 3⟩
/-- SEC_BOOT_TIME (R506). -/
def SEC_BOOT_TIME : Nat := 0x400D0048
def SEC_BOOT_TIME_EARLY_MS : Fld := ⟨SEC_BOOT_TIME, 0, 16⟩
def SEC_BOOT_TIME_FULL_MS : Fld := ⟨SEC_BOOT_TIME, 16, 16⟩
/-- SEC_VER (R506). -/
def SEC_VER : Nat := 0x400D004C
def SEC_VER_RB_CNT : Fld := ⟨SEC_VER, 0, 7⟩
def SEC_VER_RUN_VER : Fld := ⟨SEC_VER, 8, 8⟩
def SEC_VER_VER_A : Fld := ⟨SEC_VER, 16, 8⟩
def SEC_VER_VER_B : Fld := ⟨SEC_VER, 24, 8⟩
/-- SEC_CTL (R506). -/
def SEC_CTL : Nat := 0x400D0050
def SEC_CTL_CONFIRM : Fld := ⟨SEC_CTL, 0, 1⟩
def SEC_CTL_ADVANCE : Fld := ⟨SEC_CTL, 1, 1⟩
def SEC_CTL_KEY : Fld := ⟨SEC_CTL, 8, 8⟩
/-- SEC_IMG_CTL (R506). -/
def SEC_IMG_CTL : Nat := 0x400D0054
def SEC_IMG_CTL_OPEN : Fld := ⟨SEC_IMG_CTL, 0, 1⟩
def SEC_IMG_CTL_CLOSE : Fld := ⟨SEC_IMG_CTL, 1, 1⟩
def SEC_IMG_CTL_ACTIVATE : Fld := ⟨SEC_IMG_CTL, 2, 1⟩
def SEC_IMG_CTL_SLOT : Fld := ⟨SEC_IMG_CTL, 3, 1⟩
/-- SEC_IMG_STAT (R506). -/
def SEC_IMG_STAT : Nat := 0x400D0058
def SEC_IMG_STAT_OPENED : Fld := ⟨SEC_IMG_STAT, 0, 2⟩
def SEC_IMG_STAT_IMG_BUSY : Fld := ⟨SEC_IMG_STAT, 2, 1⟩
def SEC_IMG_STAT_RES : Fld := ⟨SEC_IMG_STAT, 3, 3⟩
def SEC_IMG_STAT_IMG_TEMP_OK : Fld := ⟨SEC_IMG_STAT, 6, 1⟩
def SEC_IMG_STAT_OTP_TEMP_OK : Fld := ⟨SEC_IMG_STAT, 7, 1⟩
/-- SEC_KEYREV (R506). -/
def SEC_KEYREV : Nat := 0x400D005C
def SEC_KEYREV_ECDSA : Fld := ⟨SEC_KEYREV, 0, 4⟩
def SEC_KEYREV_LMS : Fld := ⟨SEC_KEYREV, 4, 4⟩
/-- SEC_ATT_CTL (R506). -/
def SEC_ATT_CTL : Nat := 0x400D0060
def SEC_ATT_CTL_GO : Fld := ⟨SEC_ATT_CTL, 0, 1⟩
def SEC_ATT_CTL_DONE : Fld := ⟨SEC_ATT_CTL, 1, 1⟩
/-- SEC_ATT_ADDR (R506). -/
def SEC_ATT_ADDR : Nat := 0x400D0064
def SEC_ATT_ADDR_ADDR : Fld := ⟨SEC_ATT_ADDR, 0, 32⟩
/-- SEC_IDk (R506). -/
def SEC_ID (k : Nat) : Nat := 0x400D0068 + 0x4 * k
def SEC_ID_ID (k : Nat) : Fld := ⟨SEC_ID k, 0, 32⟩
/-- SEC_EARLY0 (R506). -/
def SEC_EARLY0 : Nat := 0x400D0080
def SEC_EARLY0_MA_EN : Fld := ⟨SEC_EARLY0, 0, 1⟩
def SEC_EARLY0_MB_EN : Fld := ⟨SEC_EARLY0, 1, 1⟩
def SEC_EARLY0_PARK_EN : Fld := ⟨SEC_EARLY0, 2, 1⟩
def SEC_EARLY0_FSW : Fld := ⟨SEC_EARLY0, 8, 7⟩
def SEC_EARLY0_EARLY_MAX : Fld := ⟨SEC_EARLY0, 16, 10⟩
/-- SEC_EARLY1 (R506). -/
def SEC_EARLY1 : Nat := 0x400D0084
def SEC_EARLY1_TQ_MAX : Fld := ⟨SEC_EARLY1, 0, 32⟩
/-- SEC_EARLY2 (R506). -/
def SEC_EARLY2 : Nat := 0x400D0088
def SEC_EARLY2_ID : Fld := ⟨SEC_EARLY2, 0, 29⟩
def SEC_EARLY2_IDE : Fld := ⟨SEC_EARLY2, 29, 1⟩
def SEC_EARLY2_CAN : Fld := ⟨SEC_EARLY2, 30, 2⟩
/-- SEC_EARLY3 (R506). -/
def SEC_EARLY3 : Nat := 0x400D008C
def SEC_EARLY3_EARLY_SPD : Fld := ⟨SEC_EARLY3, 0, 16⟩
def SEC_EARLY3_BYTE : Fld := ⟨SEC_EARLY3, 16, 6⟩
def SEC_EARLY3_DEM_TO : Fld := ⟨SEC_EARLY3, 24, 8⟩
/-- SEC_DBG_CTL (R506). -/
def SEC_DBG_CTL : Nat := 0x400D00C0
def SEC_DBG_CTL_OPEN_REQ : Fld := ⟨SEC_DBG_CTL, 0, 1⟩
def SEC_DBG_CTL_CLOSE : Fld := ⟨SEC_DBG_CTL, 1, 1⟩
def SEC_DBG_CTL_OPENED : Fld := ⟨SEC_DBG_CTL, 2, 1⟩
def SEC_DBG_CTL_PAIR : Fld := ⟨SEC_DBG_CTL, 3, 1⟩
def SEC_DBG_CTL_HALT : Fld := ⟨SEC_DBG_CTL, 4, 1⟩
def SEC_DBG_CTL_RESUME : Fld := ⟨SEC_DBG_CTL, 5, 1⟩
def SEC_DBG_CTL_STEP : Fld := ⟨SEC_DBG_CTL, 6, 1⟩
def SEC_DBG_CTL_GO : Fld := ⟨SEC_DBG_CTL, 7, 1⟩
def SEC_DBG_CTL_OP : Fld := ⟨SEC_DBG_CTL, 8, 2⟩
def SEC_DBG_CTL_KIND : Fld := ⟨SEC_DBG_CTL, 10, 4⟩
/-- SEC_DBG_ADDR (R506). -/
def SEC_DBG_ADDR : Nat := 0x400D00C4
def SEC_DBG_ADDR_VALUE : Fld := ⟨SEC_DBG_ADDR, 0, 32⟩
/-- SEC_DBG_DATA (R506). -/
def SEC_DBG_DATA : Nat := 0x400D00C8
def SEC_DBG_DATA_VALUE : Fld := ⟨SEC_DBG_DATA, 0, 32⟩
/-- ROL_SESS (R508). -/
def ROL_SESS : Nat := 0x400D1040
def ROL_SESS_ROLE : Fld := ⟨ROL_SESS, 0, 2⟩
def ROL_SESS_CRED : Fld := ⟨ROL_SESS, 4, 4⟩
def ROL_SESS_LEFT_S : Fld := ⟨ROL_SESS, 16, 10⟩
/-- ROL_CTL (R508). -/
def ROL_CTL : Nat := 0x400D1044
def ROL_CTL_NONCE : Fld := ⟨ROL_CTL, 0, 1⟩
def ROL_CTL_SUBMIT : Fld := ⟨ROL_CTL, 1, 1⟩
def ROL_CTL_LOGOUT : Fld := ⟨ROL_CTL, 2, 1⟩
/-- ROL_RESULT (R508). -/
def ROL_RESULT : Nat := 0x400D1048
def ROL_RESULT_BUSY : Fld := ⟨ROL_RESULT, 0, 1⟩
def ROL_RESULT_RESULT : Fld := ⟨ROL_RESULT, 1, 2⟩
def ROL_RESULT_REASON : Fld := ⟨ROL_RESULT, 8, 4⟩
/-- ROL_CHG_CTL (R508). -/
def ROL_CHG_CTL : Nat := 0x400D104C
def ROL_CHG_CTL_OPEN : Fld := ⟨ROL_CHG_CTL, 0, 1⟩
def ROL_CHG_CTL_SEAL : Fld := ⟨ROL_CHG_CTL, 1, 1⟩
def ROL_CHG_CTL_ABORT : Fld := ⟨ROL_CHG_CTL, 2, 1⟩
def ROL_CHG_CTL_PAGES : Fld := ⟨ROL_CHG_CTL, 8, 6⟩
/-- ROL_CHG_STAT (R508). -/
def ROL_CHG_STAT : Nat := 0x400D1050
def ROL_CHG_STAT_STATE : Fld := ⟨ROL_CHG_STAT, 0, 3⟩
def ROL_CHG_STAT_CRED1 : Fld := ⟨ROL_CHG_STAT, 4, 4⟩
def ROL_CHG_STAT_FAILS : Fld := ⟨ROL_CHG_STAT, 8, 2⟩
def ROL_CHG_STAT_DISCARD : Fld := ⟨ROL_CHG_STAT, 10, 3⟩
def ROL_CHG_STAT_LEFT_S : Fld := ⟨ROL_CHG_STAT, 16, 10⟩
/-- ROL_CHG_SEQ (R508). -/
def ROL_CHG_SEQ : Nat := 0x400D1054
def ROL_CHG_SEQ_SEQ : Fld := ⟨ROL_CHG_SEQ, 0, 32⟩
/-- ROL_NONCEk (R508). -/
def ROL_NONCE (k : Nat) : Nat := 0x400D1060 + 0x4 * k
def ROL_NONCE_BYTES (k : Nat) : Fld := ⟨ROL_NONCE k, 0, 32⟩
/-- ROL_DIGESTk (R508). -/
def ROL_DIGEST (k : Nat) : Nat := 0x400D1080 + 0x4 * k
def ROL_DIGEST_BYTES (k : Nat) : Fld := ⟨ROL_DIGEST k, 0, 32⟩
/-- ROL_STMTk (R508). -/
def ROL_STMT (k : Nat) : Nat := 0x400D1100 + 0x4 * k
def ROL_STMT_BYTES (k : Nat) : Fld := ⟨ROL_STMT k, 0, 32⟩
/-- ROL_KEYk (R508). -/
def ROL_KEY (k : Nat) : Nat := 0x400D11C4 + 0x4 * k
def ROL_KEY_BYTES (k : Nat) : Fld := ⟨ROL_KEY k, 0, 32⟩
/-- ROL_CREDk (R508). -/
def ROL_CRED (k : Nat) : Nat := 0x400D1300 + 0x4 * k
def ROL_CRED_ROLE (k : Nat) : Fld := ⟨ROL_CRED k, 0, 2⟩
def ROL_CRED_EN (k : Nat) : Fld := ⟨ROL_CRED k, 2, 1⟩
/-- ROL_CREDk_DIGj (R508). -/
def ROL_CRED_DIG (k j : Nat) : Nat := 0x400D1400 + 0x30 * k + 0x4 * j
def ROL_CRED_DIG_BYTES (k j : Nat) : Fld := ⟨ROL_CRED_DIG k j, 0, 32⟩
/-- REC_CTL (R542). -/
def REC_CTL : Nat := 0x400D3040
def REC_CTL_FLUSH : Fld := ⟨REC_CTL, 0, 1⟩
def REC_CTL_RATE_N : Fld := ⟨REC_CTL, 8, 8⟩
def REC_CTL_RATE_WIN : Fld := ⟨REC_CTL, 16, 8⟩
/-- REC_STAT (R542). -/
def REC_STAT : Nat := 0x400D3044
def REC_STAT_PHASE : Fld := ⟨REC_STAT, 0, 2⟩
def REC_STAT_FLUSHING : Fld := ⟨REC_STAT, 2, 1⟩
def REC_STAT_PF : Fld := ⟨REC_STAT, 3, 1⟩
def REC_STAT_CLEARING : Fld := ⟨REC_STAT, 4, 1⟩
def REC_STAT_BACKLOG : Fld := ⟨REC_STAT, 8, 13⟩
/-- REC_SEQ (R542). -/
def REC_SEQ : Nat := 0x400D3048
def REC_SEQ_SEQ : Fld := ⟨REC_SEQ, 0, 32⟩
/-- REC_OPSEC (R542). -/
def REC_OPSEC : Nat := 0x400D304C
def REC_OPSEC_OPSEC : Fld := ⟨REC_OPSEC, 0, 32⟩
/-- REC_PCC (R542). -/
def REC_PCC : Nat := 0x400D3050
def REC_PCC_PCC : Fld := ⟨REC_PCC, 0, 32⟩
/-- REC_HEAD (R542). -/
def REC_HEAD : Nat := 0x400D3054
def REC_HEAD_INDEX : Fld := ⟨REC_HEAD, 0, 20⟩
/-- REC_TAIL (R542). -/
def REC_TAIL : Nat := 0x400D3058
def REC_TAIL_INDEX : Fld := ⟨REC_TAIL, 0, 20⟩
def REC_TAIL_WRAPPED : Fld := ⟨REC_TAIL, 20, 1⟩
/-- REC_RING (R542). -/
def REC_RING : Nat := 0x400D305C
def REC_RING_WR : Fld := ⟨REC_RING, 0, 13⟩
def REC_RING_FL : Fld := ⟨REC_RING, 16, 13⟩
/-- REC_FLUSH (R542). -/
def REC_FLUSH : Nat := 0x400D3060
def REC_FLUSH_CAUSE : Fld := ⟨REC_FLUSH, 0, 3⟩
def REC_FLUSH_RESULT : Fld := ⟨REC_FLUSH, 3, 2⟩
def REC_FLUSH_COUNT : Fld := ⟨REC_FLUSH, 16, 16⟩
/-- REC_CNT (R542). -/
def REC_CNT : Nat := 0x400D3064
def REC_CNT_LOST : Fld := ⟨REC_CNT, 0, 16⟩
def REC_CNT_WRAP_LOST : Fld := ⟨REC_CNT, 16, 16⟩
/-- REC_CNT2 (R542). -/
def REC_CNT2 : Nat := 0x400D3068
def REC_CNT2_TABLE_FULL : Fld := ⟨REC_CNT2, 0, 16⟩
def REC_CNT2_SUPPRESSED : Fld := ⟨REC_CNT2, 16, 16⟩
/-- REC_HCFGk (R542). -/
def REC_HCFG (k : Nat) : Nat := 0x400D3100 + 0x10 * k
def REC_HCFG_SRC (k : Nat) : Fld := ⟨REC_HCFG k, 0, 16⟩
def REC_HCFG_DIV (k : Nat) : Fld := ⟨REC_HCFG k, 16, 16⟩
/-- REC_HLOk (R542). -/
def REC_HLO (k : Nat) : Nat := 0x400D3104 + 0x10 * k
def REC_HLO_LO (k : Nat) : Fld := ⟨REC_HLO k, 0, 32⟩
/-- REC_HWIDk (R542). -/
def REC_HWID (k : Nat) : Nat := 0x400D3108 + 0x10 * k
def REC_HWID_WIDTH (k : Nat) : Fld := ⟨REC_HWID k, 0, 32⟩
/-- REC_XCFGk (R542). -/
def REC_XCFG (k : Nat) : Nat := 0x400D3300 + 0x4 * k
def REC_XCFG_SRC (k : Nat) : Fld := ⟨REC_XCFG k, 0, 16⟩
def REC_XCFG_DIV (k : Nat) : Fld := ⟨REC_XCFG k, 16, 16⟩
/-- TMP_CFG (R543). -/
def TMP_CFG : Nat := 0x400D4040
def TMP_CFG_TJ_WARN : Fld := ⟨TMP_CFG, 0, 8⟩
def TMP_CFG_TJ_LIMIT : Fld := ⟨TMP_CFG, 8, 8⟩
/-- TMP_DIEMAX (R543). -/
def TMP_DIEMAX : Nat := 0x400D4044
def TMP_DIEMAX_VALUE : Fld := ⟨TMP_DIEMAX, 0, 16⟩
def TMP_DIEMAX_INDEX : Fld := ⟨TMP_DIEMAX, 16, 5⟩
def TMP_DIEMAX_VALID : Fld := ⟨TMP_DIEMAX, 21, 1⟩
/-- TMP_GMAXg (R543). -/
def TMP_GMAX (k : Nat) : Nat := 0x400D4048 + 0x4 * k
def TMP_GMAX_VALUE (k : Nat) : Fld := ⟨TMP_GMAX k, 0, 16⟩
def TMP_GMAX_INDEX (k : Nat) : Fld := ⟨TMP_GMAX k, 16, 5⟩
def TMP_GMAX_VALID (k : Nat) : Fld := ⟨TMP_GMAX k, 21, 1⟩
/-- TMP_SVALID (R543). -/
def TMP_SVALID : Nat := 0x400D4058
def TMP_SVALID_VALID : Fld := ⟨TMP_SVALID, 0, 27⟩
/-- TMP_DRTk_CFG (R543). -/
def TMP_DRT_CFG (k : Nat) : Nat := 0x400D4100 + 0x20 * k
def TMP_DRT_CFG_EN (k : Nat) : Fld := ⟨TMP_DRT_CFG k, 0, 1⟩
def TMP_DRT_CFG_SRC (k : Nat) : Fld := ⟨TMP_DRT_CFG k, 1, 5⟩
def TMP_DRT_CFG_CTX (k : Nat) : Fld := ⟨TMP_DRT_CFG k, 8, 8⟩
def TMP_DRT_CFG_LIM (k : Nat) : Fld := ⟨TMP_DRT_CFG k, 16, 3⟩
/-- TMP_DRTk_START (R543). -/
def TMP_DRT_START (k : Nat) : Nat := 0x400D4104 + 0x20 * k
def TMP_DRT_START_START (k : Nat) : Fld := ⟨TMP_DRT_START k, 0, 32⟩
/-- TMP_DRTk_END (R543). -/
def TMP_DRT_END (k : Nat) : Nat := 0x400D4108 + 0x20 * k
def TMP_DRT_END_END (k : Nat) : Fld := ⟨TMP_DRT_END k, 0, 32⟩
/-- TMP_DRTk_LFULL (R543). -/
def TMP_DRT_LFULL (k : Nat) : Nat := 0x400D410C + 0x20 * k
def TMP_DRT_LFULL_LFULL (k : Nat) : Fld := ⟨TMP_DRT_LFULL k, 0, 32⟩
/-- TMP_DRTk_LMIN (R543). -/
def TMP_DRT_LMIN (k : Nat) : Nat := 0x400D4110 + 0x20 * k
def TMP_DRT_LMIN_LMIN (k : Nat) : Fld := ⟨TMP_DRT_LMIN k, 0, 32⟩
/-- TMP_DRTk_OUT (R543). -/
def TMP_DRT_OUT (k : Nat) : Nat := 0x400D4114 + 0x20 * k
def TMP_DRT_OUT_WORD (k : Nat) : Fld := ⟨TMP_DRT_OUT k, 0, 32⟩
/-- TMP_DRTk_STAT (R543). -/
def TMP_DRT_STAT (k : Nat) : Nat := 0x400D4118 + 0x20 * k
def TMP_DRT_STAT_ACTIVE (k : Nat) : Fld := ⟨TMP_DRT_STAT k, 0, 1⟩
def TMP_DRT_STAT_SRC_BAD (k : Nat) : Fld := ⟨TMP_DRT_STAT k, 1, 1⟩
def TMP_DRT_STAT_STALE (k : Nat) : Fld := ⟨TMP_DRT_STAT k, 2, 1⟩
def TMP_DRT_STAT_EPOCH (k : Nat) : Fld := ⟨TMP_DRT_STAT k, 8, 8⟩
/-- BST_CTL (R544). -/
def BST_CTL : Nat := 0x400D2040
def BST_CTL_GO : Fld := ⟨BST_CTL, 0, 1⟩
def BST_CTL_ABORT : Fld := ⟨BST_CTL, 1, 1⟩
def BST_CTL_REPAIR : Fld := ⟨BST_CTL, 2, 1⟩
def BST_CTL_TARGET : Fld := ⟨BST_CTL, 4, 4⟩
def BST_CTL_ALG : Fld := ⟨BST_CTL, 8, 2⟩
/-- BST_START (R544). -/
def BST_START : Nat := 0x400D2044
def BST_START_WORD : Fld := ⟨BST_START, 0, 32⟩
/-- BST_LEN (R544). -/
def BST_LEN : Nat := 0x400D2048
def BST_LEN_WORDS : Fld := ⟨BST_LEN, 0, 32⟩
/-- BST_STAT (R544). -/
def BST_STAT : Nat := 0x400D204C
def BST_STAT_BUSY : Fld := ⟨BST_STAT, 0, 1⟩
def BST_STAT_RESULT : Fld := ⟨BST_STAT, 1, 2⟩
def BST_STAT_STARTUP_FAIL : Fld := ⟨BST_STAT, 3, 1⟩
def BST_STAT_FAILS : Fld := ⟨BST_STAT, 16, 16⟩
/-- BST_FAIL_ADDR (R544). -/
def BST_FAIL_ADDR : Nat := 0x400D2050
def BST_FAIL_ADDR_ADDR : Fld := ⟨BST_FAIL_ADDR, 0, 32⟩
/-- BST_FAIL_BIT (R544). -/
def BST_FAIL_BIT : Nat := 0x400D2054
def BST_FAIL_BIT_BIT : Fld := ⟨BST_FAIL_BIT, 0, 6⟩
def BST_FAIL_BIT_MULTI : Fld := ⟨BST_FAIL_BIT, 6, 1⟩
/-- BST_REPAIR (R544). -/
def BST_REPAIR : Nat := 0x400D2058
def BST_REPAIR_SRAM_USED : Fld := ⟨BST_REPAIR, 0, 7⟩
def BST_REPAIR_LPE_USED : Fld := ⟨BST_REPAIR, 8, 4⟩
/-- BST_SEG (R544). -/
def BST_SEG : Nat := 0x400D205C
def BST_SEG_SEG : Fld := ⟨BST_SEG, 0, 3⟩
/-- NOR_CMD (R544). -/
def NOR_CMD : Nat := 0x400D5040
def NOR_CMD_OP : Fld := ⟨NOR_CMD, 0, 2⟩
def NOR_CMD_GO : Fld := ⟨NOR_CMD, 2, 1⟩
/-- NOR_ADDR (R544). -/
def NOR_ADDR : Nat := 0x400D5044
def NOR_ADDR_ADDR : Fld := ⟨NOR_ADDR, 0, 32⟩
/-- NOR_STAT (R544). -/
def NOR_STAT : Nat := 0x400D5048
def NOR_STAT_BUSY : Fld := ⟨NOR_STAT, 0, 1⟩
def NOR_STAT_RESULT : Fld := ⟨NOR_STAT, 1, 2⟩
/-- NOR_CNT (R544). -/
def NOR_CNT : Nat := 0x400D504C
def NOR_CNT_ERASES : Fld := ⟨NOR_CNT, 0, 16⟩
def NOR_CNT_TIMEOUTS : Fld := ⟨NOR_CNT, 16, 8⟩
def NOR_CNT_VERIFY : Fld := ⟨NOR_CNT, 24, 8⟩
/-- NOR_BUFk (R544). -/
def NOR_BUF (k : Nat) : Nat := 0x400D5100 + 0x4 * k
def NOR_BUF_BYTES (k : Nat) : Fld := ⟨NOR_BUF k, 0, 32⟩
/-- SIO_SIn_CTL (R420). -/
def SIO_SI_CTL (k : Nat) : Nat := 0x40091108 + 0x10 * k
def SIO_SI_CTL_RESET (k : Nat) : Fld := ⟨SIO_SI_CTL k, 0, 1⟩
/-- SIO_SOm_CTL (R420). -/
def SIO_SO_CTL (k : Nat) : Nat := 0x40091208 + 0x10 * k
def SIO_SO_CTL_RESET (k : Nat) : Fld := ⟨SIO_SO_CTL k, 0, 1⟩

end R

/-! Bit numbers of the header flags, lowest bit first where a flag has one bit per unit. -/
namespace E

/-- EVT_STAT flag of CAD (R56). -/
def CAD_ADM_DONE : Nat := 0
/-- EVT_STAT flag of CAD (R56). -/
def CAD_LATE : Nat := 1
/-- EVT_STAT flag of CAD (R56). -/
def CAD_PERIOD_APPLIED : Nat := 2
/-- EVT_STAT flag of CAD (R56). -/
def CAD_J3_LOST : Nat := 3
/-- EVT_STAT flag of PWR (R98). -/
def PWR_PF_WARN : Nat := 0
/-- EVT_STAT flag of PWR (R98). -/
def PWR_DETACH_READY : Nat := 1
/-- EVT_STAT flag of PWR (R98). -/
def PWR_DETACH_END : Nat := 2
/-- EVT_STAT flag of PWR (R98). -/
def PWR_X2_ATTACH : Nat := 3
/-- EVT_STAT flag of PWR (R98). -/
def PWR_HOLDUP_LOW : Nat := 4
/-- EVT_STAT flag of PWR (R98). -/
def PWR_GATE_PWR_HIGH : Nat := 5
/-- EVT_STAT flag of PWR (R98). -/
def PWR_SENS_OC : Nat := 6
/-- EVT_STAT flag of PWR (R98). -/
def PWR_VLV_HIGH : Nat := 7
/-- EVT_STAT flag of SYS (R125). -/
def SYS_ACC_ERR : Nat := 0
/-- EVT_STAT flag of SYS (R125). -/
def SYS_ECC_CE : Nat := 1
/-- EVT_STAT flag of LPE (R166). -/
def LPE_VAL_DONE : Nat := 0
/-- EVT_STAT flag of LPE (R166). -/
def LPE_REISSUE : Nat := 1
/-- EVT_STAT flag of LPE (R166). -/
def LPE_ECC_CE : Nat := 2
/-- EVT_STAT flag of LPX (R168). -/
def LPX_UNIT_EVT : Nat := 0
/-- EVT_STAT flag of FAD (R202). -/
def FAD_REF_READY : Nat := 0
/-- EVT_STAT flag of FAD (R202). -/
def FAD_OVR : Nat := 1
/-- EVT_STAT flag of FAQ (R204). -/
def FAQ_LEVEL : Nat := 0
/-- EVT_STAT flag of FAQ (R204). -/
def FAQ_FALLBACK : Nat := 1
/-- EVT_STAT flag of FAQ (R204). -/
def FAQ_LOST : Nat := 2
/-- EVT_STAT flag of FAQ (R204). -/
def FAQ_UNDERRUN : Nat := 3
/-- EVT_STAT flag of HKA (R206). -/
def HKA_ROUND_DONE : Nat := 0
/-- EVT_STAT flag of HKA (R206). -/
def HKA_TEMP_OPEN : Nat := 1
/-- EVT_STAT flag of WMA (R208). -/
def WMA_TRIP : Nat := 0
/-- EVT_STAT flag of PG (R241). -/
def PG_ARMED : Nat := 0
/-- EVT_STAT flag of PG (R241). -/
def PG_DISARMED : Nat := 1
/-- EVT_STAT flag of PG (R241). -/
def PG_ARM_DENIED : Nat := 2
/-- EVT_STAT flag of PG (R241). -/
def PG_SAFE_ENTRY : Nat := 3
/-- EVT_STAT flag of PG (R241). -/
def PG_GUARD : Nat := 4
/-- EVT_STAT flag of GHD (R265). -/
def GHD_PWR_HIGH : Nat := 0
/-- EVT_STAT flag of GHD (R265). -/
def GHD_READY_ALL : Nat := 4
/-- EVT_STAT flag of GLD (R267). -/
def GLD_REFRESH : Nat := 0
/-- EVT_STAT flag of POS (R292). -/
def POS_HOMED : Nat := 0
/-- EVT_STAT flag of POS (R292). -/
def POS_ILLEGAL : Nat := 1
/-- EVT_STAT flag of POS (R292). -/
def POS_BAD_WORD : Nat := 2
/-- EVT_STAT flag of POS (R292). -/
def POS_ZERR : Nat := 3
/-- EVT_STAT flag of POS (R292). -/
def POS_STILL : Nat := 4
/-- EVT_STAT flag of TRC (R320). -/
def TRC_DEGRADED : Nat := 0
/-- EVT_STAT flag of TRC (R320). -/
def TRC_DEG_WARN : Nat := 1
/-- EVT_STAT flag of TRC (R320). -/
def TRC_KE_VERDICT : Nat := 2
/-- EVT_STAT flag of TRC (R320). -/
def TRC_CLEARED : Nat := 3
/-- EVT_STAT flag of TRC (R320). -/
def TRC_DROP_MODE : Nat := 4
/-- EVT_STAT flag of CHG (R356). -/
def CHG_SESS_CHG : Nat := 0
/-- EVT_STAT flag of CHG (R356). -/
def CHG_CP_CHG : Nat := 1
/-- EVT_STAT flag of CHG (R356). -/
def CHG_PP_CHG : Nat := 2
/-- EVT_STAT flag of CHG (R356). -/
def CHG_HS_TO : Nat := 3
/-- EVT_STAT flag of CHG (R356). -/
def CHG_TINH : Nat := 4
/-- EVT_STAT flag of AUX (R358). -/
def AUX_STATE_CHG : Nat := 0
/-- EVT_STAT flag of AUX (R358). -/
def AUX_HICCUP : Nat := 1
/-- EVT_STAT flag of ACT (R384). -/
def ACT_STATE_CHG : Nat := 0
/-- EVT_STAT flag of ACT (R384). -/
def ACT_AT_TARGET : Nat := 1
/-- EVT_STAT flag of ACT (R384). -/
def ACT_STALL : Nat := 2
/-- EVT_STAT flag of ACT (R384). -/
def ACT_RETRY : Nat := 3
/-- EVT_STAT flag of ACT (R384). -/
def ACT_PARK_WAIT : Nat := 4
/-- EVT_STAT flag of DRL (R386). -/
def DRL_DONE : Nat := 0
/-- EVT_STAT flag of DRL (R386). -/
def DRL_FALLBACK : Nat := 1
/-- EVT_STAT flag of DRL (R386). -/
def DRL_ENDED : Nat := 2
/-- EVT_STAT flag of SAF (R417). -/
def SAF_CMD : Nat := 0
/-- EVT_STAT flag of SAF (R417). -/
def SAF_RELEASED : Nat := 1
/-- EVT_STAT flag of SAF (R417). -/
def SAF_REL_DENIED : Nat := 2
/-- EVT_STAT flag of SAF (R417). -/
def SAF_INJECTED : Nat := 3
/-- EVT_STAT flag of SIO (R419). -/
def SIO_SI_CHG : Nat := 0
/-- EVT_STAT flag of SIO (R419). -/
def SIO_SO_DEG : Nat := 8
/-- EVT_STAT flag of TND (R442). -/
def TND_SPLIT_DONE : Nat := 0
/-- EVT_STAT flag of TND (R442). -/
def TND_REJOIN_DONE : Nat := 2
/-- EVT_STAT flag of TND (R442). -/
def TND_SPLIT_ABANDON : Nat := 4
/-- EVT_STAT flag of TND (R442). -/
def TND_REJOIN_ABANDON : Nat := 6
/-- EVT_STAT flag of TND (R442). -/
def TND_VERDICT : Nat := 8
/-- EVT_STAT flag of TND (R442). -/
def TND_SC_WARN : Nat := 10
/-- EVT_STAT flag of CAN (R467). -/
def CAN_TX_DONE : Nat := 0
/-- EVT_STAT flag of CAN (R467). -/
def CAN_RX_NEW : Nat := 1
/-- EVT_STAT flag of CAN (R467). -/
def CAN_ERR_PASSIVE : Nat := 2
/-- EVT_STAT flag of CAN (R467). -/
def CAN_ID_COLLISION : Nat := 3
/-- EVT_STAT flag of CAN (R467). -/
def CAN_CANCEL_LATE : Nat := 4
/-- EVT_STAT flag of CAN (R467). -/
def CAN_OVERRUN : Nat := 5
/-- EVT_STAT flag of EMU (R294). -/
def EMU_OVF : Nat := 0
/-- EVT_STAT flag of EPT (R421). -/
def EPT_RX_NEW : Nat := 0
/-- EVT_STAT flag of ETH (R469). -/
def ETH_RX_FRAME : Nat := 0
/-- EVT_STAT flag of ETH (R469). -/
def ETH_TX_DONE : Nat := 1
/-- EVT_STAT flag of ETH (R469). -/
def ETH_LINK_CHG : Nat := 2
/-- EVT_STAT flag of ETH (R469). -/
def ETH_NOBUF : Nat := 3
/-- EVT_STAT flag of HSP (R471). -/
def HSP_HSP_ERR : Nat := 0
/-- EVT_STAT flag of HSP (R471). -/
def HSP_AUXL_RX : Nat := 1
/-- EVT_STAT flag of HSP (R471). -/
def HSP_AUXL_TO : Nat := 2
/-- EVT_STAT flag of HSP (R471). -/
def HSP_AUXL_TX_DONE : Nat := 3
/-- EVT_STAT flag of SEC (R505). -/
def SEC_ATT_DONE : Nat := 0
/-- EVT_STAT flag of SEC (R505). -/
def SEC_IMG_DONE : Nat := 1
/-- EVT_STAT flag of SEC (R505). -/
def SEC_STAGE_CHG : Nat := 2
/-- EVT_STAT flag of ROL (R507). -/
def ROL_RESULT : Nat := 0
/-- EVT_STAT flag of ROL (R507). -/
def ROL_SESS_END : Nat := 1
/-- EVT_STAT flag of ROL (R507). -/
def ROL_CHG : Nat := 2
/-- EVT_STAT flag of REC (R541). -/
def REC_FLUSHED : Nat := 0
/-- EVT_STAT flag of REC (R541). -/
def REC_CLEARED : Nat := 1
/-- EVT_STAT flag of REC (R541). -/
def REC_LOST : Nat := 2
/-- EVT_STAT flag of REC (R541). -/
def REC_SUPPRESSED : Nat := 3
/-- EVT_STAT flag of TMP (R541). -/
def TMP_WARN : Nat := 0
/-- EVT_STAT flag of TMP (R541). -/
def TMP_DERATE : Nat := 1
/-- EVT_STAT flag of TMP (R541). -/
def TMP_SRC_BAD : Nat := 2
/-- EVT_STAT flag of TMP (R541). -/
def TMP_STALE : Nat := 3
/-- EVT_STAT flag of BST (R541). -/
def BST_DONE : Nat := 0
/-- EVT_STAT flag of BST (R541). -/
def BST_REPAIRED : Nat := 1
/-- EVT_STAT flag of NOR (R541). -/
def NOR_OP_DONE : Nat := 0

end E

namespace F

/-- FAULT_STAT flag of CAD (R56). -/
def CAD_TICK_MISMATCH : Nat := 0
/-- FAULT_STAT flag of CAD (R56). -/
def CAD_CTX_FAULT : Nat := 1
/-- FAULT_STAT flag of PWR (R98). -/
def PWR_UV_OFF : Nat := 0
/-- FAULT_STAT flag of PWR (R98). -/
def PWR_X1_WITHDRAWN : Nat := 1
/-- FAULT_STAT flag of PWR (R98). -/
def PWR_X2_WITHDRAWN : Nat := 2
/-- FAULT_STAT flag of PWR (R98). -/
def PWR_GATE_OVERLOAD : Nat := 3
/-- FAULT_STAT flag of PWR (R98). -/
def PWR_BACKUP_FAIL : Nat := 4
/-- FAULT_STAT flag of SYS (R125). -/
def SYS_SRAM_UE : Nat := 0
/-- FAULT_STAT flag of LPE (R166). -/
def LPE_LANE_FAULT : Nat := 0
/-- FAULT_STAT flag of LPE (R166). -/
def LPE_MEM_UE : Nat := 4
/-- FAULT_STAT flag of LPX (R168). -/
def LPX_UNIT_FAULT : Nat := 0
/-- FAULT_STAT flag of FAD (R202). -/
def FAD_REF_FAIL : Nat := 0
/-- FAULT_STAT flag of FAQ (R204). -/
def FAQ_DMA_ERR : Nat := 0
/-- FAULT_STAT flag of HKA (R206). -/
def HKA_HK_STALL : Nat := 0
/-- FAULT_STAT flag of WMA (R208). -/
def WMA_TRIP_J2 : Nat := 0
/-- FAULT_STAT flag of PG (R241). -/
def PG_CNT_MISMATCH : Nat := 0
/-- FAULT_STAT flag of PG (R241). -/
def PG_LINK_LOST : Nat := 1
/-- FAULT_STAT flag of PG (R241). -/
def PG_LINK_FAULT : Nat := 16
/-- FAULT_STAT flag of GHD (R265). -/
def GHD_DSAT : Nat := 0
/-- FAULT_STAT flag of GHD (R265). -/
def GHD_PUV : Nat := 4
/-- FAULT_STAT flag of GHD (R265). -/
def GHD_NUV : Nat := 8
/-- FAULT_STAT flag of GHD (R265). -/
def GHD_PWR_OVER : Nat := 12
/-- FAULT_STAT flag of GLD (R267). -/
def GLD_BST_UV : Nat := 0
/-- FAULT_STAT flag of GLD (R267). -/
def GLD_VDD_UV : Nat := 4
/-- FAULT_STAT flag of GLD (R267). -/
def GLD_VBR_RANGE : Nat := 5
/-- FAULT_STAT flag of POS (R292). -/
def POS_SENSOR : Nat := 0
/-- FAULT_STAT flag of TRC (R320). -/
def TRC_DEGRADE : Nat := 0
/-- FAULT_STAT flag of TRC (R320). -/
def TRC_EXPIRED : Nat := 1
/-- FAULT_STAT flag of TRC (R320). -/
def TRC_SET_FAULT : Nat := 2
/-- FAULT_STAT flag of TRC (R320). -/
def TRC_WRONG_MACH : Nat := 3
/-- FAULT_STAT flag of TRC (R320). -/
def TRC_DEMAG : Nat := 4
/-- FAULT_STAT flag of CHG (R356). -/
def CHG_GRID : Nat := 0
/-- FAULT_STAT flag of CHG (R356). -/
def CHG_LIMIT : Nat := 1
/-- FAULT_STAT flag of CHG (R356). -/
def CHG_CP_FAULT : Nat := 2
/-- FAULT_STAT flag of CHG (R356). -/
def CHG_DRIVE_INTLK : Nat := 3
/-- FAULT_STAT flag of AUX (R358). -/
def AUX_AUX_FAULT : Nat := 0
/-- FAULT_STAT flag of ACT (R384). -/
def ACT_ACT_FAULT : Nat := 0
/-- FAULT_STAT flag of ACT (R384). -/
def ACT_OVERVOLT : Nat := 1
/-- FAULT_STAT flag of ACT (R384). -/
def ACT_PARK_SLIP : Nat := 2
/-- FAULT_STAT flag of DRL (R386). -/
def DRL_SHIFT_FAULT : Nat := 0
/-- FAULT_STAT flag of SAF (R417). -/
def SAF_CHOP_FAULT : Nat := 0
/-- FAULT_STAT flag of SIO (R419). -/
def SIO_SI_FAULT : Nat := 0
/-- FAULT_STAT flag of SIO (R419). -/
def SIO_SO_FAULT : Nat := 8
/-- FAULT_STAT flag of TND (R442). -/
def TND_PAIR_FAULT : Nat := 0
/-- FAULT_STAT flag of CAN (R467). -/
def CAN_BUS_OFF : Nat := 0
/-- FAULT_STAT flag of EPT (R421). -/
def EPT_STREAM_FAULT : Nat := 0
/-- FAULT_STAT flag of ETH (R469). -/
def ETH_DMA_ERR : Nat := 0
/-- FAULT_STAT flag of REC (R541). -/
def REC_FLUSH_FAIL : Nat := 0
/-- FAULT_STAT flag of TMP (R541). -/
def TMP_OVERTEMP : Nat := 0
/-- FAULT_STAT flag of BST (R541). -/
def BST_BIST_FAIL : Nat := 0
/-- FAULT_STAT flag of NOR (R541). -/
def NOR_NOR_TO : Nat := 0
/-- FAULT_STAT flag of NOR (R541). -/
def NOR_VERIFY : Nat := 1

end F
end Sys2Proof.Machine
end

