-- ==== Sys2Proof/Machine/RegTable.lean ====
section
/-!
DEFINITION. The register table of the manual as data: the page map (R107), the common header's defined flag bits,
and for every page type its block registers with each field's access code and reset value. Generated by hand-checked
extraction from the chapters' own register tables; the rule beside a row is the rule that lists the register.
-/
namespace Sys2Proof.Machine

/-- The access codes of the register fields (chapter 0, conventions). -/
inductive Acc where
  | ro | rw | wo | w1c | w1s | rc | rwl | rw2
  deriving DecidableEq, Repr

/-- One field of a register row: lowest bit, width, access code, reset value. -/
structure FieldRow where
  lo : Nat
  w : Nat
  acc : Acc
  reset : Nat
  deriving DecidableEq, Repr

/-- One block register, or an array of them: offset in the page, stride and count of the units, first unit, and a second
stride and count for arrays of arrays (1 where there is none). -/
structure RegRow where
  off : Nat
  stride : Nat
  count : Nat
  first : Nat
  stride2 : Nat
  count2 : Nat
  fields : List FieldRow
  deriving DecidableEq, Repr

/-- The page types of R107. -/
inductive PageKind where
  | sys | pwr | cad | tnd | lpe | lpx | pg | ghd | gld | fad | faq | hka | wma | pos | emu | trc | chg | aux | act | drl | saf | sio | ept | can | eth | hsp | sec | rol | bst | recorder | tmp | nor
  deriving DecidableEq, Repr

/-- Every page type, in the order of the page map. -/
def pageKinds : List PageKind := [.sys, .pwr, .cad, .tnd, .lpe, .lpx, .pg, .ghd, .gld, .fad, .faq, .hka, .wma, .pos, .emu, .trc, .chg, .aux, .act, .drl, .saf, .sio, .ept, .can, .eth, .hsp, .sec, .rol, .bst, .recorder, .tmp, .nor]

/-- PAGE_ID.TYPE (R107). -/
def PageKind.type : PageKind → Nat
  | .sys => 0x01
  | .pwr => 0x02
  | .cad => 0x03
  | .tnd => 0x04
  | .lpe => 0x10
  | .lpx => 0x11
  | .pg => 0x20
  | .ghd => 0x21
  | .gld => 0x22
  | .fad => 0x30
  | .faq => 0x31
  | .hka => 0x32
  | .wma => 0x33
  | .pos => 0x34
  | .emu => 0x35
  | .trc => 0x40
  | .chg => 0x41
  | .aux => 0x42
  | .act => 0x43
  | .drl => 0x44
  | .saf => 0x50
  | .sio => 0x51
  | .ept => 0x52
  | .can => 0x60
  | .eth => 0x61
  | .hsp => 0x62
  | .sec => 0x70
  | .rol => 0x71
  | .bst => 0x72
  | .recorder => 0x73
  | .tmp => 0x74
  | .nor => 0x75

/-- Base address of instance 0 (R107). -/
def PageKind.base : PageKind → Nat
  | .sys => 0x40000000
  | .pwr => 0x40001000
  | .cad => 0x40002000
  | .tnd => 0x40003000
  | .lpe => 0x40010000
  | .lpx => 0x40011000
  | .pg => 0x40040000
  | .ghd => 0x40050000
  | .gld => 0x4005C000
  | .fad => 0x40060000
  | .faq => 0x40061000
  | .hka => 0x40062000
  | .wma => 0x40063000
  | .pos => 0x40070000
  | .emu => 0x40074000
  | .trc => 0x40080000
  | .chg => 0x40082000
  | .aux => 0x40083000
  | .act => 0x40084000
  | .drl => 0x40087000
  | .saf => 0x40090000
  | .sio => 0x40091000
  | .ept => 0x40092000
  | .can => 0x400A0000
  | .eth => 0x400C0000
  | .hsp => 0x400C2000
  | .sec => 0x400D0000
  | .rol => 0x400D1000
  | .bst => 0x400D2000
  | .recorder => 0x400D3000
  | .tmp => 0x400D4000
  | .nor => 0x400D5000

/-- How many pages of the type there are (R107); they lie 0x1000 apart. -/
def PageKind.count : PageKind → Nat
  | .sys => 1
  | .pwr => 1
  | .cad => 1
  | .tnd => 1
  | .lpe => 1
  | .lpx => 10
  | .pg => 12
  | .ghd => 12
  | .gld => 3
  | .fad => 1
  | .faq => 1
  | .hka => 1
  | .wma => 1
  | .pos => 4
  | .emu => 1
  | .trc => 2
  | .chg => 1
  | .aux => 1
  | .act => 3
  | .drl => 1
  | .saf => 1
  | .sio => 1
  | .ept => 1
  | .can => 4
  | .eth => 2
  | .hsp => 1
  | .sec => 1
  | .rol => 1
  | .bst => 1
  | .recorder => 1
  | .tmp => 1
  | .nor => 1

/-- PAGE_CAP.OWNER: 0 control plane, 1 TA, 2 TB, 3 MC, 4 J2 (R107, R110). -/
def PageKind.ownerCode : PageKind → Nat
  | .sys => 3
  | .pwr => 3
  | .cad => 0
  | .tnd => 3
  | .lpe => 0
  | .lpx => 0
  | .pg => 0
  | .ghd => 0
  | .gld => 0
  | .fad => 0
  | .faq => 0
  | .hka => 0
  | .wma => 0
  | .pos => 0
  | .emu => 0
  | .trc => 0
  | .chg => 0
  | .aux => 0
  | .act => 0
  | .drl => 1
  | .saf => 4
  | .sio => 4
  | .ept => 2
  | .can => 2
  | .eth => 2
  | .hsp => 2
  | .sec => 3
  | .rol => 3
  | .bst => 3
  | .recorder => 3
  | .tmp => 3
  | .nor => 3

/-- PAGE_CAP.UNITS (R107; 16 for EPT, chapter 12). -/
def PageKind.units : PageKind → Nat
  | .sys => 1
  | .pwr => 1
  | .cad => 1
  | .tnd => 2
  | .lpe => 4
  | .lpx => 16
  | .pg => 1
  | .ghd => 4
  | .gld => 4
  | .fad => 32
  | .faq => 1
  | .hka => 64
  | .wma => 32
  | .pos => 1
  | .emu => 2
  | .trc => 1
  | .chg => 1
  | .aux => 1
  | .act => 1
  | .drl => 1
  | .saf => 1
  | .sio => 12
  | .ept => 16
  | .can => 128
  | .eth => 1
  | .hsp => 1
  | .sec => 1
  | .rol => 1
  | .bst => 1
  | .recorder => 1
  | .tmp => 1
  | .nor => 1

/-- The EVT_STAT bits the page type defines. -/
def PageKind.evtMask : PageKind → Nat
  | .sys => 0x00000003
  | .pwr => 0x000000FF
  | .cad => 0x0000000F
  | .tnd => 0x00000FFF
  | .lpe => 0x00000007
  | .lpx => 0x0000FFFF
  | .pg => 0x0000001F
  | .ghd => 0x0000001F
  | .gld => 0x0000000F
  | .fad => 0x00000003
  | .faq => 0x0000000F
  | .hka => 0x00000003
  | .wma => 0xFFFFFFFF
  | .pos => 0x0000001F
  | .emu => 0x00000003
  | .trc => 0x0000001F
  | .chg => 0x0000001F
  | .aux => 0x00000003
  | .act => 0x0000001F
  | .drl => 0x00000007
  | .saf => 0x0000000F
  | .sio => 0x00000FFF
  | .ept => 0x0000FFFF
  | .can => 0x0000003F
  | .eth => 0x0000000F
  | .hsp => 0x0000000F
  | .sec => 0x00000007
  | .rol => 0x00000007
  | .bst => 0x00000003
  | .recorder => 0x0000000F
  | .tmp => 0x0000000F
  | .nor => 0x00000001

/-- The FAULT_STAT bits the page type defines (the link bits of PG only in PG0, R241). -/
def PageKind.faultMask : PageKind → Nat
  | .sys => 0x00000001
  | .pwr => 0x0000001F
  | .cad => 0x00000003
  | .tnd => 0x00000003
  | .lpe => 0x0000001F
  | .lpx => 0x0000FFFF
  | .pg => 0x7FFF0003
  | .ghd => 0x0000FFFF
  | .gld => 0x0000003F
  | .fad => 0x00000001
  | .faq => 0x00000001
  | .hka => 0x00000001
  | .wma => 0xFFFFFFFF
  | .pos => 0x00000001
  | .emu => 0x00000000
  | .trc => 0x0000001F
  | .chg => 0x0000000F
  | .aux => 0x00000001
  | .act => 0x00000007
  | .drl => 0x00000001
  | .saf => 0x00000001
  | .sio => 0x00000FFF
  | .ept => 0x0000FFFF
  | .can => 0x00000001
  | .eth => 0x00000001
  | .hsp => 0x00000000
  | .sec => 0x00000000
  | .rol => 0x00000000
  | .bst => 0x00000001
  | .recorder => 0x00000001
  | .tmp => 0x00000001
  | .nor => 0x00000003

/-- Block registers of the SYS page type. -/
def rowsSys : List RegRow := [
  ⟨0x040, 0x0, 1, 0, 0x0, 1, [⟨0, 16, .ro, 0x7160⟩, ⟨16, 8, .ro, 0x1⟩]⟩,  -- SYS_DEV_ID, R126
  ⟨0x044, 0x0, 1, 0, 0x0, 1, [⟨0, 1, .w1c, 0x0⟩, ⟨1, 1, .w1c, 0x0⟩, ⟨2, 1, .w1c, 0x0⟩, ⟨3, 1, .w1c, 0x0⟩]⟩,  -- SYS_RST_CAUSE, R126
  ⟨0x048, 0x0, 1, 0, 0x0, 1, [⟨0, 1, .w1s, 0x0⟩, ⟨8, 8, .wo, 0x0⟩]⟩,  -- SYS_RST_CTL, R126
  ⟨0x04C, 0x0, 1, 0, 0x0, 1, [⟨0, 32, .ro, 0x0⟩]⟩,  -- SYS_ERR_ADDR, R126
  ⟨0x050, 0x0, 1, 0, 0x0, 1, [⟨0, 4, .ro, 0x0⟩, ⟨4, 3, .ro, 0x0⟩, ⟨7, 1, .ro, 0x0⟩, ⟨8, 1, .w1c, 0x0⟩]⟩,  -- SYS_ERR_INFO, R126
  ⟨0x054, 0x0, 1, 0, 0x0, 1, [⟨0, 16, .rc, 0x0⟩]⟩,  -- SYS_ERR_CNT, R126
  ⟨0x058, 0x0, 1, 0, 0x0, 1, [⟨0, 16, .rc, 0x0⟩]⟩,  -- SYS_ECC_CNT, R126
  ⟨0x05C, 0x0, 1, 0, 0x0, 1, [⟨0, 32, .ro, 0x0⟩]⟩]  -- SYS_ECC_ADDR, R126

/-- Block registers of the PWR page type. -/
def rowsPwr : List RegRow := [
  ⟨0x040, 0x0, 1, 0, 0x0, 1, [⟨0, 16, .ro, 0x0⟩]⟩,  -- PWR_VLV, R99
  ⟨0x044, 0x0, 1, 0, 0x0, 1, [⟨0, 11, .ro, 0x0⟩, ⟨11, 1, .ro, 0x0⟩]⟩,  -- PWR_VDC, R99
  ⟨0x048, 0x0, 1, 0, 0x0, 1, [⟨0, 8, .ro, 0x0⟩, ⟨12, 12, .ro, 0x0⟩, ⟨24, 1, .ro, 0x0⟩, ⟨25, 1, .ro, 0x0⟩]⟩,  -- PWR_HOLDUP, R99
  ⟨0x04C, 0x0, 1, 0, 0x0, 1, [⟨0, 10, .ro, 0x0⟩, ⟨16, 10, .rc, 0x0⟩]⟩,  -- PWR_GATE, R99
  ⟨0x050, 0x0, 1, 0, 0x0, 1, [⟨0, 1, .ro, 0x0⟩, ⟨1, 1, .ro, 0x0⟩, ⟨2, 1, .ro, 0x0⟩, ⟨3, 1, .ro, 0x0⟩, ⟨4, 1, .ro, 0x0⟩, ⟨5, 1, .ro, 0x0⟩, ⟨6, 1, .ro, 0x0⟩, ⟨7, 1, .ro, 0x0⟩]⟩,  -- PWR_STAT, R99
  ⟨0x054, 0x0, 1, 0, 0x0, 1, [⟨0, 1, .rw, 0x0⟩, ⟨1, 1, .rw, 0x0⟩, ⟨2, 1, .rw, 0x0⟩, ⟨3, 1, .rw, 0x0⟩]⟩,  -- PWR_SENS_CTL, R99
  ⟨0x058, 0x0, 1, 0, 0x0, 1, [⟨0, 4, .ro, 0x0⟩, ⟨8, 4, .w1c, 0x0⟩]⟩,  -- PWR_SENS_STAT, R99
  ⟨0x05C, 0x0, 1, 0, 0x0, 1, [⟨0, 1, .w1s, 0x0⟩, ⟨1, 1, .w1s, 0x0⟩, ⟨2, 1, .rw, 0x0⟩, ⟨8, 8, .rw, 0x1E⟩]⟩,  -- PWR_DETACH_CTL, R99
  ⟨0x060, 0x0, 1, 0, 0x0, 1, [⟨0, 3, .ro, 0x0⟩, ⟨3, 1, .ro, 0x0⟩, ⟨4, 2, .ro, 0x0⟩, ⟨6, 1, .ro, 0x0⟩, ⟨16, 8, .ro, 0x0⟩]⟩]  -- PWR_DETACH_STAT, R99

/-- Block registers of the CAD page type. -/
def rowsCad : List RegRow := [
  ⟨0x040, 0x0, 1, 0, 0x0, 1, [⟨0, 13, .ro, 0x3E8⟩]⟩,  -- CAD_PERIOD_ACT, R57
  ⟨0x044, 0x0, 1, 0, 0x0, 1, [⟨0, 13, .rw, 0x3E8⟩]⟩,  -- CAD_PERIOD_NEW, R57
  ⟨0x048, 0x0, 1, 0, 0x0, 1, [⟨0, 32, .ro, 0x0⟩]⟩,  -- CAD_TICK, R57
  ⟨0x04C, 0x0, 1, 0, 0x0, 1, [⟨0, 13, .ro, 0x0⟩, ⟨16, 12, .ro, 0x0⟩]⟩,  -- CAD_POS, R57
  ⟨0x050, 0x0, 1, 0, 0x0, 1, [⟨0, 1, .w1s, 0x0⟩]⟩,  -- CAD_ADM_CTL, R57
  ⟨0x054, 0x0, 1, 0, 0x0, 1, [⟨0, 1, .ro, 0x0⟩, ⟨1, 2, .ro, 0x0⟩, ⟨3, 1, .ro, 0x0⟩, ⟨4, 4, .ro, 0x0⟩, ⟨8, 2, .ro, 0x0⟩, ⟨12, 8, .ro, 0xFF⟩, ⟨20, 12, .ro, 0x0⟩]⟩,  -- CAD_ADM_STAT, R57
  ⟨0x058, 0x0, 1, 0, 0x0, 1, [⟨0, 13, .ro, 0x1⟩]⟩,  -- CAD_ADM_HYPER, R57
  ⟨0x060, 0x4, 4, 0, 0x0, 1, [⟨0, 13, .ro, 0x0⟩, ⟨16, 9, .ro, 0x0⟩, ⟨25, 1, .ro, 0x0⟩]⟩,  -- CAD_LANE_WCk, R57
  ⟨0x070, 0x0, 1, 0, 0x0, 1, [⟨0, 16, .rc, 0x0⟩]⟩,  -- CAD_LATE_TOTAL, R57
  ⟨0x074, 0x0, 1, 0, 0x0, 1, [⟨0, 16, .rc, 0x0⟩]⟩]  -- CAD_J3_LOST, R57

/-- Block registers of the TND page type. -/
def rowsTnd : List RegRow := [
  ⟨0x040, 0x0, 1, 0, 0x0, 1, [⟨0, 2, .ro, 0x0⟩, ⟨8, 6, .ro, 0x0⟩, ⟨16, 6, .ro, 0x0⟩]⟩,  -- TND_DBG, R443
  ⟨0x100, 0x40, 2, 0, 0x0, 1, [⟨0, 7, .rw2, 0xA⟩, ⟨8, 12, .rw2, 0x258⟩, ⟨20, 4, .rw2, 0x3⟩, ⟨24, 8, .rw2, 0x18⟩]⟩,  -- TND_Pp_CFG, R443
  ⟨0x104, 0x40, 2, 0, 0x0, 1, [⟨0, 7, .rw, 0xA⟩, ⟨16, 7, .rw, 0x14⟩]⟩,  -- TND_Pp_TO, R443
  ⟨0x108, 0x40, 2, 0, 0x0, 1, [⟨0, 32, .rwl, 0x0⟩]⟩,  -- TND_Pp_RVEC, R443
  ⟨0x10C, 0x40, 2, 0, 0x0, 1, [⟨0, 32, .rw, 0x0⟩]⟩,  -- TND_Pp_CVEC, R443
  ⟨0x110, 0x40, 2, 0, 0x0, 1, [⟨0, 16, .rw, 0x0⟩, ⟨16, 4, .rw, 0x0⟩]⟩,  -- TND_Pp_CWIN, R443
  ⟨0x114, 0x40, 2, 0, 0x0, 1, [⟨0, 1, .w1s, 0x0⟩, ⟨1, 1, .w1s, 0x0⟩, ⟨2, 1, .w1s, 0x0⟩, ⟨3, 1, .w1s, 0x0⟩]⟩,  -- TND_Pp_CTL, R443
  ⟨0x118, 0x40, 2, 0, 0x0, 1, [⟨0, 4, .ro, 0x0⟩, ⟨4, 3, .ro, 0x0⟩, ⟨8, 3, .ro, 0x0⟩, ⟨11, 1, .ro, 0x0⟩, ⟨12, 1, .ro, 0x0⟩, ⟨16, 12, .ro, 0x0⟩]⟩,  -- TND_Pp_STAT, R443
  ⟨0x11C, 0x40, 2, 0, 0x0, 1, [⟨0, 2, .ro, 0x0⟩, ⟨2, 7, .ro, 0x0⟩, ⟨9, 1, .ro, 0x0⟩]⟩,  -- TND_Pp_MM, R443
  ⟨0x120, 0x40, 2, 0, 0x0, 1, [⟨0, 32, .ro, 0x0⟩]⟩,  -- TND_Pp_MMADDR, R443
  ⟨0x124, 0x40, 2, 0, 0x0, 1, [⟨0, 16, .rc, 0x0⟩, ⟨16, 8, .rc, 0x0⟩, ⟨24, 8, .rc, 0x0⟩]⟩,  -- TND_Pp_CNT, R443
  ⟨0x128, 0x40, 2, 0, 0x0, 1, [⟨0, 16, .rc, 0x0⟩, ⟨16, 4, .ro, 0x0⟩]⟩,  -- TND_Pp_CERR, R443
  ⟨0x12C, 0x40, 2, 0, 0x0, 1, [⟨0, 8, .rc, 0x0⟩, ⟨8, 8, .rc, 0x0⟩]⟩]  -- TND_Pp_ECC, R443

/-- Block registers of the LPE page type. -/
def rowsLpe : List RegRow := [
  ⟨0x040, 0x10, 4, 0, 0x0, 1, [⟨0, 2, .ro, 0x0⟩, ⟨2, 1, .ro, 0x0⟩, ⟨8, 8, .ro, 0xFF⟩]⟩,  -- LPE_LANEn_STAT, R167
  ⟨0x044, 0x10, 4, 0, 0x0, 1, [⟨0, 8, .rc, 0x0⟩, ⟨8, 1, .ro, 0x0⟩, ⟨9, 1, .ro, 0x0⟩, ⟨10, 1, .ro, 0x0⟩]⟩,  -- LPE_LANEn_CMP, R167
  ⟨0x048, 0x10, 4, 0, 0x0, 1, [⟨0, 13, .rc, 0x0⟩, ⟨16, 9, .rc, 0x0⟩]⟩,  -- LPE_LANEn_MEAS, R167
  ⟨0x04C, 0x10, 4, 0, 0x0, 1, [⟨0, 1, .w1s, 0x0⟩]⟩,  -- LPE_LANEn_CTL, R167
  ⟨0x080, 0x0, 1, 0, 0x0, 1, [⟨0, 4, .rw, 0x2⟩]⟩,  -- LPE_CTL, R167
  ⟨0x084, 0x0, 1, 0, 0x0, 1, [⟨0, 12, .rw, 0x0⟩, ⟨13, 13, .rw, 0x1⟩, ⟨31, 1, .w1s, 0x0⟩]⟩,  -- LPE_VAL_CTL, R167
  ⟨0x088, 0x0, 1, 0, 0x0, 1, [⟨0, 1, .ro, 0x0⟩, ⟨1, 2, .ro, 0x0⟩, ⟨3, 4, .ro, 0x0⟩, ⟨8, 12, .ro, 0x0⟩]⟩,  -- LPE_VAL_STAT, R167
  ⟨0x08C, 0x0, 1, 0, 0x0, 1, [⟨0, 16, .ro, 0x0⟩, ⟨16, 16, .ro, 0x0⟩]⟩,  -- LPE_VAL_OCC, R167
  ⟨0x090, 0x0, 1, 0, 0x0, 1, [⟨0, 13, .ro, 0x0⟩]⟩,  -- LPE_VAL_CNT, R167
  ⟨0x094, 0x0, 1, 0, 0x0, 1, [⟨0, 16, .rc, 0x0⟩]⟩,  -- LPE_ECC_CNT, R167
  ⟨0x098, 0x0, 1, 0, 0x0, 1, [⟨0, 32, .ro, 0x0⟩]⟩,  -- LPE_ECC_ADDR, R167
  ⟨0x100, 0x4, 31, 0, 0x0, 1, [⟨0, 32, .rw, 0x0⟩]⟩]  -- LPE_CONSTk, R167

/-- Block registers of the LPX page type. -/
def rowsLpx : List RegRow := [
  ⟨0x040, 0x0, 1, 0, 0x0, 1, [⟨0, 2, .rw, 0x0⟩, ⟨2, 1, .rw, 0x0⟩, ⟨4, 4, .rw, 0x0⟩, ⟨8, 1, .rw, 0x0⟩, ⟨24, 8, .ro, 0x0⟩]⟩,  -- LPX_CFG, R169
  ⟨0x044, 0x0, 1, 0, 0x0, 1, [⟨0, 12, .rw, 0x0⟩, ⟨13, 13, .rw, 0x1⟩]⟩,  -- LPX_PROG, R169
  ⟨0x048, 0x0, 1, 0, 0x0, 1, [⟨0, 7, .rw, 0x1⟩, ⟨8, 6, .rw, 0x0⟩]⟩,  -- LPX_RATE, R169
  ⟨0x04C, 0x0, 1, 0, 0x0, 1, [⟨0, 3, .rw, 0x0⟩, ⟨4, 3, .ro, 0x0⟩, ⟨8, 1, .ro, 0x0⟩, ⟨9, 1, .ro, 0x0⟩, ⟨10, 3, .ro, 0x0⟩, ⟨13, 1, .ro, 0x0⟩]⟩,  -- LPX_STATE, R169
  ⟨0x050, 0x0, 1, 0, 0x0, 1, [⟨0, 4, .rw, 0x3⟩, ⟨4, 1, .rw, 0x0⟩]⟩,  -- LPX_CTL, R169
  ⟨0x054, 0x0, 1, 0, 0x0, 1, [⟨0, 32, .rw, 0x7F7FFFFF⟩]⟩,  -- LPX_FE_LIMIT, R169
  ⟨0x058, 0x0, 1, 0, 0x0, 1, [⟨0, 16, .rw, 0x0⟩, ⟨16, 16, .ro, 0x0⟩]⟩,  -- LPX_FE_TICKS, R169
  ⟨0x05C, 0x0, 1, 0, 0x0, 1, [⟨0, 1, .w1c, 0x0⟩, ⟨1, 1, .w1c, 0x0⟩, ⟨2, 1, .w1c, 0x0⟩, ⟨3, 1, .w1c, 0x0⟩, ⟨4, 1, .w1c, 0x0⟩, ⟨5, 1, .w1c, 0x0⟩, ⟨6, 1, .ro, 0x0⟩, ⟨7, 1, .ro, 0x0⟩]⟩,  -- LPX_STAT, R169
  ⟨0x060, 0x0, 1, 0, 0x0, 1, [⟨0, 8, .rc, 0x0⟩, ⟨8, 4, .ro, 0x0⟩, ⟨16, 8, .rc, 0x0⟩]⟩,  -- LPX_CNT, R169
  ⟨0x064, 0x0, 1, 0, 0x0, 1, [⟨0, 16, .ro, 0x0⟩, ⟨16, 16, .ro, 0x0⟩]⟩,  -- LPX_OCC, R169
  ⟨0x068, 0x0, 1, 0, 0x0, 1, [⟨0, 8, .rw, 0x0⟩, ⟨8, 2, .rw, 0x0⟩, ⟨16, 8, .rw, 0x0⟩, ⟨24, 2, .rw, 0x0⟩]⟩,  -- LPX_XSEL0, R169
  ⟨0x06C, 0x0, 1, 0, 0x0, 1, [⟨0, 8, .rw, 0x0⟩, ⟨8, 2, .rw, 0x0⟩, ⟨16, 8, .rw, 0x0⟩, ⟨24, 2, .rw, 0x0⟩]⟩,  -- LPX_XSEL1, R169
  ⟨0x070, 0x0, 1, 0, 0x0, 1, [⟨0, 6, .rw, 0x0⟩, ⟨8, 1, .rw, 0x0⟩]⟩,  -- LPX_CW_IDX, R169
  ⟨0x074, 0x0, 1, 0, 0x0, 1, [⟨0, 32, .rw, 0x0⟩]⟩,  -- LPX_CW_DATA, R169
  ⟨0x078, 0x0, 1, 0, 0x0, 1, [⟨0, 1, .w1s, 0x0⟩, ⟨1, 1, .ro, 0x0⟩, ⟨8, 8, .wo, 0x0⟩]⟩,  -- LPX_MBX_CMT, R169
  ⟨0x07C, 0x0, 1, 0, 0x0, 1, [⟨0, 24, .ro, 0x0⟩]⟩,  -- LPX_TSTEP, R169
  ⟨0x080, 0x4, 8, 0, 0x0, 1, [⟨0, 32, .rw, 0x0⟩]⟩,  -- LPX_MBXk, R169
  ⟨0x0A0, 0x4, 8, 0, 0x0, 1, [⟨0, 32, .ro, 0x0⟩]⟩,  -- LPX_ACTk, R169
  ⟨0x0C0, 0x4, 16, 0, 0x0, 1, [⟨0, 32, .ro, 0x0⟩]⟩]  -- LPX_OBSk, R169

/-- Block registers of the PG page type. -/
def rowsPg : List RegRow := [
  ⟨0x040, 0x0, 1, 0, 0x0, 1, [⟨0, 6, .rw, 0x3F⟩, ⟨6, 2, .rw, 0x0⟩, ⟨8, 6, .rw, 0x3F⟩, ⟨14, 2, .rw, 0x0⟩, ⟨16, 6, .rw, 0x3F⟩, ⟨22, 2, .rw, 0x0⟩]⟩,  -- PG_SLOT0, R242
  ⟨0x044, 0x0, 1, 0, 0x0, 1, [⟨0, 6, .rw, 0x3F⟩, ⟨6, 2, .rw, 0x0⟩, ⟨8, 6, .rw, 0x3F⟩, ⟨14, 2, .rw, 0x0⟩, ⟨16, 6, .rw, 0x3F⟩, ⟨22, 2, .rw, 0x0⟩]⟩,  -- PG_SLOT1, R242
  ⟨0x048, 0x0, 1, 0, 0x0, 1, [⟨0, 1, .rw, 0x0⟩, ⟨1, 2, .rw, 0x0⟩, ⟨3, 2, .rw, 0x0⟩]⟩,  -- PG_CAR, R242
  ⟨0x04C, 0x0, 1, 0, 0x0, 1, [⟨0, 24, .rw, 0x9C400⟩]⟩,  -- PG_PRD, R242
  ⟨0x050, 0x0, 1, 0, 0x0, 1, [⟨0, 8, .rw, 0xFF⟩]⟩,  -- PG_SRC, R242
  ⟨0x054, 0x0, 1, 0, 0x0, 1, [⟨0, 4, .rw, 0xF⟩, ⟨8, 24, .rw, 0x0⟩]⟩,  -- PG_SYNC, R242
  ⟨0x058, 0x0, 1, 0, 0x0, 1, [⟨0, 1, .w1s, 0x0⟩, ⟨1, 1, .w1s, 0x0⟩]⟩,  -- PG_ARM, R242
  ⟨0x05C, 0x0, 1, 0, 0x0, 1, [⟨0, 2, .ro, 0x0⟩, ⟨2, 3, .ro, 0x0⟩, ⟨8, 4, .ro, 0x0⟩, ⟨12, 1, .ro, 0x0⟩, ⟨13, 1, .ro, 0x0⟩, ⟨14, 1, .ro, 0x0⟩, ⟨16, 16, .ro, 0x0⟩]⟩,  -- PG_STAT, R242
  ⟨0x060, 0x0, 1, 0, 0x0, 1, [⟨0, 15, .rw, 0xC80⟩, ⟨16, 15, .rw, 0xC80⟩]⟩,  -- PG_DT01, R242
  ⟨0x064, 0x0, 1, 0, 0x0, 1, [⟨0, 15, .rw, 0xC80⟩, ⟨16, 15, .rw, 0xC80⟩]⟩,  -- PG_DT23, R242
  ⟨0x068, 0x0, 1, 0, 0x0, 1, [⟨0, 15, .rw, 0xC80⟩, ⟨16, 15, .rw, 0xC80⟩]⟩,  -- PG_DT45, R242
  ⟨0x06C, 0x0, 1, 0, 0x0, 1, [⟨0, 12, .rw, 0x50⟩]⟩,  -- PG_MINPW, R242
  ⟨0x070, 0x0, 1, 0, 0x0, 1, [⟨0, 10, .rw, 0x64⟩]⟩,  -- PG_PRECHG, R242
  ⟨0x074, 0x0, 1, 0, 0x0, 1, [⟨0, 6, .rw, 0x0⟩]⟩,  -- PG_PT, R242
  ⟨0x078, 0x0, 1, 0, 0x0, 1, [⟨0, 24, .ro, 0x0⟩, ⟨24, 1, .ro, 0x0⟩]⟩,  -- PG_CNT, R242
  ⟨0x080, 0x4, 6, 0, 0x0, 1, [⟨0, 24, .ro, 0x0⟩]⟩,  -- PG_CMPk, R242
  ⟨0x098, 0x0, 1, 0, 0x0, 1, [⟨0, 6, .ro, 0x0⟩, ⟨8, 6, .ro, 0x0⟩]⟩,  -- PG_LVL, R242
  ⟨0x09C, 0x0, 1, 0, 0x0, 1, [⟨0, 8, .rc, 0x0⟩, ⟨8, 8, .rc, 0x0⟩, ⟨16, 8, .rc, 0x0⟩, ⟨24, 8, .rc, 0x0⟩]⟩]  -- PG_GCNT, R242

/-- Block registers of the GHD page type. -/
def rowsGhd : List RegRow := [
  ⟨0x100, 0x40, 4, 0, 0x0, 1, [⟨0, 8, .rw, 0x96⟩, ⟨8, 8, .rw, 0x28⟩, ⟨16, 1, .rw, 0x1⟩]⟩,  -- GHD_SUPc, R266
  ⟨0x104, 0x40, 4, 0, 0x0, 1, [⟨0, 6, .rw, 0x18⟩, ⟨8, 5, .rw, 0x4⟩, ⟨16, 1, .rw, 0x1⟩]⟩,  -- GHD_UVc, R266
  ⟨0x108, 0x40, 4, 0, 0x0, 1, [⟨0, 6, .rw, 0x1C⟩, ⟨8, 9, .rw, 0x64⟩, ⟨24, 1, .rw, 0x1⟩]⟩,  -- GHD_DSATc, R266
  ⟨0x10C, 0x40, 4, 0, 0x0, 1, [⟨0, 8, .rw, 0x64⟩, ⟨8, 9, .rw, 0x64⟩, ⟨24, 1, .rw, 0x1⟩]⟩,  -- GHD_STOc, R266
  ⟨0x110, 0x40, 4, 0, 0x0, 1, [⟨0, 1, .rw, 0x1⟩, ⟨4, 2, .rw, 0x1⟩]⟩,  -- GHD_CLPc, R266
  ⟨0x114, 0x40, 4, 0, 0x0, 1, [⟨0, 1, .ro, 0x0⟩, ⟨1, 1, .ro, 0x0⟩, ⟨2, 1, .ro, 0x0⟩, ⟨3, 1, .ro, 0x0⟩, ⟨4, 1, .ro, 0x0⟩, ⟨5, 1, .ro, 0x0⟩, ⟨6, 1, .ro, 0x0⟩, ⟨8, 1, .w1c, 0x0⟩, ⟨9, 1, .w1c, 0x0⟩]⟩,  -- GHD_STATc, R266
  ⟨0x118, 0x40, 4, 0, 0x0, 1, [⟨0, 8, .ro, 0x0⟩, ⟨8, 8, .rc, 0x0⟩]⟩,  -- GHD_PWRc, R266
  ⟨0x11C, 0x40, 4, 0, 0x0, 1, [⟨0, 8, .rc, 0x0⟩, ⟨8, 8, .rc, 0x0⟩, ⟨16, 8, .rc, 0x0⟩]⟩,  -- GHD_CNTc, R266
  ⟨0x120, 0x40, 4, 0, 0x0, 1, [⟨0, 8, .ro, 0x0⟩, ⟨8, 8, .ro, 0x0⟩]⟩]  -- GHD_MEASc, R266

/-- Block registers of the GLD page type. -/
def rowsGld : List RegRow := [
  ⟨0x040, 0x0, 1, 0, 0x0, 1, [⟨0, 8, .ro, 0x0⟩, ⟨8, 8, .ro, 0x0⟩, ⟨16, 1, .ro, 0x0⟩, ⟨17, 1, .ro, 0x0⟩]⟩,  -- GLD_SUP, R268
  ⟨0x100, 0x40, 4, 0, 0x0, 1, [⟨0, 8, .rw, 0x32⟩, ⟨8, 4, .rw, 0x4⟩, ⟨12, 1, .rw, 0x1⟩]⟩,  -- GLD_LEGi_CFG, R268
  ⟨0x104, 0x40, 4, 0, 0x0, 1, [⟨0, 1, .ro, 0x0⟩, ⟨1, 1, .ro, 0x0⟩, ⟨2, 1, .ro, 0x0⟩, ⟨3, 1, .ro, 0x0⟩, ⟨4, 1, .ro, 0x0⟩, ⟨5, 1, .ro, 0x0⟩, ⟨8, 1, .w1c, 0x0⟩]⟩,  -- GLD_LEGi_STAT, R268
  ⟨0x108, 0x40, 4, 0, 0x0, 1, [⟨0, 8, .ro, 0x0⟩]⟩,  -- GLD_LEGi_BST, R268
  ⟨0x10C, 0x40, 4, 0, 0x0, 1, [⟨0, 16, .rc, 0x0⟩, ⟨16, 8, .rc, 0x0⟩]⟩]  -- GLD_LEGi_CNT, R268

/-- Block registers of the FAD page type. -/
def rowsFad : List RegRow := [
  ⟨0x040, 0x0, 1, 0, 0x0, 1, [⟨0, 2, .rw, 0x0⟩, ⟨2, 1, .ro, 0x0⟩]⟩,  -- FAD_REF, R203
  ⟨0x044, 0x0, 1, 0, 0x0, 1, [⟨0, 16, .ro, 0x0⟩]⟩,  -- FAD_REF_MEAS, R203
  ⟨0x048, 0x0, 1, 0, 0x0, 1, [⟨0, 7, .ro, 0x0⟩]⟩,  -- FAD_GRID, R203
  ⟨0x04C, 0x0, 1, 0, 0x0, 1, [⟨0, 32, .w1c, 0x0⟩]⟩,  -- FAD_OVR, R203
  ⟨0x100, 0x20, 32, 0, 0x0, 1, [⟨0, 4, .rw, 0xF⟩, ⟨4, 1, .rw, 0x0⟩, ⟨5, 1, .rw, 0x0⟩, ⟨6, 1, .rw, 0x0⟩]⟩,  -- FAD_CHn_CFG, R203
  ⟨0x104, 0x20, 32, 0, 0x0, 1, [⟨0, 32, .rw, 0x3F800000⟩]⟩,  -- FAD_CHn_GAIN, R203
  ⟨0x108, 0x20, 32, 0, 0x0, 1, [⟨0, 32, .rw, 0x0⟩]⟩,  -- FAD_CHn_OFS, R203
  ⟨0x10C, 0x20, 32, 0, 0x0, 1, [⟨0, 20, .ro, 0x0⟩, ⟨20, 1, .ro, 0x0⟩, ⟨21, 1, .ro, 0x0⟩, ⟨22, 1, .ro, 0x0⟩, ⟨23, 1, .ro, 0x0⟩, ⟨24, 8, .ro, 0x0⟩]⟩,  -- FAD_CHn_LAST, R203
  ⟨0x110, 0x20, 32, 0, 0x0, 1, [⟨0, 16, .ro, 0x0⟩, ⟨16, 1, .ro, 0x0⟩]⟩,  -- FAD_CHn_RAW, R203
  ⟨0x114, 0x20, 32, 0, 0x0, 1, [⟨0, 13, .ro, 0x0⟩, ⟨24, 8, .ro, 0x0⟩]⟩]  -- FAD_CHn_N, R203

/-- Block registers of the FAQ page type. -/
def rowsFaq : List RegRow := [
  ⟨0x040, 0x0, 1, 0, 0x0, 1, [⟨0, 1, .rw, 0x0⟩, ⟨1, 1, .rw, 0x0⟩, ⟨2, 1, .w1s, 0x0⟩, ⟨16, 10, .rw, 0x100⟩]⟩,  -- FAQ_CTL, R205
  ⟨0x044, 0x0, 1, 0, 0x0, 1, [⟨0, 10, .ro, 0x0⟩, ⟨10, 1, .ro, 0x0⟩, ⟨11, 1, .ro, 0x0⟩, ⟨12, 7, .ro, 0x0⟩]⟩,  -- FAQ_STAT, R205
  ⟨0x048, 0x0, 1, 0, 0x0, 1, [⟨0, 20, .ro, 0x0⟩, ⟨20, 1, .ro, 0x0⟩, ⟨21, 1, .ro, 0x0⟩, ⟨22, 1, .ro, 0x0⟩, ⟨23, 5, .ro, 0x0⟩, ⟨31, 1, .ro, 0x0⟩]⟩,  -- FAQ_POP0, R205
  ⟨0x04C, 0x0, 1, 0, 0x0, 1, [⟨0, 8, .ro, 0x0⟩, ⟨8, 13, .ro, 0x0⟩, ⟨24, 4, .ro, 0x0⟩]⟩,  -- FAQ_POP1, R205
  ⟨0x050, 0x0, 1, 0, 0x0, 1, [⟨0, 8, .ro, 0x0⟩, ⟨8, 13, .ro, 0x0⟩, ⟨24, 4, .ro, 0x0⟩]⟩,  -- FAQ_HEAD1, R205
  ⟨0x054, 0x0, 1, 0, 0x0, 1, [⟨0, 16, .rc, 0x0⟩]⟩,  -- FAQ_UNDERRUN, R205
  ⟨0x058, 0x0, 1, 0, 0x0, 1, [⟨0, 16, .rc, 0x0⟩]⟩,  -- FAQ_LOST, R205
  ⟨0x05C, 0x0, 1, 0, 0x0, 1, [⟨0, 32, .rw, 0x20300000⟩]⟩,  -- FAQ_DMA_BASE, R205
  ⟨0x060, 0x0, 1, 0, 0x0, 1, [⟨0, 4, .rw, 0x9⟩]⟩,  -- FAQ_DMA_SIZE, R205
  ⟨0x064, 0x0, 1, 0, 0x0, 1, [⟨0, 15, .ro, 0x0⟩]⟩]  -- FAQ_DMA_WR, R205

/-- Block registers of the HKA page type. -/
def rowsHka : List RegRow := [
  ⟨0x040, 0x0, 1, 0, 0x0, 1, [⟨0, 14, .rw, 0x64⟩]⟩,  -- HKA_ROUND, R207
  ⟨0x044, 0x0, 1, 0, 0x0, 1, [⟨0, 16, .ro, 0x0⟩, ⟨16, 1, .ro, 0x0⟩]⟩,  -- HKA_STAT, R207
  ⟨0x048, 0x0, 1, 0, 0x0, 1, [⟨0, 6, .rw, 0x0⟩]⟩,  -- HKA_TSEL, R207
  ⟨0x04C, 0x0, 1, 0, 0x0, 1, [⟨0, 6, .ro, 0x0⟩, ⟨8, 6, .ro, 0x0⟩]⟩,  -- HKA_OPEN, R207
  ⟨0x050, 0x4, 6, 0, 0x0, 1, [⟨0, 16, .rw, 0x3E8⟩, ⟨16, 16, .rw, 0xD7A⟩]⟩,  -- HKA_NTCk, R207
  ⟨0x068, 0x4, 6, 0, 0x0, 1, [⟨0, 16, .ro, 0x0⟩, ⟨16, 8, .ro, 0x0⟩, ⟨24, 1, .ro, 0x0⟩]⟩,  -- HKA_TEMPk, R207
  ⟨0x080, 0x4, 16, 0, 0x0, 1, [⟨0, 5, .rw, 0x0⟩, ⟨8, 1, .rw, 0x0⟩]⟩,  -- HKA_MIRk, R207
  ⟨0x100, 0x4, 64, 0, 0x0, 1, [⟨0, 16, .ro, 0x0⟩, ⟨16, 8, .ro, 0x0⟩, ⟨24, 1, .ro, 0x0⟩]⟩]  -- HKA_INn, R207

/-- Block registers of the WMA page type. -/
def rowsWma : List RegRow := [
  ⟨0x100, 0x20, 32, 0, 0x0, 1, [⟨0, 1, .rw, 0x0⟩, ⟨1, 5, .rw, 0x0⟩, ⟨6, 4, .rw, 0xF⟩, ⟨10, 1, .rw, 0x0⟩, ⟨11, 1, .rw, 0x0⟩, ⟨12, 1, .rw, 0x0⟩, ⟨13, 2, .rw, 0x1⟩, ⟨15, 1, .rw, 0x0⟩, ⟨16, 7, .rw, 0x0⟩, ⟨23, 1, .rw, 0x0⟩, ⟨24, 1, .rw, 0x0⟩]⟩,  -- WMA_CFGn, R209
  ⟨0x104, 0x20, 32, 0, 0x0, 1, [⟨0, 12, .rw, 0x7FF⟩, ⟨16, 12, .rw, 0x800⟩]⟩,  -- WMA_THn, R209
  ⟨0x108, 0x20, 32, 0, 0x0, 1, [⟨0, 16, .rw, 0x0⟩]⟩,  -- WMA_RAMPn, R209
  ⟨0x10C, 0x20, 32, 0, 0x0, 1, [⟨0, 8, .rw, 0x0⟩, ⟨8, 2, .rw, 0x0⟩]⟩,  -- WMA_XSRCn, R209
  ⟨0x110, 0x20, 32, 0, 0x0, 1, [⟨0, 2, .ro, 0x2⟩, ⟨2, 2, .ro, 0x2⟩, ⟨4, 1, .w1c, 0x0⟩, ⟨5, 1, .w1c, 0x0⟩, ⟨6, 1, .ro, 0x0⟩, ⟨7, 2, .ro, 0x0⟩, ⟨16, 8, .rc, 0x0⟩]⟩,  -- WMA_STATn, R209
  ⟨0x114, 0x20, 32, 0, 0x0, 1, [⟨0, 1, .w1s, 0x0⟩, ⟨1, 1, .w1s, 0x0⟩]⟩]  -- WMA_CHKn, R209

/-- Block registers of the POS page type. -/
def rowsPos0 : List RegRow := [
  ⟨0x040, 0x0, 1, 0, 0x0, 1, [⟨0, 3, .rw, 0x0⟩, ⟨3, 1, .rw, 0x0⟩, ⟨4, 3, .rw, 0x2⟩, ⟨7, 1, .rw, 0x1⟩, ⟨8, 4, .rw, 0x1⟩, ⟨12, 6, .rw, 0x1⟩, ⟨18, 2, .rw, 0x2⟩]⟩,  -- POSn_CFG, R293
  ⟨0x044, 0x0, 1, 0, 0x0, 1, [⟨0, 16, .rw, 0x0⟩]⟩,  -- POSn_OFS, R293
  ⟨0x048, 0x0, 1, 0, 0x0, 1, [⟨0, 16, .rw, 0x400⟩, ⟨16, 1, .rw, 0x0⟩, ⟨17, 1, .rw, 0x0⟩, ⟨24, 8, .rw, 0x2⟩]⟩,  -- POSn_QEI, R293
  ⟨0x04C, 0x0, 1, 0, 0x0, 1, [⟨0, 18, .rw, 0x1D850⟩]⟩,  -- POSn_HALL, R293
  ⟨0x050, 0x0, 1, 0, 0x0, 1, [⟨0, 10, .rw, 0x64⟩, ⟨16, 3, .rw, 0x2⟩]⟩,  -- POSn_TIME, R293
  ⟨0x054, 0x0, 1, 0, 0x0, 1, [⟨0, 8, .rw, 0x8⟩, ⟨8, 10, .rw, 0xA⟩]⟩,  -- POSn_ILL, R293
  ⟨0x058, 0x0, 1, 0, 0x0, 1, [⟨0, 5, .rw, 0x0⟩, ⟨5, 5, .rw, 0x0⟩, ⟨10, 11, .rw, 0x1F4⟩, ⟨21, 5, .rw, 0xE⟩, ⟨26, 1, .rw, 0x0⟩]⟩,  -- POSn_RSLV0, R293
  ⟨0x05C, 0x0, 1, 0, 0x0, 1, [⟨0, 11, .rw, 0x0⟩, ⟨16, 8, .rw, 0x40⟩, ⟨24, 8, .rw, 0xF0⟩]⟩,  -- POSn_RSLV1, R293
  ⟨0x060, 0x0, 1, 0, 0x0, 1, [⟨0, 7, .rw, 0x20⟩, ⟨8, 6, .rw, 0x0⟩, ⟨16, 6, .rw, 0x18⟩, ⟨22, 5, .rw, 0x18⟩]⟩,  -- POSn_SER0, R293
  ⟨0x064, 0x0, 1, 0, 0x0, 1, [⟨0, 6, .rw, 0x18⟩, ⟨6, 1, .rw, 0x1⟩, ⟨7, 1, .rw, 0x0⟩, ⟨8, 2, .rw, 0x2⟩, ⟨10, 1, .rw, 0x0⟩, ⟨16, 8, .rw, 0x28⟩, ⟨24, 6, .rw, 0x8⟩]⟩,  -- POSn_SER1, R293
  ⟨0x068, 0x0, 1, 0, 0x0, 1, [⟨0, 4, .rw, 0xF⟩, ⟨4, 4, .rw, 0x1⟩, ⟨8, 7, .rw, 0x14⟩, ⟨16, 8, .rw, 0x0⟩, ⟨24, 6, .rw, 0x4⟩]⟩,  -- POSn_SER2, R293
  ⟨0x06C, 0x0, 1, 0, 0x0, 1, [⟨0, 1, .w1s, 0x0⟩]⟩,  -- POSn_CTL, R293
  ⟨0x070, 0x0, 1, 0, 0x0, 1, [⟨0, 3, .ro, 0x0⟩, ⟨3, 1, .ro, 0x0⟩, ⟨4, 1, .ro, 0x0⟩, ⟨5, 1, .ro, 0x0⟩, ⟨6, 1, .ro, 0x0⟩, ⟨7, 1, .ro, 0x0⟩, ⟨8, 1, .ro, 0x0⟩, ⟨9, 3, .ro, 0x0⟩, ⟨12, 1, .ro, 0x0⟩]⟩,  -- POSn_STAT, R293
  ⟨0x074, 0x0, 1, 0, 0x0, 1, [⟨0, 32, .ro, 0x0⟩]⟩,  -- POSn_ANG, R293
  ⟨0x078, 0x0, 1, 0, 0x0, 1, [⟨0, 32, .ro, 0x0⟩]⟩,  -- POSn_SPD, R293
  ⟨0x07C, 0x0, 1, 0, 0x0, 1, [⟨0, 32, .ro, 0x0⟩]⟩,  -- POSn_RPM, R293
  ⟨0x080, 0x0, 1, 0, 0x0, 1, [⟨0, 32, .ro, 0x0⟩]⟩,  -- POSn_COUNT, R293
  ⟨0x084, 0x0, 1, 0, 0x0, 1, [⟨0, 32, .ro, 0x0⟩]⟩,  -- POSn_PERIOD, R293
  ⟨0x088, 0x0, 1, 0, 0x0, 1, [⟨0, 16, .ro, 0x0⟩]⟩,  -- POSn_MTURN, R293
  ⟨0x08C, 0x0, 1, 0, 0x0, 1, [⟨0, 16, .ro, 0x0⟩]⟩]  -- POSn_AMP, R293

/-- Block registers of the POS page type. -/
def rowsPos1 : List RegRow := [
  ⟨0x090, 0x0, 1, 0, 0x0, 1, [⟨0, 32, .ro, 0x0⟩]⟩,  -- POSn_RAW0, R293
  ⟨0x094, 0x0, 1, 0, 0x0, 1, [⟨0, 32, .ro, 0x0⟩]⟩,  -- POSn_RAW1, R293
  ⟨0x098, 0x0, 1, 0, 0x0, 1, [⟨0, 8, .rc, 0x0⟩, ⟨8, 8, .rc, 0x0⟩, ⟨16, 8, .rc, 0x0⟩, ⟨24, 8, .rc, 0x0⟩]⟩,  -- POSn_ERRC, R293
  ⟨0x09C, 0x0, 1, 0, 0x0, 1, [⟨0, 8, .rc, 0x0⟩]⟩]  -- POSn_SKIP, R293

/-- Block registers of the POS page type. -/
def rowsPos : List RegRow := rowsPos0 ++ rowsPos1

/-- Block registers of the EMU page type. -/
def rowsEmu : List RegRow := [
  ⟨0x040, 0x10, 2, 0, 0x0, 1, [⟨0, 1, .rw, 0x0⟩, ⟨1, 1, .rw, 0x0⟩, ⟨2, 2, .rw, 0x0⟩, ⟨4, 1, .rw, 0x0⟩, ⟨5, 1, .rw, 0x0⟩]⟩,  -- EMU_CFGe, R295
  ⟨0x044, 0x10, 2, 0, 0x0, 1, [⟨0, 16, .rw, 0x1⟩, ⟨16, 16, .rw, 0x1⟩]⟩,  -- EMU_RATIOe, R295
  ⟨0x048, 0x10, 2, 0, 0x0, 1, [⟨0, 24, .rw, 0x1000⟩]⟩,  -- EMU_ZPERe, R295
  ⟨0x04C, 0x10, 2, 0, 0x0, 1, [⟨0, 16, .ro, 0x0⟩, ⟨16, 1, .w1c, 0x0⟩, ⟨17, 1, .ro, 0x0⟩]⟩]  -- EMU_STATe, R295

/-- Block registers of the TRC page type. -/
def rowsTrc0 : List RegRow := [
  ⟨0x040, 0x0, 1, 0, 0x0, 1, [⟨0, 4, .rw, 0x0⟩, ⟨4, 2, .rw, 0x0⟩, ⟨6, 1, .rw, 0x0⟩, ⟨7, 1, .rw, 0x0⟩, ⟨8, 1, .rw, 0x1⟩]⟩,  -- TRC_CFG, R321
  ⟨0x044, 0x0, 1, 0, 0x0, 1, [⟨0, 5, .rw, 0x0⟩, ⟨5, 5, .rw, 0x0⟩, ⟨10, 5, .rw, 0x0⟩, ⟨15, 5, .rw, 0x0⟩, ⟨20, 5, .rw, 0x0⟩, ⟨25, 5, .rw, 0x0⟩]⟩,  -- TRC_FA, R321
  ⟨0x048, 0x0, 1, 0, 0x0, 1, [⟨0, 8, .rw, 0x40⟩]⟩,  -- TRC_OPD, R321
  ⟨0x04C, 0x0, 1, 0, 0x0, 1, [⟨0, 32, .rw, 0x0⟩]⟩,  -- TRC_RES_TH, R321
  ⟨0x050, 0x0, 1, 0, 0x0, 1, [⟨0, 32, .rw, 0x0⟩]⟩,  -- TRC_Z_TH, R321
  ⟨0x054, 0x0, 1, 0, 0x0, 1, [⟨0, 11, .rw, 0x384⟩, ⟨16, 6, .rw, 0x3C⟩]⟩,  -- TRC_DEG, R321
  ⟨0x058, 0x0, 1, 0, 0x0, 1, [⟨0, 32, .rw, 0x0⟩]⟩,  -- TRC_DEG_ILIM, R321
  ⟨0x05C, 0x0, 1, 0, 0x0, 1, [⟨0, 1, .w1s, 0x0⟩, ⟨1, 1, .w1s, 0x0⟩]⟩,  -- TRC_CTL, R321
  ⟨0x060, 0x0, 1, 0, 0x0, 1, [⟨0, 2, .ro, 0x0⟩, ⟨2, 1, .ro, 0x0⟩, ⟨3, 2, .ro, 0x0⟩, ⟨5, 3, .ro, 0x7⟩, ⟨8, 1, .ro, 0x0⟩, ⟨9, 3, .ro, 0x0⟩]⟩,  -- TRC_STAT, R321
  ⟨0x064, 0x0, 1, 0, 0x0, 1, [⟨0, 21, .ro, 0x0⟩]⟩,  -- TRC_DEG_TIME, R321
  ⟨0x068, 0x0, 1, 0, 0x0, 1, [⟨0, 8, .ro, 0x0⟩, ⟨8, 8, .ro, 0x0⟩, ⟨16, 8, .ro, 0x0⟩, ⟨24, 8, .ro, 0x0⟩]⟩,  -- TRC_CNT, R321
  ⟨0x06C, 0x0, 1, 0, 0x0, 1, [⟨0, 32, .ro, 0x0⟩]⟩,  -- TRC_RES, R321
  ⟨0x070, 0x0, 1, 0, 0x0, 1, [⟨0, 32, .ro, 0x0⟩]⟩,  -- TRC_Z1, R321
  ⟨0x074, 0x0, 1, 0, 0x0, 1, [⟨0, 32, .ro, 0x0⟩]⟩,  -- TRC_Z2, R321
  ⟨0x078, 0x0, 1, 0, 0x0, 1, [⟨0, 32, .ro, 0x0⟩]⟩,  -- TRC_ISET, R321
  ⟨0x080, 0x0, 1, 0, 0x0, 1, [⟨0, 8, .rw, 0x0⟩, ⟨8, 2, .rw, 0x0⟩, ⟨10, 2, .rw, 0x1⟩, ⟨12, 3, .rw, 0x0⟩]⟩,  -- TRC_KE_SRC, R321
  ⟨0x084, 0x0, 1, 0, 0x0, 1, [⟨0, 32, .rw, 0x0⟩]⟩,  -- TRC_KE_NOM, R321
  ⟨0x088, 0x0, 1, 0, 0x0, 1, [⟨0, 32, .rw, 0x0⟩]⟩,  -- TRC_KE_ALPHA, R321
  ⟨0x08C, 0x0, 1, 0, 0x0, 1, [⟨0, 8, .rw, 0xA⟩, ⟨8, 8, .rw, 0x1E⟩, ⟨16, 8, .rw, 0x40⟩, ⟨24, 4, .rw, 0x8⟩]⟩,  -- TRC_KE_TOL, R321
  ⟨0x090, 0x0, 1, 0, 0x0, 1, [⟨0, 32, .ro, 0x0⟩]⟩]  -- TRC_KE_LAST, R321

/-- Block registers of the TRC page type. -/
def rowsTrc1 : List RegRow := [
  ⟨0x094, 0x0, 1, 0, 0x0, 1, [⟨0, 32, .ro, 0x0⟩]⟩,  -- TRC_KE_RATIO, R321
  ⟨0x098, 0x0, 1, 0, 0x0, 1, [⟨0, 32, .ro, 0x0⟩]⟩,  -- TRC_KE_IDR, R321
  ⟨0x09C, 0x0, 1, 0, 0x0, 1, [⟨0, 3, .ro, 0x0⟩, ⟨3, 1, .ro, 0x0⟩, ⟨8, 8, .ro, 0x0⟩, ⟨16, 16, .ro, 0x0⟩]⟩]  -- TRC_KE_STAT, R321

/-- Block registers of the TRC page type. -/
def rowsTrc : List RegRow := rowsTrc0 ++ rowsTrc1

/-- Block registers of the CHG page type. -/
def rowsChg : List RegRow := [
  ⟨0x040, 0x0, 1, 0, 0x0, 1, [⟨0, 1, .rw, 0x0⟩, ⟨1, 1, .rw, 0x1⟩, ⟨8, 8, .rw, 0x6⟩]⟩,  -- CHG_CFG, R357
  ⟨0x044, 0x0, 1, 0, 0x0, 1, [⟨0, 5, .rw, 0xD⟩, ⟨5, 5, .rw, 0xE⟩, ⟨10, 5, .rw, 0xF⟩, ⟨15, 5, .rw, 0x10⟩, ⟨20, 5, .rw, 0x11⟩, ⟨25, 5, .rw, 0x12⟩]⟩,  -- CHG_FA0, R357
  ⟨0x048, 0x0, 1, 0, 0x0, 1, [⟨0, 5, .rw, 0x13⟩]⟩,  -- CHG_FA1, R357
  ⟨0x04C, 0x0, 1, 0, 0x0, 1, [⟨0, 10, .rw, 0x64⟩, ⟨16, 10, .rw, 0x1E⟩]⟩,  -- CHG_TO0, R357
  ⟨0x050, 0x0, 1, 0, 0x0, 1, [⟨0, 10, .rw, 0x32⟩, ⟨16, 10, .rw, 0x1E⟩]⟩,  -- CHG_TO1, R357
  ⟨0x054, 0x0, 1, 0, 0x0, 1, [⟨0, 12, .rw2, 0x730⟩, ⟨16, 12, .rw2, 0xA55⟩]⟩,  -- CHG_PROT0, R357
  ⟨0x058, 0x0, 1, 0, 0x0, 1, [⟨0, 16, .rw2, 0x128E⟩, ⟨16, 16, .rw2, 0x141E⟩]⟩,  -- CHG_PROT1, R357
  ⟨0x05C, 0x0, 1, 0, 0x0, 1, [⟨0, 10, .rw2, 0xC8⟩, ⟨16, 10, .rw2, 0x1F4⟩]⟩,  -- CHG_PROT2, R357
  ⟨0x060, 0x0, 1, 0, 0x0, 1, [⟨0, 16, .rw2, 0x898⟩, ⟨16, 16, .rw2, 0x44C⟩]⟩,  -- CHG_PROT3, R357
  ⟨0x064, 0x0, 1, 0, 0x0, 1, [⟨0, 1, .rw2, 0x0⟩, ⟨8, 8, .rw2, 0x28⟩]⟩,  -- CHG_PROT4, R357
  ⟨0x068, 0x0, 1, 0, 0x0, 1, [⟨0, 3, .rw, 0x5⟩, ⟨8, 8, .rw, 0xEC⟩, ⟨16, 8, .rw, 0x3C⟩]⟩,  -- CHG_TINH, R357
  ⟨0x06C, 0x0, 1, 0, 0x0, 1, [⟨0, 3, .ro, 0x0⟩, ⟨3, 3, .ro, 0x7⟩, ⟨6, 1, .ro, 0x0⟩, ⟨7, 1, .ro, 0x0⟩, ⟨8, 3, .ro, 0x0⟩, ⟨11, 1, .ro, 0x0⟩, ⟨12, 1, .ro, 0x0⟩, ⟨13, 2, .ro, 0x0⟩, ⟨16, 4, .ro, 0x0⟩]⟩,  -- CHG_STAT, R357
  ⟨0x070, 0x0, 1, 0, 0x0, 1, [⟨0, 10, .ro, 0x0⟩, ⟨16, 12, .ro, 0x0⟩]⟩,  -- CHG_CP, R357
  ⟨0x074, 0x0, 1, 0, 0x0, 1, [⟨0, 16, .ro, 0x0⟩, ⟨16, 16, .ro, 0x0⟩]⟩,  -- CHG_CPV, R357
  ⟨0x078, 0x0, 1, 0, 0x0, 1, [⟨0, 16, .ro, 0xFFFF⟩]⟩,  -- CHG_PP, R357
  ⟨0x07C, 0x4, 3, 0, 0x0, 1, [⟨0, 12, .ro, 0x0⟩, ⟨16, 12, .ro, 0x0⟩]⟩,  -- CHG_VRMSk, R357
  ⟨0x088, 0x0, 1, 0, 0x0, 1, [⟨0, 16, .ro, 0x0⟩, ⟨16, 16, .ro, 0x0⟩]⟩,  -- CHG_FREQ, R357
  ⟨0x08C, 0x0, 1, 0, 0x0, 1, [⟨0, 32, .ro, 0x0⟩]⟩,  -- CHG_PWR, R357
  ⟨0x090, 0x0, 1, 0, 0x0, 1, [⟨0, 8, .rc, 0x0⟩, ⟨8, 8, .rc, 0x0⟩]⟩]  -- CHG_CNT, R357

/-- Block registers of the AUX page type. -/
def rowsAux : List RegRow := [
  ⟨0x040, 0x0, 1, 0, 0x0, 1, [⟨0, 1, .rw, 0x0⟩, ⟨1, 5, .rw, 0x14⟩, ⟨6, 8, .rw, 0x9⟩, ⟨14, 5, .rw, 0x15⟩, ⟨19, 5, .rw, 0x16⟩]⟩,  -- AUX_CFG, R359
  ⟨0x044, 0x0, 1, 0, 0x0, 1, [⟨0, 7, .rw, 0x14⟩, ⟨7, 1, .rw, 0x1⟩]⟩,  -- AUX_CHK, R359
  ⟨0x048, 0x0, 1, 0, 0x0, 1, [⟨0, 10, .rw, 0x32⟩, ⟨16, 8, .rw, 0xC8⟩]⟩,  -- AUX_SS, R359
  ⟨0x04C, 0x0, 1, 0, 0x0, 1, [⟨0, 12, .rw, 0x200⟩, ⟨16, 12, .rw, 0x7FF⟩]⟩,  -- AUX_CEIL, R359
  ⟨0x050, 0x0, 1, 0, 0x0, 1, [⟨0, 11, .rw, 0xC8⟩, ⟨16, 4, .rw, 0x5⟩]⟩,  -- AUX_HIC, R359
  ⟨0x054, 0x0, 1, 0, 0x0, 1, [⟨0, 10, .rw, 0x64⟩, ⟨16, 7, .rw, 0x5A⟩, ⟨24, 7, .rw, 0x50⟩]⟩,  -- AUX_VMON, R359
  ⟨0x058, 0x0, 1, 0, 0x0, 1, [⟨0, 3, .ro, 0x0⟩, ⟨4, 3, .ro, 0x0⟩, ⟨7, 4, .ro, 0x0⟩, ⟨11, 1, .ro, 0x0⟩, ⟨12, 1, .ro, 0x0⟩, ⟨16, 16, .ro, 0x0⟩]⟩,  -- AUX_STAT, R359
  ⟨0x05C, 0x0, 1, 0, 0x0, 1, [⟨0, 16, .ro, 0x0⟩, ⟨16, 16, .ro, 0x0⟩]⟩,  -- AUX_MEAS, R359
  ⟨0x060, 0x0, 1, 0, 0x0, 1, [⟨0, 8, .rc, 0x0⟩, ⟨8, 8, .rc, 0x0⟩, ⟨16, 16, .rc, 0x0⟩]⟩]  -- AUX_CNT, R359

/-- Block registers of the ACT page type. -/
def rowsAct : List RegRow := [
  ⟨0x040, 0x0, 1, 0, 0x0, 1, [⟨0, 1, .rw, 0x0⟩, ⟨1, 1, .rw, 0x0⟩, ⟨2, 4, .rw, 0x0⟩, ⟨6, 1, .rw, 0x0⟩, ⟨7, 1, .rw, 0x1⟩]⟩,  -- ACT_CFG, R385
  ⟨0x044, 0x0, 1, 0, 0x0, 1, [⟨0, 18, .rw, 0x1D850⟩, ⟨18, 6, .rw, 0x0⟩, ⟨24, 3, .rw, 0x2⟩]⟩,  -- ACT_HALL, R385
  ⟨0x048, 0x0, 1, 0, 0x0, 1, [⟨0, 6, .rw, 0xF⟩, ⟨8, 6, .rw, 0x0⟩, ⟨16, 8, .rw, 0xD⟩, ⟨24, 3, .rw, 0x2⟩, ⟨28, 3, .rw, 0x2⟩]⟩,  -- ACT_PLN, R385
  ⟨0x04C, 0x0, 1, 0, 0x0, 1, [⟨0, 8, .rw, 0x26⟩, ⟨8, 8, .rw, 0x32⟩, ⟨16, 10, .rw, 0xC8⟩, ⟨26, 3, .rw, 0x3⟩]⟩,  -- ACT_START0, R385
  ⟨0x050, 0x0, 1, 0, 0x0, 1, [⟨0, 16, .rw, 0x190⟩, ⟨16, 8, .rw, 0x64⟩, ⟨24, 4, .rw, 0x6⟩]⟩,  -- ACT_START1, R385
  ⟨0x054, 0x0, 1, 0, 0x0, 1, [⟨0, 16, .rw, 0x64⟩, ⟨16, 8, .rw, 0x14⟩, ⟨24, 8, .rw, 0xA⟩]⟩,  -- ACT_CATCH, R385
  ⟨0x058, 0x0, 1, 0, 0x0, 1, [⟨0, 10, .rw, 0x1F4⟩, ⟨10, 6, .rw, 0x5⟩, ⟨16, 10, .rw, 0x14⟩]⟩,  -- ACT_TIME, R385
  ⟨0x05C, 0x0, 1, 0, 0x0, 1, [⟨0, 32, .rw, 0x0⟩]⟩,  -- ACT_KE, R385
  ⟨0x060, 0x0, 1, 0, 0x0, 1, [⟨0, 8, .rw, 0x19⟩, ⟨8, 8, .rw, 0x2⟩]⟩,  -- ACT_EMF, R385
  ⟨0x064, 0x0, 1, 0, 0x0, 1, [⟨0, 16, .rw, 0x0⟩, ⟨16, 16, .rw, 0x0⟩]⟩,  -- ACT_PARK, R385
  ⟨0x068, 0x0, 1, 0, 0x0, 1, [⟨0, 12, .rw, 0xA⟩, ⟨16, 12, .rw, 0x32⟩, ⟨28, 2, .rw, 0x0⟩]⟩,  -- ACT_PARK_SPD, R385
  ⟨0x06C, 0x0, 1, 0, 0x0, 1, [⟨0, 1, .w1s, 0x0⟩]⟩,  -- ACT_CTL, R385
  ⟨0x070, 0x0, 1, 0, 0x0, 1, [⟨0, 4, .ro, 0x0⟩, ⟨4, 3, .ro, 0x0⟩, ⟨7, 1, .ro, 0x0⟩, ⟨8, 1, .ro, 0x0⟩, ⟨9, 1, .ro, 0x0⟩, ⟨10, 1, .ro, 0x0⟩, ⟨11, 1, .ro, 0x0⟩, ⟨12, 1, .ro, 0x0⟩, ⟨13, 1, .ro, 0x0⟩, ⟨16, 3, .ro, 0x0⟩, ⟨20, 3, .ro, 0x0⟩]⟩,  -- ACT_STAT, R385
  ⟨0x074, 0x0, 1, 0, 0x0, 1, [⟨0, 32, .ro, 0x0⟩]⟩,  -- ACT_COUNT, R385
  ⟨0x078, 0x0, 1, 0, 0x0, 1, [⟨0, 32, .ro, 0x0⟩]⟩,  -- ACT_SPEED, R385
  ⟨0x07C, 0x0, 1, 0, 0x0, 1, [⟨0, 16, .ro, 0x0⟩, ⟨24, 8, .ro, 0x0⟩]⟩,  -- ACT_MEAS, R385
  ⟨0x080, 0x0, 1, 0, 0x0, 1, [⟨0, 8, .rc, 0x0⟩, ⟨8, 8, .rc, 0x0⟩, ⟨16, 8, .rc, 0x0⟩, ⟨24, 8, .rc, 0x0⟩]⟩]  -- ACT_CNT, R385

/-- Block registers of the DRL page type. -/
def rowsDrl : List RegRow := [
  ⟨0x040, 0x0, 1, 0, 0x0, 1, [⟨0, 2, .rw, 0x0⟩, ⟨4, 4, .rw, 0x2⟩, ⟨8, 8, .rw, 0x1⟩, ⟨16, 8, .rw, 0x4⟩, ⟨24, 4, .rw, 0x0⟩]⟩,  -- DRL_CFG, R387
  ⟨0x044, 0x0, 1, 0, 0x0, 1, [⟨0, 2, .rw, 0x0⟩, ⟨2, 2, .rw, 0x1⟩, ⟨4, 2, .rw, 0x2⟩]⟩,  -- DRL_POS, R387
  ⟨0x048, 0x0, 1, 0, 0x0, 1, [⟨0, 32, .rw, 0x0⟩]⟩,  -- DRL_KSYNC, R387
  ⟨0x04C, 0x0, 1, 0, 0x0, 1, [⟨0, 32, .rw, 0x0⟩]⟩,  -- DRL_TQ_SYNC, R387
  ⟨0x050, 0x0, 1, 0, 0x0, 1, [⟨0, 32, .rw, 0x0⟩]⟩,  -- DRL_TQ_TH, R387
  ⟨0x054, 0x0, 1, 0, 0x0, 1, [⟨0, 32, .rw, 0x0⟩]⟩,  -- DRL_HAND, R387
  ⟨0x058, 0x0, 1, 0, 0x0, 1, [⟨0, 32, .rw, 0x0⟩]⟩,  -- DRL_RST_RATE, R387
  ⟨0x05C, 0x0, 1, 0, 0x0, 1, [⟨0, 16, .rw, 0x14⟩, ⟨16, 10, .rw, 0x14⟩]⟩,  -- DRL_SYNC, R387
  ⟨0x060, 0x0, 1, 0, 0x0, 1, [⟨0, 9, .rw, 0xF⟩]⟩,  -- DRL_RST, R387
  ⟨0x064, 0x0, 1, 0, 0x0, 1, [⟨0, 1, .w1s, 0x0⟩, ⟨1, 1, .w1s, 0x0⟩, ⟨8, 3, .rw, 0x0⟩]⟩,  -- DRL_CTL, R387
  ⟨0x068, 0x0, 1, 0, 0x0, 1, [⟨0, 1, .ro, 0x0⟩, ⟨1, 1, .ro, 0x0⟩, ⟨2, 1, .ro, 0x0⟩, ⟨4, 3, .ro, 0x0⟩, ⟨8, 3, .ro, 0x0⟩, ⟨12, 3, .ro, 0x0⟩, ⟨16, 4, .ro, 0x0⟩]⟩,  -- DRL_STAT, R387
  ⟨0x06C, 0x0, 1, 0, 0x0, 1, [⟨0, 16, .ro, 0x0⟩, ⟨16, 16, .ro, 0x0⟩]⟩,  -- DRL_TIME, R387
  ⟨0x070, 0x4, 4, 0, 0x0, 1, [⟨0, 32, .ro, 0x0⟩]⟩,  -- DRL_SAVEk, R387
  ⟨0x100, 0x8, 8, 0, 0x0, 1, [⟨0, 3, .rw, 0x0⟩, ⟨3, 2, .rw, 0x0⟩, ⟨5, 3, .rw, 0x0⟩, ⟨8, 9, .rw, 0x64⟩]⟩,  -- DRL_STEPk_CTL, R387
  ⟨0x104, 0x8, 8, 0, 0x0, 1, [⟨0, 32, .rw, 0x0⟩]⟩]  -- DRL_STEPk_PAR, R387

/-- Block registers of the SAF page type. -/
def rowsSaf : List RegRow := [
  ⟨0x040, 0x4, 12, 0, 0x0, 1, [⟨0, 16, .rw2, 0xBB8⟩, ⟨16, 1, .rw2, 0x0⟩, ⟨17, 1, .rw2, 0x0⟩, ⟨18, 2, .rw2, 0x0⟩]⟩,  -- SAF_GRPn, R418
  ⟨0x070, 0x0, 1, 0, 0x0, 1, [⟨0, 5, .rw2, 0x9⟩, ⟨8, 7, .rw2, 0x14⟩, ⟨16, 4, .rw2, 0x3⟩, ⟨20, 1, .rw2, 0x0⟩]⟩,  -- SAF_CHOP, R418
  ⟨0x074, 0x0, 1, 0, 0x0, 1, [⟨0, 5, .rw2, 0xC⟩, ⟨5, 1, .rw2, 0x0⟩]⟩,  -- SAF_OV2, R418
  ⟨0x078, 0x0, 1, 0, 0x0, 1, [⟨0, 10, .rw2, 0x64⟩]⟩,  -- SAF_HOLD, R418
  ⟨0x07C, 0x0, 1, 0, 0x0, 1, [⟨0, 12, .ro, 0x0⟩, ⟨16, 12, .ro, 0x0⟩]⟩,  -- SAF_SAFE, R418
  ⟨0x080, 0x0, 1, 0, 0x0, 1, [⟨0, 12, .w1s, 0x0⟩]⟩,  -- SAF_REL, R418
  ⟨0x084, 0x0, 1, 0, 0x0, 1, [⟨0, 4, .ro, 0x0⟩, ⟨4, 4, .ro, 0x0⟩]⟩,  -- SAF_REL_STAT, R418
  ⟨0x088, 0x0, 1, 0, 0x0, 1, [⟨0, 7, .rw, 0x0⟩, ⟨8, 1, .w1s, 0x0⟩, ⟨16, 8, .wo, 0x0⟩]⟩,  -- SAF_INJ, R418
  ⟨0x08C, 0x0, 1, 0, 0x0, 1, [⟨0, 7, .ro, 0x0⟩, ⟨8, 3, .ro, 0x0⟩, ⟨16, 12, .ro, 0x0⟩]⟩,  -- SAF_LAST, R418
  ⟨0x090, 0x0, 1, 0, 0x0, 1, [⟨0, 4, .ro, 0x0⟩]⟩,  -- SAF_CHOPSTAT, R418
  ⟨0x094, 0x0, 1, 0, 0x0, 1, [⟨0, 16, .rc, 0x0⟩, ⟨16, 16, .rc, 0x0⟩]⟩,  -- SAF_CNT, R418
  ⟨0x0A0, 0x4, 4, 0, 0x0, 1, [⟨0, 32, .w1c, 0x0⟩]⟩,  -- SAF_PENDk, R418
  ⟨0x100, 0x4, 128, 0, 0x0, 1, [⟨0, 3, .rw2, 0x0⟩, ⟨3, 1, .rw2, 0x0⟩, ⟨4, 12, .rw2, 0x0⟩, ⟨16, 4, .rw2, 0x0⟩]⟩]  -- SAF_RXNk, R418

/-- Block registers of the SIO page type. -/
def rowsSio : List RegRow := [
  ⟨0x040, 0x0, 1, 0, 0x0, 1, [⟨0, 1, .rw2, 0x1⟩, ⟨4, 8, .rw2, 0x32⟩, ⟨16, 8, .rw2, 0x64⟩]⟩,  -- SIO_TP, R420
  ⟨0x044, 0x0, 1, 0, 0x0, 1, [⟨0, 8, .rw2, 0xA⟩]⟩,  -- SIO_SO_CMD, R420
  ⟨0x100, 0x10, 8, 0, 0x0, 1, [⟨0, 2, .rw2, 0x0⟩, ⟨2, 1, .rw2, 0x0⟩, ⟨3, 1, .rw2, 0x0⟩, ⟨4, 1, .rw2, 0x0⟩, ⟨8, 4, .rw2, 0x3⟩, ⟨16, 9, .rw2, 0x32⟩]⟩,  -- SIO_SIn_CFG, R420
  ⟨0x104, 0x10, 8, 0, 0x0, 1, [⟨0, 2, .ro, 0x2⟩, ⟨2, 2, .ro, 0x2⟩, ⟨4, 1, .ro, 0x0⟩, ⟨5, 1, .ro, 0x0⟩, ⟨6, 1, .ro, 0x0⟩, ⟨8, 2, .ro, 0x0⟩]⟩,  -- SIO_SIn_STAT, R420
  ⟨0x10C, 0x10, 8, 0, 0x0, 1, [⟨0, 16, .rc, 0x0⟩, ⟨16, 8, .rc, 0x0⟩]⟩,  -- SIO_SIn_CNT, R420
  ⟨0x200, 0x10, 4, 0, 0x0, 1, [⟨0, 1, .rw2, 0x0⟩, ⟨1, 1, .rw2, 0x1⟩, ⟨4, 8, .rw2, 0x1E⟩, ⟨16, 8, .rw2, 0xA⟩, ⟨24, 8, .rw2, 0x3C⟩]⟩,  -- SIO_SOm_CFG, R420
  ⟨0x204, 0x10, 4, 0, 0x0, 1, [⟨0, 1, .ro, 0x0⟩, ⟨1, 1, .ro, 0x0⟩, ⟨2, 1, .ro, 0x0⟩, ⟨3, 1, .ro, 0x0⟩, ⟨4, 3, .ro, 0x0⟩, ⟨16, 8, .ro, 0x0⟩]⟩,  -- SIO_SOm_STAT, R420
  ⟨0x20C, 0x10, 4, 0, 0x0, 1, [⟨0, 16, .rc, 0x0⟩, ⟨16, 8, .rc, 0x0⟩]⟩,  -- SIO_SOm_CNT, R420
  ⟨0x108, 0x10, 8, 0, 0x0, 1, [⟨0, 1, .w1s, 0x0⟩]⟩,  -- SIO_SIn_CTL, R420
  ⟨0x208, 0x10, 4, 0, 0x0, 1, [⟨0, 1, .w1s, 0x0⟩]⟩]  -- SIO_SOm_CTL, R420

/-- Block registers of the EPT page type. -/
def rowsEpt : List RegRow := [
  ⟨0x100, 0x40, 16, 0, 0x0, 1, [⟨0, 1, .rw, 0x0⟩, ⟨1, 1, .rw, 0x0⟩, ⟨2, 6, .rw, 0x8⟩, ⟨8, 1, .rw, 0x0⟩, ⟨9, 8, .rw, 0x0⟩, ⟨24, 8, .ro, 0x0⟩]⟩,  -- EPT_Ss_CFG, R422
  ⟨0x104, 0x40, 16, 0, 0x0, 1, [⟨0, 16, .rw, 0x0⟩, ⟨16, 3, .rw, 0x0⟩, ⟨20, 3, .rw, 0x4⟩]⟩,  -- EPT_Ss_SID, R422
  ⟨0x108, 0x40, 16, 0, 0x0, 1, [⟨0, 7, .rw, 0x0⟩, ⟨8, 7, .rw, 0x0⟩]⟩,  -- EPT_Ss_BUF, R422
  ⟨0x10C, 0x40, 16, 0, 0x0, 1, [⟨0, 7, .rw, 0x5⟩, ⟨8, 8, .rw, 0x32⟩, ⟨16, 12, .rw, 0x3C⟩]⟩,  -- EPT_Ss_TIME, R422
  ⟨0x110, 0x40, 16, 0, 0x0, 1, [⟨0, 1, .w1s, 0x0⟩, ⟨1, 1, .w1s, 0x0⟩, ⟨8, 8, .wo, 0x0⟩]⟩,  -- EPT_Ss_CTL, R422
  ⟨0x114, 0x40, 16, 0, 0x0, 1, [⟨0, 3, .ro, 0x0⟩, ⟨3, 1, .ro, 0x0⟩, ⟨4, 1, .ro, 0x0⟩, ⟨5, 1, .ro, 0x0⟩, ⟨6, 2, .ro, 0x0⟩, ⟨8, 8, .ro, 0x0⟩, ⟨16, 12, .ro, 0x0⟩]⟩,  -- EPT_Ss_STAT, R422
  ⟨0x118, 0x40, 16, 0, 0x0, 1, [⟨0, 16, .ro, 0x0⟩, ⟨16, 16, .ro, 0x0⟩]⟩,  -- EPT_Ss_SEQ, R422
  ⟨0x11C, 0x40, 16, 0, 0x0, 1, [⟨0, 8, .rc, 0x0⟩, ⟨8, 8, .rc, 0x0⟩, ⟨16, 8, .rc, 0x0⟩, ⟨24, 8, .rc, 0x0⟩]⟩,  -- EPT_Ss_CNT, R422
  ⟨0x120, 0x40, 16, 0, 0x4, 8, [⟨0, 32, .rw, 0x0⟩]⟩]  -- EPT_Ss_DATAk, R422

/-- Block registers of the CAN page type. -/
def rowsCan : List RegRow := [
  ⟨0x040, 0x0, 1, 0, 0x0, 1, [⟨0, 1, .rw, 0x0⟩, ⟨1, 2, .rw, 0x0⟩, ⟨3, 1, .rw, 0x1⟩, ⟨4, 1, .rw, 0x0⟩, ⟨5, 1, .rw, 0x1⟩, ⟨6, 1, .rw, 0x1⟩, ⟨7, 1, .w1s, 0x0⟩]⟩,  -- CAN_CTL, R468
  ⟨0x044, 0x0, 1, 0, 0x0, 1, [⟨0, 6, .rw, 0x1⟩, ⟨8, 8, .rw, 0x7F⟩, ⟨16, 6, .rw, 0x20⟩, ⟨24, 6, .rw, 0x20⟩]⟩,  -- CAN_NBT, R468
  ⟨0x048, 0x0, 1, 0, 0x0, 1, [⟨0, 4, .rw, 0x1⟩, ⟨8, 6, .rw, 0xF⟩, ⟨16, 5, .rw, 0x4⟩, ⟨24, 5, .rw, 0x4⟩]⟩,  -- CAN_DBT, R468
  ⟨0x04C, 0x0, 1, 0, 0x0, 1, [⟨0, 1, .rw, 0x1⟩, ⟨8, 7, .rw, 0x10⟩, ⟨16, 7, .rw, 0x0⟩, ⟨24, 8, .ro, 0x0⟩]⟩,  -- CAN_TDC, R468
  ⟨0x050, 0x0, 1, 0, 0x0, 1, [⟨0, 2, .ro, 0x3⟩, ⟨2, 1, .ro, 0x0⟩, ⟨3, 1, .ro, 0x0⟩, ⟨4, 2, .ro, 0x0⟩, ⟨8, 8, .ro, 0x0⟩, ⟨16, 8, .ro, 0x0⟩]⟩,  -- CAN_STAT, R468
  ⟨0x054, 0x0, 1, 0, 0x0, 1, [⟨0, 3, .ro, 0x0⟩, ⟨3, 1, .ro, 0x0⟩, ⟨8, 8, .rc, 0x0⟩, ⟨16, 8, .rc, 0x0⟩, ⟨24, 8, .rc, 0x0⟩]⟩,  -- CAN_ERRC, R468
  ⟨0x058, 0x0, 1, 0, 0x0, 1, [⟨0, 7, .wo, 0x0⟩, ⟨8, 2, .wo, 0x0⟩, ⟨16, 8, .wo, 0x0⟩]⟩,  -- CAN_BUFCMD, R468
  ⟨0x05C, 0x0, 1, 0, 0x0, 1, [⟨0, 16, .rc, 0x0⟩, ⟨16, 16, .rc, 0x0⟩]⟩,  -- CAN_RXDROP, R468
  ⟨0x060, 0x4, 4, 0, 0x0, 1, [⟨0, 32, .ro, 0x0⟩]⟩,  -- CAN_PENDj, R468
  ⟨0x070, 0x4, 4, 0, 0x0, 1, [⟨0, 32, .ro, 0x0⟩]⟩,  -- CAN_NEWj, R468
  ⟨0x200, 0x4, 128, 0, 0x0, 1, [⟨0, 29, .rw, 0x0⟩, ⟨29, 1, .rw, 0x0⟩, ⟨30, 1, .rw, 0x0⟩, ⟨31, 1, .rw, 0x0⟩]⟩,  -- CAN_BUFk_CFG, R468
  ⟨0x400, 0x4, 128, 0, 0x0, 1, [⟨0, 29, .rw, 0x1FFFFFFF⟩]⟩]  -- CAN_BUFk_MASK, R468

/-- Block registers of the ETH page type. -/
def rowsEth : List RegRow := [
  ⟨0x040, 0x0, 1, 0, 0x0, 1, [⟨0, 1, .rw, 0x0⟩, ⟨1, 1, .rw, 0x0⟩, ⟨2, 1, .rw, 0x0⟩, ⟨3, 1, .rw, 0x0⟩]⟩,  -- ETH_CTL, R470
  ⟨0x044, 0x0, 1, 0, 0x0, 1, [⟨0, 1, .ro, 0x0⟩, ⟨1, 3, .ro, 0x0⟩]⟩,  -- ETH_STAT, R470
  ⟨0x048, 0x0, 1, 0, 0x0, 1, [⟨0, 32, .rw, 0x0⟩]⟩,  -- ETH_MACL, R470
  ⟨0x04C, 0x0, 1, 0, 0x0, 1, [⟨0, 16, .rw, 0x0⟩]⟩,  -- ETH_MACH, R470
  ⟨0x050, 0x0, 1, 0, 0x0, 1, [⟨0, 32, .rw, 0x0⟩]⟩,  -- ETH_IP, R470
  ⟨0x054, 0x0, 1, 0, 0x0, 1, [⟨0, 16, .rw, 0x1C7A⟩, ⟨16, 1, .rw, 0x0⟩]⟩,  -- ETH_EPT_PORT, R470
  ⟨0x058, 0x0, 1, 0, 0x0, 1, [⟨0, 32, .rw, 0x0⟩]⟩,  -- ETH_EPT_PEER_IP, R470
  ⟨0x05C, 0x0, 1, 0, 0x0, 1, [⟨0, 32, .rw, 0x0⟩]⟩,  -- ETH_EPT_PEER_MACL, R470
  ⟨0x060, 0x0, 1, 0, 0x0, 1, [⟨0, 16, .rw, 0x0⟩]⟩,  -- ETH_EPT_PEER_MACH, R470
  ⟨0x064, 0x0, 1, 0, 0x0, 1, [⟨0, 32, .rw, 0x20100000⟩]⟩,  -- ETH_RXRING, R470
  ⟨0x068, 0x0, 1, 0, 0x0, 1, [⟨0, 32, .rw, 0x20101000⟩]⟩,  -- ETH_TXRING, R470
  ⟨0x06C, 0x0, 1, 0, 0x0, 1, [⟨0, 4, .rw, 0x6⟩, ⟨4, 4, .rw, 0x6⟩]⟩,  -- ETH_RING, R470
  ⟨0x070, 0x0, 1, 0, 0x0, 1, [⟨0, 1, .w1s, 0x0⟩]⟩,  -- ETH_TXKICK, R470
  ⟨0x074, 0x0, 1, 0, 0x0, 1, [⟨0, 8, .ro, 0x0⟩, ⟨8, 8, .ro, 0x0⟩]⟩,  -- ETH_IDX, R470
  ⟨0x078, 0x0, 1, 0, 0x0, 1, [⟨0, 8, .rc, 0x0⟩, ⟨8, 8, .rc, 0x0⟩, ⟨16, 8, .rc, 0x0⟩, ⟨24, 8, .rc, 0x0⟩]⟩]  -- ETH_CNT, R470

/-- Block registers of the HSP page type. -/
def rowsHsp : List RegRow := [
  ⟨0x040, 0x0, 1, 0, 0x0, 1, [⟨0, 1, .rw, 0x1⟩]⟩,  -- HSP_CTL, R472
  ⟨0x044, 0x0, 1, 0, 0x0, 1, [⟨0, 1, .rw, 0x0⟩, ⟨1, 1, .rw, 0x1⟩]⟩,  -- HSP_IRQ, R472
  ⟨0x048, 0x0, 1, 0, 0x0, 1, [⟨0, 1, .ro, 0x0⟩, ⟨4, 4, .ro, 0x6⟩, ⟨8, 4, .ro, 0x0⟩]⟩,  -- HSP_STAT, R472
  ⟨0x04C, 0x0, 1, 0, 0x0, 1, [⟨0, 8, .rc, 0x0⟩, ⟨8, 8, .rc, 0x0⟩, ⟨16, 8, .rc, 0x0⟩, ⟨24, 8, .rc, 0x0⟩]⟩,  -- HSP_CNT, R472
  ⟨0x080, 0x0, 1, 0, 0x0, 1, [⟨0, 1, .rw, 0x0⟩, ⟨4, 10, .rw, 0x64⟩]⟩,  -- AUXL_CTL, R472
  ⟨0x084, 0x0, 1, 0, 0x0, 1, [⟨0, 32, .ro, 0x0⟩]⟩,  -- AUXL_RX0, R472
  ⟨0x088, 0x0, 1, 0, 0x0, 1, [⟨0, 32, .ro, 0x0⟩]⟩,  -- AUXL_RX1, R472
  ⟨0x08C, 0x0, 1, 0, 0x0, 1, [⟨0, 1, .ro, 0x0⟩, ⟨1, 1, .ro, 0x0⟩, ⟨2, 1, .ro, 0x0⟩]⟩,  -- AUXL_STAT, R472
  ⟨0x090, 0x0, 1, 0, 0x0, 1, [⟨0, 32, .rw, 0x0⟩]⟩,  -- AUXL_TX0, R472
  ⟨0x094, 0x0, 1, 0, 0x0, 1, [⟨0, 24, .rw, 0x0⟩]⟩,  -- AUXL_TX1, R472
  ⟨0x098, 0x0, 1, 0, 0x0, 1, [⟨0, 1, .w1s, 0x0⟩]⟩,  -- AUXL_TXCTL, R472
  ⟨0x09C, 0x0, 1, 0, 0x0, 1, [⟨0, 8, .rc, 0x0⟩, ⟨8, 8, .rc, 0x0⟩, ⟨16, 8, .rc, 0x0⟩, ⟨24, 8, .rc, 0x0⟩]⟩]  -- AUXL_CNT, R472

/-- Block registers of the SEC page type. -/
def rowsSec : List RegRow := [
  ⟨0x040, 0x0, 1, 0, 0x0, 1, [⟨0, 3, .ro, 0x0⟩, ⟨3, 3, .ro, 0x0⟩, ⟨6, 1, .ro, 0x0⟩]⟩,  -- SEC_LC, R506
  ⟨0x044, 0x0, 1, 0, 0x0, 1, [⟨0, 3, .ro, 0x0⟩, ⟨3, 2, .ro, 0x3⟩, ⟨5, 1, .ro, 0x0⟩, ⟨6, 1, .ro, 0x0⟩, ⟨7, 1, .ro, 0x0⟩, ⟨8, 3, .ro, 0x0⟩, ⟨11, 3, .ro, 0x0⟩]⟩,  -- SEC_BOOT, R506
  ⟨0x048, 0x0, 1, 0, 0x0, 1, [⟨0, 16, .ro, 0x0⟩, ⟨16, 16, .ro, 0x0⟩]⟩,  -- SEC_BOOT_TIME, R506
  ⟨0x04C, 0x0, 1, 0, 0x0, 1, [⟨0, 7, .ro, 0x0⟩, ⟨8, 8, .ro, 0xFF⟩, ⟨16, 8, .ro, 0xFF⟩, ⟨24, 8, .ro, 0xFF⟩]⟩,  -- SEC_VER, R506
  ⟨0x050, 0x0, 1, 0, 0x0, 1, [⟨0, 1, .w1s, 0x0⟩, ⟨1, 1, .w1s, 0x0⟩, ⟨8, 8, .wo, 0x0⟩]⟩,  -- SEC_CTL, R506
  ⟨0x054, 0x0, 1, 0, 0x0, 1, [⟨0, 1, .w1s, 0x0⟩, ⟨1, 1, .w1s, 0x0⟩, ⟨2, 1, .w1s, 0x0⟩, ⟨3, 1, .rw, 0x0⟩]⟩,  -- SEC_IMG_CTL, R506
  ⟨0x058, 0x0, 1, 0, 0x0, 1, [⟨0, 2, .ro, 0x3⟩, ⟨2, 1, .ro, 0x0⟩, ⟨3, 3, .ro, 0x0⟩, ⟨6, 1, .ro, 0x0⟩, ⟨7, 1, .ro, 0x0⟩]⟩,  -- SEC_IMG_STAT, R506
  ⟨0x05C, 0x0, 1, 0, 0x0, 1, [⟨0, 4, .ro, 0x0⟩, ⟨4, 4, .ro, 0x0⟩]⟩,  -- SEC_KEYREV, R506
  ⟨0x060, 0x0, 1, 0, 0x0, 1, [⟨0, 1, .w1s, 0x0⟩, ⟨1, 1, .ro, 0x0⟩]⟩,  -- SEC_ATT_CTL, R506
  ⟨0x064, 0x0, 1, 0, 0x0, 1, [⟨0, 32, .rw, 0x20200000⟩]⟩,  -- SEC_ATT_ADDR, R506
  ⟨0x068, 0x4, 4, 0, 0x0, 1, [⟨0, 32, .ro, 0x0⟩]⟩,  -- SEC_IDk, R506
  ⟨0x080, 0x0, 1, 0, 0x0, 1, [⟨0, 1, .rw2, 0x0⟩, ⟨1, 1, .rw2, 0x0⟩, ⟨2, 1, .rw2, 0x1⟩, ⟨8, 7, .rw2, 0x14⟩, ⟨16, 10, .rw2, 0x78⟩]⟩,  -- SEC_EARLY0, R506
  ⟨0x084, 0x0, 1, 0, 0x0, 1, [⟨0, 32, .rw2, 0x0⟩]⟩,  -- SEC_EARLY1, R506
  ⟨0x088, 0x0, 1, 0, 0x0, 1, [⟨0, 29, .rw2, 0x0⟩, ⟨29, 1, .rw2, 0x0⟩, ⟨30, 2, .rw2, 0x0⟩]⟩,  -- SEC_EARLY2, R506
  ⟨0x08C, 0x0, 1, 0, 0x0, 1, [⟨0, 16, .rw2, 0x3E8⟩, ⟨16, 6, .rw2, 0x0⟩, ⟨24, 8, .rw2, 0x32⟩]⟩,  -- SEC_EARLY3, R506
  ⟨0x0C0, 0x0, 1, 0, 0x0, 1, [⟨0, 1, .w1s, 0x0⟩, ⟨1, 1, .w1s, 0x0⟩, ⟨2, 1, .ro, 0x0⟩, ⟨3, 1, .rw, 0x0⟩, ⟨4, 1, .w1s, 0x0⟩, ⟨5, 1, .w1s, 0x0⟩, ⟨6, 1, .w1s, 0x0⟩, ⟨7, 1, .w1s, 0x0⟩, ⟨8, 2, .rw, 0x0⟩, ⟨10, 4, .ro, 0x0⟩]⟩,  -- SEC_DBG_CTL, R506
  ⟨0x0C4, 0x0, 1, 0, 0x0, 1, [⟨0, 32, .rw, 0x0⟩]⟩,  -- SEC_DBG_ADDR, R506
  ⟨0x0C8, 0x0, 1, 0, 0x0, 1, [⟨0, 32, .rw, 0x0⟩]⟩]  -- SEC_DBG_DATA, R506

/-- Block registers of the ROL page type. -/
def rowsRol : List RegRow := [
  ⟨0x040, 0x0, 1, 0, 0x0, 1, [⟨0, 2, .ro, 0x0⟩, ⟨4, 4, .ro, 0x0⟩, ⟨16, 10, .ro, 0x0⟩]⟩,  -- ROL_SESS, R508
  ⟨0x044, 0x0, 1, 0, 0x0, 1, [⟨0, 1, .w1s, 0x0⟩, ⟨1, 1, .w1s, 0x0⟩, ⟨2, 1, .w1s, 0x0⟩]⟩,  -- ROL_CTL, R508
  ⟨0x048, 0x0, 1, 0, 0x0, 1, [⟨0, 1, .ro, 0x0⟩, ⟨1, 2, .ro, 0x0⟩, ⟨8, 4, .ro, 0x0⟩]⟩,  -- ROL_RESULT, R508
  ⟨0x04C, 0x0, 1, 0, 0x0, 1, [⟨0, 1, .w1s, 0x0⟩, ⟨1, 1, .w1s, 0x0⟩, ⟨2, 1, .w1s, 0x0⟩, ⟨8, 6, .rw, 0x0⟩]⟩,  -- ROL_CHG_CTL, R508
  ⟨0x050, 0x0, 1, 0, 0x0, 1, [⟨0, 3, .ro, 0x0⟩, ⟨4, 4, .ro, 0x0⟩, ⟨8, 2, .ro, 0x0⟩, ⟨10, 3, .ro, 0x0⟩, ⟨16, 10, .ro, 0x0⟩]⟩,  -- ROL_CHG_STAT, R508
  ⟨0x054, 0x0, 1, 0, 0x0, 1, [⟨0, 32, .ro, 0x0⟩]⟩,  -- ROL_CHG_SEQ, R508
  ⟨0x060, 0x4, 8, 0, 0x0, 1, [⟨0, 32, .ro, 0x0⟩]⟩,  -- ROL_NONCEk, R508
  ⟨0x080, 0x4, 12, 0, 0x0, 1, [⟨0, 32, .ro, 0x0⟩]⟩,  -- ROL_DIGESTk, R508
  ⟨0x100, 0x4, 49, 0, 0x0, 1, [⟨0, 32, .rw, 0x0⟩]⟩,  -- ROL_STMTk, R508
  ⟨0x1C4, 0x4, 25, 0, 0x0, 1, [⟨0, 32, .rw, 0x0⟩]⟩,  -- ROL_KEYk, R508
  ⟨0x300, 0x4, 16, 0, 0x0, 1, [⟨0, 2, .rw2, 0x0⟩, ⟨2, 1, .rw2, 0x0⟩]⟩,  -- ROL_CREDk, R508
  ⟨0x400, 0x30, 16, 1, 0x4, 12, [⟨0, 32, .rw2, 0x0⟩]⟩]  -- ROL_CREDk_DIGj, R508

/-- Block registers of the BST page type. -/
def rowsBst : List RegRow := [
  ⟨0x040, 0x0, 1, 0, 0x0, 1, [⟨0, 1, .w1s, 0x0⟩, ⟨1, 1, .w1s, 0x0⟩, ⟨2, 1, .w1s, 0x0⟩, ⟨4, 4, .rw, 0x0⟩, ⟨8, 2, .rw, 0x0⟩]⟩,  -- BST_CTL, R544
  ⟨0x044, 0x0, 1, 0, 0x0, 1, [⟨0, 32, .rw, 0x0⟩]⟩,  -- BST_START, R544
  ⟨0x048, 0x0, 1, 0, 0x0, 1, [⟨0, 32, .rw, 0x400⟩]⟩,  -- BST_LEN, R544
  ⟨0x04C, 0x0, 1, 0, 0x0, 1, [⟨0, 1, .ro, 0x0⟩, ⟨1, 2, .ro, 0x0⟩, ⟨3, 1, .ro, 0x0⟩, ⟨16, 16, .ro, 0x0⟩]⟩,  -- BST_STAT, R544
  ⟨0x050, 0x0, 1, 0, 0x0, 1, [⟨0, 32, .ro, 0x0⟩]⟩,  -- BST_FAIL_ADDR, R544
  ⟨0x054, 0x0, 1, 0, 0x0, 1, [⟨0, 6, .ro, 0x0⟩, ⟨6, 1, .ro, 0x0⟩]⟩,  -- BST_FAIL_BIT, R544
  ⟨0x058, 0x0, 1, 0, 0x0, 1, [⟨0, 7, .ro, 0x0⟩, ⟨8, 4, .ro, 0x0⟩]⟩,  -- BST_REPAIR, R544
  ⟨0x05C, 0x0, 1, 0, 0x0, 1, [⟨0, 3, .ro, 0x0⟩]⟩]  -- BST_SEG, R544

/-- Block registers of the REC page type. -/
def rowsRec : List RegRow := [
  ⟨0x040, 0x0, 1, 0, 0x0, 1, [⟨0, 1, .w1s, 0x0⟩, ⟨8, 8, .rw, 0x10⟩, ⟨16, 8, .rw, 0xA⟩]⟩,  -- REC_CTL, R542
  ⟨0x044, 0x0, 1, 0, 0x0, 1, [⟨0, 2, .ro, 0x0⟩, ⟨2, 1, .ro, 0x0⟩, ⟨3, 1, .ro, 0x0⟩, ⟨4, 1, .ro, 0x0⟩, ⟨8, 13, .ro, 0x0⟩]⟩,  -- REC_STAT, R542
  ⟨0x048, 0x0, 1, 0, 0x0, 1, [⟨0, 32, .ro, 0x0⟩]⟩,  -- REC_SEQ, R542
  ⟨0x04C, 0x0, 1, 0, 0x0, 1, [⟨0, 32, .ro, 0x0⟩]⟩,  -- REC_OPSEC, R542
  ⟨0x050, 0x0, 1, 0, 0x0, 1, [⟨0, 32, .ro, 0x0⟩]⟩,  -- REC_PCC, R542
  ⟨0x054, 0x0, 1, 0, 0x0, 1, [⟨0, 20, .ro, 0x0⟩]⟩,  -- REC_HEAD, R542
  ⟨0x058, 0x0, 1, 0, 0x0, 1, [⟨0, 20, .ro, 0x0⟩, ⟨20, 1, .ro, 0x0⟩]⟩,  -- REC_TAIL, R542
  ⟨0x05C, 0x0, 1, 0, 0x0, 1, [⟨0, 13, .ro, 0x0⟩, ⟨16, 13, .ro, 0x0⟩]⟩,  -- REC_RING, R542
  ⟨0x060, 0x0, 1, 0, 0x0, 1, [⟨0, 3, .ro, 0x0⟩, ⟨3, 2, .ro, 0x0⟩, ⟨16, 16, .ro, 0x0⟩]⟩,  -- REC_FLUSH, R542
  ⟨0x064, 0x0, 1, 0, 0x0, 1, [⟨0, 16, .rc, 0x0⟩, ⟨16, 16, .rc, 0x0⟩]⟩,  -- REC_CNT, R542
  ⟨0x068, 0x0, 1, 0, 0x0, 1, [⟨0, 16, .rc, 0x0⟩, ⟨16, 16, .rc, 0x0⟩]⟩,  -- REC_CNT2, R542
  ⟨0x100, 0x10, 32, 0, 0x0, 1, [⟨0, 16, .rw, 0x0⟩, ⟨16, 16, .rw, 0x1⟩]⟩,  -- REC_HCFGk, R542
  ⟨0x104, 0x10, 32, 0, 0x0, 1, [⟨0, 32, .rw, 0x0⟩]⟩,  -- REC_HLOk, R542
  ⟨0x108, 0x10, 32, 0, 0x0, 1, [⟨0, 32, .rw, 0x3F800000⟩]⟩,  -- REC_HWIDk, R542
  ⟨0x300, 0x4, 64, 0, 0x0, 1, [⟨0, 16, .rw, 0x0⟩, ⟨16, 16, .rw, 0x1⟩]⟩]  -- REC_XCFGk, R542

/-- Block registers of the TMP page type. -/
def rowsTmp : List RegRow := [
  ⟨0x040, 0x0, 1, 0, 0x0, 1, [⟨0, 8, .rw, 0x8C⟩, ⟨8, 8, .rw, 0x96⟩]⟩,  -- TMP_CFG, R543
  ⟨0x044, 0x0, 1, 0, 0x0, 1, [⟨0, 16, .ro, 0x0⟩, ⟨16, 5, .ro, 0x0⟩, ⟨21, 1, .ro, 0x0⟩]⟩,  -- TMP_DIEMAX, R543
  ⟨0x048, 0x4, 4, 0, 0x0, 1, [⟨0, 16, .ro, 0x0⟩, ⟨16, 5, .ro, 0x0⟩, ⟨21, 1, .ro, 0x0⟩]⟩,  -- TMP_GMAXg, R543
  ⟨0x058, 0x0, 1, 0, 0x0, 1, [⟨0, 27, .ro, 0x0⟩]⟩,  -- TMP_SVALID, R543
  ⟨0x100, 0x20, 8, 0, 0x0, 1, [⟨0, 1, .rw, 0x0⟩, ⟨1, 5, .rw, 0x0⟩, ⟨8, 8, .rw, 0x0⟩, ⟨16, 3, .rw, 0x0⟩]⟩,  -- TMP_DRTk_CFG, R543
  ⟨0x104, 0x20, 8, 0, 0x0, 1, [⟨0, 32, .rw, 0x0⟩]⟩,  -- TMP_DRTk_START, R543
  ⟨0x108, 0x20, 8, 0, 0x0, 1, [⟨0, 32, .rw, 0x0⟩]⟩,  -- TMP_DRTk_END, R543
  ⟨0x10C, 0x20, 8, 0, 0x0, 1, [⟨0, 32, .rw, 0x7F7FFFFF⟩]⟩,  -- TMP_DRTk_LFULL, R543
  ⟨0x110, 0x20, 8, 0, 0x0, 1, [⟨0, 32, .rw, 0x0⟩]⟩,  -- TMP_DRTk_LMIN, R543
  ⟨0x114, 0x20, 8, 0, 0x0, 1, [⟨0, 32, .ro, 0x7F7FFFFF⟩]⟩,  -- TMP_DRTk_OUT, R543
  ⟨0x118, 0x20, 8, 0, 0x0, 1, [⟨0, 1, .ro, 0x0⟩, ⟨1, 1, .ro, 0x0⟩, ⟨2, 1, .ro, 0x0⟩, ⟨8, 8, .ro, 0x0⟩]⟩]  -- TMP_DRTk_STAT, R543

/-- Block registers of the NOR page type. -/
def rowsNor : List RegRow := [
  ⟨0x040, 0x0, 1, 0, 0x0, 1, [⟨0, 2, .rw, 0x0⟩, ⟨2, 1, .w1s, 0x0⟩]⟩,  -- NOR_CMD, R544
  ⟨0x044, 0x0, 1, 0, 0x0, 1, [⟨0, 32, .rw, 0x60000000⟩]⟩,  -- NOR_ADDR, R544
  ⟨0x048, 0x0, 1, 0, 0x0, 1, [⟨0, 1, .ro, 0x0⟩, ⟨1, 2, .ro, 0x0⟩]⟩,  -- NOR_STAT, R544
  ⟨0x04C, 0x0, 1, 0, 0x0, 1, [⟨0, 16, .rc, 0x0⟩, ⟨16, 8, .rc, 0x0⟩, ⟨24, 8, .rc, 0x0⟩]⟩,  -- NOR_CNT, R544
  ⟨0x100, 0x4, 64, 0, 0x0, 1, [⟨0, 32, .rw, 0x0⟩]⟩]  -- NOR_BUFk, R544

/-- The link registers, in page PG0 only (R243). -/
def rowsNl : List RegRow := [
  ⟨0x800, 0x20, 15, 0, 0x0, 1, [⟨0, 1, .rw, 0x1⟩, ⟨1, 1, .rw, 0x0⟩, ⟨2, 1, .w1s, 0x0⟩]⟩,  -- NL_CTLk, R243
  ⟨0x804, 0x20, 15, 0, 0x0, 1, [⟨0, 3, .ro, 0x0⟩, ⟨3, 1, .ro, 0x0⟩, ⟨4, 1, .ro, 0x0⟩, ⟨5, 1, .ro, 0x0⟩, ⟨8, 8, .ro, 0x0⟩]⟩,  -- NL_STATk, R243
  ⟨0x808, 0x20, 15, 0, 0x0, 1, [⟨0, 8, .rc, 0x0⟩, ⟨8, 8, .rc, 0x0⟩, ⟨16, 8, .rc, 0x0⟩, ⟨24, 8, .rc, 0x0⟩]⟩,  -- NL_ERRk, R243
  ⟨0x80C, 0x20, 15, 0, 0x0, 1, [⟨0, 8, .ro, 0x0⟩, ⟨8, 8, .ro, 0x0⟩, ⟨16, 12, .ro, 0x0⟩, ⟨28, 1, .ro, 0x0⟩, ⟨29, 1, .ro, 0x0⟩, ⟨30, 1, .ro, 0x0⟩]⟩]  -- NL_REGk, R243

/-- The block registers of a page type. -/
def PageKind.rows : PageKind → List RegRow
  | .sys => rowsSys
  | .pwr => rowsPwr
  | .cad => rowsCad
  | .tnd => rowsTnd
  | .lpe => rowsLpe
  | .lpx => rowsLpx
  | .pg => rowsPg
  | .ghd => rowsGhd
  | .gld => rowsGld
  | .fad => rowsFad
  | .faq => rowsFaq
  | .hka => rowsHka
  | .wma => rowsWma
  | .pos => rowsPos
  | .emu => rowsEmu
  | .trc => rowsTrc
  | .chg => rowsChg
  | .aux => rowsAux
  | .act => rowsAct
  | .drl => rowsDrl
  | .saf => rowsSaf
  | .sio => rowsSio
  | .ept => rowsEpt
  | .can => rowsCan
  | .eth => rowsEth
  | .hsp => rowsHsp
  | .sec => rowsSec
  | .rol => rowsRol
  | .bst => rowsBst
  | .recorder => rowsRec
  | .tmp => rowsTmp
  | .nor => rowsNor

/-- Reset values of SAF_RXN0–SAF_RXN27 (R391): REACT, OWN and MASK packed as the register has them. -/
def rxnResetLow : List Nat := [0x9, 0xD, 0xD, 0xD, 0xC, 0xD, 0xD, 0x9, 0xD, 0xD, 0xD, 0xD, 0x9, 0x9, 0xD, 0xD, 0xD, 0xD, 0x9, 0xA, 0x35, 0xD, 0xD, 0xD, 0xD, 0x9, 0xC, 0xC]

/-- The reset reaction word of fault line k (R391). -/
def rxnReset (k : Nat) : Nat :=
  if k < 28 then rxnResetLow.getD k 0
  else if k < 32 then 0
  else if k < 48 then 1
  else if k < 52 then 0
  else if k < 68 then 4
  else if k < 84 then 1
  else if k < 96 then 0
  else if k < 128 then 9 else 0

end Sys2Proof.Machine
end

