-- ==== Sys2Proof/Machine/Store.lean ====
section
/-!
DEFINITION. Reading and writing the sparse stores of the state. A store lists the entries that differ from what an
unlisted key reads as, keys strictly rising; writing the unlisted value removes the entry, so equal contents are equal data.
-/
namespace Sys2Proof.Machine

namespace Store

/-- What the store holds at `k`; an unlisted key reads as `d k`. -/
def read {α : Type} (d : Nat → α) : Store α → Nat → α
  | [], k => d k
  | (a, v) :: m, k => if a = k then v else read d m k

/-- Put `v` at `k`, keeping the keys in order. -/
def insert {α : Type} (k : Nat) (v : α) : Store α → Store α
  | [] => [(k, v)]
  | (a, w) :: m =>
    if k < a then (k, v) :: (a, w) :: m
    else if k = a then (k, v) :: m
    else (a, w) :: insert k v m

/-- Remove every entry at `k`. -/
def erase {α : Type} (k : Nat) : Store α → Store α
  | [] => []
  | (a, w) :: m => if a = k then erase k m else (a, w) :: erase k m

/-- Write `v` at `k`; writing what an unlisted key reads as removes the entry. -/
def write {α : Type} [DecidableEq α] (d : Nat → α) (m : Store α) (k : Nat) (v : α) : Store α :=
  if v = d k then erase k m else insert k v m

/-- All keys of the store are above `b`, strictly rising, and no entry holds its unlisted value. -/
def wfFrom {α : Type} [DecidableEq α] (d : Nat → α) : Nat → Store α → Bool
  | _, [] => true
  | b, (a, v) :: m => decide (b ≤ a) && decide (v ≠ d a) && wfFrom d (a + 1) m

/-- The canonical form. -/
def wf {α : Type} [DecidableEq α] (d : Nat → α) (m : Store α) : Bool := wfFrom d 0 m

/-- Remove the entries whose key the test selects. -/
def removeIf {α : Type} (p : Nat → Bool) : Store α → Store α
  | [] => []
  | (a, w) :: m => if p a then removeIf p m else (a, w) :: removeIf p m

end Store

end Sys2Proof.Machine
end

