-- ==== Sys2Proof/Machine/Ops.lean ====
section
/-!
DEFINITION. The named operations over the state: registers and their fields, reset values, header flags, memory bytes, posts to
J3, access rights and error responses. Every command is written over these.
-/
namespace Sys2Proof.Machine

/-- Bits `lo` to `lo + w - 1` of a word. -/
def getBits (x : Word) (lo w : Nat) : Nat := x.toNat / 2 ^ lo % 2 ^ w

/-- The word with those bits replaced by the low `w` bits of `v`. -/
def setBits (x : Word) (lo w v : Nat) : Word :=
  BitVec.ofNat 32 (x.toNat / 2 ^ (lo + w) * 2 ^ (lo + w) + v % 2 ^ w * 2 ^ lo + x.toNat % 2 ^ lo)

/-- Two's complement reading of the low `w` bits. -/
def signed (w v : Nat) : Int := if v % 2 ^ w < 2 ^ (w - 1) then (v % 2 ^ w : Nat) else (v % 2 ^ w : Nat) - (2 ^ w : Nat)

/-- Two's complement coding in `w` bits. -/
def unsigned (w : Nat) (v : Int) : Nat := (v % (2 ^ w : Nat)).toNat

/-- Bit `i` of a number. -/
def bitAt (v i : Nat) : Bool := v / 2 ^ i % 2 == 1

/-- The number with bit `i` set, or cleared. -/
def bitSet (v i : Nat) : Nat := if bitAt v i then v else v + 2 ^ i
def bitClr (v i : Nat) : Nat := if bitAt v i then v - 2 ^ i else v

/-- 0 or 1 for a truth value. -/
def b2n (b : Bool) : Nat := if b then 1 else 0

/-- The page an address lies in, if any, with its instance (R107). -/
def pageAt (a : Nat) : Option (PageKind × Nat) :=
  (pageKinds.find? fun k => k.base ≤ a && a < k.base + 0x1000 * k.count).map fun k => (k, (a - k.base) / 0x1000)

/-- The base address of page `n` of a type. -/
def PageKind.page (k : PageKind) (n : Nat) : Nat := k.base + 0x1000 * n

/-- The unit indices a row gives an offset, if the offset is one of its registers. -/
def RegRow.locate (r : RegRow) (off : Nat) : Option (Nat × Nat) :=
  if off < r.off then none
  else
    let d := off - r.off
    if r.stride = 0 then (if d = 0 then some (0, 0) else none)
    else
      let i := d / r.stride
      let e := d % r.stride
      if i < r.first ∨ r.count ≤ i then none
      else if r.count2 ≤ 1 then (if e = 0 then some (i, 0) else none)
      else if e % r.stride2 = 0 ∧ e / r.stride2 < r.count2 then some (i, e / r.stride2) else none

/-- Offset of an address within its page, or within its context frame for the LPX pages (R109). -/
def offsetIn (k : PageKind) (a : Nat) : Nat := if k = .lpx then (a - k.base) % 0x100 else (a - k.base) % 0x1000

/-- Whether the address is in a common header: offsets 0x000–0x03F of the page (R110; the first frame of an LPX page, R109). -/
def inHeader (k : PageKind) (a : Nat) : Bool := (a - k.base) % 0x1000 < 0x40

/-- The rows of a page: the link registers belong to PG0 alone (R243). -/
def pageRows (k : PageKind) (n : Nat) : List RegRow := if k = .pg ∧ n = 0 then rowsPg ++ rowsNl else k.rows

/-- The row of a block register, if the address is one. -/
def rowAt (a : Nat) : Option RegRow :=
  match pageAt a with
  | none => none
  | some (k, n) => if inHeader k a then none else (pageRows k n).find? fun r => (r.locate (offsetIn k a)).isSome

/-- Whether a page has a field with the access code. -/
def hasAcc (k : PageKind) (n : Nat) (c : Acc) : Bool := (pageRows k n).any fun r => r.fields.any fun f => f.acc = c

/-- The FAULT_STAT bits of a page; the link bits exist in PG0 alone (R241). -/
def faultBits (k : PageKind) (n : Nat) : Nat := if k = .pg ∧ n ≠ 0 then 0x3 else k.faultMask

/-- Reset value of a header register (R110–R113). -/
def headerReset (k : PageKind) (n off : Nat) : Nat :=
  if off = 0x00 then k.type + n * 2 ^ 8 + 2 ^ 16
  else if off = 0x04 then k.units + b2n (k = .pg) * 2 ^ 8 + k.ownerCode * 2 ^ 12 + b2n (hasAcc k n .rwl) * 2 ^ 15
    + b2n (hasAcc k n .rw2) * 2 ^ 16 + b2n (k = .ghd ∨ k = .gld) * 2 ^ 17
  else if off = 0x08 then 4 + (if k.ownerCode = 1 then 0 else if k.ownerCode = 2 then 8 else 16)
  else if off = 0x20 then faultBits k n
  else if off = 0x24 then 2 ^ 31
  else 0

/-- What a register's reset value holds beyond its row's constants: the values that differ from unit to unit. The life-cycle
state is that of the module as shipped (chapter 0, Ordering). -/
def resetExtra (k : PageKind) (n off : Nat) : Nat :=
  match k with
  | .sys => if off = 0x44 then 1 else 0
  | .wma => if 0x100 ≤ off ∧ (off - 0x100) % 0x20 = 0 ∧ off < 0x500 then (off - 0x100) / 0x20 * 2 else 0
  | .pos => if off = 0x58 then (24 + 2 * n) + (25 + 2 * n) * 2 ^ 5 else 0
  | .trc => if off = 0x40 then n + n * 2 ^ 4
            else if off = 0x44 then (if n = 0 then 0x0A418820 else 0x16A4A0E6)
            else if off = 0x80 then (2 + 3 * n) + 2 * n * 2 ^ 12 else 0
  | .act => if off = 0x40 then (4 + n) * 4 else 0
  | .saf => if off = 0x40 then 2 ^ 17
            else if off = 0x44 then 2 ^ 17 + 2 ^ 18
            else if 0x100 ≤ off ∧ off < 0x300 ∧ off % 4 = 0 then rxnReset ((off - 0x100) / 4) else 0
  | .tnd => if off = 0x110 then 0x200F else if off = 0x150 then 0x201F else 0
  | .sec => if off = 0x40 then 2 + 2 * 2 ^ 3 else 0
  | .rol => if off = 0x300 then 3 + 4 else 0
  | _ => 0

/-- The reset value of the register at a bus address; 0 where there is none. -/
def resetWord (a : Nat) : Word :=
  match pageAt a with
  | none => 0
  | some (k, n) =>
    if inHeader k a then BitVec.ofNat 32 (headerReset k n ((a - k.base) % 0x1000))
    else match rowAt a with
      | none => 0
      | some r => BitVec.ofNat 32
          ((r.fields.foldl (fun x f => x + f.reset * 2 ^ f.lo) 0) + resetExtra k n (offsetIn k a))

namespace State

/-- The register at an address: the staged value of a field staged for admission, the live value of every other. -/
def rd (s : State) (a : Nat) : Word := Store.read resetWord s.regs a
/-- The state with that register written. -/
def wr (s : State) (a : Nat) (v : Word) : State := { s with regs := Store.write resetWord s.regs a v }
/-- A field. -/
def fld (s : State) (f : Fld) : Nat := getBits (s.rd f.addr) f.lo f.w
/-- The state with a field written. -/
def setFld (s : State) (f : Fld) (v : Nat) : State := s.wr f.addr (setBits (s.rd f.addr) f.lo f.w v)
/-- A field that is not 0. -/
def on (s : State) (f : Fld) : Bool := s.fld f != 0
/-- A field in two's complement. -/
def fldI (s : State) (f : Fld) : Int := signed f.w (s.fld f)
/-- A counter field incremented by `n`, saturating at all ones. -/
def incBy (s : State) (f : Fld) (n : Nat) : State := s.setFld f (min (s.fld f + n) (2 ^ f.w - 1))
/-- A counter field incremented, saturating (R118). -/
def inc (s : State) (f : Fld) : State := s.incBy f 1

/-- The live copy of a register whose fields are staged for admission (R28). -/
def rdLive (s : State) (a : Nat) : Word := Store.read resetWord s.live a
def wrLive (s : State) (a : Nat) (v : Word) : State := { s with live := Store.write resetWord s.live a v }
def liveFld (s : State) (f : Fld) : Nat := getBits (s.rdLive f.addr) f.lo f.w

/-- Update one subsystem's state behind its registers. -/
def updSens (s : State) (f : Sens → Sens) : State := { s with sens := f s.sens }
def updSafe (s : State) (f : Safe → Safe) : State := { s with safe := f s.safe }
def updNet (s : State) (f : Net → Net) : State := { s with net := f s.net }
def updEng (s : State) (f : Eng → Eng) : State := { s with eng := f s.eng }

/-- Apply an update for each number of a list. -/
def each (s : State) (l : List Nat) (f : State → Nat → State) : State := l.foldl f s

/-- The state with an update made if a condition holds. -/
def when (s : State) (c : Bool) (f : State → State) : State := if c then f s else s

end State

/-- A header field of a page. -/
def hdr (k : PageKind) (n off lo w : Nat) : Fld := ⟨k.page n + off, lo, w⟩

/-- A location code without MODULE (R6); the caller gives all ones below an unresolved level (R7). -/
def loc (asm die sub blk mac : Nat) : Nat := asm * 2 ^ 26 + die * 2 ^ 22 + sub * 2 ^ 18 + blk * 2 ^ 12 + mac * 2 ^ 6 + 0x3F
/-- The location of a subsystem of the controller die, not resolved further (R7). -/
def locSub (sub : Nat) : Nat := loc 0 0 sub 0x3F 0x3F
/-- The location of a block of the controller die, not resolved further. -/
def locBlk (sub blk : Nat) : Nat := loc 0 0 sub blk 0x3F

/-- How many posts the J3 queue holds (R510). -/
def j3Depth : Nat := 64

namespace State

/-- EVT_STAT and FAULT_STAT bits of a page, set as hardware sets them (R118). -/
def evt (s : State) (k : PageKind) (n bit : Nat) : State := s.setFld (hdr k n 0x10 bit 1) 1
def flt (s : State) (k : PageKind) (n bit : Nat) : State := s.setFld (hdr k n 0x1C bit 1) 1

/-- A post to J3: it enters the queue, or is discarded and counted when the queue is full or under test (R48, R49, R537). -/
def post (s : State) (code loc data : Nat) : State :=
  if s.j3.length < j3Depth ∧ !(s.on R.BST_STAT_BUSY && s.fld R.BST_CTL_TARGET == 6) then
    { s with j3 := s.j3 ++ [⟨code, loc, data % 2 ^ 32, s.now⟩] }
  else
    let s := (s.inc R.CAD_J3_LOST_COUNT).evt .cad 0 E.CAD_J3_LOST
    { s with cad := { s.cad with lostSince := s.cad.lostSince + 1 } }

/-- A planned detach of the whole module has begun (R90, R95, R96). -/
def detachingX1 (s : State) : Bool := s.on R.PWR_DETACH_STAT_STATE && !s.on R.PWR_DETACH_STAT_SCOPE_ACT

/-- A timeout of a page's own operation (R55, R113). -/
def opTo (s : State) (k : PageKind) (n : Nat) : State := s.setFld (hdr k n 0x28 1 1) 1

/-- A message discarded as stale for some unit of a page (R52, R120). -/
def stale (s : State) (k : PageKind) (n : Nat) : State := s.inc (hdr k n 0x2C 16 16)

/-- A free value: one the manual leaves open. -/
def freeVal (s : State) : Word := Config.freeWord s.free
/-- The state after a free value has been taken. -/
def tookFree (s : State) : State := { s with free := s.free + 1 }

end State

/-! ### Memory -/

/-- What a byte of SRAM or NOR reads as that nothing has written: undefined in the spans that are (R103), else 0 in SRAM, erased in NOR. -/
def memDefault (u : List Undef) (a : Nat) : Byte :=
  match u.find? fun r => r.start ≤ a && a < r.start + r.len with
  | some r => Config.undefByte r.gen a
  | none => if 0x60000000 ≤ a then 0xFF else 0

/-- The canonical form of the byte memory. -/
abbrev Memory.wf (u : List Undef) (m : List Host.Cell) : Prop := Store.wf (memDefault u) m = true

/-- What is left of an undefined span outside `[a, b)`. -/
def Undef.outside (a b : Nat) (r : Undef) : List Undef :=
  if r.start + r.len ≤ a ∨ b ≤ r.start then [r]
  else (if r.start < a then [⟨r.start, a - r.start, r.gen⟩] else []) ++
    (if b < r.start + r.len then [⟨b, r.start + r.len - b, r.gen⟩] else [])

namespace State

/-- One byte of ROM, SRAM or NOR. -/
def byte (s : State) (a : Nat) : Byte := if a < 0x40000 then Config.romByte a else Store.read (memDefault s.undef) s.mem a
/-- The state with one byte of SRAM or NOR written; the word it lies in is stored anew, without error. -/
def setByte (s : State) (a : Nat) (v : Byte) : State :=
  { s with mem := Store.write (memDefault s.undef) s.mem a v, bad := Store.erase (a / 4 * 4) s.bad }
/-- The state with a span of memory at its plain default: SRAM zero, NOR erased. -/
def clearMem (s : State) (a len : Nat) : State :=
  { s with mem := Store.removeIf (fun k => a ≤ k && k < a + len) s.mem, bad := Store.removeIf (fun k => a ≤ k && k < a + len) s.bad,
           undef := s.undef.flatMap (Undef.outside a (a + len)) }
/-- The state with a span of memory undefined. -/
def forget (s : State) (a len : Nat) : State :=
  let s := s.clearMem a len
  { s with undef := ⟨a, len, s.undefGen⟩ :: s.undef, undefGen := s.undefGen + 1 }
/-- `n` bytes from `a` as a little-endian number. -/
def le (s : State) (a : Nat) : Nat → Nat
  | 0 => 0
  | n + 1 => (s.byte a).toNat + 256 * s.le (a + 1) n
/-- The state with `n` little-endian bytes of `v` written from `a`. -/
def setLe (s : State) (a : Nat) (v : Nat) : Nat → State
  | 0 => s
  | n + 1 => (s.setByte a (BitVec.ofNat 8 v)).setLe (a + 1) (v / 256) n

end State

/-- The number after an EPOCH (R52). -/
def epochNext (e : Nat) : Nat := if e = 0xFF then 1 else e + 1

/-! ### Errors in stored words -/

/-- The number of a stored word: its bus address, or one beyond the address space for a word of context memory. -/
def eccKey : EccWord → Nat
  | .bus a => a.toNat / 4 * 4
  | .ctx c o => 2 ^ 32 + 64 * c + o

/-- Base addresses of program and table memory (R108). -/
def progBase : Nat := 0x40020000
def tabBase : Nat := 0x40030000

namespace State

/-- A word of an engine memory by its number, with new contents. -/
def setEngineWord (s : State) (k : Nat) (v : Word) : State :=
  if 2 ^ 32 ≤ k then
    let c := (k - 2 ^ 32) / 64
    let x := s.eng.ctx.read (fun _ => {}) c
    let y : Ctx := { x with words := x.words.write (fun _ => 0) ((k - 2 ^ 32) % 64) v }
    { s with eng := { s.eng with ctx := s.eng.ctx.write (fun _ => {}) c y } }
  else if k < tabBase then
    let i := (k - progBase) / 4
    let w := (s.prog.read (fun _ => 0) (i / 2)).toNat
    let w' := if i % 2 = 0 then w / 2 ^ 32 * 2 ^ 32 + v.toNat else v.toNat * 2 ^ 32 + w % 2 ^ 32
    { s with prog := s.prog.write (fun _ => 0) (i / 2) (BitVec.ofNat 64 w') }
  else { s with tab := s.tab.write (fun _ => 0) ((k - tabBase) / 4) v }

/-- Whether a number is that of a word of engine memory. -/
def engineKey (k : Nat) : Bool := (progBase ≤ k && k < progBase + 0x8000) || (tabBase ≤ k && k < tabBase + 0x10000) || 2 ^ 32 ≤ k

/-- An error befalls a word of engine memory (R132): two wrong bits leave its contents open. -/
def strikeEngine (s : State) (e : Ecc) : State :=
  let mark (s : State) (k v : Nat) : State := { s with eng := { s.eng with bad := s.eng.bad.write (fun _ => 0) k v } }
  match e with
  | .clean => s
  | .single w => if engineKey (eccKey w) && s.eng.bad.read (fun _ => 0) (eccKey w) == 0 then mark s (eccKey w) 1 else s
  | .double w => if engineKey (eccKey w) then (mark (s.setEngineWord (eccKey w) s.freeVal) (eccKey w) 2).tookFree else s

/-- An error befalls a word of SRAM (R102). -/
def strikeSram (s : State) (e : Ecc) : State :=
  let hit (k : Nat) : Bool := 0x20000000 ≤ k && k < 0x20400000
  match e with
  | .clean => s
  | .single w => if hit (eccKey w) && s.bad.read (fun _ => 0) (eccKey w) == 0 then { s with bad := s.bad.write (fun _ => 0) (eccKey w) 1 } else s
  | .double w =>
    if hit (eccKey w) then
      let t := s.setLe (eccKey w) s.freeVal.toNat 4
      ({ t with bad := t.bad.write (fun _ => 0) (eccKey w) 2 } : State).tookFree
    else s

end State

/-! ### Access rights and error responses -/

/-- The kinds of error response (R122). -/
inductive ErrKind where
  | owner | width | unmapped | range | locked | state | busy | timeout | key | prot | ecc
  deriving DecidableEq, Repr

/-- The KIND code of R122. -/
def ErrKind.code : ErrKind → Nat
  | .owner => 1 | .width => 2 | .unmapped => 3 | .range => 4 | .locked => 5 | .state => 6 | .busy => 7 | .timeout => 8
  | .key => 9 | .prot => 10 | .ecc => 11

/-- MASTER of SYS_ERR_INFO (R126). -/
def masterCode : Master → Nat
  | .core .ta | .chk .ta => 0 | .core .tb | .chk .tb => 1 | .core .mc | .chk .mc => 2 | .hsp => 3 | .dma _ => 4 | .dbg _ => 5

/-- Whose rights an access carries (R124). -/
def rights : Master → Core
  | .core c => c | .hsp => .tb | .dma c => c | .dbg c => c | .chk c => c

/-- The checker core of a split pair (R436). -/
def isChecker : Master → Bool
  | .chk _ => true
  | _ => false

/-- The number of a core's pair: 0 TA, 1 TB. -/
def pairOf (c : Core) : Nat := if c = .ta then 0 else 1

/-- PAGE_CAP.OWNER code of a core. -/
def ownerCodeOf : Core → Nat
  | .ta => 1 | .tb => 2 | .mc => 3

/-- PAGE_CTL.AGENT code of a core. -/
def agentCodeOf : Core → Nat
  | .ta => 0 | .tb => 1 | .mc => 2

namespace State

/-- Whether the page's lock is open (R114). -/
def lockOpen (s : State) (k : PageKind) (n : Nat) : Bool := s.on (hdr k n 0x0C 0 1)

/-- Full write rights on a page: its owner, or MC with the lock open (R4); a split pair's checker has none (R436). -/
def mayWrite (s : State) (m : Master) (k : PageKind) (n : Nat) : Bool :=
  !(isChecker m) && (ownerCodeOf (rights m) = k.ownerCode || (rights m = .mc && s.lockOpen k n))

/-- Whether the sender is the page's agent (R112). -/
def isAgent (s : State) (m : Master) (k : PageKind) (n : Nat) : Bool := !(isChecker m) && s.fld (hdr k n 0x08 3 2) = agentCodeOf (rights m)

/-- The rights of R5: a read by the page's agent has its full side effects. -/
def fullRead (s : State) (m : Master) (k : PageKind) (n : Nat) : Bool := s.isAgent m k n

/-- An error response (R122): nothing is written, the first error since VALID was cleared is captured, the error is counted,
ACC_ERR is set and event 0x1001 posted with the address. A write by the checker of a split pair counts in its own register too, posts
event 0x2110 and is not captured (R436). -/
def errResp (s : State) (m : Master) (write : Bool) (addr : Nat) (e : ErrKind) : State :=
  let s := { s with resp := ⟨e.code, 0⟩ }
  if isChecker m && write then
    let p := pairOf (rights m)
    let s := ((s.inc (R.TND_CERR_COUNT p)).setFld (R.TND_CERR_KIND p) e.code).inc R.SYS_ERR_CNT_COUNT
    (s.evt .sys 0 E.SYS_ACC_ERR).post 0x2110 (locBlk (if p = 0 then 3 else 1) 0x02) (p + e.code * 16)
  else
  let s := if s.on R.SYS_ERR_INFO_VALID then s
    else ((((s.setFld R.SYS_ERR_ADDR_ADDR addr).setFld R.SYS_ERR_INFO_KIND e.code).setFld R.SYS_ERR_INFO_MASTER
      (masterCode m)).setFld R.SYS_ERR_INFO_WRITE (b2n write)).setFld R.SYS_ERR_INFO_VALID 1
  ((s.inc R.SYS_ERR_CNT_COUNT).evt .sys 0 E.SYS_ACC_ERR).post 0x1001 (locSub 7) addr

/-- An access that succeeds, with the data a read returns. -/
def okResp (s : State) (d : Word := 0) : State := { s with resp := ⟨0, d⟩ }

/-- The error response to an access that breaks several rules of step 5 of R122 names one of them, left open. -/
def errOneOf (s : State) (m : Master) (write : Bool) (addr : Nat) (l : List ErrKind) : State :=
  match l with
  | [] => s
  | [e] => s.errResp m write addr e
  | e :: es => (s.errResp m write addr ((e :: es).getD (s.freeVal.toNat % (e :: es).length) e)).tookFree

/-- The link that an access to a REMOTE page needs, if the page is one (R121). -/
def remoteLink (k : PageKind) (n : Nat) : Option Nat := if k = .ghd then some n else if k = .gld then some (12 + n) else none

/-- The page sits on a driver die whose link is not UP (R123); a link in state REGION still carries accesses. -/
def remoteDown (s : State) (k : PageKind) (n : Nat) : Bool :=
  (remoteLink k n).any fun l => s.fld (R.NL_STAT_STATE l) != 2 && s.fld (R.NL_STAT_STATE l) != 4

/-- An access with no answer within 2 µs (R123). -/
def accTimeout (s : State) (m : Master) (write : Bool) (k : PageKind) (n addr : Nat) : State :=
  let h (lo w : Nat) : Fld := hdr k n 0x28 lo w
  let s := ((s.errResp m write addr .timeout).setFld (h 0 1) 1).setFld (h 2 10) (addr % 4096 / 4)
  ((s.setFld (h 12 1) (b2n write)).inc (h 16 16)).post 0x1003 (locSub 7) addr

/-- Flush mode: all but the safety manager, position feedback, the links, MC, SRAM and NOR is shed (R75). -/
def shed (s : State) : Bool := s.on R.PWR_STAT_ON_HOLDUP
/-- The networks are in standby: shed, or down for a planned detach (R75, R95). -/
def standby (s : State) : Bool := s.shed || s.pwr.netDown

/-- A block register of a page whose software reset runs (R111). -/
def srstHeld (s : State) (k : PageKind) (n addr : Nat) : Bool := s.on (hdr k n 0x08 0 1) && !inHeader k addr

/-- The checks of a write after that of its sender, in the order of R122: a software reset that runs (R111), the rules that the command's own
rule gives, each with the kind it is refused with, then the link of a REMOTE page (R123), then the effect. -/
def checked (s : State) (m : Master) (k : PageKind) (n addr : Nat) (errs : List (Bool × ErrKind)) (eff : State → State) : State :=
  if s.srstHeld k n addr then s.errResp m true addr .busy
  else match (errs.filter Prod.fst).map Prod.snd with
  | [] => if s.remoteDown k n then s.accTimeout m true k n addr else (eff s).okResp
  | l => s.errOneOf m true addr l

/-- The shape of a write command on a page: the ownership check of R4, then its other checks and its effect. -/
def writePage (s : State) (m : Master) (k : PageKind) (n addr : Nat) (errs : List (Bool × ErrKind)) (eff : State → State) : State :=
  if s.mayWrite m k n then s.checked m k n addr errs eff else s.errResp m true addr .owner

/-- The shape of an acknowledging write, which the page's agent may make too (R4, R112). -/
def ackPage (s : State) (m : Master) (k : PageKind) (n addr : Nat) (errs : List (Bool × ErrKind)) (eff : State → State) : State :=
  if s.mayWrite m k n || s.isAgent m k n then s.checked m k n addr errs eff else s.errResp m true addr .owner

/-- The same for a register of a page, named by its bus address. -/
def write (s : State) (m : Master) (addr : Nat) (errs : List (Bool × ErrKind)) (eff : State → State) : State :=
  match pageAt addr with
  | none => s.errResp m true addr .unmapped
  | some (k, n) => s.writePage m k n addr errs eff

end State

/-- The outcome type of every command. -/
abbrev Out := Host.Outcome State Fault Refusal

end Sys2Proof.Machine
end

