-- ==== Sys2Proof/Machine/Float.lean ====
section
/-!
DEFINITION. binary32 by exact integers: a finite value is an integer multiple of 2^-149, or a ratio; a result is computed exactly
and narrowed once, to nearest with ties to even, with subnormal results flushed and overflow saturated (R142).
-/
namespace Sys2Proof.Machine

/-- Sign, exponent and fraction fields of a binary32 pattern. -/
def f32Neg (x : Word) : Bool := bitAt x.toNat 31
def f32Exp (x : Word) : Nat := getBits x 23 8
def f32Man (x : Word) : Nat := getBits x 0 23

/-- NaN and infinity patterns. -/
def f32IsNan (x : Word) : Bool := f32Exp x = 255 && f32Man x != 0
def f32IsInf (x : Word) : Bool := f32Exp x = 255 && f32Man x == 0

/-- The magnitude of a pattern in units of 2^-149, subnormals as zero; an infinity or NaN reads as the largest finite value
plus one step of its exponent. -/
def f32Mag (x : Word) : Nat := if f32Exp x = 0 then 0 else (2 ^ 23 + f32Man x) * 2 ^ (f32Exp x - 1)

/-- The value of a pattern in units of 2^-149, subnormals as zero. -/
def f32Val (x : Word) : Int := if f32Neg x then -(f32Mag x : Int) else f32Mag x

/-- The unit of `f32Val`: 1 is 2^149 units. -/
def f32One : Nat := 2 ^ 149

/-- The floor of the binary logarithm of a positive number. -/
def log2 (n : Nat) : Nat := n.log2

/-- `n / d` rounded to the nearest integer, ties to even. -/
def rne (n d : Nat) : Nat :=
  let q := n / d
  let r := n % d
  if 2 * r < d then q else if d < 2 * r then q + 1 else if q % 2 = 0 then q else q + 1

/-- The largest finite pattern, the value an overflow saturates at (R142). -/
def f32Max : Nat := 0x7F7FFFFF

/-- A binary32 result: its pattern, whether it overflowed and was saturated, whether it was flushed to zero. -/
structure F32 where
  bits : Word
  ovf : Bool := false
  deriving DecidableEq, Repr

/-- The binary32 result of the exact value `(-1)^neg * n / d` in units of 1: rounded once to 24 bits, to nearest with ties to
even; below the smallest normal value after rounding it is a zero of the sign, above the largest finite value it saturates. -/
def f32Round (neg : Bool) (n d : Nat) : F32 :=
  let sgn := if neg then 2 ^ 31 else 0
  if n = 0 ∨ d = 0 then ⟨BitVec.ofNat 32 sgn, false⟩
  else
    -- e is the exponent with 2^e ≤ n/d < 2^(e+1), as an integer
    let e0 : Int := (log2 n : Int) - (log2 d : Int)
    let ge (e : Int) : Bool := if 0 ≤ e then d * 2 ^ e.toNat ≤ n else d ≤ n * 2 ^ (-e).toNat
    let e := if ge e0 then e0 else e0 - 1
    -- scale so that the quotient has 24 bits: shift = 23 - e
    let sh := 23 - e
    let m := if 0 ≤ sh then rne (n * 2 ^ sh.toNat) d else rne n (d * 2 ^ (-sh).toNat)
    let (m, e) := if m = 2 ^ 24 then (2 ^ 23, e + 1) else (m, e)
    if e < -126 then ⟨BitVec.ofNat 32 sgn, false⟩
    else if 127 < e then ⟨BitVec.ofNat 32 (sgn + f32Max), true⟩
    else ⟨BitVec.ofNat 32 (sgn + (e + 127).toNat * 2 ^ 23 + (m - 2 ^ 23)), false⟩

/-- The result of an exact integer number of units of 2^-k; a zero result has the sign asked for. -/
def f32OfInt (v : Int) (k : Nat) (zeroNeg : Bool := false) : F32 :=
  if v = 0 then f32Round zeroNeg 0 1 else f32Round (v < 0) v.natAbs (2 ^ k)

/-- The result of an exact ratio of integers. -/
def f32OfRatio (n d : Int) : F32 := f32Round ((n < 0) != (d < 0)) n.natAbs d.natAbs

/-- A natural number as binary32. -/
def f32OfNat (n : Nat) : Word := (f32Round false n 1).bits

/-- 1.0 as a pattern. -/
def f32OneBits : Word := 0x3F800000

/-- The value of a pattern compared with a ratio `p / q` of natural numbers: |x| ≥ p/q. -/
def f32AbsGe (x : Word) (p q : Nat) : Bool := p * f32One ≤ f32Mag x * q

end Sys2Proof.Machine
end

