-- ==== Sys2Proof/Machine/Arith.lean ====
section
/-!
DEFINITION. The values the engine computes with: exact extended reals with IEEE 754's rules for infinities and signs of zero
(R142), their single rounding, the functions with a stated error bound, and the fixed and table constants (R148, R155).
-/
namespace Sys2Proof.Machine

/-- An exact value: a NaN, an infinity with its sign, or `v * 2^-k`; a zero carries its sign in `nz`. -/
inductive Ev where
  | nan
  | inf (neg : Bool)
  | fin (v : Int) (k : Nat) (nz : Bool)
  deriving DecidableEq, Repr

namespace Ev

/-- The value of a binary32 pattern, a subnormal as zero of its sign (R142). -/
def of (x : Word) : Ev :=
  if f32IsNan x then nan else if f32IsInf x then inf (f32Neg x) else fin (f32Val x) 149 (f32Neg x)

/-- Whether the value is negative, by the sign of a zero too. -/
def neg? : Ev → Bool
  | nan => false | inf n => n | fin v _ nz => if v = 0 then nz else v < 0

def isNan : Ev → Bool
  | nan => true | _ => false
def isInf : Ev → Bool
  | inf _ => true | _ => false
def isZero : Ev → Bool
  | fin v _ _ => v = 0 | _ => false

def neg : Ev → Ev
  | nan => nan | inf n => inf !n | fin v k nz => fin (-v) k !nz

def abs : Ev → Ev
  | nan => nan | inf _ => inf false | fin v k _ => fin v.natAbs k false

/-- Exact sum; ∞ − ∞ is a NaN, and a zero sum is negative only if both operands are negative zeros. -/
def add : Ev → Ev → Ev
  | nan, _ => nan
  | _, nan => nan
  | inf a, inf b => if a = b then inf a else nan
  | inf a, _ => inf a
  | _, inf b => inf b
  | fin v k a, fin w l b =>
    let m := max k l
    let t := v * 2 ^ (m - k) + w * 2 ^ (m - l)
    fin t m (a && b && v = 0 && w = 0)

def sub (a b : Ev) : Ev := a.add b.neg

/-- Exact product; 0 × ∞ is a NaN. -/
def mul : Ev → Ev → Ev
  | nan, _ => nan
  | _, nan => nan
  | a, inf b => if a.isZero then nan else inf (a.neg? != b)
  | inf a, b => if b.isZero then nan else inf (a != b.neg?)
  | fin v k a, fin w l b => fin (v * w) (k + l) ((fin v k a).neg? != (fin w l b).neg?)

/-- An exact integer. -/
def int (n : Int) : Ev := fin n 0 false

/-- `a < b` for values that are no NaN; −0 equals +0 (R153). -/
def lt : Ev → Ev → Bool
  | nan, _ => false
  | _, nan => false
  | inf a, inf b => a && !b
  | inf a, _ => a
  | _, inf b => !b
  | fin v k _, fin w l _ => v * 2 ^ l < w * 2 ^ k

def le (a b : Ev) : Bool := !a.isNan && !b.isNan && !b.lt a

/-- The floor of a finite value. -/
def floor : Ev → Int
  | fin v k _ => v / (2 ^ k : Nat)
  | _ => 0

end Ev

/-- A result word and the flags it sets (R142). -/
structure Res where
  bits : Word := 0
  inv : Bool := false
  ovf : Bool := false
  dz : Bool := false
  deriving DecidableEq, Repr

namespace Res

def invalid : Res := { inv := true }
/-- The saturated value with its sign. -/
def sat (neg : Bool) : Word := BitVec.ofNat 32 (f32Max + if neg then 2 ^ 31 else 0)
def exceed (neg : Bool) : Res := { bits := sat neg, ovf := true }
def zero (neg : Bool := false) : Res := { bits := BitVec.ofNat 32 (if neg then 2 ^ 31 else 0) }
def ofF32 (r : F32) : Res := { bits := r.bits, ovf := r.ovf }
/-- The flags of another result joined to this one's. -/
def join (r q : Res) : Res := { r with inv := r.inv || q.inv, ovf := r.ovf || q.ovf, dz := r.dz || q.dz }

end Res

/-- One rounding of an exact value to binary32 (R142). -/
def Ev.round : Ev → Res
  | .nan => Res.invalid
  | .inf n => Res.exceed n
  | .fin v k nz => Res.ofF32 (f32OfInt v k nz)

/-- One rounding of an exact value times `p / q`. -/
def Ev.roundMul (e : Ev) (p q : Nat) : Res :=
  match e with
  | .fin v k nz => if v = 0 then Res.zero nz else Res.ofF32 (f32Round (v < 0) (v.natAbs * p) (2 ^ k * q))
  | e => e.round

/-! ### Roots -/

/-- The integer square root, bit by bit. -/
def isqrtLoop (n : Nat) : Nat → Nat → Nat
  | 0, r => r
  | k + 1, r => isqrtLoop n k (if (r + 2 ^ k) * (r + 2 ^ k) ≤ n then r + 2 ^ k else r)

def isqrt (n : Nat) : Nat := isqrtLoop n (n.log2 / 2 + 1) 0

/-- Guard bits of an irrational value. -/
def guardBits : Nat := 400

/-- √3 in units of 2^-400, rounded down. -/
def sqrt3 : Nat := isqrt (3 * 4 ^ guardBits)

/-! ### Results within a bound -/

/-- A binary32 value within 1 ulp of `n / d` (of a value just above it where `tail` holds): the neighbours below and above, or,
where the value is representable, itself or a neighbour; `pick` says which (R153). -/
def f32Within (neg : Bool) (n d : Nat) (tail : Bool) (pick : Nat) : Res :=
  let e0 : Int := (log2 n : Int) - (log2 d : Int)
  let ge (e : Int) : Bool := if 0 ≤ e then d * 2 ^ e.toNat ≤ n else d ≤ n * 2 ^ (-e).toNat
  let e := if ge e0 then e0 else e0 - 1
  let sh := 23 - e
  let num := if 0 ≤ sh then n * 2 ^ sh.toNat else n
  let den := if 0 ≤ sh then d else d * 2 ^ (-sh).toNat
  let m := num / den
  let c := if num % den = 0 ∧ ¬tail then m - 1 + pick % 3 else m + pick % 2
  Res.ofF32 (if 0 ≤ sh then f32Round neg c (2 ^ sh.toNat) else f32Round neg (c * 2 ^ (-sh).toNat) 1)

/-- The binary32 value nearest to the exact `v * 2^-k` moved by `off`, an error in units of 2^-k, if after its rounding it lies
within `bound` of the exact value; else the nearest to the exact value. -/
def f32NearBy (v : Int) (k : Nat) (off : Int) (bound : Nat) : Word :=
  let r := (f32OfInt (v + off) k).bits
  let e : Ev := (Ev.of r).sub (.fin v k false)
  match e with
  | .fin d j _ => if d.natAbs * 2 ^ k ≤ bound * 2 ^ j then r else (f32OfInt v k).bits
  | _ => (f32OfInt v k).bits

/-- An offset between `-b` and `b` that a free word chooses. -/
def freeOff (w : Word) (b : Nat) : Int := (w.toNat % (2 * b + 1) : Nat) - (b : Int)

/-! ### Sine table and arc tangent -/

/-- π in units of 2^-128. -/
def piQ128 : Nat := 0x3243F6A8885A308D313198A2E03707344

/-- The Taylor series of the sine in units of 2^-128: `t` the present term, `x2` the square of the angle, `j` the term's order. -/
def sinLoop (x2 : Int) : Nat → Nat → Int → Int → Int
  | 0, _, _, acc => acc
  | n + 1, j, t, acc =>
    let t' := -(t * x2 / 2 ^ 128) / ((j + 1) * (j + 2) : Nat)
    sinLoop x2 n (j + 2) t' (acc + t')

/-- Word `k` of the sine table: sin(kπ/2048) (R155). -/
def sineWord (k : Nat) : Word :=
  if k = 1024 then f32OneBits
  else
    let x : Int := (piQ128 * k / 2048 : Nat)
    (f32OfInt (sinLoop (x * x / 2 ^ 128) 20 1 x x) 128).bits

/-- atan(2^-i) in turns, in units of 2^-64, for i = 0 to 63: below i = 22 the angle is 2^-i / 2π to the table's accuracy. -/
def atanTurns (i : Nat) : Nat :=
  -- atan t = t − t³/3 + t⁵/5 − … with t = 2^-i; the first is 1/8 turn
  if i = 0 then 2 ^ 61
  else
    let term (j : Nat) : Int := (if j % 2 = 0 then 1 else -1) * (2 ^ (160 - min 160 (i * (2 * j + 1))) / (2 * j + 1) : Nat)
    let s : Int := (List.range 80).foldl (fun a j => if i * (2 * j + 1) ≤ 160 then a + term j else a) 0
    (s.toNat * 2 ^ 31) / piQ128

/-- CORDIC: the angle of (x, y) with x > 0 in turns, in units of 2^-64, added to `a`. -/
def cordic : List Nat → Int → Int → Int → Int
  | [], _, _, a => a
  | i :: l, x, y, a =>
    if y = 0 then a
    else if 0 < y then cordic l (x + y / 2 ^ i) (y - x / 2 ^ i) (a + atanTurns i)
    else cordic l (x - y / 2 ^ i) (y + x / 2 ^ i) (a - atanTurns i)

/-- atan2(y, x) in turns, 0 ≤ a < 1, in units of 2^-64; not both zero. -/
def atan2Turns (y x : Int) : Nat :=
  let base : Int := if x < 0 then 2 ^ 63 else 0
  let (y, x) := if x < 0 then (-y, -x) else (y, x)
  let m := max y.natAbs x.natAbs
  let up (v : Int) : Int := v * 2 ^ (400 - min 400 m.log2)
  if x = 0 then (if 0 < y then 2 ^ 62 else 3 * 2 ^ 62)
  else ((cordic (List.range 64) (up x) (up y) base) % 2 ^ 64).toNat

/-! ### Fixed constants -/

/-- The fixed constants 0xC0–0xCD in order (R148). -/
def fixedConsts : List Word :=
  [0x00000000, 0x3F800000, 0xBF800000, 0x3F000000, 0x40000000, 0x3F5DB3D7, 0x3F13CD3A, 0x3FDDB3D7,
   (f32Round false 2 3).bits, (f32Round false 1 3).bits, (f32Round false piQ128 (2 ^ 128)).bits,
   (f32Round false piQ128 (2 ^ 127)).bits, (f32Round false (2 ^ 127) piQ128).bits, 0x3F3504F3]

end Sys2Proof.Machine
end

