-- ==== Sys2Proof/Machine/Crc.lean ====
section
/-!
DEFINITION. The checks on messages: CRC-32C (R409), CRC-8 (R351, R462), and numbers as little-endian bytes.
-/
namespace Sys2Proof.Machine

/-- One bit of CRC-32C, least significant bit first. -/
def crc32cBit (c : Nat) : Nat := if c % 2 = 1 then (c / 2) ^^^ 0x82F63B78 else c / 2
/-- One byte of CRC-32C. -/
def crc32cByte (c : Nat) (b : Byte) : Nat := (List.range 8).foldl (fun c _ => crc32cBit c) (c ^^^ b.toNat)
/-- CRC-32C of a list of bytes: polynomial 0x1EDC_6F41, initial value and final XOR all ones (R409). -/
def crc32c (bs : List Byte) : Nat := (bs.foldl crc32cByte 0xFFFFFFFF) ^^^ 0xFFFFFFFF

/-- One bit of CRC-8, most significant bit first. -/
def crc8Bit (c : Nat) : Nat := if 128 ≤ c then ((2 * c) % 256) ^^^ 0x07 else 2 * c
/-- CRC-8 of a list of bytes: polynomial 0x07, initial value 0 (R351, R462). -/
def crc8 (bs : List Byte) : Nat := bs.foldl (fun c b => (List.range 8).foldl (fun c _ => crc8Bit c) (c ^^^ b.toNat)) 0

/-- A number as `n` little-endian bytes. -/
def leBytes (v : Nat) : Nat → List Byte
  | 0 => []
  | n + 1 => BitVec.ofNat 8 v :: leBytes (v / 256) n
/-- Little-endian bytes as a number. -/
def ofLe : List Byte → Nat
  | [] => 0
  | b :: bs => b.toNat + 256 * ofLe bs

end Sys2Proof.Machine
end

