-- ==== Sys2Proof/Machine/Crypto.lean ====
section
/-!
DEFINITION. The public algorithms that Hallmark and the roles name: SHA-384, and ECDSA verification over P-384 (R482, R491, R499).
PRESUMED from the standards named (FIPS 180-4, FIPS 186): the manual names them and does not repeat them.
-/
namespace Sys2Proof.Machine

/-- A 64-bit word of SHA-512. -/
abbrev W64 := BitVec 64

/-- The first eighty prime numbers. -/
def primes80 : List Nat := (List.range 410).filter fun n => 2 ≤ n && (List.range n).all fun d => d < 2 || n % d != 0

/-- The integer cube root, bit by bit. -/
def icbrt (n : Nat) : Nat → Nat → Nat
  | 0, r => r
  | k + 1, r => icbrt n k (if (r + 2 ^ k) ^ 3 ≤ n then r + 2 ^ k else r)

/-- The round constants: the first 64 bits of the fractional parts of the cube roots of the first eighty primes. -/
def shaK : List W64 := primes80.map fun p => BitVec.ofNat 64 (icbrt (p * 2 ^ 192) 68 0)

/-- The initial hash value of SHA-384: those of the square roots of the ninth to sixteenth primes. -/
def shaInit : List W64 := ((primes80.drop 8).take 8).map fun p => BitVec.ofNat 64 (isqrt (p * 2 ^ 128))

/-- Padding to whole blocks of 128 bytes. -/
def shaPad (m : List Byte) : List Byte :=
  let n := m.length
  let z := (239 - n % 128) % 128
  m ++ [0x80] ++ List.replicate z 0 ++ (leBytes (8 * n) 16).reverse

/-- A big-endian word of eight bytes. -/
def shaWord (b : List Byte) : W64 := BitVec.ofNat 64 (b.foldl (fun x y => 256 * x + y.toNat) 0)

/-- The message schedule: the latest sixteen words, newest first, and the words still to come. -/
def shaNext (w : List W64) : W64 :=
  let x := w.getD 14 0
  let y := w.getD 1 0
  w.getD 15 0 + (x.rotateRight 1 ^^^ x.rotateRight 8 ^^^ (x >>> 7)) + w.getD 6 0 + (y.rotateRight 19 ^^^ y.rotateRight 61 ^^^ (y >>> 6))

/-- One round over the eight working words. -/
def shaRound (v : List W64) (k w : W64) : List W64 :=
  match v with
  | [a, b, c, d, e, f, g, h] =>
    let t1 := h + (e.rotateRight 14 ^^^ e.rotateRight 18 ^^^ e.rotateRight 41) + ((e &&& f) ^^^ (~~~e &&& g)) + k + w
    let t2 := (a.rotateRight 28 ^^^ a.rotateRight 34 ^^^ a.rotateRight 39) + ((a &&& b) ^^^ (a &&& c) ^^^ (b &&& c))
    [t1 + t2, a, b, c, d + t1, e, f, g]
  | l => l

/-- One block: the eighty rounds with the schedule that goes with them. -/
def shaBlock (h : List W64) (b : List Byte) : List W64 :=
  let w0 := (List.range 16).map fun i => shaWord ((b.drop (8 * i)).take 8)
  let r := shaK.zipIdx.foldl (fun (p : List W64 × List W64) (k : W64 × Nat) =>
    let w := if k.2 < 16 then w0.getD k.2 0 else shaNext p.2
    (shaRound p.1 k.1 w, w :: p.2.take 15)) (h, [])
  (h.zip r.1).map fun e => e.1 + e.2

/-- SHA-384 of a message: 48 bytes. -/
def sha384 (m : List Byte) : List Byte :=
  let p := shaPad m
  let h := (List.range (p.length / 128)).foldl (fun h i => shaBlock h ((p.drop (128 * i)).take 128)) shaInit
  ((h.take 6).flatMap fun w => (leBytes w.toNat 8).reverse)

/-! ### P-384 -/

/-- The field, the coefficient b, the base point and its order. -/
def ecP : Nat := 2 ^ 384 - 2 ^ 128 - 2 ^ 96 + 2 ^ 32 - 1
def ecB : Nat := 0xb3312fa7e23ee7e4988e056be3f82d19181d9c6efe8141120314088f5013875ac656398d8a2ed19d2a85c8edd3ec2aef
def ecG : Nat × Nat :=
  (0xaa87ca22be8b05378eb1c71ef320ad746e1d3b628ba79b9859f741e082542a385502f25dbf55296c3a545e3872760ab7,
   0x3617de4a96262c6f5d9e98bf9292dc29f8f41dbd289a147ce9da3113b5f0b8c00a60b1ce1d7e819d7a431d7c90ea0e5f)
def ecN : Nat := 0xffffffffffffffffffffffffffffffffffffffffffffffffc7634d81f4372ddf581a0db248b0a77aecec196accc52973

/-- `a ^ e` modulo `m`, over the low `n` bits of `e`. -/
def powMod (m : Nat) : Nat → Nat → Nat → Nat
  | 0, _, _ => 1
  | n + 1, a, e =>
    let r := powMod m n (a * a % m) (e / 2)
    if e % 2 = 1 then r * a % m else r

/-- The inverse modulo a prime of 384 bits. -/
def invMod (m a : Nat) : Nat := powMod m 384 (a % m) (m - 2)

/-- The sum of two points; none is the point at infinity. -/
def ecAdd (a b : Option (Nat × Nat)) : Option (Nat × Nat) :=
  match a, b with
  | none, b => b
  | a, none => a
  | some (x1, y1), some (x2, y2) =>
    if x1 = x2 ∧ (y1 + y2) % ecP = 0 then none
    else
      let l := if x1 = x2 then (3 * x1 * x1 + 3 * (ecP - 1)) * invMod ecP (2 * y1) % ecP
        else (y2 + ecP - y1) * invMod ecP (x2 + ecP - x1) % ecP
      let x := (l * l + 2 * ecP - x1 - x2) % ecP
      some (x, (l * (x1 + ecP - x) + ecP - y1) % ecP)

/-- A multiple of a point, over the low `n` bits of the factor. -/
def ecMul : Nat → Nat → Option (Nat × Nat) → Option (Nat × Nat)
  | 0, _, _ => none
  | n + 1, k, a =>
    let r := ecMul n (k / 2) (ecAdd a a)
    if k % 2 = 1 then ecAdd r a else r

/-- A big-endian number. -/
def beNat (b : List Byte) : Nat := b.foldl (fun x y => 256 * x + y.toNat) 0

/-- A signature, r then s, verifies over a message under a public key in uncompressed point form (R491). -/
def ecdsaOk (key msg sig : List Byte) : Bool :=
  let x := beNat ((key.drop 1).take 48)
  let y := beNat ((key.drop 49).take 48)
  let r := beNat (sig.take 48)
  let t := beNat ((sig.drop 48).take 48)
  let onCurve := x < ecP && y < ecP && (y * y) % ecP == (x * x * x + (ecP - 3) * x + ecB) % ecP
  if key.getD 0 0 = 4 ∧ onCurve ∧ 0 < r ∧ r < ecN ∧ 0 < t ∧ t < ecN then
    let w := invMod ecN t
    let u1 := beNat (sha384 msg) * w % ecN
    let u2 := r * w % ecN
    match ecAdd (ecMul 384 u1 (some ecG)) (ecMul 384 u2 (some (x, y))) with
    | some (px, _) => px % ecN == r
    | none => false
  else false

end Sys2Proof.Machine
end

