-- ==== Sys2Proof/Machine/Die.lean ====
section
/-!
DEFINITION. The driver dies: which channels a leg has, how a channel turns on and off (R247–R251), how a die applies a leg's
level or safe-state code with its dead time (R221, R223, R238), and what a power group's slots name (R211).
-/
namespace Sys2Proof.Machine

namespace State

def grp (s : State) (g : Nat) : Group := s.pwm.grp.read (fun _ => {}) g
def updGrp (s : State) (g : Nat) (f : Group → Group) : State :=
  { s with pwm := { s.pwm with grp := s.pwm.grp.write (fun _ => {}) g (f (s.grp g)) } }
def link (s : State) (k : Nat) : Link := s.pwm.link.read (fun _ => {}) k
def updLink (s : State) (k : Nat) (f : Link → Link) : State :=
  { s with pwm := { s.pwm with link := s.pwm.link.write (fun _ => {}) k (f (s.link k)) } }
def leg (s : State) (l : Nat) : Leg := s.pwm.leg.read (fun _ => {}) l
def updLeg (s : State) (l : Nat) (f : Leg → Leg) : State :=
  { s with pwm := { s.pwm with leg := s.pwm.leg.write (fun _ => {}) l (f (s.leg l)) } }
def chan (s : State) (c : Nat) : ChanRec := s.pwm.chan.read (fun _ => {}) c
def updChan (s : State) (c : Nat) (f : ChanRec → ChanRec) : State :=
  { s with pwm := { s.pwm with chan := s.pwm.chan.write (fun _ => {}) c (f (s.chan c)) } }

end State

/-! ### Legs, channels and links by number -/

/-- The number of a channel: GH0–GH47 are 0–47, GL0–GL23 are 64–87. -/
def chanNo : Chan → Nat
  | .gh n => n
  | .gl n => 64 + n

/-- The link that serves a leg, and the leg's index on the die (R232). -/
def legLink (l : Nat) : Nat := if l < 0x20 then l / 2 else 12 + (l - 0x20) / 4
def legIdx (l : Nat) : Nat := if l < 0x20 then l % 2 else (l - 0x20) % 4
/-- The leg with an index on a link's die, and how many legs the die carries. -/
def linkLeg (k i : Nat) : Nat := if k < 12 then 2 * k + i else 0x20 + 4 * (k - 12) + i
def linkLegs (k : Nat) : List Nat := (List.range (if k < 12 then 2 else 4)).map (linkLeg k)
/-- High-side and low-side channel of a leg (R2). -/
def legHigh (l : Nat) : Nat := if l < 0x20 then 2 * l else 64 + 2 * (l - 0x20)
def legLow (l : Nat) : Nat := legHigh l + 1
/-- The leg a channel belongs to. -/
def chanLeg (c : Nat) : Nat := if c < 64 then c / 2 else 0x20 + (c - 64) / 2
/-- High-voltage channels are numbered below 64. -/
def isHv (c : Nat) : Bool := c < 64
/-- The channels of a link's die. -/
def linkChans (k : Nat) : List Nat := (linkLegs k).flatMap fun l => [legHigh l, legLow l]

/-- The status fields of a channel: driven on, READY. -/
def chanOnFld (c : Nat) : Fld :=
  if c < 64 then R.GHD_STAT_ON (c / 4) (c % 4) else ⟨R.GLD_LEG_STAT ((c - 64) / 8) ((c - 64) % 8 / 2), 2 + c % 2, 1⟩
def chanReadyFld (c : Nat) : Fld :=
  if c < 64 then R.GHD_STAT_READY (c / 4) (c % 4) else ⟨R.GLD_LEG_STAT ((c - 64) / 8) ((c - 64) % 8 / 2), c % 2, 1⟩
/-- A bit of GHD_STATc of an HV channel, and of the leg status of an LV leg. -/
def ghd (f : Nat → Nat → Fld) (c : Nat) : Fld := f (c / 4) (c % 4)
def gld (f : Nat → Nat → Fld) (l : Nat) : Fld := f ((l - 0x20) / 4) ((l - 0x20) % 4)

/-! ### Slots of a group -/

/-- LEG and USE fields of slot `k` (R211, R242). -/
def slotLegFld (g k : Nat) : Fld := ⟨if k < 3 then R.PG_SLOT0 g else R.PG_SLOT1 g, 8 * (k % 3), 6⟩
def slotUseFld (g k : Nat) : Fld := ⟨if k < 3 then R.PG_SLOT0 g else R.PG_SLOT1 g, 8 * (k % 3) + 6, 2⟩
/-- Dead time of slot `k` (R242), in units of 1/32 clock. -/
def slotDtFld (g k : Nat) : Fld := ⟨R.PG_DT01 g + 4 * (k / 2), if k % 2 = 0 then 0 else 16, 15⟩

namespace State

/-- Live leg and use of a slot; 0x3F is an empty slot. -/
def slotLeg (s : State) (g k : Nat) : Nat := s.liveFld (slotLegFld g k)
def slotUse (s : State) (g k : Nat) : Nat := s.liveFld (slotUseFld g k)
/-- Whether a slot of the group is in use. -/
def slotUsed (s : State) (g k : Nat) : Bool := s.slotLeg g k != 0x3F
/-- The slots of a group in use, and their legs. -/
def slots (s : State) (g : Nat) : List Nat := (List.range 6).filter (s.slotUsed g)
def legsOf (s : State) (g : Nat) : List Nat := (s.slots g).map (s.slotLeg g)
/-- The channels a slot uses. -/
def slotChans (s : State) (g k : Nat) : List Nat :=
  let l := s.slotLeg g k
  match s.slotUse g k with
  | 1 => [legHigh l] | 2 => [legLow l] | _ => [legHigh l, legLow l]
/-- The groups whose live slots hold a leg the test selects, as a mask (R391, "legs"). -/
def groupsHolding (s : State) (p : Nat → Bool) : Nat :=
  (List.range 12).foldl (fun m g => if (s.legsOf g).any p then m + 2 ^ g else m) 0
/-- PG_STAT.STATE: 0 OFF, 1 ARMING, 2 ARMED, 3 SAFE (R226). -/
def gstate (s : State) (g : Nat) : Nat := s.fld (R.PG_STAT_STATE g)
/-- A group that counts as armed for R17: ARMING, ARMED or SAFE. -/
def gactive (s : State) (g : Nat) : Bool := s.gstate g != 0
def tracRec (s : State) (n : Nat) : TracRec := Store.read (fun _ => {}) s.trac n
def updTrac (s : State) (n : Nat) (f : TracRec → TracRec) : State :=
  { s with trac := Store.write (fun _ => {}) s.trac n (f (s.tracRec n)) }

/-- TRC page whose machine is the group, in the degraded mode with that slot's set dropped (R297, R309, R311), or cleared since while the group
was in a safe state (R314): the slot is disabled while the group is ARMED, or SAFE in Hold. -/
def droppedBy (s : State) (g k : Nat) : Option Nat :=
  [0, 1].find? fun n => s.fld (R.TRC_CFG_GRP n) == g &&
    ((s.fld (R.TRC_STAT_STATE n) != 0 && s.fld (R.TRC_STAT_SET n) == k / 3) || (s.tracRec n).kept.any fun e => e.1 == k / 3)
/-! ### Commutators -/

def actRec (s : State) (n : Nat) : ActRec := s.act.read (fun _ => {}) n
def updAct (s : State) (n : Nat) (f : ActRec → ActRec) : State := { s with act := s.act.write (fun _ => {}) n (f (s.actRec n)) }
/-- The enabled commutator that has taken over a group (R361). -/
def actOf (s : State) (g : Nat) : Option Nat := [0, 1, 2].find? fun n => s.on (R.ACT_CFG_EN n) && s.fld (R.ACT_CFG_GRP n) == g

/-- The group is governed by CHG or AUX, and its slots are disabled (R323). -/
def convOff (s : State) (g : Nat) : Bool := (g == 2 || g == 3 || g == 8) && !bitAt s.conv.act g
/-- The SAFE code of a leg of such a group: off, but for the low side under AUX's test (R323, R347). -/
def convCode (s : State) (l : Nat) : Nat :=
  b2n (s.fld R.AUX_STAT_STATE == 1 && ((s.conv.aux.phase == 1 && l == 20) || (s.conv.aux.phase == 3 && l == 21)))
def slotDisabled (s : State) (g k : Nat) : Bool :=
  s.convOff g || (s.gstate g == 2 || (s.gstate g == 3 && s.fld (R.PG_STAT_SAFE_KIND g) == 4)) && (s.droppedBy g k).isSome
/-- The SAFE code of a disabled slot's leg (R310): off, or the short on AS_SIDE. -/
def dropCode (s : State) (g n : Nat) : Nat :=
  if s.on (R.TRC_STAT_DROP_SHORT n) || (s.tracRec n).kept.any Prod.snd then 1 + s.fld (R.SAF_GRP_AS_SIDE g) else 0
/-- A group is armed: ARMING or ARMED; some group is. -/
def armed (s : State) (g : Nat) : Bool := s.gstate g == 1 || s.gstate g == 2
def anyArmed (s : State) : Bool := (List.range 12).any s.armed
/-- Any group is ARMING, ARMED or SAFE. -/
def anyActive (s : State) : Bool := (List.range 12).any s.gactive
/-- Some group that holds the leg is ARMING, ARMED or SAFE. -/
def legActive (s : State) (l : Nat) : Bool := (List.range 12).any fun g => s.gactive g && (s.legsOf g).contains l

/-! ### Channels -/

/-- A channel that stays off whatever it is commanded (R247): a latched trip, a two-step turn-off in progress, a supply in
lock-out or not yet READY again after one, supplies not enabled; for an LV channel its die's supplies (R258). -/
def chanBlocked (s : State) (c : Nat) : Bool :=
  if isHv c then
    !s.on (ghd R.GHD_SUP_EN c) || s.on (ghd R.GHD_STAT_DSAT_LATCH c) || s.on (ghd R.GHD_STAT_PWR_LATCH c)
      || s.on (ghd R.GHD_STAT_TWO_STEP c) || s.on (ghd R.GHD_STAT_PUV c) || s.on (ghd R.GHD_STAT_NUV c) || (s.chan c).uvHold
  else s.on (R.GLD_SUP_VDD_UV ((c - 64) / 8)) || s.on (R.GLD_SUP_VBR_OUT ((c - 64) / 8))

/-- Whether the bootstrap of an LV high-side channel is below its rising threshold (R258). -/
def bstLow (s : State) (c : Nat) : Bool := !isHv c && c % 2 == 0 && s.on (gld R.GLD_LEG_STAT_BST_LOW (chanLeg c))

/-- The bootstrap fault of an LV leg: latched and counted at the die (R258). -/
def bstFault (s : State) (l : Nat) : State := (s.setFld (gld R.GLD_LEG_STAT_BST_LATCH l) 1).inc (gld R.GLD_LEG_CNT_BST_UV_CNT l)

/-- READY of R248 as the die computes it from its supplies, latches, CFG frame and, for an LV channel, VDD and VBR. As it returns, a
hold after a lock-out ends (R253); READY_ALL where every enabled channel of the page has become READY (R265). -/
def updReady (s : State) (c : Nat) : State :=
  let k := legLink (chanLeg c)
  let ok := (s.chan c).supOk && (s.link k).cfgd &&
    (if isHv c then s.on (ghd R.GHD_SUP_EN c) && !s.on (ghd R.GHD_STAT_DSAT_LATCH c) && !s.on (ghd R.GHD_STAT_PWR_LATCH c)
      && !s.on (ghd R.GHD_STAT_PUV c) && !s.on (ghd R.GHD_STAT_NUV c)
    else !s.on (gld R.GLD_LEG_STAT_BST_LATCH (chanLeg c)) && !s.on (R.GLD_SUP_VDD_UV ((c - 64) / 8))
      && !s.on (R.GLD_SUP_VBR_OUT ((c - 64) / 8)))
  let was := s.on (chanReadyFld c)
  let s := s.setFld (chanReadyFld c) (b2n ok)
  if ok && !was then
    let s := s.updChan c fun r => { r with uvHold := false }
    let all := isHv c && ([0, 1, 2, 3].all fun i => !s.on (R.GHD_SUP_EN (c / 4) i) || s.on (R.GHD_STAT_READY (c / 4) i))
    if all then s.evt .ghd (c / 4) E.GHD_READY_ALL else s
  else s

/-- A turn-on reaches a channel: the clamp goes off and the gate is driven on, unless the channel must stay off (R247, R254); a channel
held off with its negative supply failed loses its clamp.
A high-side turn-on on a low bootstrap counts as a bootstrap fault (R258). -/
def turnOn (s : State) (c : Nat) : State :=
  if s.chanBlocked c then (if isHv c && s.on (ghd R.GHD_STAT_NUV c) then s.setFld (ghd R.GHD_STAT_CLAMP_ON c) 0 else s)
  else if s.bstLow c then (s.bstFault (chanLeg c)).updReady c
  else
    let s := s.setFld (chanOnFld c) 1
    if isHv c then s.setFld (ghd R.GHD_STAT_CLAMP_ON c) 0 else s

/-- A channel begins a two-step turn-off (R250, R251). -/
def twoStep (s : State) (c : Nat) : State :=
  ((s.setFld (chanOnFld c) 0).setFld (ghd R.GHD_STAT_TWO_STEP c) 1).inc (ghd R.GHD_CNT_STO_CNT c)

/-- A desaturation trip at the die: two-step turn-off, latched and counted (R250). -/
def dsatTrip (s : State) (c : Nat) : State :=
  (((s.twoStep c).setFld (ghd R.GHD_STAT_DSAT_LATCH c) 1).inc (ghd R.GHD_CNT_DSAT_CNT c)).updReady c

/-- A turn-off reaches a channel. `safe` marks a SAFE frame or the fallback, which use two-step with STO_ON_SAFE = 1 (R251);
`hot` marks a desaturation comparator above threshold after blanking, which makes the turn-off a trip (R247). -/
def turnOff (s : State) (c : Nat) (safe hot : Bool) : State :=
  if !s.on (chanOnFld c) then s
  else if isHv c && hot && s.on (ghd R.GHD_DSAT_DSAT_EN c) then s.dsatTrip c
  else if isHv c && safe && s.on (ghd R.GHD_STO_STO_ON_SAFE c) then s.twoStep c
  else s.setFld (chanOnFld c) 0

/-- A channel turned off directly, whatever it was doing (UVLO, power trip, die supply, group OFF). -/
def directOff (s : State) (c : Nat) : State := s.setFld (chanOnFld c) 0

/-! ### Legs at the die -/

/-- The command code a leg obeys: its fallback's while the die is in fallback (R238), else the last one received. -/
def legCode (s : State) (l : Nat) : Nat :=
  let k := s.link (legLink l)
  if k.fallback then (if k.fbShort && (s.leg l).use == 0 then 1 else 0) else (s.leg l).code

/-- The channels a leg wants on, high and low: by its code and level and its use (R211, R221, R223);
a refresh pulse takes the level low (R259). -/
def legWant (s : State) (l : Nat) : Bool × Bool :=
  let r := s.leg l
  let lv := r.level && !(0x20 ≤ l && s.on (gld R.GLD_LEG_STAT_REFRESHING l))
  match s.legCode l with
  | 3 => match r.use with
    | 1 => (lv, false) | 2 => (false, lv) | _ => (lv, !lv)
  | 1 => (false, r.use == 0)
  | 2 => (r.use == 0, false)
  | _ => (false, false)

/-- Apply a leg's command: unwanted channels turn off at once; a wanted channel of a complementary leg waits for its dead time,
that of a single-channel leg turns on at once (R221, R223). `hot` holds the channels whose desaturation comparator is above
threshold. -/
def applyLeg (s : State) (l : Nat) (safe : Bool) (hot : List Nat) : State :=
  let hi := legHigh l
  let lo := legLow l
  let (wh, wl) := s.legWant l
  let s := if wh then s else s.turnOff hi safe (hot.contains hi)
  let s := if wl then s else s.turnOff lo safe (hot.contains lo)
  let needHi := wh && !s.on (chanOnFld hi)
  let needLo := wl && !s.on (chanOnFld lo)
  if (s.leg l).use = 0 then s.updLeg l fun r => { r with incoming := if needHi then 2 else if needLo then 1 else 0 }
  else
    let s := s.updLeg l fun r => { r with incoming := 0 }
    let s := if needHi then s.turnOn hi else s
    if needLo then s.turnOn lo else s

/-- A group's legs turned off directly at their dies, as a group becomes OFF (R229, R396). -/
def legsOff (s : State) (g : Nat) : State :=
  s.each (s.legsOf g) fun s l =>
    ((s.updLeg l fun r => { r with code := 0, level := false, incoming := 0 }).directOff (legHigh l)).directOff (legLow l)

/-- Item appended to what a link carries. -/
def send (s : State) (k : Nat) (i : LinkItem) : State := s.updLink k fun r => { r with queue := r.queue ++ [i] }

end State

end Sys2Proof.Machine
end

