-- ==== Sys2Proof/Machine/J2.lean ====
section
/-!
DEFINITION. The safety manager J2: raising a fault line, which groups it affects, the choice of a safe-state command (R389–R397,
R263, R264), the command at a group (R223, R230), safety outputs held open by a line (R405), and clearing a line.
-/
namespace Sys2Proof.Machine

/-- The PENDING bit of a fault line (R389). -/
def pendFld (k : Nat) : Fld := ⟨R.SAF_PEND (k / 32), k % 32, 1⟩

/-- Location of the safety manager's events: SAF, and SIO unit `u` (chapter 12). -/
def locSaf : Nat := locBlk 4 0x00
def locSio (u : Nat) : Nat := loc 0 0 4 0x01 u

namespace State

/-- Whether a fault line is PENDING. -/
def isPending (s : State) (k : Nat) : Bool := s.on (pendFld k)
/-- The PENDING lines, ascending. -/
def pendingLines (s : State) : List Nat := (List.range 128).filter s.isPending
/-- The groups of a line's source, latched when it was raised (R391). -/
def ownGroups (s : State) (k : Nat) : Nat := s.safe.own.read (fun _ => 0) k
/-- Whether line `k` is the designated OV2 monitor's (R392). -/
def isOv2 (s : State) (k : Nat) : Bool := s.on R.SAF_OV2_EN && k == 96 + s.fld R.SAF_OV2_MON
/-- Whether a line's own reaction word covers a group: by OWN or by MASK (R390). -/
def covers (s : State) (k g : Nat) : Bool :=
  (s.on (R.SAF_RXN_OWN k) && bitAt (s.ownGroups k) g) || bitAt (s.fld (R.SAF_RXN_MASK k)) g
/-- Whether a line affects a group, by its reaction word or as the OV2 monitor's (R390, R392). -/
def affects (s : State) (k g : Nat) : Bool := s.covers k g || (s.isOv2 k && s.on (R.SAF_GRP_TRAC g))
/-- The groups a line affects, as a mask. -/
def affectedBy (s : State) (k : Nat) : Nat := (List.range 12).foldl (fun m g => if s.affects k g then m + 2 ^ g else m) 0
/-- A PENDING line affects the group (R227 FAULT, R396 PENDING). -/
def blocked (s : State) (g : Nat) : Bool := s.pendingLines.any fun k => s.affects k g

/-- The reactions of the PENDING lines that affect a group (R393): REACT codes 1–5; a HOLD_MAX that has run adds SPEED (R394). -/
def reactions (s : State) (g : Nat) : List Nat :=
  (s.pendingLines.flatMap fun k =>
    (if s.covers k g then [s.fld (R.SAF_RXN_REACT k)] else []) ++ (if s.isOv2 k && s.on (R.SAF_GRP_TRAC g) then [5] else []))
    |>.filter (· != 0)

/-- The channel has a trip the controller knows of (R263): latched, and reported in a status frame. -/
def chanTripped (s : State) (c : Nat) : Bool :=
  isHv c && (bitAt (s.chan c).seen 0 && s.on (ghd R.GHD_STAT_DSAT_LATCH c) || bitAt (s.chan c).seen 3 && s.on (ghd R.GHD_STAT_PWR_LATCH c))
/-- The channel is in under-voltage lock-out as last reported: of an HV supply, of an LV bootstrap or of its die's VDD (R253, R258). -/
def chanUvlo (s : State) (c : Nat) : Bool :=
  bitAt (s.chan c).seen 1 || bitAt (s.chan c).seen 2 || bitAt (s.chan c).seen 4 || (!isHv c && bitAt s.pwm.dieSeen (2 * ((c - 64) / 8)))

/-- Safe-state kinds as SAFE_KIND codes them (R231): 1 Freewheel, 2 active short low, 3 active short high, 4 Hold. The choice of
R263 for a group, for a side (0 low, 1 high) and a speed that counts as at or above N_CROSS. -/
def speedSelect (s : State) (g side : Nat) (fast : Bool) : Nat :=
  let legs := s.legsOf g
  let tripped := legs.filter fun l => s.chanTripped (legHigh l) || s.chanTripped (legLow l)
  let uv (sd : Nat) : Bool := legs.any fun l => s.chanUvlo (if sd = 1 then legHigh l else legLow l)
  let short (sd : Nat) : Nat := if fast then 2 + sd else 1
  match tripped with
  | [] =>
    let sd := if uv side then 1 - side else side
    if uv sd then 1 else short sd
  | [l] =>
    if s.chanTripped (legHigh l) && s.chanTripped (legLow l) then 1
    else
      let sd := if s.chanTripped (legLow l) then 1 else 0
      if uv sd then 1 else short sd
  | _ => 1

/-- The machine's speed for R263: invalid while its position channel reports a sensor fault, unless the channel is frozen by an
X2 withdrawal, when the last speed counts (R93); else |rpm| against N_CROSS. -/
def speedFast (s : State) (g : Nat) : Bool :=
  let p := s.fld (R.SAF_GRP_POS g)
  let invalid := s.on (R.POS_STAT_SENSOR_FAULT p) && !s.on (R.POS_STAT_FROZEN p)
  invalid || f32AbsGe (s.rd (R.POS_RPM p)) (s.fld (R.SAF_GRP_N_CROSS g)) 1

/-- The command of a group (R393): 0 where no PENDING line, and no Hold that has lasted HOLD_MAX (R394), asks for one. -/
def chooseCommand (s : State) (g : Nat) : Nat :=
  let r := if bitAt s.safe.speedAdded g then 5 :: s.reactions g else s.reactions g
  if r.isEmpty then 0
  else
    let forced := (if r.contains 2 then [s.speedSelect g 0 true] else []) ++ (if r.contains 3 then [s.speedSelect g 1 true] else [])
    let sped := if r.contains 5 && s.on (R.SAF_GRP_TRAC g) then [s.speedSelect g (s.fld (R.SAF_GRP_AS_SIDE g)) (s.speedFast g)] else []
    let fromR263 := forced ++ sped
    let sides := fromR263 ++ (if r.contains 5 && !s.on (R.SAF_GRP_TRAC g) then [1] else [])
    if (sides.contains 2 || sides.contains 3) && !fromR263.contains 1 then
      (if sides.contains 2 && sides.contains 3 then 1 else if sides.contains 2 then 2 else 3)
    else if r.contains 1 || !sides.isEmpty then 1
    else 4

/-- The 2-bit SAFE code of a leg for a safe-state kind: off, low side on, high side on, follow edges (R223, R233). -/
def kindCode : Nat → Nat
  | 2 => 1 | 3 => 2 | 4 => 3 | _ => 0

/-- The slot of a group that holds a leg. -/
def legSlot (s : State) (l : Nat) : Option (Nat × Nat) :=
  ((List.range 12).flatMap fun g => (List.range 6).map fun k => (g, k)).find? fun p => s.slotLeg p.1 p.2 == l

/-- The leg's low side is on for its group's precharge (R228): complementary LV slots alone. -/
def precharged (s : State) (l g k : Nat) : Bool := (s.grp g).precharging && s.slotUse g k == 0 && 0x20 ≤ l

/-- The code a SAFE frame carries for a leg: that of its SAFE group's command; that of a dropped set where TRC has disabled the slot; else
follow edges (R223, R233, R309). A slot that CHG or AUX disables is off but under a J2
command (R323); a commutator gives its phases' codes (R364, R365). A leg of no group, or of one in OFF, is off (R226), one of an ARMING group
too but for its precharge. -/
def legSafeCode (s : State) (l : Nat) : Nat :=
  match s.legSlot l with
  | some (g, k) =>
    if s.convOff g && !(s.gstate g == 3 && s.fld (R.PG_STAT_SAFE_KIND g) != 4) then s.convCode l
    else if (s.actOf g).isSome && (s.gstate g == 2 || (s.gstate g == 3 && s.fld (R.PG_STAT_SAFE_KIND g) == 4)) then
      (s.actOf g).elim 3 fun n => (s.actRec n).codes / 4 ^ k % 4
    else if s.slotDisabled g k then (match s.droppedBy g k with
      | some n => s.dropCode g n
      | none => 3)
    else match s.gstate g with
      | 0 => 0
      | 1 => b2n (s.precharged l g k)
      | 2 => 3
      | _ => kindCode (s.fld (R.PG_STAT_SAFE_KIND g))
  | none => 0

/-- The links that serve a group's legs, each once. -/
def linksOf (s : State) (g : Nat) : List Nat := (List.range 15).filter fun k => (s.legsOf g).any fun l => legLink l == k

/-- Send dies a SAFE frame with the present codes of their legs (R223, R233), whose changes are edges of their groups (R197); the dies that
serve a group. -/
def sendSafeTo (s : State) (ks : List Nat) : State :=
  let moved (k g : Nat) : Bool := (linkLegs k).any fun l => (s.legsOf g).contains l && (s.leg l).code != s.legSafeCode l
  s.each ks fun s k =>
    let s := s.each ((List.range 12).filter (moved k)) fun s g => s.updGrp g fun r => { r with lastEdges := ((s.now + 1) :: r.lastEdges).take 2 }
    s.send k (.safe (32 * (s.now + 1)) ((linkLegs k).foldl (fun m l => m + s.legSafeCode l * 4 ^ legIdx l) 0))
def sendSafe (s : State) (g : Nat) : State := s.sendSafeTo (s.linksOf g)

/-- A safe-state command at a group (R223, R230): SAFE with its kind, the flags, the count and event 0x0102, and SAFE frames to
its dies. -/
def commandGroup (s : State) (g kind : Nat) : State :=
  let s := if s.gstate g = 3 then s else s.evt .pg g E.PG_SAFE_ENTRY
  let s := (s.setFld (R.PG_STAT_STATE g) 3).setFld (R.PG_STAT_SAFE_KIND g) kind
  let s := s.updGrp g fun r => { r with disarmPend := false, precharging := false, charged := false, held := if kind = 4 then r.held else 0,
                                         holdAt := if kind = 4 then some s.now else none }
  let s := s.sendSafe g
  ((s.inc R.SAF_CNT_CMDS).evt .saf 0 E.SAF_CMD).post 0x0102 locSaf (g + kind * 16)

/-- SAF_SAFE as the groups and lines stand (R418). -/
def updSafeReg (s : State) : State :=
  let m (p : Nat → Bool) : Nat := (List.range 12).foldl (fun m g => if p g then m + 2 ^ g else m) 0
  (s.setFld R.SAF_SAFE_SAFE (m fun g => s.gstate g == 3)).setFld R.SAF_SAFE_BLOCKED (m s.blocked)

/-- Choose a group's command again and send it where it is new (R393, R264). Only ARMING, ARMED and SAFE groups react. -/
def evalGroup (s : State) (g : Nat) : State :=
  if s.gactive g then
    let c := s.chooseCommand g
    if c ≠ 0 ∧ (s.gstate g ≠ 3 ∨ s.fld (R.PG_STAT_SAFE_KIND g) ≠ c) then s.commandGroup g c else s
  else s

/-! ### Safety outputs -/

/-- A command word of a context as a block reads it (R324): the active J1 word, 0 while the context is IDLE or FAULT. -/
def cmdWord (s : State) (ctx k : Nat) : Word :=
  let st := s.fld (R.LPX_STATE_STATE ctx)
  if st = 0 ∨ st = 4 then 0 else s.rd (R.LPX_ACT ctx k)

def so (s : State) (m : Nat) : SoRec := s.safe.so.read (fun _ => {}) m
def updSo (s : State) (m : Nat) (f : SoRec → SoRec) : State :=
  { s with safe := { s.safe with so := s.safe.so.write (fun _ => {}) m (f (s.so m)) } }

/-- A PENDING line holds the output open (R390, R405). -/
def soHeld (s : State) (m : Nat) : Bool := s.pendingLines.any fun k => bitAt (s.fld (R.SAF_RXN_SO k)) m

/-- Whether the output may be on (R405). -/
def soWant (s : State) (m : Nat) : Bool :=
  s.on (R.SIO_SO_CFG_EN m) && s.on (R.SIO_SO_STAT_REQ m) && !s.soHeld m && !s.on (R.SIO_SO_STAT_FAULT m)
    && !s.detachingX1

/-- Bring an output to what R405 asks: to switch off both switches open together, to switch on the low side closes first. A switch that a
test has opened on an output that is on stays so. -/
def soUpdate (s : State) (m : Nat) : State :=
  let r := s.so m
  if s.soWant m then (if r.ls || r.on then s else s.updSo m fun r => { r with ls := true, hs := false, testing := 0 })
  else if r.ls || r.hs || r.on then
    (s.updSo m fun r => { r with ls := false, hs := false, on := false, testing := 0 }).setFld (R.SIO_SO_STAT_ON m) 0
  else s

/-- One evaluation of the groups the test selects, and of SAF_SAFE and the safety outputs (R393, R395, R405). -/
def evalJ2 (s : State) (p : Nat → Bool) : State :=
  ((s.each ((List.range 12).filter p) evalGroup).updSafeReg).each (List.range 4) soUpdate

/-- A line becomes PENDING with the groups of its source, and SAF_LAST names it (R389, R391). -/
def pend (s : State) (k own : Nat) : State :=
  let s := s.setFld (pendFld k) 1
  let s := s.updSafe fun x => { x with own := x.own.write (fun _ => 0) k (s.ownGroups k ||| own) }
  ((s.setFld R.SAF_LAST_LINE k).setFld R.SAF_LAST_REACT (s.fld (R.SAF_RXN_REACT k))).setFld R.SAF_LAST_GROUPS (s.affectedBy k)

/-- All twelve groups. -/
def allGroups : Nat := 0xFFF

/-- Lines whose every raise is a trip, UVLO or chopper fault of R264: evaluated again though they are PENDING. -/
def tripLine (k : Nat) : Bool := 9 ≤ k && k ≤ 13

/-- HOLD_MAX counts 10 ms (R418): clocks of its unit. -/
def holdUnit : Nat := 4000000

/-- The line that a FAULT_STAT bit is routed to (R391); none for one that is handled locally. -/
def faultLine (k : PageKind) (bit : Nat) : Option Nat :=
  match k with
  | .cad => some bit
  | .lpx => some 2
  | .lpe => some 3
  | .sys => some 4
  | .fad => some 5
  | .hka => some 6
  | .pg => some (if bit = 0 then 7 else 8)
  | .ghd => some (if bit < 4 then 9 else if bit < 12 then 10 else 11)
  | .gld => some 12
  | .saf => some 13
  | .pos => some 14
  | .trc => if 1 ≤ bit ∧ bit ≤ 3 then some (14 + bit) else none
  | .chg => if bit = 3 then some 18 else none
  | .act => if bit = 1 ∨ bit = 2 then some (18 + bit) else none
  | .drl => some 21
  | .pwr => if bit < 4 then some (22 + bit) else none
  | .tnd => some (26 + bit)
  | .sio => some (40 + bit)
  | .ept => some (52 + bit)
  | .wma => some (96 + bit)
  | _ => none

/-- The FAULT_STAT bits of a page that a write of 1 leaves set, for their line is PENDING (R119, R389). -/
def faultsHeld (s : State) (k : PageKind) : Word :=
  BitVec.ofNat 32 ((List.range 32).foldl (fun m b => if (faultLine k b).any s.isPending then m + 2 ^ b else m) 0)

/-- SPEED is added for the groups whose Hold has lasted HOLD_MAX by now (R394), so that a line raised on that clock meets it in one
evaluation (R395). -/
def holdDue (s : State) : State :=
  let due (g : Nat) : Bool := s.gstate g == 3 && s.fld (R.PG_STAT_SAFE_KIND g) == 4
    && ((s.grp g).holdAt.any fun t => t + s.fld R.SAF_HOLD_HOLD_MAX * holdUnit ≤ s.now)
  s.updSafe fun x => { x with speedAdded := (List.range 12).foldl (fun m g => if due g then bitSet m g else m) x.speedAdded }

/-- Raise several lines on one clock, each with the groups of its source: one evaluation with all of them, at the groups whose set of
PENDING lines changed and those a trip affects (R389, R393, R395, R264). -/
def raiseAll (s : State) (l : List (Nat × Nat)) : State :=
  if l.isEmpty then s
  else
    let t := l.foldl (fun s p => s.pend p.1 p.2) (s.holdDue.updSafe fun x => { x with raised := true })
    t.evalJ2 fun g => l.any fun p => t.affects p.1 g && (tripLine p.1 || !(s.isPending p.1 && s.affects p.1 g))

/-- Raise a fault line. -/
def raise (s : State) (k own : Nat) : State := s.raiseAll [(k, own)]

/-- Whether the cause of a line is present as a lasting condition (R389, R391); a cause that is a single happening never is. -/
def causePresent (s : State) (k : Nat) : Bool :=
  if k = 0 then s.cad.tickMismatch
  else if k = 3 then (List.range 4).any fun l => s.on (R.LPE_LANE_CMP_FAULTED l)
  else if k = 5 then s.sens.refBad
  else if k = 6 then s.sens.hkLate
  else if k = 8 then (List.range 15).any fun l => s.fld (R.NL_STAT_STATE l) == 3 || s.fld (R.NL_STAT_STATE l) == 4
  else if k = 10 then (List.range 48).any s.chanUvlo
  else if k = 12 then s.pwm.dieSeen != 0
  else if k = 14 then (List.range 4).any fun p => s.on (R.POS_STAT_SENSOR_FAULT p)
  else if 32 ≤ k ∧ k < 40 then s.on (R.SIO_SI_CFG_MODE (k - 32)) && !s.on (R.SIO_SI_STAT_RUN (k - 32))
  else if 40 ≤ k ∧ k < 48 then s.on (R.SIO_SI_STAT_FAULT (k - 40))
  else if 48 ≤ k ∧ k < 52 then s.on (R.SIO_SO_STAT_FAULT (k - 48))
  else if k = 18 then s.on R.CHG_CFG_DRIVE_INTLK && s.on R.CHG_STAT_RATING && (s.armed 0 || s.armed 1)
  else if k = 20 then (List.range 3).any fun n => s.on (R.ACT_STAT_ENGAGED n)
    && f32AbsGe (s.rd (R.POS_RPM (s.fld (R.ACT_PARK_SPD_PARK_POS n)))) (s.fld (R.ACT_PARK_SPD_SLIP_SPD n)) 1
    && f32Mag (s.rd (R.POS_RPM (s.fld (R.ACT_PARK_SPD_PARK_POS n)))) != s.fld (R.ACT_PARK_SPD_SLIP_SPD n) * f32One
  else if k = 22 then s.on R.PWR_STAT_ON_HOLDUP
  else if k = 23 then s.pwr.x1Lost
  else if k = 24 then s.pwr.x2Lost
  else if k = 25 then s.pwr.overload
  else if k = 26 ∨ k = 27 then s.on (R.TND_STAT_CAUSE (k - 26))
  else if k = 15 then (List.range 2).any fun i => s.fld (R.TRC_STAT_STATE i) == 2
  else if 52 ≤ k ∧ k < 68 then s.on (R.EPT_STAT_CAUSE (k - 52))
  else if 68 ≤ k ∧ k < 84 then s.on (R.EPT_STAT_DEMAND (k - 68))
  else if 96 ≤ k then s.on (R.WMA_CFG_EN (k - 96)) && s.on (R.WMA_CFG_J2_EN (k - 96))
    && (s.on (R.WMA_STAT_LATCH_HI (k - 96)) || s.on (R.WMA_STAT_LATCH_LO (k - 96)))
  else false

/-- Lines 32–83 whose cause has become present are raised (R403, R404, R407, R415, R416); their source has no groups. -/
def syncLines (s : State) : State :=
  s.raiseAll (((List.range 84).filter fun k => 32 ≤ k && s.causePresent k && !s.isPending k).map fun k => (k, 0))

/-- Clear a line's PENDING bit unless its cause is present (R389). -/
def unpend (s : State) (k : Nat) : State :=
  if s.causePresent k then s
  else
    let s := s.setFld (pendFld k) 0
    s.updSafe fun x => { x with own := x.own.write (fun _ => 0) k 0 }

/-- A group becomes OFF: every channel off, SAFE_KIND 0 (R228, R229, R396). -/
def groupOff (s : State) (g : Nat) : State :=
  let s := (s.setFld (R.PG_STAT_STATE g) 0).setFld (R.PG_STAT_SAFE_KIND g) 0
  let s := s.updGrp g fun r => { r with disarmPend := false, precharging := false, charged := false, held := 0, holdAt := none }
  let s := s.updSafe fun x => { x with speedAdded := bitClr x.speedAdded g }
  (s.setFld (R.PG_LVL_LEVEL g) 0).setFld (R.PG_LVL_SUPP g) 0 |>.legsOff g

end State

end Sys2Proof.Machine
end

