-- ==== Sys2Proof/Machine/Engine.lean ====
section
/-!
DEFINITION. The Volmir loop engine around its instructions (chapter 4): contexts and their states, the operand map, output ports,
dispatch, completion, abort and lane fault.
-/
namespace Sys2Proof.Machine

namespace State

def lane (s : State) (n : Nat) : Lane := s.eng.lane.read (fun _ => {}) n
def updLane (s : State) (n : Nat) (f : Lane → Lane) : State :=
  { s with eng := { s.eng with lane := s.eng.lane.write (fun _ => {}) n (f (s.lane n)) } }
def ctx (s : State) (c : Nat) : Ctx := s.eng.ctx.read (fun _ => {}) c
def updCtx (s : State) (c : Nat) (f : Ctx → Ctx) : State :=
  { s with eng := { s.eng with ctx := s.eng.ctx.write (fun _ => {}) c (f (s.ctx c)) } }

/-! ### Contexts -/

/-- Live state of a context: 0 IDLE, 1 OPEN, 2 CLOSED, 3 HELD, 4 FAULT (R133). -/
def cstate (s : State) (c : Nat) : Nat := s.fld (R.LPX_STATE_STATE c)
/-- Whether a context is IDLE or FAULT. -/
def resting (s : State) (c : Nat) : Bool := s.cstate c == 0 || s.cstate c == 4
/-- Live lane of a context. -/
def clane (s : State) (c : Nat) : Nat := s.liveFld (R.LPX_CFG_LANE c)
/-- The contexts whose live lane is `l`. -/
def laneCtxs (s : State) (l : Nat) : List Nat := (List.range 160).filter fun c => s.clane c == l
/-- Location of a context's events: its lane's block (chapter 4). -/
def locCtx (s : State) (c : Nat) : Nat := loc 0 0 0 (s.clane c) 0x3F
/-- The groups a context sources, as a mask and as a list (R391 line 1). -/
def sourcedBy (s : State) (c : Nat) : Nat :=
  (List.range 12).foldl (fun m g => if s.liveFld (R.PG_SRC_CTX g) = c then m + 2 ^ g else m) 0
def sourced (s : State) (c : Nat) : List Nat := (List.range 12).filter fun g => s.liveFld (R.PG_SRC_CTX g) == c
/-- The context is the source of a group that is ARMING, ARMED or SAFE (R134). -/
def sourcesActive (s : State) (c : Nat) : Bool := (s.sourced c).any s.gactive

/-- A W1C flag of LPX_STAT is set by hardware; where it becomes set, so is UNIT_EVT (R168). -/
def ctxFlag (s : State) (c : Nat) (f : Nat → Fld) : State :=
  if s.on (f c) then s else (s.setFld (f c) 1).evt .lpx (c / 16) (E.LPX_UNIT_EVT + c % 16)

/-- A change of state with its event 0x0010 (R134). -/
def ctxMove (s : State) (c new : Nat) : State :=
  let old := s.cstate c
  let s := s.setFld (R.LPX_STATE_STATE c) new
  let s := s.setFld (R.LPX_STATE_REQ_PEND c) (b2n (s.fld (R.LPX_STATE_REQ c) != new))
  s.post 0x0010 (s.locCtx c) (c + new * 2 ^ 8 + old * 2 ^ 12)

/-- Entry to FAULT with its cause; a pending request is cleared (R134, R136, R169). -/
def ctxFault (s : State) (c cause : Nat) : State :=
  ((s.setFld (R.LPX_STATE_FAULT_CAUSE c) cause).setFld (R.LPX_STATE_REQ c) 4).ctxMove c 4

/-- FAULT that acts at once, with UNIT_FAULT (R134, R136, R168); none from IDLE or FAULT. -/
def ctxFaultNow (s : State) (c cause : Nat) : State :=
  if s.resting c then s else (s.ctxFault c cause).flt .lpx (c / 16) (F.LPX_UNIT_FAULT + c % 16)

/-! ### Lanes -/

/-- Whether a lane is in lane fault. -/
def laneFaulted (s : State) (l : Nat) : Bool := s.on (R.LPE_LANE_CMP_FAULTED l)

/-- LPE_LANEn_STAT as the lane stands (R167). -/
def showLane (s : State) (l : Nat) : State :=
  let L := s.lane l
  let r := match L.run with
    | some r => some r
    | none => L.tail.getLast?
  let mode := if s.laneFaulted l then 3 else match r with
    | some r => if r.crit then 2 else 1
    | none => 0
  ((s.setFld (R.LPE_LANE_STAT_MODE l) mode).setFld (R.LPE_LANE_STAT_SUSPENDED l) (b2n L.susp.isSome)).setFld
    (R.LPE_LANE_STAT_CTX l) (match r with
      | some r => r.ctx
      | none => 0xFF)

/-- A suspended run resumes when the lane has no run (R22). -/
def resume (s : State) (l : Nat) : State :=
  s.updLane l fun L => if L.run.isNone && !(L.tail.any fun r => r.crit) then { L with run := L.susp, susp := none } else L

/-- The end of a run, completed or aborted: INVALID may trip the context at the next boundary (R143), CARRY clears (R141). -/
def runEnded (s : State) (r : Run) : State :=
  let s := s.updCtx r.ctx fun x => { x with numPend := x.numPend || r.invalid }
  if r.crit then s.setFld (R.LPX_STATE_CARRY r.ctx) 0 else s

/-- A late run: the flags, counts and event 0x1010, and the count of consecutive aborted runs (R37, R38, R40). -/
def late (s : State) (c : Nat) : State :=
  let s := ((s.ctxFlag c R.LPX_STAT_LATE).inc (R.LPX_CNT_LATE_CNT c)).inc R.CAD_LATE_TOTAL_COUNT
  let s := ((s.evt .cad 0 E.CAD_LATE).post 0x1010 (s.locCtx c) c).inc (R.LPX_CNT_DROP_RUN c)
  if s.fld (R.LPX_CTL_DROP_MAX c) ≤ s.fld (R.LPX_CNT_DROP_RUN c) then s.updCtx c fun x => { x with dropPend := true } else s

/-- A run leaves the lane aborted: port writes not completed are lost, X words are not committed, its scratch is cleared at the
next boundary, and a critical context is barred (R25, R37, R39, R163). -/
def abortRun (s : State) (l : Nat) (r : Run) : State :=
  let s := s.updLane l fun L =>
    { L with run := if L.run = some r then none else L.run, susp := if L.susp = some r then none else L.susp,
             tail := L.tail.filter (· ≠ r) }
  (s.runEnded r).updCtx r.ctx fun x => { x with aborted := true, barred := x.barred || r.crit }

/-- A critical or tick run aborted at its deadline (R37). -/
def abortLate (s : State) (l : Nat) (r : Run) : State := ((s.abortRun l r).late r.ctx).opTo .lpx (r.ctx / 16)

/-- Every run of a lane. -/
def laneRuns (s : State) (l : Nat) : List Run := (s.lane l).tail ++ (s.lane l).susp.toList ++ (s.lane l).run.toList

/-! ### Errors in engine memory (R132) -/

/-- The number of a context word. -/
def wordKey (c o : Nat) : Nat := 2 ^ 32 + 64 * c + o
/-- The block that a word of engine memory lies in (chapter 4), and its bus address; a context word has that of its LPX_CW_DATA. -/
def wordBlock (k : Nat) : Nat := if 2 ^ 32 ≤ k then 6 else if k < tabBase then 4 else 5
def wordAddr (k : Nat) : Nat := if 2 ^ 32 ≤ k then R.LPX_CW_DATA ((k - 2 ^ 32) / 64) else k

/-- The words a test selects lose their errors: they are written, or corrected. -/
def clearErr (s : State) (p : Nat → Bool) : State := s.updEng fun x => { x with bad := Store.removeIf p x.bad }
/-- A single-bit error is corrected and counted. -/
def engineMend (s : State) (k : Nat) : State :=
  (((s.clearErr (· == k)).inc R.LPE_ECC_CNT_CE_COUNT).evt .lpe 0 E.LPE_ECC_CE).post 0x1014 (locBlk 0 (wordBlock k)) (wordAddr k)
/-- A read of the words that a test selects corrects their single-bit errors. -/
def engineReads (s : State) (p : Nat → Bool) : State :=
  ((s.eng.bad.filter fun e => e.2 == 1 && p e.1).map Prod.fst).foldl engineMend s
/-- A run reads a word with a double-bit error: it aborts, not late, and its context is in FAULT. -/
def engineUe (s : State) (l : Nat) (r : Run) (k : Nat) : State :=
  let s := ((s.abortRun l r).ctxFaultNow r.ctx 6).setFld R.LPE_ECC_ADDR_ADDR (wordAddr k)
  let s := (s.flt .lpe 0 F.LPE_MEM_UE).post 0x3031 (locBlk 0 (wordBlock k)) (wordAddr k)
  ((s.raise 3 allGroups).resume l).showLane l
/-- A run reads the words that a test selects, and goes on where none has a double-bit error. -/
def runReads (s : State) (l : Nat) (r : Run) (p : Nat → Bool) (go : State → State) : State :=
  match s.eng.bad.find? fun e => e.2 == 2 && p e.1 with
  | some e => s.engineUe l r e.1
  | none => go (s.engineReads p)

/-- Lane fault (R130). -/
def laneFault (s : State) (l : Nat) : State :=
  if s.laneFaulted l then s
  else
    let s := (s.laneRuns l).foldl (fun s r => s.abortRun l r) s
    let s := (s.updLane l fun L => { L with due := [] }).setFld (R.LPE_LANE_CMP_FAULTED l) 1
    let cs := (s.laneCtxs l).filter fun c => !(s.cstate c == 0)
    let own := (s.laneCtxs l).foldl (fun m c => m ||| s.sourcedBy c) 0
    let s := s.each cs fun s c => s.ctxFaultNow c 5
    (((s.flt .lpe 0 (F.LPE_LANE_FAULT + l)).post 0x3030 (loc 0 0 0 l 0x02) l).raise 3 own).showLane l

/-! ### Operands -/

/-- An exchange source in effect: the word XW`k` of a context reads (R152). -/
def exchange (s : State) (c k : Nat) : Word :=
  let w := (s.ctx c).xsel.read (fun _ => 0) (k / 2)
  let lo := 16 * (k % 2)
  (s.ctx (getBits w lo 8)).xo.read (fun _ => 0) (getBits w (lo + 8) 2)

/-- LIM`k`: the lower of the configured limit and the J4 word in force, the configured one while the J4 word has its reset value (R51,
R149). Where neither is the lower, one being a NaN pattern or both zeros of unlike sign, the manual leaves the word open: it is free. -/
def limit (s : State) (c k : Nat) : Word :=
  let j := (s.ctx c).j4.read (fun _ => 0x7F7FFFFF) k
  let w := (s.ctx c).words.read (fun _ => 0) (0x18 + k)
  if j = 0x7F7FFFFF ∨ j = w then w
  else if (Ev.of j).lt (Ev.of w) then j
  else if (Ev.of w).lt (Ev.of j) then w
  else Config.freeWord (s.free + k)

/-- PGSTAT of a group (R231). -/
def pgstat (s : State) (g : Nat) : Word :=
  let half := (s.grp g).prd / 2 ≤ (s.grp g).phase
  BitVec.ofNat 32 (s.fld (R.PG_STAT_STATE g) + s.fld (R.PG_STAT_SAFE_KIND g) * 2 ^ 2 + b2n half * 2 ^ 5
    + s.fld (R.PG_STAT_PT g) * 2 ^ 6 + s.fld (R.PG_STAT_PCOUNT g) % 256 * 2 ^ 8)

/-- The interval since the previous run's start, or the nominal one for the first run after entry to OPEN (R154). -/
def interval (s : State) (c : Nat) (crit : Bool) : Nat :=
  if (s.ctx c).first then
    (if crit then (s.ctx c).minT else s.liveFld (R.LPX_RATE_DIV c) * s.fld R.CAD_PERIOD_ACT_PERIOD)
  else s.now - (s.ctx c).prevStart

/-- An interval in clocks as TSTEP: seconds, rounded once (R154). -/
def tstep (n : Nat) : Word := (f32Round false (n * 25) (10 ^ 10)).bits

/-- An input port as a run finds it at its start (R149). -/
def inputPort (s : State) (c : Nat) (crit : Bool) (o : Nat) : Word :=
  if o < 0x48 then s.rd (R.LPX_ACT c (o - 0x40))
  else if o < 0x50 then s.limit c (o - 0x48)
  else if o < 0x70 then (s.sens.ch.read (fun _ => {}) (o - 0x50)).port
  else if o < 0x74 then s.rd (R.POS_ANG (o - 0x70))
  else if o < 0x78 then s.rd (R.POS_SPD (o - 0x74))
  else if o < 0x7C then s.exchange c (o - 0x78)
  else if o = 0x7E then tstep (s.interval c crit)
  else 0

/-- A run starts: the first clock of its dispatch, when it takes its snapshot, for which it reads the context's limits (R22, R149, R154,
R162). -/
def startRun (s : State) (l c : Nat) (crit : Bool) : State :=
  let n := s.interval c crit
  let snap := (List.range 63).foldl (fun m i => Store.write (fun _ => 0) m (0x40 + i) (s.inputPort c crit (0x40 + i))) []
  let r : Run := { ctx := c, crit := crit, base := s.liveFld (R.LPX_PROG_START c), len := s.liveFld (R.LPX_PROG_LEN c),
                   start := s.now, state := s.cstate c, snap := snap, consts := s.eng.const }
  let s := { s with free := s.free + 8 }
  let s := if n < 2 ^ 24 then s.setFld (R.LPX_TSTEP_CLOCKS c) n else (s.setFld (R.LPX_TSTEP_CLOCKS c) s.freeVal.toNat).tookFree
  let s := s.updCtx c fun x => { x with prevStart := s.now, first := false }
  ((s.updLane l fun L => { L with run := some r }).showLane l).runReads l r
    (fun k => wordKey c 0x18 ≤ k && k < wordKey c 0x20) id

/-! ### Output ports -/

/-- The compare value of a duty for a carrier mode and period (R216): rounded to the nearest unit, ties to even. -/
def compareOf (mode prd : Nat) (d : Word) : Nat :=
  let m := if f32IsNan d || f32Neg d then 0 else min (f32Mag d) f32One
  let half := prd / 2
  match mode with
  | 0 => rne ((f32One - m) * half) f32One
  | 2 => rne ((f32One - m) * prd) f32One
  | 1 => rne (m * prd) f32One
  | _ => let x := rne (m * prd) f32One; if x = prd then 0 else x

/-- A duty reaches port DUTY`k` of a context: it becomes the live compare of the slot of the group the context sources; an empty
slot discards it, and so do a slot that TRC, CHG or AUX has disabled and a group in Hold (R211, R216, R219, R223, R226, R309, R323). A
commutator takes DUTY0 as its amplitude and discards the others (R361). -/
def dutyWrite (s : State) (g k : Nat) (d : Word) : State :=
  if !s.slotUsed g k || s.slotDisabled g k || (s.gstate g == 3 && s.fld (R.PG_STAT_SAFE_KIND g) == 4) then s
  else if (s.actOf g).isSome then
    (if k = 0 then (s.actOf g).elim s fun n => s.updAct n fun r => { r with amp := d } else s)
  else s.setFld (R.PG_CMP_CMP g k) (compareOf (s.liveFld (R.PG_CAR_CMODE g)) (s.grp g).prd d)

/-- A context's TRIP is written (R151): line 2, and FAULT at the next boundary. -/
def tripCtx (s : State) (c : Nat) : State :=
  ((s.updCtx c fun x => { x with tripPend := true }).post 0x3014 (s.locCtx c) c).raise 2 (s.sourcedBy c)

/-- One output-port write of a run takes effect (R133, R150, R151, R152); XO2 and XO3 of a commutator's
source context are the commutator's (R362). As a source, a port gives the word last written to it, also one that had no effect outside
(DESIGN CHOICE, log entry 65). -/
def applyPort (s : State) (r : Run) (o : Nat) (v : Word) : State :=
  let c := r.ctx
  let s := s.updCtx c fun x => { x with port := x.port.write (fun _ => 0) o v }
  if 0xB0 ≤ o then s.wr (R.LPX_OBS c (o - 0xB0)) v
  else if r.state ≠ 2 then s
  else if o < 0x90 then
    match s.sourced c with
    | [] => (s.ctxFlag c R.LPX_STAT_DUTY_DISC).post 0x1015 (s.locCtx c) c
    | gs => s.each gs fun s g => s.dutyWrite g (o - 0x80) v
  else if 0x92 ≤ o ∧ o < 0x94 ∧ (s.sourced c).any fun g => (s.actOf g).isSome then s
  else if o < 0x94 then s.updCtx c fun x => { x with xo := x.xo.write (fun _ => 0) (o - 0x90) v }
  else if o = 0x94 then s.updCtx c fun x => { x with fe := v }
  else if v.toNat % 2 ^ 31 = 0 then s
  else
    s.tripCtx c

/-- The writes of one instruction take effect on one clock (R150, R158). -/
def applyPorts (s : State) (r : Run) (w : List (Nat × Word)) : State := w.foldl (fun s p => s.applyPort r p.1 p.2) s

/-- The run with its oldest pending port writes taken off, its last duty noted. -/
def drained (s : State) (r : Run) (w : List (Nat × Word)) : Run :=
  { r with drain := r.drain.drop 1, lastDuty := if w.any fun p => p.1 < 0x90 then s.now else r.lastDuty }

/-- The oldest pending output-port writes of a lane complete: of a draining run first, then a suspended one, then the present. -/
def drainOne (s : State) (l : Nat) : State :=
  match (s.laneRuns l).find? fun r => !r.drain.isEmpty with
  | none => s
  | some r =>
    let w := r.drain.headD []
    let sub (q : Run) : Run := if q = r then s.drained r w else q
    (s.updLane l fun L => { L with run := L.run.map sub, susp := L.susp.map sub, tail := L.tail.map sub }).applyPorts r w

/-! ### Completion -/

/-- A run completes (R163): what its last instructions wrote to ports takes effect, X words are committed if it ran OPEN or CLOSED,
the consecutive-drop count clears, a critical run's latency is measured (log entry 66), and a suspended run resumes. -/
def completeRun (s : State) (l : Nat) (r : Run) : State :=
  let s := r.drain.foldl (fun s w => s.applyPorts r w) s
  let last := if r.drain.any fun w => w.any fun p => p.1 < 0x90 then s.now else r.lastDuty
  let s := if r.state = 1 ∨ r.state = 2 then
      (s.updCtx r.ctx fun x => { x with words := r.xs.foldl (fun m p => m.write (fun _ => 0) p.1 p.2) x.words }).clearErr
        fun k => r.xs.any fun p => k == wordKey r.ctx p.1
    else s
  let s := (s.setFld (R.LPX_CNT_DROP_RUN r.ctx) 0).updCtx r.ctx fun x => { x with dropPend := false, ran := true }
  let s := s.updLane l fun L =>
    { L with run := if L.run = some r then none else L.run, tail := L.tail.filter (· ≠ r) }
  let s := s.runEnded r
  let s := if r.crit && last != 0 then
      s.setFld (R.LPE_LANE_MEAS_CRIT_MAX l) (max (s.fld (R.LPE_LANE_MEAS_CRIT_MAX l)) (min (last - r.start) 0x1FF))
    else s
  (s.resume l).showLane l

/-! ### Dispatch -/

/-- A run that has issued its last instruction moves aside to drain (R162). -/
def moveAside (s : State) (l : Nat) : State :=
  s.updLane l fun L => match L.run with
    | some r => if r.len ≤ r.idx then { L with run := none, tail := L.tail ++ [r] } else L
    | none => L

/-- The lane's scheduler begins the dispatch of its first due tick context (R19, R162). -/
def dispatchTick (s : State) (l : Nat) : State :=
  if s.laneFaulted l || s.shed || s.fld R.CAD_POS_CLK_IN_TICK < 12 then s
  else
    let s := s.moveAside l
    let L := s.lane l
    if L.run.isSome || L.susp.isSome then s
    else match L.due.dropWhile s.resting with
      | [] => s.updLane l fun L => { L with due := [] }
      | c :: rest => (s.updLane l fun L => { L with due := rest }).startRun l c false

/-- The critical run of a context that a lane still carries, with its lane: also one that the context's state or lane has left behind. -/
def critRunOf (s : State) (c : Nat) : Option (Nat × Run) :=
  (List.range 4).findSome? fun l => ((s.laneRuns l).find? fun r => r.crit && r.ctx == c).map fun r => (l, r)

/-- A critical trigger reaches a context (R22, R23, R37, R39, R162): it aborts a run of the context that has not completed; it is ignored
while the context is barred, or its lane still carries another context's critical run; else it suspends a tick run and the critical
run starts. -/
def critTrigger (s : State) (c : Nat) : State :=
  match s.critRunOf c with
  | some (l, r) => ((s.abortLate l r).resume l).showLane l
  | none =>
    let l := s.clane c
    if s.resting c || s.laneFaulted l || s.shed || (s.ctx c).barred || (s.laneRuns l).any (·.crit) then s
    else
      let s := s.moveAside l
      let s := s.updLane l fun L => { L with susp := if L.run.isSome then L.run else L.susp, run := none }
      s.startRun l c true

/-- A group's trigger reaches the critical contexts that name it as their trigger group (R21). -/
def trigger (s : State) (g : Nat) : State :=
  s.each ((List.range 160).filter fun c => s.liveFld (R.LPX_CFG_TRIG c) == 1 && s.liveFld (R.LPX_CFG_TGRP c) == g) critTrigger

end State

end Sys2Proof.Machine
end

