-- ==== Sys2Proof/Machine/Operands.lean ====
section
/-!
DEFINITION. Engine instructions as words (R145): their fields, the shape of each opcode, the legal operand ranges (R147), the checks
that make an instruction undefined (R153) or that validation reports (R165), and how a run reads its operands.
-/
namespace Sys2Proof.Machine

/-- The fields of an instruction (R145). -/
structure Ins where
  op : Nat
  pred : Nat
  dst : Nat
  a : Nat
  b : Nat
  c : Nat
  imm : Nat
  deriving DecidableEq, Repr

/-- The fields of a program-memory word. -/
def insOf (w : ProgWord) : Ins :=
  let n := w.toNat
  { op := n / 2 ^ 58, pred := n / 2 ^ 56 % 4, dst := n / 2 ^ 48 % 256, a := n / 2 ^ 40 % 256, b := n / 2 ^ 32 % 256,
    c := n / 2 ^ 24 % 256, imm := n % 2 ^ 24 }

/-- What an opcode takes: occupancy, words written, words read at a, b and c, and whether IMM is a parameter. -/
structure Shape where
  occ : Nat
  dst : Nat
  a : Nat := 0
  b : Nat := 0
  c : Nat := 0
  param : Bool := false
  deriving DecidableEq, Repr

/-- The shape of each defined opcode (R153). The words LUT1 and LUT2 write depend on their header. PIC's b and c are checked apart. -/
def shape : Nat → Option Shape
  | 0x00 => some { occ := 1, dst := 0 }
  | 0x01 | 0x07 | 0x08 | 0x0E | 0x16 | 0x17 => some { occ := 1, dst := 1, a := 1 }
  | 0x02 | 0x03 | 0x04 | 0x09 | 0x0A | 0x1E | 0x20 | 0x21 | 0x22 => some { occ := 1, dst := 1, a := 1, b := 1 }
  | 0x05 | 0x06 | 0x0B => some { occ := 1, dst := 1, a := 1, b := 1, c := 1 }
  | 0x0C => some { occ := 2, dst := 1, a := 1, b := 1, c := 1 }
  | 0x0D => some { occ := 2, dst := 1, a := 1, b := 1 }
  | 0x0F | 0x10 => some { occ := 4, dst := 1, a := 1 }
  | 0x11 => some { occ := 6, dst := 1, a := 1, b := 1 }
  | 0x12 => some { occ := 6, dst := 1, a := 1 }
  | 0x13 => some { occ := 5, dst := 1, a := 1, b := 1 }
  | 0x14 => some { occ := 8, dst := 1, a := 1, b := 1 }
  | 0x15 => some { occ := 3, dst := 2, a := 1 }
  | 0x18 | 0x19 | 0x1A | 0x1B | 0x1C | 0x1D => some { occ := 1, dst := 0, a := 1, b := 1 }
  | 0x1F => some { occ := 1, dst := 0, a := 1, param := true }
  | 0x23 => some { occ := 1, dst := 1, a := 1, param := true }
  | 0x30 => some { occ := 2, dst := 3, a := 3 }
  | 0x31 => some { occ := 4, dst := 6, a := 6 }
  | 0x32 | 0x33 => some { occ := 4, dst := 2, a := 1, b := 1, c := 1 }
  | 0x34 | 0x35 => some { occ := 2, dst := 2, a := 1, b := 1, c := 2 }
  | 0x36 => some { occ := 3, dst := 1, a := 1, param := true }
  | 0x37 => some { occ := 4, dst := 3, a := 1, b := 1, c := 1, param := true }
  | 0x38 => some { occ := 3, dst := 1, a := 1, param := true }
  | 0x39 => some { occ := 5, dst := 1, a := 1, b := 1, param := true }
  | _ => none

/-- Occupancy in the sums of R30 and R165: an undefined opcode counts 8. -/
def occOf (i : Ins) : Nat := match shape i.op with
  | some h => h.occ
  | none => 8

/-- The range of the operand map an operand lies in, if it is not reserved (R147, R149). -/
def opRange (o : Nat) : Option Nat :=
  if o < 0x20 then some 0
  else if o < 0x30 then some 1
  else if o < 0x40 then some 2
  else if o < 0x7C then some 3
  else if o < 0x7E then none
  else if o < 0x80 then some 3
  else if o < 0x86 then some 4
  else if o < 0x90 then none
  else if o < 0x96 then some 5
  else if o < 0xB0 then none
  else if o < 0xC0 then some 6
  else if o < 0xCE then some 7
  else if o < 0xE0 then none
  else if o < 0xFF then some 8
  else if o = 0xFF then some 9
  else none

/-- A span of `n` operands from `o` that lies within one range. -/
def spanOk (o n : Nat) : Bool := (List.range n).all fun i => (opRange (o + i)).isSome && opRange (o + i) == opRange o

/-- A range that is legal as destination: X, S and the output ports. -/
def dstRange (o : Nat) : Bool := [some 1, some 2, some 4, some 5, some 6].contains (opRange o)

/-- Whether an operand is a duty port. -/
def isDuty (o : Nat) : Bool := 0x80 ≤ o && o < 0x86

namespace State

/-- Word `k` of table memory as the engine reads it: the sine table once the boot ROM has written it (R132, R155). -/
def tabWord (s : State) (k : Nat) : Word :=
  if s.eng.sine && k ≤ 1024 then sineWord k else s.tab.read (fun _ => 0) k
/-- Instruction `k` of program memory. -/
def insAt (s : State) (k : Nat) : Ins := insOf (s.prog.read (fun _ => 0) (k % 4096))

/-- The header word of a table: NX, NY, OUTS (R159). -/
def tabDims (s : State) (h : Nat) : Nat × Nat × Nat :=
  let w := s.tabWord (h + 4)
  (getBits w 0 8, getBits w 8 8, getBits w 16 2)

/-- A header out of its limits (R159). -/
def tabBad (s : State) (i : Ins) : Bool :=
  let h := i.imm % 2 ^ 14
  let (nx, ny, o) := s.tabDims h
  2 ^ 14 ≤ i.imm || 16383 < h + 4 || nx < 2 || 128 < nx || ny < 1 || 128 < ny || o < 1 || 2 < o || (i.op == 0x38 && ny != 1)

/-- A table whose data run beyond word 16383 (R159, R165). -/
def tabLong (s : State) (i : Ins) : Bool :=
  let h := i.imm % 2 ^ 14
  let (nx, ny, o) := s.tabDims h
  16384 < h + 5 + nx * ny * o

/-- Words an instruction writes. -/
def insDst (s : State) (i : Ins) (h : Shape) : Nat :=
  if (i.op == 0x38 || i.op == 0x39) && !s.tabBad i then (s.tabDims (i.imm % 2 ^ 14)).2.2 else h.dst

/-- The first validator error of an instruction, in the order of the codes (R165): 1 OPCODE, 2 PRED, 3 DST, 4 SRC, 5 TABLE, 6 PIC;
0 where there is none. A table whose data run too far is no error here (R153). -/
def insErr (s : State) (i : Ins) : Nat :=
  match shape i.op with
  | none => 1
  | some h =>
    let src (o n : Nat) : Bool := spanOk o n && !(h.param && 0 < n && o == 0xFF)
    if i.op == 0x37 && i.imm % 4 == 3 then 1
    else if i.pred == 3 then 2
    else if 0 < h.dst && !(dstRange i.dst && spanOk i.dst (s.insDst i h)) then 3
    else if i.op == 0x37 && i.dst != 0x80 && i.dst != 0x83 then 3
    else if !(src i.a h.a && src i.b h.b && src i.c h.c) then 4
    else if (i.op == 0x38 || i.op == 0x39) && s.tabBad i then 5
    else if i.op == 0x36 && (0x1F < i.b + 3 || opRange i.c != some 1) then 6
    else 0

/-- The validator's finding: also a table whose data do not fit (R165). -/
def valErr (s : State) (i : Ins) : Nat :=
  let e := s.insErr i
  if e == 0 && (i.op == 0x38 || i.op == 0x39) && s.tabLong i then 5 else e

/-- Occupancy sum and duty prefix of `n` instructions from `base` (R30, R165). -/
def progOcc (s : State) (base n : Nat) : Nat × Nat :=
  (List.range n).foldl (fun (p : Nat × Nat) k =>
    let i := s.insAt (base + k)
    let o := p.1 + occOf i
    let wr := match shape i.op with
      | some h => 0 < h.dst && isDuty i.dst
      | none => false
    (o, if wr then o else p.2)) (0, 0)

/-- A source operand of a run's instruction (R140, R147–R150). -/
def operand (s : State) (r : Run) (i : Ins) (o : Nat) : Word :=
  let x := s.ctx r.ctx
  if o < 0x40 then
    (if 0x20 ≤ o ∧ o < 0x30 then Store.read (fun k => x.words.read (fun _ => 0) k) r.xs o else x.words.read (fun _ => 0) o)
  else if o = 0x7F then s.pgstat (s.liveFld (R.LPX_CFG_TGRP r.ctx))
  else if o < 0x80 then r.snap.read (fun _ => 0) o
  else if o < 0xC0 then r.outs.read (fun k => x.port.read (fun _ => 0) k) o
  else if o < 0xE0 then fixedConsts.getD (o - 0xC0) 0
  else if o < 0xFF then r.consts.read (fun _ => 0) (o - 0xE0)
  else BitVec.ofNat 32 (i.imm * 2 ^ 8)

/-- The value of a source operand (R142). -/
def opVal (s : State) (r : Run) (i : Ins) (o : Nat) : Ev := Ev.of (s.operand r i o)

end State

end Sys2Proof.Machine
end

