-- ==== Sys2Proof/Machine/EngineOps.lean ====
section
/-!
DEFINITION. The engine's instructions (R142–R159): what each computes from its source values, and how a lane issues it. Each
instruction command names a lane; it runs the lane's next instruction where that has the command's opcode.
-/
namespace Sys2Proof.Machine

/-- What an instruction does: the words it writes by operand, the flags it sets, the predicate it writes, how many free values it
takes, and whether it uses up its bumpless mark. -/
structure Eff where
  writes : List (Nat × Word) := []
  inv : Bool := false
  ovf : Bool := false
  dz : Bool := false
  pf : Option Bool := none
  taken : Nat := 0
  unmark : Bool := false
  deriving DecidableEq, Repr

/-- One result written at `d`. -/
def Eff.one (d : Nat) (r : Res) : Eff := { writes := [(d, r.bits)], inv := r.inv, ovf := r.ovf, dz := r.dz }
/-- Results written at `d`, `d + 1`, … -/
def Eff.many (d : Nat) (l : List Res) : Eff :=
  { writes := (List.range l.length).map fun k => (d + k, (l.getD k {}).bits), inv := l.any (·.inv), ovf := l.any (·.ovf),
    dz := l.any (·.dz) }

namespace State

/-- Words a run writes: X words held back, scratch words at once, output ports pending (R140, R147, R150). -/
def writeOps (s : State) (l : Nat) (r : Run) (w : List (Nat × Word)) : State :=
  let xs := w.filter fun p => 0x20 ≤ p.1 && p.1 < 0x30
  let scratch := w.filter fun p => 0x30 ≤ p.1 && p.1 < 0x40
  let outs := w.filter fun p => 0x80 ≤ p.1
  let put (m : Store Word) (l : List (Nat × Word)) : Store Word := l.foldl (fun m p => m.insert p.1 p.2) m
  let s := (s.updCtx r.ctx fun x => { x with words := scratch.foldl (fun m p => m.write (fun _ => 0) p.1 p.2) x.words }).clearErr
    fun k => scratch.any fun p => k == wordKey r.ctx p.1
  s.updLane l fun L => { L with run := some { r with
    xs := put r.xs xs, outs := put r.outs outs, drain := if outs.isEmpty then r.drain else r.drain ++ [outs] } }

/-- An undefined instruction is reached (R153, R136; log entry 69 on R134's table): the run aborts, not late; the context enters FAULT at once with cause INSTR, event
0x3013, and line 2 is raised. -/
def undefinedIns (s : State) (l : Nat) (r : Run) : State :=
  let s := (s.abortRun l r).ctxFaultNow r.ctx 4
  let s := s.post 0x3013 (s.locCtx r.ctx) (r.ctx + (r.base + r.idx) % 4096 * 2 ^ 8)
  ((s.raise 2 (s.sourcedBy r.ctx)).resume l).showLane l

/-- An instruction's effect on its run and context (R142, R146). -/
def applyEff (s : State) (l : Nat) (r : Run) (e : Eff) : State :=
  let s := if e.inv then s.ctxFlag r.ctx R.LPX_STAT_INVALID else s
  let s := if e.ovf then s.ctxFlag r.ctx R.LPX_STAT_OVF else s
  let s := if e.dz then s.ctxFlag r.ctx R.LPX_STAT_DIVZ else s
  let s := if e.unmark then s.updCtx r.ctx fun x => { x with picMarks := x.picMarks.filter (· ≠ r.idx) } else s
  let r' := { r with idx := r.idx + 1, reissued := false, invalid := r.invalid || e.inv, pf := e.pf.getD r.pf }
  { s.writeOps l r' e.writes with free := s.free + e.taken }

end State

/-! ### Shapes of instruction -/

/-- A function of the value at a. -/
def unary (f : Ev → Res) (s : State) (r : Run) (i : Ins) : Eff := .one i.dst (f (s.opVal r i i.a))
/-- A function of the values at a and b. -/
def binary (f : Ev → Ev → Res) (s : State) (r : Run) (i : Ins) : Eff := .one i.dst (f (s.opVal r i i.a) (s.opVal r i i.b))
/-- A function of the values at a, b and c. -/
def ternary (f : Ev → Ev → Ev → Res) (s : State) (r : Run) (i : Ins) : Eff :=
  .one i.dst (f (s.opVal r i i.a) (s.opVal r i i.b) (s.opVal r i i.c))
/-- A function of the pattern at a, and of those at a and b: moves and integer instructions (R142, R144). -/
def raw1 (f : Word → Word) (s : State) (r : Run) (i : Ins) : Eff := { writes := [(i.dst, f (s.operand r i i.a))] }
def raw2 (f : Word → Word → Word) (s : State) (r : Run) (i : Ins) : Eff :=
  { writes := [(i.dst, f (s.operand r i i.a) (s.operand r i i.b))] }
/-- A comparison of a and b joined to the predicate flag; with a NaN source the relation is false and INVALID is set (R153). -/
def compare (rel : Ev → Ev → Bool) (join : Bool → Bool → Bool) (s : State) (r : Run) (i : Ins) : Eff :=
  let a := s.opVal r i i.a
  let b := s.opVal r i i.b
  { pf := some (join r.pf (!a.isNan && !b.isNan && rel a b)), inv := a.isNan || b.isNan }

/-- MIN or MAX (R153): with one NaN the other value, with two +0.0, both INVALID. Zeros of unlike sign compare equal, and `tie` says
which is taken. The flag is INVALID. -/
def pick (max tie : Bool) (a b : Ev) : Ev × Bool :=
  match a, b with
  | .nan, .nan => (.fin 0 0 false, true)
  | .nan, b => (b, true)
  | a, .nan => (a, true)
  | a, b =>
    let better := if max then a.lt b else b.lt a
    let equal := !a.lt b && !b.lt a
    (if better || (equal && tie) then b else a, false)

/-- A choice written out: an infinity saturates, a subnormal was taken as zero (R142). -/
def chosen (p : Ev × Bool) : Res := { p.1.round with inv := p.2 || p.1.isNan }

/-- A free bit. -/
def State.freeBit (s : State) (k : Nat) : Bool := bitAt s.freeVal.toNat k

/-- min(max(x, lo), hi) with the NaN rule at each step. -/
def clampEv (t : Bool × Bool) (x lo hi : Ev) : Ev × Bool :=
  let p := pick true t.1 x lo
  let q := pick false t.2 p.1 hi
  (q.1, p.2 || q.2)

/-- The reciprocal and the quotient (R142). -/
def divRes (a b : Ev) (f : Nat → Nat → Bool → Res) : Res :=
  let neg := a.neg? != b.neg?
  match a, b with
  | .nan, _ | _, .nan => .invalid
  | .inf _, .inf _ => .invalid
  | .inf _, _ => .exceed neg
  | _, .inf _ => .zero neg
  | .fin v k _, .fin w l _ =>
    if w = 0 then (if v = 0 then .invalid else { bits := Res.sat neg, dz := true })
    else if v = 0 then .zero neg
    else f (v.natAbs * 2 ^ l) (w.natAbs * 2 ^ k) neg

/-- The square root's exact value to a denominator, with whether it lies just above: √(v·2^-k) = n / d. -/
def rootOf (v k : Nat) : Nat × Nat × Bool :=
  let n := isqrt (v * 2 ^ (k + 2 * guardBits))
  (n, 2 ^ (k + guardBits), n * n != v * 2 ^ (k + 2 * guardBits))

/-- √a, correctly rounded (R142, R153). -/
def sqrtRes : Ev → Res
  | .nan => .invalid
  | .inf neg => if neg then .invalid else .exceed false
  | .fin v k nz =>
    if v = 0 then .zero nz
    else if v < 0 then .invalid
    else let (n, d, t) := rootOf v.natAbs k; .ofF32 (f32Round false (2 * n + b2n t) (2 * d))

/-- 1/√a within 1 ulp (R142, R153). -/
def rsqRes (pick : Nat) : Ev → Res
  | .nan => .invalid
  | .inf neg => if neg then .invalid else .zero
  | .fin v k nz =>
    if v = 0 then { bits := Res.sat nz, dz := true }
    else if v < 0 then .invalid
    else
      -- 1/√(v·2^-k) = √(2^k/v)
      let n := isqrt (2 ^ (k + 2 * guardBits) / v.natAbs)
      f32Within false n (2 ^ guardBits) (n * n * v.natAbs != 2 ^ (k + 2 * guardBits)) pick

/-- √(a² + b²) within 1 ulp (R153). -/
def hypRes (pick : Nat) (a b : Ev) : Res :=
  match a, b with
  | .nan, _ | _, .nan => .invalid
  | .inf _, _ | _, .inf _ => .exceed false
  | a, b => match (a.mul a).add (b.mul b) with
    | .fin v k _ => if v = 0 then .zero else let (n, d, t) := rootOf v.natAbs k; f32Within false n d t pick
    | _ => .invalid

/-- atan2(a, b) in turns, 0 ≤ d < 1, within 2 × 10⁻⁷; atan2(0, 0) = 0 (R153). -/
def atan2Res (w : Word) (a b : Ev) : Res :=
  let unit (e : Ev) : Int := match e with
    | .inf n => if n then -1 else 1
    | _ => 0
  let go (y x : Int) : Res :=
    let t := atan2Turns y x
    let bound := 3689348814741
    let b := f32NearBy t 64 (freeOff w bound) bound
    { bits := if f32Neg b then (f32OfInt (f32Val b + f32One) 149).bits else if f32AbsGe b 1 1 then 0 else b }
  match a, b with
  | .nan, _ | _, .nan => .invalid
  | .fin v k _, .fin w l _ => if v = 0 ∧ w = 0 then .zero else go (v * 2 ^ l) (w * 2 ^ k)
  | a, b => go (unit a) (unit b)

/-- A result in turns below 1: a value that rounds to 1.0 is 0. -/
def belowOne (r : Res) : Res := if f32AbsGe r.bits 1 1 then .zero else r

/-! ### Sine and cosine (R155) -/

/-- Table word `k` as a value in units of 2^-149. -/
def State.sineAt (s : State) (k : Nat) : Int := f32Val (s.tabWord k)

/-- Where the sine at `p` quarter-table steps, 0 ≤ p < 4096, given as `v * 2^-k`, stands in the table: the entry below it and the rest, in
units of 2^-k. -/
def sineIdx (v k : Nat) : Nat × Nat :=
  let r := v % (1024 * 2 ^ k)
  let x := if v / (1024 * 2 ^ k) % 2 = 0 then r else 1024 * 2 ^ k - r
  let i := min (x / 2 ^ k) 1023
  (i, x - i * 2 ^ k)

/-- The sine there: the table's linear interpolation, in units of 2^-(149 + k). -/
def State.sineInterp (s : State) (v k : Nat) : Int :=
  let (i, u) := sineIdx v k
  let y := s.sineAt i * 2 ^ k + (s.sineAt (i + 1) - s.sineAt i) * u
  if 2 ≤ v / (1024 * 2 ^ k) then -y else y

/-- Sine and cosine of a finite angle in turns, both in units of 2^-m. -/
def State.sinCos (s : State) (v : Int) (k : Nat) : Int × Int × Nat :=
  let p := ((v % (2 ^ k : Nat)).toNat) * 4096
  (s.sineInterp p k, s.sineInterp ((p + 1024 * 2 ^ k) % (4096 * 2 ^ k)) k, 149 + k)

/-- The error that rounding may add to a sine or cosine: 1.05 × 10⁻⁷ in units of 2^-m (R155). -/
def sinBound (m : Nat) : Nat := 105 * 2 ^ m / 10 ^ 9
/-- A free error within that bound. -/
def sinErr (w : Word) (m : Nat) : Int := freeOff w (2 ^ 31 - 1) * sinBound m / 2 ^ 31

/-- SINCOS (R155): sine and cosine, each within the stated error. -/
def sincosEff (s : State) (r : Run) (i : Ins) : Eff :=
  match s.opVal r i i.a with
  | .fin v k _ =>
    let (sn, cs, m) := s.sinCos v k
    { writes := [(i.dst, f32NearBy sn m (sinErr s.freeVal m) (sinBound m)),
                 (i.dst + 1, f32NearBy cs m (sinErr (Config.freeWord (s.free + 1)) m) (sinBound m))], taken := 2 }
  | _ => .many i.dst [.invalid, .invalid]

/-- The two rotated components (R156): Park, or its inverse. -/
def rotate (inverse : Bool) (a b sn cs : Ev) : List Res :=
  if inverse then [((a.mul cs).sub (b.mul sn)).round, ((a.mul sn).add (b.mul cs)).round]
  else [((a.mul cs).add (b.mul sn)).round, ((b.mul cs).sub (a.mul sn)).round]

/-- PARK and IPARK: by an angle in turns at c (R155, R156). -/
def parkEff (inverse : Bool) (s : State) (r : Run) (i : Ins) : Eff :=
  let a := s.opVal r i i.a
  let b := s.opVal r i i.b
  match s.opVal r i i.c with
  | .fin v k _ =>
    let (sn, cs, m) := s.sinCos v k
    let exact := a.isInf || b.isInf
    let es := if exact then 0 else sinErr s.freeVal m
    let ec := if exact then 0 else sinErr (Config.freeWord (s.free + 1)) m
    { Eff.many i.dst (rotate inverse a b (.fin (sn + es) m false) (.fin (cs + ec) m false)) with taken := 2 }
  | _ => .many i.dst [.invalid, .invalid]

/-- PARKSC and IPARKSC: with sine and cosine at c and c + 1 (R156). -/
def parkscEff (inverse : Bool) (s : State) (r : Run) (i : Ins) : Eff :=
  .many i.dst (rotate inverse (s.opVal r i i.a) (s.opVal r i i.b) (s.opVal r i i.c) (s.opVal r i (i.c + 1)))

/-! ### Clarke transforms and modulation (R156, R158) -/

/-- A sum of values times integer coefficients; a coefficient of 0 leaves its value out. -/
def sumEv (l : List (Int × Ev)) : Ev :=
  l.foldl (fun a p => if p.1 = 0 then a else a.add ((Ev.int p.1).mul p.2)) (.fin 0 0 true)

/-- √3 to 400 bits, as a value. -/
def sqrt3Ev : Ev := .fin sqrt3 guardBits false

/-- CLK3 of three values (R156). A value whose coefficient in a row is 0 plays no part in that row (DESIGN CHOICE, log entry 68). -/
def clk3Of (a b c : Ev) : List Res :=
  [(sumEv [(2, a), (-1, b), (-1, c)]).roundMul 1 3, ((b.sub c).mul sqrt3Ev).roundMul 1 3, (sumEv [(1, a), (1, b), (1, c)]).roundMul 1 3]
def clk3Eff (s : State) (r : Run) (i : Ins) : Eff := .many i.dst (clk3Of (s.opVal r i i.a) (s.opVal r i (i.a + 1)) (s.opVal r i (i.a + 2)))

/-- The rows of the six-phase matrix, each entry as (twice its rational part, twice its √3 part) (R156). -/
def vsdRows : List (List (Int × Int)) :=
  [[(2, 0), (-1, 0), (-1, 0), (0, 1), (0, -1), (0, 0)], [(0, 0), (0, 1), (0, -1), (1, 0), (1, 0), (-2, 0)],
   [(2, 0), (-1, 0), (-1, 0), (0, -1), (0, 1), (0, 0)], [(0, 0), (0, -1), (0, 1), (1, 0), (1, 0), (-2, 0)],
   [(2, 0), (2, 0), (2, 0), (0, 0), (0, 0), (0, 0)], [(0, 0), (0, 0), (0, 0), (2, 0), (2, 0), (2, 0)]]

/-- VSD6 of six values (R156). -/
def vsd6Of (v : List Ev) : List Res :=
  vsdRows.map fun row =>
    let rat := sumEv ((row.map Prod.fst).zip v)
    let irr := sumEv ((row.map Prod.snd).zip v)
    (if row.all fun p => p.2 == 0 then rat else rat.add (irr.mul sqrt3Ev)).roundMul 1 6
def vsd6Eff (s : State) (r : Run) (i : Ins) : Eff := .many i.dst (vsd6Of ((List.range 6).map fun k => s.opVal r i (i.a + k)))

/-- The greatest and the least of three values that are no NaN. -/
def maxEv (a b : Ev) : Ev := if a.lt b then b else a
def minEv (a b : Ev) : Ev := if b.lt a then b else a

/-- A duty from its exact value: twice the phase and zero-sequence sum over the link voltage, plus one half, clamped (R158). -/
def svmDuty (t c : Ev) : Res :=
  match t, c with
  | .nan, _ | _, .nan => .invalid
  | .inf _, .inf _ => .invalid
  | .inf n, _ => if n then .zero else { bits := f32OneBits }
  | _, .inf _ => { bits := 0x3F000000 }
  | .fin v k _, .fin w l _ =>
    -- 1/2 + t / 2c with t = v·2^-k, c = w·2^-l > 0
    let n : Int := w * 2 ^ k + v * 2 ^ l
    let d : Int := 2 * w * 2 ^ k
    if n ≤ 0 then .zero else if d ≤ n then { bits := f32OneBits } else .ofF32 (f32OfRatio n d)

/-- SVM (R158). With c ≤ 0 all duties are 0.5 and INVALID is set. -/
def svmEff (s : State) (r : Run) (i : Ins) : Eff :=
  let a := s.opVal r i i.a
  let b := s.opVal r i i.b
  let c := s.opVal r i i.c
  if a.isNan || b.isNan || c.isNan then .many i.dst [.invalid, .invalid, .invalid]
  else if c.le (.int 0) then
    .many i.dst (List.replicate 3 { bits := 0x3F000000, inv := true })
  else
    -- twice the phase voltages
    let va := (Ev.int 2).mul a
    let q := b.mul sqrt3Ev
    let vb := q.sub a
    let vc := (a.add q).neg
    let mx := maxEv va (maxEv vb vc)
    let mn := minEv va (minEv vb vc)
    -- twice the zero-sequence term
    let v0 : Ev := match i.imm % 4 with
      | 0 => ((mx.add mn).mul (.fin 1 1 false)).neg
      | 1 => .int 0
      | _ => if mn.abs.le mx.abs then c.sub mx else c.neg.sub mn
    .many i.dst ([va, vb, vc].map fun v => svmDuty (v.add v0) c)

/-! ### Clamped PI (R157) -/

/-- The instruction is marked for bumpless initialisation, which is for runs that start in CLOSED (R137, R138). -/
def picPending (s : State) (r : Run) : Bool := r.state == 2 && (s.ctx r.ctx).picMarks.contains r.idx

/-- PIC. A NaN in IMIN or IMAX is taken as MIN and MAX take it; where the destination is the integrator's own word, the output is what it
holds after (DESIGN CHOICE, log entry 67). -/
def picEff (s : State) (r : Run) (i : Ins) : Eff :=
  let k (j : Nat) : Ev := s.opVal r i (i.b + j)
  let e := s.opVal r i i.a
  let tb := (s.freeBit 0, s.freeBit 1)
  let ki0 := (k 1).mul (s.opVal r i 0x7E)
  let ki : Ev × Res := if i.imm % 2 = 1 then (Ev.of ki0.round.bits, ki0.round) else (k 1, {})
  let pending := picPending s r
  if (k 3).lt (k 2) then
    let v := (k 2).round
    { writes := [(i.c, v.bits), (i.dst, v.bits)], inv := true, ovf := v.ovf || ki.2.ovf, unmark := pending }
  else
    let raw := if pending then ((s.opVal r i i.dst).sub ((k 0).mul e)).round
      else ((s.opVal r i i.c).add (ki.1.mul e)).round
    let int := chosen (clampEv tb (Ev.of raw.bits) (k 2) (k 3))
    let out := (((k 0).mul e).add (Ev.of int.bits)).round
    let d := chosen (clampEv tb (Ev.of out.bits) (k 2) (k 3))
    let all := (((d.join out).join int).join raw).join ki.2
    { writes := [(i.c, int.bits), (i.dst, d.bits)], inv := all.inv, ovf := all.ovf, dz := all.dz, taken := 1, unmark := pending }

/-! ### Tables (R159) -/

/-- Position on an axis: grid index and the remainder `u / 2^149`; none where the value is a NaN. `n` is the number of points. -/
def axis (x x0 inv : Ev) (n : Nat) : Option (Nat × Nat) :=
  let clamp (f : Int) : Nat × Nat :=
    let m := min f.toNat ((n - 1) * f32One)
    let i := min (m / f32One) (n - 2)
    (i, m - i * f32One)
  match (x.sub x0).mul inv with
  | .nan => none
  | .inf neg => some (clamp (if neg then 0 else (n * f32One : Nat)))
  | e => some (clamp (f32Val e.round.bits))

/-- One output word from the entries of its cell, each with its weight in units of 2^-298: the rules for NaN and infinite entries
look at every entry; an entry beyond word 16383 is +0.0 and sets INVALID. -/
def State.cell (s : State) (l : List (Nat × Nat)) : Res :=
  let far := l.any fun p => 16383 < p.1
  let es := l.map fun p => (Ev.of (if 16383 < p.1 then 0 else s.tabWord p.1), p.2)
  let r : Res :=
    if es.any (fun p => p.1.isNan) || (es.any (fun p => p.1 == .inf true) && es.any (fun p => p.1 == .inf false)) then .invalid
    else if es.any fun p => p.1 == .inf true then .exceed true
    else if es.any fun p => p.1 == .inf false then .exceed false
    else (es.foldl (fun (a : Ev) p => a.add (p.1.mul (.fin p.2 298 false))) (.fin 0 0 true)).round
  { r with inv := r.inv || far }

/-- The cell of each output word of LUT1 or LUT2 as table words with their weights in units of 2^-298; none where an input is no number.
With NY = 1 the second axis has one row. -/
def lutCells (two : Bool) (s : State) (r : Run) (i : Ins) : Option (List (List (Nat × Nat))) :=
  let h := i.imm % 2 ^ 14
  let (nx, ny, outs) := s.tabDims h
  let hd (k : Nat) : Ev := Ev.of (s.tabWord (h + k))
  let y := s.opVal r i i.b
  let ay := if !two then some (0, 0)
    else if ny = 1 then (if ((y.sub (hd 2)).mul (hd 3)).isNan then none else some (0, 0))
    else axis y (hd 2) (hd 3) ny
  match axis (s.opVal r i i.a) (hd 0) (hd 1) nx, ay with
  | some (ix, u), some (jy, v) =>
    let at_ (o di dj : Nat) : Nat := h + 5 + ((jy + dj) * nx + ix + di) * outs + o
    some ((List.range outs).map fun o =>
      if two && ny != 1 then
        [(at_ o 0 0, (f32One - u) * (f32One - v)), (at_ o 1 0, u * (f32One - v)), (at_ o 0 1, (f32One - u) * v), (at_ o 1 1, u * v)]
      else [(at_ o 0 0, (f32One - u) * f32One), (at_ o 1 0, u * f32One)])
  | _, _ => none

/-- LUT1 and LUT2 (R159). -/
def lutEff (two : Bool) (s : State) (r : Run) (i : Ins) : Eff :=
  match lutCells two s r i with
  | some l => .many i.dst (l.map s.cell)
  | none => .many i.dst (List.replicate (s.tabDims (i.imm % 2 ^ 14)).2.2 .invalid)

/-! ### Issue -/

/-- An instruction that reads its table's header, and one that looks an angle up in the sine table, with the angle. -/
def isLut (i : Ins) : Bool := i.op == 0x38 || i.op == 0x39
def angleOf (s : State) (r : Run) (i : Ins) : Option Ev :=
  if i.op = 0x15 then some (s.opVal r i i.a) else if i.op = 0x32 ∨ i.op = 0x33 then some (s.opVal r i i.c) else none

/-- The words of table memory that an instruction's function reads (R155, R159). -/
def tableReads (s : State) (r : Run) (i : Ins) : List Nat :=
  if isLut i then ((lutCells (i.op == 0x39) s r i).getD []).flatMap fun l => (l.map Prod.fst).filter (· < 16384)
  else match angleOf s r i with
    | some (.fin v k _) =>
      let p := (v % (2 ^ k : Nat)).toNat * 4096
      let q := (p + 1024 * 2 ^ k) % (4096 * 2 ^ k)
      [(sineIdx p k).1, (sineIdx p k).1 + 1, (sineIdx q k).1, (sineIdx q k).1 + 1]
    | _ => []

/-- The context words an instruction reads; an X word the run has written is the run's own (R140). -/
def ctxReads (s : State) (r : Run) (i : Ins) : List Nat :=
  let span (o n : Nat) : List Nat := (List.range n).map (o + ·)
  let h := (shape i.op).getD { occ := 0, dst := 0 }
  let own := if i.op = 0x0D then [i.dst] else if i.op = 0x36 then span i.b 4 ++ i.c :: (if picPending s r then [i.dst] else []) else []
  (span i.a h.a ++ span i.b h.b ++ span i.c h.c ++ own).filter fun o => o < 0x40 && !(r.xs.any fun p => p.1 == o)

namespace State

/-- No tick run issues within the boundary slot (R14). -/
def tickHeld (s : State) (r : Run) : Bool := !r.crit && s.fld R.CAD_POS_CLK_IN_TICK < 16

/-- The words that the fetch of an instruction reads: its two words of program memory, and the header that a table instruction names. -/
def fetchWords (_ : State) (r : Run) (i : Ins) (k : Nat) : Bool :=
  (k < tabBase && (k - progBase) / 8 == (r.base + r.idx) % 4096)
    || (isLut i && tabBase ≤ k && i.imm % 2 ^ 14 ≤ (k - tabBase) / 4 && (k - tabBase) / 4 < i.imm % 2 ^ 14 + 5)

/-- The words of context and table memory that it reads when it is carried out. -/
def sourceWords (s : State) (r : Run) (i : Ins) (k : Nat) : Bool :=
  (ctxReads s r i).any (fun o => k == wordKey r.ctx o) || (tableReads s r i).any fun w => k == tabBase + 4 * w

/-- A lane issues its next instruction, if it has the opcode and the run may issue (R14): an undefined one faults the context, one whose
predicate is false only goes by (R146), any other has its effect. The words it reads meet their errors first (R132). -/
def issue (s : State) (l op : Nat) (f : State → Run → Ins → Eff) : State :=
  match (s.lane l).run with
  | none => s
  | some r =>
    let i := s.insAt (r.base + r.idx)
    if r.len ≤ r.idx || i.op != op || s.tickHeld r then s
    else s.runReads l r (s.fetchWords r i) fun s =>
      if s.insErr i != 0 then s.undefinedIns l r
      else if (i.pred == 1 && !r.pf) || (i.pred == 2 && r.pf) then s.applyEff l r {}
      else s.runReads l r (s.sourceWords r i) fun s => s.applyEff l r (f s r i)

end State

/-! ### The instructions -/

/-- An instruction command: the lane issues its next instruction. -/
def insOut (lane : Fin 4) (op : Nat) (f : State → Run → Ins → Eff) (s : State) : Out := .next (s.issue lane op f)

/-- Does nothing (R153). -/
def execNop (lane : Fin 4) (s : State) : Out := insOut lane 0x00 (fun _ _ _ => {}) s
/-- d ← a (R142, R153). -/
def execMov (lane : Fin 4) (s : State) : Out := insOut lane 0x01 (raw1 id) s
/-- d ← a + b. -/
def execAdd (lane : Fin 4) (s : State) : Out := insOut lane 0x02 (binary fun a b => (a.add b).round) s
/-- d ← a − b. -/
def execSub (lane : Fin 4) (s : State) : Out := insOut lane 0x03 (binary fun a b => (a.sub b).round) s
/-- d ← a × b. -/
def execMul (lane : Fin 4) (s : State) : Out := insOut lane 0x04 (binary fun a b => (a.mul b).round) s
/-- d ← a × b + c, one rounding. -/
def execMac (lane : Fin 4) (s : State) : Out := insOut lane 0x05 (ternary fun a b c => ((a.mul b).add c).round) s
/-- d ← c − a × b, one rounding. -/
def execMsb (lane : Fin 4) (s : State) : Out := insOut lane 0x06 (ternary fun a b c => (c.sub (a.mul b)).round) s
/-- d ← a with bit 31 inverted. -/
def execNeg (lane : Fin 4) (s : State) : Out := insOut lane 0x07 (raw1 fun x => x ^^^ 0x80000000#32) s
/-- d ← a with bit 31 clear. -/
def execAbs (lane : Fin 4) (s : State) : Out := insOut lane 0x08 (raw1 fun x => x &&& 0x7FFFFFFF#32) s

/-- MIN or MAX written out; the sign of a zero between zeros of unlike sign is left open. -/
def minMaxEff (max : Bool) (s : State) (r : Run) (i : Ins) : Eff :=
  { binary (fun a b => chosen (pick max (s.freeBit 0) a b)) s r i with taken := 1 }
/-- d ← min(a, b). -/
def execMin (lane : Fin 4) (s : State) : Out := insOut lane 0x09 (minMaxEff false) s
/-- d ← max(a, b). -/
def execMax (lane : Fin 4) (s : State) : Out := insOut lane 0x0A (minMaxEff true) s
/-- d ← min(max(a, b), c). -/
def clampEff (s : State) (r : Run) (i : Ins) : Eff :=
  { ternary (fun a b c => chosen (clampEv (s.freeBit 0, s.freeBit 1) a b c)) s r i with taken := 1 }
def execClamp (lane : Fin 4) (s : State) : Out := insOut lane 0x0B clampEff s
/-- d ← b + a × (c − b), the exact expression with one rounding. -/
def execLerp (lane : Fin 4) (s : State) : Out := insOut lane 0x0C (ternary fun a b c => (b.add (a.mul (c.sub b))).round) s

/-- d ← d + min(max(a − d, −b), b): the difference is rounded, then the sum. -/
def rateEff (s : State) (r : Run) (i : Ins) : Eff :=
  let a := s.opVal r i i.a
  let b := s.opVal r i i.b
  let d := s.opVal r i i.dst
  let e := (a.sub d).round
  if b.isNan || e.inv then .one i.dst .invalid
  else
    let c := clampEv (s.freeBit 0, s.freeBit 1) (if (a.sub d).isInf then a.sub d else Ev.of e.bits) b.neg b
    { Eff.one i.dst (d.add c.1).round with
        ovf := (d.add c.1).round.ovf || (e.ovf && !(a.sub d).isInf), taken := 1 }
def execRate (lane : Fin 4) (s : State) : Out := insOut lane 0x0D rateEff s

/-- a − floor(a), exact, one rounding; an infinite source is ∞ − ∞. -/
def wrapRes : Ev → Res
  | .fin v k _ => ((Ev.fin v k false).sub (.int (Ev.floor (.fin v k false)))).round
  | _ => .invalid
def execWrap (lane : Fin 4) (s : State) : Out := insOut lane 0x0E (unary wrapRes) s

/-- 1 / a, within 1 ulp. -/
def rcpEff (s : State) (r : Run) (i : Ins) : Eff :=
  { unary (fun a => divRes (.int 1) a fun n d neg => f32Within neg n d false s.freeVal.toNat) s r i with taken := 1 }
def execRcp (lane : Fin 4) (s : State) : Out := insOut lane 0x0F rcpEff s
/-- 1 / √a, within 1 ulp. -/
def rsqEff (s : State) (r : Run) (i : Ins) : Eff := { unary (rsqRes s.freeVal.toNat) s r i with taken := 1 }
def execRsq (lane : Fin 4) (s : State) : Out := insOut lane 0x10 rsqEff s
/-- a / b, correctly rounded. -/
def execDiv (lane : Fin 4) (s : State) : Out :=
  insOut lane 0x11 (binary fun a b => divRes a b fun n d neg => .ofF32 (f32Round neg n d)) s
/-- √a, correctly rounded. -/
def execSqrt (lane : Fin 4) (s : State) : Out := insOut lane 0x12 (unary sqrtRes) s
/-- √(a² + b²), within 1 ulp. -/
def hypEff (s : State) (r : Run) (i : Ins) : Eff := { binary (hypRes s.freeVal.toNat) s r i with taken := 1 }
def execHyp (lane : Fin 4) (s : State) : Out := insOut lane 0x13 hypEff s
/-- atan2(a, b) in turns. -/
def atan2Eff (s : State) (r : Run) (i : Ins) : Eff :=
  { binary (fun a b => belowOne (atan2Res s.freeVal a b)) s r i with taken := 1 }
def execAtan2 (lane : Fin 4) (s : State) : Out := insOut lane 0x14 atan2Eff s
/-- Sine and cosine of an angle in turns (R155). -/
def execSincos (lane : Fin 4) (s : State) : Out := insOut lane 0x15 sincosEff s

/-- A signed 32-bit integer, rounded to nearest even and saturated; a NaN gives 0 and INVALID (R144). -/
def cvtiRes : Ev → Res
  | .nan => .invalid
  | .inf neg => { bits := if neg then 0x80000000 else 0x7FFFFFFF }
  | .fin v k _ =>
    let n : Int := rne v.natAbs (2 ^ k)
    let n := if v < 0 then -n else n
    { bits := BitVec.ofInt 32 (max (-2147483648) (min 2147483647 n)) }
def execCvti (lane : Fin 4) (s : State) : Out := insOut lane 0x16 (unary cvtiRes) s
/-- binary32 of a signed 32-bit integer. -/
def execCvtf (lane : Fin 4) (s : State) : Out :=
  insOut lane 0x17 (fun s r i => .one i.dst (.ofF32 (f32OfInt (s.operand r i i.a).toInt 0))) s

/-- PF ← a < b. -/
def execCmplt (lane : Fin 4) (s : State) : Out := insOut lane 0x18 (compare Ev.lt fun _ c => c) s
/-- PF ← a ≤ b. -/
def execCmple (lane : Fin 4) (s : State) : Out := insOut lane 0x19 (compare Ev.le fun _ c => c) s
/-- PF ← a = b. -/
def execCmpeq (lane : Fin 4) (s : State) : Out := insOut lane 0x1A (compare (fun a b => a.le b && b.le a) fun _ c => c) s
/-- PF ← |a| > b. -/
def execCmpag (lane : Fin 4) (s : State) : Out := insOut lane 0x1B (compare (fun a b => b.lt a.abs) fun _ c => c) s
/-- PF ← PF and a < b. -/
def execPandlt (lane : Fin 4) (s : State) : Out := insOut lane 0x1C (compare Ev.lt fun p c => p && c) s
/-- PF ← PF or a < b. -/
def execPorlt (lane : Fin 4) (s : State) : Out := insOut lane 0x1D (compare Ev.lt fun p c => p || c) s
/-- d ← a if PF = 1, else b. -/
def execSel (lane : Fin 4) (s : State) : Out :=
  insOut lane 0x1E (fun s r i => { writes := [(i.dst, if r.pf then s.operand r i i.a else s.operand r i i.b)] }) s
/-- PF ← bit IMM[4:0] of a. -/
def execBtst (lane : Fin 4) (s : State) : Out :=
  insOut lane 0x1F (fun s r i => { pf := some (bitAt (s.operand r i i.a).toNat (i.imm % 32)) }) s
/-- Bitwise and, or, exclusive or (R144). -/
def execAnd (lane : Fin 4) (s : State) : Out := insOut lane 0x20 (raw2 fun a b => a &&& b) s
def execOr (lane : Fin 4) (s : State) : Out := insOut lane 0x21 (raw2 fun a b => a ||| b) s
def execXor (lane : Fin 4) (s : State) : Out := insOut lane 0x22 (raw2 fun a b => a ^^^ b) s
/-- Logical shift right by IMM[4:0]. -/
def execShr (lane : Fin 4) (s : State) : Out :=
  insOut lane 0x23 (fun s r i => { writes := [(i.dst, s.operand r i i.a >>> (i.imm % 32))] }) s

/-- Three-phase Clarke (R156). -/
def execClk3 (lane : Fin 4) (s : State) : Out := insOut lane 0x30 clk3Eff s
/-- Six-phase decomposition (R156). -/
def execVsd6 (lane : Fin 4) (s : State) : Out := insOut lane 0x31 vsd6Eff s
/-- Park and inverse Park by an angle (R155, R156). -/
def execPark (lane : Fin 4) (s : State) : Out := insOut lane 0x32 (parkEff false) s
def execIpark (lane : Fin 4) (s : State) : Out := insOut lane 0x33 (parkEff true) s
/-- Park and inverse Park by sine and cosine (R156). -/
def execParksc (lane : Fin 4) (s : State) : Out := insOut lane 0x34 (parkscEff false) s
def execIparksc (lane : Fin 4) (s : State) : Out := insOut lane 0x35 (parkscEff true) s
/-- Clamped PI (R157). -/
def execPic (lane : Fin 4) (s : State) : Out := insOut lane 0x36 picEff s
/-- Modulation into three duty ports (R158). -/
def execSvm (lane : Fin 4) (s : State) : Out := insOut lane 0x37 svmEff s
/-- Table interpolation (R159). -/
def execLut1 (lane : Fin 4) (s : State) : Out := insOut lane 0x38 (lutEff false) s
def execLut2 (lane : Fin 4) (s : State) : Out := insOut lane 0x39 (lutEff true) s

end Sys2Proof.Machine
end

