-- ==== Sys2Proof/Machine/EngineCtl.lean ====
section
/-!
DEFINITION. Commands of the loop engine around its runs (chapter 4): dispatch, completion, abort, lane faults and checks, state
requests, context words, engine constants, program and table memory, validation.
-/
namespace Sys2Proof.Machine

namespace State

/-- The staged fields are frozen: an admission check is running, its configuration awaits its boundary, or either ended on this clock (R29). -/
def frozen (s : State) : Bool := s.cad.checking || s.cad.awaitApply || s.cad.frozenAt == some s.now

/-- Whether a request is one the table of R134 permits, CLOSED not while a sourced group is in a safe state (R135); the live state itself
is a permitted request. -/
def reqPermitted (s : State) (c req : Nat) : Bool :=
  let st := s.cstate c
  if req == st then true
  else
    (match st, req with
      | 0, 1 | 4, 1 | 4, 0 | 1, 2 | 1, 0 | 2, 1 | 2, 3 | 2, 0 | 3, 1 | 3, 0 => true
      | 3, 2 => !s.on (R.LPX_STAT_FORCED_HELD c)
      | _, _ => false)
    && !((req == 1 || req == 0) && s.sourcesActive c) && !(req == 2 && (s.sourced c).any fun g => s.gstate g == 3)

/-- Whether a context's words may be written (R141). -/
def wordsOpen (s : State) (c : Nat) : Bool := s.cstate c == 1 && !s.on (R.LPX_STATE_CARRY c)

/-- INDEX steps after an access to LPX_CW_DATA by the page's agent (R169). -/
def cwStep (s : State) (m : Master) (c : Nat) : State :=
  if s.isAgent m .lpx (c / 16) && s.on (R.LPX_CW_IDX_AUTOINC c) then
    s.setFld (R.LPX_CW_IDX_INDEX c) ((s.fld (R.LPX_CW_IDX_INDEX c) + 1) % 64)
  else s

/-- A context word is written at once; a run in progress sees it at its next read (R141). -/
def setCtxWord (s : State) (c o : Nat) (v : Word) : State :=
  let s := (s.updCtx c fun x => { x with words := x.words.write (fun _ => 0) o v }).clearErr (· == wordKey c o)
  let sub (r : Run) : Run := if r.ctx = c then { r with xs := r.xs.erase o } else r
  s.each (List.range 4) fun s l =>
    s.updLane l fun L => { L with run := L.run.map sub, susp := L.susp.map sub, tail := L.tail.map sub }

/-- Whether instruction `k` lies in the program of a protected context (R164). -/
def progProtected (s : State) (k : Nat) : Bool :=
  (List.range 160).any fun c =>
    let lb := s.liveFld (R.LPX_PROG_START c)
    let sb := s.fld (R.LPX_PROG_START c)
    (s.cstate c != 0 && lb ≤ k && k < lb + s.liveFld (R.LPX_PROG_LEN c))
      || (s.frozen && s.fld (R.LPX_STATE_REQ c) != 0 && sb ≤ k && k < sb + s.fld (R.LPX_PROG_LEN c))

/-- Whether instruction `k` lies in the range under validation (R164). -/
def progValidating (s : State) (k : Nat) : Bool :=
  s.on R.LPE_VAL_STAT_BUSY && s.fld R.LPE_VAL_CTL_START ≤ k && k < s.fld R.LPE_VAL_CTL_START + s.fld R.LPE_VAL_CTL_LEN

/-- A write of one 32-bit word of program memory (R145, R164). -/
def progWrite (s : State) (m : Master) (i : Nat) (v : Word) : State :=
  s.writePage m .lpe 0 (progBase + 4 * i) [(s.progProtected (i / 2), .state), (s.progValidating (i / 2), .busy)] fun s =>
    (s.setEngineWord (progBase + 4 * i) v).clearErr (· == progBase + 4 * i)

/-- A write of one word of table memory; the sine table is protected (R122, R132). -/
def tabWrite (s : State) (m : Master) (i : Nat) (v : Word) : State :=
  if i ≤ 1024 then s.errResp m true (tabBase + 4 * i) .prot
  else s.writePage m .lpe 0 (tabBase + 4 * i) [] fun s =>
    ({ s with tab := s.tab.write (fun _ => 0) i v } : State).clearErr (· == tabBase + 4 * i)

/-- The end of a validation: result, first error and its index, and event 0x0011 (R165, R167). -/
def valEnd (s : State) (err idx : Nat) : State :=
  let s := ((s.setFld R.LPE_VAL_STAT_BUSY 0).setFld R.LPE_VAL_CTL_GO 0).setFld R.LPE_VAL_STAT_RESULT (if err = 0 then 1 else 2)
  let s := (s.setFld R.LPE_VAL_STAT_ERR err).setFld R.LPE_VAL_STAT_ERR_INDEX idx
  (s.evt .lpe 0 E.LPE_VAL_DONE).post 0x0011 (locBlk 0 7) ((if err = 0 then 1 else 2) + err * 2 ^ 2 + idx * 2 ^ 6)

end State

/-! ### Runs -/

/-- The lane's scheduler dispatches its next due tick context (R162); `ecc` is an error that befalls engine memory as it does (R132). -/
def execTickRunDispatch (lane : Fin 4) (ecc : Ecc) (s : State) : Out := .next ((s.strikeEngine ecc).dispatchTick lane)

/-- The lane's run that has issued its last instruction completes, an older draining one first (R163). -/
def execRunComplete (lane : Fin 4) (s : State) : Out :=
  .next (match (s.laneRuns lane).find? fun r => r.len ≤ r.idx with
    | some r => s.completeRun lane r
    | none => s)

/-- The deadline of a run comes before its completion (R23, R37): of the lane's critical run, or of its oldest tick run. -/
def execRunDeadlineAbort (lane : Fin 4) (crit : Bool) (s : State) : Out :=
  .next (match (s.laneRuns lane).find? fun r => r.crit == crit with
    | some r => ((s.abortLate lane r).resume lane).showLane lane
    | none => s)

/-- The oldest pending output-port writes of the lane complete (R150). -/
def execDutyPortApply (lane : Fin 4) (s : State) : Out := .next (s.drainOne lane)

/-- The lane's next instruction is undefined (R153). -/
def execUndefinedInstruction (lane : Fin 4) (s : State) : Out :=
  .next (match (s.lane lane).run with
    | none => s
    | some r => if r.idx < r.len && s.insErr (s.insAt (r.base + r.idx)) != 0 then s.undefinedIns lane r else s)

/-! ### Lanes -/

/-- The copies disagree on the present instruction: it is issued once more; a second disagreement, or more reissues in 1024 ticks
than RETRY_MAX, is a lane fault (R129, R130). -/
def execReissue (lane : Fin 4) (s : State) : Out :=
  .next (match (s.lane lane).run with
    | none => s
    | some r =>
      if r.reissued then s.laneFault lane
      else
        let t := s.fld R.CAD_TICK_COUNT
        let s := ((s.inc (R.LPE_LANE_CMP_REISSUE lane)).evt .lpe 0 E.LPE_REISSUE).post 0x1013 (loc 0 0 0 lane 0x02)
          (r.ctx + lane * 2 ^ 8)
        let s := s.updLane lane fun L =>
          { L with run := some { r with reissued := true },
                   reissues := (L.reissues.filter fun u => (t + 2 ^ 32 - u) % 2 ^ 32 < 1024) ++ [t] }
        if s.fld R.LPE_CTL_RETRY_MAX < (s.lane lane).reissues.length then s.laneFault lane else s)

/-- A reissued instruction disagrees again (R130). -/
def execLaneFault (lane : Fin 4) (s : State) : Out :=
  .next (match (s.lane lane).run with
    | some r => if r.reissued then s.laneFault lane else s
    | none => s)

/-- A write of LPE_LANEn_CTL.CHECK = 1 (R131). -/
def execLaneCheck (m : Master) (lane : Fin 4) (s : State) : Out :=
  .next (s.write m (R.LPE_LANE_CTL lane) [((s.laneCtxs lane).any fun c => !s.resting c, .state)] fun s =>
    (s.setFld (R.LPE_LANE_CTL_CHECK lane) 1).setFld (R.LPE_LANE_CMP_CHECK_BUSY lane) 1)

/-- The lane self-check ends; `pass` is its outcome (R131). -/
def execLaneCheckDone (lane : Fin 4) (pass : Bool) (s : State) : Out :=
  .next (if s.on (R.LPE_LANE_CMP_CHECK_BUSY lane) then
    let s := ((s.setFld (R.LPE_LANE_CTL_CHECK lane) 0).setFld (R.LPE_LANE_CMP_CHECK_BUSY lane) 0).setFld
      (R.LPE_LANE_CMP_CHECK_PASS lane) (b2n pass)
    if pass then ((s.setFld (R.LPE_LANE_CMP_FAULTED lane) 0).updLane lane fun L => { L with reissues := [] }).showLane lane else s
  else s)

/-! ### Contexts -/

/-- A write of LPX_STATE.REQ (R134, R29). -/
def execStateRequest (m : Master) (c : Fin 160) (req : Fin 8) (s : State) : Out :=
  .next (s.write m (R.LPX_STATE c)
    (if s.frozen && s.resting c then [(true, .busy)] else [(4 ≤ req.val, .range), (req.val < 4 && !s.reqPermitted c req, .state)]) fun s =>
      (s.setFld (R.LPX_STATE_REQ c) req).setFld (R.LPX_STATE_REQ_PEND c) (b2n (req != s.cstate c)))

/-- A write of LPX_CW_DATA (R141). -/
def execContextWordWrite (m : Master) (c : Fin 160) (v : Word) (s : State) : Out :=
  .next (if s.mayWrite m .lpx (c / 16) && !s.wordsOpen c then
    ((s.errResp m true (R.LPX_CW_DATA c) .state).ctxFlag c R.LPX_STAT_COEF_REJ).post 0x1012 (s.locCtx c) c
  else s.write m (R.LPX_CW_DATA c) [] fun s => (s.setCtxWord c (s.fld (R.LPX_CW_IDX_INDEX c)) v).cwStep m c)

/-- CFG_PEND of a context: a staged field differs from its live value (R169). -/
def State.lpxCfgPend (s : State) (c : Nat) : Bool :=
  (s.rd (R.LPX_CFG c) &&& 0xFFFFFF) != (s.rdLive (R.LPX_CFG c) &&& 0xFFFFFF)
    || s.rd (R.LPX_PROG c) != s.rdLive (R.LPX_PROG c) || s.rd (R.LPX_RATE c) != s.rdLive (R.LPX_RATE c)

/-- A read of LPX_CW_DATA (R141): the committed value, in every state, its single-bit error corrected (R132). -/
def execContextWordRead (m : Master) (c : Fin 160) (s : State) : Out :=
  let o := s.fld (R.LPX_CW_IDX_INDEX c)
  .next (if s.srstHeld .lpx (c / 16) (R.LPX_CW_DATA c) then s.errResp m false (R.LPX_CW_DATA c) .busy
    else ((s.cwStep m c).engineReads (· == State.wordKey c o)).okResp ((s.ctx c).words.read (fun _ => 0) o))

/-- A write of LPE_CONSTk, in effect from the next tick boundary (R148). -/
def execEngineConstantWrite (m : Master) (k : Fin 31) (v : Word) (s : State) : Out :=
  .next (s.write m (R.LPE_CONST k) [] fun s => s.wr (R.LPE_CONST k) v)

/-! ### Memories and validation -/

/-- A write of one 32-bit word of program memory (R164). -/
def execProgramMemoryWrite (m : Master) (i : Fin 8192) (v : Word) (s : State) : Out := .next (s.progWrite m i v)

/-- A write of one word of table memory (R132, R160). -/
def execTableMemoryWrite (m : Master) (i : Fin 16384) (v : Word) (s : State) : Out := .next (s.tabWrite m i v)

/-- A write of LPE_VAL_CTL with GO = 1 (R165, R167). A range that ends beyond program memory fails at once, before OCC, PREFIX and INSTR are
formed: they keep their values (DESIGN CHOICE, log entry 70). -/
def execValidationStart (m : Master) (start : Fin 4096) (len : Fin 8192) (s : State) : Out :=
  .next (s.write m R.LPE_VAL_CTL [(len.val = 0 || 4096 < len.val, .range), (s.on R.LPE_VAL_STAT_BUSY, .busy)] fun s =>
    let s := ((s.setFld R.LPE_VAL_CTL_START start).setFld R.LPE_VAL_CTL_LEN len).setFld R.LPE_VAL_CTL_GO 1
    if 4096 < start.val + len.val then s.valEnd 7 start else s.setFld R.LPE_VAL_STAT_BUSY 1)

/-- The validation ends: the first error with its instruction index, and the figures admission will compute (R165). -/
def execValidationDone (s : State) : Out :=
  .next (if s.on R.LPE_VAL_STAT_BUSY then
    let base := s.fld R.LPE_VAL_CTL_START
    let n := s.fld R.LPE_VAL_CTL_LEN
    let s := s.engineReads fun k => progBase + 8 * base ≤ k && k < progBase + 8 * (base + n)
    let (occ, pre) := s.progOcc base n
    let s := ((s.setFld R.LPE_VAL_OCC_OCC occ).setFld R.LPE_VAL_OCC_PREFIX pre).setFld R.LPE_VAL_CNT_INSTR n
    match ((List.range n).map (base + ·)).find? fun k => s.valErr (s.insAt k) != 0 with
    | some k => s.valEnd (s.valErr (s.insAt k)) k
    | none => s.valEnd 0 0
  else s)

end Sys2Proof.Machine
end

