-- ==== Sys2Proof/Machine/Memory.lean ====
section
/-!
DEFINITION. SRAM, ROM and the NOR window as the masters see them (R100–R106).
-/
namespace Sys2Proof.Machine

/-- Whether an address lies in SRAM, in the boot ROM, or in the NOR window (R100). -/
def inSram (a : Nat) : Bool := 0x20000000 ≤ a && a < 0x20400000
def inRom (a : Nat) : Bool := a < 0x40000
def inNor (a : Nat) : Bool := 0x60000000 ≤ a && a < 0x64000000

/-- Whether a master may write the SRAM partition of an address (R101). -/
def sramWriter (m : Master) (a : Nat) : Bool :=
  let part := if a < 0x20100000 then 0 else if a < 0x20200000 then 1 else if a < 0x203C0000 then 2 else 3
  match m with
  | .core .ta | .dbg .ta => part = 0
  | .core .tb | .dbg .tb | .hsp | .dma .tb => part = 1
  | .core .mc | .dbg .mc => part = 2 || part = 3
  | .dma .mc => part = 2
  | .dma .ta | .chk _ => false

/-- Whether a master may read an address of the NOR window: keys and configuration are MC's alone (R105). -/
def norReader (m : Master) (a : Nat) : Bool := !(0x61400000 ≤ a && a < 0x61800000) || rights m = .mc

namespace State

/-- A write of `n` bytes to SRAM, by the rights of its partition (R101); a split pair's checker writes inside
its window alone (R436). -/
def sramWrite (s : State) (m : Master) (a n : Nat) (v : Nat) : State :=
  let p := pairOf (rights m)
  let base := s.fld (R.TND_CWIN_BASE p) * 2 ^ 16
  if isChecker m then
    (if base ≤ a && a + n ≤ base + (s.fld (R.TND_CWIN_SIZE p) + 1) * 2 ^ 16 then (s.setLe a v n).okResp else s.errResp m true a .owner)
  else if (List.range n).all (fun i => sramWriter m (a + i)) && inSram (a + n - 1) then (s.setLe a v n).okResp else s.errResp m true a .prot

/-- The SRAM words that `n` bytes from `a` lie in. -/
def sramWords (a n : Nat) : List Nat := if a / 4 = (a + n - 1) / 4 then [a / 4 * 4] else [a / 4 * 4, (a + n - 1) / 4 * 4]

/-- A single-bit error in an SRAM word is corrected and written back (R102). -/
def sramMend (s : State) (w : Nat) : State :=
  if s.bad.read (fun _ => 0) w = 1 then
    (({ s with bad := s.bad.erase w } : State).inc R.SYS_ECC_CNT_CE_COUNT).evt .sys 0 E.SYS_ECC_CE
  else s

/-- A double-bit error in an SRAM word that a read meets (R102). -/
def sramUe (s : State) (m : Master) (a w : Nat) : State :=
  let s := ((s.errResp m false a .ecc).setFld R.SYS_ECC_ADDR_ADDR w).flt .sys 0 F.SYS_SRAM_UE
  (s.post 0x3020 (locSub 6) w).raise 4 allGroups

/-- A read of `n` bytes of SRAM with what its ECC meets (R102): a corrected error is counted; a double-bit error is an error response and a
J2 fault. -/
def sramRead (s : State) (m : Master) (a n : Nat) : State :=
  match (sramWords a n).find? fun w => s.bad.read (fun _ => 0) w == 2 with
  | some w => s.sramUe m a w
  | none => (s.each (sramWords a n) sramMend).okResp (BitVec.ofNat 32 (s.le a n))

/-- A read of `n` bytes of the NOR window (R105, R106). -/
def norRead (s : State) (m : Master) (a n : Nat) : State :=
  if (List.range n).all (fun i => norReader m (a + i)) then s.okResp (BitVec.ofNat 32 (s.le a n)) else s.errResp m false a .prot

end State

end Sys2Proof.Machine
end

