-- ==== Sys2Proof/Machine/Sensing.lean ====
section
/-!
DEFINITION. Fast converters, windows, the tagged queue and the housekeeping round (chapter 5). What a window delivery, a carrier
event and a round's end do in other blocks is joined to these operations where those blocks stand.
-/
namespace Sys2Proof.Machine

/-- Locations: FAD channel or reference, FAQ, HKA converter. -/
def locFad (u : Nat) : Nat := loc 0 0 0 0x08 u
def locFaq : Nat := locBlk 0 0x09
def locHka (c : Nat) : Nat := loc 0 0 0 0x0A c

namespace State

def winSrc (s : State) (g : Nat) : WinSrc := s.sens.src.read (fun _ => {}) g
def updSrc (s : State) (g : Nat) (f : WinSrc → WinSrc) : State :=
  { s with sens := { s.sens with src := s.sens.src.write (fun _ => {}) g (f (s.winSrc g)) } }
def fast (s : State) (c : Nat) : FastCh := s.sens.ch.read (fun _ => {}) c
def updFast (s : State) (c : Nat) (f : FastCh → FastCh) : State :=
  { s with sens := { s.sens with ch := s.sens.ch.write (fun _ => {}) c (f (s.fast c)) } }

/-! ### Windows -/

/-- The enabled channels that follow a window source (R176, R181). -/
def followers (s : State) (g : Nat) : List Nat :=
  (List.range 32).filter fun c => s.fld (R.FAD_CH_CFG_GRP c) == g && s.on (R.FAD_CH_CFG_EN c)

/-- Live window mode of a group (R176). -/
def wmode (s : State) (g : Nat) : Nat := s.liveFld (R.PG_CAR_WMODE g)

/-- Whether conversions accumulate for a source: the tick always, a group once its carrier has started, with a window defined. -/
def accumulates (s : State) (g : Nat) : Bool :=
  g == 15 || ((s.winSrc g).started && s.on (R.PG_STAT_CAR_RUN g) && s.wmode g != 0)

/-- The average of a window: S × 16 / N rounded to nearest, ties to even (R180). -/
def average (sum : Int) (n : Nat) : Int :=
  let q : Int := rne (sum.natAbs * 16) n
  if sum < 0 then -q else q

/-- A channel's accumulator is emptied. -/
def clearFast (s : State) (c : Nat) : State := s.updFast c fun f => { f with sum := 0, n := 0, ovr := false, nref := false }

/-- A window closes (R179, R180, R183): its channels' averages await delivery and the next window opens. -/
def closeWindow (s : State) (g : Nat) (long : Bool) : State :=
  let seq := ((s.winSrc g).seq + 1) % 256
  let chs := (s.followers g).filter fun c => (s.fast c).n != 0
  let rec_ : Closed := { seq := seq, long := long, chans := chs.map fun c =>
    let f := s.fast c; (c, average f.sum f.n, f.n, f.ovr, f.nref) }
  let s := s.each (s.followers g) clearFast
  s.updSrc g fun w => { w with seq := seq, n := 0, closePend := false, closed := w.closed ++ [rec_] }

/-- The present conversion's sample instant has passed and its end is to come (R171). -/
def sampled (s : State) : Bool := 24 ≤ s.fld R.FAD_GRID_PHASE && !s.sens.ended

/-- The first carrier period start after the carrier's start: accumulation begins with the next sample instant (R176, R177). -/
def beginWindows (s : State) (g : Nat) : State := s.updSrc g fun w => { w with started := true, skip := s.sampled }

/-- A window boundary (R176–R179), none before accumulation has begun: one that the delivery came ahead of is already closed; one after a
sample instant waits for that conversion's end. -/
def windowBoundary (s : State) (g : Nat) : State :=
  let w := s.winSrc g
  if g ≠ 15 ∧ ¬w.started then s
  else if w.pre then s.updSrc g fun w => { w with pre := false }
  else if s.sampled then s.updSrc g fun w => { w with closePend := true }
  else s.closeWindow g false

/-- A boundary that stood as scheduled before a resynchronisation comes (R177). -/
def schedBoundary (s : State) (g : Nat) : State :=
  if (s.winSrc g).sched.contains s.now then (s.updSrc g fun w => { w with sched := w.sched.filter (s.now < ·) }).windowBoundary g else s

/-- The value an average takes in its input port: q/16 × GAIN + OFS, one rounding (R181). -/
def portValue (s : State) (c : Nat) (q : Int) : Word :=
  (((Ev.fin q 4 false).mul (Ev.of (s.rd (R.FAD_CH_GAIN c)))).add (Ev.of (s.rd (R.FAD_CH_OFS c)))).round.bits

/-! ### Tagged queue -/

/-- The queue's counters as it stands (R205). -/
def showFaq (s : State) : State :=
  let n := s.sens.faq.length
  let hd := (s.sens.faq.head?.map Prod.snd).getD 0
  (((s.setFld R.FAQ_STAT_COUNT n).setFld R.FAQ_STAT_FULL (b2n (n == 512))).setFld R.FAQ_STAT_WAITING s.sens.waits.length).wr
    R.FAQ_HEAD1 hd

/-- An entry is lost and counted (R186). -/
def faqLost (s : State) : State :=
  let s := (s.inc R.FAQ_LOST_COUNT).evt .faq 0 E.FAQ_LOST
  s.post 0x1021 locFaq (s.fld R.FAQ_LOST_COUNT)

/-- An entry for the fall-back waits for its slot, if fewer than 64 wait (R186). -/
def faqWait (s : State) (e : Word × Word) : State :=
  if !s.sens.faqDead && s.on R.FAQ_CTL_DMA_EN && s.sens.waits.length < 64 then (s.updSens fun x => { x with waits := x.waits ++ [e] }) else s.faqLost

/-- One entry goes to the queue or to the fall-back (R184, R185); after an error of the fall-back it is lost (R187). -/
def faqPush (s : State) (e : Word × Word) : State :=
  if s.sens.faqDead then s.faqLost
  else if s.on R.FAQ_STAT_ON_DMA || !s.sens.waits.isEmpty then s.faqWait e
  else if s.on R.FAQ_CTL_EN && s.sens.faq.length < 512 then
    let s := s.updSens fun x => { x with faq := x.faq ++ [e] }
    if s.sens.faq.length = s.fld R.FAQ_CTL_LEVEL then s.evt .faq 0 E.FAQ_LEVEL else s
  else if s.on R.FAQ_CTL_DMA_EN then s.faqWait e
  else if s.on R.FAQ_CTL_EN then s.faqLost
  else s

/-- Bus address of a slot of the fall-back buffer (R186). -/
def faqSlot (s : State) (i : Nat) : Nat := s.fld R.FAQ_DMA_BASE_ADDR + 8 * i
/-- Slots of the buffer. -/
def faqSlots (s : State) : Nat := 2 ^ s.fld R.FAQ_DMA_SIZE_LOG2

/-- Whether an entry stands before another in the order of channels. -/
def faqBefore (a b : Word × Word) : Bool := getBits a.1 23 5 < getBits b.1 23 5

/-- An entry put into its place by channel. -/
def faqInsert (e : Word × Word) : List (Word × Word) → List (Word × Word)
  | [] => [e]
  | x :: xs => if faqBefore e x then e :: x :: xs else x :: faqInsert e xs

/-- How many of the entries taken on this clock are still in the queue, and how many still wait. -/
def faqFresh (s : State) : Nat × Nat :=
  let (t, q, w) := s.sens.faqAt
  if t = s.now then (min q s.sens.faq.length, min w s.sens.waits.length) else (0, 0)

/-- The fall-back ends as an entry arrives, if nothing waits and its last slot is consumed (R185). -/
def faqEnd (s : State) : State :=
  let last := (s.fld R.FAQ_DMA_WR_INDEX + s.faqSlots - 1) % s.faqSlots
  if s.on R.FAQ_STAT_ON_DMA && s.sens.waits.isEmpty && !bitAt (s.le (s.faqSlot last) 4) 31 then s.setFld R.FAQ_STAT_ON_DMA 0 else s

/-- The entries of one source's delivery; those of one clock enter in ascending channel order, whichever source delivered first (R184). -/
def faqEntries (s : State) (l : List (Word × Word)) : State :=
  if l.isEmpty then s
  else
    let (q, w) := s.faqFresh
    let fq := s.sens.faq
    let fw := s.sens.waits
    let nq := fq.length - q
    let nw := fw.length - w
    let all := l.foldl (fun r e => faqInsert e r) (fq.drop nq ++ fw.drop nw)
    let s := if q + w = 0 then s.faqEnd else s.updSens fun x => { x with faq := fq.take nq, waits := fw.take nw }
    let s := all.foldl faqPush s
    (s.updSens fun x => { x with faqAt := (s.now, x.faq.length - nq, x.waits.length - nw) }).showFaq

/-- Words 0 and 1 of an entry (R205). -/
def faqWords (g seq : Nat) (long : Bool) (e : Nat × Int × Nat × Bool × Bool) : Word × Word :=
  let (c, q, n, ovr, nref) := e
  (BitVec.ofNat 32 (unsigned 20 q + b2n ovr * 2 ^ 20 + b2n nref * 2 ^ 21 + b2n long * 2 ^ 22 + c * 2 ^ 23 + 2 ^ 31),
   BitVec.ofNat 32 (seq + n * 2 ^ 8 + g * 2 ^ 24))

/-- A channel's average reaches its port, LAST and N (R179, R181, R182). -/
def deliverCh (s : State) (seq : Nat) (long : Bool) (e : Nat × Int × Nat × Bool × Bool) : State :=
  let (c, q, n, ovr, nref) := e
  let s := s.updFast c fun f => { f with port := s.portValue c q }
  let s := s.wr (R.FAD_CH_LAST c) (BitVec.ofNat 32 (unsigned 20 q + 2 ^ 20 + b2n ovr * 2 ^ 21 + b2n nref * 2 ^ 22
    + b2n long * 2 ^ 23 + seq * 2 ^ 24))
  s.wr (R.FAD_CH_N c) (BitVec.ofNat 32 (n + seq * 2 ^ 24))

/-- Delivery of the oldest closed window of a source, 16 clocks after its last conversion's end (R179), to the channels that still follow
it (R181); where its boundary is still to come the window closes now. The flag says whether a trigger follows, the record what was delivered. -/
def deliverWindow (s : State) (g : Nat) : State × Option Closed :=
  let s := if (s.winSrc g).closed.isEmpty && s.accumulates g && !(s.winSrc g).pre then
      (s.closeWindow g false).updSrc g fun w => { w with pre := true }
    else s
  match (s.winSrc g).closed with
  | [] => (s, none)
  | w :: rest =>
    let s := s.updSrc g fun x => { x with closed := rest }
    let chans := w.chans.filter fun e => (s.followers g).contains e.1
    let s := chans.foldl (fun s e => s.deliverCh w.seq w.long e) s
    let q := chans.filter fun e => s.on (R.FAD_CH_CFG_FAQ_EN e.1)
    (s.faqEntries (q.map (faqWords g w.seq w.long)), some w)

/-! ### Conversions -/

/-- One result of a conversion: the code, clipped and marked OVR where the input lies beyond the range (R172). -/
def convert (s : State) (c : Nat) (k : Int) : State :=
  let clip := k < -32768 || 32767 < k
  let code := max (-32768) (min 32767 k)
  let s := s.wr (R.FAD_CH_RAW c) (BitVec.ofNat 32 (unsigned 16 code + b2n clip * 2 ^ 16))
  let s := if clip then
      let s := (s.setFld ⟨R.FAD_OVR, c, 1⟩ 1).evt .fad 0 E.FAD_OVR
      if s.on (R.FAD_CH_CFG_OVR_EVT c) then s.post 0x1020 (locFad c) c else s
    else s
  let g := s.fld (R.FAD_CH_CFG_GRP c)
  if s.on (R.FAD_CH_CFG_EN c) && s.accumulates g && !(s.winSrc g).skip then
    let bad := !s.on R.FAD_REF_REF_RDY
    s.updFast c fun f => { f with sum := f.sum + code, n := f.n + 1, ovr := f.ovr || clip, nref := f.nref || bad }
  else s

/-- Sources with a window. -/
def sources : List Nat := List.range 12 ++ [15]

end State

/-- A window has reached 8191 conversions (R180): it closes, marked LONG. -/
def execLongWindowClose (src : Fin 16) (s : State) : Out :=
  .next (if 8191 ≤ (s.winSrc src).n then s.closeWindow src true else s)

/-- A write of FAD_REF.SEL (R173). -/
def execReferenceSelect (m : Master) (sel : Fin 4) (s : State) : Out :=
  .next (s.write m R.FAD_REF [(sel.val = 3, .range), (s.anyArmed, .state)] fun s =>
    ((s.setFld R.FAD_REF_SEL sel).setFld R.FAD_REF_REF_RDY 0).updSens fun x => { x with refBad := false })

/-- The window of the selected reference, in units of 100 µV (R173). -/
def State.refWindow (s : State) : Nat × Nat :=
  if s.fld R.FAD_REF_SEL = 0 then (24950, 25050) else if s.fld R.FAD_REF_SEL = 1 then (24000, 26000) else (24625, 25375)
/-- A measured value lies inside it. -/
def State.refInside (s : State) (meas : Nat) : Bool := s.refWindow.1 ≤ meas && meas ≤ s.refWindow.2

/-- The reference has stayed in its window for the settling time (R173); `meas` is its measured value in units of 100 µV. -/
def execReferenceReady (meas : Fin 65536) (s : State) : Out :=
  .next (if s.on R.FAD_REF_REF_RDY || !s.refInside meas then s
    else (((((s.updSens fun x => { x with refBad := false }).setFld R.FAD_REF_REF_RDY 1).setFld R.FAD_REF_MEAS_VALUE meas).evt .fad 0 E.FAD_REF_READY).post 0x0020
      (locFad 0x20) (s.fld R.FAD_REF_SEL)))

/-- The selected reference has left its window for 10 µs (R174). -/
def execRefFail (meas : Fin 65536) (s : State) : Out :=
  .next (if s.on R.FAD_REF_REF_RDY && !s.refInside meas then
    let s := (((s.updSens fun x => { x with refBad := true }).setFld R.FAD_REF_REF_RDY 0).setFld R.FAD_REF_MEAS_VALUE meas).flt .fad 0 F.FAD_REF_FAIL
    (s.post 0x3040 (locFad 0x20) (s.fld R.FAD_REF_SEL)).raise 5 State.allGroups
  else s)

/-- A read of FAD_CHn_LAST: FRESH clears for the page's agent (R182, R5). -/
def execLastRead (m : Master) (ch : Fin 32) (s : State) : Out :=
  .next ((if s.fullRead m .fad 0 then s.setFld (R.FAD_CH_LAST_FRESH ch) 0 else s).okResp (s.rd (R.FAD_CH_LAST ch)))

/-- A read of FAQ_POP0 (R184): the agent removes the head entry; an empty queue counts an underrun. -/
def State.faqPop (s : State) (m : Master) : State :=
  match s.sens.faq with
  | [] => (if s.fullRead m .faq 0 then (s.inc R.FAQ_UNDERRUN_COUNT).evt .faq 0 E.FAQ_UNDERRUN else s).okResp 0
  | (w0, w1) :: rest =>
    (if s.fullRead m .faq 0 then ((s.updSens fun x => { x with faq := rest }).wr R.FAQ_POP1 w1).showFaq else s).okResp w0
def execFaqPop (m : Master) (s : State) : Out := .next (s.faqPop m)

/-- A write of FAQ_CTL.DISCARD = 1: the queue empties without counting (R205). -/
def execFaqDiscard (m : Master) (s : State) : Out :=
  .next (s.write m R.FAQ_CTL [] fun s => (s.updSens fun x => { x with faq := [] }).showFaq)

/-- The core named by the FAQ page's agent, as a DMA master (R187). -/
def State.faqDma (s : State) : Master :=
  .dma (if s.fld (hdr .faq 0 0x08 3 2) = 0 then .ta else if s.fld (hdr .faq 0 0x08 3 2) = 1 then .tb else .mc)

/-- The fall-back writes its oldest waiting entry, word 1 first (R186): into a free slot, else it is lost. An access that receives an
error response ends the fall-back: what waits is lost, and so is every later entry (R187). With the fall-back disabled an entry that waits is lost. -/
def execFaqFallbackWrite (s : State) : Out :=
  .next (match s.sens.waits with
    | [] => s
    | (w0, w1) :: rest =>
      let i := s.fld R.FAQ_DMA_WR_INDEX
      let a := s.faqSlot i
      let s := s.updSens fun x => { x with waits := rest }
      if !s.on R.FAQ_CTL_DMA_EN then s.faqLost.showFaq
      else if !(inSram a && inSram (a + 7) && sramWriter s.faqDma a) then
        let s := (s.errResp s.faqDma true (a + 4) (if inSram (a + 4) then .prot else .unmapped)).setFld R.FAQ_CTL_DMA_EN 0
        let s := ((s.flt .faq 0 F.FAQ_DMA_ERR).post 0x2020 locFaq (a + 4)).updSens fun x => { x with waits := [], faqDead := true }
        (((w0, w1) :: rest).foldl (fun s _ => s.faqLost) s).showFaq
      else if bitAt (s.le a 4) 31 then s.faqLost.showFaq
      else
        let s := (s.setLe (a + 4) w1.toNat 4).setLe a w0.toNat 4
        let s := s.setFld R.FAQ_DMA_WR_INDEX ((i + 1) % s.faqSlots)
        let s := if s.on R.FAQ_STAT_ON_DMA then s
          else ((s.setFld R.FAQ_STAT_ON_DMA 1).evt .faq 0 E.FAQ_FALLBACK).post 0x1022 locFaq (s.fld R.FAQ_DMA_WR_INDEX)
        s.showFaq)

/-! ### Housekeeping -/

/-- The natural logarithm of `m / 2^64` for 1 ≤ m/2^64 < 2, in units of 2^-64: 2 atanh((m − 1)/(m + 1)). -/
def lnMant (m : Nat) : Int :=
  let z : Int := ((m - 2 ^ 64) * 2 ^ 64 / (m + 2 ^ 64) : Nat)
  ((List.range 40).foldl (fun (p : Int × Int) j => (p.1 + 2 * p.2 / (2 * j + 1 : Nat), p.2 * z / 2 ^ 64 * z / 2 ^ 64)) (0, z)).1

/-- ln(n/d) in units of 2^-64, n and d positive. -/
def lnQ (n d : Nat) : Int :=
  let e : Int := (log2 n : Int) - (log2 d : Int)
  let lo : Bool := if 0 ≤ e then n < d * 2 ^ e.toNat else n * 2 ^ (-e).toNat < d
  let e := if lo then e - 1 else e
  let m := if 0 ≤ e then n * 2 ^ 64 / (d * 2 ^ e.toNat) else n * 2 ^ (-e).toNat * 2 ^ 64 / d
  -- ln 2 in units of 2^-64
  lnMant m + e * 12786308645202655660

/-- Open and short of a temperature input (R190). -/
def tempOpen (ntc : Bool) (code : Nat) : Bool := if ntc then 2490 * 65520 ≤ code * 2500 else 4500 * 65520 < code * 5000
def tempShort (ntc : Bool) (code : Nat) : Bool := if ntc then code * 1000 ≤ 65520 else code * 5000 < 500 * 65520

/-- Temperature in units of 1/16 °C, rounded down, and whether that is exact (R190): PT1000. -/
def pt1000 (code : Nat) : Int × Bool :=
  let q := (39083000 ^ 2 * 13104 + 231 * 10 ^ 12 * (13104 - (code : Int))).toNat
  let root := isqrt (q * 2 ^ 80 / 13104)
  let exact := root * root * 13104 == q * 2 ^ 80
  let n : Int := 16 * (39083000 * 2 ^ 40 - (root : Int) - b2n (!exact))
  (n / (11550 * 2 ^ 40), exact && n % (11550 * 2 ^ 40) == 0)

/-- The same for an NTC of nominal resistance `rn` (units of 10 Ω) and constant `b`; none where the formula has no value. -/
def ntcTemp (rn b code : Nat) : Option Int :=
  if code = 0 ∨ 65520 ≤ code ∨ rn = 0 then none
  else
    let l := lnQ (1000 * code) ((65520 - code) * rn)
    let d : Int := 100 * b * 2 ^ 64 + 29815 * l
    if d ≤ 0 then none else some ((16 * 29815 * b * 2 ^ 64 * 100 - 16 * 27315 * d) / (100 * d))

namespace State

/-- The temperature of HK(40 + k) (R190). The manual leaves the rounding to 1/16 °C open: either neighbour. -/
def tempInput (s : State) (k code : Nat) (seq : Nat) : State :=
  let ntc := bitAt (s.fld R.HKA_TSEL_NTC) k
  let op := tempOpen ntc code
  let sh := tempShort ntc code
  let s := (s.setFld ⟨R.HKA_OPEN, k, 1⟩ (b2n op)).setFld ⟨R.HKA_OPEN, 8 + k, 1⟩ (b2n sh)
  let s := s.setFld (R.HKA_TEMP_SEQ k) seq
  if op || sh then
    ((s.setFld (R.HKA_TEMP_VALID k) 0).evt .hka 0 E.HKA_TEMP_OPEN).post 0x1023 (locHka 1) (40 + k + b2n sh * 2 ^ 8)
  else
    let t := if ntc then (ntcTemp (s.fld (R.HKA_NTC_NOM_RES k)) (s.fld (R.HKA_NTC_BETA k)) code).map fun t => (t, false)
      else some (pt1000 code)
    let v := match t with
      | some (t, exact) => unsigned 16 (t + b2n (!exact && bitAt s.freeVal.toNat 0))
      | none => s.freeVal.toNat
    ((s.setFld (R.HKA_TEMP_TEMP k) v).setFld (R.HKA_TEMP_VALID k) 1).tookFree

/-- The code of a mirror slot: its channel's latest average as a whole code plus 32768 (R189). -/
def mirrorCode (s : State) (k : Nat) : Nat :=
  if s.on (R.HKA_MIR_EN k) then
    let q := signed 20 (s.fld (R.FAD_CH_LAST_AVG (s.fld (R.HKA_MIR_CH k))))
    let w : Int := rne q.natAbs 16
    ((if q < 0 then -w else w) + 32768).toNat
  else 0

/-- The code an input's slot stores: what the converter summed, 0 for a reserved input, the mirrored average (R189). -/
def hkCode (s : State) (n code : Nat) : Nat :=
  if (23 ≤ n ∧ n < 40) ∨ n = 46 ∨ n = 47 then 0 else if 48 ≤ n then s.mirrorCode (n - 48) else min code 65520

/-- The results of one slot: input `n` (R188–R190). -/
def hkStore (s : State) (n code : Nat) : State :=
  let c := s.hkCode n code
  let seq := s.sens.hkRound % 256
  let s := s.wr (R.HKA_IN n) (BitVec.ofNat 32 (c + seq * 2 ^ 16 + 2 ^ 24))
  if 40 ≤ n ∧ n < 46 then s.tempInput (n - 40) c seq else s

end State

/-- A housekeeping round starts (R188). -/
def execHkRoundStart (s : State) : Out :=
  .next (if s.on R.HKA_STAT_BUSY || s.shed then s
    else (s.setFld R.HKA_STAT_BUSY 1).updSens fun x => { x with hkSlot := 0, hkRound := x.hkRound + 1 })

/-- The round has not completed within twice its period (R191). -/
def execHkStall (conv : Fin 2) (s : State) : Out :=
  .next (if s.on R.HKA_STAT_BUSY && !s.shed then
    (((s.updSens fun x => { x with hkLate := true }).flt .hka 0 F.HKA_HK_STALL).post 0x3042 (locHka conv) conv).raise 6 State.allGroups
  else s)

end Sys2Proof.Machine
end

