-- ==== Sys2Proof/Machine/Monitors.lean ====
section
/-!
DEFINITION. Window monitors (R192–R201): trips, latches, pulse-terminate requests and self-checks.
-/
namespace Sys2Proof.Machine

namespace State

def mon (s : State) (k : Nat) : Mon := s.sens.mon.read (fun _ => {}) k
def updMon (s : State) (k : Nat) (f : Mon → Mon) : State :=
  { s with sens := { s.sens with mon := s.sens.mon.write (fun _ => {}) k (f (s.mon k)) } }

/-- The state field, the enable and the latch of a comparator (R209); states: 0 CLEAR, 1 TRIPPED, 2 UNRESOLVED, 3 disabled. -/
def monStateFld (k : Nat) (hi : Bool) : Fld := if hi then R.WMA_STAT_HI_STATE k else R.WMA_STAT_LO_STATE k
def monOnFld (k : Nat) (hi : Bool) : Fld := if hi then R.WMA_CFG_HI_EN k else R.WMA_CFG_LO_EN k
def monLatchFld (k : Nat) (hi : Bool) : Fld := if hi then R.WMA_STAT_LATCH_HI k else R.WMA_STAT_LATCH_LO k
def monState (s : State) (k : Nat) (hi : Bool) : Nat := s.fld (monStateFld k hi)
/-- A comparator that is enabled, in an enabled monitor. -/
def monOn (s : State) (k : Nat) (hi : Bool) : Bool := s.on (R.WMA_CFG_EN k) && s.on (monOnFld k hi)
/-- A monitor with a latch set. -/
def monLatched (s : State) (k : Nat) : Bool := s.on (R.WMA_STAT_LATCH_HI k) || s.on (R.WMA_STAT_LATCH_LO k)

/-- The monitor requests pulse termination of a group: a latch is set, or a comparator is UNRESOLVED (R193, R198). -/
def monRequests (s : State) (k g : Nat) : Bool :=
  s.on (R.WMA_CFG_EN k) && s.on (R.WMA_CFG_PT_EN k) && s.fld (R.WMA_CFG_GRP k) == g
    && (s.monLatched k || (s.monOn k true && s.monState k true == 2) || (s.monOn k false && s.monState k false == 2))
/-- A pulse-terminate request is present at a group (R222). -/
def ptRequest (s : State) (g : Nat) : Bool := (List.range 32).any fun k => s.monRequests k g
/-- PG_STAT.PT of every group as the monitors stand. -/
def showPt (s : State) : State := s.each (List.range 12) fun s g => s.setFld (R.PG_STAT_PT g) (b2n (s.ptRequest g))

/-- The monitor stops its group from arming (R193, R198, R200). -/
def monBlocks (s : State) (g : Nat) : Bool :=
  (List.range 32).any fun k => s.on (R.WMA_CFG_EN k) && s.fld (R.WMA_CFG_GRP k) == g &&
    (s.monLatched k || (s.mon k).check != 0 || [true, false].any fun hi => s.monOn k hi && (s.monState k hi == 1 || s.monState k hi == 2))

/-- Trips are ignored during BLANK after each commanded edge of the group's legs, taken at its instant (R197). -/
def monBlanked (s : State) (k : Nat) : Bool :=
  let g := s.fld (R.WMA_CFG_GRP k)
  g < 12 && (s.grp g).lastEdges.any fun t => t ≤ s.now && s.now < t + 4 * s.fld (R.WMA_CFG_BLANK k)

/-- The groups of a monitor's line (R391): its own group, if it has one. -/
def monOwn (s : State) (k : Nat) : Nat := if s.fld (R.WMA_CFG_GRP k) < 12 then 2 ^ s.fld (R.WMA_CFG_GRP k) else 0

/-- The ceiling that AUX puts on the threshold of its peak monitor, in codes (R343). -/
def auxCeil (s : State) (k : Nat) : Option Nat :=
  if s.on R.AUX_CFG_EN && s.fld R.AUX_CFG_WM == k then
    (match s.fld R.AUX_STAT_STATE with
    | 1 | 2 => some (s.fld R.AUX_CEIL_CEIL_SS)
    | 3 => some (s.fld R.AUX_CEIL_CEIL_RUN)
    | _ => none)
  else none

/-- AUX's peak monitor latches: the period is current-limited while the ceiling is the lower term (R343, R348). -/
def auxLimited (s : State) (k : Nat) (hi : Bool) : State :=
  if hi && (s.auxCeil k).isSome && s.on R.AUX_STAT_CEIL && !s.conv.aux.limited then
    let s := { s.inc R.AUX_CNT_CL_TOTAL with conv := { s.conv with aux := { s.conv.aux with limited := true } } }
    if s.fld R.AUX_STAT_STATE = 2 then s.inc R.AUX_STAT_CL_CNT else s
  else s

/-- A comparator's trip sets its latch (R194, R198): flags, count, pulse termination and, with J2_EN = 1, the J2 fault. -/
def monLatch (s : State) (k : Nat) (hi : Bool) : State :=
  if s.on (monLatchFld k hi) then s
  else
    let s := (((s.setFld (monLatchFld k hi) 1).evt .wma 0 (E.WMA_TRIP + k)).inc (R.WMA_STAT_TRIP_CNT k)).auxLimited k hi
    if s.on (R.WMA_CFG_J2_EN k) then
      ((s.flt .wma 0 (F.WMA_TRIP_J2 + k)).post 0x3041 (loc 0 0 0 0x0B k) (k + b2n (!hi) * 2 ^ 5)).raise (96 + k) (s.monOwn k)
    else s

/-- A comparator becomes TRIPPED: it latches unless its trips are blanked. -/
def monTripped (s : State) (k : Nat) (hi : Bool) : State :=
  let s := s.setFld (monStateFld k hi) 1
  (if s.monBlanked k then s else s.monLatch k hi).showPt

/-- Both comparators return to UNRESOLVED, a disabled one to the code for disabled (R193, R209). -/
def monUnresolve (s : State) (k : Nat) : State :=
  (s.setFld (R.WMA_STAT_HI_STATE k) (if s.on (R.WMA_CFG_HI_EN k) then 2 else 3)).setFld (R.WMA_STAT_LO_STATE k)
    (if s.on (R.WMA_CFG_LO_EN k) then 2 else 3)

/-- An exchange word in units of VREF as a code, rounded to 1/16 code and clamped, in units of 1/16 code (R196); that of a NaN is open. -/
def monWord (s : State) (k : Nat) : Int :=
  match Ev.of ((s.ctx (s.fld (R.WMA_XSRC_CTX k))).xo.read (fun _ => 0) (s.fld (R.WMA_XSRC_IDX k))) with
  | .nan => 16 * signed 12 (s.freeVal.toNat / 2)
  | .inf n => if n then -2048 * 16 else 2047 * 16
  | .fin v e _ =>
    let r : Int := rne (v.natAbs * 2048 * 16) (2 ^ e)
    max (-2048 * 16) (min (2047 * 16) (if v < 0 then -r else r))

/-- The threshold a monitor with TH_SRC = 1 latches at a period start (R196): the converted exchange word, or AUX's ceiling where that is lower,
on its peak monitor (R343). TH_HI reads it as a whole code, whose rounding from 1/16 code the manual leaves open. -/
def monThreshold (s : State) (k : Nat) : State :=
  let word := s.monWord k
  let low : Bool := (s.auxCeil k).any fun c => 16 * (c : Int) < word
  let th : Int := if low then 16 * ((s.auxCeil k).getD 0 : Nat) else word
  let s := if (s.auxCeil k).isSome then s.setFld R.AUX_STAT_CEIL (b2n low) else s
  let s := s.updMon k fun r => { r with th := some th }
  (s.setFld (R.WMA_TH_TH_HI k) (unsigned 12 (th / 16 + b2n (th % 16 != 0 && bitAt s.freeVal.toNat 0)))).tookFree

/-- The effective high threshold in units of 1/16 code: the register or the latched word, less the ramp since the carrier's period start, no
lower than −2048 codes (R195, R196). To which of its neighbours the 1/16 code is rounded is open: `up` says so. -/
def monHigh (s : State) (k : Nat) (up : Bool) : Int :=
  let reg := 16 * s.fldI (R.WMA_TH_TH_HI k)
  let th := if s.on (R.WMA_CFG_TH_SRC k) then (s.mon k).th.getD reg else reg
  let g := s.fld (R.WMA_CFG_GRP k)
  let clocks := if g < 12 then (s.grp g).start.elim 0 (s.now - ·) else 0
  let fall := 16 * s.fld (R.WMA_RAMP_SLOPE k) * clocks
  max (-2048 * 16) (th - (fall / 1024 : Nat) - b2n (fall % 1024 != 0 && !up))

/-- VREF in µV as the reference was last measured, 2.500 V before it has been (log entry 74). -/
def vref (s : State) : Int := if s.fld R.FAD_REF_MEAS_VALUE = 0 then 2500000 else 100 * s.fld R.FAD_REF_MEAS_VALUE

/-- What an input of `x` µV means to a comparator (R192): beyond the threshold it trips, back by the hysteresis it releases, between them
neither. -/
def monSide (s : State) (k : Nat) (hi : Bool) (x : Int) : Option Bool :=
  let hys : Int := ([0, 5000, 10000, 20000].getD (s.fld (R.WMA_CFG_HYS k)) 0 : Nat)
  let t : Int := if hi then s.monHigh k (bitAt s.freeVal.toNat 0) else -(16 * s.fldI (R.WMA_TH_TH_LO k))
  let y := if hi then x else -x
  if t * s.vref < y * 32768 then some true else if (y + hys) * 32768 < t * s.vref then some false else none

/-- A comparator looks at its input: the level of fast input `ch` (R192). -/
def monLooks (s : State) (k : Nat) (hi : Bool) (ch : Nat) (x : Int) : Option Bool :=
  if s.monOn k hi && !s.shed && (s.mon k).check == 0 && s.fld (R.WMA_CFG_SRC k) == ch then s.monSide k hi x else none

/-- What a carrier period start does to the monitors of its group (R194, R196): thresholds are latched, and latches of LATCH_MODE 1
clear unless their comparator is still TRIPPED. -/
def monPeriod (s : State) (g : Nat) : State :=
  (s.each ((List.range 32).filter fun k => s.fld (R.WMA_CFG_GRP k) == g) fun s k =>
    let s := if s.on (R.WMA_CFG_TH_SRC k) then s.monThreshold k else s
    if s.on (R.WMA_CFG_EN k) && s.on (R.WMA_CFG_LATCH_MODE k) then
      s.each [0, 1] fun s b =>
        let hi := b == 1
        if s.monState k hi == 1 then s else s.setFld (monLatchFld k hi) 0
    else s).showPt

/-- A self-check starts: mode 1 swap, 2 tie-off (R200). -/
def monCheck (s : State) (m : Master) (k mode : Nat) : State :=
  s.write m (R.WMA_CHK k) [(s.armed (s.fld (R.WMA_CFG_GRP k)), .state), ((s.mon k).check != 0, .busy)] fun s =>
    let unres := [true, false].any fun hi => s.monOn k hi && s.monState k hi == 2
    let s := (s.updMon k fun r => { r with check := mode, unres := unres }).setFld (R.WMA_STAT_CHECK_BUSY k) 1
    s.setFld (if mode = 1 then R.WMA_CHK_SWAP k else R.WMA_CHK_TIE k) 1

end State

/-- Fast input `ch` at `x` µV lies beyond a comparator's threshold (R192, R194, R198): a CLEAR comparator trips; one left TRIPPED by blanking
latches once the blanking is over. A monitor under check neither latches nor raises a fault. -/
def execMonitorTrip (k : Fin 32) (hi : Bool) (ch : Fin 32) (x : Int) (s : State) : Out :=
  .next (if s.monLooks k hi ch x = some true ∧ s.monState k hi < 2 then (s.monTripped k hi).tookFree else s.tookFree)

/-- The input returns inside a tripped comparator's threshold by its hysteresis (R192). -/
def execMonitorRelease (k : Fin 32) (hi : Bool) (ch : Fin 32) (x : Int) (s : State) : Out :=
  .next (if s.monLooks k hi ch x = some false ∧ s.monState k hi = 1 then ((s.setFld (State.monStateFld k hi) 0).showPt).tookFree
  else s.tookFree)

/-- An UNRESOLVED comparator's input is first seen outside its hysteresis band (R193): it resolves to TRIPPED, which is a trip, or to
CLEAR. After a failed check it stays UNRESOLVED (R200). -/
def execMonitorResolve (k : Fin 32) (hi : Bool) (ch : Fin 32) (x : Int) (s : State) : Out :=
  .next (if !(s.mon k).failed ∧ s.monState k hi = 2 then
    (match s.monLooks k hi ch x with
    | some true => (s.monTripped k hi).tookFree
    | some false => ((s.setFld (State.monStateFld k hi) 0).showPt).tookFree
    | none => s.tookFree)
  else s.tookFree)

/-- A write of WMA_CHKn.SWAP = 1 (R200, R201). -/
def execMonitorSwapCheck (m : Master) (k : Fin 32) (s : State) : Out := .next (s.monCheck m k 1)
/-- A write of WMA_CHKn.TIE = 1 (R200, R201). -/
def execMonitorTieCheck (m : Master) (k : Fin 32) (s : State) : Out := .next (s.monCheck m k 2)

/-- A self-check ends (R200): `pass` is what its comparators showed; a swap check with a comparator UNRESOLVED at its start is
INCONCLUSIVE. -/
def execMonitorCheckDone (k : Fin 32) (pass : Bool) (s : State) : Out :=
  .next (
    let r := s.mon k
    if r.check = 0 then s
    else
      let inconclusive := r.check = 1 && r.unres
      let res := if inconclusive then 3 else if pass then 1 else 2
      let s := ((s.setFld (R.WMA_STAT_CHECK_BUSY k) 0).setFld (R.WMA_STAT_CHECK_RESULT k) res).wr (R.WMA_CHK k) 0
      let s := s.updMon k fun r => { r with check := 0, failed := if res = 1 then false else r.failed || res = 2 }
      let s := if res = 2 then s.post 0x2021 (loc 0 0 0 0x0B k) (k + b2n (r.check == 2) * 2 ^ 8) else s
      (s.monUnresolve k).showPt)

end Sys2Proof.Machine
end

