-- ==== Sys2Proof/Machine/Pwm.lean ====
section
/-!
DEFINITION. Power groups: carriers, the edge guard, arming and disarming (R211–R231). What arming and disarming mean to other blocks is
joined where those blocks stand.
-/
namespace Sys2Proof.Machine

/-- Location of a group's events. -/
def locPg (g : Nat) : Nat := loc 0 0 0 (0x10 + g) 0x3F

/-- The level of a slot as a function of the carrier phase (R216): it rises at `rise`, stays high for `high` of every `period` units. -/
structure Wave where
  period : Nat
  rise : Nat
  high : Nat
  /-- With nothing high there is still a pulse of zero width at the rise (centre mode). -/
  zero : Bool := false
  deriving DecidableEq, Repr

/-- The level function of a carrier mode: 0 centre, 1 trailing, 2 leading, 3 phase. -/
def waveOf (mode prd cmp : Nat) : Wave :=
  match mode with
  | 0 => { period := 2 * (prd / 2), rise := cmp, high := 2 * (prd / 2) - 2 * cmp, zero := true }
  | 1 => { period := prd, rise := 0, high := min cmp prd }
  | 2 => { period := prd, rise := cmp, high := prd - cmp }
  | _ => { period := prd, rise := cmp, high := prd / 2 }

namespace Wave

/-- How far phase `p` lies after the last rise. -/
def since (w : Wave) (p : Nat) : Nat := (p % w.period + w.period - w.rise % w.period) % w.period
/-- The level at phase `p`. -/
def level (w : Wave) (p : Nat) : Bool := w.since p < w.high
/-- From phase `p`, units until the level function next changes; none if it never does. -/
def next (w : Wave) (p : Nat) : Option Nat :=
  if w.period ≤ w.high || (w.high == 0 && !w.zero) then none
  else if w.level p then some (w.high - w.since p) else some (w.period - w.since p)

/-- From phase `p`, units until the next change; a pulse of zero width begins and ends at its rise, at `p` itself too. -/
def change (w : Wave) (p : Nat) : Option Nat := if w.high = 0 ∧ w.zero ∧ w.since p = 0 then some 0 else w.next p

end Wave

namespace State

/-- The wave of a slot under the live compare. -/
def wave (s : State) (g k : Nat) : Wave := waveOf (s.liveFld (R.PG_CAR_CMODE g)) (s.grp g).prd (s.fld (R.PG_CMP_CMP g k))

/-! ### Carrier -/

/-- Counter position for a phase: centre mode counts up to HALF and down again (R215, R216). -/
def counterX (mode prd p : Nat) : Nat × Bool :=
  if mode = 0 then (if p ≤ prd / 2 then (p, false) else (2 * (prd / 2) - p, true)) else (p, false)

/-- PG_CNT as the phase stands (R242). -/
def showCnt (s : State) (g : Nat) : State :=
  let (x, dn) := counterX (s.liveFld (R.PG_CAR_CMODE g)) (s.grp g).prd (s.grp g).phase
  (s.setFld (R.PG_CNT_X g) x).setFld (R.PG_CNT_DOWN g) (b2n dn)

/-- One clock of a running carrier: 32 units (R215). -/
def carrierClock (s : State) (g : Nat) : State :=
  if s.on (R.PG_STAT_CAR_RUN g) then (s.updGrp g fun r => { r with phase := r.phase + 32 }).showCnt g else s

/-- The units of a period: in centre mode bit 0 of PRD is taken as 0 (R215). -/
def periodUnits (s : State) (g : Nat) : Nat := if s.liveFld (R.PG_CAR_CMODE g) = 0 then (s.grp g).prd / 2 * 2 else (s.grp g).prd

/-- The phase after a period start on this clock: since the instant its master has placed (R217), else what the carrier has run past the
period's end. -/
def startPhase (s : State) (g : Nat) : Nat :=
  let r := s.grp g
  let over_ := r.phase - s.periodUnits g
  match r.syncs.find? (· ≤ 32 * s.now) with
  | some t => 32 * s.now - t
  | none => if s.periodUnits g ≤ r.phase ∧ over_ < 32 then over_ else 0

/-- Clocks, after the present one and within the next 80, on which the counter as it stands meets an event that is a window boundary (R177):
they stand as scheduled when the group is resynchronised. -/
def scheduled (s : State) (g : Nat) : List Nat :=
  let p := (s.grp g).phase
  let at_ (x : Nat) : List Nat := if p + 32 ≤ x ∧ (x - p) / 32 ≤ 80 then [s.now + (x - p) / 32] else []
  (if s.wmode g = 1 ∨ s.wmode g = 3 then at_ (s.periodUnits g) else [])
    ++ (if s.wmode g = 2 ∨ s.wmode g = 3 then at_ ((s.grp g).prd / 2) else [])

/-- A period start on this clock is placed by the group's master, and the group's own counter was not at its own (R217). -/
def jumps (s : State) (g : Nat) : Bool := ((s.grp g).syncs.any (· ≤ 32 * s.now)) && (s.grp g).phase + 32 ≤ s.periodUnits g

/-- The windows at a period start (R176, R177): accumulation begins at the first, a later one is a boundary if the mode says so; a jump moves
only the boundaries not yet scheduled. -/
def periodWindow (s : State) (g : Nat) (jump : Bool) (left : List Nat) : State :=
  if !(s.winSrc g).started then s.beginWindows g
  else if jump then s.updSrc g fun w => { w with sched := w.sched ++ left }
  else if s.wmode g = 1 ∨ s.wmode g = 3 then s.windowBoundary g else s

/-- A group's carrier reaches its period start (R213, R215): the phase begins again, the live PRD becomes the period in force, the
period is counted, thresholds are latched and per-period latches cleared, and the window boundary falls here if so defined. -/
def periodStartOne (s : State) (g : Nat) : State :=
  let jump := s.jumps g
  let left := s.scheduled g
  let s := s.updGrp g fun r => { r with phase := s.startPhase g, prd := s.liveFld (R.PG_PRD_PRD g), start := some s.now,
                                         syncs := r.syncs.filter (32 * s.now < ·) }
  let s := ((s.setFld (R.PG_STAT_PCOUNT g) ((s.fld (R.PG_STAT_PCOUNT g) + 1) % 2 ^ 16)).showCnt g).monPeriod g
  s.periodWindow g jump left

/-- The running groups that follow `g` (R217). -/
def followersOf (s : State) (g : Nat) : List Nat :=
  (List.range 12).filter fun f => s.on (R.PG_STAT_CAR_RUN f) && s.liveFld (R.PG_SYNC_MASTER f) == g

/-- A period start and those it places (R217): OFFSET units after its instant, on this clock where that has come, else with the follower's
own command; `fuel` bounds the chain of masters. -/
def periodStart : Nat → State → Nat → State
  | 0, s, g => s.periodStartOne g
  | n + 1, s, g =>
    let s := s.periodStartOne g
    let at_ := 32 * s.now - (s.grp g).phase
    (s.followersOf g).foldl (fun s f =>
      let t := at_ + s.liveFld (R.PG_SYNC_OFFSET f)
      let s := s.updGrp f fun r => { r with syncs := r.syncs ++ [t] }
      if t ≤ 32 * s.now then periodStart n s f else s) s

/-! ### Edge guard (R220) -/

/-- A pulse was suppressed or held (R241). -/
def guardEvt (s : State) (g : Nat) : State := s.evt .pg g E.PG_GUARD

/-- W: the larger of the minimum pulse and the slot's dead time; a single-channel slot has none (R220, R221). -/
def minGap (s : State) (g k : Nat) : Nat :=
  max (s.fld (R.PG_MINPW_MIN_PW g) * 32) (if s.slotUse g k = 0 then s.fld (slotDtFld g k) else 0)

/-- Whether the group's slots follow their level functions: ARMED, or SAFE in Hold (R220, R223). -/
def switching (s : State) (g : Nat) : Bool :=
  s.gstate g == 2 || (s.gstate g == 3 && s.fld (R.PG_STAT_SAFE_KIND g) == 4)

/-- A slot held low by a pulse-terminate request (R222). -/
def forcedLow (s : State) (g k : Nat) : Bool := s.ptRequest g && bitAt (s.fld (R.PG_PT_MASK g)) k

/-- A slot's present level, and whether it holds a suppressed or a held edge. -/
def slotLevel (s : State) (g k : Nat) : Bool := bitAt (s.fld (R.PG_LVL_LEVEL g)) k
def slotSupp (s : State) (g k : Nat) : Bool := bitAt (s.fld (R.PG_LVL_SUPP g)) k
def slotHeld (s : State) (g k : Nat) : Bool := bitAt (s.grp g).held k

/-- The slot's edge leaves for its die (R219, R220): the level changes at instant `t` in units of 1/32 clock. -/
def emitEdge (s : State) (g k : Nat) (t : Nat) : State :=
  let lv := !s.slotLevel g k
  let l := s.slotLeg g k
  let s := (s.setFld ⟨R.PG_LVL g, k, 1⟩ (b2n lv)).setFld ⟨R.PG_LVL g, 8 + k, 1⟩ 0
  let s := s.updGrp g fun r =>
    { r with tLast := r.tLast.insert k t, held := bitClr r.held k, lastEdges := ((t / 32) :: r.lastEdges).take 2 }
  s.send (legLink l) (.edge (legIdx l) lv t)

/-- What the guard finds from offset `o` of the present clock on: the offset within the clock at which an edge is due, if any, and whether
it is owed, the level differing from its function there already (R220). -/
def edgeAt (s : State) (g k o : Nat) : Option (Nat × Bool) :=
  let w := s.wave g k
  let p := (s.grp g).phase + o
  let forced := s.forcedLow g k
  if (w.level p && !forced) != s.slotLevel g k then some (o, true)
  else if forced then none
  else match w.change p with
    | some d => if o + d < 32 then some (o + d, false) else none
    | none => none

/-- The instant before which the slot's next edge is held: W after its previous one (R220). -/
def heldTo (s : State) (g k : Nat) : Nat :=
  ((s.grp g).tLast.find? fun e => e.1 == k).elim 0 fun e => e.2 + s.minGap g k

/-- The edge at offset `d` is placed, or suppressed where the pulse it would begin is shorter than W (R220, R222). -/
def placeEdge (s : State) (g k d : Nat) (owed : Bool) : State :=
  let w := s.wave g k
  let p := (s.grp g).phase + d
  let forced := s.forcedLow g k
  let pulse : Option Nat := if forced then none else if owed then w.next p else w.change p
  if pulse.any fun x => x < s.minGap g k then
    let again := owed && s.slotSupp g k
    let s := if pulse = some 0 then s else s.setFld ⟨R.PG_LVL g, 8 + k, 1⟩ 1
    let s := s.updGrp g fun r => { r with held := bitClr r.held k }
    if again then s else (s.inc (R.PG_GCNT_SUPPRESS g)).guardEvt g
  else
    -- the level already differed just before this clock, and nothing had kept the edge back
    let late := owed && d == 0 && !s.slotHeld g k && !s.slotSupp g k && (w.level (p + w.period - 1) != s.slotLevel g k)
    let s := s.emitEdge g k (32 * s.now + d)
    if forced then s.inc (R.PG_GCNT_PT g) else if late then s.inc (R.PG_GCNT_CATCHUP g) else s

/-- An edge due too soon after the one before it is held, and counted once (R220). -/
def holdEdge (s : State) (g k : Nat) : State :=
  if s.slotHeld g k then s else ((s.updGrp g fun r => { r with held := bitSet r.held k }).inc (R.PG_GCNT_HELD g)).guardEvt g

/-- One evaluation of a slot by the guard on the present clock (R220): owed or natural edge, hold, suppression, emission. A hold that ends
within the clock is evaluated again at its end. -/
def guardSlot (s : State) (g k : Nat) : State :=
  if !s.switching g || !s.slotUsed g k || s.slotDisabled g k then s
  else
    let idle (s : State) : State := (s.setFld ⟨R.PG_LVL g, 8 + k, 1⟩ 0).updGrp g fun r => { r with held := bitClr r.held k }
    let rel := s.heldTo g k
    match s.edgeAt g k 0 with
    | none => idle s
    | some (d, owed) =>
      if rel ≤ 32 * s.now + d then s.placeEdge g k d owed
      else
        let s := s.holdEdge g k
        if rel < 32 * s.now + 32 then
          match s.edgeAt g k (rel - 32 * s.now) with
          | none => idle s
          | some (d, owed) => s.placeEdge g k d owed
        else s

/-! ### Arming (R227, R228) -/

/-- A staged field of the group differs from its live value (R242 CFG_PEND). -/
def pgCfgPend (s : State) (g : Nat) : Bool :=
  [R.PG_SLOT0 g, R.PG_SLOT1 g, R.PG_CAR g, R.PG_PRD g, R.PG_SRC g, R.PG_SYNC g].any fun a => s.rd a != s.rdLive a

/-- Every link of the group's legs is UP, configured and calibrated. -/
def linksReady (s : State) (g : Nat) : Bool :=
  (s.linksOf g).all fun k => s.fld (R.NL_STAT_STATE k) == 2 && s.on (R.NL_STAT_CONFIGURED k) && s.on (R.NL_STAT_CAL_DONE k)

/-- A die that serves the group has a region mismatch (R240). -/
def regionBad (s : State) (g : Nat) : Bool :=
  (s.linksOf g).any fun k => s.on (R.NL_REG_TEMP_MM k) || s.on (R.NL_REG_OSC_MM k) || s.on (R.NL_REG_SUP_MM k)

/-- The conditions of R227 after the first, in order, each with its DENY code and whether it holds; FAULT also while a pair is split or
on its way (R436). -/
def armConds (s : State) (g : Nat) : List (Nat × Bool) :=
  let c := s.liveFld (R.PG_SRC_CTX g)
  [(2, s.on (R.PG_STAT_CAR_RUN g) && !s.pgCfgPend g && !(s.slots g).isEmpty
        && !(s.frozen && s.fld R.CAD_PERIOD_NEW_PERIOD != s.fld R.CAD_PERIOD_ACT_PERIOD)),
   (3, c < 160 && s.cstate c == 2),
   (4, s.on R.FAD_REF_REF_RDY),
   (5, !s.monBlocks g),
   (6, s.linksReady g),
   (7, (s.slots g).all fun k => (s.slotChans g k).all fun ch => s.on (chanReadyFld ch)),
   (8, s.fld R.PWR_DETACH_STAT_STATE == 0),
   (9, !s.blocked g && [0, 1].all fun p => s.fld (R.TND_STAT_STATE p) == 0 || 3 < s.fld (R.TND_STAT_STATE p)),
   (10, !s.regionBad g)]

/-- The DENY code of the first condition of R227 that fails; 0 where all hold. -/
def armDeny (s : State) (g : Nat) : Nat :=
  if s.gstate g ≠ 0 then 1 else match (s.armConds g).find? fun p => !p.2 with
    | some p => p.1
    | none => 0

/-- The low-side channels of the group's complementary LV slots, which the precharge turns on (R228). -/
def prechargeChans (s : State) (g : Nat) : List Nat :=
  ((s.slots g).filter fun k => s.slotUse g k == 0 && 0x20 ≤ s.slotLeg g k).map fun k => legLow (s.slotLeg g k)

/-- A group returns to OFF outside a safe state: event 0x0031 with the DENY code or 0 (R228, R229). -/
def disarmed (s : State) (g deny : Nat) : State :=
  ((s.groupOff g).evt .pg g E.PG_DISARMED).post 0x0031 (locPg g) (g + deny * 16)

/-- A write of PG_ARM.ARM = 1 by a party with the right to it (R227, R228): CFG frames go to the dies, and with them the low sides of the
precharge are to come on. -/
def armGroup (s : State) (m : Master) (g : Nat) : State :=
  let d := s.armDeny g
  if d ≠ 0 then
    (((s.errResp m true (R.PG_ARM g) .state).setFld (R.PG_STAT_DENY g) d).evt .pg g E.PG_ARM_DENIED).post 0x1030 (locPg g)
      (g + d * 16)
  else
    let s := s.okResp.setFld (R.PG_STAT_STATE g) 1
    let s := s.each (s.linksOf g) fun s k => s.send k .cfg
    let pre := s.prechargeChans g
    let s := s.each pre fun s c => s.updLeg (chanLeg c) fun r => { r with code := 1 }
    s.updGrp g fun r => { r with precharging := !pre.isEmpty, charged := pre.isEmpty }

/-- The group becomes ARMED at a carrier period start after its precharge (R228): its slots' levels are low, and its legs follow
edges from now on, but for those of a set that TRC has dropped (R311). A set that TRC has cleared is back in service (R314). -/
def armComplete (s : State) (g : Nat) : State :=
  let s := s.each ([0, 1].filter fun n => s.fld (R.TRC_CFG_GRP n) == g && (s.tracRec n).kept.isSome) fun s n =>
    s.updTrac n fun t => { t with kept := none }
  let s := (s.setFld (R.PG_STAT_STATE g) 2).updGrp g fun r => { r with tLast := [], held := 0 }
  let s := (s.setFld (R.PG_LVL_LEVEL g) 0).setFld (R.PG_LVL_SUPP g) 0
  let s := s.each (s.legsOf g) fun s l => (s.updLeg l fun r => { r with code := s.legSafeCode l, level := false }).applyLeg l false []
  (s.evt .pg g E.PG_ARMED).post 0x0030 (locPg g) g

/-- Whether a group has had its carrier period start on this clock. -/
def atPeriodStart (s : State) (g : Nat) : Bool := (s.grp g).start == some s.now

end State

/-- The half-period point (R215): a window boundary where the mode defines one. -/
def execHalfPeriodPoint (g : Fin 12) (s : State) : Out :=
  .next (if s.on (R.PG_STAT_CAR_RUN g) && (s.wmode g == 2 || s.wmode g == 3) then s.windowBoundary g else s)

/-- The two copies of a group's counter disagree (R218). -/
def execCntMismatch (g : Fin 12) (s : State) : Out :=
  .next (((s.flt .pg g F.PG_CNT_MISMATCH).post 0x3050 (locPg g) g).raise 7 (2 ^ g.val))

/-- The guard evaluates a slot on the present clock (R220, R222). -/
def execEdgeDue (g : Fin 12) (slot : Fin 6) (s : State) : Out := .next (s.guardSlot g slot)

/-- A write of PG_ARM.ARM = 1 (R227). -/
def execArm (m : Master) (g : Fin 12) (s : State) : Out :=
  .next (if s.mayWrite m .pg g then s.armGroup m g else s.errResp m true (R.PG_ARM g) .owner)

/-- A condition of R227 fails during ARMING (R228). -/
def execArmingAbort (g : Fin 12) (s : State) : Out :=
  .next (match (s.armConds g).find? fun p => !p.2 with
    | some p => if s.gstate g = 1 then s.disarmed g p.1 else s
    | none => s)

/-- The precharge of an ARMING group ends (R228): its low-side channels turn off. -/
def execPrechargeEnd (g : Fin 12) (s : State) : Out :=
  .next (if s.gstate g = 1 && (s.grp g).precharging then
    (s.each (s.prechargeChans g) fun s c => (s.updLeg (chanLeg c) fun r => { r with code := 0 }).directOff c).updGrp g fun r =>
      { r with precharging := false, charged := true }
  else s)

/-- A write of PG_ARM.DISARM = 1 (R229): at the next period start in ARMED, at once in ARMING, none in SAFE or OFF. -/
def execDisarm (m : Master) (g : Fin 12) (s : State) : Out :=
  .next (s.write m (R.PG_ARM g) [] fun s =>
    if s.gstate g = 2 then s.updGrp g fun r => { r with disarmPend := true }
    else if s.gstate g = 1 then s.disarmed g 0 else s)

end Sys2Proof.Machine
end

