-- ==== Sys2Proof/Machine/Link.lean ====
section
/-!
DEFINITION. The Nolil gate links (R232–R240): what each downlink frame does at its die, link loss at both ends, training, and region
mismatches. The uplink status frame is read where the channels' faults are (Gate).
-/
namespace Sys2Proof.Machine

/-- The two check bits of an edge field (R234): parity of bits [15:9] and of bits [8:2]. -/
def fieldChk (w : Nat) : Nat :=
  let par (lo n : Nat) : Nat := ((List.range n).filter fun i => bitAt w (lo + i)).length % 2
  par 9 7 * 2 + par 2 7

/-- The two check bits of an edge field are right (R234). -/
def fieldOk (w : Nat) : Bool := fieldChk w == w % 4

/-- An edge field (R234). -/
def edgeWord (more : Bool) (leg : Nat) (level : Bool) (age : Nat) : Nat :=
  let w := b2n more * 2 ^ 15 + leg * 2 ^ 13 + b2n level * 2 ^ 12 + min age 1023 * 2 ^ 2
  w + fieldChk w

/-- A 16-bit word of a frame, its high symbol first (log entry 73). -/
def wordBytes (w : Nat) : List Byte := [BitVec.ofNat 8 (w / 2 ^ 8), BitVec.ofNat 8 w]

/-- The fields of an EDGE frame's body, up to the first without MORE (R234). -/
def fieldsOf : List Byte → List Nat
  | a :: b :: rest =>
    let w := a.toNat * 2 ^ 8 + b.toNat
    w :: (if bitAt w 15 then fieldsOf rest else [])
  | _ => []

/-- Bytes with line noise on them. -/
def noisy (noise f : List Byte) : List Byte := f.zipIdx.map fun e => e.1 ^^^ noise.getD e.2 0

/-- Location of the controller end of a link (R232). -/
def locLink (k : Nat) : Nat := locBlk 0 (0x20 + k)

namespace State

/-- The level an IDLE frame carries for a leg (R233): its slot's present level. -/
def legLevel (s : State) (l : Nat) : Bool :=
  match s.legSlot l with
  | some (g, k) => s.slotLevel g k
  | none => false

/-- The groups with a leg on a link's die (R239, R391 line 8). -/
def dieGroups (s : State) (k : Nat) : Nat := s.groupsHolding fun l => legLink l == k
/-- Any of them is ARMING, ARMED or SAFE (R239). -/
def dieActive (s : State) (k : Nat) : Bool := (linkLegs k).any s.legActive

/-- A frame whose CRC fails, or of a reserved type, is counted (R233, R234). -/
def crcError (s : State) (k : Nat) : State := s.inc (R.NL_ERR_CRC_ERR k)

/-- A downlink frame as the controller sends it (R233): header with SYNC, TYPE and SEQ, body, CRC-8 over both. -/
def downFrame (s : State) (k type : Nat) (body : List Byte) : List Byte :=
  let h : List Byte := BitVec.ofNat 8 (5 * 2 ^ 5 + type * 2 ^ 2 + (s.link k).seq) :: body
  h ++ [BitVec.ofNat 8 (crc8 h)]

/-- One more frame has been sent (R233): SEQ counts modulo 4. -/
def sent (s : State) (k : Nat) : State := s.updLink k fun r => { r with seq := (r.seq + 1) % 4 }

/-- A refresh pulse ends or is abandoned (R260). -/
def endRefresh (s : State) (l : Nat) : State := if 0x20 ≤ l then s.setFld (gld R.GLD_LEG_STAT_REFRESHING l) 0 else s

/-- A commanded level reaches a leg at its die (R221, R260): a fall ends a refresh pulse. -/
def applyEdge (s : State) (l : Nat) (lv : Bool) (hot : List Nat) : State :=
  let s := if lv then s else s.endRefresh l
  (s.updLeg l fun r => { r with level := lv }).applyLeg l false hot

/-- Whether an item is an edge. -/
def isEdge : LinkItem → Bool
  | .edge _ _ _ => true
  | _ => false

/-- The edges an EDGE frame can carry next: those ahead of any SAFE frame; CFG frames wait for them (R233). -/
def nextEdges (s : State) (k : Nat) : List LinkItem := ((s.link k).queue.filter (· ≠ .cfg)).takeWhile isEdge

/-- One field of an EDGE frame at the die (R234, R235): discarded on a parity error, ignored in the fallback, else applied; a field whose
AGE is beyond what the reconstruction takes, 32 ns for the first field and 64 ns for a later one, is late. -/
def edgeField (s : State) (k i : Nat) (w : Nat) (hot : List Nat) : State :=
  let leg := w / 2 ^ 13 % 4
  if !fieldOk w || (s.link k).fallback || (k < 12 && 2 ≤ leg) then s
  else
    let s := if (if i = 0 then 409 else 819) < w / 2 ^ 2 % 2 ^ 10 then s.inc (R.NL_ERR_LATE_FIELD k) else s
    s.applyEdge (linkLeg k leg) (bitAt w 12) hot

/-- A SAFE frame at the die (R233, R238, R260): it cancels every later edge of its legs and abandons refreshes; the die in
fallback ignores it. Its 2-bit code of each leg index is in force until the next. -/
def safeFrame (s : State) (k t codes : Nat) (hot : List Nat) : State :=
  let code (i : Nat) : Nat := codes / 4 ^ i % 4
  let s := s.updLink k fun r => { r with queue := r.queue.filter fun e => match e with
    | .edge _ _ u => u ≤ t
    | _ => true }
  if (s.link k).fallback then s
  else s.each (linkLegs k) fun s l =>
    ((s.endRefresh l).updLeg l fun r => { r with code := code (legIdx l) }).applyLeg l true hot

/-- The die compares the levels of an IDLE frame with those it has applied (R236): it takes the frame's where they differ, edges still on
the way and legs that follow no edges left aside. -/
def idleLevels (s : State) (k levels : Nat) (hot : List Nat) : State :=
  if (s.link k).fallback then s
  else s.each (linkLegs k) fun s l =>
    let coming := (s.link k).queue.any fun e => match e with
      | .edge i _ _ => i == legIdx l
      | _ => false
    let lv := bitAt levels (legIdx l)
    if coming || s.legCode l != 3 || (s.leg l).level == lv then s
    else
      let s := s.applyEdge l lv hot
      (s.inc (R.NL_ERR_LVL_MISMATCH k)).updLink k fun r => { r with corrected := bitSet r.corrected (legIdx l) }

/-- What a die makes of the bytes that reach it (R233, R234): EDGE fields one by one before the CRC, the other frames if their CRC is good;
`t` is the instant of a SAFE frame. A frame that noise has given another type is that frame; no frame of REG or CFG comes this way. -/
def dieReceive (s : State) (k t : Nat) (f : List Byte) (hot : List Nat) : State :=
  let h := (f.getD 0 0).toNat
  let body := (f.drop 1).dropLast
  let ok := h / 2 ^ 5 == 5 && (f.getLastD 0).toNat == crc8 f.dropLast
  let s := match h % 2 ^ 5 / 2 ^ 2 with
    | 0 => if ok then s.idleLevels k ((body.getD 2 0).toNat / 16) hot else s
    | 1 => if h / 2 ^ 5 = 5 then (fieldsOf body).zipIdx.foldl (fun s e => s.edgeField k e.2 e.1 hot) s else s
    | 2 => if ok then s.safeFrame k t (body.getD 0 0).toNat hot else s
    | _ => s
  if ok && h % 2 ^ 5 / 2 ^ 2 < 3 then s else s.crcError k

/-- A CFG frame at the die (R233, R238): uses, dead times and the fallback choice; after a RESTART, on a link that is UP again, it releases
the fallback. The low sides of a precharge come on (R228). -/
def cfgFrame (s : State) (k : Nat) : State :=
  let up := s.fld (R.NL_STAT_STATE k) == 2 || s.fld (R.NL_STAT_STATE k) == 4
  let s := s.each (linkLegs k) fun s l => s.updLeg l fun r => match s.legSlot l with
    | some (g, j) => { r with configured := true, use := s.slotUse g j, dt := s.fld (slotDtFld g j) }
    | none => { r with configured := false, use := 0 }
  let s := s.updLink k fun r =>
    let free := r.restarted && up
    { r with fbShort := s.on (R.NL_CTL_FALLBACK k), cfgd := free || !r.fallback, fallback := r.fallback && !free,
             restarted := r.restarted && !up }
  let s := (s.each (linkLegs k) fun s l => s.applyLeg l false []).each (linkChans k) updReady
  s.each (linkLegs k) fun s l => if s.legSafeCode l == 1 && (s.legSlot l).any fun p => s.gstate p.1 == 1 then
    (s.updLeg l fun r => { r with incoming := 0 }).turnOn (legLow l) else s

/-- Bit `k` of LINK_FAULT in PG0 (R241). -/
def linkFault (s : State) (k : Nat) : State := s.flt .pg 0 (F.PG_LINK_FAULT + k)

/-- The mismatch flag of a region quantity: 0 temperature, 1 oscillator, 2 supply (R240). -/
def regionFld (k q : Nat) : Fld := ⟨R.NL_REG k, 28 + q, 1⟩

end State

/-- The die of link `k` receives an IDLE frame (R233, R236) with `noise` on its bytes: TIME, LEVELS of its legs, FLAGS with the fallback
choice. A frame of higher priority that interrupts it is a command before it. -/
def execIdleFrame (k : Fin 15) (noise : List Byte) (hot : List Nat) (s : State) : Out :=
  let levels := (linkLegs k).foldl (fun m l => m + b2n (s.legLevel l) * 2 ^ legIdx l) 0
  let f := s.downFrame k 0 (wordBytes (s.now % 2 ^ 16) ++ [BitVec.ofNat 8 (levels * 16 + s.fld (R.NL_CTL_FALLBACK k))])
  .next ((s.sent k).dieReceive k 0 (noisy noise f) hot)

/-- The die decodes an EDGE frame (R234, R235) of `n` fields: edges in the order of their instants, each field 32 ns after the one before;
`lag` is how long after its edge's instant the first field starts, in 1/32 clock. -/
def execEdgeFrame (k : Fin 15) (n : Fin 5) (lag : Fin 65536) (noise : List Byte) (hot : List Nat) (s : State) : Out :=
  let es := (s.nextEdges k).take n
  .next (match es with
    | .edge _ _ t0 :: _ =>
      let field (e : LinkItem × Nat) : List Byte := match e.1 with
        | .edge i lv t => wordBytes (edgeWord (e.2 + 1 < es.length) i lv (t0 + lag + 2048 * e.2 / 5 - t))
        | _ => []
      let f := s.downFrame k 1 (es.zipIdx.flatMap field)
      let s := (s.sent k).updLink k fun r => { r with queue := es.foldl (fun q e => q.erase e) r.queue }
      s.dieReceive k 0 (noisy noise f) hot
    | _ => s)

/-- The die receives the SAFE frame that is next in order (R233); one whose CRC fails is lost. -/
def execSafeFrame (k : Fin 15) (noise : List Byte) (hot : List Nat) (s : State) : Out :=
  .next (match (s.link k).queue.filter (· ≠ .cfg) with
    | .safe t codes :: _ =>
      let f := s.downFrame k 2 [BitVec.ofNat 8 codes]
      ((s.sent k).updLink k fun r => { r with queue := r.queue.erase (.safe t codes) }).dieReceive k t (noisy noise f) hot
    | _ => s)

/-- The die receives a REG frame (R233, R121): the register access itself is the command that caused it; a frame whose CRC fails is
counted. -/
def execRegFrame (k : Fin 15) (crcOk : Bool) (s : State) : Out := .next (if crcOk then s.sent k else (s.sent k).crcError k)

/-- The die receives the CFG frame that waits for it (R233, R238). -/
def execCfgFrame (k : Fin 15) (crcOk : Bool) (s : State) : Out :=
  .next (if (s.link k).queue.contains .cfg then
    let s := (s.sent k).updLink k fun r => { r with queue := r.queue.erase .cfg }
    if crcOk then s.cfgFrame k else s.crcError k
  else s)

/-- A die has received no valid frame for 2 µs: its link-loss fallback (R238, R251, R260). -/
def execDieLinkLoss (k : Fin 15) (hot : List Nat) (s : State) : Out :=
  .next (if (s.link k).fallback then s
    else
      let s := s.updLink k fun r => { r with fallback := true, cfgd := false, queue := [] }
      (s.each (linkLegs k) fun s l => (s.endRefresh l).applyLeg l true hot).each (linkChans k) State.updReady)

/-- The controller detects the loss of a link (R239). -/
def execControllerLinkLoss (k : Fin 15) (s : State) : Out :=
  .next (if s.fld (R.NL_STAT_STATE k) = 2 ∨ s.fld (R.NL_STAT_STATE k) = 4 then
    let own := s.dieGroups k
    let s := ((s.setFld (R.NL_STAT_STATE k) 3).setFld (R.NL_STAT_CAL_DONE k) 0).inc (R.NL_ERR_LOSS k)
    let s := (s.linkFault k).each ((List.range 12).filter (bitAt own)) fun s g => s.flt .pg g F.PG_LINK_LOST
    (s.post 0x3051 (locLink k) k).raise 8 own
  else s)

/-- Training of an enabled link completes (R237): it is UP, and region flags begin afresh. -/
def execLinkTrained (k : Fin 15) (s : State) : Out :=
  .next (if s.on (R.NL_CTL_EN k) && s.fld (R.NL_STAT_STATE k) != 2 && s.fld (R.NL_STAT_STATE k) != 4 then
    (s.setFld (R.NL_STAT_STATE k) 2).setFld ⟨R.NL_REG k, 28, 3⟩ 0
  else s)

/-- Delay calibration of an UP link ends with a trim (R237). -/
def execLinkCalDone (k : Fin 15) (trim : Fin 256) (s : State) : Out :=
  .next (if s.fld (R.NL_STAT_STATE k) = 2 ∨ s.fld (R.NL_STAT_STATE k) = 4 then
    (s.setFld (R.NL_STAT_CAL_DONE k) 1).setFld (R.NL_STAT_TRIM k) trim
  else s)

/-- Retrain a link and send its die the CFG frame that releases its fallback (R238, R239). -/
def State.restartLink (s : State) (k : Nat) : State :=
  let s := (s.setFld (R.NL_STAT_STATE k) (b2n (s.on (R.NL_CTL_EN k)))).setFld (R.NL_STAT_CAL_DONE k) 0
  s.updLink k fun r => { r with queue := [.cfg], restarted := true }

/-- A write of NL_CTLk.RESTART = 1 (R239). -/
def execLinkRestart (m : Master) (k : Fin 15) (s : State) : Out :=
  .next (s.write m (R.NL_CTL k) [(s.dieActive k, .state)] fun s => s.restartLink k)

/-- A region quantity of a die stays beyond its limit through its filter (R240). -/
def execRegionMismatch (k : Fin 15) (q : Fin 3) (s : State) : Out :=
  .next (if s.fld (R.NL_STAT_STATE k) = 2 ∨ s.fld (R.NL_STAT_STATE k) = 4 then
    let s := ((s.setFld (State.regionFld k q) 1).setFld (R.NL_STAT_STATE k) 4).linkFault k
    (s.post 0x3052 (locLink k) (k + q * 16)).raise 8 (s.dieGroups k)
  else s)

end Sys2Proof.Machine
end

