-- ==== Sys2Proof/Machine/Gate.lean ====
section
/-!
DEFINITION. Gate channels and their protection (R247–R264): trips, lock-out, power supervision, bootstrap and refresh, dead time, the
uplink status frame by which the controller learns of them, the brake chopper, and the change of an active short to Freewheel.
-/
namespace Sys2Proof.Machine

/-- Location of a channel's events: subsystem 0 the gate channel, 2 its supplies and supervision (R8, chapter 7). -/
def locChan (c sub mac : Nat) : Nat :=
  if isHv c then loc (c / 4 + 1) 0 sub (c % 4) mac else loc 0xD ((c - 64) / 8) sub ((c - 64) % 8) mac

/-- The number of a power leg. -/
def legNo : PowerLeg → Nat
  | .hl n => n
  | .ll n => 0x20 + n

namespace State

/-- The groups whose live slots hold a channel's leg (R391, "legs"). -/
def chanGroups (s : State) (c : Nat) : Nat := s.groupsHolding (· == chanLeg c)

/-- A fault of a channel that the controller reads for the first time in a status frame: the bit of `seen`, the flag of the page, the
event with its location and data, and the line (R250, R253, R255, R258). -/
structure ChanFault where
  bit : Nat
  page : PageKind
  inst : Nat
  flag : Nat
  code : Nat
  loc : Nat
  data : Nat
  line : Nat

/-- The faults a channel shows live. -/
def chanFaults (s : State) (c : Nat) : List ChanFault :=
  if isHv c then
    let n := c / 4
    let u := c % 4
    let e (b : Bool) (f : ChanFault) : List ChanFault := if b then [f] else []
    e (s.on (ghd R.GHD_STAT_DSAT_LATCH c)) ⟨0, .ghd, n, F.GHD_DSAT + u, 0x3060, locChan c 0 0x3F, c, 9⟩
    ++ e (s.on (ghd R.GHD_STAT_PUV c)) ⟨1, .ghd, n, F.GHD_PUV + u, 0x3061, locChan c 2 4, c, 10⟩
    ++ e (s.on (ghd R.GHD_STAT_NUV c)) ⟨2, .ghd, n, F.GHD_NUV + u, 0x3062, locChan c 2 5, c, 10⟩
    ++ e (s.on (ghd R.GHD_STAT_PWR_LATCH c)) ⟨3, .ghd, n, F.GHD_PWR_OVER + u, 0x3063, locChan c 2 6, c, 11⟩
  else if c % 2 = 0 && s.on (gld R.GLD_LEG_STAT_BST_LATCH (chanLeg c)) then
    let l := chanLeg c
    [⟨4, .gld, (l - 0x20) / 4, F.GLD_BST_UV + (l - 0x20) % 4, 0x3064, locChan c 0 4, l - 0x20, 12⟩]
  else []

/-- A channel's faults as a status frame brings them: new ones set their flag, post their event and name their line; those gone are
forgotten. -/
def readChan (s : State) (c : Nat) : State × List (Nat × Nat) :=
  let fs := s.chanFaults c
  let new := fs.filter fun f => !bitAt (s.chan c).seen f.bit
  let s := new.foldl (fun s f => (s.flt f.page f.inst f.flag).post f.code f.loc f.data) s
  let s := s.updChan c fun r => { r with seen := fs.foldl (fun m f => m + 2 ^ f.bit) 0 }
  (s, new.map fun f => (f.line, s.groupsHolding fun l => if isHv c then l == chanLeg c else legLink l == legLink (chanLeg c)))

/-- Quantity `q` of an LV die, 0 its logic supply and 1 its bridge supply, is now read `now` out of range: the first reading so raises the
fault and the event, the first one back in range rearms them. -/
def readDieSup (s : State) (d q : Nat) (now : Bool) : State :=
  let mark (f : Nat → Nat → Nat) : State := { s with pwm := { s.pwm with dieSeen := f s.pwm.dieSeen (2 * d + q) } }
  if now && bitAt s.pwm.dieSeen (2 * d + q) then s
  else if now then
    ((mark bitSet).flt .gld d (if q = 0 then F.GLD_VDD_UV else F.GLD_VBR_RANGE)).post 0x3065 (loc 0xD d 2 0x3F 0x3F) (d + q * 16)
  else mark bitClr

/-- The supply faults of an LV die, likewise (R258). -/
def readDie (s : State) (d : Nat) : State × List (Nat × Nat) :=
  let now (q : Nat) : Bool := s.on (if q = 0 then R.GLD_SUP_VDD_UV d else R.GLD_SUP_VBR_OUT d)
  ((s.readDieSup d 0 (now 0)).readDieSup d 1 (now 1),
    ([0, 1].filter fun q => now q && !bitAt s.pwm.dieSeen (2 * d + q)).map fun _ => (12, s.dieGroups (12 + d)))

/-- Measured values of a die's registers, in order: an HV die's VPOS_M, VNEG_M and AVG of its four channels, an LV die's VDD_M, VBR_M and the
VBST of its four legs. -/
def measFlds (k : Nat) : List Fld :=
  if k < 12 then [0, 1, 2, 3].flatMap fun c => [R.GHD_MEAS_VPOS_M k c, R.GHD_MEAS_VNEG_M k c, R.GHD_PWR_AVG k c]
  else [R.GLD_SUP_VDD_M (k - 12), R.GLD_SUP_VBR_M (k - 12)] ++ [0, 1, 2, 3].map fun i => R.GLD_LEG_BST_VBST (k - 12) i

/-- What follows from measured values: the peak power, the level that counts as a low bootstrap (R246, R266, R268). -/
def showMeas (s : State) (k : Nat) : State :=
  s.each [0, 1, 2, 3] fun s i =>
    if k < 12 then s.setFld (R.GHD_PWR_PEAK k i) (max (s.fld (R.GHD_PWR_PEAK k i)) (s.fld (R.GHD_PWR_AVG k i)))
    else s.setFld (R.GLD_LEG_STAT_BST_LOW (k - 12) i) (b2n (s.fld (R.GLD_LEG_BST_VBST (k - 12) i) < 80))

/-- The telemetry in rotation (R236, R243): 0 junction temperature, 1 oscillator offset, 2 logic supply. A region flag clears once its
quantity is reported back within its limit (R240). -/
def telemetry (s : State) (k sel v : Nat) : State :=
  let s : State := s.setFld (if sel = 0 then R.NL_REG_TJ k else if sel = 1 then R.NL_REG_OSC k else R.NL_REG_SUPPLY k) v
  let tj (j : Nat) : Int := s.fldI (R.NL_REG_TJ j)
  let ok : Bool :=
    if sel = 0 then
      (List.range 15).all fun j => s.fld (R.NL_STAT_STATE j) < 2 || s.fld (R.NL_STAT_STATE j) == 3 || (tj j - tj k).natAbs ≤ 280
    else if sel = 1 then (s.fldI (R.NL_REG_OSC k)).natAbs ≤ 40 else (s.fldI (R.NL_REG_SUPPLY k)).natAbs ≤ 50
  let s := if ok then s.setFld (regionFld k sel) 0 else s
  if s.fld (R.NL_STAT_STATE k) = 4 ∧ s.fld ⟨R.NL_REG k, 28, 3⟩ = 0 then s.setFld (R.NL_STAT_STATE k) 2 else s

/-- The controller receives a status frame from the die of link `k` (R236, R248): telemetry and measured values, the die's fallback and
configuration, level corrections, and every fault not yet known, with one evaluation of the lines they raise. -/
def statusFrame (s : State) (k sel v : Nat) (meas : List Nat) : State :=
  let s := s.telemetry k sel v
  let s := (((measFlds k).zip meas).foldl (fun s p => s.setFld p.1 p.2) s).showMeas k
  let s := (s.setFld (R.NL_STAT_DIE_FALLBACK k) (b2n (s.link k).fallback)).setFld (R.NL_STAT_CONFIGURED k) (b2n (s.link k).cfgd)
  let cor := (List.range 4).filter (bitAt (s.link k).corrected)
  let s := s.each cor fun s i => s.post 0x3053 (locLink k) (k + i * 16)
  let s := if cor.isEmpty then s else (s.linkFault k).updLink k fun r => { r with corrected := 0 }
  let lines := if cor.isEmpty then [] else [(8, s.dieGroups k)]
  let r := (linkChans k).foldl (fun (p : State × List (Nat × Nat)) c => let (s, l) := p.1.readChan c; (s, p.2 ++ l)) (s, lines)
  let r := if k < 12 then r else let (s, l) := r.1.readDie (k - 12); (s, r.2 ++ l)
  r.1.raiseAll r.2

/-- A change of a channel's supply settings clears READY until the supply has settled (R248). -/
def supplyChanged (s : State) (c : Nat) : State := (s.updChan c fun r => { r with supOk := false }).updReady c

/-- A leg's channel is wholly off: not driven, in no two-step turn-off and no soft turn-off (R247, R258). -/
def chanOff (s : State) (c : Nat) : Bool :=
  !s.on (chanOnFld c) && !(isHv c && s.on (ghd R.GHD_STAT_TWO_STEP c)) && !(!isHv c && c % 2 == 0 && (s.leg (chanLeg c)).soft)

/-! ### Chopper (R261, R262) -/

/-- The chopper fault (R262). -/
def chopFault (s : State) (off : Bool) : State :=
  ((s.flt .saf 0 F.SAF_CHOP_FAULT).post 0x3066 locSaf (b2n off)).raise 13 (2 ^ 7)

end State

/-- DSAT stays above threshold for 50 ns after blanking, while the channel is on (R249, R250). -/
def execDsatTrip (c : Fin 48) (s : State) : Out :=
  .next (if s.on (ghd R.GHD_DSAT_DSAT_EN c) && s.on (chanOnFld c) then s.dsatTrip c else s)

/-- HOLD of a two-step turn-off elapses: full turn-off begins (R250). -/
def execTwoStepHoldEnd (c : Fin 48) (s : State) : Out :=
  .next (if s.on (ghd R.GHD_STAT_TWO_STEP c) then s.setFld (ghd R.GHD_STAT_TWO_STEP c) 0 else s)

/-- An HV gate supply crosses its threshold through its filter (R253): below, the channel turns off directly and stays off until READY
returns; above, the lock-out ends. With NUV_EN = 0 the negative supply has none. The clamp of a channel that its positive supply holds off
needs the negative one (R254). -/
def execSupplyUvlo (c : Fin 48) (pos low : Bool) (s : State) : Out :=
  .next (
    let f := ghd (if pos then R.GHD_STAT_PUV else R.GHD_STAT_NUV) c
    if !pos && !s.on (ghd R.GHD_UV_NUV_EN c) then s
    else if !low then (s.setFld f 0)
    else if s.on f then s
    else
      let s := ((s.setFld f 1).inc (ghd R.GHD_CNT_UV_CNT c)).directOff c
      let s := ((s.setFld (ghd R.GHD_STAT_TWO_STEP c) 0).updChan c fun r => { r with supOk := false, uvHold := true }).updReady c
      if s.on (ghd R.GHD_STAT_PUV c) && s.on (ghd R.GHD_STAT_NUV c) then s.setFld (ghd R.GHD_STAT_CLAMP_ON c) 0 else s)

/-- A channel's supplies have been above their thresholds plus hysteresis for 100 µs (R248). -/
def execReadySet (c : Chan) (s : State) : Out :=
  .next (
    let n := chanNo c
    if isHv n && (!s.on (ghd R.GHD_SUP_EN n) || s.on (ghd R.GHD_STAT_PUV n) || s.on (ghd R.GHD_STAT_NUV n)) then s
    else if !isHv n && s.on (R.GLD_SUP_VDD_UV ((n - 64) / 8)) then s
    else (s.updChan n fun r => { r with supOk := true }).updReady n)

/-- The gate falls below VNEG + CLAMP_TH during a turn-off (R254). -/
def execClampOn (c : Fin 48) (s : State) : Out :=
  .next (if s.on (ghd R.GHD_CLP_CLAMP_EN c) && !s.on (chanOnFld c) then s.setFld (ghd R.GHD_STAT_CLAMP_ON c) 1 else s)

/-- A channel's average power reaches, or falls below, 2.0 W (R255). -/
def execChannelPwrHigh (c : Fin 48) (avg : Fin 256) (s : State) : Out :=
  .next (
    let s := (s.setFld (ghd R.GHD_PWR_AVG c) avg).setFld (ghd R.GHD_PWR_PEAK c) (max (s.fld (ghd R.GHD_PWR_PEAK c)) avg)
    if avg.val < 200 then s.setFld (ghd R.GHD_STAT_PWR_HIGH c) 0
    else if s.on (ghd R.GHD_STAT_PWR_HIGH c) then s
    else ((s.setFld (ghd R.GHD_STAT_PWR_HIGH c) 1).evt .ghd (c / 4) (E.GHD_PWR_HIGH + c % 4)).post 0x1060 (locChan c 2 6) c)

/-- The average has stayed at or above 2.2 W for 100 ms (R255). -/
def execChannelPwrTrip (c : Fin 48) (s : State) : Out :=
  .next (if 220 ≤ s.fld (ghd R.GHD_PWR_AVG c) then ((s.setFld (ghd R.GHD_STAT_PWR_LATCH c) 1).directOff c).updReady c else s)

/-- A write of 1 to latched trips of a channel or leg (R252, R258). -/
def execTripLatchClear (m : Master) (c : Chan) (dsat pwr : Bool) (s : State) : Out :=
  .next (
    let n := chanNo c
    let active := s.legActive (chanLeg n)
    if isHv n then
      s.ackPage m .ghd (n / 4) (R.GHD_STAT (n / 4) (n % 4)) [(active && (dsat || pwr), .state)] fun s =>
        let s := if dsat then s.setFld (ghd R.GHD_STAT_DSAT_LATCH n) 0 else s
        let s := if pwr then s.setFld (ghd R.GHD_STAT_PWR_LATCH n) 0 else s
        s.updReady n
    else
      let l := chanLeg n
      s.ackPage m .gld ((l - 0x20) / 4) (gld (fun i k => ⟨R.GLD_LEG_STAT i k, 0, 1⟩) l).addr [(active && dsat, .state)] fun s =>
        ((if dsat then s.setFld (gld R.GLD_LEG_STAT_BST_LATCH l) 0 else s).updReady (legHigh l)).updReady (legLow l))

/-- The bootstrap voltage of an LV leg, in units of 0.1 V, crosses a threshold (R246, R258): a high side that is on below the falling one
turns off softly and latches. -/
def execBootstrapUvlo (l : Fin 12) (vbst : Fin 256) (s : State) : Out :=
  .next (
    let n := 0x20 + l.val
    let s := (s.setFld (gld R.GLD_LEG_BST_VBST n) vbst).setFld (gld R.GLD_LEG_STAT_BST_LOW n) (b2n (vbst.val < 80))
    if vbst.val < 75 && s.on (chanOnFld (legHigh n)) then
      (((s.directOff (legHigh n)).updLeg n fun r => { r with soft := true }).bstFault n).updReady (legHigh n)
    else s)

/-- 1.0 µs of soft sink end: the high side turns fully off (R258). -/
def execLvSoftTurnOffEnd (l : Fin 12) (s : State) : Out :=
  .next (s.updLeg (0x20 + l.val) fun r => { r with soft := false })

/-- An LV die's gate supply or bridge supply goes out of range, or returns (R258): every channel of the die turns off directly. After a
lock-out of VDD its channels' supplies must be good for 100 µs again (R248). -/
def execLvDieSupplyFault (k : Fin 3) (vbr bad : Bool) (s : State) : Out :=
  .next (
    let f := if vbr then R.GLD_SUP_VBR_OUT k else R.GLD_SUP_VDD_UV k
    let s := s.setFld f (b2n bad)
    let s := if bad then s.each (linkChans (12 + k)) State.directOff else s
    let s := if bad && !vbr then s.each (linkChans (12 + k)) fun s c => s.updChan c fun r => { r with supOk := false } else s
    s.each (linkChans (12 + k)) State.updReady)

/-- The level of a complementary LV leg has stayed high for T_REFRESH (R259). -/
def execRefreshPulse (l : Fin 12) (s : State) : Out :=
  .next (
    let n := 0x20 + l.val
    if s.on (gld R.GLD_LEG_CFG_REF_EN n) && (s.leg n).configured && (s.leg n).use == 0 && s.legCode n == 3 && (s.leg n).level
        && !s.on (gld R.GLD_LEG_STAT_REFRESHING n) then
      let s := ((s.setFld (gld R.GLD_LEG_STAT_REFRESHING n) 1).inc (gld R.GLD_LEG_CNT_REFRESH_CNT n)).evt .gld (l / 4) (E.GLD_REFRESH + l % 4)
      s.applyLeg n false []
    else s)

/-- The refresh pulse ends: the level is high again (R259). -/
def execRefreshPulseEnd (l : Fin 12) (s : State) : Out :=
  .next (
    let n := 0x20 + l.val
    if s.on (gld R.GLD_LEG_STAT_REFRESHING n) then (s.endRefresh n).applyLeg n false [] else s)

/-- DT after the outgoing channel's full turn-off, the incoming channel of a leg turns on (R221, R247). -/
def execDeadTimeEnd (l : PowerLeg) (s : State) : Out :=
  .next (
    let n := legNo l
    let r := s.leg n
    let (c, other) := if r.incoming = 2 then (legHigh n, legLow n) else (legLow n, legHigh n)
    if r.incoming ≠ 0 && s.chanOff other then (s.updLeg n fun r => { r with incoming := 0 }).turnOn c else s)

/-- CHOP_DLY after a change of PG7's slot 0 to high, the safety manager samples the monitor: TRIPPED is a hit, any other state a miss
(R262). -/
def execChopperSample (s : State) : Out :=
  .next (if s.on R.SAF_CHOP_EN && s.slotLevel 7 0 then
    (if s.monState (s.fld R.SAF_CHOP_MON) true = 1 then s.setFld R.SAF_CHOPSTAT_MISS 0 else s.inc R.SAF_CHOPSTAT_MISS)
  else s)

/-- CHOP_N consecutive misses, or current CHOP_DLY after the level went low (R262). -/
def execChopperFault (whileOff : Bool) (s : State) : Out :=
  .next (
    let hit := if whileOff then !s.slotLevel 7 0 && s.monState (s.fld R.SAF_CHOP_MON) true == 1
      else s.on R.SAF_CHOP_N && s.fld R.SAF_CHOP_N ≤ s.fld R.SAF_CHOPSTAT_MISS
    if s.on R.SAF_CHOP_EN && hit then s.chopFault whileOff else s)

/-- A group held in active short whose machine has turned below 0.95 × N_CROSS, validly, for 10 ms changes to Freewheel (R264). -/
def execSpeedFreewheelChange (g : Fin 12) (s : State) : Out :=
  .next (
    let p := s.fld (R.SAF_GRP_POS g)
    let kind := s.fld (R.PG_STAT_SAFE_KIND g)
    let valid := !s.on (R.POS_STAT_SENSOR_FAULT p) || s.on (R.POS_STAT_FROZEN p)
    if s.gstate g = 3 && (kind = 2 || kind = 3) && s.on (R.SAF_GRP_TRAC g) && valid
        && !f32AbsGe (s.rd (R.POS_RPM p)) (s.fld (R.SAF_GRP_N_CROSS g) * 19) 20 then
      (s.commandGroup g 1).updSafeReg
    else s)

end Sys2Proof.Machine
end

