-- ==== Sys2Proof/Machine/SafetyMgr.lean ====
section
/-!
DEFINITION. The safety manager's own commands (R389–R398), safety inputs (R399–R404) and safety outputs (R405–R407).
-/
namespace Sys2Proof.Machine

namespace State

/-- The torque contexts that DRL names (R387), and the groups they source (R391 line 21). -/
def drlCtxs (s : State) : List Nat :=
  s.fld R.DRL_CFG_TQ_CTX0 :: (if s.fld R.DRL_CFG_TQ_CTX1 = 0xFF then [] else [s.fld R.DRL_CFG_TQ_CTX1])
def drlGroups (s : State) : Nat := s.drlCtxs.foldl (fun m c => m ||| s.sourcedBy c) 0

/-- The groups of a line's source by R391: `own` where the source itself decides it. -/
def sourceGroups (s : State) (k own : Nat) : Nat :=
  if k = 0 ∨ (4 ≤ k ∧ k ≤ 6) ∨ (22 ≤ k ∧ k ≤ 27) then allGroups
  else if k = 13 then 2 ^ 7
  else if k = 20 ∨ (32 ≤ k ∧ k < 96) then 0
  else if k = 21 then s.drlGroups
  else if 96 ≤ k then s.monOwn (k - 96)
  else own % 2 ^ 12

/-- The groups of a line's source where an injection does not name the unit (R391, R398): those of one unit of the right kind, which one
is left free. -/
def injectGroups (s : State) (k : Nat) : Nat :=
  let x := s.freeVal.toNat
  let of (l : List Nat) : Nat := l.foldl (fun m g => if g < 12 then m ||| 2 ^ g else m) 0
  match k with
  | 1 | 2 => of (s.sourced (x % 160))
  | 3 => if x % 5 = 4 then allGroups else of ((s.laneCtxs (x % 5)).flatMap s.sourced)
  | 7 => of [x % 12]
  | 8 => s.groupsHolding fun l => legLink l == x % 15
  | 9 | 10 | 11 => s.groupsHolding (· == x % 24)
  | 12 => s.groupsHolding fun l => legLink l == 12 + x % 3
  | 14 => of ((List.range 12).filter fun g => s.on (R.SAF_GRP_TRAC g) && s.fld (R.SAF_GRP_POS g) == x % 4)
  | 15 | 16 | 17 => of [s.fld (R.TRC_CFG_GRP (x % 2))]
  | 18 => of [x % 2]
  | 19 => of [s.fld (R.ACT_CFG_GRP (x % 3))]
  | _ => s.sourceGroups k 0

/-- Lines that R391 reserves. -/
def reservedLine (k : Nat) : Bool := (28 ≤ k && k < 32) || (84 ≤ k && k < 96)

/-- Writing 1 to the PENDING bits of register `i` (R389): those with no present cause clear, and every group whose set of PENDING lines
changed is evaluated (R393). -/
def clearPending (s : State) (i : Nat) (v : Word) : State :=
  let ks := (List.range 32).map (32 * i + ·) |>.filter fun k => bitAt v.toNat (k % 32) && s.isPending k && !s.causePresent k
  let hit (g : Nat) : Bool := ks.any fun k => s.affects k g
  (ks.foldl unpend s).evalJ2 hit

/-- Release of one group (R396, R397): the first test that fails denies it. -/
def releaseGroup (s : State) (g : Nat) : State :=
  let kind := s.fld (R.PG_STAT_SAFE_KIND g)
  let deny := if s.gstate g ≠ 3 then 1 else if s.blocked g then 2
    else if s.on (R.SAF_GRP_TRAC g) && (kind == 2 || kind == 3) then 3 else 0
  if deny ≠ 0 then
    (((s.setFld R.SAF_REL_STAT_DENY deny).setFld R.SAF_REL_STAT_GROUP g).evt .saf 0 E.SAF_REL_DENIED).post 0x1100 locSaf (g + deny * 16)
  else
    let s := s.groupOff g
    let c := s.liveFld (R.PG_SRC_CTX g)
    let s := if c < 160 && !((s.sourced c).any fun h => s.gstate h == 3) then s.setFld (R.LPX_STAT_FORCED_HELD c) 0 else s
    ((s.evt .saf 0 E.SAF_RELEASED).inc R.SAF_CNT_RELEASES).post 0x0101 locSaf g |>.updSafeReg

/-- Life-cycle states in which injection is free (R398): MAKER_TEST and RETURNED. -/
def injectFree (s : State) : Bool := s.fld R.SEC_LC_STATE == 1 || s.fld R.SEC_LC_STATE == 4

/-! ### Safety inputs -/

/-- A channel's reading counts as run (R399): 0 LOW, 1 HIGH, 2 UNRESOLVED; `b` the second channel. -/
def chRun (s : State) (n : Nat) (b : Bool) (v : Nat) : Bool :=
  match s.fld (R.SIO_SI_CFG_MODE n) with
  | 1 => v == 1
  | 2 => if b then v == 0 else v == 1
  | _ => false
/-- The channels' present readings in run. -/
def runA (s : State) (n : Nat) : Bool := s.chRun n false (s.fld (R.SIO_SI_STAT_A n))
def runB (s : State) (n : Nat) : Bool := s.chRun n true (s.fld (R.SIO_SI_STAT_B n))

/-- The input between DEMAND and RUN (R400, R403): a change is flagged, posted and counted; the lines follow. -/
def siSet (s : State) (n : Nat) (run : Bool) : State :=
  if s.on (R.SIO_SI_STAT_RUN n) == run then s
  else
    let s := (s.setFld (R.SIO_SI_STAT_RUN n) (b2n run)).evt .sio 0 (E.SIO_SI_CHG + n)
    let s := s.post 0x0100 (locSio n) (n + b2n run * 16)
    if run then s else s.inc (R.SIO_SI_CNT_DEMANDS n)

/-- The input as its channels, its first transition and its fault make it (R400). -/
def siUpdate (s : State) (n : Nat) : State :=
  let both := s.runA n && s.runB n
  let ok := both && !s.on (R.SIO_SI_STAT_FAULT n)
  let s := if ok && (!s.on (R.SIO_SI_CFG_START n) || bitAt s.safe.siDem n) then s.setFld (R.SIO_SI_STAT_FIRST n) 1 else s
  (s.siSet n (ok && s.on (R.SIO_SI_STAT_FIRST n))).syncLines

/-- A fault of an input latches (R401, R402, R404); an earlier one stays. -/
def siFault (s : State) (n cause : Nat) : State :=
  if s.on (R.SIO_SI_STAT_FAULT n) then s
  else
    let s := ((s.setFld (R.SIO_SI_STAT_FAULT n) 1).setFld (R.SIO_SI_STAT_CAUSE n) cause).inc (R.SIO_SI_CNT_FAULTS n)
    let s := (s.flt .sio 0 (F.SIO_SI_FAULT + n)).post 0x3100 (locSio n) (n + cause * 16)
    s.siUpdate n

/-! ### Safety outputs -/

/-- REQ as its command word gives it (R324, R405). -/
def soReq (s : State) : State :=
  let w := s.cmdWord (s.fld R.SIO_SO_CMD_CTX) 7
  s.each (List.range 4) fun s m => (s.setFld (R.SIO_SO_STAT_REQ m) (b2n (bitAt w.toNat m))).soUpdate m

/-- ON of SIO_SOm_STAT as the switches stand (R420). -/
def soShow (s : State) (m : Nat) : State := s.setFld (R.SIO_SO_STAT_ON m) (b2n ((s.so m).ls && (s.so m).hs))

/-- FAULT of an output (R407): both switches open, CAUSE is latched. -/
def soFault (s : State) (m cause : Nat) : State :=
  if s.on (R.SIO_SO_STAT_FAULT m) then s
  else
    let s := (s.setFld (R.SIO_SO_STAT_FAULT m) 1).setFld (R.SIO_SO_STAT_CAUSE m) cause
    let s := (s.flt .sio 0 (F.SIO_SO_FAULT + m)).post 0x3101 (locSio (8 + m)) (m + cause * 16)
    (s.soUpdate m).syncLines

/-- The output's condition as the switches found stuck or open make it (R407). -/
def soJudge (s : State) (m : Nat) : State :=
  let r := s.so m
  if r.open_ ≠ 0 then s.soFault m (if bitAt r.open_ 0 then 4 else 5)
  else if r.stuck = 3 then s.soFault m 3
  else if r.stuck ≠ 0 then
    if s.on (R.SIO_SO_STAT_DEGRADED m) || s.on (R.SIO_SO_STAT_FAULT m) then s
    else
      let cause := if r.stuck = 1 then 1 else 2
      let max := s.fld (R.SIO_SO_CFG_DEG_MAX m)
      let s := ((s.setFld (R.SIO_SO_STAT_DEGRADED m) 1).setFld (R.SIO_SO_STAT_CAUSE m) cause).setFld (R.SIO_SO_STAT_DEG_LEFT m) max
      let s := (s.updSo m fun r => { r with degSecs := 60 * max }).evt .sio 0 (E.SIO_SO_DEG + m)
      s.post 0x1101 (locSio (8 + m)) (m + cause * 16)
  else if s.on (R.SIO_SO_STAT_DEGRADED m) then
    let s := (s.updSo m fun r => { r with degSecs := 0 }).setFld (R.SIO_SO_STAT_DEGRADED m) 0
    let s := s.setFld (R.SIO_SO_STAT_DEG_LEFT m) 0
    if s.on (R.SIO_SO_STAT_FAULT m) then s else s.setFld (R.SIO_SO_STAT_CAUSE m) 0
  else s

/-- The finding of a test of the switch `sw` (1 high, 2 low): stuck closed, does not close, or working. -/
def soFound (s : State) (m sw : Nat) (stuck open_ : Bool) : State :=
  let put (v : Nat) (b : Bool) : Nat := if b then v ||| sw else v &&& (3 - sw)
  let s := s.inc (R.SIO_SO_CNT_TESTS m)
  let s := if stuck || open_ then s.inc (R.SIO_SO_CNT_FAILS m) else s
  (s.updSo m fun r => { r with stuck := put r.stuck stuck, open_ := put r.open_ open_ }).soJudge m

/-- One second of the minutes that SIO_SOm_STAT.DEG_LEFT counts (R420). -/
def soSecond (s : State) (m : Nat) : State :=
  let n := (s.so m).degSecs
  if n = 0 then s
  else (s.updSo m fun r => { r with degSecs := n - 1 }).setFld (R.SIO_SO_STAT_DEG_LEFT m) ((n - 1 + 59) / 60)

/-- The cause of an output's latched fault is present (R407): what the last tests found, or DEGRADED still set. -/
def soCausePresent (s : State) (m : Nat) : Bool :=
  match s.fld (R.SIO_SO_STAT_CAUSE m) with
  | 3 => (s.so m).stuck == 3
  | 4 => bitAt (s.so m).open_ 0
  | 5 => bitAt (s.so m).open_ 1
  | 7 => s.on (R.SIO_SO_STAT_DEGRADED m)
  | _ => false

end State

/-! ### Fault lines -/

/-- Lines are raised on one clock, each with the groups its source decides (R389, R395); a reserved line has no source. -/
def execFaultLineRaise (lines : List (Fin 128 × Fin 4096)) (s : State) : Out :=
  .next (s.raiseAll ((lines.filter fun p => !State.reservedLine p.1).map fun p => (p.1.val, s.sourceGroups p.1 p.2)))

/-- A write to SAF_PENDk (R389). -/
def execPendingClear (m : Master) (k : Fin 4) (v : Word) (s : State) : Out :=
  .next (s.ackPage m .saf 0 (R.SAF_PEND k) [] fun s => s.clearPending k v)

/-- A group has been in Hold for HOLD_MAX: SPEED is added and its command chosen again (R394). -/
def execHoldMaxExpiry (g : Fin 12) (s : State) : Out :=
  .next (if s.gstate g = 3 && s.fld (R.PG_STAT_SAFE_KIND g) == 4 then
    (s.updSafe fun x => { x with speedAdded := bitSet x.speedAdded g }).evalJ2 (· == g.val)
  else s)

/-- A write of SAF_REL.GROUPS (R396): each named group is tested on its own. -/
def execRelease (m : Master) (groups : Fin 4096) (s : State) : Out :=
  .next (s.ackPage m .saf 0 R.SAF_REL [] fun s => s.each ((List.range 12).filter (bitAt groups)) State.releaseGroup)

/-- A write of SAF_INJ with GO = 1 (R398): the line is raised as its source would; which of several units is its source, the injection does
not name. -/
def execFaultInject (m : Master) (line : Fin 128) (key : Fin 256) (s : State) : Out :=
  .next (
    let own := s.injectGroups line
    let t := s.pend line own
    let armedHit := (List.range 12).any fun g => t.affects line g && s.armed g
    s.tookFree.write m R.SAF_INJ [(key.val ≠ 0x3C, .key), (State.reservedLine line, .range), (!s.injectFree && armedHit, .state)] fun s =>
      let s := (s.setFld R.SAF_INJ_LINE line).evt .saf 0 E.SAF_INJECTED
      (s.post 0x6100 locSaf line).raise line own)

/-! ### Safety inputs -/

/-- A channel of input `n` takes a new reading after its filter (R399, R400); `together` says that both channels have been in demand
together for FILT before this change. -/
def execSafetyInputChange (n : Fin 8) (a b : Fin 3) (together : Bool) (s : State) : Out :=
  .next (
    let s := if together then (s.updSafe fun x => { x with siDem := bitSet x.siDem n }) else s
    ((s.setFld (R.SIO_SI_STAT_A n) a).setFld (R.SIO_SI_STAT_B n) b).siUpdate n)

/-- The channels of an input have disagreed for DISC ms (R401). -/
def execSiDiscrepancy (n : Fin 8) (s : State) : Out :=
  .next (if s.on (R.SIO_SI_CFG_MODE n) && s.runA n != s.runB n then (s.opTo .sio 0).siFault n 1 else s)

/-- A test pulse of source A, or B, is checked at input `n` (R402): the channel that source feeds must have read LOW near its end; the
other channel, HIGH outside, must not have read LOW inside the window. -/
def execSiTestPulse (n : Fin 8) (srcB aLow bLow : Bool) (s : State) : Out :=
  .next (if s.on R.SIO_TP_TP_EN && s.on (R.SIO_SI_CFG_MODE n) && !s.detachingX1 then
    let failA := if srcB then s.fld (R.SIO_SI_STAT_A n) == 1 && aLow else s.on (R.SIO_SI_CFG_TP_A n) && !aLow
    let failB := if srcB then s.on (R.SIO_SI_CFG_TP_B n) && !bLow else s.fld (R.SIO_SI_STAT_B n) == 1 && bLow
    if failA then s.siFault n 2 else if failB then s.siFault n 3 else s
  else s)

/-- A write of SIO_SIn_CTL.RESET = 1 (R401). -/
def execSiReset (m : Master) (n : Fin 8) (s : State) : Out :=
  .next (s.write m (R.SIO_SI_CTL n) [(s.runA n || s.runB n, .state)] fun s =>
    let s := ((s.setFld (R.SIO_SI_STAT_FAULT n) 0).setFld (R.SIO_SI_STAT_CAUSE n) 0).setFld (R.SIO_SI_STAT_FIRST n) 0
    (s.updSafe fun x => { x with siDem := bitClr x.siDem n }).siUpdate n)

/-! ### Safety outputs -/

/-- 100 µs after the low side closed, the high side of an output closes (R405). -/
def execSoHighSideClose (m : Fin 4) (s : State) : Out :=
  .next (
    let r := s.so m
    if r.ls && !r.hs && r.testing == 0 && s.soWant m then (s.updSo m fun r => { r with hs := true, on := true }).soShow m else s)

/-- A switch test starts (R406): `low` the low side; `hsNode` and `lsNode` are the node levels, 0 at 0 V, 1 between, 2 at VSO. On, the switch
opens; off, the switch closes alone if both nodes are between, and both nodes at one rail are a finding (R407). -/
def execSoSwitchTest (m : Fin 4) (low : Bool) (hsNode lsNode : Fin 3) (s : State) : Out :=
  .next (
    let r := s.so m
    let sw := if low then 2 else 1
    if !s.on (R.SIO_SO_CFG_TP_EN m) || r.testing != 0 then s
    else if r.on then
      (s.updSo m fun r => { r with testing := sw, hs := if low then r.hs else false, ls := if low then false else r.ls }).soShow m
    else if r.ls || r.hs then s
    else if hsNode.val = 1 && lsNode.val = 1 then
      s.updSo m fun r => { r with testing := sw, hs := !low, ls := low }
    else if hsNode = lsNode then s.soFound m (if hsNode.val = 0 then 2 else 1) true false
    else s)

/-- The test pulse ends (R406, R407): on, the opened switch must have let its node go; off, both nodes must have followed it. -/
def execSoTestEnd (m : Fin 4) (hsNode lsNode : Fin 3) (s : State) : Out :=
  .next (
    let r := s.so m
    let sw := r.testing
    if sw = 0 then s
    else
      let pass := if r.on then (if sw = 1 then hsNode.val == 0 else lsNode.val == 2)
        else (let v := if sw = 1 then 2 else 0; hsNode.val == v && lsNode.val == v)
      let s := s.updSo m fun r => { r with testing := 0, hs := r.on, ls := r.on }
      ((s.soShow m).soFound m sw (!pass && r.on) (!pass && !r.on)).soUpdate m)

/-- The current limit of an output has been active for 10 ms (R407). -/
def execSoOvercurrent (m : Fin 4) (s : State) : Out := .next (if (s.so m).on then s.soFault m 6 else s)

/-- An output has been DEGRADED for DEG_MAX minutes (R407). -/
def execSoDegradeExpiry (m : Fin 4) (s : State) : Out :=
  .next (if s.on (R.SIO_SO_STAT_DEGRADED m) then s.soFault m 7 else s)

/-- A write of SIO_SOm_CTL.RESET = 1 (R407). -/
def execSoReset (m : Master) (k : Fin 4) (s : State) : Out :=
  .next (s.write m (R.SIO_SO_CTL k) [(s.on (R.SIO_SO_STAT_REQ k) || (s.on (R.SIO_SO_STAT_FAULT k) && s.soCausePresent k), .state)] fun s =>
    let s := (s.setFld (R.SIO_SO_STAT_FAULT k) 0).setFld (R.SIO_SO_STAT_CAUSE k)
      (if s.on (R.SIO_SO_STAT_DEGRADED k) then (s.so k).stuck else 0)
    (s.soJudge k).soUpdate k)

end Sys2Proof.Machine
end

