-- ==== Sys2Proof/Machine/Eptal.lean ====
section
/-!
DEFINITION. Eptal streams (R409–R416): messages as bytes, the receiver's comparison of copies, demand and faults. Sending, which hands the
copies to the networks, stands with the networks.
-/
namespace Sys2Proof.Machine

/-- Location of a stream's events (chapter 12). -/
def locEpt (k : Nat) : Nat := loc 0 0 1 0x10 k

/-- The bytes of a message on one path (R409). -/
def eptPdu (sid epoch len seq : Nat) (pathB : Bool) (data : List Byte) : List Byte :=
  let h := leBytes sid 2 ++ [BitVec.ofNat 8 epoch, BitVec.ofNat 8 (len + b2n pathB * 128)] ++ leBytes seq 2 ++ data.take len
  h ++ leBytes (crc32c h) 4

/-- Fields of a received copy (R409). -/
def eptSid (p : List Byte) : Nat := ofLe (p.take 2)
def eptEpoch (p : List Byte) : Nat := (p.getD 2 0).toNat
def eptCtl (p : List Byte) : Nat := (p.getD 3 0).toNat
def eptSeq (p : List Byte) : Nat := ofLe ((p.drop 4).take 2)
def eptData (p : List Byte) : List Byte := (p.take (p.length - 4)).drop 6
/-- A copy's body: its bytes without the PATH bit and the CRC. -/
def eptBody (p : List Byte) : List Byte := ((p.take (p.length - 4)).zipIdx).map fun e => if e.2 = 3 then e.1 &&& 0x7F else e.1

namespace State

def ept (s : State) (k : Nat) : EptRec := s.safe.ept.read (fun _ => {}) k
def updEpt (s : State) (k : Nat) (f : EptRec → EptRec) : State :=
  { s with safe := { s.safe with ept := s.safe.ept.write (fun _ => {}) k (f (s.ept k)) } }

/-- Whether a payload carries demand (R415). -/
def carriesDemand (s : State) (k : Nat) (p : List Byte) : Bool :=
  let b := s.fld (R.EPT_CFG_DEMAND_BIT k)
  !bitAt ((eptData p).getD (b / 8) 0).toNat (b % 8)

/-- The cause of line 68 + s as the stream stands (R415): a change is posted, and the lines follow. -/
def eptShow (s : State) (k : Nat) : State :=
  let r := s.ept k
  let rx := s.on (R.EPT_CFG_EN k) && !s.on (R.EPT_CFG_DIR k)
  let d := rx && s.on (R.EPT_CFG_DEMAND_EN k)
    && (!r.got || r.lastDem || (r.held.any fun h => s.carriesDemand k h.2) || s.on (R.EPT_STAT_CAUSE k))
  let s := s.setFld (R.EPT_STAT_HOLDING k) (b2n r.held.isSome)
  let s := s.setFld (R.EPT_SEQ_HELD_SEQ k) ((r.held.map fun h => eptSeq h.2).getD 0)
  let s := if s.on (R.EPT_STAT_DEMAND k) == d then s
    else (s.setFld (R.EPT_STAT_DEMAND k) (b2n d)).post 0x0103 (locEpt k) (k + b2n (!d) * 16)
  s.syncLines

/-- A stream latches a fault: 1 MISMATCH, 2 TIMEOUT, 3 SINGLE (R416); an earlier one stays. -/
def eptFault (s : State) (k cause : Nat) : State :=
  if s.on (R.EPT_STAT_CAUSE k) then s
  else
    let s := (s.setFld (R.EPT_STAT_CAUSE k) cause).setFld (R.EPT_STAT_STATE k) 5
    ((s.flt .ept 0 (F.EPT_STREAM_FAULT + k)).post 0x3102 (locEpt k) (k + cause * 16)).eptShow k

/-- A message is delivered (R413, R414): `single` names the path it came on alone. -/
def eptDeliver (s : State) (k : Nat) (p : List Byte) (single : Option Bool) : State :=
  let d := eptData p
  let s := s.each (List.range 8) fun s j => s.wr (R.EPT_DATA k j) (BitVec.ofNat 32 (ofLe ((d.drop (4 * j)).take 4)))
  let s := ((s.setFld (R.EPT_SEQ_SEQ k) (eptSeq p)).setFld (R.EPT_STAT_FRESH k) 1).evt .ept 0 k
  let s := if (s.ept k).got then s else s.setFld (R.EPT_STAT_EXP_EPOCH k) (eptEpoch p)
  let s := s.updEpt k fun r => { r with got := true, lastDem := s.carriesDemand k p, held := none }
  let st := s.fld (R.EPT_STAT_STATE k)
  let s := match single with
    | none => (if st = 5 then s else s.setFld (R.EPT_STAT_STATE k) 2).setFld (R.EPT_STAT_SINGLE_LEFT k) 0
    | some b =>
      if st = 5 then s
      else
        let s := s.setFld (R.EPT_STAT_STATE k) (3 + b2n b)
        if st = 3 ∨ st = 4 then s
        else (s.setFld (R.EPT_STAT_SINGLE_LEFT k) (s.fld (R.EPT_TIME_SINGLE_MAX k))).post 0x1102 (locEpt k) (k + b2n b * 16)
  s.eptShow k

/-- A copy counted missing on a path (R413). -/
def eptMiss (s : State) (k : Nat) (pathB : Bool) : State := s.inc (if pathB then R.EPT_CNT_MISS_B k else R.EPT_CNT_MISS_A k)

/-- The held copy is delivered alone (R413). -/
def eptSingle (s : State) (k : Nat) : State :=
  match (s.ept k).held with
  | some (b, p) => (s.eptMiss k (!b)).eptDeliver k p (some b)
  | none => s

/-- A copy is valid (R412): CRC, SID, LEN, path and a newer SEQ. -/
def eptValid (s : State) (k : Nat) (pathB : Bool) (p : List Byte) : Bool :=
  let n := p.length - 4
  10 ≤ p.length && ofLe (p.drop n) == crc32c (p.take n) && eptSid p == s.fld (R.EPT_SID_SID k)
    && p.length == 10 + s.fld (R.EPT_CFG_LEN k) && eptCtl p == s.fld (R.EPT_CFG_LEN k) + b2n pathB * 128
    && (!(s.ept k).got || (let d := (eptSeq p + 65536 - s.fld (R.EPT_SEQ_SEQ k)) % 65536; 0 < d && d < 32768))

/-- The EPOCH of a stream whose configuration has changed from that of `s0`: its first EN assigns it, a change of source, destination or
direction reassigns it (R53, R54, R410). -/
def eptReassign (s s0 : State) (k : Nat) : State :=
  let e := s.fld (R.EPT_CFG_EPOCH k)
  let changed := s0.rd (R.EPT_SID k) != s.rd (R.EPT_SID k) || s0.rd (R.EPT_BUF k) != s.rd (R.EPT_BUF k)
    || s0.fld (R.EPT_CFG_DIR k) != s.fld (R.EPT_CFG_DIR k)
  s.setFld (R.EPT_CFG_EPOCH k) (if e = 0 then s.fld (R.EPT_CFG_EN k) else if changed then epochNext e else e)

/-- A copy reaches its receive stream (R412, R413); EPOCH 0x00 is always stale (R52). -/
def eptCopy (s : State) (k : Nat) (pathB : Bool) (p : List Byte) : State :=
  if !s.on (R.EPT_CFG_EN k) || s.on (R.EPT_CFG_DIR k) then s
  else if !s.eptValid k pathB p then s.inc (R.EPT_CNT_REJECT k)
  else if eptEpoch p == 0 || ((s.ept k).got && eptEpoch p != s.fld (R.EPT_STAT_EXP_EPOCH k)) then s.stale .ept 0
  else
    let hold (s : State) : State := (s.updEpt k fun r => { r with held := some (pathB, p) }).eptShow k
    match (s.ept k).held with
    | none => hold s
    | some (b, q) =>
      if eptSeq p = eptSeq q then
        if b == pathB then s.inc (R.EPT_CNT_REJECT k)
        else if eptBody p = eptBody q then s.eptDeliver k p none
        else ((s.inc (R.EPT_CNT_MISMATCH k)).updEpt k fun r => { r with held := none }).eptFault k 1 |>.eptShow k
      else hold (s.eptSingle k)

/-- A stream is enabled or its fault is reset (R412, R415, R416): it awaits its first message. -/
def eptBegin (s : State) (k : Nat) : State :=
  let s := (s.setFld (R.EPT_STAT_CAUSE k) 0).setFld (R.EPT_STAT_EXP_EPOCH k) 0
  let s := (s.setFld (R.EPT_STAT_STATE k) (b2n (s.on (R.EPT_CFG_EN k)))).setFld (R.EPT_STAT_SINGLE_LEFT k) 0
  (s.updEpt k fun r => { r with held := none, got := false, lastDem := false }).eptShow k

/-- One second of a stream's single-path timer (R414, R422). -/
def eptSecond (s : State) (k : Nat) : State :=
  s.setFld (R.EPT_STAT_SINGLE_LEFT k) (s.fld (R.EPT_STAT_SINGLE_LEFT k) - 1)

end State

/-- A copy of a stream's message is received on a path (R413). -/
def execEptalCopy (k : Fin 16) (pathB : Bool) (bytes : List Byte) (s : State) : Out := .next (s.eptCopy k pathB bytes)

/-- The comparison window of a held copy expires (R413). -/
def execEptalWindowExpiry (k : Fin 16) (s : State) : Out := .next (if (s.ept k).held.isSome then (s.opTo .ept 0).eptSingle k else s)

/-- The single-path timer reaches SINGLE_MAX (R414). -/
def execEptalSingleExpiry (k : Fin 16) (s : State) : Out :=
  .next (if s.fld (R.EPT_STAT_STATE k) = 3 ∨ s.fld (R.EPT_STAT_STATE k) = 4 then s.eptFault k 3 else s)

/-- A receive stream has had no delivery for PER_MAX (R416). -/
def execEptalDeliveryTimeout (k : Fin 16) (s : State) : Out :=
  .next (if s.on (R.EPT_CFG_EN k) && !s.on (R.EPT_CFG_DIR k) then (s.opTo .ept 0).eptFault k 2 else s)

/-- A copy that its network has not sent within PER_MAX is counted (R411); one whose Ethernet port is released from the stream has no
network that would send it later (R460). -/
def execEptalSendMiss (k : Fin 16) (pathB : Bool) (s : State) : Out :=
  let net := if pathB then s.fld (R.EPT_SID_NET_B k) else s.fld (R.EPT_SID_NET_A k)
  .next (if (if pathB then (s.ept k).unsentB else (s.ept k).unsentA) then
      let s := s.eptMiss k pathB
      if 4 ≤ net ∧ !s.on (R.ETH_EPT_PORT_EPT_EN (net - 4)) then
        s.updEpt k fun r => if pathB then { r with unsentB := false } else { r with unsentA := false }
      else s
    else s)

/-- A write of EPT_Ss_CTL.RESET = 1 (R416). -/
def execEptalReset (m : Master) (k : Fin 16) (s : State) : Out := .next (s.write m (R.EPT_CTL k) [] fun s => s.eptBegin k)

end Sys2Proof.Machine
end

