-- ==== Sys2Proof/Machine/Position.lean ====
section
/-!
DEFINITION. Position channels and encoder emulators (R270–R291): edges, illegal transitions, index, resolver, serial word, speed, sensor
faults, freezing, and the emulators' steps.
-/
namespace Sys2Proof.Machine

/-- Location of a position channel's events, and of an emulator's (chapter 8). -/
def locPos (p : Nat) : Nat := locBlk 0 (0x0C + p)
def locEmu (e : Nat) : Nat := loc 0 0 0 0x1C e

/-! ### Ratios -/

namespace Q

/-- A ratio in lowest terms. -/
def mk' (n : Int) (d : Nat) : Q := let g := Nat.gcd n.natAbs d; if g = 0 then {} else ⟨n / g, d / g⟩
def add (a b : Q) : Q := mk' (a.n * b.d + b.n * a.d) (a.d * b.d)
def neg (a : Q) : Q := ⟨-a.n, a.d⟩
def sub (a b : Q) : Q := a.add b.neg
def mul (a b : Q) : Q := mk' (a.n * b.n) (a.d * b.d)
def le (a b : Q) : Bool := a.n * b.d ≤ b.n * a.d
def floor (a : Q) : Int := a.n / (a.d : Int)
/-- The part of a ratio from 0 to below 1. -/
def frac (a : Q) : Q := ⟨a.n % (a.d : Int), a.d⟩
/-- The difference of two angles in cycles, wrapped to −1/2 up to 1/2 (R279). -/
def wrapdiff (a b : Q) : Q := ((a.sub b).add ⟨1, 2⟩).frac.sub ⟨1, 2⟩
/-- The value as binary32, rounded once. -/
def word (a : Q) : Word := (f32OfRatio a.n a.d).bits

end Q

/-! ### Angle and speed at a clock -/

namespace Meas

/-- Speed at clock `t`: the lower of the measured magnitude and one edge over the time since the last (R285). -/
def speed (m : Meas) (t : Nat) : Q :=
  match m.decay with
  | some (u, e) =>
    let b : Q := ⟨e.n * 400000000, e.d * (t - u)⟩
    if u < t && (b.le ⟨m.spd.n.natAbs, m.spd.d⟩) then (if m.spd.n < 0 then b.neg else b) else m.spd
  | none => m.spd

/-- Mechanical angle in turns at clock `t` (R275, R276, R279). -/
def angle (m : Meas) (t : Nat) : Q :=
  if m.advance then
    let d := (m.speed t).mul ⟨(t - m.t0 : Nat), 400000000⟩
    let d := match m.limit with
      | some l => if (⟨d.n.natAbs, d.d⟩ : Q).le l then d else if d.n < 0 then l.neg else l
      | none => d
    m.ang.add d
  else m.ang

/-- The three words of a channel (R271). A rounding to 1.0 gives the value below it, since ANG < 1. -/
def angWord (m : Meas) (t : Nat) : Word :=
  let a := (((m.angle t).mul ⟨m.pp, 1⟩).add ⟨m.ofs, 65536⟩).frac
  let w := a.word
  if w = f32OneBits then 0x3F7FFFFF else w
def spdWord (m : Meas) (t : Nat) : Word :=
  let v := m.speed t
  (f32Round (v.n < 0) (v.n.natAbs * m.pp * piQ128 * 2) (v.d * 2 ^ 128)).bits
def rpmWord (m : Meas) (t : Nat) : Word := ((m.speed t).mul ⟨60, 1⟩).word

end Meas

namespace State

def posRec (s : State) (p : Nat) : PosRec := s.pos.ch.read (fun _ => {}) p
def updPos (s : State) (p : Nat) (f : PosRec → PosRec) : State :=
  { s with pos := { s.pos with ch := s.pos.ch.write (fun _ => {}) p (f (s.posRec p)) } }

/-- Mode in force: 0 off, 1 resolver, 2 quadrature, 3 Hall, 4 serial word. -/
def posMode (s : State) (p : Nat) : Nat := s.fld (R.POS_STAT_MODE p)

/-- ANG, SPD and RPM at the present clock; a sensor fault or a freeze holds them, Off reads 0 (R270, R288, R289). -/
def showPos (s : State) (p : Nat) : State :=
  if s.posMode p = 0 ∨ s.on (R.POS_STAT_SENSOR_FAULT p) ∨ s.on (R.POS_STAT_FROZEN p) then s
  else
    let m := (s.posRec p).meas
    ((s.wr (R.POS_ANG p) (m.angWord s.now)).wr (R.POS_SPD p) (m.spdWord s.now)).wr (R.POS_RPM p) (m.rpmWord s.now)

/-- The measurements that reach back 64 µs: those younger, and the one in force then. -/
def pruneHist (now : Nat) : List (Nat × Meas) → List (Nat × Meas)
  | [] => []
  | e :: l => if e.1 + 25600 ≤ now then [e] else e :: pruneHist now l

/-- A new measurement from the present clock on. -/
def setMeas (s : State) (p : Nat) (f : Meas → Meas) : State :=
  let m := { f (s.posRec p).meas with pp := s.fld (R.POS_CFG_MACH_PP p) }
  (s.updPos p fun r => { r with meas := m, hist := (s.now, m) :: pruneHist s.now r.hist }).showPos p

/-- The offset of R272 takes effect at a tick boundary. -/
def posTick (s : State) (p : Nat) : State :=
  if (s.posRec p).meas.ofs = s.fld (R.POS_OFS_OFS p) then s else s.setMeas p fun m => { m with ofs := s.fld (R.POS_OFS_OFS p) }

/-! ### Emulators -/

def emuRec (s : State) (e : Nat) : EmuRec := s.pos.emu.read (fun _ => {}) e
def updEmu (s : State) (e : Nat) (f : EmuRec → EmuRec) : State :=
  { s with pos := { s.pos with emu := s.pos.emu.write (fun _ => {}) e (f (s.emuRec e)) } }

/-- The exact input of an emulator in divide mode: counts, with the mechanical angle at 65 536 per turn in modes 1 and 4 (R290). -/
def emuTarget (s : State) (e : Nat) : Int :=
  let c := signed 32 (s.fld (R.POS_COUNT_COUNT (s.fld (R.EMU_CFG_SRC e))))
  c * s.fld (R.EMU_RATIO_N e) / (s.fld (R.EMU_RATIO_D e) : Nat)
def emuOut (s : State) (e : Nat) : Int := (s.emuRec e).count
/-- The source is in sensor fault or frozen (R291). -/
def emuHeld (s : State) (e : Nat) : Bool :=
  s.on (R.POS_STAT_SENSOR_FAULT (s.fld (R.EMU_CFG_SRC e))) || s.on (R.POS_STAT_FROZEN (s.fld (R.EMU_CFG_SRC e)))

/-- A, B and Z as an emulator forms them (R290): the filtered lines of its source, or the state of its output count with Z once in Z_PER counts;
INV_DIR swaps A and B, which reverses the direction. -/
def emuPins (s : State) (e : Nat) : Nat :=
  let (a, b, z) :=
    if s.on (R.EMU_CFG_MODE e) then
      let n := ((s.emuOut e) % 4).toNat
      (n == 1 || n == 2, n == 2 || n == 3, s.on (R.EMU_CFG_Z_EN e) && (s.emuOut e) % (s.fld (R.EMU_ZPER_Z_PER e) : Nat) == 0)
    else
      let l := (s.posRec (s.fld (R.EMU_CFG_SRC e))).lines
      (bitAt l 0, bitAt l 1, bitAt l 2)
  let (a, b) := if s.on (R.EMU_CFG_INV_DIR e) then (b, a) else (a, b)
  b2n a + 2 * b2n b + 4 * b2n z

/-- Outputs, BACKLOG, HOLDING and overflow as an emulator stands (R290, R291, R295). -/
def showEmu (s : State) (e : Nat) : State :=
  let s := s.setFld (R.EMU_STAT_HOLDING e) (b2n (s.on (R.EMU_CFG_EN e) && s.emuHeld e))
  let s := if s.on (R.EMU_CFG_EN e) && !s.emuHeld e then s.updEmu e fun r => { r with pins := s.emuPins e } else s
  if s.on (R.EMU_CFG_EN e) && s.on (R.EMU_CFG_MODE e) then
    let b := (s.emuTarget e - s.emuOut e).natAbs
    let s := s.setFld (R.EMU_STAT_BACKLOG e) (min b 0xFFFF)
    if 4096 < b && !s.on (R.EMU_STAT_OVF e) then ((s.setFld (R.EMU_STAT_OVF e) 1).evt .emu 0 (E.EMU_OVF + e)).post 0x1073 (locEmu e) e
    else s
  else s.setFld (R.EMU_STAT_BACKLOG e) 0
def showEmus (s : State) : State := (s.showEmu 0).showEmu 1

/-- The groups whose position channel this is, TRAC = 1 (R391 line 14). -/
def posGroups (s : State) (p : Nat) : Nat :=
  (List.range 12).foldl (fun m g => if s.on (R.SAF_GRP_TRAC g) && s.fld (R.SAF_GRP_POS g) == p then m + 2 ^ g else m) 0

/-- A sensor fault (R288): 1 ILLEGAL, 2 WIRE, 3 AMPLITUDE, 4 EXCITATION, 5 BAD_WORDS; none while latched, Off or frozen. -/
def posFault (s : State) (p cause : Nat) : State :=
  if s.posMode p = 0 ∨ s.on (R.POS_STAT_SENSOR_FAULT p) ∨ s.on (R.POS_STAT_FROZEN p) then s
  else
    let s := ((s.setFld (R.POS_STAT_SENSOR_FAULT p) 1).setFld (R.POS_STAT_CAUSE p) cause).setFld (R.POS_STAT_SPD_VALID p) 0
    let s := s.updPos p fun r => { r with faultAt := s.now }
    (((s.flt .pos p F.POS_SENSOR).post 0x3070 (locPos p) (p + cause * 16)).raise 14 (s.posGroups p)).showEmus

/-! ### Edges (R283–R287) -/

/-- The angle of one edge in mechanical turns (R283). -/
def edgeTurns (s : State) (p : Nat) : Q :=
  if s.posMode p = 2 then ⟨1, 4 * s.fld (R.POS_QEI_LINES p)⟩ else ⟨1, 6 * s.fld (R.POS_CFG_SENS_PP p)⟩

/-- COUNT changes, wrapping (R273). -/
def addCount (s : State) (p : Nat) (d : Int) : State :=
  s.setFld (R.POS_COUNT_COUNT p) (unsigned 32 (signed 32 (s.fld (R.POS_COUNT_COUNT p)) + d))

/-- The angle where the channel stands at an edge, with the way the motion goes (R275, R276): COUNT over its turn; the sector's edge, or its
centre with INTERP = 0. -/
def edgeAngle (s : State) (p : Nat) (back : Bool) : Q :=
  if s.posMode p = 2 then ⟨signed 32 (s.fld (R.POS_COUNT_COUNT p)), 4 * s.fld (R.POS_QEI_LINES p)⟩
  else
    let sec := (s.posRec p).sector
    let pp := s.fld (R.POS_CFG_SENS_PP p)
    if s.on (R.POS_CFG_INTERP p) then ⟨(sec + b2n back : Nat), 6 * pp⟩ else ⟨(2 * sec + 1 : Nat), 12 * pp⟩

/-- A standstill on the present clock gives way to the edge that falls on it (R286). -/
def undoStill (s : State) (p : Nat) : State :=
  match (s.posRec p).still with
  | some u =>
    if u.clock = s.now then
      ((s.setFld (hdr .pos p 0x10 E.POS_STILL 1) (b2n u.evt)).setFld (hdr .pos p 0x28 1 1) (b2n u.opTo)).updPos p fun r =>
        { r with restart := u.restart, meas := u.meas, still := none }
    else s
  | none => s

/-- A legal edge with its direction and timestamp (R284). -/
def legalEdge (s : State) (p : Nat) (back : Bool) (te : Nat) : State :=
  let s := (s.undoStill p).updPos p fun r => { r with lastAt := s.now }
  let r := s.posRec p
  let e := s.edgeTurns p
  let rev := !r.edges.isEmpty && back != r.back
  let s := s.setFld (R.POS_STAT_STILL p) 0
  let adv := s.on (R.POS_CFG_INTERP p)
  let place (m : Meas) : Meas := { m with ang := s.edgeAngle p back, t0 := te, advance := adv, limit := some e }
  if r.restart ≠ 0 ∨ rev then
    let s := if rev && r.restart = 0 then s.inc (R.POS_ERRC_DISCARD p) else s
    let s := s.setFld (R.POS_STAT_DIR p) (b2n back)
    let s := s.updPos p fun r => { r with restart := 0, m := 0, back := back, edges := te :: r.edges.take 4 }
    s.setMeas p fun m => place (if r.restart = 2 then m else { m with spd := {}, decay := none })
  else
    let k := min (r.m + 1) (2 ^ s.fld (R.POS_CFG_SPAN p))
    let dt := max 1 (te - r.edges.getD (k - 1) te)
    let v : Q := Q.mk' (e.n * k * 400000000) (e.d * dt)
    let s := (s.setFld (R.POS_PERIOD_CLOCKS p) dt).setFld (R.POS_STAT_HELD p) 0
    let s := s.setFld (R.POS_STAT_DIR p) (b2n back)
    let s := s.updPos p fun r => { r with m := k, back := back, edges := te :: r.edges.take 4 }
    s.setMeas p fun m => place { m with spd := if back then v.neg else v, decay := some (te, e) }

/-- An illegal transition (R274, R276): the speed is held at its present value, the next legal edge is a restart; ILL_MAX in a window is
a sensor fault. -/
def illegal (s : State) (p : Nat) : State :=
  let s := (((s.inc (R.POS_ERRC_ILLEGAL_CNT p)).evt .pos p E.POS_ILLEGAL).post 0x1070 (locPos p) p).setFld (R.POS_STAT_HELD p) 1
  let s := s.setMeas p fun m => { m with spd := m.speed s.now, decay := none }
  let s := s.updPos p fun r => { r with restart := 2, ill := r.ill + 1 }
  if s.fld (R.POS_ILL_ILL_MAX p) ≤ (s.posRec p).ill then s.posFault p 1 else s

/-- A and B as a step of the forward sequence 00, 10, 11, 01 (R273); DIR_INV swaps them (R271). -/
def abStep (s : State) (p : Nat) (lines : Nat) : Nat :=
  let (a, b) := if s.on (R.POS_CFG_DIR_INV p) then (bitAt lines 1, bitAt lines 0) else (bitAt lines 0, bitAt lines 1)
  if a then (if b then 2 else 1) else (if b then 3 else 0)

/-- The timestamp of a filtered change: the first of its FILT + 1 samples (R273). -/
def lineStamp (s : State) (p : Nat) : Nat := s.now - s.fld (R.POS_CFG_FILT p)

/-- New filtered A and B (R273, R274): one step is a legal edge, two are an illegal transition. -/
def quadState (s : State) (p old new : Nat) : State :=
  let d := (s.abStep p new + 4 - s.abStep p old) % 4
  if d = 0 then s
  else if d = 2 then s.illegal p
  else (s.addCount p (if d = 1 then 1 else -1)).legalEdge p (d == 3) (s.lineStamp p)

/-- The sector of a Hall state, 6 for none (R276); DIR_INV mirrors it. -/
def hallSector (s : State) (p h : Nat) : Nat :=
  if h = 0 ∨ 7 ≤ h then 6
  else
    let x := getBits (s.rd (R.POS_HALL p)) (3 * h - 3) 3
    if s.on (R.POS_CFG_DIR_INV p) then 5 - x else x

/-- The angle at the centre of the present sector (R276): where no edge has led into it, nothing advances it. -/
def placeCentre (s : State) (p : Nat) : State :=
  let a : Q := ⟨(2 * (s.posRec p).sector + 1 : Nat), 12 * s.fld (R.POS_CFG_SENS_PP p)⟩
  s.setMeas p fun m => { m with ang := a, t0 := s.now, advance := false, limit := none }

/-- A new filtered Hall state (R276). A return from state 0 or 7 to the sector before it is no edge, and the angle goes on from the last. -/
def hallState (s : State) (p h : Nat) : State :=
  let x := s.hallSector p h
  let o := (s.posRec p).sector
  let s := s.updPos p fun r => { r with sector := x, was := if o < 6 then o else r.was }
  if x = 6 then s.illegal p
  else if o = 6 ∧ (s.posRec p).was = x ∧ s.on (R.POS_CFG_INTERP p) then s
  else if o = 6 ∨ o = x then s.placeCentre p
  else if x = (o + 1) % 6 then (s.addCount p 1).legalEdge p false (s.lineStamp p)
  else if x = (o + 5) % 6 then (s.addCount p (-1)).legalEdge p true (s.lineStamp p)
  else (s.placeCentre p).illegal p

/-- err of an index: COUNT mod 4 × LINES, from −2 × LINES to 2 × LINES − 1 (R275). -/
def indexErr (s : State) (p : Nat) : Int :=
  let l : Int := s.fld (R.POS_QEI_LINES p)
  (signed 32 (s.fld (R.POS_COUNT_COUNT p)) + 2 * l) % (4 * l) - 2 * l

/-- An index (R275). -/
def index (s : State) (p : Nat) : State :=
  if ¬s.on (R.POS_QEI_Z_EN p) then s
  else
    let err := s.indexErr p
    let place (s : State) : State := s.setMeas p fun m => { m with ang := s.edgeAngle p false }
    if !s.on (R.POS_STAT_HOMED p) then
      place ((((s.addCount p (-err)).setFld (R.POS_STAT_HOMED p) 1).evt .pos p E.POS_HOMED).post 0x0070 (locPos p) p)
    else
      let s := if s.fld (R.POS_QEI_Z_TOL p) < err.natAbs then
          ((s.inc (R.POS_ERRC_ZERR p)).evt .pos p E.POS_ZERR).post 0x1072 (locPos p) (p + unsigned 16 err * 2 ^ 16)
        else s
      if s.on (R.POS_QEI_Z_CORR p) then place (s.addCount p (-err)) else s

/-- The lines after filtering (R273): one takes a new value once it has read it on FILT + 1 samples in a row. The samples are S1, S2, S3 as
bits 0 to 2, newest first. -/
def filtered (s : State) (p : Nat) (l : List Nat) : Nat :=
  let n := s.fld (R.POS_CFG_FILT p) + 1
  let line (i : Nat) : Bool :=
    let v := bitAt (l.headD 0) i
    if n ≤ l.length && (l.take n).all (fun x => bitAt x i == v) then v else bitAt (s.posRec p).lines i
  b2n (line 0) + 2 * b2n (line 1) + 4 * b2n (line 2)

/-- New samples of a channel's lines (R273–R276): the filtered lines are decoded as its mode has it, an index after the transition it falls
together with; the emulators follow. -/
def posLines (s : State) (p : Nat) (l : List Nat) : State :=
  let old := (s.posRec p).lines
  let new := s.filtered p l
  if new = old then s
  else
    let s := s.updPos p fun r => { r with lines := new }
    (match s.posMode p with
    | 2 =>
      let s := s.quadState p old new
      if bitAt new 2 && !bitAt old 2 then s.index p else s
    | 3 => s.hallState p new
    | _ => s).showEmus

/-! ### Angle differences (R279, R282) -/

/-- A new angle in cycles with its instant (R279): the speed filter, the unwrapped angle and COUNT. `pp` cycles make a turn. -/
def newAngle (s : State) (p : Nat) (sig : Q) (t pp : Nat) : State :=
  let sig := if s.on (R.POS_CFG_DIR_INV p) then sig.neg.frac else sig
  let r := s.posRec p
  let turn (q : Q) : Q := Q.mk' q.n (q.d * pp)
  let (w, unw) := match r.prev with
    | none => (r.w, match r.unw with
      | some u => u.add (turn (sig.wrapdiff ((u.mul ⟨pp, 1⟩).frac)))
      | none => turn sig)
    | some (sp, tp) =>
      let d := sig.wrapdiff sp
      let wk := d.mul ⟨400000000, max 1 (t - tp)⟩
      (r.w.add ((wk.sub r.w).mul ⟨1, 2 ^ s.fld (R.POS_TIME_SPD_SH p)⟩), (r.unw.getD {}).add (turn d))
  let s := s.updPos p fun r => { r with prev := some (sig, t), w := w, unw := some unw, restart := 0 }
  let s := s.setFld (R.POS_COUNT_COUNT p) (unsigned 32 (unw.mul ⟨65536, 1⟩).floor)
  let s := s.setFld (R.POS_STAT_DIR p) (b2n (w.n < 0))
  (s.setMeas p fun m =>
    { m with ang := turn sig, t0 := t, spd := turn w, decay := none, advance := s.on (R.POS_CFG_INTERP p), limit := none }).showEmus

/-- sin(2π j / n) in units of 2^-128 (R278). -/
def sinStep (j n : Nat) : Int :=
  let u : Int := if 2 * (j % n) ≤ n then (j % n : Nat) else (j % n : Nat) - (n : Int)
  let x : Int := (piQ128 : Int) * 2 * u / (n : Int)
  sinLoop (x * x / 2 ^ 128) 30 1 x x

/-- A sample pair of a channel in resolver mode: the codes of its two converters at a conversion end (R277). -/
def resolverSample (s : State) (p : Nat) : State :=
  if s.posMode p ≠ 1 then s
  else
    let code (c : Nat) : Int := signed 16 (s.fld (R.FAD_CH_RAW_CODE c))
    s.updPos p fun r => { r with smp := r.smp ++ [(s.now - 56, code (s.fld (R.POS_RSLV0_FA_SIN p)), code (s.fld (R.POS_RSLV0_FA_COS p)))] }

/-- The demodulation of an excitation period (R278): s and c in units of 2^-128. -/
def demod (phase n : Nat) (l : List (Nat × Int × Int)) : Int × Int :=
  (l.zipIdx).foldl (fun a e => let r := sinStep (e.2 + n - phase) n; (a.1 + e.1.2.1 * r, a.2 + e.1.2.2 * r)) (0, 0)

/-! ### Serial word (R280–R282) -/

/-- A transaction's trigger (R280). -/
def serialTrigger (s : State) (src : Nat) : State :=
  s.each (List.range 4) fun s p =>
    if s.posMode p ≠ 4 ∨ s.fld (R.POS_SER2_TRIG p) ≠ src then s
    else
      let r := s.posRec p
      if r.busy || s.now < r.gapEnd then s.inc (R.POS_SKIP_SKIP p)
      else s.updPos p fun r => { r with busy := true, tk := s.now }

/-- Bits in order of arrival as a number, the first most significant. -/
def bitsNat (l : List Bool) : Nat := l.foldl (fun a b => 2 * a + b2n b) 0

/-- A serial CRC: length and polynomial by CRC_SEL, initial value 0 (R281). -/
def serCrcLen (sel : Nat) : Nat := match sel with
  | 0 => 0 | 1 => 5 | 2 => 6 | _ => 8
def serCrc (sel : Nat) (l : List Bool) : Nat :=
  let n := serCrcLen sel
  let poly := match sel with
    | 1 => 0x05 | 2 => 0x03 | _ => 0x07
  l.foldl (fun c b => let top := (bitAt c (n - 1)) != b; let c := 2 * c % 2 ^ n; if top then c ^^^ poly else c) 0

/-- What is wrong with a frame: 1 + kind, 0 for a good one (R282). -/
def serialBad (s : State) (p : Nat) (bits : List Bool) : Nat :=
  let n := s.fld (R.POS_SER0_FRAME_LEN p)
  let sel := s.fld (R.POS_SER1_CRC_SEL p)
  let l := serCrcLen sel
  let got := bitsNat (bits.drop (n - l))
  let want := serCrc sel (bits.take (n - l))
  let got := if s.on (R.POS_SER1_CRC_INV p) then 2 ^ l - 1 - got else got
  if sel ≠ 0 ∧ got ≠ want then 1
  else if s.on (R.POS_SER1_ERR_EN p) && b2n (bits.getD (s.fld (R.POS_SER1_ERR_BIT p)) false) == s.fld (R.POS_SER1_ERR_POL p) then 2
  else 0

/-- The transaction ends: its gap begins (R280). -/
def serialEnd (s : State) (p : Nat) : State :=
  s.updPos p fun r => { r with busy := false, gapEnd := s.now + 400 * s.fld (R.POS_SER2_GAP p) }

/-- A bad word of a kind (R282). -/
def badWord (s : State) (p kind : Nat) : State :=
  let s := (((s.inc (R.POS_ERRC_BAD_WORD p)).evt .pos p E.POS_BAD_WORD).post 0x1071 (locPos p) (p + kind * 16)).setFld (R.POS_STAT_HELD p) 1
  let s := s.setMeas p fun m => { m with ang := m.angle s.now, spd := m.speed s.now, decay := none, advance := false }
  let s := s.updPos p fun r => { r with prev := none, badRun := r.badRun + 1 }
  if s.fld (R.POS_SER2_N_BAD p) ≤ (s.posRec p).badRun then s.posFault p 5 else s

/-- The data line of a transaction at a clock after its start: its changes with their clocks, in order. -/
def lineAt (l : List (Nat × Bool)) (c : Nat) : Bool := ((l.filter fun e => e.1 ≤ c).getLast?.map Prod.snd).getD false

/-- Sample `i` of the data line, from 0 (R280): SMP_DLY after rising clock edge `i`, the first of which comes CLK_HALF after the first falling
edge. -/
def serialSample (s : State) (p : Nat) (l : List (Nat × Bool)) (i : Nat) : Bool :=
  lineAt l (s.fld (R.POS_SER1_CLK_HALF p) * (2 * i + 1) + s.fld (R.POS_SER2_SMP_DLY p))

/-- The sample that is the start bit: the first 1, with no more than START_MAX clock periods before it (R280). -/
def serialStart (s : State) (p : Nat) (l : List (Nat × Bool)) : Option Nat :=
  (List.range (s.fld (R.POS_SER1_START_MAX p) + 1)).find? (s.serialSample p l)

/-- A transaction as the data line showed it (R280–R282). -/
def serialWord (s : State) (p : Nat) (l : List (Nat × Bool)) : State :=
  if s.posMode p ≠ 4 ∨ ¬(s.posRec p).busy then s
  else match s.serialStart p l with
  | none => (s.serialEnd p).badWord p 2
  | some k =>
    let n := s.fld (R.POS_SER0_FRAME_LEN p)
    let bits := (List.range n).map fun i => s.serialSample p l (k + 1 + i)
    let raw := bitsNat bits
    let s := ((s.serialEnd p).wr (R.POS_RAW0 p) (BitVec.ofNat 32 raw)).wr (R.POS_RAW1 p) (BitVec.ofNat 32 (raw / 2 ^ 32))
    let bad := s.serialBad p bits
    if bad ≠ 0 then s.badWord p (bad - 1)
    else
      let st := s.fld (R.POS_SER0_ST_BITS p)
      let v := bitsNat ((bits.drop (s.fld (R.POS_SER0_POS_OFS p))).take (s.fld (R.POS_SER0_POS_LEN p)))
      let s := ((s.setFld (R.POS_MTURN_TURNS p) (v / 2 ^ st)).setFld (R.POS_STAT_HELD p) 0).updPos p fun r => { r with badRun := 0 }
      s.newAngle p ⟨(v % 2 ^ st : Nat), 2 ^ st⟩ (s.posRec p).tk 1

/-! ### Restart and freeze (R287–R289) -/

/-- The cause of a latched sensor fault is still present; `wireOk` is what the wire detector shows (R288). -/
def posCausePresent (s : State) (p : Nat) (wireOk : Bool) : Bool :=
  match s.fld (R.POS_STAT_CAUSE p) with
  | 2 => !wireOk
  | 3 => 4 ≤ (s.posRec p).ampBad
  | 4 => 4 ≤ (s.posRec p).excBad
  | 5 => (s.posRec p).badRun != 0
  | _ => false

/-- SPD_VALID as a channel stands (R288, R289). -/
def showValid (s : State) (p : Nat) : State :=
  s.setFld (R.POS_STAT_SPD_VALID p) (b2n (s.on (R.POS_STAT_FROZEN p) || (s.posMode p != 0 && !s.on (R.POS_STAT_SENSOR_FAULT p))))

/-- Measurement begins again (R287). -/
def posBegin (s : State) (p : Nat) : State :=
  let s := (s.setFld (R.POS_STAT_HELD p) 0).setFld (R.POS_STAT_HOMED p) 0
  let s := s.updPos p fun r => { r with restart := 1, ill := 0, m := 0, edges := [], prev := none, w := {}, lastAt := s.now, still := none }
  s.setMeas p fun m => { m with spd := {}, decay := none }

/-- RESTART (R287–R289): beside that it clears a latched fault whose cause is absent, and FROZEN with X2 present. -/
def posRestart (s : State) (p : Nat) (wireOk : Bool) : State :=
  let clear := s.on (R.POS_STAT_SENSOR_FAULT p) && !s.posCausePresent p wireOk
  let s := if clear then (s.setFld (R.POS_STAT_SENSOR_FAULT p) 0).setFld (R.POS_STAT_CAUSE p) 0 else s
  let s := if s.on R.PWR_STAT_X2_PRESENT then s.setFld (R.POS_STAT_FROZEN p) 0 else s
  ((s.showValid p).posBegin p).showEmus

/-- A change of MODE (R270): measurement begins again, in Hall mode at the centre of the sector that the lines show; Off reads +0.0. -/
def posSetMode (s : State) (p mode : Nat) : State :=
  let s := s.setFld (R.POS_STAT_MODE p) mode
  let sec := if mode = 3 then s.hallSector p (s.posRec p).lines else 6
  let s := s.updPos p fun r => { r with sector := sec, was := 6, smp := [], unw := none, busy := false, badRun := 0, ampBad := 0, excBad := 0 }
  let s := (s.posBegin p).showValid p
  let a : Q := if mode = 2 then s.edgeAngle p false else {}
  let s := s.setMeas p fun m => { m with advance := false, limit := none, ang := a }
  let s := if sec < 6 then s.placeCentre p else s
  (if mode = 0 then ((s.wr (R.POS_ANG p) 0).wr (R.POS_SPD p) 0).wr (R.POS_RPM p) 0 else s).showEmus

/-- A write of POSn_CFG that keeps the mode (R271, R276): where it turns the sense of σ the reference and the speed turn with it, and the angle is
taken anew, to advance or not as INTERP says. -/
def posReconfig (s : State) (p : Nat) (turned : Bool) : State :=
  let s := if turned then s.updPos p fun r =>
      { r with was := 6, sector := if r.sector < 6 then 5 - r.sector else 6, back := !r.back, prev := r.prev.map fun q => (q.1.neg.frac, q.2), w := r.w.neg,
               edges := if s.posMode p = 2 ∨ s.posMode p = 3 then [] else r.edges, restart := if s.posMode p = 2 ∨ s.posMode p = 3 then 1 else r.restart }
    else s
  let r := s.posRec p
  let edged : Bool := s.posMode p = 2 || (s.posMode p = 3 && r.sector < 6 && !r.edges.isEmpty)
  let known : Bool := if s.posMode p = 2 ∨ s.posMode p = 3 then !r.edges.isEmpty else r.prev.isSome
  let s := s.setMeas p fun m =>
    { m with ang := if edged then s.edgeAngle p r.back else if turned then m.ang.neg else m.ang,
             spd := if turned then m.spd.neg else m.spd, advance := known && s.on (R.POS_CFG_INTERP p) }
  (if s.posMode p = 3 && r.sector < 6 && r.edges.isEmpty then s.placeCentre p else s).showEmus

/-- Every channel freezes as the X2 presence goes (R289): the values of 64 µs before, which a channel that was in sensor fault by then holds
still. -/
def posFreeze (s : State) : State :=
  (s.each (List.range 4) fun s p =>
    let t := s.now - 25600
    let s := if s.posMode p = 0 ∨ (s.on (R.POS_STAT_SENSOR_FAULT p) ∧ (s.posRec p).faultAt ≤ t) ∨ s.on (R.POS_STAT_FROZEN p) then s
      else
        let m := (((s.posRec p).hist.find? fun e => e.1 ≤ t).map Prod.snd).getD {}
        ((s.wr (R.POS_ANG p) (m.angWord t)).wr (R.POS_SPD p) (m.spdWord t)).wr (R.POS_RPM p) (m.rpmWord t)
    (s.setFld (R.POS_STAT_FROZEN p) 1).setFld (R.POS_STAT_SPD_VALID p) 1).showEmus

/-- A write of EMU_CFGe (R290, R291): refused while EN = 1 unless it clears EN, and for pass-through of a source not in quadrature. -/
def emuCfg (s : State) (m : Master) (e : Nat) (v : Word) : State :=
  let f (lo w : Nat) : Nat := getBits v lo w
  s.write m (R.EMU_CFG e) [(s.on (R.EMU_CFG_EN e) && f 0 1 == 1, .state), (f 0 1 == 1 && f 1 1 == 0 && s.posMode (f 2 2) != 2, .state)]
    fun s =>
      let was := s.on (R.EMU_CFG_EN e)
      let s := s.wr (R.EMU_CFG e) (BitVec.ofNat 32 (getBits v 0 6))
      (if f 0 1 = 1 ∧ ¬was then
        let s := s.updEmu e fun r => { r with count := s.emuTarget e, last := none }
        s.updEmu e fun r => { r with pins := s.emuPins e }
      else s).showEmu e

end State

/-- Samples of A, B and Z with which a filtered line changes (R273). -/
def execQuadratureEdge (p : Fin 4) (l : List (Fin 8)) (s : State) : Out :=
  .next (s.posLines p (l.map Fin.val))

/-- Samples that make an illegal transition (R274, R276): both A and B change; a Hall state without a sector or not adjacent. -/
def execIllegalTransition (p : Fin 4) (l : List (Fin 8)) (s : State) : Out :=
  .next (s.posLines p (l.map Fin.val))

/-- The window of the illegal-transition count ends (R274). -/
def execIllWindowEnd (p : Fin 4) (s : State) : Out := .next (s.updPos p fun r => { r with ill := 0 })

/-- Samples with which the filtered Z rises (R275). -/
def execIndexPulse (p : Fin 4) (l : List (Fin 8)) (s : State) : Out :=
  .next (s.posLines p (l.map Fin.val))

/-- Samples of H1, H2, H3 with which the filtered Hall state changes (R276). -/
def execHallEdge (p : Fin 4) (l : List (Fin 8)) (s : State) : Out :=
  .next (s.posLines p (l.map Fin.val))

/-- The demodulation of an excitation period completes (R278, R279); `cur` is the peak of the excitation current in the period, in µA. The
angle of two zero sums is left open. -/
def execResolverResult (p : Fin 4) (cur : Fin 1048576) (s : State) : Out :=
  .next (
    let n := s.fld (R.POS_RSLV0_EXC_DIV p)
    let l := ((s.posRec p).smp).take n
    if s.posMode p ≠ 1 ∨ l.length < n then s
    else
      let (sn, cs) := State.demod (s.fld (R.POS_RSLV1_PHASE p)) n l
      let amp := isqrt (4 * (sn * sn + cs * cs).toNat / (n * n)) / 2 ^ 128
      let (s, sig) := if sn = 0 ∧ cs = 0 then (s.tookFree, s.freeVal.toNat * 2 ^ 32) else (s, atan2Turns sn cs)
      let s := s.setFld (R.POS_AMP_AMP p) amp
      let out := amp < 64 * s.fld (R.POS_RSLV1_AMP_LO p) || 64 * s.fld (R.POS_RSLV1_AMP_HI p) < amp
      let bad := 100000 < cur.val || (cur.val < 2000 && s.on (R.POS_RSLV0_EXC_EN p))
      let s := s.updPos p fun r =>
        { r with smp := r.smp.drop n, ampBad := (if out then r.ampBad + 1 else 0), excBad := (if bad then r.excBad + 1 else 0) }
      let t := (l.getD (n / 2) (s.now, 0, 0)).1
      let s := s.newAngle p ⟨sig, 2 ^ 64⟩ t (s.fld (R.POS_CFG_SENS_PP p))
      if 4 ≤ (s.posRec p).ampBad then s.posFault p 3 else if 4 ≤ (s.posRec p).excBad then s.posFault p 4 else s)

/-- The data line of a transaction, as its changes with their clocks since its first falling clock edge (R280–R282). -/
def execSerialWord (p : Fin 4) (line : List (Nat × Bool)) (s : State) : Out := .next (s.serialWord p line)

/-- WTO elapses without the last bit (R282). -/
def execSerialWordTimeout (p : Fin 4) (s : State) : Out :=
  .next (if s.posMode p = 4 ∧ (s.posRec p).busy then ((s.opTo .pos p).serialEnd p).badWord p 3 else s)

/-- No legal edge for STILL_MS (R286); an edge on the same clock prevails, whichever comes first. -/
def execStandstill (p : Fin 4) (s : State) : Out :=
  .next (
    let r := s.posRec p
    if (s.posMode p = 2 ∨ s.posMode p = 3) ∧ ¬s.on (R.POS_STAT_STILL p) ∧ r.lastAt + 400000 * s.fld (R.POS_TIME_STILL_MS p) ≤ s.now then
      let u : StillUndo := { clock := s.now, restart := r.restart, meas := r.meas, evt := s.on (hdr .pos p 0x10 E.POS_STILL 1),
                             opTo := s.on (hdr .pos p 0x28 1 1) }
      let s := ((s.setFld (R.POS_STAT_STILL p) 1).evt .pos p E.POS_STILL).opTo .pos p
      (s.updPos p fun r => { r with restart := 1, still := some u }).setMeas p fun m => { m with spd := {}, decay := none }
    else s)

/-- A write of POSn_CTL.RESTART = 1 (R287); `wireOk` is what the wire detector shows. -/
def execPosRestart (m : Master) (p : Fin 4) (wireOk : Bool) (s : State) : Out :=
  .next (s.write m (R.POS_CTL p) [] fun s => s.posRestart p wireOk)

/-- A channel declares a sensor fault for a cause whose condition has lasted or been counted (R288). -/
def execSensorFault (p : Fin 4) (cause : Fin 6) (s : State) : Out :=
  .next (
    let mode := s.posMode p
    let r := s.posRec p
    let ok := match cause.val with
      | 1 => (mode == 2 || mode == 3) && s.fld (R.POS_ILL_ILL_MAX p) ≤ r.ill
      | 2 => mode == 2 || mode == 4
      | 3 => mode == 1 && 4 ≤ r.ampBad
      | 4 => mode == 1 && 4 ≤ r.excBad
      | 5 => mode == 4 && s.fld (R.POS_SER2_N_BAD p) ≤ r.badRun
      | _ => false
    if ok then (s.posFault p cause).showEmus else s)

/-- An emulator in divide mode steps its output one count towards its target, no sooner than 16 clocks after its previous step (R290,
R291). -/
def execEmuStep (e : Fin 2) (s : State) : Out :=
  .next (if s.on (R.EMU_CFG_EN e) && s.on (R.EMU_CFG_MODE e) && !s.emuHeld e && ((s.emuRec e).last.all fun t => t + 16 ≤ s.now)
      && s.emuTarget e != s.emuOut e then
    let d : Int := if s.emuOut e < s.emuTarget e then 1 else -1
    (s.updEmu e fun r => { r with count := r.count + d, last := some s.now }).showEmu e
  else s)

/-- A write of EMU_CFGe (R291). -/
def execEmuEnable (m : Master) (e : Fin 2) (v : Word) (s : State) : Out := .next (s.emuCfg m e v)

end Sys2Proof.Machine
end

