-- ==== Sys2Proof/Machine/Traction.lean ====
section
/-!
DEFINITION. Traction supervision (chapter 9): votes and counters of a window, declarations, the degraded mode, and magnet health.
-/
namespace Sys2Proof.Machine

/-- Location of TRC events: 0 phase supervision, 1 degrade timer, 2 magnet health (chapter 9). -/
def locTrc (n mac : Nat) : Nat := loc 0 0 0 (0x30 + n) mac

/-- A word as an exact ratio; it must be finite. -/
def Q.ofWord (x : Word) : Q := ⟨f32Val x, 2 ^ 149⟩

/-- The magnitude of a vector of two words, rounded once. -/
def magnitude (x y : Word) : Word :=
  let n := (f32Val x * f32Val x + f32Val y * f32Val y).toNat
  (f32Round false (isqrt (n * 2 ^ 120)) (2 ^ 209)).bits

/-- The residual line of (x, y) as a multiple of 30°, 0 to 5; a tie goes to the lower angle, and the angle of a zero vector is 0 (R304,
R153). -/
def resLine (x y : Word) : Nat :=
  let vx := f32Val x
  let vy := f32Val y
  if vx = 0 ∧ vy = 0 then 0
  else if vx.natAbs = vy.natAbs then (if vx = vy then 1 else 4)
  else ((atan2Turns vy vx % 2 ^ 63 * 12 + 2 ^ 63) / 2 ^ 64) % 6

/-- The phase code of a line, and its set (R304). -/
def linePhase (k : Nat) : Nat := [0, 4, 1, 5, 2, 3].getD k 7
def lineSet (k : Nat) : Nat := k % 2

namespace State

/-- Channel of phase `i` in the order of R297; the sensor and open counters of set `k` (0 or 1). -/
def trcCh (s : State) (n i : Nat) : Nat := getBits (s.rd (R.TRC_FA n)) (5 * i) 5
def sCnt (n k : Nat) : Fld := if k = 0 then R.TRC_CNT_S1 n else R.TRC_CNT_S2 n
def oCnt (n k : Nat) : Fld := if k = 0 then R.TRC_CNT_O1 n else R.TRC_CNT_O2 n

/-- A counter counts its vote (R305). -/
def count (s : State) (f : Fld) (vote : Bool) : State := if vote then s.inc f else s.setFld f (s.fld f - 1)

/-- A counter has reached DET_CNT by this window's vote. -/
def reached (s : State) (n : Nat) (f : Fld) (vote : Bool) : Bool := vote && s.fld (R.TRC_OPD_DET_CNT n) ≤ s.fld f

/-- One delivered window of the machine's group (R304–R306, R312). -/
def trcWindow (s : State) (n : Nat) (w : Closed) : State :=
  let g := s.fld (R.TRC_CFG_GRP n)
  if !s.on (R.TRC_CFG_OPD_EN n) || s.gstate g != 2 then s
  else
    let cur (i : Nat) : Word := (s.fast (s.trcCh n i)).port
    let ovr (k : Nat) : Option Nat := (List.range 3).map (3 * k + ·) |>.find? fun i => w.chans.any fun e => e.1 == s.trcCh n i && e.2.2.2.1
    let v := (vsd6Of ((List.range 6).map fun i => Ev.of (cur i))).map Res.bits
    let x := v.getD 2 0
    let y := v.getD 3 0
    let z (k : Nat) : Word := v.getD (4 + k) 0
    let r := magnitude x y
    let th := Ev.of (s.rd (R.TRC_Z_TH n))
    let sv (k : Nat) : Bool := (ovr k).isSome || th.lt (Ev.of (z k)).abs
    let line := resLine x y
    let s := ((s.wr (R.TRC_RES n) r).wr (R.TRC_Z1 n) (z 0)).wr (R.TRC_Z2 n) (z 1)
    let phase (k : Nat) : Nat := match ovr k with
      | some i => i
      | none => linePhase line
    if s.fld (R.TRC_STAT_STATE n) = 0 then
      let open_ := !sv 0 && !sv 1 && (Ev.of (s.rd (R.TRC_RES_TH n))).lt (Ev.of r)
      let ov (k : Nat) : Bool := open_ && lineSet line == k
      let s := s.each [0, 1] fun s k => (s.count (sCnt n k) (sv k)).count (oCnt n k) (ov k)
      let hit (k : Nat) : Bool := s.reached n (sCnt n k) (sv k) || s.reached n (oCnt n k) (ov k)
      let at_ (k : Nat) : Bool := s.fld (R.TRC_OPD_DET_CNT n) ≤ max (s.fld (sCnt n k)) (s.fld (oCnt n k))
      let cause (k : Nat) : Nat := if s.reached n (sCnt n k) (sv k) then 2 else 1
      if !hit 0 && !hit 1 then s
      else if at_ 0 && at_ 1 then s.updTrac n fun t => { t with decl := 3 }
      else
        let k := if hit 0 then 0 else 1
        s.updTrac n fun t => { t with decl := 1 + k, declCause := cause k, declPhase := phase k }
    else
      let k := 1 - s.fld (R.TRC_STAT_SET n)
      let ab := (clk3Of (Ev.of (cur (3 * k))) (Ev.of (cur (3 * k + 1))) (Ev.of (cur (3 * k + 2)))).map Res.bits
      let mag := magnitude (ab.getD 0 0) (ab.getD 1 0)
      let lim := Ev.of (s.rd (R.TRC_DEG_ILIM n))
      let ov := (Ev.fin 0 0 false).lt lim && lim.lt (Ev.of mag)
      let s := ((s.wr (R.TRC_ISET n) mag).count (sCnt n k) (sv k)).count (oCnt n k) ov
      let d := if s.reached n (sCnt n k) (sv k) then 4 else if s.reached n (oCnt n k) ov then 5 else 0
      if d = 0 then s else s.updTrac n fun t => { t with decl := d }

/-- The speed of the machine's channel counts as at or above N_CROSS (R310, R263). -/
def trcFast (s : State) (n : Nat) : Bool :=
  let p := s.fld (R.TRC_CFG_POS n)
  (s.on (R.POS_STAT_SENSOR_FAULT p) && !s.on (R.POS_STAT_FROZEN p))
    || f32AbsGe (s.rd (R.POS_RPM p)) (s.fld (R.SAF_GRP_N_CROSS (s.fld (R.TRC_CFG_GRP n)))) 1

/-- The dropped set's state by speed (R310): short at or above N_CROSS with DROP_SPD = 1, else off. -/
def trcDropBySpeed (s : State) (n : Nat) : State :=
  s.setFld (R.TRC_STAT_DROP_SHORT n) (b2n (s.on (R.TRC_CFG_DROP_SPD n) && s.trcFast n))

/-- The dies that serve the dropped set's legs. -/
def trcLinks (s : State) (n : Nat) : List Nat :=
  let g := s.fld (R.TRC_CFG_GRP n)
  let ls := (List.range 6).filter (fun k => s.slotUsed g k && k / 3 == s.fld (R.TRC_STAT_SET n)) |>.map fun k => legLink (s.slotLeg g k)
  (List.range 15).filter ls.contains

/-- A J2 fault of the supervision (R309): 2 SECOND, 3 BOTH, 4 OVERLOAD. -/
def trcSetFault (s : State) (n fcause : Nat) : State :=
  let s := ((s.setFld (R.TRC_STAT_FCAUSE n) fcause).flt .trc n F.TRC_SET_FAULT).post 0x3082 (locTrc n 0) (fcause + n * 2 ^ 15)
  s.raise 16 (2 ^ s.fld (R.TRC_CFG_GRP n))

/-- A declaration is carried out (R306, R309). -/
def trcDeclare (s : State) (n : Nat) : State :=
  let t := s.tracRec n
  let s := s.updTrac n fun t => { t with decl := 0 }
  match t.decl with
  | 0 => s
  | 3 => s.trcSetFault n 3
  | 4 => s.trcSetFault n 2
  | 5 => s.trcSetFault n 4
  | k =>
    let s := ((s.setFld (R.TRC_STAT_STATE n) 1).setFld (R.TRC_STAT_SET n) (k - 1)).setFld (R.TRC_STAT_CAUSE n) t.declCause
    let s := ((s.setFld (R.TRC_STAT_PHASE n) t.declPhase).setFld (oCnt n (2 - k)) 0).trcDropBySpeed n
    let s := (s.evt .trc n E.TRC_DEGRADED).flt .trc n F.TRC_DEGRADE
    let s := s.post 0x2080 (locTrc n 0) (k - 1 + t.declCause * 2 + t.declPhase * 16 + n * 2 ^ 15)
    s.sendSafeTo (s.trcLinks n)

/-- A group enters ARMED (R306): its TRC page's counters clear. -/
def trcArmed (s : State) (g : Nat) : State :=
  s.each ([0, 1].filter fun n => s.fld (R.TRC_CFG_GRP n) == g) fun s n =>
    (s.wr (R.TRC_CNT n) 0).updTrac n fun t => { t with decl := 0 }

/-- One clock of the degrade timer (R313). -/
def trcClock (s : State) (n : Nat) : State :=
  if s.fld (R.TRC_STAT_STATE n) = 1 ∧ s.gstate (s.fld (R.TRC_CFG_GRP n)) = 2 then
    let k := (s.tracRec n).degClk + 1
    (s.updTrac n fun t => { t with degClk := k }).setFld (R.TRC_DEG_TIME_ELAPSED_MS n) (min (k / 400000) (2 ^ 21 - 1))
  else s

/-! ### Magnet health (R316–R319) -/

/-- The verdict changes: 1 OK, 2 WRONG, 3 DEMAG, 4 HIGH (R319). -/
def keVerdict (s : State) (n v : Nat) : State :=
  if s.fld (R.TRC_KE_STAT_VERDICT n) = v then s
  else
    let s := (s.setFld (R.TRC_KE_STAT_VERDICT n) v).evt .trc n E.TRC_KE_VERDICT
    let b := n * 2 ^ 15
    match v with
    | 1 => s.post 0x0080 (locTrc n 2) (1 + b)
    | 4 => s.post 0x1081 (locTrc n 2) b
    | 3 => (s.flt .trc n F.TRC_DEMAG).post 0x2081 (locTrc n 2) b
    | _ => ((s.flt .trc n F.TRC_WRONG_MACH).post 0x3081 (locTrc n 2) b).raise 17 (2 ^ s.fld (R.TRC_CFG_GRP n))

/-- Identification completes with N_ID samples (R318). -/
def keIdentify (s : State) (n : Nat) : State :=
  let k := s.fld (R.TRC_KE_STAT_ID_N n)
  if s.fld (R.TRC_KE_STAT_VERDICT n) ≠ 0 ∨ k = 0 ∨ k < s.fld (R.TRC_KE_TOL_N_ID n) then s
  else
    let rho : Q := (s.tracRec n).keSum.mul ⟨1, k⟩
    let s := (s.wr (R.TRC_KE_IDR n) rho.word).wr (R.TRC_KE_RATIO n) rho.word
    let d : Q := ⟨s.fld (R.TRC_KE_TOL_DEMAG_TOL n), 200⟩
    let w : Q := ⟨s.fld (R.TRC_KE_TOL_WRONG_TOL n), 200⟩
    let e : Q := rho.sub ⟨1, 1⟩
    s.keVerdict n (if !((⟨e.n.natAbs, e.d⟩ : Q).le w) then 2 else if !(d.neg.le e) then 3 else if !(e.le d) then 4 else 1)

/-- The temperature input allows a sample (R316), and its reading in °C; with none, ALPHA counts as 0. -/
def keTemp (s : State) (n : Nat) : Option Q :=
  let k := s.fld (R.TRC_KE_SRC_TSRC n)
  if k = 7 then some ⟨20, 1⟩
  else
    let t := s.fldI (R.HKA_TEMP_TEMP k)
    if s.on (R.HKA_TEMP_VALID k) && -640 ≤ t && t ≤ 3200 then some ⟨t, 16⟩ else none

/-- The sample of a tick boundary, at the end of its clock (R316–R318). The ratio of a sample that is no finite number
is left open. -/
def keSample (s : State) (n : Nat) : State :=
  let c := s.fld (R.TRC_KE_SRC_CTX n)
  let xo (k : Nat) : Word := (s.ctx c).xo.read (fun _ => 0) k
  let s := (s.updTrac n fun r => { r with keDue := false }).keIdentify n
  if !s.on (R.TRC_CFG_KE_EN n) || s.gstate (s.fld (R.TRC_CFG_GRP n)) != 2 || s.fld (R.TRC_KE_STAT_VERDICT n) == 2
      || f32Mag (xo (s.fld (R.TRC_KE_SRC_IDX_WT n))) == 0 then s
  else match s.keTemp n with
    | none => s.setFld (R.TRC_KE_STAT_SUSPENDED n) 1
    | some t =>
      let s := s.setFld (R.TRC_KE_STAT_SUSPENDED n) 0
      let x := xo (s.fld (R.TRC_KE_SRC_IDX_EST n))
      let e : Q := (Q.ofWord (s.rd (R.TRC_KE_NOM n))).mul
        ((⟨1, 1⟩ : Q).add ((Q.ofWord (s.rd (R.TRC_KE_ALPHA n))).mul (t.sub ⟨20, 1⟩)))
      let bad := f32IsNan x || f32IsInf x || e.n ≤ 0
      let rho : Q := if bad then ⟨s.freeVal.toInt, 1⟩ else let v := Q.ofWord x; Q.mk' (v.n * e.d) (v.d * e.n.toNat)
      let s := if bad then s.tookFree else s
      let s := (s.wr (R.TRC_KE_LAST n) x).inc (R.TRC_KE_STAT_SAMPLES n)
      if s.fld (R.TRC_KE_STAT_VERDICT n) = 0 then
        (s.inc (R.TRC_KE_STAT_ID_N n)).updTrac n fun r => { r with keSum := r.keSum.add rho }
      else
        let f : Q := Q.ofWord (s.rd (R.TRC_KE_RATIO n))
        let f : Q := Q.ofWord (f.add ((rho.sub f).mul ⟨1, 2 ^ s.fld (R.TRC_KE_TOL_KE_SH n)⟩)).word
        let s := s.wr (R.TRC_KE_RATIO n) f.word
        let d : Q := ⟨s.fld (R.TRC_KE_TOL_DEMAG_TOL n), 200⟩
        let e : Q := f.sub ⟨1, 1⟩
        let v := s.fld (R.TRC_KE_STAT_VERDICT n)
        if (v = 1 ∨ v = 4) ∧ ¬(d.neg.le e) then s.keVerdict n 3
        else if v = 1 ∧ ¬(e.le d) then s.keVerdict n 4
        else if v = 4 ∧ e.le d then s.keVerdict n 1
        else s

/-- A tick boundary after a completed run of the estimator context is due a sample, unless a KE_RESTART fell on its clock (R316). -/
def keMark (s : State) (n : Nat) : State :=
  if (s.ctx (s.fld (R.TRC_KE_SRC_CTX n))).ran && s.on (R.TRC_CFG_KE_EN n) && (s.tracRec n).keAt != some s.now then
    s.updTrac n fun r => { r with keDue := true }
  else s

/-- The end of a clock: a due sample is taken. -/
def keClock (s : State) (n : Nat) : State := if (s.tracRec n).keDue then s.keSample n else s

/-- The dropped set changes between short and off (R310). -/
def trcDropTo (s : State) (n : Nat) (short : Bool) : State :=
  let g := s.fld (R.TRC_CFG_GRP n)
  let s := (s.setFld (R.TRC_STAT_DROP_SHORT n) (b2n short)).evt .trc n E.TRC_DROP_MODE
  let s := s.post 0x0082 (locTrc n 0) (b2n short + n * 2 ^ 15)
  if (List.range 6).any (s.slotDisabled g) then s.sendSafeTo (s.trcLinks n) else s

end State

/-- A counter of the supervision has reached DET_CNT on the last window (R306, R309). -/
def execTrcDeclaration (n : Fin 2) (s : State) : Out := .next (s.trcDeclare n)

/-- The dropped set changes between short and off by speed (R310). -/
def execDropModeChange (n : Fin 2) (s : State) : Out :=
  .next (
    let g := s.fld (R.TRC_CFG_GRP n)
    let p := s.fld (R.TRC_CFG_POS n)
    let short := s.on (R.TRC_STAT_DROP_SHORT n)
    let valid := !s.on (R.POS_STAT_SENSOR_FAULT p) || s.on (R.POS_STAT_FROZEN p)
    let slow := valid && !f32AbsGe (s.rd (R.POS_RPM p)) (s.fld (R.SAF_GRP_N_CROSS g) * 19) 20
    if s.fld (R.TRC_STAT_STATE n) = 0 ∨ ¬s.on (R.TRC_CFG_DROP_SPD n) then s
    else if (short && slow) || (!short && s.trcFast n) then s.trcDropTo n !short
    else s)

/-- DEG_WARN seconds of degraded time remain (R313). -/
def execDegradeWarning (n : Fin 2) (s : State) : Out :=
  .next (
    let max := s.fld (R.TRC_DEG_DEGRADE_MAX n)
    let lead := s.fld (R.TRC_DEG_DEG_WARN n)
    if s.fld (R.TRC_STAT_STATE n) = 1 ∧ (max - lead) * 1000 ≤ s.fld (R.TRC_DEG_TIME_ELAPSED_MS n) then
      (s.evt .trc n E.TRC_DEG_WARN).post 0x1080 (locTrc n 1) (lead + n * 2 ^ 15)
    else s)

/-- The degrade timer reaches DEGRADE_MAX (R313). -/
def execDegradeExpiry (n : Fin 2) (s : State) : Out :=
  .next (if s.fld (R.TRC_STAT_STATE n) = 1 ∧ s.fld (R.TRC_DEG_DEGRADE_MAX n) * 1000 ≤ s.fld (R.TRC_DEG_TIME_ELAPSED_MS n) then
    let s := (((s.opTo .trc n).setFld (R.TRC_STAT_STATE n) 2).setFld (R.TRC_STAT_FCAUSE n) 1).flt .trc n F.TRC_EXPIRED
    (s.post 0x3080 (locTrc n 1) (n * 2 ^ 15)).raise 15 (2 ^ s.fld (R.TRC_CFG_GRP n))
  else s)

/-- A write of TRC_CTL.CLEAR = 1 (R314). In a safe state the set that was dropped stays as it is until the group is armed again. -/
def execTrcClear (m : Master) (n : Fin 2) (s : State) : Out :=
  .next (
    let g := s.fld (R.TRC_CFG_GRP n)
    s.write m (R.TRC_CTL n) [(s.gstate g != 0 && s.gstate g != 3, .state)] fun s =>
      let kept := if s.gstate g = 3 ∧ s.fld (R.TRC_STAT_STATE n) ≠ 0 then some (s.fld (R.TRC_STAT_SET n), s.on (R.TRC_STAT_DROP_SHORT n))
        else (s.tracRec n).kept
      let s := ((s.wr (R.TRC_STAT n) (BitVec.ofNat 32 (7 * 32))).wr (R.TRC_CNT n) 0).wr (R.TRC_DEG_TIME n) 0
      let s := s.updTrac n fun t => { t with decl := 0, degClk := 0, kept := kept }
      (s.evt .trc n E.TRC_CLEARED).post 0x0081 (locTrc n 0) (n * 2 ^ 15))

/-- N_ID samples complete identification (R318). -/
def execKeIdentification (n : Fin 2) (s : State) : Out := .next (s.keIdentify n)

/-- A write of TRC_CTL.KE_RESTART = 1 (R318); a sample on its clock is discarded (R316). -/
def execKeRestart (m : Master) (n : Fin 2) (s : State) : Out :=
  .next (s.write m (R.TRC_CTL n) [] fun s =>
    ((s.setFld (R.TRC_KE_STAT_VERDICT n) 0).setFld (R.TRC_KE_STAT_ID_N n) 0).updTrac n fun t => { t with keSum := {}, keDue := false, keAt := some s.now })

end Sys2Proof.Machine
end

