-- ==== Sys2Proof/Machine/Converter.lean ====
section
/-!
DEFINITION. Charger and auxiliary converter (chapter 10): how CHG and AUX govern their groups, the pilot, the cable, the grid, the
charging session and the states of AUX.
-/
namespace Sys2Proof.Machine

/-- Locations of CHG events (0 session, 1 CP and PP, 2 grid supervision) and of AUX events. -/
def locChg (mac : Nat) : Nat := loc 0 0 0 0x32 mac
def locAux : Nat := locBlk 0 0x33

namespace State

def updChg (s : State) (f : Chg → Chg) : State := { s with conv := { s.conv with chg := f s.conv.chg } }
def updAux (s : State) (f : Aux → Aux) : State := { s with conv := { s.conv with aux := f s.conv.aux } }

/-- A field takes an exact value, rounded to the field's unit, which the manual leaves open, and held within bounds. -/
def setNear (s : State) (f : Fld) (lo hi : Int) (q : Q) : State :=
  let v := q.floor + b2n (q.n % (q.d : Int) != 0 && bitAt s.freeVal.toNat 0)
  (s.setFld f (unsigned f.w (max lo (min hi v)))).tookFree

/-! ### Governed groups (R323) -/

/-- A block disables all slots of a group: on the next clock its legs turn off by SAFE frames. -/
def convDisable (s : State) (g : Nat) : State :=
  let was := bitAt s.conv.act g
  let s := { s with conv := { s.conv with want := bitClr s.conv.want g, act := bitClr s.conv.act g } }
  if was then
    let s := (s.setFld (R.PG_LVL_LEVEL g) 0).setFld (R.PG_LVL_SUPP g) 0
    (s.updGrp g fun r => { r with held := 0 }).sendSafe g
  else s

/-- A block enables the slots: from the group's next carrier period start. -/
def convEnable (s : State) (g : Nat) : State := { s with conv := { s.conv with want := bitSet s.conv.want g } }

/-- A carrier period start of an ARMED group: a waiting enable takes effect, and its legs follow edges again from a low level. -/
def convPeriod (s : State) (g : Nat) : State :=
  if bitAt s.conv.want g && !bitAt s.conv.act g && s.gstate g == 2 then
    let s := { s with conv := { s.conv with act := bitSet s.conv.act g } }
    let s := s.updGrp g fun r => { r with tLast := [], held := 0 }
    s.each (s.legsOf g) fun s l => (s.updLeg l fun r => { r with code := s.legSafeCode l, level := false }).applyLeg l false []
  else s

/-! ### Pilot and cable -/

/-- I_D in units of 0.1 A for a cable rating, and whether the duty asks for digital communication (R331); D in units of 0.1 %. -/
def dutyAllow (d : Nat) (osc : Bool) (cable : Q) : Q × Bool :=
  if !osc ∨ d < 30 then (⟨0, 1⟩, false)
  else if d ≤ 70 then (cable, true)
  else if d < 80 then (⟨0, 1⟩, false)
  else if d < 100 then (⟨60, 1⟩, false)
  else if d ≤ 850 then (⟨6 * (d : Int), 10⟩, false)
  else if d ≤ 960 then (⟨25 * ((d : Int) - 640), 10⟩, false)
  else if d ≤ 970 then (⟨800, 1⟩, false)
  else (⟨0, 1⟩, false)

/-- The cable's rating in units of 0.1 A (R332). -/
def cableRating (r : Nat) : Nat := [0, 130, 200, 320, 630].getD r 0

/-- A cable of a rating a session may use: 13–63 A (R334). -/
def cableOk (s : State) : Bool := 1 ≤ s.fld R.CHG_STAT_RATING && s.fld R.CHG_STAT_RATING ≤ 4

/-- The exact allowance in units of 0.1 A: the lower of I_D and the cable's rating (R332). -/
def allowance (s : State) : Q :=
  let cable : Q := ⟨cableRating (s.fld R.CHG_STAT_RATING), 1⟩
  let d := (dutyAllow (s.fld R.CHG_CP_DUTY) (s.on R.CHG_STAT_CP_OSC) cable).1
  if d.le cable then d else cable

/-- DIGITAL and ALLOW as the duty and the cable stand (R331, R332). -/
def showAllow (s : State) : State :=
  let dig := (dutyAllow (s.fld R.CHG_CP_DUTY) (s.on R.CHG_STAT_CP_OSC) ⟨0, 1⟩).2
  (s.setFld R.CHG_STAT_DIGITAL (b2n dig)).setNear R.CHG_CP_ALLOW 0 4095 s.allowance

/-- The CP state a high plateau shows, from its housekeeping code: V = CODE / 65520 × 30 V − 15 V (R189, R330). -/
def cpClass (code : Nat) (osc : Bool) : Nat :=
  let between (lo hi : Int) : Bool := (lo + 15) * 65520 ≤ 30 * (code : Int) && 30 * (code : Int) ≤ (hi + 15) * 65520
  if between 11 13 then 0 else if between 8 10 then 1 else if between 5 7 then 2 else if between 2 4 then 3
  else if between (-1) 1 then 4 else if between (-13) (-11) && !osc then 5 else 6

/-- The low plateau is out of place while the pilot oscillates (R330). -/
def diodeBad (code : Nat) (osc : Bool) : Bool := osc && cpClass code false != 5

/-- The rating a PP reading shows: V = CODE / 65520 × 5 V and Rc = 330 V / (5 − V) (R332). A boundary belongs to the higher current. -/
def ppClass (code : Nat) : Nat :=
  let at_ (r : Nat) : Bool := 330 * code ≤ r * (65520 - code)
  if 500 * code ≥ 495 * 65520 ∨ ¬at_ 3000 then 0
  else if 330 * code < 75 * (65520 - code) then 6
  else if at_ 160 then 4 else if at_ 500 then 3 else if at_ 1100 then 2 else if at_ 2200 then 1 else 5

/-- A housekeeping round ends: CP, the diode and PP are classified, and the rounds that agree counted (R330, R332). -/
def chgClassify (s : State) : State :=
  let cp := cpClass (s.fld (R.HKA_IN_CODE 14)) (s.on R.CHG_STAT_CP_OSC)
  let bad := diodeBad (s.fld (R.HKA_IN_CODE 15)) (s.on R.CHG_STAT_CP_OSC)
  let pp := ppClass (s.fld (R.HKA_IN_CODE 16))
  let volts (k : Nat) : Q := ⟨3000 * (s.fld (R.HKA_IN_CODE k) : Int) - 1500 * 65520, 65520⟩
  let s := (s.setNear R.CHG_CPV_VHIGH (-32768) 32767 (volts 14)).setNear R.CHG_CPV_VLOW (-32768) 32767 (volts 15)
  let v := s.fld (R.HKA_IN_CODE 16)
  let s := if 500 * v ≥ 495 * 65520 then s.setFld R.CHG_PP_RES 0xFFFF
    else s.setNear R.CHG_PP_RES 0 0xFFFF ⟨330 * (v : Int), 65520 - v⟩
  s.updChg fun c =>
    let c := { c with ppRun := if c.ppCand = pp then min 3 (c.ppRun + 1) else 1, ppCand := pp }
    if s.on R.CHG_CFG_EN then
      { c with cpRun := if c.cpCand = cp then min 3 (c.cpRun + 1) else 1, cpCand := cp, dioRun := if bad then min 3 (c.dioRun + 1) else 0, diode := c.diode && bad }
    else c

/-! ### Charging session (R334, R336, R338) -/

/-- The RMS current of some phase is above 1.05 × ALLOW. -/
def overAllow (s : State) : Bool :=
  let a := s.allowance
  [0, 1, 2].any fun k => !((⟨100 * (s.fld (R.CHG_VRMS_IRMS k) : Int), 1⟩ : Q).le (a.mul ⟨105, 1⟩))

/-- The causes of STOPPING besides the current. -/
def pilotStop (s : State) : Bool := !s.on R.CHG_STAT_CP_OSC || s.fld R.CHG_STAT_CP_STATE == 1

/-- The conditions of RUN (R334). -/
def runOk (s : State) : Bool :=
  s.fld R.CHG_STAT_CP_STATE == 2 && 0 < s.allowance.n && s.on R.CHG_STAT_GRID_OK && !s.on R.CHG_STAT_TINH
    && s.gstate 2 == 2 && s.gstate 3 == 2

/-- An immediate cause of R338, a trip of this clock or one that lasts: the END_REASON of the first in the order of its table. -/
def chgCause (s : State) : Option Nat :=
  if s.conv.chg.trip.isSome then s.conv.chg.trip
  else if s.conv.chg.diode || [0, 3, 4, 5, 6].contains (s.fld R.CHG_STAT_CP_STATE) then some 6
  else if s.on R.CHG_STAT_TINH then some 8
  else if s.gstate 2 != 2 || s.gstate 3 != 2 then some 13
  else none

/-- A CP fault: its flag, and the event, unless this clock has posted it (R330, R338). -/
def cpFault (s : State) : State :=
  let b := s.conv.chg.diode
  let p : Post := ⟨0x2092, locChg 1, s.fld R.CHG_STAT_CP_STATE + b2n b * 8, s.now⟩
  let s := s.flt .chg 0 F.CHG_CP_FAULT
  if s.j3.getLast? == some p then s else s.post p.code p.loc p.data

/-- Event 0x1091 with TINH, once a clock (R338, R340). -/
def tinhEvent (s : State) : State :=
  if s.conv.chg.tinhAt = some s.now then s
  else ((s.evt .chg 0 E.CHG_TINH).post 0x1091 (locChg 0) (s.fld R.CHG_STAT_TINH)).updChg fun c => { c with tinhAt := some s.now }

/-- The session changes state; slots are enabled in RUN and STOPPING alone. -/
def chgTo (s : State) (new reason : Nat) : State :=
  let old := s.fld R.CHG_STAT_SESS
  let s := s.setFld R.CHG_STAT_SESS new
  let s := if new = 1 then s.setFld R.CHG_STAT_END_REASON 0 else if reason ≠ 0 then s.setFld R.CHG_STAT_END_REASON reason else s
  let s := if 5 ≤ reason then s.inc R.CHG_CNT_FAULT_ENDS else s
  let s := if reason = 6 then s.cpFault else if reason = 8 then s.tinhEvent else s
  let s := if new = 5 then s.updChg fun c => { c with stopReq := s.fld R.CHG_STAT_REQ } else s
  let s := if new = 4 ∨ new = 5 then (s.convEnable 2).convEnable 3 else (s.convDisable 2).convDisable 3
  (s.evt .chg 0 E.CHG_SESS_CHG).post 0x0090 (locChg 0) (new + old * 16 + s.fld R.CHG_STAT_END_REASON * 256)

/-- The END_REASON of a handshake timer's expiry in the present state (R334, R335); none where the timer does not run. -/
def timerReason (s : State) (t : Nat) : Option Nat :=
  let st := s.fld R.CHG_STAT_SESS
  let c := s.fld R.CHG_STAT_CP_STATE == 2
  if t = 0 ∧ st = 1 then some 1
  else if t = 1 ∧ st = 3 ∧ ¬c then some 2
  else if t = 2 ∧ st = 3 ∧ c ∧ ¬s.runOk then some 3
  else if t = 3 ∧ st = 5 then some (if s.overAllow && !s.pilotStop then 11 else 4)
  else none

/-- One transition of the session, the first in the order of R336 (R334); `timer` is the reason of a timer that expires on the clock,
`bnd` marks a tick boundary on it. -/
def sessStep (s : State) (timer : Option Nat) (bnd : Bool) : State :=
  let st := s.fld R.CHG_STAT_SESS
  let req := s.fld R.CHG_STAT_REQ
  let live := 3 ≤ st && st ≤ 5
  if s.shed then s
  else if !s.on R.CHG_CFG_EN then (if st = 0 then s else s.chgTo 0 0)
  else if st ≠ 0 ∧ ¬s.cableOk then s.chgTo 0 (if live then 7 else 0)
  else match (if live then s.chgCause else none) with
    | some r => s.chgTo 6 r
    | none => match timer with
      | some r => s.chgTo 6 r
      | none =>
        if live ∧ req = 0 then s.chgTo 2 0
        else match st with
          | 0 => if s.cableOk then s.chgTo 1 0 else s
          | 1 => if s.fld R.CHG_STAT_CP_STATE = 1 ∧ s.on R.CHG_STAT_CP_OSC then s.chgTo 2 0 else s
          | 2 => if req = 1 ∨ (req = 2 ∧ s.on R.CHG_PROT4_EXPORT_EN) then s.chgTo 3 0 else if req = 2 then s.chgTo 6 12 else s
          | 3 => if s.runOk then s.chgTo 4 0 else s
          | 4 => if s.pilotStop || s.overAllow then s.chgTo 5 0 else s
          | 5 => if !s.pilotStop && !s.overAllow && req == s.conv.chg.stopReq then s.chgTo 4 0 else s
          | 6 => if bnd && req == 0 then s.chgTo 1 0 else s
          | _ => s

/-- The end of a clock: the session takes one transition, by what fell on the clock and what lasts (R336). -/
def sessClock (s : State) : State :=
  let c := s.conv.chg
  let s := s.sessStep c.timer c.bnd
  if c.trip.isSome || c.timer.isSome || c.bnd then s.updChg fun c => { c with trip := none, timer := none, bnd := false } else s

/-- A trip of R338 falls on the present clock; of several, the first in the order of its table counts. -/
def tripMark (s : State) (r : Nat) : State := s.updChg fun c => { c with trip := some (min r (c.trip.getD r)) }

/-- TINH at the end of a housekeeping round (R340). -/
def chgTinh (s : State) : State :=
  let k := s.fld R.CHG_TINH_TSRC
  let t := s.fldI (R.HKA_TEMP_TEMP k)
  let lo := 16 * s.fldI R.CHG_TINH_T_LO
  let hi := 16 * s.fldI R.CHG_TINH_T_HI
  let valid := s.on (R.HKA_TEMP_VALID k)
  let was := s.on R.CHG_STAT_TINH
  let now_ := if valid && lo ≤ t && t ≤ hi then was && !(lo + 80 ≤ t && t ≤ hi - 80) else true
  if now_ == was then s
  else (s.setFld R.CHG_STAT_TINH (b2n now_)).tinhEvent

/-- What a housekeeping round's end means to CHG. -/
def chgRound (s : State) : State := s.chgClassify.chgTinh

/-- The tick boundary: REQ of the command word (R324, R333). -/
def chgTick (s : State) : State :=
  let r := (s.cmdWord (s.fld R.CHG_CFG_CMD_CTX) 7).toNat % 4
  (s.setFld R.CHG_STAT_REQ (if r = 3 then 0 else r)).updChg fun c => { c with bnd := true }

/-! ### Grid (R337, R338) -/

/-- The FA channel of a quantity: 0–2 phase voltages, 3–5 phase currents. -/
def gridCh (s : State) (i : Nat) : Nat := getBits (s.rd R.CHG_FA0) (5 * i) 5

/-- The last period in clocks, if two crossings are known, and whether it lies within 40–70 Hz. -/
def periodOk (s : State) : Bool := match s.conv.chg.cross with
  | a :: b :: _ => (⟨400000000, 70⟩ : Q).le (a.sub b) && (a.sub b).le ⟨400000000, 40⟩
  | _ => false

/-- Every RMS voltage and the frequency lie within the limits (R337). -/
def gridGood (s : State) : Bool :=
  let v (k : Nat) : Nat := s.fld (R.CHG_VRMS_VRMS k)
  let f := s.fld R.CHG_FREQ_FREQ
  s.periodOk && s.fld R.CHG_PROT1_FLO ≤ f && f ≤ s.fld R.CHG_PROT1_FHI
    && [0, 1, 2].all fun k => s.fld R.CHG_PROT0_VLO ≤ v k && v k ≤ s.fld R.CHG_PROT0_VHI

/-- GRID_OK falls as soon as a condition fails. -/
def gridCheck (s : State) : State := if s.gridGood then s else s.setFld R.CHG_STAT_GRID_OK 0

/-- A field takes the root of the mean of `n` squares (units of 2^-298), in tenths; the rounding is open. -/
def setRms (s : State) (f : Fld) (sum : Int) (n : Nat) : State :=
  let x := sum.toNat * 100
  let d := n * 2 ^ 298
  let r := isqrt (x / d)
  let v := r + b2n (r * r * d != x && bitAt s.freeVal.toNat 0)
  (s.setFld f (min v 4095)).tookFree

/-- A rising zero crossing of L1 is evaluated: FREQ over the last four periods, ROCOF over 0.5 s, RMS values and power of the period
that it ends. -/
def gridCross (s : State) : State :=
  match s.conv.chg.found with
  | none => s
  | some (t, n, sums) =>
    let s := s.updChg fun c => { c with found := none, cross := (t :: c.cross).take 5 }
    let s := match s.conv.chg.cross with
      | a :: _ :: _ :: _ :: e :: _ =>
        let f : Q := Q.mk' (4 * 40000000000 * ((a.sub e).d : Int)) (a.sub e).n.toNat
        let s := s.setNear R.CHG_FREQ_FREQ 0 0xFFFF f
        let old : Option (Nat × Q) := s.conv.chg.freqs.find? fun (p : Nat × Q) => p.1 + 200000000 ≤ s.now
        let s := match old with
          | some p => s.setNear R.CHG_FREQ_ROCOF (-32768) 32767 ((f.sub p.2).mul ⟨2, 1⟩)
          | none => s
        let keep := s.conv.chg.freqs.takeWhile (fun (p : Nat × Q) => s.now < p.1 + 200000000) ++ old.toList
        s.updChg fun c => { c with freqs := (s.now, f) :: keep }
      | _ => s
    let s := if n = 0 ∨ s.conv.chg.cross.length < 2 then s
      else
        let s := s.each [0, 1, 2] fun s k =>
          (s.setRms (R.CHG_VRMS_VRMS k) (sums.getD k 0) n).setRms (R.CHG_VRMS_IRMS k) (sums.getD (3 + k) 0) n
        s.wr R.CHG_PWR (f32OfRatio (sums.getD 6 0) (n * 2 ^ 298 : Nat)).bits
    s.gridCheck

/-- A window of PG2 is delivered: its averages join the sums of the period; where L1 has risen through zero since the last window a
crossing has been found, its instant by linear interpolation. -/
def gridWindow (s : State) : State :=
  let v (i : Nat) : Int := f32Val (s.fast (s.gridCh i)).port
  let v1 := v 0
  let c := s.conv.chg
  let hit : Option Q := match c.last with
    | some (t0, u) => if u < 0 ∧ 0 ≤ v1 then some (Q.mk' ((t0 : Int) * (v1 - u) - u * ((s.now : Int) - t0)) (v1 - u).toNat) else none
    | none => none
  let s := if hit.isSome then s.gridCross else s
  let s := match hit with
    | some t => s.updChg fun c => { c with found := some (t, c.n, c.sums), n := 0, sums := [] }
    | none => s
  let p := v 0 * v 3 + v 1 * v 4 + v 2 * v 5
  s.updChg fun c => { c with last := some (s.now, v1), n := c.n + 1, sums := (((List.range 6).map fun i => v i * v i) ++ [p]).zipIdx.map fun e => c.sums.getD e.2 0 + e.1 }

/-- A grid period longer than 25 ms counts as outside 40–70 Hz while it lasts (R337). -/
def gridClock (s : State) : State :=
  match s.conv.chg.cross with
  | t :: _ => if t.le ⟨(s.now : Int) - 10000000, 1⟩ then s.setFld R.CHG_STAT_GRID_OK 0 else s
  | [] => s

/-- A session is in SYNC, RUN or STOPPING, where the trips of R338 act. -/
def sessLive (s : State) : Bool := !s.shed && s.on R.CHG_CFG_EN && 3 ≤ s.fld R.CHG_STAT_SESS && s.fld R.CHG_STAT_SESS ≤ 5

/-- A grid trip: flag, count, event 0x2090 with its kind and phase, and the session is to end (R338). -/
def gridTrip (s : State) (kind phase : Nat) : State :=
  let s := (s.flt .chg 0 F.CHG_GRID).inc R.CHG_CNT_GRID_TRIPS
  (s.post 0x2090 (locChg 2) (kind + phase * 16)).tripMark 5

/-! ### Auxiliary converter (R342–R350) -/

/-- A change of AUX_STAT.STATE. Slots are enabled in SOFT and RUN; a leg test that is running ends. -/
def auxTo (s : State) (new : Nat) : State :=
  let old := s.fld R.AUX_STAT_STATE
  let test := old == 1 && (s.conv.aux.phase == 1 || s.conv.aux.phase == 3)
  let s := (s.setFld R.AUX_STAT_STATE new).updAux fun a => { a with phase := 0, hicDone := false }
  let s := if new = 0 then s.setFld R.AUX_STAT_HIC_CNT 0 else if new = 2 then s.setFld R.AUX_STAT_CL_CNT 0 else s
  let s := if new = 2 ∨ new = 3 then s.convEnable 8 else s.convDisable 8
  let s := if test then s.sendSafe 8 else s
  (s.evt .aux 0 E.AUX_STATE_CHG).post 0x00A0 locAux (new + old * 16 + s.fld R.AUX_STAT_REASON * 256)

/-- FAULT with a reason (R347, R348). -/
def auxFault (s : State) (reason : Nat) : State :=
  let s := ((s.setFld R.AUX_STAT_REASON reason).flt .aux 0 F.AUX_AUX_FAULT).post 0x20A0 locAux reason
  s.auxTo 5

/-- A test of a primary leg begins or ends: the phase changes and SAFE frames go to PG8's dies (R347). -/
def auxPhase (s : State) (p : Nat) : State := (s.updAux fun a => { a with phase := p }).sendSafe 8

/-- Entry to CHECK (R346, R347): the first test begins on a carrier period start; with CHK_EN = 0 it passes at once. -/
def auxCheck (s : State) : State :=
  let s := s.auxTo 1
  if !s.on R.AUX_CHK_CHK_EN then s.auxTo 2
  else if s.atPeriodStart 8 then s.auxPhase 1 else s

/-- A desaturation trip of a tested low side: the REASON it gives (R347). -/
def auxShort (s : State) : Option Nat := if s.chanTripped 41 then some 1 else if s.chanTripped 43 then some 2 else none

/-- VOUT as last delivered, against a percentage of VSET (R346, R349). -/
def voutAtLeast (s : State) (pct : Nat) : Bool :=
  let v := (s.fast (s.fld R.AUX_CFG_FA_VOUT)).port
  !f32IsNan v && ((Q.ofWord s.conv.aux.vset).mul ⟨pct, 100⟩).le (Q.ofWord v)

/-- A hiccup entry (R348): the one that would bring HIC_CNT to HIC_MAX is FAULT instead. -/
def auxHiccup (s : State) (reason : Nat) : State :=
  if s.fld R.AUX_HIC_HIC_MAX ≤ s.fld R.AUX_STAT_HIC_CNT + 1 then s.auxFault 6
  else
    let s := ((s.setFld R.AUX_STAT_REASON reason).inc R.AUX_STAT_HIC_CNT).inc R.AUX_CNT_HICCUPS
    let s := (s.evt .aux 0 E.AUX_HICCUP).post 0x10A0 locAux (s.fld R.AUX_STAT_HIC_CNT + reason * 16)
    s.auxTo 4

/-- What the marks of a clock and the level conditions of R346 make of AUX, in the order of R350. -/
def auxStep (s : State) (hic : Option Nat) (bnd : Bool) : State :=
  let st := s.fld R.AUX_STAT_STATE
  let run := s.on R.AUX_STAT_RUN_CMD
  if s.shed then s
  else if st = 0 then (if run && s.on R.AUX_CFG_EN && s.gstate 8 == 2 then (s.setFld R.AUX_STAT_REASON 0).auxCheck else s)
  else if st = 5 then (if bnd && !run then s.auxTo 0 else s)
  else match (if st = 1 then s.auxShort else none) with
    | some r => (s.inc R.AUX_CNT_CHK_FAIL).auxFault r
    | none =>
      if !run then s.auxTo 0
      else if s.gstate 8 != 2 then (s.setFld R.AUX_STAT_REASON 7).auxTo 0
      else match (if st = 2 ∨ st = 3 then hic else none) with
        | some r => s.auxHiccup r
        | none =>
          if st = 2 ∧ s.voutAtLeast (s.fld R.AUX_VMON_GOOD_PCT) then
            (if s.fld R.AUX_SS_N_SS ≤ s.fld R.AUX_STAT_CL_CNT then s.auxHiccup 3 else s.auxTo 3)
          else s

/-- The end of a clock for AUX. -/
def auxClock (s : State) : State :=
  let a := s.conv.aux
  let s := s.auxStep a.hic a.bnd
  if a.hic.isSome || a.bnd then s.updAux fun a => { a with hic := none, bnd := false } else s

/-- A hiccup falls on the present clock. -/
def hicMark (s : State) (r : Nat) : State := s.updAux fun a => { a with hic := some (min r (a.hic.getD r)) }

/-- The tick boundary: RUN and VSET of the command words (R324, R346). -/
def auxTick (s : State) : State :=
  let c := s.fld R.AUX_CFG_SRC_CTX
  let v := s.cmdWord c 0
  let ok := !f32IsNan v && !f32IsInf v && (Q.ofWord v).le ⟨30, 1⟩ && (⟨22, 1⟩ : Q).le (Q.ofWord v)
  let run := ok && bitAt (s.cmdWord c 7).toNat 0
  (s.setFld R.AUX_STAT_RUN_CMD (b2n run)).updAux fun a => { a with vset := v, bnd := true }

/-- Windows are delivered: AUX_MEAS follows its channels (R346). -/
def auxWindow (s : State) (w : Closed) : State :=
  let has (c : Nat) : Bool := w.chans.any fun e => e.1 == c
  let q (c : Nat) : Q := Q.ofWord (s.fast c).port
  let cv := s.fld R.AUX_CFG_FA_VOUT
  let ci := s.fld R.AUX_CFG_FA_IOUT
  let s := if has cv then s.setNear R.AUX_MEAS_VOUT 0 0xFFFF ((q cv).mul ⟨100, 1⟩) else s
  if has ci then s.setNear R.AUX_MEAS_IOUT 0 0xFFFF ((q ci).mul ⟨10, 1⟩) else s

/-- A carrier period start of PG8: the period before it is complete; CHECK, its first test and SOFT begin here, unless AUX is to leave on this
clock (R346, R347, R349, R350). -/
def auxPeriod (s : State) : State :=
  let s := s.updAux fun a => { a with lastLimited := a.limited, limited := false }
  let st := if s.shed || !s.on R.AUX_STAT_RUN_CMD || s.gstate 8 != 2 then 0 else s.fld R.AUX_STAT_STATE
  let s := if st = 4 ∧ s.conv.aux.hicDone then s.auxCheck
    else if st = 1 ∧ s.conv.aux.phase = 0 then s.auxPhase 1
    else if st = 1 ∧ s.conv.aux.phase = 4 ∧ s.conv.aux.softAt ≤ s.now then s.auxTo 2
    else s
  s.convPeriod 8

/-- A carrier period start of a governed group. -/
def convStart (s : State) (g : Nat) : State := if g = 8 then s.auxPeriod else if g = 2 ∨ g = 3 then s.convPeriod g else s

/-- A monitor configured as R342 asks of AUX's peak monitor. -/
def auxMonOk (s : State) (k : Nat) : Bool :=
  s.fld (R.WMA_CFG_SRC k) < 32 && s.fld (R.WMA_CFG_GRP k) == 8 && s.on (R.WMA_CFG_HI_EN k) && s.on (R.WMA_CFG_TH_SRC k)
    && s.on (R.WMA_CFG_LATCH_MODE k) && s.on (R.WMA_CFG_PT_EN k) && !s.on (R.WMA_CFG_J2_EN k)

/-- PG8's live slots are those of R342. -/
def auxSlotsOk (s : State) : Bool :=
  (List.range 6).map (s.slotLeg 8) == [20, 21, 0x29, 0x2A, 0x3F, 0x3F] && (List.range 4).all (fun k => s.slotUse 8 k == 0)
    && s.liveFld (R.PG_CAR_CMODE 8) == 1 && s.fld (R.PG_PT_MASK 8) == 0x0F

/-- CHG's channels are enabled and follow PG2 (R325). -/
def chgChansOk (s : State) : Bool :=
  ((List.range 6).map s.gridCh ++ [s.fld R.CHG_FA1_VBUS]).all fun c => s.on (R.FAD_CH_CFG_EN c) && s.fld (R.FAD_CH_CFG_GRP c) == 2

/-- A write of CHG_CFG (R325, R357), with EN = 1 only in STAGE FULL (R477). Setting EN starts undecided (R330). -/
def chgCfg (s : State) (m : Master) (v : Word) : State :=
  let st := s.fld R.CHG_STAT_SESS
  s.write m R.CHG_CFG [(159 < getBits v 8 8 || (bitAt v.toNat 0 && !s.chgChansOk), .range), ((st != 0 && st != 6) || (bitAt v.toNat 0 && s.fld R.SEC_BOOT_STAGE != 2), .state)] fun s =>
    let new := bitAt v.toNat 0 && !s.on R.CHG_CFG_EN
    let s := ((s.setFld R.CHG_CFG_EN (getBits v 0 1)).setFld R.CHG_CFG_DRIVE_INTLK (getBits v 1 1)).setFld R.CHG_CFG_CMD_CTX (getBits v 8 8)
    if new then (s.setFld R.CHG_STAT_CP_STATE 7).updChg fun c => { c with cpCand := 7, cpRun := 0, dioRun := 0, diode := false } else s

/-- A write of AUX_CFG (R342, R359), with EN = 1 only in STAGE FULL (R477). -/
def auxCfg (s : State) (m : Master) (v : Word) : State :=
  let st := s.fld R.AUX_STAT_STATE
  s.write m R.AUX_CFG [(159 < getBits v 6 8 || (bitAt v.toNat 0 && !(s.auxMonOk (getBits v 1 5) && s.auxSlotsOk)), .range),
      ((st != 0 && st != 5) || (bitAt v.toNat 0 && s.fld R.SEC_BOOT_STAGE != 2), .state)] fun s =>
    s.wr R.AUX_CFG (BitVec.ofNat 32 (v.toNat % 2 ^ 24))

end State

/-- A write of CHG_CFG (R325). -/
def execChgEnable (m : Master) (v : Word) (s : State) : Out := .next (s.chgCfg m v)

/-- CP is high, and the clock of its last edge, as the edge detector has it (R328). -/
def State.cpLevel (s : State) : Option (Bool × Nat) :=
  match s.conv.chg.rise, s.conv.chg.fall with
  | some r, some f => some (if f < r then (true, r) else (false, f))
  | some r, none => some (true, r)
  | none, some f => some (false, f)
  | none, none => none

/-- A captured level is held once it has lasted 10 µs (R329). -/
def State.cpSettle (s : State) : State :=
  match s.conv.chg.cap, s.cpLevel with
  | some (high, code), some (_, t) =>
    if t + 4000 ≤ s.now then s.updChg fun c => if high then { c with cpHigh := code, cap := none } else { c with cpLow := code, cap := none }
    else s
  | _, _ => s

/-- A filtered edge of CP (R328): it ends a level, whose capture is dropped if it has lasted less than 10 µs (R329); a rising edge ends a
period and gives the duty, and a period outside 980–1020 µs ends the oscillation. -/
def execCpEdge (rising : Bool) (s : State) : Out :=
  .next (
    let s := s.cpSettle
    let width := s.cpLevel.elim 0 fun e => s.now - e.2
    let c := s.conv.chg
    let s := s.updChg fun c => { c with cap := none, widths := if rising then (c.widths.1, width) else (width, c.widths.2) }
    if !rising then s.updChg fun c => { c with fall := some s.now }
    else
      let t := s.updChg fun c => { c with rise := some s.now }
      match c.rise with
      | none => t
      | some r =>
        let p := s.now - r
        let high := (c.fall.getD r) - r
        let t := t.setNear R.CHG_CP_DUTY 0 1000 ⟨1000 * (high : Int), p⟩
        (t.setFld R.CHG_STAT_CP_OSC (b2n (392000 ≤ p && p ≤ 408000))).showAllow)

/-- No CP edge for 3 ms (R328). -/
def execCpOscTimeout (s : State) : Out :=
  .next (if s.on R.CHG_STAT_CP_OSC then
    ((s.updChg fun c => { c with rise := none, fall := none, widths := (0, 0), cap := none }).setFld R.CHG_STAT_CP_OSC 0).showAllow
  else s)

/-- A CP sampler captures a level (R329); `code` is its value as a housekeeping code. With the pilot oscillating it does so within that level, at
half its previous width and 5 µs or more after its edge; the level counts once it has lasted 10 µs. -/
def execCpCapture (high : Bool) (code : Fin 65536) (s : State) : Out :=
  .next (
    if !s.on R.CHG_STAT_CP_OSC then s.updChg fun c => if high then { c with cpHigh := code } else { c with cpLow := code }
    else
      let half := (if high then s.conv.chg.widths.1 else s.conv.chg.widths.2) / 2
      match s.cpLevel with
      | some (h, t) =>
        if h = high ∧ t + max 2000 half ≤ s.now then (s.updChg fun c => { c with cap := some (high, code) }).cpSettle else s
      | none => s)

/-- CP_DEB rounds have agreed on a new CP state, or on a diode fault (R330, R334). -/
def execCpStateChange (s : State) : Out :=
  .next (
    let c := s.conv.chg
    let old := s.fld R.CHG_STAT_CP_STATE
    let s := if 3 ≤ c.cpRun ∧ c.cpCand ≠ old then
        ((s.setFld R.CHG_STAT_CP_STATE c.cpCand).evt .chg 0 E.CHG_CP_CHG).post 0x0091 (locChg 1) (c.cpCand + old * 16)
      else s
    if 3 ≤ c.dioRun ∧ ¬c.diode then (s.updChg fun c => { c with diode := true }).cpFault else s)

/-- Three rounds have agreed on a new cable rating (R332, R334). -/
def execPpRatingChange (s : State) : Out :=
  .next (
    let c := s.conv.chg
    if 3 ≤ c.ppRun ∧ c.ppCand ≠ s.fld R.CHG_STAT_RATING then
      ((s.setFld R.CHG_STAT_RATING c.ppCand).evt .chg 0 E.CHG_PP_CHG).showAllow
    else s)

/-- A handshake timer expires (R335): event 0x1090, and the session ends with the clock unless something of higher precedence falls on it. -/
def execHandshakeTimeout (t : Fin 4) (s : State) : Out :=
  .next (match (if s.on R.CHG_CFG_EN then s.timerReason t else none) with
    | some r => (((s.opTo .chg 0).evt .chg 0 E.CHG_HS_TO).post 0x1090 (locChg 0) t).updChg fun c => { c with timer := some r }
    | none => s)

/-- A rising zero crossing of L1 is evaluated (R337). -/
def execGridZeroCrossing (s : State) : Out := .next s.gridCross

/-- The grid has been within its limits for 100 ms (R337). -/
def execGridOkSet (s : State) : Out :=
  .next (if s.gridGood then s.setFld R.CHG_STAT_GRID_OK 1 else s)

/-- The RMS voltage of a phase has been out of limits for T_VTRIP (R338). -/
def execGridVoltageTrip (phase : Fin 3) (high : Bool) (s : State) : Out :=
  .next (
    let v := s.fld (R.CHG_VRMS_VRMS phase)
    if s.sessLive && (if high then s.fld R.CHG_PROT0_VHI < v else v < s.fld R.CHG_PROT0_VLO) then s.gridTrip (b2n high) phase else s)

/-- The frequency (0 low, 1 high) or ROCOF while exporting (2) has been out of limits for T_FTRIP (R338). -/
def execGridFrequencyTrip (kind : Fin 3) (s : State) : Out :=
  .next (
    let f := s.fld R.CHG_FREQ_FREQ
    let bad := match kind.val with
      | 0 => f < s.fld R.CHG_PROT1_FLO
      | 1 => s.fld R.CHG_PROT1_FHI < f
      | _ => s.fld R.CHG_PROT4_ROCOF_MAX * 5 < (s.fldI R.CHG_FREQ_ROCOF).natAbs && f32Val (s.rd R.CHG_PWR) < 0
    if s.sessLive && bad then s.gridTrip (2 + kind) 0 else s)

/-- The power has been beyond its limit, or against the direction asked for, for 100 ms (R338). -/
def execPowerLimitTrip (direction : Bool) (s : State) : Out :=
  .next (
    let p : Q := Q.ofWord (s.rd R.CHG_PWR)
    let req := s.fld R.CHG_STAT_REQ
    let bad := if direction then (req == 1 && !((⟨-1000, 1⟩ : Q).le p)) || (req == 2 && !(p.le ⟨1000, 1⟩))
      else !(p.le ⟨105 * (s.fld R.CHG_PROT3_P_IMP_MAX : Int), 10⟩) || !((⟨-105 * (s.fld R.CHG_PROT3_P_EXP_MAX : Int), 10⟩ : Q).le p)
    let r := if direction then 10 else 9
    if s.sessLive && bad then ((s.flt .chg 0 F.CHG_LIMIT).post 0x2091 (locChg 2) r).tripMark r else s)

/-- The drive-away interlock (R341): a cable is present while PG0 or PG1 is armed. -/
def execDriveInterlock (g : Fin 2) (s : State) : Out :=
  .next (if s.on R.CHG_CFG_DRIVE_INTLK && s.on R.CHG_STAT_RATING && s.armed g then
    ((s.flt .chg 0 F.CHG_DRIVE_INTLK).post 0x3090 (locChg 0) g).raise 18 (2 ^ g.val)
  else s)

/-- A write of AUX_CFG (R342). -/
def execAuxEnable (m : Master) (v : Word) (s : State) : Out := .next (s.auxCfg m v)

/-- T_CHK has elapsed: the tested low side turns off (R347). SOFT may begin 1 µs after the die's edge, which lies
48 clocks behind. -/
def execAuxTestPulseEnd (s : State) : Out :=
  .next (if s.fld R.AUX_STAT_STATE = 1 then
    (if s.conv.aux.phase = 1 then s.auxPhase 2
    else if s.conv.aux.phase = 3 then (s.updAux fun a => { a with softAt := s.now + 448 }).auxPhase 4
    else s)
  else s)

/-- T_CHK + 1 µs after the first test began: the second begins (R347). -/
def execHl21TestStart (s : State) : Out :=
  .next (if s.fld R.AUX_STAT_STATE = 1 ∧ s.conv.aux.phase = 2 then s.auxPhase 3 else s)

/-- CL_CNT has reached N_SS in SOFT (R348). -/
def execAuxSoftStartLimit (s : State) : Out :=
  .next (if s.fld R.AUX_STAT_STATE = 2 ∧ s.fld R.AUX_SS_N_SS ≤ s.fld R.AUX_STAT_CL_CNT then s.hicMark 3 else s)

/-- T_SSTO has elapsed in SOFT (R346). -/
def execAuxSoftStartTimeout (s : State) : Out :=
  .next (if s.fld R.AUX_STAT_STATE = 2 then (s.opTo .aux 0).hicMark 4 else s)

/-- The overload timer has reached T_OL in RUN (R349). -/
def execAuxOverload (s : State) : Out :=
  .next (if s.fld R.AUX_STAT_STATE = 3 ∧ s.conv.aux.lastLimited ∧ ¬s.voutAtLeast (s.fld R.AUX_VMON_UV_PCT) then s.hicMark 5 else s)

/-- T_HIC has elapsed: CHECK follows at the next period start (R346). -/
def execAuxHiccupEnd (s : State) : Out :=
  .next (if s.fld R.AUX_STAT_STATE = 4 then s.updAux fun a => { a with hicDone := true } else s)

/-- One second of RUN (R348). -/
def execAuxRunStable (s : State) : Out := .next (if s.fld R.AUX_STAT_STATE = 3 then s.setFld R.AUX_STAT_HIC_CNT 0 else s)

end Sys2Proof.Machine
end

