-- ==== Sys2Proof/Machine/Actuators.lean ====
section
/-!
DEFINITION. The commutators ACT0–ACT2 (chapter 11): six-step drive, Hall and sensorless angle, starts and catching, targets, the
park lock.
-/
namespace Sys2Proof.Machine

/-- Location of an actuator's events (chapter 11). -/
def locAct (n : Nat) : Nat := locBlk 0 (0x34 + n)

/-- The part of an angle in degrees beyond whole revolutions. -/
def Q.deg (a : Q) : Q := ((a.mul ⟨1, 360⟩).frac.mul ⟨360, 1⟩)

/-- Whether a ratio is less than a number. -/
def Q.ltN (a : Q) (n : Int) : Bool := a.n < n * a.d

/-- f of R364 at an angle of 0–360°, for the Planish angle `p`; none where the phase floats. -/
def planish (phi : Q) (p : Nat) : Option Q :=
  let trap (x : Q) : Q :=
    if x.ltN p then x.mul ⟨1, p⟩ else if x.le ⟨120 - (p : Int), 1⟩ then ⟨1, 1⟩ else ((⟨120, 1⟩ : Q).sub x).mul ⟨1, p⟩
  if phi.ltN 30 then none else if phi.ltN 150 then some (trap (phi.sub ⟨30, 1⟩))
  else if phi.ltN 210 then none else if phi.ltN 330 then some (trap (phi.sub ⟨210, 1⟩)).neg
  else none

/-- The angle of a crossing of a phase (0 a, 1 b, 2 c) whose slope is rising, in forward motion; reverse motion meets a falling slope
there (R368). -/
def crossAngle (phase : Nat) (rising : Bool) : Nat := (120 * phase + if rising then 0 else 180) % 360

namespace State

/-- The group of an actuator, and its source context. -/
def actGrp (s : State) (n : Nat) : Nat := s.fld (R.ACT_CFG_GRP n)
def actCtx (s : State) (n : Nat) : Nat := s.liveFld (R.PG_SRC_CTX (s.actGrp n))
def actState (s : State) (n : Nat) : Nat := s.fld (R.ACT_STAT_STATE n)
def actCount (s : State) (n : Nat) : Int := signed 32 (s.fld (R.ACT_COUNT_VALUE n))
/-- The group is ARMED, or in Hold, under which the commutator goes on (R365). -/
def actLive (s : State) (n : Nat) : Bool := s.switching (s.actGrp n)

/-- The codes of the legs while nothing is driven: off, or with PARK_EN = 1 all low sides on (R365, R376). -/
def restCodes (s : State) (n : Nat) : Nat := if s.on (R.ACT_CFG_PARK_EN n) then 0x15 else 0

/-- The legs take codes, by SAFE frames where they change (R364, R365). -/
def actCodes (s : State) (n codes : Nat) : State :=
  if (s.actRec n).codes = codes then s
  else
    let s := s.updAct n fun r => { r with codes := codes, zc := (List.range 3).foldl (fun z k => if codes / 4 ^ k % 4 = 0 ∧ r.codes / 4 ^ k % 4 ≠ 0 then z.erase k else z) r.zc }
    if s.actLive n then s.sendSafe (s.actGrp n) else s

/-- ENGAGED (R376), and AT_TARGET while COUNT is within TGT_TOL of the target (R373). -/
def actShow (s : State) (n : Nat) : State :=
  let s := if s.on (R.ACT_STAT_AT_TARGET n) && ((s.actRec n).tgt.any fun g => s.fld (R.ACT_EMF_TGT_TOL n) < (s.actCount n - g).natAbs) then
      s.setFld (R.ACT_STAT_AT_TARGET n) 0
    else s
  let lo := signed 16 (s.fld (R.ACT_PARK_ENG_LO n))
  let hi := signed 16 (s.fld (R.ACT_PARK_ENG_HI n))
  s.setFld (R.ACT_STAT_ENGAGED n) (b2n (s.on (R.ACT_CFG_PARK_EN n) && s.on (R.ACT_STAT_HOMED n) && lo ≤ s.actCount n
    && s.actCount n ≤ hi && s.actState n < 3))

/-- θ at the present clock, in degrees (R366, R368, R370, R372). -/
def actTheta (s : State) (n : Nat) : Q :=
  let r := s.actRec n
  match s.actState n with
  | 5 => ⟨60, 1⟩
  | 6 =>
    let t : Int := (min (s.now - r.since) (s.fld (R.ACT_START0_RAMP_MS n) * 400000) : Nat)
    -- 30 F t² / T degrees, t in seconds
    let d : Q := Q.mk' (30 * (s.fld (R.ACT_START1_F_END n) : Int) * t * t) (s.fld (R.ACT_START0_RAMP_MS n) * 400000 * 400000000)
    (if r.rev then (⟨60, 1⟩ : Q).sub d else (⟨60, 1⟩ : Q).add d).deg
  | _ =>
    let d := r.rate.mul ⟨(s.now - r.t0 : Nat), 1⟩
    let d : Q := if (⟨d.n.natAbs, d.d⟩ : Q).le r.lim then d else if d.n < 0 then r.lim.neg else r.lim
    (r.th.add d).deg

/-- The amplitude at the present clock: that of the start, or DUTY0, to which a caught motor's rises (R361, R370, R371); under Hold that in force
when the command came (R365). -/
def actAmp (s : State) (n : Nat) : Q :=
  let r := s.actRec n
  if r.hold.isSome then r.hold.getD {}
  else if s.actState n ≠ 7 then ⟨s.fld (R.ACT_START0_A_ST n), 256⟩
  else
    let d : Q := Q.mk' (min (max (f32Val r.amp) 0) f32One) f32One
    let t := s.now - r.since
    let ramp := s.fld (R.ACT_TIME_CATCH_RAMP n) * 400000
    match r.aFrom with
    | some a => if t < ramp then a.add ((d.sub a).mul ⟨t, ramp⟩) else d
    | none => d

/-- The drive on the present clock: each phase's compare value, or its float (R361, R364). -/
def actDrive (s : State) (n : Nat) : State :=
  if s.actState n < 5 ∨ 7 < s.actState n ∨ ¬s.actLive n then s
  else
    let g := s.actGrp n
    let adv : Q := ⟨s.fld (R.ACT_PLN_ADV n), 1⟩
    let th := s.actTheta n
    let phi := if (s.actRec n).rev then th.sub adv else th.add adv
    let p := if s.actState n = 5 then 0 else s.fld (R.ACT_PLN_P n)
    let f (k : Nat) : Option Q := planish ((phi.sub ⟨120 * (k : Int), 1⟩).deg) p
    let a := s.actAmp n
    let s := s.setNear (R.ACT_MEAS_A_APP n) 0 255 (a.mul ⟨256, 1⟩)
    let s := s.each [0, 1, 2] fun s k => match f k with
      | some x =>
        let d : Q := (⟨1, 2⟩ : Q).add ((a.mul x).mul ⟨1, 2⟩)
        s.setFld (R.PG_CMP_CMP g k) (rne (((d.d : Int) - d.n).toNat * ((s.grp g).prd / 2)) d.d)
      | none => s
    s.actCodes n ((List.range 3).foldl (fun c k => if (f k).isSome then c + 3 * 4 ^ k else c) 0)

/-- A state begins (R370): its legs, the event of a change, and what every change ends; without drive no amplitude is applied (R385). -/
def actTo (s : State) (n new : Nat) : State :=
  if s.shed then s else
  let old := s.actState n
  let s := (s.setFld (R.ACT_STAT_STATE n) new).updAct n fun r => { r with pre := 0, retry := false, since := s.now }
  let s := if old = 8 then s.setFld (R.ACT_STAT_REASON n) 0 else s
  let s := if new = old then s
    else (s.evt (.act) n E.ACT_STATE_CHG).post 0x00B0 (locAct n) (new + old * 16 + s.fld (R.ACT_STAT_REASON n) * 2 ^ 8 + n * 2 ^ 12)
  let s := if 5 ≤ new ∧ new ≤ 7 then s else s.setFld (R.ACT_MEAS_A_APP n) 0
  let s := match new with
    | 2 | 4 => s.actCodes n 0x15
    | 3 => s.actCodes n 0
    | 8 => s.actCodes n (if s.fld (R.ACT_STAT_REASON n) = 5 then 0 else s.restCodes n)
    | 5 | 6 | 7 => s.actDrive n
    | _ => s.actCodes n (s.restCodes n)
  s.actShow n

/-- FAULT with a reason (R370). -/
def actFault (s : State) (n reason : Nat) : State :=
  if s.shed then s else
  let s := s.setFld (R.ACT_STAT_REASON n) reason
  let s := if reason = 5 then (s.flt .act n F.ACT_OVERVOLT).post 0x30B0 (locAct n) (n * 2 ^ 12)
    else (s.flt .act n F.ACT_ACT_FAULT).post 0x20B0 (locAct n) (reason + n * 2 ^ 12)
  let s := s.actTo n 8
  if reason = 5 then s.raise 19 (2 ^ s.actGrp n) else s

/-- Sensing starts anew; the samples since each phase began to float count on (R367). -/
def actSense (s : State) (n : Nat) : State :=
  let keep (z : Store Zc) : Store Zc := [0, 1, 2].foldl (fun m k => m.write (fun _ => {}) k { n := (z.read (fun _ => {}) k).n }) []
  s.updAct n fun r => { r with zc := keep r.zc, cross := 0, last := none, pre1 := none, locks := 0 }

/-- ALIGN or RUN begins (R370, R371). -/
def actEnter (s : State) (n st : Nat) : State := (s.updAct n fun r => { r with reached := true }).actTo n st

/-- Before it drives from OBSERVE the commutator charges the bootstraps (R365); from REVBRAKE the low sides are on already. -/
def actStart (s : State) (n st : Nat) : State :=
  if s.actState n = 4 then s.actEnter n st else (s.updAct n fun r => { r with pre := st }).actCodes n 0x15

/-- The measured speed in steps per second, positive in the commanded direction. -/
def actSpeed (s : State) (n : Nat) : Q :=
  let v : Q := Q.ofWord (s.rd (R.ACT_SPEED n))
  if (s.actRec n).rev then v.neg else v

/-- VBR of the die of phase a, in units of 0.5 V. -/
def actVbr (s : State) (n : Nat) : Nat := s.fld (R.GLD_SUP_VBR_M ((s.slotLeg (s.actGrp n) 0 - 0x20) / 4))

/-- KE × |speed| in volts. -/
def actEmf (s : State) (n : Nat) : Q :=
  let v := s.actSpeed n
  (Q.ofWord (s.rd (R.ACT_KE n))).mul ⟨v.n.natAbs, v.d⟩

/-- The catch decision (R371). -/
def actDecide (s : State) (n : Nat) : State :=
  let hall := !s.on (R.ACT_CFG_SENSE n)
  let valid := if hall then s.on (R.ACT_STAT_SPD_VALID n) else 3 ≤ (s.actRec n).cross
  let v := s.actSpeed n
  let th : Q := ⟨s.fld (R.ACT_CATCH_REV_TH n), 1⟩
  if valid && 0 < v.n then
    let vbr := s.actVbr n
    let e := (s.actEmf n).mul ⟨2, 1⟩
    let a : Q := if vbr = 0 then ⟨1, 1⟩ else e.mul ⟨2, vbr⟩
    (s.updAct n fun r => { r with aFrom := some (if a.le ⟨1, 1⟩ then a else ⟨1, 1⟩) }).actStart n 7
  else if valid && v.n < 0 && th.le v.neg then (if s.actState n = 4 then s else s.actTo n 4)
  else if hall then (s.updAct n fun r => { r with aFrom := none }).actStart n 7
  else s.actStart n 5

/-- OBSERVE begins (R371): with Hall switches the decision follows at once. -/
def actObserve (s : State) (n : Nat) : State :=
  let s := (s.actTo n 3).actSense n
  if s.on (R.ACT_CFG_SENSE n) then s else s.actDecide n

/-- A failed start attempt (R372). -/
def actFailed (s : State) (n : Nat) : State :=
  let k := (s.actRec n).fails + 1
  let s := (s.updAct n fun r => { r with fails := k }).setFld (R.ACT_STAT_ATTEMPTS n) (min k 7)
  let s := ((s.inc (R.ACT_CNT_RETRIES n)).evt .act n E.ACT_RETRY).post 0x10B0 (locAct n) (min k 7 + n * 2 ^ 12)
  if s.fld (R.ACT_START0_START_RETRIES n) < k then s.actFault n 1
  else (s.actTo n 1).updAct n fun r => { r with retry := true }

/-- A stall (R373). -/
def actStalled (s : State) (n : Nat) : State :=
  let s := ((s.setFld (R.ACT_STAT_STALLED n) 1).inc (R.ACT_CNT_STALLS n)).evt .act n E.ACT_STALL
  (s.post 0x10B1 (locAct n) (unsigned 12 (s.actCount n) + n * 2 ^ 12)).actTo n 2

/-- The target is reached (R373). -/
def actArrive (s : State) (n : Nat) : State :=
  let s := (s.setFld (R.ACT_STAT_AT_TARGET n) 1).evt .act n E.ACT_AT_TARGET
  if s.actState n = 2 then s else s.actTo n 2

/-! ### Steps (R369) -/

/-- One step: COUNT, direction, speed and SPD_VALID, the target, and a reverse brake that may end. -/
def actStep (s : State) (n : Nat) (back : Bool) (t : Nat) : State :=
  let r := s.actRec n
  let c := s.actCount n + (if back then -1 else 1)
  let s := s.setFld (R.ACT_COUNT_VALUE n) (unsigned 32 c)
  let turned := s.on (R.ACT_STAT_DIR n) != back
  let s := s.setFld (R.ACT_STAT_DIR n) (b2n back)
  let fresh := r.steps.isEmpty || turned
  let steps := if fresh then [t] else (t :: r.steps).take 7
  let s := s.updAct n fun r => { r with steps := steps, held := false, pk := (0 :: r.pk).take 7 }
  let s := if fresh then (if r.held && !turned then s else s.wr (R.ACT_SPEED n) 0)
    else
      let m : Int := (steps.length - 1 : Nat)
      let d := t - steps.getLastD t
      let s := s.wr (R.ACT_SPEED n) (f32OfRatio ((if back then -m else m) * 400000000) d).bits
      s.setFld (R.ACT_STAT_SPD_VALID n) 1
  let s := if 3 ≤ s.actState n ∧ s.actState n ≤ 7 ∧ r.tgt = some c then s.actArrive n else s
  let s := if s.actState n = 4 ∧ ¬s.on (R.ACT_CFG_SENSE n) then s.actDecide n else s
  s.actShow n

/-- The sector a Hall state means, 6 for none (R366, R276). -/
def actSector (s : State) (n h : Nat) : Nat := if h = 0 ∨ 7 ≤ h then 6 else getBits (s.rd (R.ACT_HALL n)) (3 * h - 3) 3

/-- An illegal Hall transition is counted (R366). -/
def actIllegal (s : State) (n : Nat) : State :=
  (s.inc (R.ACT_CNT_ILLEGAL n)).updAct n fun r =>
    { r with ill := s.now :: r.ill.filter (fun t => s.now < t + 4000000), steps := [], held := true }

/-- θ follows a Hall edge into sector `x` (R366). -/
def actHallTheta (s : State) (n x : Nat) (back : Bool) : State :=
  let v := (Q.ofWord (s.rd (R.ACT_SPEED n))).mul ⟨60, 400000000⟩
  s.updAct n fun r => { r with th := ⟨60 * ((x + b2n back : Nat) : Int) + (s.fld (R.ACT_HALL_HOFS n) : Int), 1⟩, t0 := s.now, rate := v, lim := ⟨60, 1⟩ }

/-- A filtered change of the Hall inputs (R366). Entering state 0 or 7 is illegal; a return to the sector before it goes on from the last edge,
another first valid state gives the sector's centre. -/
def actHall (s : State) (n h : Nat) : State :=
  let x := s.actSector n h
  let o := (s.actRec n).sec
  let s0 := s
  let s := s.updAct n fun r => { r with hall := h }
  if h = (s0.actRec n).hall then s
  else if x = 6 then (s.updAct n fun r => { r with sec := 6, was := if o < 6 then o else r.was }).actIllegal n
  else if x = o then s
  else
    let s := (s.updAct n fun r => { r with sec := x }).setFld (R.ACT_STAT_SECTOR n) x
    if o = 6 ∧ (s.actRec n).was = x then s
    else if o = 6 then s.updAct n fun r => { r with th := ⟨60 * (x : Int) + 30 + (s.fld (R.ACT_HALL_HOFS n) : Int), 1⟩, t0 := s.now, rate := {} }
    else if x = (o + 1) % 6 then (s.actStep n false s.now).actHallTheta n x false
    else if x = (o + 5) % 6 then (s.actStep n true s.now).actHallTheta n x true
    else s.actIllegal n

/-! ### Sensorless (R367, R368, R372) -/

/-- A confirmed crossing while the commutator drives: θ, a step in the commanded direction, and the lock of a ramp. -/
def actCrossing (s : State) (n ang t : Nat) : State :=
  let r := s.actRec n
  let th := s.actTheta n
  let off := (((th.sub ⟨ang, 1⟩).add ⟨180, 1⟩).deg).sub ⟨180, 1⟩
  let near := (⟨off.n.natAbs, off.d⟩ : Q).le ⟨30, 1⟩
  let gap := t - r.steps.headD t
  let rate : Q := if gap = 0 then {} else ⟨if r.rev then -60 else 60, gap⟩
  let s := s.updAct n fun r => { r with th := ⟨ang, 1⟩, t0 := t, rate := rate, lim := ⟨90, 1⟩, gap := gap, locks := if near then r.locks + 1 else 0 }
  let s := s.actStep n r.rev t
  if s.actState n = 6 ∧ s.fld (R.ACT_START1_N_LOCK n) ≤ (s.actRec n).locks then (s.updAct n fun r => { r with aFrom := none }).actEnter n 7
  else s

/-- A confirmed crossing while all phases float (R368, R369). Two that follow each other in the order of R368 give the direction, also of the
first; the phase of the last crossing with the opposite slope is a reversal at its angle. -/
def actWatch (s : State) (n ph : Nat) (rising : Bool) (t : Nat) : State :=
  let r := s.actRec n
  let fwd := r.last.any fun p => crossAngle ph rising == (crossAngle p.1 p.2 + 60) % 360
  let bck := r.last.any fun p => (crossAngle ph (!rising) + 60) % 360 == crossAngle p.1 (!p.2)
  let turn := r.pre1.isNone && r.last.any fun p => p.1 == ph && p.2 != rising
  let back : Option Bool := if fwd then some false else if bck then some true else if turn then some (!s.on (R.ACT_STAT_DIR n)) else none
  let s := s.updAct n fun r => { r with last := some (ph, rising), pre1 := none }
  match back with
  | none => s.updAct n fun r => { r with cross := 1, steps := [], pre1 := some t }
  | some back =>
    let s := match r.pre1 with
      | some t1 => s.actStep n back t1
      | none => s
    let same := s.on (R.ACT_STAT_DIR n) == back
    let s := s.updAct n fun q => { q with cross := if r.pre1.isSome then 2 else if same then r.cross + 1 else 1 }
    let gap := t - (s.actRec n).steps.headD t
    let rate : Q := if gap = 0 then {} else ⟨if back then -60 else 60, gap⟩
    let s := s.actStep n back t
    s.updAct n fun q => { q with th := ⟨crossAngle ph (if back then !rising else rising), 1⟩, t0 := t, rate := rate, lim := ⟨90, 1⟩, gap := gap }

/-- One phase of a sample: its sign joins the run of equal signs, which confirms a crossing at ZC_FILT (R367, R368). -/
def actPhase (s : State) (n ph : Nat) (e : Int) (all counts : Bool) : State :=
  let r := s.actRec n
  if r.codes / 4 ^ ph % 4 ≠ 0 then s
  else
    let z := r.zc.read (fun _ => {}) ph
    let put (s : State) (z : Zc) : State := s.updAct n fun r => { r with zc := r.zc.write (fun _ => {}) ph z }
    if !counts || z.n < s.fld (R.ACT_PLN_FLT_SKIP n) then put s { z with n := z.n + 1 }
    else
      let sg := if 0 < e then 1 else if e < 0 then 2 else 0
      let run := if sg = 0 then 0 else if sg = z.cand then z.run + 1 else 1
      let first := if run ≤ 1 then s.now else z.first
      let z := { z with n := z.n + 1, cand := sg, run := run, first := first }
      let s := s.updAct n fun r => { r with pk := max (r.pk.headD 0) e.natAbs :: r.pk.drop 1 }
      if run < s.fld (R.ACT_PLN_ZC_FILT n) then put s z
      else if all then
        let s := put s { z with sgn := sg }
        if z.sgn = 0 ∨ z.sgn = sg ∨ s.actState n ≠ 3 then s else s.actWatch n ph (sg == 1) first
      else if z.done || (s.actState n != 6 && s.actState n != 7) then put s z
      else
        -- the crossing of this phase nearest to θ, and the sign expected after it
        let up := (((s.actTheta n).sub ⟨120 * (ph : Int) - 90, 1⟩).deg).ltN 180
        let want := if up != r.rev then 1 else 2
        if sg = want then (put s { z with done := true }).actCrossing n (crossAngle ph up) first else put s z

/-- A sample of the three switch-node voltages in codes of 75 V / 4096 (R367): crossings, EMF_PK and, in OBSERVE, the over-voltage of
R374. -/
def actSample (s : State) (n : Nat) (v : List Nat) : State :=
  let sum : Int := (v.getD 0 0 + v.getD 1 0 + v.getD 2 0 : Nat)
  let e (k : Nat) : Int := 3 * (v.getD k 0 : Int) - sum
  let all := (s.actRec n).codes == 0
  let counts := all || (⟨s.fld (R.ACT_PLN_AMIN n), 256⟩ : Q).le (s.actAmp n)
  let s := s.each [0, 1, 2] fun s k => s.actPhase n k (e k) all counts
  let pk := (s.actRec n).pk.foldl max 0
  let s := s.setNear (R.ACT_MEAS_EMF_PK n) 0 0xFFFF ⟨7500 * (pk : Int), 3 * 4096⟩
  let span := max (e 0) (max (e 1) (e 2)) - min (e 0) (min (e 1) (e 2))
  -- span × 75 / (3 × 4096) V against VBR / 2 − 2 V
  if s.actState n = 3 ∧ all ∧ s.on (R.ACT_CFG_EMF_EN n) ∧ s.on (R.ACT_STAT_SPD_VALID n)
      ∧ ((s.actVbr n : Int) - 4) * 3 * 2048 ≤ 75 * span then s.actFault n 5
  else s

/-! ### Commands (R363, R373, R376, R377) -/

/-- A RUN to a target in the engaged window waits for low speed (R377). -/
def parkHold (s : State) (n : Nat) : Bool :=
  let p := s.fld (R.ACT_PARK_SPD_PARK_POS n)
  let v := s.rd (R.POS_RPM p)
  let lim := s.fld (R.ACT_PARK_SPD_ENG_SPD n)
  s.on (R.ACT_CFG_PARK_EN n) && ((s.actRec n).tgt.any fun g => signed 16 (s.fld (R.ACT_PARK_ENG_LO n)) ≤ g && g ≤ signed 16 (s.fld (R.ACT_PARK_ENG_HI n)))
    && (!s.on (R.POS_STAT_SPD_VALID p) || (f32AbsGe v lim 1 && f32Mag v != lim * f32One))

/-- A held or new RUN starts. -/
def actGo (s : State) (n : Nat) : State :=
  let s := ((s.setFld (R.ACT_STAT_PARK_WAIT n) 0).updAct n fun r => { r with wait := false, reached := false })
  s.actObserve n

/-- A new command word acts (R363, R370, R373, R376); COAST does not end a FAULT of its own clock (R375). -/
def actCommand (s : State) (n : Nat) (w7 w1 : Word) : State :=
  let st := s.actState n
  let drop (s : State) : State := (s.setFld (R.ACT_STAT_PARK_WAIT n) 0).updAct n fun r => { r with wait := false }
  match w7.toNat % 4 with
  | 1 =>
    let tgtOn := bitAt w7.toNat 3
    if s.on (R.ACT_CFG_PARK_EN n) && s.on (R.ACT_STAT_HOMED n) && !tgtOn then s.post 0x20B0 (locAct n) (n * 2 ^ 12)
    else if st = 0 ∨ st = 8 then s
    else
      let tgt := w1.toInt
      let s := ((s.setFld (R.ACT_STAT_AT_TARGET n) 0).setFld (R.ACT_STAT_STALLED n) 0).setFld (R.ACT_STAT_ATTEMPTS n) 0
      let s := (drop s).updAct n fun r => { r with fails := 0, tgt := if tgtOn then some tgt else none, rev := if tgtOn then tgt < s.actCount n else bitAt w7.toNat 2 }
      if tgtOn && tgt == s.actCount n then s.actArrive n
      else if s.parkHold n then
        let s := ((s.setFld (R.ACT_STAT_PARK_WAIT n) 1).evt .act n E.ACT_PARK_WAIT).updAct n fun r => { r with wait := true }
        if st = 2 then s else s.actTo n 2
      else s.actGo n
  | 2 => let s := drop s; if st = 0 ∨ st = 2 ∨ st = 8 then s else s.actTo n 2
  | _ =>
    let s := drop s
    if st = 0 ∨ (st = 1 ∧ ¬(s.actRec n).retry) ∨ (st = 8 ∧ (s.actRec n).since = s.now) then s else s.actTo n 1

/-- The group leaves or enters ARMED (R370). -/
def actEval (s : State) (n : Nat) : State :=
  let st := s.actState n
  if !s.on (R.ACT_CFG_EN n) || !s.actLive n then
    (if st = 0 then s else ((s.setFld (R.ACT_STAT_PARK_WAIT n) 0).updAct n fun r => { r with wait := false }).actTo n 0)
  else if st = 0 ∧ s.gstate (s.actGrp n) = 2 then s.actTo n 1 else s

/-- Early service holds ACT1 with a BRAKE command of the ROM (R477). -/
def romBrake (s : State) (n : Nat) : Bool := n == 1 && s.fld R.SEC_BOOT_STAGE == 1 && s.on R.SEC_EARLY0_PARK_EN

/-- The tick boundary (R362, R363, R377): speed and COUNT to the exchange outputs; a new command or a held start is to act at the end of the
clock, after any other change (R375). -/
def actTick (s : State) (n : Nat) : State :=
  if !s.on (R.ACT_CFG_EN n) then s
  else
    let c := s.actCtx n
    let s := if c < 160 then s.updCtx c fun x => { x with xo := (x.xo.write (fun _ => 0) 2 (s.rd (R.ACT_SPEED n))).write (fun _ => 0) 3 (f32OfInt (s.actCount n) 0).bits } else s
    let s := s.actEval n
    let w7 : Word := if c < 160 then s.cmdWord c 7 else if s.romBrake n then 2 else 0
    let w1 := if c < 160 then s.cmdWord c 1 else 0
    let r := s.actRec n
    let s := s.updAct n fun r => { r with sp7 := w7, sp1 := w1 }
    if w7 ≠ r.sp7 ∨ w1 ≠ r.sp1 then s.updAct n fun r => { r with due := 1 }
    else if r.wait ∧ ¬s.parkHold n then s.updAct n fun r => { r with due := 2 } else s

/-- What the swap of this clock has brought acts. -/
def actDue (s : State) (n : Nat) : State :=
  let r := s.actRec n
  let s := if r.due = 0 then s else s.updAct n fun r => { r with due := 0 }
  if r.due = 1 then s.actCommand n r.sp7 r.sp1 else if r.due = 2 ∧ r.wait then s.actGo n else s

/-- Hold keeps the amplitude that is applied as it is commanded (R365). -/
def actHold (s : State) (n : Nat) : State :=
  let r := s.actRec n
  let hold := s.gstate (s.actGrp n) == 3 && s.fld (R.PG_STAT_SAFE_KIND (s.actGrp n)) == 4
  if hold && r.hold.isNone then
    let a : Q := if 5 ≤ s.actState n ∧ s.actState n ≤ 7 then s.actAmp n else {}
    s.updAct n fun r => { r with hold := some a }
  else if !hold && r.hold.isSome then s.updAct n fun r => { r with hold := none } else s

/-- The end of a clock: the amplitude under Hold, IDLE's transitions, what the swap has brought, and the drive. -/
def actClock (s : State) (n : Nat) : State := (((s.actHold n).actEval n).actDue n).actDrive n

/-- The group's live slots suit a commutator (R361). -/
def actSlotsOk (s : State) (g : Nat) : Bool :=
  ((List.range 3).all fun k => 0x20 ≤ s.slotLeg g k && s.slotLeg g k != 0x3F && s.slotUse g k == 0)
    && ([3, 4, 5].all fun k => !s.slotUsed g k) && s.liveFld (R.PG_CAR_CMODE g) == 0

/-- A write of ACT_CFG (R361, R385). -/
def actCfg (s : State) (m : Master) (n : Nat) (v : Word) : State :=
  s.write m (R.ACT_CFG n) [(11 < getBits v 2 4 || (bitAt v.toNat 0 && !s.actSlotsOk (getBits v 2 4)), .range), (s.gactive (s.actGrp n), .state)] fun s =>
    let s := s.wr (R.ACT_CFG n) (BitVec.ofNat 32 (v.toNat % 2 ^ 8))
    ((s.updAct n fun r => { r with codes := s.restCodes n }).actEval n).actShow n

end State

/-- A write of ACT_CFG (R361). -/
def execActEnable (m : Master) (n : Fin 3) (v : Word) (s : State) : Out := .next (s.actCfg m n v)

/-- A filtered change of the actuator's Hall inputs (R366, R369). -/
def execActHallEdge (n : Fin 3) (hall : Fin 8) (s : State) : Out :=
  .next (if s.on (R.ACT_CFG_SENSE n) || s.shed then s else s.actHall n hall)

/-- Eight illegal transitions within 10 ms, or state 0 or 7 for 1 ms (R366). -/
def execActHallFault (n : Fin 3) (s : State) : Out :=
  .next (
    let r := s.actRec n
    let bad := 8 ≤ (r.ill.filter fun t => s.now < t + 4000000).length || r.sec == 6
    if !s.on (R.ACT_CFG_SENSE n) && bad && s.actState n != 0 && s.actState n != 8 then s.actFault n 4 else s)

/-- A sample of the switch-node voltages of phases a, b and c (R367). -/
def execActSwSample (n : Fin 3) (a b c : Fin 4096) (s : State) : Out :=
  .next (if s.on (R.ACT_CFG_EN n) && s.on (R.ACT_CFG_SENSE n) && !s.shed then s.actSample n [a, b, c] else s)

/-- No crossing within twice the last interval (R368, R372); where it is a stall too it counts as a stall (R373). -/
def execActDesync (n : Fin 3) (s : State) : Out :=
  .next (if s.actState n = 7 ∧ s.on (R.ACT_CFG_SENSE n) then
    (if s.fld (R.ACT_TIME_STALL_MS n) * 400000 ≤ s.now - max (s.actRec n).since ((s.actRec n).steps.headD 0) then s.actStalled n
    else (s.inc (R.ACT_CNT_DESYNC n)).actFailed n)
  else s)

/-- No step for 100 ms (R369). -/
def execActSpeedTimeout (n : Fin 3) (s : State) : Out :=
  .next (
    let s := ((s.wr (R.ACT_SPEED n) 0).setFld (R.ACT_STAT_SPD_VALID n) 0).updAct n fun r => { r with steps := [], held := false, rate := {} }
    if s.actState n = 4 ∧ ¬s.on (R.ACT_CFG_SENSE n) then s.actDecide n else s)

/-- The bootstrap precharge ends (R365, R371). -/
def execActPrechargeEnd (n : Fin 3) (s : State) : Out :=
  .next (let p := (s.actRec n).pre; if p = 0 then s else s.actEnter n p)

/-- OBS_MS has elapsed (R371). -/
def execActObserveEnd (n : Fin 3) (s : State) : Out :=
  .next (if s.actState n = 3 ∧ (s.actRec n).pre = 0 then s.actDecide n else s)

/-- BRK_MS has elapsed (R371). -/
def execActRevbrakeEnd (n : Fin 3) (s : State) : Out :=
  .next (if s.actState n = 4 ∧ s.on (R.ACT_CFG_SENSE n) then s.actObserve n else s)

/-- CATCH_TO has passed since the command's first OBSERVE (R371). -/
def execActCatchTimeout (n : Fin 3) (s : State) : Out :=
  .next (if (s.actState n = 3 ∨ s.actState n = 4) ∧ ¬(s.actRec n).reached then (s.opTo .act n).actFault n 2 else s)

/-- T_ALIGN has elapsed (R370). -/
def execActAlignEnd (n : Fin 3) (s : State) : Out :=
  .next (if s.actState n = 5 then (s.actSense n).actTo n 6 else s)

/-- RAMP_MS ends without lock (R372). -/
def execActRampEnd (n : Fin 3) (s : State) : Out := .next (if s.actState n = 6 then s.actFailed n else s)

/-- The coast of T_RETRY ends (R372). -/
def execActRetryEnd (n : Fin 3) (s : State) : Out :=
  .next (if s.actState n = 1 ∧ (s.actRec n).retry then s.actObserve n else s)

/-- One second of RUN (R372). -/
def execActRunStable (n : Fin 3) (s : State) : Out :=
  .next (if s.actState n = 7 then (s.setFld (R.ACT_STAT_ATTEMPTS n) 0).updAct n fun r => { r with fails := 0 } else s)

/-- No step for STALL_MS in RUN (R373). -/
def execActStall (n : Fin 3) (s : State) : Out := .next (if s.actState n = 7 then s.actStalled n else s)

/-- The ratio of the induced voltage has been out of tolerance for three periods (R374). -/
def execActEmfFault (n : Fin 3) (s : State) : Out :=
  .next (
    let e := (s.actEmf n).mul ⟨1, 100⟩
    let tol := s.fld (R.ACT_EMF_EMF_TOL n)
    let pk : Q := ⟨s.fld (R.ACT_MEAS_EMF_PK n), 100⟩
    let out := !(pk.le (e.mul ⟨100 + tol, 1⟩)) || !((e.mul ⟨100 - (tol : Int), 1⟩).le pk)
    if s.on (R.ACT_CFG_EMF_EN n) && s.on (R.ACT_STAT_SPD_VALID n) && (s.actState n == 3 || s.actState n == 7) && out then s.actFault n 3
    else s)

/-- A write of ACT_CTL.ZERO = 1 (R376). -/
def execActZero (m : Master) (n : Fin 3) (s : State) : Out :=
  .next (s.write m (R.ACT_CTL n) [(3 ≤ s.actState n && s.actState n ≤ 7, .state)] fun s =>
    if s.on (R.ACT_CFG_PARK_EN n) then ((s.wr (R.ACT_COUNT n) 0).setFld (R.ACT_STAT_HOMED n) 1).actShow n else s)

/-- The pawl has slipped for 100 ms (R377). -/
def execParkSlip (n : Fin 3) (s : State) : Out :=
  .next (
    let v := s.rd (R.POS_RPM (s.fld (R.ACT_PARK_SPD_PARK_POS n)))
    let lim := s.fld (R.ACT_PARK_SPD_SLIP_SPD n)
    if s.on (R.ACT_STAT_ENGAGED n) && f32AbsGe v lim 1 && f32Mag v != lim * f32One then
      ((s.flt .act n F.ACT_PARK_SLIP).post 0x30B1 (locAct n) (n * 2 ^ 12)).raise 20 0
    else s)

end Sys2Proof.Machine
end

