-- ==== Sys2Proof/Machine/Derailleur.lean ====
section
/-!
DEFINITION. Setpoint mailboxes (R42–R46) and the Derailleur sequencer (chapter 11), which writes them for TA.
-/
namespace Sys2Proof.Machine

/-- Location of DRL events (chapter 11). -/
def locDrl : Nat := locBlk 3 0x00

/-- A step of at most `d` from `x` towards `y`. -/
def Q.toward (x y d : Q) : Q :=
  let e : Q := y.sub x
  if (⟨e.n.natAbs, e.d⟩ : Q).le d then y else if e.n < 0 then x.sub d else x.add d

namespace State

/-! ### Mailboxes -/

/-- The core that writes a context's mailbox: live OWNER (R42). -/
def mbxWriter (s : State) (c : Nat) : Core := if s.liveFld (R.LPX_CFG_OWNER c) = 1 then .tb else .ta

/-- While a shift runs DRL alone writes SP0–SP2 of its torque contexts and every word of the actuator's source context (R379). -/
def drlHolds (s : State) (c k : Nat) : Bool :=
  s.on R.DRL_STAT_BUSY && (c == s.drl.src || (s.drlCtxs.contains c && k < 3))

/-- A mailbox write by a party: the writer's right, then DRL's hold and a pending commit, which reject it and count (R42, R44, R379). -/
def mbxCheck (s : State) (m : Master) (c addr : Nat) (errs : List (Bool × ErrKind)) (eff : State → State) : State :=
  if isChecker m ∨ rights m ≠ s.mbxWriter c then s.errResp m true addr .owner
  else match (errs.filter Prod.fst).map Prod.snd with
    | [] => (eff s).okResp
    | l => (s.inc (R.LPX_CNT_MBX_WR_REJ c)).errOneOf m true addr l

/-- A write of a staging word (R43, R44). -/
def mbxWrite (s : State) (m : Master) (c k : Nat) (v : Word) : State :=
  s.mbxCheck m c (R.LPX_MBX c k) [(s.drlHolds c k, .state), (s.on (R.LPX_MBX_CMT_PEND c), .busy)] fun s =>
    let s := s.wr (R.LPX_MBX c k) v
    if s.on R.DRL_STAT_BUSY && s.drlCtxs.contains c && !s.drl.dirty.contains c then { s with drl := { s.drl with dirty := c :: s.drl.dirty } } else s

/-- A commit with an EPOCH (R43–R45): a stale one is discarded, and reverts a staging bank that no commit has locked. -/
def mbxCommit (s : State) (c epoch : Nat) : State :=
  let e := s.fld (R.LPX_CFG_EPOCH c)
  if epoch = e ∧ e ≠ 0 then s.setFld (R.LPX_MBX_CMT_PEND c) 1
  else
    let s := s.stale .lpx (c / 16)
    if s.on (R.LPX_MBX_CMT_PEND c) then s else s.each (List.range 8) fun s k => s.wr (R.LPX_MBX c k) (s.rd (R.LPX_ACT c k))

/-- The swap at a tick boundary (R43, R46). -/
def mbxSwap (s : State) (c : Nat) : State :=
  if s.on (R.LPX_MBX_CMT_PEND c) then
    (s.each (List.range 8) fun s k => s.wr (R.LPX_ACT c k) (s.rd (R.LPX_MBX c k))).setFld (R.LPX_MBX_CMT_PEND c) 0
  else s

/-! ### Shift -/

def updDrl (s : State) (f : Drl → Drl) : State := { s with drl := f s.drl }
def drlBusy (s : State) : Bool := s.on R.DRL_STAT_BUSY
def drlAct (s : State) : Nat := s.fld R.DRL_CFG_ACT
def drlStep (s : State) : Nat := s.fld R.DRL_STAT_STEP
def drlKind (s : State) : Nat := s.fld (R.DRL_STEP_CTL_KIND s.drlStep)

/-- Word `k` of torque context `i` as DRL holds it; its saved value. -/
def drlSp (s : State) (i k : Nat) : Word := s.drl.sp.read (fun _ => 0) (8 * i + k)
def drlSaved (s : State) (i k : Nat) : Word := s.rd (R.DRL_SAVE (2 * i + k - 1))

/-- DRL writes a word of a context into its staging bank, with the rights of TA (R379): a context that is not TA's takes none. -/
def drlPut (s : State) (c k : Nat) (v : Word) : State :=
  if s.mbxWriter c ≠ .ta then s else
  let s := s.wr (R.LPX_MBX c k) v
  s.updDrl fun d => { d with dirty := if d.dirty.contains c then d.dirty else c :: d.dirty }

/-- DRL writes a word of its torque context `i`. -/
def drlSet (s : State) (i k : Nat) (v : Word) : State :=
  (s.updDrl fun d => { d with sp := d.sp.write (fun _ => 0) (8 * i + k) v }).drlPut (s.drlCtxs.getD i 0) k v

/-- The torque contexts by index. -/
def drlIdx (s : State) : List Nat := List.range s.drlCtxs.length

/-- The Cadence period in seconds. -/
def cadence (s : State) : Q := ⟨s.fld R.CAD_PERIOD_ACT_PERIOD, 400000000⟩

/-- Both limits of every torque context move towards a value at a rate in N·m/s (R380, R383). -/
def drlRamp (s : State) (rate : Word) (target : Nat → Nat → Word) : State :=
  let d := (Q.ofWord rate).mul s.cadence
  let d : Q := ⟨d.n.natAbs, d.d⟩
  s.each s.drlIdx fun s i => s.each [1, 2] fun s k =>
    s.drlSet i k ((Q.ofWord (s.drlSp i k)).toward (Q.ofWord (target i k)) d).word

/-- Both limits of every torque context equal a value. -/
def drlAt (s : State) (target : Nat → Nat → Word) : Bool :=
  s.drlIdx.all fun i => [1, 2].all fun k => f32Val (s.drlSp i k) == f32Val (target i k)

/-- The speed error of machine `i` in rpm, while both its channel and the output's are valid (R381). -/
def drlSlip (s : State) (i : Nat) : Option Q :=
  let p := if i = 0 then s.fld R.DRL_POS_POS_M0 else s.fld R.DRL_POS_POS_M1
  let o := s.fld R.DRL_POS_POS_OUT
  if s.on (R.POS_STAT_SPD_VALID p) && s.on (R.POS_STAT_SPD_VALID o) then
    some ((Q.ofWord (s.rd (R.POS_RPM p))).sub ((Q.ofWord s.drl.ratio).mul (Q.ofWord (s.rd (R.POS_RPM o)))))
  else none

/-- Since when every slip has been within tolerance (R380). -/
def drlTol (s : State) : State :=
  let tol : Q := ⟨s.fld R.DRL_SYNC_SYNC_TOL, 1⟩
  let ok := s.drlIdx.all fun i => (s.drlSlip i).any fun x => (⟨x.n.natAbs, x.d⟩ : Q).le tol
  s.updDrl fun d => { d with inTol := if ok then some (d.inTol.getD s.now) else none }

/-- Sync control of one tick (R381). -/
def drlSync (s : State) : State :=
  let lim := Q.ofWord (s.rd R.DRL_TQ_SYNC)
  (s.each s.drlIdx fun s i =>
    let sp0 : Q := match s.drlSlip i with
      | some x =>
        let t := ((Q.ofWord (s.rd R.DRL_KSYNC)).mul x).neg
        if !(t.le lim) then lim else if !(lim.neg.le t) then lim.neg else t
      | none => {}
    ((s.drlSet i 0 sp0.word).drlSet i 1 (s.rd R.DRL_TQ_SYNC)).drlSet i 2 (s.rd R.DRL_TQ_SYNC)).drlTol

/-- The actuator's command words (R363). -/
def drlMove (s : State) (sp7 : Word) (sp1 : Word) : State := (s.drlPut s.drl.src 7 sp7).drlPut s.drl.src 1 sp1

/-- The shift ends with a RESULT (R383). -/
def drlEnd (s : State) (result : Nat) : State :=
  let s := (((s.setFld R.DRL_STAT_BUSY 0).setFld R.DRL_STAT_SYNC_ON 0).setFld R.DRL_STAT_RESTORING 0).setFld R.DRL_STAT_RESULT result
  let s := (s.when (result == 1) fun s => s.evt .drl 0 E.DRL_DONE).evt .drl 0 E.DRL_ENDED
  s.post 0x00C1 locDrl result

/-- A step is entered (R380, R381). -/
def drlEnter (s : State) (k : Nat) : State :=
  let kind := s.fld (R.DRL_STEP_CTL_KIND k)
  let s := s.setFld R.DRL_STAT_STEP k
  let s := s.updDrl fun d => { d with stepAt := s.now, expired := false, inTol := none }
  let s := s.post 0x00C0 locDrl (k + kind * 16)
  let s := if kind = 1 ∨ kind = 4 then s.setFld R.DRL_STAT_SYNC_ON 0 else s
  let s := if kind = 3 then (s.setFld R.DRL_STAT_SYNC_ON 1).updDrl fun d => { d with ratio := s.rd (R.DRL_STEP_PAR k) } else s
  if kind = 0 then s.drlEnd 1 else s

/-- NEUTRAL: limits 0, the actuator brakes (R383). -/
def drlNeutral (s : State) (result : Nat) : State :=
  let s := s.each s.drlIdx fun s i => (s.drlSet i 1 0).drlSet i 2 0
  (s.drlPut s.drl.src 7 2).drlEnd result

/-- A fallback is taken (R382, R383): 0 NEUTRAL, 1 GOTO, 2 RESTORE, 3 FAULT. -/
def drlFallback (s : State) (fb reason : Nat) : State :=
  let st := s.drlStep
  let s := ((s.setFld R.DRL_STAT_REASON reason).evt .drl 0 E.DRL_FALLBACK).post 0x10C0 locDrl (st + reason * 16)
  match fb with
  | 1 =>
    if s.fld R.DRL_CFG_RETRY_MAX < s.fld R.DRL_STAT_RETRY + 1 then s.drlNeutral 2
    else (s.setFld R.DRL_STAT_RETRY (s.fld R.DRL_STAT_RETRY + 1)).drlEnter (s.fld (R.DRL_STEP_CTL_GOTO st))
  | 2 =>
    let s := (s.setFld R.DRL_STAT_RESTORING 1).setFld R.DRL_STAT_SYNC_ON 0
    s.updDrl fun d => { d with restore := 1, stepAt := s.now, expired := false }
  | 3 =>
    let s := ((s.drlNeutral 4).flt .drl 0 F.DRL_SHIFT_FAULT).post 0x30C0 locDrl (st + reason * 16)
    s.raise 21 s.drlGroups
  | _ => s.drlNeutral 2

/-- Clocks since the entry to the present step. -/
def drlElapsed (s : State) : Nat := s.now - s.drl.stepAt

/-- The present step is done (R380). -/
def drlDone (s : State) : Bool :=
  let par := s.rd (R.DRL_STEP_PAR s.drlStep)
  match s.drlKind with
  | 1 => s.drlAt (fun _ _ => 0) && s.drlCtxs.all fun c => !f32IsNan (s.rd (R.LPX_OBS c (s.fld R.DRL_CFG_TQ_OBS)))
      && f32Mag (s.rd (R.LPX_OBS c (s.fld R.DRL_CFG_TQ_OBS))) ≤ f32Mag (s.rd R.DRL_TQ_TH)
  | 2 => s.on (R.ACT_STAT_AT_TARGET s.drlAct)
  | 3 => s.drl.inTol.any fun t => s.fld R.DRL_SYNC_SYNC_HOLD * 400000 ≤ s.now - t
  | 4 => s.drlAt s.drlSaved
  | 5 => par.toNat * 400000 ≤ s.drlElapsed
  | _ => true

/-- The words of the present step, or of the restore (R380, R383). -/
def drlWrite (s : State) : State :=
  let hand (s : State) : State := s.each s.drlIdx fun s i => s.drlSet i 0 (s.rd R.DRL_HAND)
  match s.drl.restore with
  | 1 => s.drlMove 9 (BitVec.ofInt 32 s.drl.count)
  | 2 => (hand s).drlRamp (s.rd R.DRL_RST_RATE) s.drlSaved
  | _ =>
    let par := s.rd (R.DRL_STEP_PAR s.drlStep)
    let s := if s.on R.DRL_STAT_SYNC_ON then s.drlSync else s
    match s.drlKind with
    | 1 => s.drlRamp par fun _ _ => 0
    | 2 => s.drlMove 9 par
    | 4 => (hand s).drlRamp par s.drlSaved
    | _ => s

/-- DRL commits the contexts with words to commit, each with the EPOCH recorded at GO (R379). -/
def drlCommit (s : State) : State :=
  let l := s.drl.dirty
  (s.updDrl fun d => { d with dirty := [] }).each l fun s c =>
    s.mbxCommit c ((s.drl.epochs.find? fun e => e.1 == c).elim 0 Prod.snd)

/-- The evaluation of a restore that is not aborted (R383). -/
def drlRestore (s : State) : State :=
  let a := s.drlAct
  if s.drl.restore = 1 then
    if s.on (R.ACT_STAT_AT_TARGET a) then s.updDrl fun d => { d with restore := 2 }
    else if s.on (R.ACT_STAT_STALLED a) then s.drlFallback 0 1
    else if s.actState a = 8 then s.drlFallback 0 3
    else if s.drl.expired ∨ s.fld R.DRL_RST_RST_TO * 4000000 ≤ s.drlElapsed then s.drlFallback 0 0
    else s
  else if s.on (R.ACT_STAT_STALLED a) then s.drlFallback 0 1
  else if s.actState a = 8 then s.drlFallback 0 3
  else if s.drlAt s.drlSaved then s.drlEnd 3 else s

/-- The evaluation of a tick boundary (R382). -/
def drlTick (s : State) : State :=
  let s := if s.drlBusy && s.on R.DRL_STAT_SYNC_ON then s.drlTol else s
  let a := s.drlAct
  let st := s.drlStep
  if !s.drlBusy then s
  else if (List.range 12).any fun g => s.gstate g == 3 && (bitAt s.drlGroups g || g == s.actGrp a) then s.drlEnd 5
  else
    let stale := s.drl.epochs.any fun e => s.fld (R.LPX_CFG_EPOCH e.1) != e.2
    let late := s.drl.expired || s.fld (R.DRL_STEP_CTL_TIMEOUT st) * 4000000 ≤ s.drlElapsed
    let t :=
      if stale then s.drlFallback 3 4
      else if s.drl.abort then
        (s.updDrl fun d => { d with abort := false }).drlFallback (if s.drl.restore = 0 then 2 else 0) 2
      else if s.drl.restore ≠ 0 then s.drlRestore
      else if s.drlDone then (if st = 7 then s.drlEnd 1 else s.drlEnter (st + 1))
      else if s.drlKind = 2 ∧ s.on (R.ACT_STAT_STALLED a) then s.drlFallback (s.fld (R.DRL_STEP_CTL_FB st)) 1
      else if s.actState a = 8 then s.drlFallback 3 3
      else if late then s.drlFallback (s.fld (R.DRL_STEP_CTL_FB st)) 0
      else s
    (if t.drlBusy then t.drlWrite else t).drlCommit

/-- The end of a clock: that of a tick boundary is evaluated, after the commutators' commands have acted (R363), and DRL_TIME follows (R387). -/
def drlClock (s : State) : State :=
  let s := if s.drl.tick then (s.updDrl fun d => { d with tick := false }).drlTick else s
  if s.drlBusy then
    (s.setFld R.DRL_TIME_STEP_MS (min (s.drlElapsed / 400000) 0xFFFF)).setFld R.DRL_TIME_SHIFT_MS
      (min ((s.now - s.drl.goAt) / 400000) 0xFFFF)
  else s

/-- A write of DRL_CTL with GO = 1 (R378); not before STAGE is FULL (R477). -/
def drlGo (s : State) (m : Master) (start : Nat) : State :=
  let a := s.drlAct
  let src := s.actCtx a
  let cs := s.drlCtxs
  s.write m R.DRL_CTL [(s.drlBusy, .busy), (s.fld R.SEC_BOOT_STAGE != 2, .state), ((src :: cs).any (fun c => 159 < c || s.cstate c != 2) || !s.on (R.ACT_CFG_EN a), .state)] fun s =>
    let s := (((s.setFld R.DRL_CTL_START start).wr R.DRL_STAT 0).wr R.DRL_TIME 0).setFld R.DRL_STAT_BUSY 1
    let sp := cs.zipIdx.foldl (fun m p => [0, 1, 2].foldl (fun m k => Store.write (fun _ => 0) m (8 * p.2 + k) (s.rd (R.LPX_ACT p.1 k))) m) []
    let s := { s with drl := { src := src, epochs := (src :: cs).map fun c => (c, s.fld (R.LPX_CFG_EPOCH c)), count := s.actCount a, goAt := s.now, stepAt := s.now, sp := sp } }
    let s := s.each [0, 1, 2, 3] fun s k => s.wr (R.DRL_SAVE k) (if k / 2 < cs.length then s.rd (R.LPX_ACT (cs.getD (k / 2) 0) (1 + k % 2)) else 0)
    s.drlEnter start

end State

/-- A write of a staging word of a mailbox (R42–R44, R379). -/
def execMailboxWordWrite (m : Master) (c : Fin 160) (k : Fin 8) (v : Word) (s : State) : Out := .next (s.mbxWrite m c k v)

/-- A write of LPX_MBX_CMT with COMMIT = 1 (R43–R45, R379). -/
def execMailboxCommit (m : Master) (c : Fin 160) (epoch : Fin 256) (s : State) : Out :=
  .next (s.mbxCheck m c (R.LPX_MBX_CMT c) [(s.drlHolds c 0, .state)] fun s => s.mbxCommit c epoch)

/-- A write of DRL_CTL.GO = 1 (R378). -/
def execShiftGo (m : Master) (start : Fin 8) (s : State) : Out := .next (s.drlGo m start)

/-- A write of DRL_CTL.ABORT = 1 (R382): the fallback is taken at the next boundary. -/
def execShiftAbort (m : Master) (s : State) : Out :=
  .next (s.write m R.DRL_CTL [] fun s => if s.drlBusy then s.updDrl fun d => { d with abort := true } else s)

/-- The step timer reaches its TIMEOUT (R382): the evaluation of the next tick boundary, or of this clock's, finds it. -/
def execShiftStepTimeout (s : State) : Out :=
  .next (
    let limit := if s.drl.restore = 1 then s.fld R.DRL_RST_RST_TO else s.fld (R.DRL_STEP_CTL_TIMEOUT s.drlStep)
    if s.drlBusy ∧ limit * 4000000 ≤ s.drlElapsed then (s.opTo .drl 0).updDrl fun d => { d with expired := true } else s)

end Sys2Proof.Machine
end

