-- ==== Sys2Proof/Machine/Tandem.lean ====
section
/-!
DEFINITION. The Tandem pairs (chapter 13): mismatches and folds, Assay and restart, single-core service, split and rejoin, and the
debugger's halts. What the cores' programs do is outside the commands: a comparison's outcome comes with the event.
-/
namespace Sys2Proof.Machine

/-- Location of a pair's events: pair, part of the pair (1 main core, 2 checker, 3 comparator), and part of the core. -/
def locTnd (p blk mac : Nat) : Nat := loc 0 0 (if p = 0 then 3 else 1) blk mac

namespace State

def tndRec (s : State) (p : Nat) : TndRec := s.tnd.read (fun _ => {}) p
def updTnd (s : State) (p : Nat) (f : TndRec → TndRec) : State := { s with tnd := s.tnd.write (fun _ => {}) p (f (s.tndRec p)) }
def pairState (s : State) (p : Nat) : Nat := s.fld (R.TND_STAT_STATE p)
def setPair (s : State) (p st : Nat) : State := s.setFld (R.TND_STAT_STATE p) st
/-- Comparison is on: JOINED, or SPLITTING until the final fold (R424, R435). -/
def joined (s : State) (p : Nat) : Bool := s.pairState p < 2

/-- The cause of a pair's line becomes present (R428, R432): its code, the flag, event 0x3110 with a KIND, and the line. -/
def pairCause (s : State) (p cause kind : Nat) : State :=
  let s := ((s.setFld (R.TND_STAT_CAUSE p) cause).flt .tnd 0 (F.TND_PAIR_FAULT + p)).post 0x3110 (locTnd p 3 0x3F)
    (p + cause * 16 + kind * 2 ^ 8)
  s.raise (26 + p) allGroups

/-- REPLAY of TND_DBG, and HALTED in both places (R443). -/
def showDbg (s : State) (p : Nat) : State :=
  let f := if p = 0 then R.TND_DBG_REPLAY_TA else R.TND_DBG_REPLAY_TB
  (s.setFld f (s.tndRec p).replay.length).setFld ⟨R.TND_DBG, p, 1⟩ (s.fld (R.TND_STAT_HALTED p))

/-- A mismatch (R428): both cores stop, what differed is recorded, the line is raised, and the pair goes to ASSAY. KIND 1 gate, 2
fold, 3 both. -/
def mismatch (s : State) (p kind word : Nat) (addr : Word) (write : Bool) : State :=
  let s := ((s.setFld (R.TND_MM_KIND p) kind).setFld (R.TND_MM_WORD p) word).setFld (R.TND_MM_WRITE p) (b2n write)
  let s := (s.wr (R.TND_MMADDR p) addr).setFld (R.TND_STAT_HALTED p) 0
  let s := s.updTnd p fun t => { t with requested := false, foldDue := false, copying := false, replay := [] }
  ((s.setPair p 4).showDbg p).pairCause p (if kind = 2 then 2 else 1) kind

/-- A fold (R426): it is counted, and a difference is a mismatch of KIND FOLD. -/
def fold (s : State) (p : Nat) (diff : Option (Fin 100)) : State :=
  let s := (s.inc (R.TND_CNT_FOLDS p)).updTnd p fun t => { t with foldDue := false }
  match diff with
  | some w => s.mismatch p 2 w 0 false
  | none => s

/-- The pair stays stopped until the module resets, and its line has CAUSE STOPPED (R430, R432). -/
def stopPair (s : State) (p : Nat) : State := (s.setPair p 8).pairCause p 3 0

/-- The surviving core or cores restart (R431). -/
def restartPair (s : State) (p target : Nat) : State := (s.setPair p 5).updTnd p fun t => { t with target := target }

/-- A verdict (R430): its register, flag and event, and what the pair then does. `blk` and `mac` locate a failed part. -/
def verdict (s : State) (p v blk mac : Nat) : State :=
  let s := ((s.setFld (R.TND_STAT_VERDICT p) v).evt .tnd 0 (E.TND_VERDICT + p)).post 0x6110 (locTnd p blk mac) (p + v * 16)
  let s := if v = 1 then s.inc (R.TND_CNT_TRANSIENTS p) else s
  match v with
  | 1 => s.restartPair p 0
  | 2 => s.restartPair p 7
  | 3 => s.restartPair p 6
  | _ => s.stopPair p

/-- Both cores pass: TRANSIENT, or REPEAT where it is the TRANS_MAX-th in TRANS_WIN hours; a requested Assay counts for neither (R430,
R434). -/
def bothPass (s : State) (p : Nat) : State :=
  if (s.tndRec p).requested then s.verdict p 1 3 0x3F
  else
    let t := s.fld R.REC_OPSEC_OPSEC
    let l := (s.tndRec p).trans.filter fun u => t < u + 3600 * s.fld (R.TND_CFG_TRANS_WIN p)
    if s.fld (R.TND_CFG_TRANS_MAX p) ≤ l.length + 1 then s.verdict p 5 3 0x3F
    else (s.updTnd p fun r => { r with trans := t :: l }).verdict p 1 3 0x3F

/-- A split or rejoin of the pair ends without success; `split` names which (R435, R437). -/
def abandonSplit (s : State) (p : Nat) : State :=
  ((s.setPair p 0).evt .tnd 0 (E.TND_SPLIT_ABANDON + p)).post 0x1110 (locTnd p 3 0x3F) p
def abandonRejoin (s : State) (p : Nat) (diff : Bool) : State :=
  let s := (s.setPair p 2).updTnd p fun t => { t with copying := false }
  (s.evt .tnd 0 (E.TND_REJOIN_ABANDON + p)).post 0x1111 (locTnd p 3 0x3F) (p + b2n diff * 16)

/-- Every group is OFF. -/
def allOff (s : State) : Bool := !s.anyActive

/-! ### Debugger -/

/-- A halt leaves CAUSE DEBUG_HALT present while a group is not OFF (R432, R441). -/
def tndClock (s : State) (p : Nat) : State :=
  let c := s.fld (R.TND_STAT_CAUSE p)
  let here := s.on (R.TND_STAT_HALTED p) && s.anyActive
  if here && c == 0 then s.pairCause p 5 0 else if !here && c == 5 then s.setFld (R.TND_STAT_CAUSE p) 0 else s

/-- The halt of a pair (R439): the event, and a fold where it is joined. -/
def haltPair (s : State) (p : Nat) (diff : Option (Fin 100)) : State :=
  let s := ((s.setFld (R.TND_STAT_HALTED p) 1).showDbg p).post 0x4110 (locTnd p 3 0x3F) (p + 16)
  let s := if s.pairState p = 0 then s.fold p diff else s
  s.tndClock p

/-- Resume (R440): the queue is applied to the checker and emptied, a joined pair folds, and both cores are released. -/
def resumePair (s : State) (p : Nat) (diff : Option (Fin 100)) : State :=
  let s := s.updTnd p fun t => { t with replay := [] }
  let s := ((s.setFld (R.TND_STAT_HALTED p) 0).showDbg p).post 0x4110 (locTnd p 3 0x3F) p
  let s := s.tndClock p
  if s.pairState p = 0 then s.fold p diff else s

/-- A debugger's write to core state (R440): applied to the main core and queued; refused BUSY where the queue is full. -/
def dbgWrite (s : State) (p reg : Nat) (v : Word) : State :=
  if 32 ≤ (s.tndRec p).replay.length then { s with resp := ⟨ErrKind.busy.code, 0⟩ }
  else ((s.updTnd p fun t => { t with replay := t.replay ++ [(reg, v)] }).showDbg p).okResp

/-- Whether the pair can be halted (R438, R439). -/
def haltable (s : State) (p : Nat) : Bool := s.pairState p ≤ 3 || s.pairState p == 6 || s.pairState p == 7

/-- Whether R441 allows a halt: in PROVISIONED and FIELD only with every group OFF. -/
def haltAllowed (s : State) : Bool := s.allOff || !(s.fld R.SEC_LC_STATE == 2 || s.fld R.SEC_LC_STATE == 3)

/-- One second of single-core service (R433). -/
def tndSecond (s : State) (p : Nat) : State :=
  if s.pairState p = 6 ∨ s.pairState p = 7 then s.setFld (R.TND_STAT_SC_LEFT p) (s.fld (R.TND_STAT_SC_LEFT p) - 1) else s

end State

/-! ### Comparison -/

/-- The checker's transaction differs at the output gate (R425, R428); `fold` a fold difference on the same clock (R438). -/
def execGateMismatch (p : Fin 2) (addr : Word) (write : Bool) (fold : Option (Fin 100)) (s : State) : Out :=
  .next (if s.joined p && !s.on (R.TND_STAT_HALTED p) then
    s.mismatch p (1 + 2 * b2n fold.isSome) (match fold with
      | some w => w
      | none => 0) addr write
  else s)

/-- The pair's fold, periodic or requested; `diff` is the first differing word (R426). While the pair is halted it waits for the
resume (R438). -/
def execStateFold (p : Fin 2) (diff : Option (Fin 100)) (s : State) : Out :=
  .next (if !s.joined p then s
    else if s.on (R.TND_STAT_HALTED p) then s.updTnd p fun t => { t with foldDue := true }
    else s.fold p diff)

/-- A write of TND_Pp_CTL.FOLD = 1 (R443): ignored unless JOINED. -/
def execFoldRequest (m : Master) (p : Fin 2) (s : State) : Out :=
  .next (s.write m (R.TND_CTL p) [] fun s => if s.pairState p = 0 then s.updTnd p fun t => { t with foldDue := true } else s)

/-- A cache read meets an ECC error (R427): core (main or checker), cache (instruction or data), and whether two bits are wrong. -/
def execCacheEccError (p : Fin 2) (chk data double : Bool) (s : State) : Out :=
  .next (
    let st := s.pairState p
    if st = 4 ∨ st = 5 ∨ st = 8 ∨ (chk && (st == 6 || s.on (R.TND_STAT_CHK_PARKED p))) ∨ (!chk && st == 7) then s
    else if !double then
      (s.inc (if chk then R.TND_ECC_CE_CHK p else R.TND_ECC_CE_MAIN p)).post 0x1113 (locTnd p (1 + b2n chk) (1 + b2n data))
        (p + b2n chk * 16 + b2n data * 32)
    else if s.joined p then s.mismatch p 2 0x7F 0 false
    else if chk && st != 7 then s.setFld (R.TND_STAT_CHK_PARKED p) 1
    else s.stopPair p)

/-! ### Assay -/

/-- Assay completes (R430): the failing part of each core, if any: 0 pipeline, 1 instruction cache, 2 data cache, 3 register file. -/
def execAssayVerdict (p : Fin 2) (main chk : Option (Fin 4)) (s : State) : Out :=
  .next (if s.pairState p = 4 then
    (match main, chk with
    | none, none => s.bothPass p
    | some x, none => s.verdict p 2 1 x
    | none, some x => s.verdict p 3 2 x
    | some x, some _ => s.verdict p 4 1 x)
  else s)

/-- Assay has not completed in 30 ms (R429). -/
def execAssayTimeout (p : Fin 2) (s : State) : Out := .next (if s.pairState p = 4 then (s.opTo .tnd 0).verdict p 6 3 0x3F else s)

/-- A restarted core has fetched its first instruction (R431): COMPARE and FOLD are no longer present, and single-core service begins. -/
def execRestartFetch (p : Fin 2) (s : State) : Out :=
  .next (if s.pairState p = 5 then
    let t := (s.tndRec p).target
    let s := s.setPair p t
    let s := if s.fld (R.TND_STAT_CAUSE p) < 3 then s.setFld (R.TND_STAT_CAUSE p) 0 else s
    let s := s.updTnd p fun r => { r with requested := false }
    if t = 0 then s.setFld (R.TND_STAT_CHK_PARKED p) 0 else s.setFld (R.TND_STAT_SC_LEFT p) (s.fld (R.TND_CFG_SC_MAX p))
  else s)

/-- 60 s of single-core service remain (R433). -/
def execScWarning (p : Fin 2) (s : State) : Out :=
  .next (if (s.pairState p = 6 ∨ s.pairState p = 7) ∧ s.fld (R.TND_STAT_SC_LEFT p) = 60 then
    (s.evt .tnd 0 (E.TND_SC_WARN + p)).post 0x1112 (locTnd p 3 0x3F) p
  else s)

/-- Single-core service has run out (R433). -/
def execScExpiry (p : Fin 2) (s : State) : Out :=
  .next (if (s.pairState p = 6 ∨ s.pairState p = 7) ∧ s.fld (R.TND_STAT_SC_LEFT p) = 0 then s.pairCause p 4 0 else s)

/-- A write of TND_Pp_CTL.ASSAY = 1 (R434). -/
def execAssayRequest (m : Master) (p : Fin 2) (s : State) : Out :=
  .next (s.write m (R.TND_CTL p) [(!s.allOff || s.pairState p != 0, .state)] fun s =>
    (s.setPair p 4).updTnd p fun t => { t with requested := true })

/-! ### Split and rejoin -/

/-- A write of TND_Pp_CTL.SPLIT = 1 with the lock open (R435). -/
def execSplitRequest (m : Master) (p : Fin 2) (s : State) : Out :=
  .next (if !s.lockOpen .tnd 0 then s.errResp m true (R.TND_CTL p) .owner
    else s.write m (R.TND_CTL p)
      [(s.pairState p != 0 || !s.allOff || (p.val == 1 && (List.range 16).any fun k => s.on (R.EPT_CFG_EN k)), .state)] fun s =>
      s.setPair p 1)

/-- The pair's firmware writes SPLIT to SYNC (R435): the final fold completes the split or is a mismatch. -/
def execSplitSync (p : Fin 2) (diff : Option (Fin 100)) (s : State) : Out :=
  .next (if s.pairState p = 1 then
    (match diff with
    | some _ => s.fold p diff
    | none =>
      let s := ((s.fold p none).setPair p 2).inc (R.TND_CNT_SPLITS p)
      (s.evt .tnd 0 (E.TND_SPLIT_DONE + p)).post 0x0110 (locTnd p 3 0x3F) p)
  else s)

/-- SPLIT_TO expires (R435). -/
def execSplitTimeout (p : Fin 2) (s : State) : Out := .next (if s.pairState p = 1 then (s.opTo .tnd 0).abandonSplit p else s)

/-- A write of TND_Pp_CTL.REJOIN = 1 (R437): the checker is parked. -/
def execRejoinRequest (m : Master) (p : Fin 2) (s : State) : Out :=
  .next (s.write m (R.TND_CTL p) [(s.pairState p != 2, .state)] fun s => (s.setPair p 3).setFld (R.TND_STAT_CHK_PARKED p) 1)

/-- The main core's firmware writes REJOIN to SYNC (R437). -/
def execRejoinSync (p : Fin 2) (s : State) : Out :=
  .next (if s.pairState p = 3 then s.updTnd p fun t => { t with copying := true } else s)

/-- The copy ends and both cores fold (R437); `diff` is the first differing word. -/
def execRejoinCopyDone (p : Fin 2) (diff : Option (Fin 100)) (s : State) : Out :=
  .next (if s.pairState p = 3 ∧ (s.tndRec p).copying then
    let s := s.inc (R.TND_CNT_FOLDS p)
    if diff.isSome then s.abandonRejoin p true
    else
      let s := ((s.setPair p 0).setFld (R.TND_STAT_CHK_PARKED p) 0).updTnd p fun t => { t with copying := false }
      (s.evt .tnd 0 (E.TND_REJOIN_DONE + p)).post 0x0111 (locTnd p 3 0x3F) p
  else s)

/-- REJOIN_TO expires (R437). -/
def execRejoinTimeout (p : Fin 2) (s : State) : Out := .next (if s.pairState p = 3 then (s.opTo .tnd 0).abandonRejoin p false else s)

/-! ### Debug -/

/-- A write of SEC_DBG_CTL with HALT = 1 (R439, R441, R504); `diff` is the outcome of the halt's fold. -/
def execDebugHalt (m : Master) (p : Fin 2) (diff : Option (Fin 100)) (s : State) : Out :=
  .next (s.write m R.SEC_DBG_CTL
    [(!s.on R.SEC_DBG_CTL_OPENED || !s.haltable p || s.on (R.TND_STAT_HALTED p) || !s.haltAllowed, .state)] fun s =>
      (s.setFld R.SEC_DBG_CTL_PAIR p).haltPair p diff)

/-- A write of SEC_DBG_CTL with RESUME = 1 (R440). -/
def execDebugResume (m : Master) (p : Fin 2) (diff : Option (Fin 100)) (s : State) : Out :=
  .next (s.write m R.SEC_DBG_CTL [(!s.on (R.TND_STAT_HALTED p), .state)] fun s =>
    (s.setFld R.SEC_DBG_CTL_PAIR p).resumePair p diff)

/-- A write of SEC_DBG_CTL with STEP = 1 (R440): the queue reaches the checker, the pair folds, runs one instruction and halts with a
fold. -/
def execDebugStep (m : Master) (p : Fin 2) (diff : Option (Fin 100)) (s : State) : Out :=
  .next (s.write m R.SEC_DBG_CTL [(!s.on (R.TND_STAT_HALTED p), .state)] fun s =>
    let s := ((s.setFld R.SEC_DBG_CTL_PAIR p).updTnd p fun t => { t with replay := [] }).showDbg p
    if s.pairState p = 0 then (s.fold p none).fold p diff else s)

/-- A debugger's write to core state of a halted pair (R440). -/
def execDebugStateWrite (p : Fin 2) (reg v : Word) (s : State) : Out :=
  .next (if s.on (R.TND_STAT_HALTED p) then s.dbgWrite p reg.toNat v else s)

end Sys2Proof.Machine
end

