-- ==== Sys2Proof/Machine/Networks.lean ====
section
/-!
DEFINITION. The networks (chapter 14): CAN controllers and their message buffers, the Eptal sender, Ethernet ports and their descriptor
rings, and the setpoint link endpoint. The host port's accesses stand with the bus.
-/
namespace Sys2Proof.Machine

/-- Location of CAN, ETH and setpoint link events (chapter 14). -/
def locCan (n : Nat) : Nat := locBlk 1 (0x20 + n)
def locEth (n : Nat) : Nat := locBlk 1 (0x24 + n)
def locAuxl : Nat := locBlk 1 0x27

/-! ### CAN -/

/-- Address of word `w` of buffer `k` of controller `n` (R449). -/
def canWord (n k w : Nat) : Nat := 0x400B0000 + n * 0x4000 + k * 0x80 + 4 * w

/-- How many data bytes a data length code stands for, in classical and FD frames. -/
def dlcBytes (fdf : Bool) (d : Nat) : Nat :=
  if d ≤ 8 then d else if fdf then [12, 16, 20, 24, 32, 48, 64].getD (d - 9) 64 else 8

/-- Rank of a frame in arbitration, lowest first: the ISO 11898-1 order of identifier, IDE and RTR (R451). -/
def canRank (id : Nat) (ide rtr : Bool) : Nat :=
  if ide then id / 2 ^ 18 * 2 ^ 21 + 2 ^ 20 + 2 ^ 19 + id % 2 ^ 18 * 2 + b2n rtr else id % 2 ^ 11 * 2 ^ 21 + b2n rtr * 2 ^ 20

namespace State

def can (s : State) (n : Nat) : CanRec := s.net.can.read (fun _ => {}) n
def updCan (s : State) (n : Nat) (f : CanRec → CanRec) : State :=
  { s with net := { s.net with can := s.net.can.write (fun _ => {}) n (f (s.can n)) } }

/-- Words of a buffer's active and shadow copies. -/
def canA (s : State) (n k w : Nat) : Word := s.canAct.read (fun _ => 0) (canWord n k w)
def canS (s : State) (n k w : Nat) : Word := s.canShadow.read (fun _ => 0) (canWord n k w)
def setCanA (s : State) (n k w : Nat) (v : Word) : State := { s with canAct := s.canAct.write (fun _ => 0) (canWord n k w) v }
def setCanS (s : State) (n k w : Nat) (v : Word) : State := { s with canShadow := s.canShadow.write (fun _ => 0) (canWord n k w) v }

/-- A status bit of word 1: 16 PEND, 17 TX_DONE, 18 CANCELLED, 19 CANCEL_LATE, 20 TX_ERR, 21 NEW, 22 LOCKED, 23 OVERRUN (R449); CAN_PENDj and CAN_NEWj
show PEND and NEW of every buffer (R468). -/
def canBit (s : State) (n k b : Nat) : Bool := bitAt (s.canA n k 1).toNat b
def setCanBit (s : State) (n k b : Nat) (v : Bool) : State :=
  let s := s.setCanA n k 1 (setBits (s.canA n k 1) b 1 (b2n v))
  if b = 16 then s.setFld ⟨R.CAN_PEND n (k / 32), k % 32, 1⟩ (b2n v)
  else if b = 21 then s.setFld ⟨R.CAN_NEW n (k / 32), k % 32, 1⟩ (b2n v) else s

/-- EPOCH of a buffer, which its word 1 shows (R449, R52). -/
def canEpoch (s : State) (n k : Nat) : Nat := getBits (s.canA n k 1) 8 8

/-- A buffer that an enabled stream names, with the stream and its path (R453). -/
def canStream (s : State) (n k : Nat) : Option (Nat × Bool) :=
  ((List.range 16).flatMap fun e =>
    if !s.on (R.EPT_CFG_EN e) then []
    else (if s.fld (R.EPT_SID_NET_A e) = n ∧ s.fld (R.EPT_BUF_BUF_A e) = k then [(e, false)] else [])
      ++ (if s.fld (R.EPT_SID_NET_B e) = n ∧ s.fld (R.EPT_BUF_BUF_B e) = k then [(e, true)] else [])).head?

/-- The shadow becomes active: the format bits and the data; the identifier is that of the configuration or of the frame received. -/
def canCopy (s : State) (n k : Nat) : State :=
  let tx := s.on (R.CAN_BUF_CFG_DIR n k)
  let w0 := if tx then setBits (s.rd (R.CAN_BUF_CFG n k)) 30 2 (getBits (s.canS n k 0) 30 1) else s.canS n k 0
  let s := (s.setCanA n k 0 w0).setCanA n k 1 (setBits (s.canA n k 1) 0 7 (getBits (s.canS n k 1) 0 7))
  s.each (List.range 16) fun s j => s.setCanA n k (2 + j) (s.canS n k (2 + j))

/-- A commit takes effect (R450). -/
def canActivate (s : State) (n k : Nat) : State :=
  (s.canCopy n k).each [17, 18, 19, 20] (fun s b => s.setCanBit n k b false) |>.setCanBit n k 16 true

/-- A commit that is not stale and breaks no rule (R450): the copy waits for the end of the buffer's frame. -/
def canAccept (s : State) (n k : Nat) : State :=
  if (s.can n).bus = some k then s.updCan n fun c => { c with commits := if c.commits.contains k then c.commits else k :: c.commits }
  else s.canActivate n k

/-- Format bits that a commit may not carry (R450). -/
def canBadFormat (s : State) (n k : Nat) : Bool :=
  let rtr := bitAt (s.canS n k 0).toNat 30
  let fdf := bitAt (s.canS n k 1).toNat 4
  (rtr && fdf) || (fdf && !s.on (R.CAN_CTL_FD_EN n)) || (bitAt (s.canS n k 1).toNat 5 && !fdf)

/-- Error active or passive as the counters say (R454). -/
def canErrState (s : State) (n : Nat) : State :=
  let passive := 127 < s.fld (R.CAN_STAT_TEC n) ∨ 127 < s.fld (R.CAN_STAT_REC n)
  if s.fld (R.CAN_STAT_STATE n) = 0 ∧ passive then
    ((s.setFld (R.CAN_STAT_STATE n) 1).evt .can n E.CAN_ERR_PASSIVE).post 0x1140 (locCan n) (n * 2 ^ 12)
  else if s.fld (R.CAN_STAT_STATE n) = 1 ∧ ¬passive then s.setFld (R.CAN_STAT_STATE n) 0 else s

/-- A frame on the bus has ended: the commit that waited for it takes effect, and EN = 0 does too (R450, chapter 14). -/
def canFrameEnd (s : State) (n : Nat) : State :=
  let c := s.can n
  let s := (s.updCan n fun c => { c with bus := none, late := false, commits := [] }).setFld (R.CAN_STAT_ACT n) 0
  let s := s.each c.commits fun s k => s.canActivate n k
  if s.on (R.CAN_CTL_EN n) then s else s.setFld (R.CAN_STAT_STATE n) 3

/-- The controller takes part in bus traffic: error active or passive. -/
def canOn (s : State) (n : Nat) : Bool := s.fld (R.CAN_STAT_STATE n) < 2

/-- An error as CAN_ERRC records it; an error frame follows except in the modes that send none (R468, ISO 11898-1). -/
def canError (s : State) (n err : Nat) (dphase : Bool) : State :=
  let s := (s.setFld (R.CAN_ERRC_LAST_ERR n) err).setFld (R.CAN_ERRC_ERR_DPHASE n) (b2n dphase)
  let md := s.fld (R.CAN_CTL_MODE n)
  if md = 1 ∨ md = 2 then s else s.inc (R.CAN_ERRC_ERRFRM n)

/-- The loop delay measured in a frame sent with BRS (R447). -/
def canDelay (s : State) (n k : Nat) (dly : Option (Fin 4096)) : State :=
  match dly with
  | some d =>
    if s.on (R.CAN_TDC_TDC_EN n) && bitAt (s.canA n k 1).toNat 5 && s.fld (R.CAN_TDC_DLY_MIN n) ≤ d.val then
      s.setFld (R.CAN_TDC_DLY_MEAS n) (min d.val 255)
    else s
  | none => s

/-- A stream whose copy was in the buffer has been sent (R411). -/
def canSent (s : State) (n k : Nat) : State :=
  match s.canStream n k with
  | some (e, b) => s.updEpt e fun r => if b then { r with unsentB := false } else { r with unsentA := false }
  | none => s

/-- The pending buffer whose frame would win arbitration, the lowest number among equals (R451). -/
def canOffer (s : State) (n : Nat) : Option Nat :=
  let rank (k : Nat) : Nat := canRank (s.fld (R.CAN_BUF_CFG_ID n k)) (s.on (R.CAN_BUF_CFG_IDE n k)) (bitAt (s.canA n k 0).toNat 30)
  ((List.range 128).filter fun k => s.canBit n k 16 && s.on (R.CAN_BUF_CFG_EN n k)).foldl
    (fun b k => match b with
      | none => some k
      | some j => if rank k < rank j then some k else b) none

/-- A write of CAN_BUFCMD: the page's owner, then the stream that owns the buffer, and the DIR the operation suits (R453, R468). -/
def canCommand (s : State) (m : Master) (n k : Nat) (tx : Bool) (eff : State → State) : State :=
  s.write m (R.CAN_BUFCMD n) [((s.canStream n k).isSome || s.on (R.CAN_BUF_CFG_DIR n k) != tx, .state)] eff

/-- OP = COMMIT (R450). -/
def canCommit (s : State) (m : Master) (n k epoch : Nat) : State :=
  let stale := s.canEpoch n k ≠ epoch ∨ epoch = 0
  s.write m (R.CAN_BUFCMD n) [((s.canStream n k).isSome || !s.on (R.CAN_BUF_CFG_DIR n k), .state), (!stale && s.canBadFormat n k, .range)] fun s =>
    if stale then s.stale .can n else s.canAccept n k

/-- OP = CANCEL (R455); `won`: it completes at or after the sample point of the last arbitration bit. At bus-off nothing is on the bus (R457). -/
def canCancel (s : State) (m : Master) (n k : Nat) (won : Bool) : State :=
  s.canCommand m n k true fun s =>
    if !s.canBit n k 16 then s
    else if (s.can n).bus = some k ∧ won then s.updCan n fun c => { c with late := true }
    else
      let s := (s.setCanBit n k 16 false).setCanBit n k 18 true
      if (s.can n).bus = some k then (s.canFrameEnd n).setFld (R.CAN_STAT_ACT n) 1 else s

/-- OP = LOCK and OP = RELEASE (R452). -/
def canLock (s : State) (m : Master) (n k : Nat) : State :=
  s.canCommand m n k false fun s => (s.setCanBit n k 22 true).setCanBit n k 21 false

/-- The frame in the shadow becomes active and NEW is set (R452). -/
def canShowNew (s : State) (n k : Nat) : State := ((s.canCopy n k).setCanBit n k 21 true).evt .can n E.CAN_RX_NEW

def canRelease (s : State) (m : Master) (n k : Nat) : State :=
  s.canCommand m n k false fun s =>
    let w := (s.can n).waits.contains k
    let s := (s.setCanBit n k 22 false).setCanBit n k 23 false
    let s := s.updCan n fun c => { c with waits := c.waits.filter (· != k) }
    if w then s.canShowNew n k else s

/-- Recovery from bus-off begins (R454). -/
def canRecover (s : State) (n : Nat) : State := if s.fld (R.CAN_STAT_STATE n) = 2 then s.setFld (R.CAN_STAT_RECOVERING n) 1 else s

/-- The EPOCH of a buffer whose configuration changes: its first EN assigns it, a new ID, IDE or DIR reassigns it (R53, R54). -/
def canReassign (s : State) (n k : Nat) (old v : Word) : State :=
  let e := s.canEpoch n k
  let e' := if e = 0 then getBits v 31 1 else if getBits old 0 31 != getBits v 0 31 then epochNext e else e
  s.setCanA n k 1 (setBits (s.canA n k 1) 8 8 e')

/-- A write of CAN_BUFk_CFG (R448, R468, R54): its first EN assigns the buffer, a change of ID, IDE or DIR reassigns it; `receiving`: a
frame is being received into the buffer. -/
def canConfig (s : State) (m : Master) (n k : Nat) (v : Word) (receiving : Bool) : State :=
  let old := s.rd (R.CAN_BUF_CFG n k)
  let re := getBits old 0 31 != getBits v 0 31
  s.write m (R.CAN_BUF_CFG n k) [(getBits v 29 1 = 0 ∧ getBits v 11 18 ≠ 0, .range),
      (re && ((s.on (R.CAN_BUF_CFG_DIR n k) && s.canBit n k 16) || receiving), .state)] fun s =>
    let s := (s.wr (R.CAN_BUF_CFG n k) v).canReassign n k old v
    if getBits v 30 1 = 1 then s.setCanA n k 0 (setBits v 30 2 (getBits (s.canA n k 0) 30 1)) else s

/-- A write of a word of the message RAM goes to the shadow copy: the fields that TB may write (R449); the caller has checked TB's
right to the window. -/
def canRamWrite (s : State) (n k w : Nat) (v : Word) : State :=
  let tx := s.on (R.CAN_BUF_CFG_DIR n k)
  if w = 0 then (if tx then s.setCanS n k 0 (setBits (s.canS n k 0) 30 1 (getBits v 30 1)) else s)
  else if w = 1 then (if tx then s.setCanS n k 1 (setBits (s.canS n k 1) 0 6 (getBits v 0 6)) else s)
  else s.setCanS n k w v

/-- A write of CAN_CTL by its value (R468, chapter 14): EN = 0 takes effect at the end of the frame in progress. -/
def canCtl (s : State) (m : Master) (n : Nat) (v : Word) : State :=
  let en := s.on (R.CAN_CTL_EN n)
  let on := getBits v 0 1 = 1
  let same := getBits v 0 7 = getBits (s.rd (R.CAN_CTL n)) 0 7
  s.write m (R.CAN_CTL n) [(en && on && !same, .state)] fun s =>
    let s := s.wr (R.CAN_CTL n) (setBits (s.rd (R.CAN_CTL n)) 0 7 (getBits v 0 7))
    let s := if getBits v 7 1 = 1 then s.canRecover n else s
    if on && !en && s.fld (R.CAN_STAT_STATE n) == 3 then
      s.wr (R.CAN_STAT n) (BitVec.ofNat 32 (3 * 2 ^ 4))
    else if en && !on then
      (if s.fld (R.CAN_STAT_ACT n) = 1 ∨ s.fld (R.CAN_STAT_ACT n) = 2 then s
       else (((s.setFld (R.CAN_STAT_STATE n) 3).setFld (R.CAN_STAT_ACT n) 0).setFld (R.CAN_STAT_RECOVERING n) 0))
    else s

/-- The words a received frame puts into the shadow (R449, R452): a frame writes the bytes it carries. -/
def canTake (s : State) (n k : Nat) (f : CanFrame) : State :=
  let s := s.setCanS n k 0 (BitVec.ofNat 32 (f.id.toNat + b2n f.ide * 2 ^ 29 + b2n f.rtr * 2 ^ 30))
  let s := s.setCanS n k 1 (BitVec.ofNat 32 (f.dlc.val + b2n f.fdf * 2 ^ 4 + b2n f.brs * 2 ^ 5 + b2n f.esi * 2 ^ 6))
  let d := if f.rtr then [] else f.data.take (dlcBytes f.fdf f.dlc.val)
  d.zipIdx.foldl (fun s e => s.setCanS n k (2 + e.2 / 4) (setBits (s.canS n k (2 + e.2 / 4)) (8 * (e.2 % 4)) 8 e.1.toNat)) s

/-- A valid frame has been received (R448, R452, R453). -/
def canReceive (s : State) (n : Nat) (f : CanFrame) : State :=
  let hit (k : Nat) : Bool :=
    s.on (R.CAN_BUF_CFG_EN n k) && !s.on (R.CAN_BUF_CFG_DIR n k) && s.on (R.CAN_BUF_CFG_IDE n k) == f.ide
      && ((f.id.toNat ^^^ s.fld (R.CAN_BUF_CFG_ID n k)) &&& s.fld (R.CAN_BUF_MASK_MASK n k)) == 0
  match (List.range 128).find? hit with
  | none => s.inc (R.CAN_RXDROP_COUNT n)
  | some k =>
    match s.canStream n k with
    | some (e, b) => s.eptCopy e b (f.data.take (10 + s.fld (R.EPT_CFG_LEN e)))
    | none =>
      let locked := s.canBit n k 22
      let lost := locked && (s.can n).waits.contains k
      let s := s.canTake n k f
      if !locked then s.canShowNew n k
      else if lost then ((s.setCanBit n k 23 true).inc (R.CAN_RXDROP_OVERRUN n)).evt .can n E.CAN_OVERRUN
      else s.updCan n fun c => { c with waits := k :: c.waits }

end State

/-- A start of frame (R451, R457): the winning pending buffer is offered, else the frame is another node's. A controller in restricted
operation or bus monitoring offers nothing. -/
def execCanStartOfFrame (n : Fin 4) (s : State) : Out :=
  .next (if !s.canOn n || s.standby then s
    else
      let md := s.fld (R.CAN_CTL_MODE n)
      let b := if md = 1 ∨ md = 2 ∨ !s.on (R.CAN_CTL_EN n) then none else s.canOffer n
      (s.updCan n fun c => { c with bus := b, late := false, dark := false }).setFld (R.CAN_STAT_ACT n) (if b.isSome then 2 else 1))

/-- A valid frame ends on the bus (R448, R452–R454); with no frame of its own on the bus the controller's ends here. In standby only a
frame that was in progress is finished (R95). -/
def execCanFrameReceived (n : Fin 4) (f : CanFrame) (s : State) : Out :=
  .next (if !s.canOn n || (s.standby && !s.on (R.CAN_STAT_ACT n)) || (f.fdf && !s.on (R.CAN_CTL_FD_EN n)) then s
    else
      let s := s.canReceive n f
      let s := s.updCan n fun c => { c with dark := false }
      let r := s.fld (R.CAN_STAT_REC n)
      let md := s.fld (R.CAN_CTL_MODE n)
      let s := if md = 1 ∨ r = 0 then s
        else if r ≤ 127 then s.setFld (R.CAN_STAT_REC n) (r - 1)
        else (s.setFld (R.CAN_STAT_REC n) (119 + s.freeVal.toNat % 9)).tookFree
      let s := s.canErrState n
      if (s.can n).bus.isSome then s else s.canFrameEnd n)

/-- The frame on the bus has been sent (R451, R455). -/
def execCanTxDone (n : Fin 4) (dly : Option (Fin 4096)) (s : State) : Out :=
  .next (match (s.can n).bus with
    | none => s
    | some k =>
      let late := (s.can n).late
      let s := (((s.canDelay n k dly).canSent n k).setCanBit n k 16 false).setCanBit n k 17 true
      let s := s.when late fun s => (s.setCanBit n k 19 true).evt .can n E.CAN_CANCEL_LATE
      let s := (s.evt .can n E.CAN_TX_DONE).setFld (R.CAN_STAT_TEC n) (s.fld (R.CAN_STAT_TEC n) - 1)
      (s.canErrState n).canFrameEnd n)

/-- The frame on the bus loses arbitration or ends in an error (R451, R454–R456); `collision`: a bit error after arbitration was won and
before the ACK slot; `counted`: ISO 11898-1 counts the error. -/
def execCanTxError (n : Fin 4) (lost : Bool) (err : Fin 7) (dphase collision counted : Bool) (dly : Option (Fin 4096)) (s : State) : Out :=
  .next (match (s.can n).bus with
    | none => s
    | some k =>
      let late := (s.can n).late && !lost
      let s := if lost then s else (s.canDelay n k dly).canError n err dphase
      let s := s.when (!lost && collision) fun s =>
        ((s.inc (R.CAN_ERRC_ID_COLLISION n)).evt .can n E.CAN_ID_COLLISION).post 0x1141 (locCan n) (k + n * 2 ^ 12)
      let s := s.when (!lost && counted) fun s => s.incBy (R.CAN_STAT_TEC n) 8
      let s := s.when (late || s.on (R.CAN_CTL_NO_RETX n)) fun s => (s.setCanBit n k 16 false).setCanBit n k 20 true
      let s := s.when late fun s => (s.setCanBit n k 19 true).evt .can n E.CAN_CANCEL_LATE
      let s := (s.canErrState n).canFrameEnd n
      if lost ∧ s.canOn n then s.setFld (R.CAN_STAT_ACT n) 1 else s)

/-- An error while a frame is being received (R454, ISO 11898-1); `res`: a recessive res bit, tolerated with RES_TOL = 1 (R445); `eight`:
the error counts eight. Restricted operation leaves the counters alone. -/
def execCanReceiveError (n : Fin 4) (res : Bool) (err : Fin 7) (dphase eight : Bool) (s : State) : Out :=
  .next (if !s.canOn n || (s.standby && !s.on (R.CAN_STAT_ACT n)) then s
    else if res && s.on (R.CAN_CTL_RES_TOL n) then (s.setFld (R.CAN_STAT_RES_SEEN n) 1).setFld (R.CAN_STAT_ACT n) 3
    else
      let s := s.canError n (if res then 4 else err) dphase
      let s := s.when (s.fld (R.CAN_CTL_MODE n) != 1) fun s => s.incBy (R.CAN_STAT_REC n) (if eight then 8 else 1)
      let s := s.canErrState n
      if (s.can n).bus.isSome then s else s.canFrameEnd n)

/-- The controller enters bus-off (R454). -/
def execCanBusOff (n : Fin 4) (s : State) : Out :=
  .next (if !s.canOn n then s
    else
      let s := (s.canFrameEnd n).setFld (R.CAN_STAT_STATE n) 2
      let s := (s.flt .can n F.CAN_BUS_OFF).inc (R.CAN_ERRC_BUSOFF_CNT n)
      let s := s.post 0x2140 (locCan n) (n * 2 ^ 12)
      if !s.on (R.CAN_CTL_EN n) then s.setFld (R.CAN_STAT_STATE n) 3
      else if s.on (R.CAN_CTL_AUTO_REC n) then s.canRecover n else s)

/-- A write of CAN_CTL.RECOVER = 1 (R454). -/
def execCanRecover (m : Master) (n : Fin 4) (s : State) : Out := .next (s.write m (R.CAN_CTL n) [] fun s => s.canRecover n)

/-- 128 occurrences of 11 recessive bits have been seen (R454). -/
def execCanRecoveryDone (n : Fin 4) (s : State) : Out :=
  .next (if s.on (R.CAN_STAT_RECOVERING n) then
      (((((s.setFld (R.CAN_STAT_RECOVERING n) 0).setFld (R.CAN_STAT_STATE n) 0).setFld (R.CAN_STAT_TEC n) 0).setFld (R.CAN_STAT_REC n) 0).updCan n
        fun c => { c with dark := false }).post 0x0140 (locCan n) (n * 2 ^ 12)
    else s)

/-- A write of CAN_BUFCMD with OP = COMMIT (R450). -/
def execCanCommit (m : Master) (n : Fin 4) (k : Fin 128) (epoch : Fin 256) (s : State) : Out := .next (s.canCommit m n k epoch)

/-- OP = CANCEL (R455, R457). -/
def execCanCancel (m : Master) (n : Fin 4) (k : Fin 128) (won : Bool) (s : State) : Out := .next (s.canCancel m n k won)

/-- OP = LOCK (R452, R457). -/
def execCanLock (m : Master) (n : Fin 4) (k : Fin 128) (s : State) : Out := .next (s.canLock m n k)

/-- OP = RELEASE (R452, R457). -/
def execCanRelease (m : Master) (n : Fin 4) (k : Fin 128) (s : State) : Out := .next (s.canRelease m n k)

/-- A write of CAN_BUFk_CFG (R448). -/
def execCanBufferConfig (m : Master) (n : Fin 4) (k : Fin 128) (v : Word) (receiving : Bool) (s : State) : Out :=
  .next (s.canConfig m n k v receiving)

/-- The transceiver switches off a transmitter held dominant (R458); the next recessive input releases it. -/
def execCanDominantTimeout (n : Fin 4) (s : State) : Out := .next (s.updCan n fun c => { c with dark := true })

/-! ### Ethernet -/

/-- Big-endian bytes as a number. -/
def ofBe (l : List Byte) : Nat := l.foldl (fun x b => 256 * x + b.toNat) 0

/-- The Internet checksum over an IP header comes out all ones. -/
def ipSumOk (h : List Byte) : Bool :=
  let t := (List.range (h.length / 2)).foldl (fun x i => x + ofBe ((h.drop (2 * i)).take 2)) 0
  let t := t % 65536 + t / 65536
  (t % 65536 + t / 65536) == 65535

/-- The UDP payload of a frame that is an Eptal datagram for a port (R460): IPv4 without options or fragmentation, good header checksum, UDP to
that port; with its source address. -/
def eptDatagram (port : Nat) (f : List Byte) : Option (Nat × List Byte) :=
  let ip := f.drop 14
  let udp := ip.drop 20
  if ofBe ((f.drop 12).take 2) = 0x0800 ∧ ip.getD 0 0 = 0x45 ∧ ofBe ((ip.drop 6).take 2) % 2 ^ 14 = 0 ∧ ip.getD 9 0 = 17
      ∧ ipSumOk (ip.take 20) ∧ 20 ≤ ip.length ∧ 8 ≤ udp.length ∧ ofBe ((udp.drop 2).take 2) = port then
    some (ofBe ((ip.drop 12).take 4), (udp.drop 8).take (ofBe ((udp.drop 4).take 2) - 8))
  else none

namespace State

def eth (s : State) (n : Nat) : EthRec := s.net.eth.read (fun _ => {}) n
def updEth (s : State) (n : Nat) (f : EthRec → EthRec) : State :=
  { s with net := { s.net with eth := s.net.eth.write (fun _ => {}) n (f (s.eth n)) } }

/-- The port's unicast address as bytes (R470). -/
def ethMac (s : State) (n : Nat) : List Byte := leBytes (s.fld (R.ETH_MACL_MAC n)) 4 ++ leBytes (s.fld (R.ETH_MACH_MAC n)) 2

/-- The copies that waited for the line are sent (R460): with the port and its Eptal transport on and the link up. -/
def ethFlush (s : State) (n : Nat) : State :=
  if s.on (R.ETH_CTL_EN n) && s.on (R.ETH_EPT_PORT_EPT_EN n) && s.on (R.ETH_STAT_LINK n) && !(s.eth n).sending then
    let q := (s.eth n).queue
    q.foldl (fun s e => s.updEpt e.1 fun r => if e.2 then { r with unsentB := false } else { r with unsentA := false })
      (s.updEth n fun r => { r with queue := [] })
  else s

/-- A descriptor access fails (R461). -/
def ethDmaErr (s : State) (n d : Nat) (tx : Bool) : State :=
  let s := if inSram (d + 4) then s.setLe (d + 4) (setBits (BitVec.ofNat 32 (s.le (d + 4) 4)) 29 1 1).toNat 4 else s
  let s := s.updEth n fun r => if tx then { r with txStop := true, sending := false } else { r with rxStop := true }
  (s.flt .eth n F.ETH_DMA_ERR).post 0x2150 (locEth n) n

/-- A span of memory in TB's partition (R101). -/
def inTb (a len : Nat) : Bool := 0x20100000 ≤ a && a + len ≤ 0x20200000

/-- The transmit ring goes on with its next descriptor, if the port owns it (R461). -/
def ethNext (s : State) (n : Nat) (ecc : Ecc) : State :=
  if !s.on (R.ETH_CTL_EN n) || (s.eth n).sending || (s.eth n).txStop then s
  else
    let d := s.fld (R.ETH_TXRING_BASE n) + 16 * s.fld (R.ETH_IDX_TX_NEXT n)
    let s := (s.strikeSram ecc).sramRead (.dma .tb) (d + 4) 4
    let w := s.resp.data
    if s.resp.kind ≠ 0 then s.ethDmaErr n d true
    else if getBits w 31 1 = 0 then s
    else if inTb (s.le d 4) (getBits w 0 11) then s.updEth n fun r => { r with sending := true }
    else (s.errResp (.dma .tb) false (s.le d 4) .prot).ethDmaErr n d true

/-- A frame for the receive ring (R461). -/
def ethStore (s : State) (n : Nat) (f : List Byte) (ecc : Ecc) : State :=
  if (s.eth n).rxStop then (s.inc (R.ETH_CNT_RX_NOBUF n)).evt .eth n E.ETH_NOBUF
  else
    let i := s.fld (R.ETH_IDX_RX_NEXT n)
    let d := s.fld (R.ETH_RXRING_BASE n) + 16 * i
    let s := (s.strikeSram ecc).sramRead (.dma .tb) (d + 4) 4
    let w := s.resp.data
    let a := s.le d 4
    if s.resp.kind ≠ 0 then s.ethDmaErr n d false
    else if getBits w 31 1 = 0 then (s.inc (R.ETH_CNT_RX_NOBUF n)).evt .eth n E.ETH_NOBUF
    else if !inTb a f.length then (s.errResp (.dma .tb) true a .prot).ethDmaErr n d false
    else
      let s := f.zipIdx.foldl (fun s e => s.setByte (a + e.2) e.1) s
      let s := s.setLe (d + 4) (setBits (setBits w 0 11 f.length) 31 1 0).toNat 4
      (s.setFld (R.ETH_IDX_RX_NEXT n) ((i + 1) % 2 ^ s.fld (R.ETH_RING_RX_LOG2 n))).evt .eth n E.ETH_RX_FRAME

/-- A frame whose FCS is good (R459–R461). -/
def ethReceive (s : State) (n : Nat) (f : List Byte) (ecc : Ecc) : State :=
  let dst := f.take 6
  if !(s.on (R.ETH_CTL_PROMISC n) || dst == s.ethMac n || dst == List.replicate 6 0xFF) then s
  else
    match (if s.on (R.ETH_EPT_PORT_EPT_EN n) then eptDatagram (s.fld (R.ETH_EPT_PORT_PORT n)) f else none) with
    | none => s.ethStore n f ecc
    | some (src, p) =>
      if src ≠ s.fld (R.ETH_EPT_PEER_IP_IP n) then s.inc (R.ETH_CNT_EPT_REJ n)
      else s.each (List.range 16) fun s e =>
        if s.on (R.EPT_CFG_EN e) && !s.on (R.EPT_CFG_DIR e) && eptSid p == s.fld (R.EPT_SID_SID e) then
          if s.fld (R.EPT_SID_NET_A e) = 4 + n then s.eptCopy e false p
          else if s.fld (R.EPT_SID_NET_B e) = 4 + n then s.eptCopy e true p else s
        else s

/-- A write of ETH_CTL by its value (R470): a port switched on starts both rings at their bases. -/
def ethCtl (s : State) (m : Master) (n : Nat) (v : Word) : State :=
  let en := s.on (R.ETH_CTL_EN n)
  let on := getBits v 0 1 = 1
  let other := getBits v 1 3 != getBits (s.rd (R.ETH_CTL n)) 1 3
  s.write m (R.ETH_CTL n) [(en && other, .state)] fun s =>
    let s := s.wr (R.ETH_CTL n) (setBits (s.rd (R.ETH_CTL n)) 0 4 (getBits v 0 4))
    if on && !en then (s.wr (R.ETH_IDX n) 0).updEth n fun r => { r with sending := false, txStop := false, rxStop := false }
    else if en && !on then s.updEth n fun r => { r with sending := false }
    else s

/-- The PHY link goes up or down (R459). -/
def ethLink (s : State) (n : Nat) (up : Bool) : State :=
  if s.on (R.ETH_STAT_LINK n) == up then s
  else
    let s := (s.setFld (R.ETH_STAT_LINK n) (b2n up)).evt .eth n E.ETH_LINK_CHG
    if up then (s.post 0x0150 (locEth n) n).ethFlush n
    else (s.inc (R.ETH_CNT_LINK_DOWN n)).post 0x1150 (locEth n) n

/-- The networks go down after the flush of a planned detach of X1 (R95). -/
def netsDown (s : State) : State :=
  if s.pwr.netDown then s else (({ s with pwr := { s.pwr with netDown := true } } : State).ethLink 0 false).ethLink 1 false

/-- The networks are shed (R75): no frame is in progress, no link is up. -/
def netsShed (s : State) : State :=
  let s := s.each (List.range 4) fun s n => (s.updCan n fun c => { c with bus := none }).setFld (R.CAN_STAT_ACT n) 0
  (s.each [0, 1] fun s n => s.updEth n fun r => { r with sending := false }).ethLink 0 false |>.ethLink 1 false

end State

/-- A frame has been received (R459–R461): its bytes without the FCS. -/
def execEthFrameReceived (n : Fin 2) (bytes : List Byte) (fcsOk : Bool) (ecc : Ecc) (s : State) : Out :=
  .next (if s.shed || !s.on (R.ETH_CTL_EN n) || !(s.on (R.ETH_STAT_LINK n) || s.on (R.ETH_CTL_LOOP n)) || bytes.length < 60 || 1518 < bytes.length then s
    else if !fcsOk then s.inc (R.ETH_CNT_FCS_ERR n) else s.ethReceive n bytes ecc)

/-- A write of ETH_TXKICK.KICK = 1 (R461). -/
def execEthTxKick (m : Master) (n : Fin 2) (ecc : Ecc) (s : State) : Out := .next (s.write m (R.ETH_TXKICK n) [] fun s => s.ethNext n ecc)

/-- The frame of the present descriptor has been sent (R461); Eptal copies go before the next (R460). -/
def execEthTxDone (n : Fin 2) (ecc : Ecc) (s : State) : Out :=
  .next (if !(s.eth n).sending then s
    else
      let i := s.fld (R.ETH_IDX_TX_NEXT n)
      let d := s.fld (R.ETH_TXRING_BASE n) + 16 * i
      let s := s.setLe (d + 4) (setBits (BitVec.ofNat 32 (s.le (d + 4) 4)) 31 1 0).toNat 4
      let s := (s.setFld (R.ETH_IDX_TX_NEXT n) ((i + 1) % 2 ^ s.fld (R.ETH_RING_TX_LOG2 n))).evt .eth n E.ETH_TX_DONE
      ((s.updEth n fun r => { r with sending := false }).ethFlush n).ethNext n ecc)

/-- The link goes up or down (R459). -/
def execEthLinkChange (n : Fin 2) (up : Bool) (sqi : Fin 8) (s : State) : Out :=
  .next ((s.setFld (R.ETH_STAT_SQI n) sqi).ethLink n (up && !s.standby))

/-! ### Sending an Eptal message -/

namespace State

/-- A copy is handed to its network (R411, R453, R460). -/
def eptHand (s : State) (e : Nat) (pathB : Bool) (p : List Byte) : State :=
  let net := if pathB then s.fld (R.EPT_SID_NET_B e) else s.fld (R.EPT_SID_NET_A e)
  let k := if pathB then s.fld (R.EPT_BUF_BUF_B e) else s.fld (R.EPT_BUF_BUF_A e)
  let s := s.updEpt e fun r => if pathB then { r with unsentB := true } else { r with unsentA := true }
  if 4 ≤ net then
    let n := net - 4
    (if s.on (R.ETH_EPT_PORT_EPT_EN n) then s.updEth n fun r => { r with queue := r.queue ++ [(e, pathB)] } else s).ethFlush n
  else
    let dlc := ([9, 10, 11, 12, 13].find? fun d => p.length ≤ dlcBytes true d).getD 14
    let brs := s.freeVal.toNat % 2
    let s := s.tookFree
    let d := p ++ List.replicate (48 - p.length) 0
    let s := (s.setCanS net k 0 0).setCanS net k 1 (BitVec.ofNat 32 (dlc + 2 ^ 4 + brs * 2 ^ 5))
    let s := s.each (List.range 12) fun s j => s.setCanS net k (2 + j) (BitVec.ofNat 32 (ofLe ((d.drop (4 * j)).take 4)))
    if s.canBadFormat net k then s else s.canAccept net k

/-- A write of EPT_Ss_CTL with SEND = 1 (R411). -/
def eptSend (s : State) (m : Master) (e epoch : Nat) : State :=
  s.write m (R.EPT_CTL e) [((s.ept e).unsentA || (s.ept e).unsentB, .busy)] fun s =>
    if !s.on (R.EPT_CFG_EN e) || !s.on (R.EPT_CFG_DIR e) then s
    else if s.fld (R.EPT_CFG_EPOCH e) ≠ epoch ∨ epoch = 0 then s.stale .ept 0
    else
      let q := s.fld (R.EPT_SEQ_SEQ e)
      let data := (List.range 8).flatMap fun j => leBytes (s.rd (R.EPT_DATA e j)).toNat 4
      let pdu (b : Bool) : List Byte := eptPdu (s.fld (R.EPT_SID_SID e)) epoch (s.fld (R.EPT_CFG_LEN e)) q b data
      let s := s.setFld (R.EPT_SEQ_SEQ e) ((q + 1) % 65536)
      (s.eptHand e false (pdu false)).eptHand e true (pdu true)

end State

/-- A write of EPT_Ss_CTL.SEND = 1 (R411). -/
def execEptalSend (m : Master) (k : Fin 16) (epoch : Fin 256) (s : State) : Out := .next (s.eptSend m k epoch)

/-! ### Setpoint link -/

/-- A frame arrives on the setpoint link (R351, R466); `framing`: a character or gap of it was bad. -/
def execAuxlCommandFrame (bytes : List Byte) (framing : Bool) (s : State) : Out :=
  .next (if !s.on R.AUXL_CTL_EN then s
    else if framing ∨ bytes.length ≠ 8 ∨ bytes.getD 0 0 ≠ 0xA7 then s.inc R.AUXL_CNT_FRAMING
    else if (bytes.getD 7 0).toNat ≠ crc8 (bytes.take 7) then s.inc R.AUXL_CNT_CRC_ERR
    else
      let s := if s.on R.AUXL_STAT_NEW then s.inc R.AUXL_CNT_OVERRUN else s
      let s := (s.wr R.AUXL_RX0 (BitVec.ofNat 32 (ofLe (bytes.take 4)))).wr R.AUXL_RX1 (BitVec.ofNat 32 (ofLe (bytes.drop 4)))
      let s := (s.setFld R.AUXL_STAT_NEW 1).evt .hsp 0 E.HSP_AUXL_RX
      if s.on R.AUXL_STAT_TO_FLAG then (s.setFld R.AUXL_STAT_TO_FLAG 0).post 0x0161 locAuxl 0 else s)

/-- A read of AUXL_RX1; the agent's clears NEW (R466, R182). -/
def execAuxlRxRead (m : Master) (s : State) : Out :=
  let d := s.rd R.AUXL_RX1
  .next ((if s.fullRead m .hsp 0 then s.setFld R.AUXL_STAT_NEW 0 else s).okResp d)

/-- No valid command frame for LINK_TO (R466). -/
def execAuxlLinkTimeout (s : State) : Out :=
  .next (if s.on R.AUXL_CTL_EN && !s.on R.AUXL_STAT_TO_FLAG then
      ((((s.opTo .hsp 0).setFld R.AUXL_STAT_TO_FLAG 1).evt .hsp 0 E.HSP_AUXL_TO).inc R.AUXL_CNT_TIMEOUTS).post 0x1161 locAuxl 0
    else s)

/-- AUXL_ACK stays idle (R90): in a detach of X1, and with no group armed until the auxiliary converter is enabled. -/
def State.ackIdle (s : State) : Bool := s.detachingX1 || (!s.on R.AUX_CFG_EN && !(List.range 12).any s.armed)

/-- A write of AUXL_TXCTL.SEND = 1 (R466): what goes out on AUXL_ACK. -/
def execAuxlAckSend (m : Master) (s : State) : Out :=
  .next (s.write m R.AUXL_TXCTL [(s.on R.AUXL_STAT_TX_BUSY, .busy)] fun s =>
    let b := leBytes (s.rd R.AUXL_TX0).toNat 4 ++ leBytes (s.fld R.AUXL_TX1_BYTES) 3
    if s.on R.AUXL_CTL_EN then
      (s.setFld R.AUXL_STAT_TX_BUSY 1).updNet fun x => { x with ack := if s.ackIdle then [] else b ++ [BitVec.ofNat 8 (crc8 b)] }
    else s)

/-- The acknowledge frame has been sent (R466). -/
def execAuxlTxDone (s : State) : Out :=
  .next (if s.on R.AUXL_STAT_TX_BUSY then (s.setFld R.AUXL_STAT_TX_BUSY 0).evt .hsp 0 E.HSP_AUXL_TX_DONE else s)

end Sys2Proof.Machine
end

