-- ==== Sys2Proof/Machine/Recorder.lean ====
section
/-!
DEFINITION. The event recorder (chapter 16): capture, ring and log, histograms and trackers, flushes, clearing, and the NOR page.
-/
namespace Sys2Proof.Machine

/-- Location of the recorder's own records and of NOR page events (chapter 16). -/
def locRec : Nat := locBlk 2 0x13
def locNor : Nat := locBlk 2 0x16

/-- Slots of the record ring, and indices of the record log (R513, R519). -/
def ringSlots : Nat := 7680
def logSize : Nat := 720896

/-- Addresses of a ring slot, a log index, a histogram and a tracker (R517, R519). -/
def ringAddr (i : Nat) : Nat := 0x203C4000 + 32 * i
def logAddr (i : Nat) : Nat := 0x61A00000 + 32 * i
def histAddr (k : Nat) : Nat := 0x203C0100 + 256 * k
def trackAddr (k : Nat) : Nat := 0x203C2100 + 16 * k

namespace State

def updRec (s : State) (f : Rec → Rec) : State := { s with rcd := f s.rcd }

/-- Bytes at successive addresses. -/
def putBytes (s : State) (a : Nat) (l : List Byte) : State := l.zipIdx.foldl (fun s e => s.setByte (a + e.2) e.1) s
def getBytes (s : State) (a n : Nat) : List Byte := (List.range n).map fun i => s.byte (a + i)

/-! ### Capture -/

/-- The phase that holds (R514). -/
def recPhase (s : State) : Nat :=
  let st := s.fld R.SEC_BOOT_STAGE
  let lc := s.fld R.SEC_LC_STATE
  if lc = 1 ∨ lc = 4 ∨ s.on R.BST_STAT_BUSY then 2
  else if st = 0 ∨ st = 1 then 0
  else if st = 2 then 1
  else 3

/-- The ROLE field of a record: posts of the management plane carry the session's role (R494, R510). -/
def recRole (s : State) (l : Nat) : Nat := if l / 2 ^ 18 % 16 = 2 ∧ l / 2 ^ 22 = 0 then s.fld R.ROL_SESS_ROLE else 0

/-- The bytes of a record before its CRC (R510); the operating second and microsecond are those of the clock of the post (R48). -/
def recBytes (s : State) (p : Post) (rep seq : Nat) : List Byte :=
  let back := s.now / 400000000 - p.at_ / 400000000
  leBytes p.code 2 ++ [BitVec.ofNat 8 (s.recRole p.loc + s.fld R.REC_STAT_PHASE * 4), BitVec.ofNat 8 rep]
    ++ leBytes (p.loc + Config.moduleInstance.toNat * 2 ^ 30) 4 ++ leBytes (s.fld R.REC_OPSEC_OPSEC - back) 4
    ++ leBytes (s.fld R.REC_PCC_PCC) 4 ++ leBytes p.data 4 ++ leBytes (p.at_ % 400000000 / 400) 4 ++ leBytes seq 4

/-- The next SEQ is taken (R512). -/
def recTakeSeq (s : State) : State := s.setFld R.REC_SEQ_SEQ (s.fld R.REC_SEQ_SEQ + 1)

/-- A record enters the ring with the next SEQ, or is lost to a full ring (R512, R513); it becomes the open record unless its class
never merges (R516). -/
def recPut (s : State) (p : Post) : State :=
  let n := s.fld R.REC_STAT_BACKLOG
  let q := s.fld R.REC_SEQ_SEQ
  if n < ringSlots then
    let wr := s.fld R.REC_RING_WR
    let b := s.recBytes p 0 q
    let s := s.putBytes (ringAddr wr) (b ++ leBytes (crc32c b) 4)
    let s := ((s.setFld R.REC_RING_WR ((wr + 1) % ringSlots)).setFld R.REC_STAT_BACKLOG (n + 1)).recTakeSeq
    s.updRec fun r => { r with open_ := if p.code / 4096 < 4 then some p else none }
  else
    (((s.recTakeSeq).inc R.REC_CNT_LOST).evt .recorder 0 E.REC_LOST).updRec fun r => { r with lost := r.lost + 1, open_ := none }

/-- A record of the recorder's own. -/
def recOwn (s : State) (code data : Nat) : State := s.recPut ⟨code, locRec, data, s.now⟩

/-- The rate window ends: what it suppressed is recorded and the table empties (R515). -/
def rateEnd (s : State) : State :=
  let l := s.rcd.rate.filter fun e => e.sup ≠ 0
  let s := s.updRec fun r => { r with rate := [] }
  l.foldl (fun s e => s.recPut ⟨0x1180, e.loc, e.code + min e.sup 0xFFFF * 2 ^ 16, s.now⟩) s

/-- REC_STAT.PHASE follows; a change ends the open record and the rate window (R514). -/
def recSync (s : State) : State :=
  let p := s.recPhase
  if s.fld R.REC_STAT_PHASE = p then s
  else ((s.rateEnd).updRec fun r => { r with open_ := none }).setFld R.REC_STAT_PHASE p

/-- A post that equals the open record increments its REPEAT (R516). -/
def recMerge (s : State) : State :=
  let a := ringAddr ((s.fld R.REC_RING_WR + (ringSlots - 1)) % ringSlots)
  let s := s.setByte (a + 3) (s.byte (a + 3) + 1)
  s.putBytes (a + 28) (leBytes (crc32c (s.getBytes a 28)) 4)

/-- REPEAT of the last record in the ring. -/
def recRepeat (s : State) : Nat := (s.byte (ringAddr ((s.fld R.REC_RING_WR + (ringSlots - 1)) % ringSlots) + 3)).toNat

/-- A post in SERVICE under the rate limit (R515). -/
def recLimited (s : State) (p : Post) : State :=
  match s.rcd.rate.find? fun e => e.code == p.code with
  | some e =>
    if e.n < s.fld R.REC_CTL_RATE_N then
      (s.updRec fun r => { r with rate := r.rate.map fun x => if x.code = p.code then { x with n := x.n + 1 } else x }).recPut p
    else
      let s := s.updRec fun r => { r with rate := r.rate.map fun x => if x.code = p.code then { x with sup := x.sup + 1, loc := p.loc } else x }
      ((s.recTakeSeq).inc R.REC_CNT2_SUPPRESSED).evt .recorder 0 E.REC_SUPPRESSED
  | none =>
    if s.rcd.rate.length < 64 then (s.updRec fun r => { r with rate := r.rate ++ [{ code := p.code, n := 1 }] }).recPut p
    else (s.inc R.REC_CNT2_TABLE_FULL).recPut p

/-- The recorder is paused: the retained partition is under test (R537). -/
def recPaused (s : State) : Bool :=
  s.on R.BST_STAT_BUSY && s.fld R.BST_CTL_TARGET == 0 && 0xF0000 < s.fld R.BST_START_WORD + s.fld R.BST_LEN_WORDS

/-- The recorder takes the oldest post from J3 (R512, R513, R515, R516). -/
def recCapture (s : State) : State :=
  if s.recPaused then s
  else match s.j3 with
  | [] => s
  | p :: rest =>
    let s := ({ s with j3 := rest }).recSync
    let plain := p.code / 4096 < 4
    if s.fld R.REC_STAT_PHASE = 1 then (if plain && p.code != 0x1180 then s.recLimited p else s.recPut p)
    else
      let same := s.rcd.open_.any fun o => o.code == p.code && o.loc == p.loc && o.data == p.data
      if plain && same && s.recRepeat < 255 then s.recMerge else s.recPut p

/-! ### Histograms and trackers -/

/-- A histogram is zeroed; a tracker is reset (R522). -/
def histZero (s : State) (k : Nat) : State := s.clearMem (histAddr k) 256
def trackZero (s : State) (k : Nat) : State :=
  ((s.clearMem (trackAddr k) 16).setLe (trackAddr k) 0x7F7FFFFF 4).setLe (trackAddr k + 4) 0xFF7FFFFF 4

/-- The sources of R523: none where invalid or off; a NaN word has no ratio. -/
def tmpSensor (s : State) (k : Nat) : Option Q :=
  let die (i : Nat) : Q := (Q.mk' ((s.fld (R.HKA_IN_CODE (17 + i)) : Int) * 400 - 200 * 65520) 65520)
  if k < 6 then
    let l := (List.range 6).map die
    let rank (x : Q) : Nat := (l.filter fun y => !(x.le y)).length
    let at_ (r : Nat) : Q := (l.find? fun x => rank x ≤ r && r < rank x + (l.filter fun y => y.le x && x.le y).length).getD {}
    let med := ((at_ 2).add (at_ 3)).mul ⟨1, 2⟩
    let d := (die k).sub med
    if (⟨d.n.natAbs, d.d⟩ : Q).le ⟨10, 1⟩ then some (die k) else none
  else if k < 21 then
    let l := k - 6
    if s.fld (R.NL_STAT_STATE l) = 2 then some ⟨s.fldI (R.NL_REG_TJ l), 4⟩ else none
  else if s.on (R.HKA_TEMP_VALID (k - 21)) then some ⟨s.fldI (R.HKA_TEMP_TEMP (k - 21)), 16⟩
  else none

/-- The word a source gives (R523), and its value where it is a number. -/
def recSource (s : State) (src : Nat) : Option Word :=
  let i := src / 16 % 256
  match src % 16 with
  | 1 => if i < 160 && !s.resting i then some (s.rd (R.LPX_OBS i (src / 4096))) else none
  | 2 => if i < 32 then some (s.fast i).port else none
  | 3 => if i < 6 && s.on (R.HKA_TEMP_VALID i) then some (Q.word ⟨s.fldI (R.HKA_TEMP_TEMP i), 16⟩) else none
  | 4 => if i < 27 then (s.tmpSensor i).map Q.word else none
  | 5 => some (Q.word ⟨s.fld R.PWR_GATE_AVG, 10⟩)
  | _ => none

/-- One histogram's sample (R522): bin floor((v − LO) / WIDTH) clamped to 0–63; the bin of a NaN is open. -/
def histCount (s : State) (k : Nat) (v : Word) : State :=
  let d := f32Val v - f32Val (s.rd (R.REC_HLO k))
  let w := f32Val (s.rd (R.REC_HWID k))
  let nan := f32IsNan v
  let b := if nan then s.freeVal.toNat % 64 else (max 0 (min 63 (d / w))).toNat
  let a := histAddr k + 4 * b
  let s := if nan then s.tookFree else s
  s.setLe a (min (s.le a 4 + 1) 0xFFFFFFFF) 4

/-- One tracker's sample (R522). -/
def trackCount (s : State) (k : Nat) (v : Word) : State :=
  let a := trackAddr k
  let lo := BitVec.ofNat 32 (s.le a 4)
  let hi := BitVec.ofNat 32 (s.le (a + 4) 4)
  let now := s.fld R.REC_OPSEC_OPSEC
  let s := if !f32IsNan v && f32Val v < f32Val lo then (s.setLe a v.toNat 4).setLe (a + 8) now 4 else s
  if !f32IsNan v && f32Val hi < f32Val v then (s.setLe (a + 4) v.toNat 4).setLe (a + 12) now 4 else s

/-- The samples of one tick boundary (R522); with J3 full they are discarded and counted like posts (R49). -/
def histSample (s : State) : State :=
  let t := s.fld R.CAD_TICK_COUNT
  let take (cfg : Nat) (s : State) (f : State → Word → State) : State :=
    let src := getBits (s.rd cfg) 0 16
    let div := getBits (s.rd cfg) 16 16
    if src % 16 = 0 ∨ div = 0 ∨ t % div ≠ 0 then s
    else match s.recSource src with
      | none => s
      | some v => if s.j3.length < j3Depth then f s v else (s.inc R.CAD_J3_LOST_COUNT).evt .cad 0 E.CAD_J3_LOST
  let s := s.each (List.range 32) fun s k => take (R.REC_HCFG k) s fun s v => s.histCount k v
  s.each (List.range 64) fun s k => take (R.REC_XCFG k) s fun s v => s.trackCount k v

/-- A configuration word of a histogram or tracker may be written so (R523). -/
def recSrcOk (v : Word) : Bool := getBits v 0 4 < 6 && getBits v 16 16 != 0

/-! ### The log -/

/-- HEAD enters a sector: the sector two ahead is erased if it holds records (R519, R521). -/
def logReserve (s : State) : State :=
  let r := (s.fld R.REC_HEAD_INDEX / 2048 + 2) % 352
  let t := s.fld R.REC_TAIL_INDEX
  let s := s.clearMem (logAddr (2048 * r)) 65536
  if t / 2048 = r then (s.setFld R.REC_TAIL_INDEX ((r + 1) % 352 * 2048)).incBy R.REC_CNT_WRAP_LOST (2048 - t % 2048) else s

/-- One record goes from the ring to the log (R519, R524). -/
def logRecord (s : State) : State :=
  let fl := s.fld R.REC_RING_FL
  let h := s.fld R.REC_HEAD_INDEX
  let s := s.putBytes (logAddr h) (s.getBytes (ringAddr fl) 32)
  let h' := (h + 1) % logSize
  let s := ((s.setFld R.REC_HEAD_INDEX h').setFld R.REC_RING_FL ((fl + 1) % ringSlots)).setFld R.REC_STAT_BACKLOG (s.fld R.REC_STAT_BACKLOG - 1)
  let s := if h' = 0 then s.setFld R.REC_TAIL_WRAPPED 1 else s
  if h' % 2048 = 0 then s.logReserve else s

/-- `n` records go to the log. -/
def logRecords (s : State) (n : Nat) : State := s.each (List.range n) fun s _ => s.logRecord

/-- A snapshot is written (R520); its bytes have no layout in the manual. -/
def recSnapshot (s : State) : State :=
  let g := s.rcd.snap
  let g' : Snap := { num := g.num + 1, opsec := s.fld R.REC_OPSEC_OPSEC, pcc := s.fld R.REC_PCC_PCC, seq := s.fld R.REC_SEQ_SEQ }
  (s.forget 0x61800000 0x200000).updRec fun r => { r with snap := g', snapAt := some s.now, snapDue := false }

/-! ### NOR page -/

/-- A NOR page operation completes (R540, R544): what the page holds, where that differs from what was commanded. Programming clears bits. -/
def norDone (s : State) (page : Option (List Byte)) : State :=
  match s.rcd.nor with
  | none => s
  | some (op, a) =>
    let s := s.updRec fun r => { r with nor := none, written := if op = 2 then r.written else
      if a < 0x61000000 then r.written ||| 1 else if 0x63000000 ≤ a then r.written ||| 2 else r.written }
    let s := if op = 0 then
        let buf := (List.range 64).flatMap fun k => leBytes (s.rd (R.NOR_BUF k)).toNat 4
        let now := s.getBytes a 256
        let got := page.getD ((buf.zip now).map fun e => e.1 &&& e.2)
        let s := s.putBytes a (got.take 256)
        if got = buf then s else (s.flt .nor 0 F.NOR_VERIFY).inc R.NOR_CNT_VERIFY
      else if op = 1 then (s.clearMem a 65536).inc R.NOR_CNT_ERASES
      else s
    ((s.setFld R.NOR_STAT_BUSY 0).setFld R.NOR_STAT_RESULT 1).evt .nor 0 E.NOR_OP_DONE

/-- Step 1 of a power-fail flush: a page program completes, an erase is abandoned with its sector undefined (R525). -/
def norCut (s : State) : State :=
  match s.rcd.nor with
  | some (1, a) => (((s.forget a 65536).updRec fun r => { r with nor := none }).setFld R.NOR_STAT_BUSY 0).setFld R.NOR_STAT_RESULT 3
  | _ => s.norDone none

/-- The region of a page operation refuses it (R539, R488). -/
def norRefusals (s : State) (a : Nat) : List (Bool × ErrKind) :=
  let slot := if a < 0x61000000 then 0 else 1
  let image := a < 0x61000000 || 0x63000000 ≤ a
  let temp := s.on R.SEC_IMG_STAT_IMG_TEMP_OK
  let cal := 0x61000000 ≤ a && a < 0x61400000
  [(image && (s.fld R.SEC_IMG_STAT_OPENED != slot || !temp), .state), (cal && (s.fld R.ROL_SESS_ROLE < 2 || !temp), .state),
   (!image && !cal, .prot)]

/-- A write of NOR_CMD with GO = 1 (R539, R544); while a power-fail flush runs no page operation is accepted (R525). -/
def norGo (s : State) (m : Master) (op : Nat) : State :=
  let a := s.fld R.NOR_ADDR_ADDR
  let bad := op = 3 ∨ ((op = 0 ∨ op = 1) ∧ (a < 0x60000000 ∨ 0x64000000 ≤ a)) ∨ (op = 0 ∧ a % 256 ≠ 0) ∨ (op = 1 ∧ a % 65536 ≠ 0)
  let pf := s.on R.REC_STAT_PF
  s.write m R.NOR_CMD ([(s.on R.NOR_STAT_BUSY, .busy), (pf, .busy), (pf, .state), (bad, .range)]
      ++ (if op < 2 then s.norRefusals a else [])) fun s =>
    ((s.setFld R.NOR_CMD_OP op).setFld R.NOR_STAT_BUSY 1).updRec fun r => { r with nor := some (op, a) }

/-! ### Flushing -/

/-- A BIST in progress ends once its block is restored (R536). -/
def bistAbort (s : State) : State :=
  if s.on R.BST_STAT_BUSY then
    let s := ((s.setFld R.BST_STAT_BUSY 0).setFld R.BST_STAT_RESULT 3).evt .bst 0 E.BST_DONE
    (s.post 0x61A0 (locBlk 2 0x15) (s.fld R.BST_CTL_TARGET + 3 * 16)).recSync
  else s

/-- Whether a flush of a cause writes a snapshot (R520, R524). -/
def snapWanted (s : State) (cause : Nat) : Bool :=
  if cause = 4 then false
  else if cause = 2 ∨ cause = 5 ∨ cause = 7 then true
  else match s.rcd.snapAt with
    | none => true
    | some t => t + 10 * 400000000 ≤ s.now

/-- A flush trigger (R524, R525): it starts a flush, joins the one in progress, or turns it into a power-fail flush. -/
def recTrigger (s : State) (cause : Nat) : State :=
  let pf := cause = 2
  let s := if pf then s.bistAbort.norCut else s
  let n := s.fld R.REC_STAT_BACKLOG
  let w := s.snapWanted cause
  if s.on R.REC_STAT_FLUSHING && !pf then
    (if s.rcd.step4 then s else s.updRec fun r => { r with upto := n, snapDue := r.snapDue || w, open_ := if n = 0 then r.open_ else none })
  else
    let s := (s.setFld R.REC_STAT_FLUSHING 1).setFld R.REC_FLUSH_CAUSE cause
    let s := if pf then s.setFld R.REC_STAT_PF 1 else s
    s.updRec fun r => { r with upto := if pf then min n 1728 else n, snapDue := w, step4 := false, open_ := if n = 0 then r.open_ else none, pf := if pf then 1 else r.pf, pf4 := if pf then 0 else r.pf4 }

/-- A clear is carried out up to its record and its flush (R529). -/
def recClear (s : State) (cred scope : Nat) : State :=
  let seq := s.fld R.REC_SEQ_SEQ
  let s := s.recOwn 0x5180 (cred + scope * 2 ^ 8)
  let s := if bitAt scope 1 then s.each (List.range 32) fun s k => s.histZero k else s
  let s := if bitAt scope 2 then s.each (List.range 64) fun s k => s.trackZero k else s
  (s.updRec fun r => { r with clearSeq := some (seq, scope) }).recTrigger 7

/-- A clear is accepted (R528–R530): during a flush it waits for its end. -/
def recClearAccept (s : State) (cred scope : Nat) : State :=
  if s.on R.REC_STAT_FLUSHING then s.updRec fun r => { r with clearWait := some (cred, scope) } else s.recClear cred scope

/-- A clear whose record is among the last `n` written to the log takes effect (R529). -/
def recClearEffect (s : State) (n : Nat) : State :=
  match s.rcd.clearSeq with
  | none => s
  | some (seq, scope) =>
    let h := s.fld R.REC_HEAD_INDEX
    match (List.range n).find? fun i => s.le (logAddr ((h + logSize - 1 - i) % logSize) + 24) 4 == seq with
    | none => s
    | some i =>
      let s := (s.updRec fun r => { r with clearSeq := none }).evt .recorder 0 E.REC_CLEARED
      if bitAt scope 0 then (s.setFld R.REC_TAIL_INDEX ((h + logSize - 1 - i) % logSize)).setFld R.REC_STAT_CLEARING 1 else s

/-- A clear that has waited for the end of a flush is carried out (R529). -/
def clearGo (s : State) : State :=
  match s.rcd.clearWait with
  | some (c, sc) => (s.updRec fun r => { r with clearWait := none }).recClear c sc
  | none => s

/-- Step 4 of a planned detach of X1 follows the flush of its step 3 (R95). -/
def drainNets (s : State) : State :=
  if s.fld R.PWR_DETACH_STAT_STATE = 1 && !s.on R.PWR_DETACH_STAT_SCOPE_ACT then s.netsDown else s

/-- The flush in progress completes steps 1 to 3, or is abandoned after a timeout (R524, R525, R527). -/
def flushDone (s : State) (ok : Bool) : State :=
  if !s.on R.REC_STAT_FLUSHING ∨ s.rcd.step4 then s
  else if !ok then
    let s := ((s.setFld R.REC_STAT_FLUSHING 0).setFld R.REC_STAT_PF 0).setFld R.REC_FLUSH_RESULT 2
    let s := ((s.opTo .recorder 0).flt .recorder 0 F.REC_FLUSH_FAIL).post 0x2180 locRec (s.fld R.REC_FLUSH_CAUSE)
    s.drainNets.clearGo
  else
    let pf := s.on R.REC_STAT_PF
    let n := min s.rcd.upto (s.fld R.REC_STAT_BACKLOG)
    let s := s.logRecords n
    let s := if s.rcd.snapDue then s.recSnapshot else s
    let s := ((s.setFld R.REC_FLUSH_RESULT 1).setFld R.REC_FLUSH_COUNT n).evt .recorder 0 E.REC_FLUSHED
    let s := s.recClearEffect n
    let s := if s.fld R.PWR_DETACH_STAT_STATE = 1 then s.setFld R.PWR_DETACH_STAT_FLUSH_OK 1 else s
    if pf then s.updRec fun r => { r with step4 := true, upto := 0, pf := 2, snap := { r.snap with pf := n } }
    else (s.setFld R.REC_STAT_FLUSHING 0).drainNets.clearGo

/-- Step 4 has written `n` more records (R525). -/
def flushStep4 (s : State) (n : Nat) : State :=
  let n := min n (s.fld R.REC_STAT_BACKLOG)
  ((s.logRecords n).updRec fun r => { r with pf4 := r.pf4 + n, open_ := if n = 0 then r.open_ else none }).recClearEffect n

/-- A SAF line has been raised since the last clock: a flush of cause 1 (R524). -/
def recClock (s : State) : State :=
  let s := s.recSync
  if s.safe.raised then (s.updSafe fun x => { x with raised := false }).recTrigger 1 else s

/-- The end of an operating second (R511). -/
def recSecond (s : State) : State := s.setFld R.REC_OPSEC_OPSEC (s.fld R.REC_OPSEC_OPSEC + 1)

end State

/-- The recorder takes a post from J3 (R513). -/
def execRecordCapture (s : State) : Out := .next s.recCapture

/-- The ring has room after losses: record 0x1181 (R513). -/
def execRingRoomRecord (s : State) : Out :=
  .next (if s.rcd.lost ≠ 0 ∧ s.fld R.REC_STAT_BACKLOG < ringSlots then
      (s.recOwn 0x1181 s.rcd.lost).updRec fun r => { r with lost := 0 }
    else s)

/-- A rate window ends (R515). -/
def execRateWindowEnd (s : State) : Out := .next s.rateEnd

/-- The start flush (R524, cause 7). -/
def execStartFlush (s : State) : Out := .next (s.recTrigger 7)

/-- 60 s since the end of the last flush (R524, cause 3). -/
def execFlushPeriodic (s : State) : Out := .next (s.recTrigger 3)

/-- BACKLOG has reached 1728 (R524, cause 4). -/
def execFlushBacklog (s : State) : Out := .next (if 1728 ≤ s.fld R.REC_STAT_BACKLOG then s.recTrigger 4 else s)

/-- A write of REC_CTL.FLUSH = 1 (R524, cause 6). -/
def execFlushRequest (m : Master) (s : State) : Out := .next (s.write m R.REC_CTL [] fun s => s.recTrigger 6)

/-- The flush in progress completes, or times out (R524, R525, R527). -/
def execFlushDone (ok : Bool) (s : State) : Out := .next (s.flushDone ok)

/-- 100 ms after a power-fail trigger without flush mode (R525): step 4 ends with every later record written. -/
def execPfFlushEnd (s : State) : Out :=
  .next (if s.rcd.step4 && !s.on R.PWR_STAT_ON_HOLDUP then
      let s := s.flushStep4 (s.fld R.REC_STAT_BACKLOG)
      let s := ((s.setFld R.REC_STAT_PF 0).setFld R.REC_STAT_FLUSHING 0).updRec fun r => { r with step4 := false }
      s.clearGo
    else s)

/-- The background erase of a clear completes (R529): the sectors behind TAIL are erased. -/
def execClearEraseDone (s : State) : Out :=
  .next (if s.on R.REC_STAT_CLEARING then
      let t := s.fld R.REC_TAIL_INDEX / 2048
      let h := s.fld R.REC_HEAD_INDEX / 2048
      let n := (t + 351 - h) % 352
      (s.each (List.range n) fun s i => s.clearMem (logAddr ((h + 1 + i) % 352 * 2048)) 65536).setFld R.REC_STAT_CLEARING 0
    else s)

/-- A write of NOR_CMD with GO = 1 and OP = 0 (R539). -/
def execNorProgramPage (m : Master) (s : State) : Out := .next (s.norGo m 0)

/-- OP = 1 (R539). -/
def execNorEraseSector (m : Master) (s : State) : Out := .next (s.norGo m 1)

/-- OP = 2 (R544). -/
def execNorResetDie (m : Master) (s : State) : Out := .next (s.norGo m 2)

/-- A page operation completes (R540). -/
def execNorOpDone (page : Option (List Byte)) (s : State) : Out := .next (s.norDone page)

/-- A page operation times out (R527, R540): it is abandoned, the die is reset, and what it was writing is undefined. -/
def execNorOpTimeout (s : State) : Out :=
  .next (match s.rcd.nor with
    | none => s
    | some (op, a) =>
      let s := if op = 0 then s.forget a 256 else if op = 1 then s.forget a 65536 else s
      let s := s.updRec fun r => { r with nor := none }
      let s := ((s.setFld R.NOR_STAT_BUSY 0).setFld R.NOR_STAT_RESULT 2).inc R.NOR_CNT_TIMEOUTS
      ((s.opTo .nor 0).flt .nor 0 F.NOR_NOR_TO).post 0x21B0 locNor op)

end Sys2Proof.Machine
end

