-- ==== Sys2Proof/Machine/Thermal.lean ====
section
/-!
DEFINITION. Thermal supervision and its derate channels, and the memory self-test (chapter 16).
-/
namespace Sys2Proof.Machine

/-- Locations of TMP and BST events (chapter 16). -/
def locTmp : Nat := locBlk 2 0x14
def locBst : Nat := locBlk 2 0x15

namespace State

/-! ### Temperatures -/

/-- The hottest valid sensor of a list of indices, with its value (R532). -/
def hottest (s : State) (l : List Nat) : Option (Nat × Q) :=
  l.foldl (fun b k => match s.tmpSensor k, b with
    | some v, none => some (k, v)
    | some v, some (j, w) => if v.le w then some (j, w) else some (k, v)
    | none, b => b) none

/-- The sensors of a group (R531), and those of the three die groups. -/
def tmpGroup (g : Nat) : List Nat :=
  if g = 0 then List.range 6 else if g = 1 then (List.range 12).map (· + 6) else if g = 2 then [18, 19, 20] else (List.range 6).map (· + 21)
def tmpDies : List Nat := List.range 21

/-- A maximum register follows: VALUE in units of 1/16 °C, its rounding open (R543). -/
def tmpShow (s : State) (addr : Nat) (l : List Nat) : State :=
  match s.hottest l with
  | none => s.setFld ⟨addr, 21, 1⟩ 0
  | some (k, v) => ((s.setNear ⟨addr, 0, 16⟩ (-32768) 32767 (v.mul ⟨16, 1⟩)).setFld ⟨addr, 16, 5⟩ k).setFld ⟨addr, 21, 1⟩ 1

/-- TJ_WARN and TJ_LIMIT with their 5 K of hysteresis (R532). -/
def tmpThreshold (s : State) : State :=
  match s.hottest tmpDies with
  | none => s
  | some (k, v) =>
    let ge (t : Nat) : Bool := (⟨t, 1⟩ : Q).le v
    let fallen (t : Nat) : Bool := v.le ⟨(t : Int) - 5, 1⟩
    let w := s.fld R.TMP_CFG_TJ_WARN
    let l := s.fld R.TMP_CFG_TJ_LIMIT
    let s := if ge w && !s.rcd.warn then
        ((s.evt .tmp 0 E.TMP_WARN).post 0x1190 locTmp k).updRec fun r => { r with warn := true }
      else if fallen w && s.rcd.warn then (s.setFld (hdr .tmp 0 0x10 E.TMP_WARN 1) 0).updRec fun r => { r with warn := false }
      else s
    if ge l && !s.rcd.limit then ((s.flt .tmp 0 F.TMP_OVERTEMP).post 0x2190 locTmp k).updRec fun r => { r with limit := true }
    else if fallen l && s.rcd.limit then (s.setFld (hdr .tmp 0 0x1C F.TMP_OVERTEMP 1) 0).updRec fun r => { r with limit := false }
    else s

/-! ### Derate channels (R533) -/

/-- The input of a channel. -/
def drtInput (s : State) (k : Nat) : Option Q :=
  let src := s.fld (R.TMP_DRT_CFG_SRC k)
  if src < 27 then s.tmpSensor src
  else (s.hottest (if src = 27 then tmpDies else tmpGroup (src - 28))).map Prod.snd

/-- A word the formula gives within 1 ulp; exact at the ends of the ramp. -/
def drtWord (s : State) (k : Nat) (x : Q) : Word :=
  let full := s.rd (R.TMP_DRT_LFULL k)
  let low := s.rd (R.TMP_DRT_LMIN k)
  let odd (w : Word) : Bool := f32IsNan w || f32IsInf w
  if odd full || odd low || odd (s.rd (R.TMP_DRT_START k)) || odd (s.rd (R.TMP_DRT_END k)) then s.freeVal
  else
    let a := Q.ofWord (s.rd (R.TMP_DRT_START k))
    let num := x.sub a
    let den := (Q.ofWord (s.rd (R.TMP_DRT_END k))).sub a
    let f : Q := if den.n < 0 then Q.mk' (-(num.n * den.d)) (num.d * den.n.natAbs) else Q.mk' (num.n * den.d) (num.d * den.n.natAbs)
    if f.n ≤ 0 then full
    else if (⟨1, 1⟩ : Q).le f then low
    else
      let q := (Q.ofWord full).sub (f.mul ((Q.ofWord full).sub (Q.ofWord low)))
      (f32Within (q.n < 0) q.n.natAbs q.d false s.freeVal.toNat).bits

/-- A channel's word at the end of a round. -/
def drtCompute (s : State) (k : Nat) : State :=
  let bad := s.on (R.TMP_DRT_STAT_SRC_BAD k)
  let old := s.rd (R.TMP_DRT_OUT k)
  let i := s.drtInput k
  let w := match i with
    | none => s.rd (R.TMP_DRT_LMIN k)
    | some x => s.drtWord k x
  let s := if i.isSome then s.tookFree else s
  let s := s.when (i.isNone && !bad) fun s => (s.evt .tmp 0 E.TMP_SRC_BAD).post 0x1191 locTmp k
  let s := (s.setFld (R.TMP_DRT_STAT_SRC_BAD k) (b2n i.isNone)).wr (R.TMP_DRT_OUT k) w
  let s := s.setFld (R.TMP_DRT_STAT_ACTIVE k) (b2n (f32Val w < f32Val (s.rd (R.TMP_DRT_LFULL k))))
  if w = old then s else s.evt .tmp 0 E.TMP_DERATE

/-- A limit word is posted to J4 (R50). -/
def postLimit (s : State) (c lim : Nat) (w : Word) (epoch : Nat) : State :=
  s.updCtx c fun x => { x with j4Posts := x.j4Posts ++ [⟨lim, w, epoch⟩] }

/-- Channels with EN = 1. -/
def drtOn (s : State) : List Nat := (List.range 8).filter fun k => s.on (R.TMP_DRT_CFG_EN k)

/-- Two channels name the same context and limit. -/
def drtSame (s : State) (j k : Nat) : Bool :=
  s.fld (R.TMP_DRT_CFG_CTX j) == s.fld (R.TMP_DRT_CFG_CTX k) && s.fld (R.TMP_DRT_CFG_LIM j) == s.fld (R.TMP_DRT_CFG_LIM k)

/-- The end of a housekeeping round (R532, R533). -/
def tmpRound (s : State) : State :=
  let v := (List.range 27).foldl (fun m k => if (s.tmpSensor k).isSome then m + 2 ^ k else m) 0
  let s := s.setFld R.TMP_SVALID_VALID v
  let s := (s.each [0, 1, 2, 3] fun s g => s.tmpShow (R.TMP_GMAX g) (tmpGroup g)).tmpShow R.TMP_DIEMAX tmpDies
  let s := s.tmpThreshold
  let l := s.drtOn
  let s := s.each l fun s k => s.drtCompute k
  let val (k : Nat) : Int := f32Val (s.rd (R.TMP_DRT_OUT k))
  s.each (l.filter fun k => l.all fun j => !s.drtSame j k || val k < val j || (val k == val j && k ≤ j)) fun s k =>
    s.postLimit (s.fld (R.TMP_DRT_CFG_CTX k)) (s.fld (R.TMP_DRT_CFG_LIM k)) (s.rd (R.TMP_DRT_OUT k)) (s.fld (R.TMP_DRT_STAT_EPOCH k))

/-- A write of TMP_DRTk_CFG (R533, R543): EN = 1 captures the EPOCH; disabling the last channel of a limit frees it. -/
def drtConfig (s : State) (m : Master) (k : Nat) (v : Word) : State :=
  let en := s.on (R.TMP_DRT_CFG_EN k)
  let on := getBits v 0 1 = 1
  let c := getBits v 8 8
  s.write m (R.TMP_DRT_CFG k) [(en && on, .state), (159 < c, .range), (on && s.rd (R.TMP_DRT_START k) == s.rd (R.TMP_DRT_END k), .range)] fun s =>
    let old := s.fld (R.TMP_DRT_CFG_CTX k)
    let lim := s.fld (R.TMP_DRT_CFG_LIM k)
    let last := en && !on && !(s.drtOn.any fun j => j != k && s.drtSame j k)
    let s := if last then s.postLimit old lim (BitVec.ofNat 32 f32Max) (s.fld (R.TMP_DRT_STAT_EPOCH k)) else s
    let s := s.wr (R.TMP_DRT_CFG k) (v &&& 0x7FF3F)
    if on then (s.setFld (R.TMP_DRT_STAT_EPOCH k) (s.fld (R.LPX_CFG_EPOCH c))).setFld (R.TMP_DRT_STAT_STALE k) 0 else s

/-- A word of a derate channel was discarded as stale (R533, R50). -/
def drtStale (s : State) (c : Nat) (p : J4Post) : State :=
  s.each (s.drtOn.filter fun k => s.fld (R.TMP_DRT_CFG_CTX k) == c && s.fld (R.TMP_DRT_CFG_LIM k) == p.lim && s.fld (R.TMP_DRT_STAT_EPOCH k) == p.epoch)
    fun s k => (s.setFld (R.TMP_DRT_STAT_STALE k) 1).evt .tmp 0 E.TMP_STALE

/-! ### Memory self-test -/

/-- Words of a target: SRAM, LPE program, table and context memories, CAN message RAM (R537). -/
def bistWords (t : Nat) : Nat := [0x100000, 0x2000, 0x4000, 160 * 64, 0x4000].getD t 0

/-- The condition of a target (R537). -/
def bistReady (s : State) (t : Nat) : Bool :=
  if 1 ≤ t ∧ t ≤ 3 then (List.range 160).all fun c => s.cstate c == 0
  else if t = 4 then (List.range 4).all fun n => !s.on (R.CAN_CTL_EN n)
  else if t = 5 then !s.on R.FAQ_CTL_EN && !s.on R.FAQ_CTL_DMA_EN
  else true

/-- On-request tests and repair are available (R534). -/
def bistState (s : State) : Bool := s.fld R.SEC_LC_STATE == 1 || s.fld R.SEC_LC_STATE == 4

/-- A write of BST_CTL with GO = 1 (R534, R537, R544). -/
def bistGo (s : State) (m : Master) (t alg : Nat) : State :=
  let a := s.fld R.BST_START_WORD
  let n := s.fld R.BST_LEN_WORDS
  let bad := 6 < t ∨ alg = 3 ∨ (t < 5 ∧ (a % 1024 ≠ 0 ∨ n % 1024 ≠ 0 ∨ bistWords t < a + n))
  s.write m R.BST_CTL [(s.on R.BST_STAT_BUSY, .busy), (bad, .range), (!s.bistState || !s.bistReady t, .state)] fun s =>
    let s := (s.setFld R.BST_CTL_TARGET t).setFld R.BST_CTL_ALG alg
    ((s.setFld R.BST_STAT_BUSY 1).setFld R.BST_STAT_FAILS 0).recSync

/-- The location of a failing word (R538): the memory's own block, the bank and the bit, each unresolved below an
unresolved field (R7). The manual numbers no block of SRAM: that field is a free value. -/
def bistLoc (s : State) (t : Nat) (f : BistFail) : Nat :=
  let at_ (sub blk : Nat) : Nat :=
    let mac := if blk = 0x3F then 0x3F else f.bank.val
    sub * 2 ^ 18 + blk * 2 ^ 12 + mac * 2 ^ 6 + (if mac = 0x3F then 0x3F else f.bit.val)
  if t = 0 then at_ 6 (s.freeVal.toNat % 64)
  else if t ≤ 3 then at_ 0 (3 + t)
  else if t = 4 then at_ 1 (0x20 + (f.addr.toNat - 0x400B0000) / 0x4000)
  else if t = 5 then at_ 0 9
  else at_ 7 3

/-- A failing word (R538). -/
def bistFail (s : State) (t : Nat) (f : BistFail) : State :=
  let s := if s.fld R.BST_STAT_FAILS = 0 then
      (s.wr R.BST_FAIL_ADDR f.addr).wr R.BST_FAIL_BIT (BitVec.ofNat 32 (f.bit.val + b2n f.multi * 2 ^ 6))
    else s
  ((s.inc R.BST_STAT_FAILS).post 0x61A1 (s.bistLoc t f) f.addr.toNat).when (t == 0) tookFree

/-- The memory a repair would use: SRAM banks 0–15, LPE memories 16–18 (R538). -/
def bistBank (s : State) : Option Nat :=
  let t := s.fld R.BST_CTL_TARGET
  if t = 0 then some ((s.fld R.BST_FAIL_ADDR_ADDR - 0x20000000) / 0x40000 % 16) else if t ≤ 3 then some (15 + t) else none

/-- Spare rows used of a memory. -/
def spareUsed (s : State) (b : Nat) : Nat := s.rcd.spare.read (fun _ => 0) b

end State

/-- A write of TMP_DRTk_CFG (R533). -/
def execDerateChannelWrite (m : Master) (k : Fin 8) (v : Word) (s : State) : Out := .next (s.drtConfig m k v)

/-- A write of BST_CTL.GO = 1 with its TARGET and ALG (R537). -/
def execBistRequest (m : Master) (target : Fin 16) (alg : Fin 4) (s : State) : Out := .next (s.bistGo m target alg)

/-- A BIST completes with the words that failed (R538). -/
def execBistDone (fails : List BistFail) (s : State) : Out :=
  .next (if s.on R.BST_STAT_BUSY then
      let t := s.fld R.BST_CTL_TARGET
      let s := (s.setFld R.BST_STAT_BUSY 0).setFld R.BST_STAT_RESULT (if fails.isEmpty then 1 else 2)
      let s := fails.foldl (fun s f => s.bistFail t f) s
      let s := s.when (!fails.isEmpty) fun s => s.flt .bst 0 F.BST_BIST_FAIL
      ((s.evt .bst 0 E.BST_DONE).post 0x61A0 locBst (t + (if fails.isEmpty then 16 else 32))).recSync
    else s)

/-- A write of BST_CTL.ABORT = 1 (R536); a power-fail trigger aborts by itself (R525). -/
def execBistAbort (m : Master) (s : State) : Out := .next (s.write m R.BST_CTL [] State.bistAbort)

/-- A write of BST_CTL.REPAIR = 1 (R538): on a FAIL result it burns a spare row of the memory. -/
def execBistRepair (m : Master) (s : State) : Out :=
  let none_ : Bool := match s.bistBank with
    | none => true
    | some b => (if b < 16 then 4 else 2) ≤ s.spareUsed b
  .next (s.write m R.BST_CTL [(!s.bistState || !s.on R.SEC_IMG_STAT_OTP_TEMP_OK, .state), (s.fld R.BST_STAT_RESULT == 2 && none_, .state)] fun s =>
    if s.fld R.BST_STAT_RESULT ≠ 2 then s
    else match s.bistBank with
    | none => s
    | some b =>
      let s := s.updRec fun r => { r with spare := r.spare.write (fun _ => 0) b (s.spareUsed b + 1) }
      let s := s.inc (if b < 16 then R.BST_REPAIR_SRAM_USED else R.BST_REPAIR_LPE_USED)
      (s.evt .bst 0 E.BST_REPAIRED).post 0x61A2 locBst (s.fld R.BST_FAIL_ADDR_ADDR))

end Sys2Proof.Machine
end

