-- ==== Sys2Proof/Machine/Power.lean ====
section
/-!
DEFINITION. Supplies, hold-up bank, gate power, connectors and planned detach (chapter 2).
-/
namespace Sys2Proof.Machine

/-- Location of PWR events (chapter 2): MACRO 0 VLV monitor, 1 X1, 2 X2, 3 sensor supplies, 4 detach sequencer. -/
def locPwr (mac : Nat) : Nat := loc 0 0 2 0x10 mac
/-- Location of a fault of the supply assembly: 0 backup supply, 1 hold-up bank, 2 gate-supply transformers. -/
def locSupply (die : Nat) : Nat := loc 0xE die 0xF 0x3F 0x3F

namespace State

def updPwr (s : State) (f : Pwr → Pwr) : State := { s with pwr := f s.pwr }

/-- A post whose data word the manual does not give. -/
def postOpen (s : State) (code l : Nat) : State := (s.post code l s.freeVal.toNat).tookFree

/-- A planned detach is in progress (R95, R96). -/
def detaching (s : State) : Bool := s.on R.PWR_DETACH_STAT_STATE

/-- The sensor supplies that are on (R91, R92, R95). -/
def sensShow (s : State) : State :=
  s.setFld R.PWR_SENS_STAT_ON (if s.on R.PWR_STAT_X2_PRESENT && !s.detaching then getBits (s.rd R.PWR_SENS_CTL) 0 4 else 0)

/-- The outputs follow the detach state (R95, R96). -/
def detachShow (s : State) : State := (s.each [0, 1, 2, 3] fun s m => (s.soUpdate m).soShow m).sensShow

/-- READY ends with a return to SERVICE (R96): what DRAINING switched off returns. -/
def detachEnd (s : State) (data : Nat) : State :=
  let s := s.updPwr fun p => { p with netDown := false }
  let s := ((s.setFld R.PWR_DETACH_STAT_STATE 0).setFld R.PWR_DETACH_STAT_HOLD_LEFT 0).detachShow
  (s.evt .pwr 0 E.PWR_DETACH_END).post 0x7007 (locPwr 4) data

/-- One second of READY (R96). -/
def pwrSecond (s : State) : State :=
  if s.fld R.PWR_DETACH_STAT_STATE = 2 then s.setFld R.PWR_DETACH_STAT_HOLD_LEFT (s.fld R.PWR_DETACH_STAT_HOLD_LEFT - 1) else s

/-- A write of PWR_DETACH_CTL with REQ = 1 (R94, R95, R97): steps 1 and 2 at once, step 3 begins; step 4 comes after it, at the end of
DRAINING. -/
def detachRequest (s : State) (m : Master) (x2 : Bool) : State :=
  let st := s.fld R.PWR_DETACH_STAT_STATE
  s.write m R.PWR_DETACH_CTL [(st == 3, .state)] fun s =>
    if st ≠ 0 then s
    else
      let s := s.setFld R.PWR_DETACH_CTL_SCOPE (b2n x2)
      if s.anyArmed then s.setFld R.PWR_DETACH_STAT_DENY 1
      else if x2 && !s.on R.PWR_STAT_X2_PRESENT then s.setFld R.PWR_DETACH_STAT_DENY 2
      else
        let s := ((s.setFld R.PWR_DETACH_STAT_STATE 1).setFld R.PWR_DETACH_STAT_SCOPE_ACT (b2n x2)).setFld R.PWR_DETACH_STAT_FLUSH_OK (b2n x2)
        let s := (s.setFld R.PWR_DETACH_CTL_REQ 1).detachShow
        if x2 then s else s.recTrigger 5

/-- A write of CANCEL = 1 (R96, R97). -/
def detachCancel (s : State) (m : Master) : State :=
  s.write m R.PWR_DETACH_CTL [] fun s => if s.fld R.PWR_DETACH_STAT_STATE = 2 then s.detachEnd 0 else s

/-- A presence loop opens (R92, R93, R96): the end of READY where it is the selected one, an unplanned withdrawal in SERVICE and DRAINING. -/
def loopOpen (s : State) (x2 : Bool) (lost : State → State) : State :=
  let st := s.fld R.PWR_DETACH_STAT_STATE
  if st = 2 ∧ s.on R.PWR_DETACH_STAT_SCOPE_ACT = x2 then
    (s.setFld R.PWR_DETACH_STAT_STATE 3).setFld R.PWR_DETACH_STAT_HOLD_LEFT 0
  else if st < 2 then lost s
  else s

end State

/-- VLV falls below PF_WARN (R74): in full service an event and a power-fail flush. -/
def execPfWarnFalling (s : State) : Out :=
  .next (if s.on R.PWR_STAT_PF_WARN then s
    else
      let s := s.setFld R.PWR_STAT_PF_WARN 1
      if s.fld R.SEC_BOOT_STAGE = 2 then ((s.evt .pwr 0 E.PWR_PF_WARN).postOpen 0x7001 (locPwr 0)).recTrigger 2 else s)

/-- VLV rises above the PF_WARN cleared threshold (R72, R74). -/
def execPfWarnCleared (s : State) : Out := .next (s.setFld R.PWR_STAT_PF_WARN 0)

/-- Flush mode begins (R75): lanes empty, carriers stop, the networks lose their links. What the shed blocks would do later, the
operations test `shed` for. -/
def State.shedAll (s : State) : State :=
  let s := s.each (List.range 4) fun s l => (s.updLane l fun L => { reissues := L.reissues }).showLane l
  (s.each (List.range 12) fun s g => s.setFld (R.PG_STAT_CAR_RUN g) 0).netsShed

/-- VLV falls below UV_OFF (R75): the J2 fault selects the safe states, then the module enters flush mode; the gate supplies take the
backup supply if it is OK (R81). -/
def execUvOff (s : State) : Out :=
  .next (if s.on R.PWR_STAT_ON_HOLDUP then s
    else
      let s := (s.setFld R.PWR_STAT_VLV_OK 0).setFld R.PWR_STAT_ON_HOLDUP 1
      let s := s.setFld R.PWR_VDC_BACKUP_ACT (s.fld R.PWR_STAT_BACKUP_OK)
      (((s.flt .pwr 0 F.PWR_UV_OFF).postOpen 0x7002 (locPwr 0)).raise 22 State.allGroups).shedAll.recTrigger 2)

/-- VLV rises above the VLV_HIGH threshold (R72, R98). -/
def execVlvHigh (s : State) : Out := .next ((s.evt .pwr 0 E.PWR_VLV_HIGH).postOpen 0x700D (locPwr 0))

/-- Charging of the hold-up bank ends (R77). -/
def execHoldupCharged (s : State) : Out := .next ((s.setFld R.PWR_HOLDUP_CHARGED 1).setFld R.PWR_STAT_HOLDUP_OK 1)

/-- The test discharge of the bank ends with its capacitance in units of 10 µF (R79). -/
def execHoldupMeasured (cap : Fin 4096) (s : State) : Out :=
  .next (if !s.on R.PWR_HOLDUP_CHARGED then s
    else
      let s := (s.setFld R.PWR_HOLDUP_CAP cap).setFld R.PWR_HOLDUP_TESTED 1
      if cap.val < 150 then (s.evt .pwr 0 E.PWR_HOLDUP_LOW).postOpen 0x7008 (locSupply 1) else s)

/-- The backup supply becomes active or inactive (R80): active, it can take the gate load; it delivers power while VLV is below UV_OFF
(R81; log entry 72). -/
def execBackupSupplyChange (active : Bool) (s : State) : Out :=
  .next (((s.setFld R.PWR_VDC_BACKUP_ACT (b2n (active && s.shed))).setFld R.PWR_STAT_BACKUP_OK (b2n active)).updPwr fun p =>
    { p with backupFail := false })

/-- The backup supply is inactive with the DC link at 200 V or more (R81). -/
def execBackupFail (s : State) : Out :=
  .next (if s.on R.PWR_STAT_BACKUP_OK then s
    else ((s.updPwr fun p => { p with backupFail := true }).flt .pwr 0 F.PWR_BACKUP_FAIL).postOpen 0x700C (locSupply 0))

/-- The 100 ms average of the gate power, in units of 0.1 W (R84). -/
def execGatePwrHigh (avg : Fin 1024) (s : State) : Out :=
  let s := (s.setFld R.PWR_GATE_AVG avg).setFld R.PWR_GATE_PEAK (max (s.fld R.PWR_GATE_PEAK) avg)
  let s := if avg.val < 660 then s.updPwr fun p => { p with overload := false } else s
  .next (if avg.val < 600 then s.setFld R.PWR_STAT_GATE_PWR_HIGH 0
    else if s.on R.PWR_STAT_GATE_PWR_HIGH then s
    else ((s.setFld R.PWR_STAT_GATE_PWR_HIGH 1).evt .pwr 0 E.PWR_GATE_PWR_HIGH).postOpen 0x7009 (locSupply 2))

/-- The gate power has been at or above 66 W for 100 ms (R84). -/
def execGateOverload (s : State) : Out :=
  .next (if 660 ≤ s.fld R.PWR_GATE_AVG then
      (((s.updPwr fun p => { p with overload := true }).flt .pwr 0 F.PWR_GATE_OVERLOAD).postOpen 0x700A (locSupply 2)).raise 25 State.allGroups
    else s)

/-- A sensor supply has been at its current limit for 10 ms (R98, R99). -/
def execSensOc (k : Fin 4) (s : State) : Out :=
  .next (if bitAt (s.fld R.PWR_SENS_STAT_ON) k then
      ((s.setFld R.PWR_SENS_STAT_OC (bitSet (s.fld R.PWR_SENS_STAT_OC) k)).evt .pwr 0 E.PWR_SENS_OC).postOpen 0x700B (locPwr 3)
    else s)

/-- The X2 loop has been closed for 10 ms (R91). -/
def execX2Attach (s : State) : Out :=
  .next (if s.on R.PWR_STAT_X2_PRESENT then s
    else
      let s := ((s.setFld R.PWR_STAT_X2_PRESENT 1).updPwr fun p => { p with x2Lost := false }).sensShow
      (s.evt .pwr 0 E.PWR_X2_ATTACH).postOpen 0x7005 (locPwr 2))

/-- The X1 loop opens (R92, R93, R96). -/
def execX1LoopOpen (s : State) : Out :=
  .next (if !s.on R.PWR_STAT_X1_PRESENT then s
    else (s.setFld R.PWR_STAT_X1_PRESENT 0).loopOpen false fun s =>
      let s := (s.updPwr fun p => { p with x1Lost := true }).flt .pwr 0 F.PWR_X1_WITHDRAWN
      ((s.postOpen 0x7003 (locPwr 1)).raise 23 State.allGroups).recTrigger 2)

/-- The X2 loop opens (R92, R93, R96, R289): the supplies switch off and the position channels freeze. -/
def execX2LoopOpen (s : State) : Out :=
  .next (if !s.on R.PWR_STAT_X2_PRESENT then s
    else (((s.setFld R.PWR_STAT_X2_PRESENT 0).sensShow).posFreeze).loopOpen true fun s =>
      let s := (s.updPwr fun p => { p with x2Lost := true }).flt .pwr 0 F.PWR_X2_WITHDRAWN
      (s.postOpen 0x7004 (locPwr 2)).raise 24 State.allGroups)

/-- A write of PWR_DETACH_CTL.REQ = 1 with its SCOPE (R94, R95). -/
def execDetachRequest (m : Master) (x2 : Bool) (s : State) : Out := .next (s.detachRequest m x2)

/-- DRAINING ends (R95): step 4 of SCOPE = X1 is done by then. -/
def execDetachReady (s : State) : Out :=
  .next (if s.fld R.PWR_DETACH_STAT_STATE = 1 then
      let s := if s.on R.PWR_DETACH_STAT_SCOPE_ACT then s else s.netsDown
      let s := (s.setFld R.PWR_DETACH_STAT_STATE 2).setFld R.PWR_DETACH_CTL_REQ 0
      let s := (s.setFld R.PWR_DETACH_STAT_HOLD_LEFT (s.fld R.PWR_DETACH_CTL_HOLD_S)).evt .pwr 0 E.PWR_DETACH_READY
      s.postOpen 0x7006 (locPwr 4)
    else s)

/-- A write of PWR_DETACH_CTL.CANCEL = 1 (R96). -/
def execDetachCancel (m : Master) (s : State) : Out := .next (s.detachCancel m)

/-- HOLD_S has passed in READY (R96). -/
def execDetachTimeout (s : State) : Out := .next (if s.fld R.PWR_DETACH_STAT_STATE = 2 then (s.opTo .pwr 0).detachEnd 1 else s)

end Sys2Proof.Machine
end

