-- ==== Sys2Proof/Machine/Roles.lean ====
section
/-!
DEFINITION. Roles, statements, life cycle, two-party changes, image slots, attestation and debug (chapter 15).
-/
namespace Sys2Proof.Machine

/-- Locations of SEC and ROL events (chapter 15). -/
def locSec : Nat := locBlk 2 0x11
def locRol : Nat := locBlk 2 0x12

/-- The pages a change may name, by bit of PAGES (R498). -/
def changePages : List PageKind := [.saf, .sio, .chg, .tnd, .rol, .sec]

/-- The RW2 bits of a register (R116); credential slot 0 is read only (R508). -/
def rw2Mask (a : Nat) : Word :=
  match rowAt a with
  | some r => if a = R.ROL_CRED 0 then 0 else
      BitVec.ofNat 32 (r.fields.foldl (fun m f => if f.acc = .rw2 then m + (2 ^ f.w - 1) * 2 ^ f.lo else m) 0)
  | none => 0

/-- The registers of a page that have an RW2 field, in ascending order (R499). -/
def rw2Regs (k : PageKind) : List Nat := ((List.range 1024).map fun i => k.base + 4 * i).filter fun a => rw2Mask a != 0

namespace State

def updSec (s : State) (f : Sec → Sec) : State := { s with sec := f s.sec }

/-- The staged copy of a register: what a change session wrote, else the live word (R116). -/
def stagedRd (s : State) (a : Nat) : Word := Store.read s.rd s.staged a

/-- The header bits SESSION and STAGED of a change page (R116). -/
def sessionFld (k : PageKind) : Fld := hdr k 0 0x0C 5 1
def stagedFld (k : PageKind) : Fld := hdr k 0 0x0C 4 1

/-- The pages of the present session. -/
def chgPages (s : State) : List PageKind := changePages.filter fun k => s.on (sessionFld k)
def chgState (s : State) : Nat := s.fld R.ROL_CHG_STAT_STATE

/-- The NOR region that holds keys and configuration is written by the hardware: its bytes have no layout in the manual. -/
def keysWritten (s : State) : State := s.forget 0x61400000 0x400000

/-! ### AUTH session (R494) -/

def role (s : State) : Nat := s.fld R.ROL_SESS_ROLE

/-- Debug closes (R504): a halted pair resumes under the replay rule; no fold differs. -/
def debugClose (s : State) : State :=
  if s.on R.SEC_DBG_CTL_OPENED then
    let s := s.setFld R.SEC_DBG_CTL_OPENED 0
    let s := s.each [0, 1] fun s p => if s.on (R.TND_STAT_HALTED p) then s.resumePair p none else s
    s.post 0x4005 locSec (s.fld R.SEC_DBG_CTL_PAIR * 16)
  else s

/-- The AUTH session ends: an open slot closes, and debug does (R486, R504). -/
def sessEnd (s : State) : State :=
  if s.role = 0 then s
  else ((s.wr R.ROL_SESS 0).setFld R.SEC_IMG_STAT_OPENED 3).evt .rol 0 E.ROL_SESS_END |>.debugClose

/-- The debug right of the session (R495). -/
def debugRight (s : State) : Bool :=
  let lc := s.fld R.SEC_LC_STATE
  (s.role == 2 && (lc == 2 || lc == 3)) || (s.role == 3 && lc != 5)

/-! ### Statements (R491–R493) -/

def stmt (s : State) : List Byte := (List.range 49).flatMap fun k => leBytes (s.rd (R.ROL_STMT k)).toNat 4
def stmtKind (s : State) : Nat := ofLe (s.stmt.take 2)
def stmtCred (s : State) : Nat := (s.stmt.getD 2 0).toNat
def stmtBody (s : State) (i : Nat) : Nat := (s.stmt.getD (52 + i) 0).toNat
def pubKey (s : State) : List Byte := ((List.range 25).flatMap fun k => leBytes (s.rd (R.ROL_KEY k)).toNat 4).take 97
def moduleId (s : State) : List Byte := (List.range 4).flatMap fun k => leBytes (s.rd (R.SEC_ID k)).toNat 4

/-- Role and digest of a credential slot (R490). -/
def credRole (s : State) (c : Nat) : Nat := s.fld (R.ROL_CRED_ROLE c)
def credDigest (s : State) (c : Nat) : List Byte :=
  if c = 0 then (List.range 48).map Config.makerDigest else (List.range 12).flatMap fun j => leBytes (s.rd (R.ROL_CRED_DIG c j)).toNat 4

/-- Bytes of a statement's body that a kind leaves unused are 0, and its coded bytes are defined (R492, R528). -/
def bodyBad (s : State) : Bool :=
  let tail (n : Nat) : Bool := ((s.stmt.drop (52 + n)).take (48 - n)).any (· != 0)
  match s.stmtKind with
  | 1 => tail 0
  | 2 => false
  | 3 => tail 1 || 5 < s.stmtBody 0
  | 4 => tail 1 || s.stmtBody 0 == 0 || 7 < s.stmtBody 0
  | 5 => tail 2 || 1 < s.stmtBody 0 || 3 < s.stmtBody 1
  | _ => true

/-- Whether the role may ask for a life-cycle transition (R496); for RETURNED `some true` is a statement that is held. -/
def lcRight (s : State) (role_ target : Nat) : Option Bool :=
  let from_ := s.fld R.SEC_LC_REQ
  if target = 5 ∧ from_ ≠ 5 ∧ (role_ = 3 ∨ (role_ = 2 ∧ from_ = 3)) then some false
  else if from_ = 1 ∧ target = 2 ∧ role_ = 3 then some false
  else if from_ = 2 ∧ target = 3 ∧ role_ = 2 then some false
  else if (from_ = 2 ∨ from_ = 3) ∧ target = 4 ∧ (role_ = 2 ∨ role_ = 3) then
    match s.sec.held with
    | none => some true
    | some c => if s.credRole c ≠ role_ ∨ c = s.stmtCred then some false else none
  else none

/-- The header of the running image names a key (R482, R495). -/
def keyInUse (s : State) (lms : Nat) (k : Nat) : Bool :=
  let slot := s.fld R.SEC_BOOT_SLOT
  let base := if slot = 0 then 0x60000000 else 0x63000000
  let keys := (s.byte (base + 6)).toNat
  slot != 3 && (if lms = 1 then keys / 16 % 4 else keys % 4) == k

/-- The digest's input (R499). -/
def digestInput (s : State) : List Byte :=
  s.moduleId ++ leBytes (s.rd R.ROL_CHG_SEQ).toNat 4 ++ leBytes (s.fld R.ROL_CHG_CTL_PAGES) 4
    ++ (s.chgPages.flatMap rw2Regs |>.mergeSort (· ≤ ·)).flatMap fun a =>
      leBytes a 4 ++ leBytes (s.rd a &&& rw2Mask a).toNat 4 ++ leBytes (s.stagedRd a &&& rw2Mask a).toNat 4

/-- A staged word differs from its live one. -/
def altered (s : State) (a : Nat) : Bool := (s.stagedRd a &&& rw2Mask a) != (s.rd a &&& rw2Mask a)

/-- The change alters a maker slot (R490). -/
def altersMaker (s : State) : Bool :=
  s.on (sessionFld .rol) && (List.range 16).any fun c => c != 0
    && (s.credRole c == 3 || getBits (s.stagedRd (R.ROL_CRED c)) 0 2 == 3)
    && (s.altered (R.ROL_CRED c) || (List.range 12).any fun j => s.altered (R.ROL_CRED_DIG c j))

/-- The change would leave an enabled installer credential (R490). -/
def leavesInstaller (s : State) : Bool :=
  (List.range 16).any fun c => c != 0 && getBits (s.stagedRd (R.ROL_CRED c)) 0 3 == 2 + 4

/-- A second signature has the right: the two signers hold an installer between them, and a maker where a maker slot changes (R490, R500). -/
def signersOk (s : State) (role_ : Nat) : Bool :=
  let r1 := s.credRole (s.fld R.ROL_CHG_STAT_CRED1)
  (r1 == 2 || role_ == 2) && (!s.altersMaker || r1 == 3 || role_ == 3)

/-- The first check of R493 that fails; 0 where the statement is accepted. -/
def stmtReason (s : State) : Nat :=
  let kind := s.stmtKind
  let c := s.stmtCred
  let nonce := (s.stmt.drop 20).take 32
  let want := (List.range 8).flatMap fun k => leBytes (s.rd (R.ROL_NONCE k)).toNat 4
  let r := s.credRole c
  let body := (s.stmt.drop 52).take 48
  let right : Bool := match kind with
    | 2 => s.chgState != 3 || c == s.fld R.ROL_CHG_STAT_CRED1 || s.signersOk r
    | 3 => (s.lcRight r (s.stmtBody 0)).isSome || s.sec.held == some c
    | 4 => 2 ≤ r
    | 5 => r == 3
    | _ => true
  if kind = 0 ∨ 5 < kind ∨ s.stmt.getD 3 0 ≠ 0 ∨ s.bodyBad then 1
  else if (s.stmt.drop 4).take 16 ≠ s.moduleId then 2
  else if (if kind = 2 then nonce.any (· != 0) else !s.sec.nonce || nonce != want) then 3
  else if 15 < c ∨ !s.on (R.ROL_CRED_EN c) ∨ sha384 s.pubKey ≠ s.credDigest c then 4
  else if !ecdsaOk s.pubKey (s.stmt.take 100) (s.stmt.drop 100) then 5
  else if !right then 6
  else if kind = 2 ∧ s.chgState ≠ 2 ∧ s.chgState ≠ 3 then 7
  else if kind = 5 ∧ s.keyInUse (s.stmtBody 0) (s.stmtBody 1) then 7
  else if kind = 2 ∧ body ≠ (List.range 12).flatMap (fun k => leBytes (s.rd (R.ROL_DIGEST k)).toNat 4) then 8
  else if kind = 2 ∧ s.chgState = 3 ∧ c = s.fld R.ROL_CHG_STAT_CRED1 then 9
  else if kind = 3 ∧ s.stmtBody 0 = 4 ∧ s.sec.held = some c then 9
  else if (kind = 3 ∨ kind = 5) ∧ !s.on R.SEC_IMG_STAT_OTP_TEMP_OK then 10
  else 0

/-- A verification ends (R492, R493): the result, the event, the nonce consumed, and what an accepted or a refused statement does. -/
def stmtEnd (s : State) (kind : Nat) (accept refuse : State → State) : State :=
  let k := s.stmtKind
  if !s.on R.ROL_RESULT_BUSY || (k != kind && 1 ≤ k && k ≤ 5) then s
  else
    let r := s.stmtReason
    let s := if k = 2 then s else s.updSec fun x => { x with nonce := false }
    let s := s.wr R.ROL_RESULT (BitVec.ofNat 32 ((if r = 0 then 2 else 4) + r * 2 ^ 8))
    let s := (s.evt .rol 0 E.ROL_RESULT).post (if r = 0 then 0x4003 else 0x4004) locRol (k % 8 + s.stmtCred % 16 * 16 + r * 2 ^ 8)
    if r = 0 then accept s else refuse s

/-! ### Changes (R498–R503) -/

/-- STATE of the change (R508). -/
def chgTo_ (s : State) (st : Nat) : State := (s.setFld R.ROL_CHG_STAT_STATE st).evt .rol 0 E.ROL_CHG

/-- The session leaves its pages (R117). -/
def chgClear (s : State) : State :=
  let s := changePages.foldl (fun s k => (s.setFld (sessionFld k) 0).setFld (stagedFld k) 0) s
  ({ s with staged := [] } : State).setFld R.ROL_CHG_STAT_LEFT_S 0 |>.updSec fun x => { x with sealing := false, apply := false }

/-- The change is discarded (R502). -/
def chgDiscard (s : State) (reason : Nat) : State :=
  let s := ((s.chgClear).chgTo_ 0).setFld R.ROL_CHG_STAT_DISCARD reason
  s.post 0x5006 locRol (s.fld R.ROL_CHG_SEQ_SEQ % 65536 + reason * 2 ^ 16)

/-- The staged copies become live at the boundary after the commit (R117, R501). -/
def chgApply (s : State) : State :=
  if s.sec.apply then
    let s := s.staged.foldl (fun s e => s.wr e.1 e.2) s
    let s := ((s.chgClear).chgTo_ 0)
    (s.each (List.range 8) fun s n => s.siUpdate n).syncLines
  else s

/-- The change is committed: the new configuration copy is in NOR (R501). -/
def chgCommitted (s : State) : State :=
  let cfg := s.staged.foldl (fun m e => Store.write resetWord m e.1 e.2) s.sec.cfg
  let s := (s.keysWritten).updSec fun x => { x with cfg := cfg, apply := true }
  s.post 0x5005 locRol (s.fld R.ROL_CHG_SEQ_SEQ % 65536 + s.fld R.ROL_CHG_STAT_CRED1 * 2 ^ 16 + s.sec.cred2 % 16 * 2 ^ 20)

/-- A CHANGE statement is accepted (R500, R501). -/
def chgSigned (s : State) : State :=
  if s.chgState = 2 then (s.setFld R.ROL_CHG_STAT_CRED1 s.stmtCred).chgTo_ 3
  else (s.updSec fun x => { x with cred2 := s.stmtCred }).chgTo_ 4

/-- A CHANGE statement is refused (R500). -/
def chgRefused (s : State) : State :=
  if (s.chgState = 2 ∨ s.chgState = 3) ∧ s.fld R.ROL_RESULT_REASON ≠ 9 then
    let s := s.inc R.ROL_CHG_STAT_FAILS
    if s.fld R.ROL_CHG_STAT_FAILS = 3 then s.chgDiscard 3 else s
  else s

/-! ### Images (R482–R488) -/

/-- First address of an image slot. -/
def slotBase (slot : Nat) : Nat := if slot = 0 then 0x60000000 else 0x63000000

/-- The checks of R483 on a slot, in order; the two signatures' outcomes are the world's. 1 where the slot passes. -/
def hallmark (s : State) (slot : Nat) (ecdsa lms : Bool) : Nat :=
  let b := slotBase slot
  let w (o n : Nat) : Nat := s.le (b + o) n
  let zero (o n : Nat) : Bool := (List.range n).all fun i => s.byte (b + o + i) == 0
  let len := w 0x10 4
  let entry (i : Nat) : Bool := b ≤ w (0x14 + 4 * i) 4 && w (0x14 + 4 * i) 4 < b + 0x1000000
  let keys := w 6 2
  let header := w 0 4 == 0x49584C47 && w 4 2 == 1 && keys &&& 0xFFCC == 0 && w 8 4 ≤ 63 && len % 4 == 0 && len ≤ 0xFFF000
    && entry 0 && entry 1 && entry 2 && zero 0x20 16 && zero 0x60 160 && zero 0xBCC 1076
  if !header then 2
  else if bitAt (s.fld R.SEC_KEYREV_ECDSA) (keys % 4) || bitAt (s.fld R.SEC_KEYREV_LMS) (keys / 16 % 4) then 3
  else if !ecdsa then 4
  else if !lms then 5
  else if w 8 4 < s.fld R.SEC_VER_RB_CNT then 6
  else if sha384 (s.getBytes (b + 0x1000) len) ≠ s.getBytes (b + 0x30) 48 then 7
  else 1

/-- SEC_VER of a slot's header. -/
def slotVer (s : State) (slot : Nat) : Nat := s.le (slotBase slot + 8) 4

/-- A result of R483 is posted. -/
def postSlot (s : State) (slot res : Nat) : State :=
  if res = 1 then s.post 0x4001 locSec (slot + s.slotVer slot % 64 * 2 ^ 8) else s.post 0x4002 locSec (slot + res * 16)

/-- STAGE changes (R474, R505, R514). -/
def setStage (s : State) (st : Nat) : State := ((s.setFld R.SEC_BOOT_STAGE st).evt .sec 0 E.SEC_STAGE_CHG).recSync

/-- The life-cycle state or a key bit is burned (R496, R495). -/
def lcBurn (s : State) (target : Nat) : State :=
  ((s.setFld R.SEC_LC_REQ target).setFld R.SEC_LC_HELD 0).updSec fun x => { x with held := none }

/-- The running image is on trial (R484). -/
def onTrial (s : State) : Bool := s.on R.SEC_BOOT_TRIAL && s.fld R.SEC_BOOT_SLOT == s.fld R.SEC_BOOT_PREF

/-- One second of the AUTH session and of the change window (R494, R498). -/
def secSecond (s : State) : State :=
  let s := s.setFld R.ROL_SESS_LEFT_S (s.fld R.ROL_SESS_LEFT_S - 1)
  s.setFld R.ROL_CHG_STAT_LEFT_S (s.fld R.ROL_CHG_STAT_LEFT_S - 1)

/-- `n` words of bytes that the manual leaves open. -/
def openBytes : Nat → State → List Byte × State
  | 0, s => ([], s)
  | n + 1, s =>
    let r := openBytes n s.tookFree
    (leBytes s.freeVal.toNat 4 ++ r.1, r.2)

/-- The attestation report (R489): its signature, and the hash of a copy whose layout is not given, are open. -/
def attReport (s : State) : State :=
  let run := s.fld R.SEC_BOOT_SLOT
  let b := slotBase run
  let (cfg, s) := openBytes 12 s
  let (sig, s) := openBytes 24 s
  let ver (v : Nat) : Byte := BitVec.ofNat 8 v
  let cal : State := { s with mem := s.sec.cal, undef := s.sec.calUndef }
  let body := leBytes 1 2 ++ [ver (s.fld R.SEC_LC_STATE), ver run] ++ s.moduleId ++ s.sec.att
    ++ [ver (s.fld R.SEC_VER_RB_CNT), ver (s.fld R.SEC_VER_RUN_VER), ver (s.fld R.SEC_VER_VER_A), ver (s.fld R.SEC_VER_VER_B)]
    ++ leBytes (if run = 3 then 0 else s.le (b + 0xC) 4) 4 ++ (if run = 3 then List.replicate 48 0 else s.getBytes (b + 0x30) 48) ++ cfg
    ++ sha384 (cal.getBytes 0x61000000 0x400000) ++ leBytes (s.fld R.REC_PCC_PCC) 4 ++ leBytes (s.fld R.REC_OPSEC_OPSEC) 4
    ++ leBytes (s.fld R.ROL_CHG_SEQ_SEQ) 4
  s.putBytes (s.fld R.SEC_ATT_ADDR_ADDR + 32) (body ++ sig)

end State

/-- A write of SEC_CTL.CONFIRM = 1 (R484). -/
def execImageConfirm (m : Master) (s : State) : Out :=
  .next (s.write m R.SEC_CTL [] fun s =>
    if s.fld R.SEC_BOOT_STAGE = 2 ∧ s.onTrial then
      ((s.setFld R.SEC_BOOT_TRIAL 0).keysWritten).updSec fun x => { x with trialRun := false }
    else s)

/-- A write of SEC_CTL.ADVANCE = 1 with its KEY (R485). -/
def execRollbackAdvance (m : Master) (key : Fin 256) (s : State) : Out :=
  .next (s.write m R.SEC_CTL [(key.val != 0xA5, .key), (s.fld R.SEC_BOOT_STAGE != 2 || s.onTrial || s.role < 2 || !s.on R.SEC_IMG_STAT_OTP_TEMP_OK, .state)] fun s =>
    let v := max (s.fld R.SEC_VER_RB_CNT) (s.fld R.SEC_VER_RUN_VER)
    (s.setFld R.SEC_VER_RB_CNT v).post 0x4007 locSec (v % 128))

/-- A write of SEC_IMG_CTL.OPEN = 1 (R486). -/
def execSlotOpen (m : Master) (slot : Fin 2) (s : State) : Out :=
  .next (s.write m R.SEC_IMG_CTL [(s.fld R.SEC_BOOT_SLOT == slot || s.fld R.SEC_IMG_STAT_OPENED != 3 || s.role < 2
      || !s.on R.SEC_IMG_STAT_IMG_TEMP_OK, .state)] fun s =>
    (s.setFld R.SEC_IMG_CTL_SLOT slot).setFld R.SEC_IMG_STAT_OPENED slot)

/-- A write of SEC_IMG_CTL.CLOSE = 1 (R486). -/
def execSlotClose (m : Master) (s : State) : Out := .next (s.write m R.SEC_IMG_CTL [] fun s => s.setFld R.SEC_IMG_STAT_OPENED 3)

/-- A write of SEC_IMG_CTL.ACTIVATE = 1 (R487, R488, R495): a closed slot written in this power cycle. -/
def execSlotActivate (m : Master) (slot : Fin 2) (s : State) : Out :=
  let busy := s.on R.SEC_IMG_STAT_IMG_BUSY
  .next (s.write m R.SEC_IMG_CTL [(busy, .busy), (busy || s.fld R.SEC_IMG_STAT_OPENED == slot || !bitAt s.rcd.written slot || s.role < 2
      || !s.on R.SEC_IMG_STAT_IMG_TEMP_OK, .state)] fun s =>
    ((s.setFld R.SEC_IMG_CTL_SLOT slot).setFld R.SEC_IMG_STAT_IMG_BUSY 1).updSec fun x => { x with act := some slot.val })

/-- An activation completes (R487). -/
def execActivationDone (ecdsa lms : Bool) (s : State) : Out :=
  .next (match s.sec.act with
    | none => s
    | some slot =>
      let r := s.hallmark slot ecdsa lms
      let s := (s.setFld R.SEC_IMG_STAT_IMG_BUSY 0).updSec fun x => { x with act := none, trialRun := if r = 1 then false else x.trialRun }
      let s := if r = 1 then ((s.setFld R.SEC_BOOT_PREF slot).setFld R.SEC_BOOT_TRIAL 1).keysWritten else s
      (((s.setFld R.SEC_IMG_STAT_RES r).evt .sec 0 E.SEC_IMG_DONE).postSlot slot r))

/-- A write of SEC_ATT_CTL.GO = 1 (R489): the nonce is taken. -/
def execAttestationRequest (m : Master) (s : State) : Out :=
  .next (s.write m R.SEC_ATT_CTL [] fun s =>
    let n := s.getBytes (s.fld R.SEC_ATT_ADDR_ADDR) 32
    ((s.setFld R.SEC_ATT_CTL_GO 1).setFld R.SEC_ATT_CTL_DONE 0).updSec fun x => { x with att := n })

/-- The report is complete (R489). -/
def execAttestationDone (s : State) : Out :=
  .next (if s.on R.SEC_ATT_CTL_GO then
      (((s.attReport.setFld R.SEC_ATT_CTL_GO 0).setFld R.SEC_ATT_CTL_DONE 1).evt .sec 0 E.SEC_ATT_DONE).post 0x4006 locSec 0
    else s)

/-- A write of ROL_CTL.NONCE = 1 (R492). -/
def execNonceDraw (m : Master) (s : State) : Out :=
  .next (s.write m R.ROL_CTL [] fun s =>
    (s.each (List.range 8) fun s k => (s.wr (R.ROL_NONCE k) s.freeVal).tookFree).updSec fun x => { x with nonce := true })

/-- A write of ROL_CTL.SUBMIT = 1 (R493). -/
def execStatementSubmit (m : Master) (s : State) : Out :=
  .next (s.write m R.ROL_CTL [(s.on R.ROL_RESULT_BUSY, .busy)] fun s => s.setFld R.ROL_RESULT_BUSY 1)

/-- The verification of an AUTH statement, or of one whose KIND is undefined, ends (R493, R494). -/
def execAuthStatement (s : State) : Out :=
  .next (s.stmtEnd 1 (fun s =>
    (s.sessEnd).wr R.ROL_SESS (BitVec.ofNat 32 (s.credRole s.stmtCred + s.stmtCred % 16 * 16 + 900 * 2 ^ 16))) id)

/-- That of a CHANGE statement (R500). -/
def execChangeStatement (s : State) : Out := .next (s.stmtEnd 2 State.chgSigned State.chgRefused)

/-- That of a LIFECYCLE statement (R496). -/
def execLifecycleStatement (s : State) : Out :=
  .next (s.stmtEnd 3 (fun s =>
      let t := s.stmtBody 0
      if s.lcRight (s.credRole s.stmtCred) t = some true then
        (s.setFld R.SEC_LC_HELD 1).updSec fun x => { x with held := some s.stmtCred }
      else s.lcBurn t)
    fun s => s.post 0x6002 locSec (s.stmtBody 0 % 8 + s.fld R.ROL_RESULT_REASON * 2 ^ 8))

/-- That of a CLEAR statement (R528, R529). -/
def execClearStatement (s : State) : Out := .next (s.stmtEnd 4 (fun s => s.recClearAccept s.stmtCred (s.stmtBody 0)) id)

/-- That of a REVOKE statement (R492, R495). -/
def execRevokeStatement (s : State) : Out :=
  .next (s.stmtEnd 5 (fun s =>
    let f := if s.stmtBody 0 = 0 then R.SEC_KEYREV_ECDSA else R.SEC_KEYREV_LMS
    s.setFld f (bitSet (s.fld f) (s.stmtBody 1))) id)

/-- 10 min since the first RETURNED statement (R496). -/
def execLifecycleHoldExpiry (s : State) : Out :=
  .next ((s.setFld R.SEC_LC_HELD 0).updSec fun x => { x with held := none })

/-- A write of ROL_CTL.LOGOUT = 1 (R494). -/
def execAuthLogout (m : Master) (s : State) : Out := .next (s.write m R.ROL_CTL [] State.sessEnd)

/-- 15 min of an AUTH session (R494). -/
def execAuthSessionExpiry (s : State) : Out := .next s.sessEnd

/-- A write of ROL_CHG_CTL.OPEN = 1 with PAGES (R498). -/
def execChangeOpen (m : Master) (pages : Fin 64) (s : State) : Out :=
  .next (s.write m R.ROL_CHG_CTL [(s.chgState != 0, .busy)] fun s =>
    let s := (s.setFld R.ROL_CHG_CTL_PAGES pages).setFld R.ROL_CHG_SEQ_SEQ (s.fld R.ROL_CHG_SEQ_SEQ + 1)
    let s := changePages.zipIdx.foldl (fun s e => if bitAt pages e.2 then s.setFld (State.sessionFld e.1) 1 else s) s
    let s := ((s.setFld R.ROL_CHG_STAT_CRED1 0).setFld R.ROL_CHG_STAT_FAILS 0).setFld R.ROL_CHG_STAT_LEFT_S 600
    (s.chgTo_ 1).post 0x5001 locRol (s.fld R.ROL_CHG_SEQ_SEQ % 65536 + pages * 2 ^ 16))

/-- A write of ROL_CHG_CTL.SEAL = 1 (R499); without an enabled installer left it is refused with REASON CRED (R490). -/
def execChangeSeal (m : Master) (s : State) : Out :=
  .next (s.write m R.ROL_CHG_CTL [(s.chgState != 1 || s.sec.sealing, .state)] fun s =>
    if s.leavesInstaller then s.updSec fun x => { x with sealing := true }
    else (s.setFld R.ROL_RESULT_RESULT 2).setFld R.ROL_RESULT_REASON 4)

/-- The change digest is computed (R499). -/
def execChangeDigestDone (s : State) : Out :=
  .next (if s.sec.sealing then
      let d := sha384 s.digestInput
      let s := s.each (List.range 12) fun s k => s.wr (R.ROL_DIGEST k) (BitVec.ofNat 32 (ofLe ((d.drop (4 * k)).take 4)))
      (s.updSec fun x => { x with sealing := false }).chgTo_ 2
    else s)

/-- The configuration write of a signed change completes, or fails (R501, R502). -/
def execChangeCommit (ok : Bool) (s : State) : Out :=
  .next (if s.chgState = 4 ∧ !s.sec.apply then (if ok then s.chgCommitted else s.chgDiscard 4) else s)

/-- The 10 min window expires (R502, R503): it covers signing alone. -/
def execChangeWindowExpiry (s : State) : Out :=
  .next (if 1 ≤ s.chgState ∧ s.chgState ≤ 3 then (s.opTo .rol 0).chgDiscard 1 else s)

/-- A write of ROL_CHG_CTL.ABORT = 1 (R502, R503). -/
def execChangeAbort (m : Master) (s : State) : Out :=
  .next (s.write m R.ROL_CHG_CTL [] fun s => if 1 ≤ s.chgState ∧ s.chgState ≤ 3 then s.chgDiscard 2 else s)

/-- A write of SEC_DBG_CTL.OPEN_REQ = 1 (R504). -/
def execDebugOpen (m : Master) (s : State) : Out :=
  .next (s.write m R.SEC_DBG_CTL [(!s.debugRight, .state)] fun s =>
    if s.on R.SEC_DBG_CTL_OPENED then s
    else (s.setFld R.SEC_DBG_CTL_OPENED 1).post 0x4005 locSec (1 + s.fld R.SEC_DBG_CTL_PAIR * 16))

/-- A write of SEC_DBG_CTL.CLOSE = 1 (R504). -/
def execDebugClose (m : Master) (s : State) : Out := .next (s.write m R.SEC_DBG_CTL [] State.debugClose)

end Sys2Proof.Machine
end

