-- ==== Sys2Proof/Machine/Boot.lean ====
section
/-!
DEFINITION. Resets, starts and bring-up (chapters 2, 3 and 15): what a reset keeps, reset release, the stages of the boot ROM, early
service and the start of full service.
-/
namespace Sys2Proof.Machine

/-- The pages of the driver dies lie here; below offset 0x40 of each is its header, which the controller keeps. -/
def dieRegister (a : Nat) : Bool := 0x40050000 ≤ a && a < 0x4005F000 && 0x40 ≤ a % 0x1000

/-- Registers shown from OTP and NOR, which a reset does not change (R475, R485, R495, R498, R519, R538). -/
def nvRegs : List Nat :=
  [R.SEC_KEYREV, R.SEC_ID 0, R.SEC_ID 1, R.SEC_ID 2, R.SEC_ID 3, R.ROL_CHG_SEQ, R.BST_REPAIR, R.REC_HEAD, R.REC_TAIL]

/-- The leg assignment of R214: group, slot, leg code, USE. -/
def legPlan : List (Nat × Nat × Nat × Nat) :=
  (List.range 6).map (fun k => (0, k, k, 0)) ++ (List.range 6).map (fun k => (1, k, 6 + k, 0))
    ++ (List.range 4).map (fun k => (2, k, 12 + k, 0)) ++ (List.range 4).map (fun k => (3, k, 16 + k, 0))
    ++ (List.range 9).map (fun k => (4 + k / 3, k % 3, 0x20 + k, 0)) ++ [(7, 0, 22, 2)]
    ++ [(8, 0, 20, 0), (8, 1, 21, 0), (8, 2, 0x29, 0), (8, 3, 0x2A, 0)]

namespace State

/-! ### Resets -/

/-- What the recorder's control block keeps (R517). -/
def ringShown (s : State) : Nat × Nat × Nat × Nat :=
  (s.fld R.REC_RING_WR, s.fld R.REC_RING_FL, s.fld R.REC_STAT_BACKLOG, s.fld R.REC_SEQ_SEQ)

/-- The registers after a reset (R3, R103, R115, R126): those of the driver dies while they are powered, COMMITTED and committed RWL words
and the inputs that PWR_STAT shows unless it is a power-on reset, what OTP and NOR show, and the cause. -/
def resetRegs (s t : State) (cause : Nat) (dies : Bool) : State :=
  let por := cause = 1
  let t := { t with regs := if dies then s.regs.filter fun e => dieRegister e.1 else [] }
  let t := nvRegs.foldl (fun t a => t.wr a (s.rd a)) t
  let t := ((t.setFld R.SEC_VER_RB_CNT (s.fld R.SEC_VER_RB_CNT)).setFld R.SEC_BOOT_PREF (s.fld R.SEC_BOOT_PREF)).setFld R.SEC_BOOT_TRIAL (s.fld R.SEC_BOOT_TRIAL)
  let t := (t.setFld R.SEC_LC_STATE (s.fld R.SEC_LC_REQ)).setFld R.SEC_LC_REQ (s.fld R.SEC_LC_REQ)
  let t := t.wr R.SYS_RST_CAUSE (BitVec.ofNat 32 cause)
  if por then t
  else
    let t := (t.setFld R.PWR_STAT_BACKUP_OK (s.fld R.PWR_STAT_BACKUP_OK)).setFld R.PWR_STAT_X2_PRESENT (s.fld R.PWR_STAT_X2_PRESENT)
    let t := pageKinds.foldl (fun t k => t.each (List.range k.count) fun t n => t.setFld (hdr k n 0x0C 2 1) (s.fld (hdr k n 0x0C 2 1))) t
    if s.on (hdr .tnd 0 0x0C 2 1) then t.each (List.range 2) fun t p => t.wr (R.TND_RVEC p) (s.rd (R.TND_RVEC p)) else t

/-- What NOR, OTP and the retained partition hold for the next start (R475, R484, R496, R498, R517, R520, R526, R538). -/
def resetKept (s : State) (por : Bool) : Rec × Sec :=
  let r := s.rcd
  let pf := s.on R.REC_STAT_PF || r.step4
  ({ snap := r.snap, pf := r.pf, pf4 := r.pf4, cut := if s.on R.REC_STAT_FLUSHING && !pf then s.fld R.REC_FLUSH_CAUSE else 0, ring := s.ringShown, spare := r.spare, seg := r.seg, written := if por then 0 else r.written },
   { cfg := s.sec.cfg, trialRun := s.sec.trialRun, lost := if s.chgState ≠ 0 ∧ !s.sec.apply then some (s.fld R.ROL_CHG_SEQ_SEQ) else none, lcOld := if s.fld R.SEC_LC_STATE ≠ s.fld R.SEC_LC_REQ then some (s.fld R.SEC_LC_STATE) else none })

/-- What of an active CAN word outlasts a reset: the RO fields of words 0 and 1, the buffer EPOCH among them, return to their reset values
(R54, R449). -/
def canKept (a : Nat) (v : Word) : Word :=
  if a % 0x80 = 0 then v &&& 0x40000000#32 else if a % 0x80 = 4 then v &&& 0x0000003F#32 else v

/-- A reset with its cause in SYS_RST_CAUSE, the driver dies powered or not (R82, R103, R126). NOR keeps its contents; SRAM and the
engine's, CAN's and contexts' memories keep theirs unless it is a power-on reset (R535). The links fall silent. -/
def resetState (s : State) (cause : Nat) (dies : Bool) : State :=
  let por := cause = 1
  let k := s.resetKept por
  let words := s.eng.ctx.map fun e => (e.1, e.2.words)
  let t : State := { pending := s.pending, free := s.free, undef := s.undef, undefGen := s.undefGen, mem := s.mem, rcd := k.1, sec := k.2 }
  let t := if por then
      let t := t.clearMem 0x20000000 0x3C0000
      t.forget 0x203C0000 0x40000
    else { t with prog := s.prog, tab := s.tab, bad := s.bad, canShadow := s.canShadow, canAct := s.canAct.foldl (fun m e => m.write (fun _ => 0) e.1 (canKept e.1 e.2)) [], eng := { bad := s.eng.bad, ctx := words.foldl (fun m e => Store.write (fun _ => {}) m e.1 { words := e.2 }) [] } }
  let t := if dies then { t with pwm := { leg := s.pwm.leg, chan := s.pwm.chan, link := s.pwm.link.foldl (fun m e => Store.write (fun _ => {}) m e.1 { e.2 with queue := [], restarted := false }) [] } } else t
  s.resetRegs t cause dies

/-! ### Reset release (R73, R511, R518, R526, R535) -/

/-- The life-cycle states without images (R497). -/
def lcHalted (s : State) : Bool := s.fld R.SEC_LC_STATE == 0 || s.fld R.SEC_LC_STATE == 5

/-- A power-on start. -/
def por (s : State) : Bool := s.on R.SYS_RST_CAUSE_POR

/-- Start-up BIST (R534, R535): at a power-on start it leaves the retained partition and its segment of SRAM zero. -/
def startBist (s : State) (fails : List (Nat × BistFail)) : State :=
  if s.lcHalted then s
  else
    let seg := if s.por then 0 else s.rcd.seg
    let s := if s.por then (s.clearMem 0x203C0000 0x40000).clearMem (0x20000000 + seg * 0x78000) 0x78000 else s
    let s := (s.setFld R.BST_SEG_SEG seg).updRec fun r => { r with seg := (seg + 1) % 8 }
    let s := fails.foldl (fun s f => s.bistFail f.1 f.2) s
    if fails.isEmpty then s else (s.setFld R.BST_STAT_STARTUP_FAIL 1).flt .bst 0 F.BST_BIST_FAIL

/-- The ring records whose CRC is good, oldest first, kept from FL on (R518). -/
def ringKeep (s : State) : State :=
  let (wr, fl, n, q) := s.rcd.ring
  let all := (List.range n).map fun i => s.getBytes (ringAddr ((fl + i) % ringSlots)) 32
  let good := all.filter fun b => crc32c (b.take 28) == ofLe (b.drop 28)
  let s := ((s.setFld R.REC_RING_FL fl).setFld R.REC_SEQ_SEQ q)
  if good.length = n then (s.setFld R.REC_RING_WR wr).setFld R.REC_STAT_BACKLOG n
  else
    let s := good.zipIdx.foldl (fun s e => s.putBytes (ringAddr ((fl + e.2) % ringSlots)) e.1) s
    (s.setFld R.REC_RING_WR ((fl + good.length) % ringSlots)).setFld R.REC_STAT_BACKLOG good.length

/-- The SEQ after the last record of the log, 0 for an empty log. -/
def logNextSeq (s : State) : Nat :=
  let h := s.fld R.REC_HEAD_INDEX
  if h = s.fld R.REC_TAIL_INDEX then 0 else s.le (logAddr ((h + logSize - 1) % logSize) + 24) 4 + 1

/-- The recorder starts (R511, R512, R518, R520, R524, R526). -/
def recStart (s : State) (ctlOk : Bool) : State :=
  let g := s.rcd.snap
  let next := (s.fld R.SYS_RST_CAUSE_POR == 1) || s.on R.SYS_RST_CAUSE_FLUSH_RESTART
  let s := (s.setFld R.REC_OPSEC_OPSEC g.opsec).setFld R.REC_PCC_PCC (g.pcc + b2n next)
  let s := s.setFld R.REC_STAT_PHASE s.recPhase
  let keep := ctlOk && !s.por
  let s := if keep then s.ringKeep
    else
      let s := (s.clearMem 0x203C0000 0x40000).setFld R.REC_SEQ_SEQ (max g.seq s.logNextSeq)
      (s.each (List.range 64) fun s k => s.trackZero k).recOwn 0x1182 (b2n s.por)
  let s := if s.rcd.pf = 0 then s else s.recOwn 0x7180 (g.pf + b2n (s.rcd.pf == 2) * 2 ^ 12 + min s.rcd.pf4 0xFFFF * 2 ^ 16)
  let s := if s.rcd.cut = 0 then s else (s.setFld R.REC_FLUSH_CAUSE s.rcd.cut).setFld R.REC_FLUSH_RESULT 3
  s.updRec fun r => { r with pf := 0, pf4 := 0, cut := 0 }

/-- What the reset left to post (R496, R502). -/
def startPosts (s : State) : State :=
  let s := match s.sec.lcOld with
    | some o => s.post 0x6001 locSec (s.fld R.SEC_LC_STATE + o * 16)
    | none => s
  let s := match s.sec.lost with
    | some q => (s.setFld R.ROL_CHG_STAT_DISCARD 5).post 0x5006 locRol (q % 65536 + 5 * 2 ^ 16)
    | none => s
  s.updSec fun x => { x with lcOld := none, lost := none, cfg := if s.sec.lcOld.isSome && s.fld R.SEC_LC_STATE == 4 then [] else x.cfg }

/-! ### The ROM stage (R475) -/

/-- The committed configuration, or reset values (R475). -/
def loadCfg (s : State) (valid : Bool) : State :=
  if valid then s.sec.cfg.foldl (fun s e => s.wr e.1 e.2) s
  else (s.setFld R.SEC_BOOT_CFG_DEFAULT 1).post 0x4009 locSec 0

/-- The legs of R214 become staged and live, and each group that has one is assigned for the first time (R54). -/
def assignLegs (s : State) : State :=
  let s := legPlan.foldl (fun s e =>
    let (g, k, leg, use) := e
    (s.setFld (slotLegFld g k) leg).setFld (slotUseFld g k) use) s
  s.each (List.range 9) fun s g =>
    ((s.wrLive (R.PG_SLOT0 g) (s.rd (R.PG_SLOT0 g))).wrLive (R.PG_SLOT1 g) (s.rd (R.PG_SLOT1 g))).setFld (hdr .pg g 0x2C 0 8) 1

/-- The links start (R237, R475): the dies of PG0 and PG1 keep their fallback until the CFG frame of an ARM or RESTART. -/
def startLinks (s : State) : State :=
  s.each (List.range 15) fun s k =>
    if k < 6 then
      ((s.setFld (R.NL_STAT_STATE k) (b2n (s.on (R.NL_CTL_EN k)))).setFld (R.NL_STAT_CAL_DONE k) 0).updLink k fun r => { r with restarted := true }
    else s.restartLink k

/-- The calibration region as it is at boot (R489). -/
def calShot (s : State) : State :=
  let cal := s.mem.filter fun e => 0x61000000 ≤ e.1 && e.1 < 0x61400000
  s.updSec fun x => { x with cal := cal, calUndef := s.undef }

/-! ### Early service and images (R477–R484) -/

/-- The result field of a slot. -/
def slotRes (slot : Nat) : Fld := if slot = 0 then R.SEC_BOOT_RES_A else R.SEC_BOOT_RES_B

/-- The slot has passed. -/
def slotPassed (s : State) (slot : Nat) : Bool := s.fld (slotRes slot) == 1

/-- A slot is tried (R483, R484): a preferred image on trial that has run unconfirmed fails untried and loses its preference. -/
def trySlot (s : State) (slot : Nat) (ecdsa lms : Bool) : State :=
  let pref := s.fld R.SEC_BOOT_PREF
  if slot = pref ∧ s.on R.SEC_BOOT_TRIAL ∧ s.sec.trialRun then
    let s := ((s.setFld (slotRes slot) 2).setFld R.SEC_BOOT_TRIAL 0).setFld R.SEC_BOOT_PREF (1 - pref)
    ((s.keysWritten).updSec fun x => { x with trialRun := false }).postSlot slot 2
  else
    let r := s.hallmark slot ecdsa lms
    let s := s.setFld (slotRes slot) r
    let s := if r = 1 then s.setFld (if slot = 0 then R.SEC_VER_VER_A else R.SEC_VER_VER_B) (s.slotVer slot) else s
    s.postSlot slot r

/-- It is a slot's turn: the preferred one first, the other once that has failed (R484). -/
def slotTurn (s : State) (slot : Nat) : Bool :=
  s.fld (slotRes slot) == 0 && (slot == s.fld R.SEC_BOOT_PREF || s.fld (slotRes (1 - slot)) > 1)

/-- What the ROM stage leaves (R475, R497, R535), with a valid copy of the committed configuration or none. -/
def romStage (s : State) (cfgValid : Bool) : State :=
  let s := (s.updSec fun x => { x with romDone := true }).loadCfg cfgValid
  let s := (s.updEng fun x => { x with sine := true }).assignLegs
  let s := (s.each (List.range 8) fun s n => s.siUpdate n).syncLines
  let s := s.startLinks.calShot
  if s.lcHalted then s.setStage 4 else if s.on R.BST_STAT_STARTUP_FAIL then s.setStage 3 else s

/-- The cores are released at the entries of a slot (R476, R480, R484). -/
def fullService (s : State) (slot : Nat) : State :=
  let ver := s.slotVer slot
  let s := (s.setFld R.SEC_BOOT_SLOT slot).setFld R.SEC_VER_RUN_VER ver
  let s := (s.setFld R.SEC_BOOT_TIME_FULL_MS (min (s.now / 4000) 0xFFFF)).setStage 2
  let s := if s.onTrial then s.updSec fun x => { x with trialRun := true } else s
  s.post 0x0171 locSec (slot + ver % 64 * 2 ^ 8)

end State

/-- The controller die's supply rises from below its power-on threshold (R126); `dies`: the driver dies stayed powered. -/
def execPowerOnReset (dies : Bool) (s : State) : Out := .next (s.resetState 1 dies)

/-- VLV and X1 have been good for 10 ms: the module leaves reset (R73), runs start-up BIST with the failing words (R535), and the
recorder starts with the retained control block good or not (R518). -/
def execResetRelease (ctlOk : Bool) (fails : List (Fin 7 × BistFail)) (s : State) : Out :=
  .next (if s.sec.released then s
    else
      let s := ((s.updSec fun x => { x with released := true }).setFld R.PWR_STAT_VLV_OK 1).setFld R.PWR_STAT_X1_PRESENT 1
      let s := s.startBist (fails.map fun f => (f.1.val, f.2))
      (s.recStart ctlOk).startPosts)

/-- A start from WAKE with VLV present (R126): a power-on start stays one. -/
def execWake (s : State) : Out :=
  .next (if s.sec.released || s.por then s else s.wr R.SYS_RST_CAUSE 8)

/-- A write of SYS_RST_CTL.RESET = 1 with its KEY (R126). -/
def execWarmReset (m : Master) (key : Fin 256) (s : State) : Out :=
  .next (s.write m R.SYS_RST_CTL [((List.range 12).any s.armed, .state), (key.val != 0xC3, .key)] fun s => s.resetState 4 true)

/-- Flush mode ends with a reset (R76). -/
def execFlushRestart (s : State) : Out :=
  .next (if s.on R.PWR_STAT_ON_HOLDUP then s.resetState 2 true else s)

/-- The hold-up bank reaches its cut-off (R78, R82): step 4 of the flush has written this many records; the controller die loses its
supply, the driver dies keep theirs with the backup supply. -/
def execHoldupCutoff (written : Fin 7681) (s : State) : Out :=
  .next (if s.on R.PWR_STAT_ON_HOLDUP then
      let s := if s.rcd.step4 then s.flushStep4 written else s
      s.resetState 1 (s.on R.PWR_STAT_BACKUP_OK)
    else s)

/-- The ROM stage completes (R474, R475, R497, R535), with a valid copy of the committed configuration or none. -/
def execRomStageDone (cfgValid : Bool) (s : State) : Out :=
  .next (if !s.sec.released || s.sec.romDone || s.fld R.SEC_BOOT_STAGE != 0 then s else s.romStage cfgValid)

/-- Early service is ready (R476, R477). -/
def execEarlyServiceReady (s : State) : Out :=
  .next (if s.sec.romDone && s.fld R.SEC_BOOT_STAGE == 0 then
      let s := (s.setFld R.SEC_BOOT_TIME_EARLY_MS (min (s.now / 4000) 0xFFFF)).setStage 1
      let s := s.post 0x0170 locSec (s.fld R.SEC_EARLY0_MA_EN + 2 * s.fld R.SEC_EARLY0_MB_EN + 4 * s.fld R.SEC_EARLY0_PARK_EN)
      if s.on R.SEC_EARLY0_PARK_EN then (((s.setFld (R.ACT_CFG_EN 1) 1).setFld (R.ACT_CFG_PARK_EN 1) 1).actEval 1).actShow 1 else s
    else s)

/-- Verification of a slot ends (R483, R484); the outcomes of the two signatures are the world's. -/
def execHallmarkSlotVerified (slot : Fin 2) (ecdsa lms : Bool) (s : State) : Out :=
  .next (if s.fld R.SEC_BOOT_STAGE == 1 && s.slotTurn slot then s.trySlot slot ecdsa lms else s)

/-- The cores are released at the entries of the slot that passed, the preferred one first (R476, R480). -/
def execFullServiceStart (s : State) : Out :=
  let pref := s.fld R.SEC_BOOT_PREF
  let slot := if s.slotPassed pref then pref else 1 - pref
  .next (if s.fld R.SEC_BOOT_STAGE == 1 && s.slotPassed slot then s.fullService slot else s)

/-- EARLY_MAX seconds in EARLY and no slot has passed (R481). -/
def execEarlyMaxExpiry (s : State) : Out :=
  .next (if s.fld R.SEC_BOOT_STAGE == 1 && !s.slotPassed 0 && !s.slotPassed 1 then
      let s := s.post 0x4008 locSec (s.fld R.SEC_BOOT_RES_A + s.fld R.SEC_BOOT_RES_B * 16)
      let s := s.each [0, 3] fun s c => if s.cstate c = 2 then s.tripCtx c else s
      s.setStage 3
    else s)

/-- Speed of machine `i` above EARLY_SPD in early traction (R479): the ROM writes TRIP on its current context. -/
def execEarlyOverspeed (i : Fin 2) (s : State) : Out :=
  let v := s.rd (R.POS_RPM i)
  let lim := s.fld R.SEC_EARLY3_EARLY_SPD
  .next (if s.fld R.SEC_BOOT_STAGE == 1 && s.cstate (3 * i) == 2 && f32AbsGe v lim 1 && f32Mag v != lim * f32One then s.tripCtx (3 * i) else s)

/-- No demand frame for DEM_TO ms (R478): the ROM on TB commits a demand of 0 to the machine's torque context. -/
def execEarlyDemandTimeout (i : Fin 2) (s : State) : Out :=
  let c := 1 + 3 * i.val
  .next (if s.fld R.SEC_BOOT_STAGE == 1 then (s.mbxWrite (.core .tb) c 0 0).mbxCommit c (s.fld (R.LPX_CFG_EPOCH c)) else s)

end Sys2Proof.Machine
end

