-- ==== Sys2Proof/Machine/Cadence.lean ====
section
/-!
DEFINITION. The Cadence tick (chapter 1): admission, the tick boundary with its state changes, and the reports of the CAD page.
-/
namespace Sys2Proof.Machine

namespace State

def updCad (s : State) (f : Cad → Cad) : State := { s with cad := f s.cad }

/-! ### Admission (R26–R33) -/

/-- A context of the load, by its staged fields (R30): occupancy and duty prefix are those of its program. -/
structure AdmCtx where
  ctx : Nat
  lane : Nat
  crit : Bool
  grp : Nat
  div : Nat
  phase : Nat
  len : Nat
  occ : Nat
  pre : Nat

/-- The contexts of the load as the check completes (R30), ascending. -/
def admLoad (s : State) : List AdmCtx :=
  ((List.range 160).filter fun c => !s.resting c || s.fld (R.LPX_STATE_REQ c) == 1).map fun c =>
    let o := s.progOcc (s.fld (R.LPX_PROG_START c)) (s.fld (R.LPX_PROG_LEN c))
    { ctx := c, lane := s.fld (R.LPX_CFG_LANE c), crit := s.on (R.LPX_CFG_TRIG c), grp := s.fld (R.LPX_CFG_TGRP c), div := s.fld (R.LPX_RATE_DIV c), phase := s.fld (R.LPX_RATE_PHASE c), len := s.fld (R.LPX_PROG_LEN c), occ := o.1, pre := o.2 }

/-- The shortest trigger interval that the staged fields of a group give, none without windows (R176, R179, R215). -/
def trigInterval (s : State) (g : Nat) : Option Nat :=
  let m := s.fld (R.PG_CAR_WMODE g)
  let p := s.fld (R.PG_PRD_PRD g)
  let p := if s.fld (R.PG_CAR_CMODE g) = 0 then p / 2 * 2 else p
  if m = 0 then none else some (80 * ((if m = 3 then p / 2 else p) / 32 / 80))

/-- A refusal (R32, R33): reason, lane, context, residue. -/
structure Deny where
  reason : Nat
  lane : Nat := 0
  ctx : Nat := 0xFF
  residue : Nat := 0

/-- The hyperperiod of the tick contexts of a load (R30). -/
def admHyper (l : List AdmCtx) : Nat := (l.filter (!·.crit)).foldl (fun h x => Nat.lcm h x.div) 1

/-- The load of a tick residue: the total, and the context whose addition first takes it over the limit (R30, R32). -/
def residueLoad (limit k : Nat) (start : Nat × Option Nat) (l : List AdmCtx) : Nat × Option Nat :=
  l.foldl (fun a x =>
    if (k + 64 * x.div - x.phase) % x.div = 0 then
      let n := a.1 + x.occ + 6
      (n, if a.2.isNone && limit < n then some x.ctx else a.2)
    else a) start

/-- The check of one lane: a refusal, or LOAD_WC, LAT_WC and CRIT as CAD_LANE_WC shows them (R30, R32, R36). -/
def laneCheck (s : State) (period h : Nat) (load : List AdmCtx) (l : Nat) : Except Deny Nat :=
  let mine := load.filter (·.lane == l)
  let limit := 9 * period / 10
  let ticks := mine.filter (!·.crit)
  let rest (crit : Option AdmCtx) (critLoad : Nat) : Except Deny Nat :=
    let start := (critLoad, crit.bind fun c => if limit < critLoad then some c.ctx else none)
    let ks := if ticks.isEmpty then [0] else List.range h
    let all := ks.map fun k => (k, residueLoad limit k start ticks)
    match all.find? fun e => limit < e.2.1 with
    | some e => .error { reason := 1, lane := l, ctx := e.2.2.getD 0xFF, residue := e.1 }
    | none => .ok (all.foldl (fun m e => max m e.2.1) 0 + (crit.elim 0 fun c => (100 + c.pre) * 2 ^ 16 + 2 ^ 25))
  match mine.filter (·.crit) with
  | [] => rest none 0
  | [c] =>
    match s.trigInterval c.grp with
    | none => .error { reason := 9, lane := l, ctx := c.ctx }
    | some t =>
      let run := c.occ + 6 + 11
      if 160 < c.len then .error { reason := 3, lane := l, ctx := c.ctx }
      else if 180 < c.pre then .error { reason := 4, lane := l, ctx := c.ctx }
      else if t < run then .error { reason := 5, lane := l, ctx := c.ctx }
      else rest (some c) ((period / t + 1) * run)
  | _ :: c :: _ => .error { reason := 2, lane := l, ctx := c.ctx }

/-- The tests before the lanes, in order (R17, R30). -/
def admFirst (s : State) (load : List AdmCtx) : Option Deny :=
  let h := admHyper load
  if s.fld R.CAD_PERIOD_NEW_PERIOD ≠ s.fld R.CAD_PERIOD_ACT_PERIOD ∧ s.anyActive then some { reason := 8 }
  else if 4096 < h then some { reason := 6 }
  else (load.find? fun x => !x.crit && x.div ≤ x.phase).map fun x => { reason := 7, lane := x.lane, ctx := x.ctx }

/-- The whole check: a refusal, or the four lanes' words. -/
def admCheck (s : State) (load : List AdmCtx) : Except Deny (List Nat) :=
  match s.admFirst load with
  | some d => .error d
  | none => [0, 1, 2, 3].mapM fun l => s.laneCheck (s.fld R.CAD_PERIOD_NEW_PERIOD) (admHyper load) load l

/-- The check ends (R28, R32): result, reason and place at fault; the results of an admitting check wait for their boundary. -/
def admDone (s : State) : State :=
  let load := s.admLoad
  let s := s.engineReads fun k => k < tabBase && load.any fun x =>
    let b := progBase + 8 * s.fld (R.LPX_PROG_START x.ctx)
    b ≤ k && k < b + 8 * x.len
  let r := s.admCheck load
  let stat (result : Nat) (d : Deny) : Word := BitVec.ofNat 32 (result * 2 + d.reason * 2 ^ 4 + d.lane * 2 ^ 8 + d.ctx * 2 ^ 12 + d.residue * 2 ^ 20)
  let armed := match r with
    | .error d => d.reason == 8
    | .ok _ => false
  let s := if armed then s else s.setFld R.CAD_ADM_HYPER_H (min (admHyper load) 0x1FFF)
  let s := (s.setFld R.CAD_ADM_CTL_REQ 0).evt .cad 0 E.CAD_ADM_DONE
  match r with
  | .error d => (s.wr R.CAD_ADM_STAT (stat 2 d)).updCad fun c => { c with checking := false, frozenAt := some s.now }
  | .ok ws =>
    let wc := ws.zipIdx.foldl (fun m e => Store.write (fun _ => 0) m e.2 (BitVec.ofNat 32 e.1)) []
    let occ := (List.range 160).foldl (fun m c =>
      let o := s.progOcc (s.fld (R.LPX_PROG_START c)) (s.fld (R.LPX_PROG_LEN c))
      Store.write (fun _ => 0) m c (o.1 % 2 ^ 16 + o.2 % 2 ^ 16 * 2 ^ 16)) []
    (s.wr R.CAD_ADM_STAT (stat 1 { reason := 0 })).updCad fun c => { c with checking := false, awaitApply := true, wc := wc, occ := occ }

/-! ### Applying a configuration (R28, R53, R54) -/

/-- A critical run of a context is in progress (R138, R141). -/
def critRunning (s : State) (c : Nat) : Bool := (List.range 4).any fun l => (s.laneRuns l).any fun r => r.crit && r.ctx == c

/-- The scratch words become +0.0 (R39, R137, R140). -/
def clearScratch (s : State) (c : Nat) : State :=
  (s.updCtx c fun x => { x with words := Store.removeIf (fun o => 0x30 ≤ o) x.words }).clearErr
    fun k => wordKey c 0x30 ≤ k && k < wordKey (c + 1) 0

/-- The PIC instructions of a context's live program (R137). -/
def picsOf (s : State) (c : Nat) : List Nat :=
  (List.range (s.liveFld (R.LPX_PROG_LEN c))).filter fun i => (s.insAt (s.liveFld (R.LPX_PROG_START c) + i)).op == 0x36

/-- A change of state at a boundary, with what entering the state does (R134, R137, R141, R154, R161). -/
def ctxEnter (s : State) (c new : Nat) : State :=
  let old := s.cstate c
  let carry := s.critRunning c
  let s := (s.ctxMove c new).when carry fun s => s.setFld (R.LPX_STATE_CARRY c) 1
  if new = 1 then
    let s := s.updCtx c fun x => { x with first := true }
    if old = 0 ∨ old = 4 then
      let s := (s.clearScratch c).updCtx c fun x => { x with dropPend := false, tripPend := false, numPend := false }
      (s.setFld (R.LPX_FE_TICKS_FE_CNT c) 0).setFld (R.LPX_CNT_DROP_RUN c) 0
    else s
  else if new = 2 then
    let s := s.setFld (R.LPX_FE_TICKS_FE_CNT c) 0
    s.updCtx c fun x => { x with picMarks := s.picsOf c }
  else s

/-- One context's staged fields become live (R28): a reassignment or first assignment increments its EPOCH, and a requested OPEN is
entered from IDLE and FAULT. -/
def applyCtx (s : State) (c : Nat) : State :=
  let opens := s.resting c && s.fld (R.LPX_STATE_REQ c) == 1
  let moved := [R.LPX_CFG_LANE c, R.LPX_CFG_TRIG c, R.LPX_CFG_TGRP c, R.LPX_CFG_OWNER c, R.LPX_PROG_START c, R.LPX_PROG_LEN c].any fun f => s.fld f != s.liveFld f
  let e := s.fld (R.LPX_CFG_EPOCH c)
  let s := if (e = 0 ∧ opens) ∨ (e ≠ 0 ∧ moved) then s.setFld (R.LPX_CFG_EPOCH c) (epochNext e) else s
  let t := if s.on (R.LPX_CFG_TRIG c) && (!s.resting c || opens) then s.trigInterval (s.fld (R.LPX_CFG_TGRP c)) else none
  let s := [R.LPX_CFG c, R.LPX_PROG c, R.LPX_RATE c].foldl (fun s a => s.wrLive a (s.rd a)) s
  let s := s.setFld (R.LPX_STATE_CFG_PEND c) 0
  let s := match t with
    | some t => s.updCtx c fun x => { x with minT := t }
    | none => s
  let s := s.wr (R.LPX_OCC c) (BitVec.ofNat 32 (s.cad.occ.read (fun _ => 0) c))
  if opens then s.ctxEnter c 1 else s

/-- A group's carrier starts or stops (R176, R215). -/
def carrierSwitch (s : State) (g : Nat) : State :=
  let on := s.liveFld (R.PG_CAR_CAR_EN g)
  if s.fld (R.PG_STAT_CAR_RUN g) = on then s
  else
    let s := s.setFld (R.PG_STAT_CAR_RUN g) on
    let s := s.updSrc g fun w => { w with started := false, n := 0, closePend := false, pre := false, skip := false, sched := [] }
    let s := s.each (s.followers g) clearFast
    if on = 1 then (s.updGrp g fun r => { r with phase := 0, prd := s.liveFld (R.PG_PRD_PRD g), start := none }).showCnt g else s

/-- One group's staged fields become live (R28, R213). -/
def applyGroup (s : State) (g : Nat) : State :=
  let slots := [R.PG_SLOT0 g, R.PG_SLOT1 g]
  let moved := (R.PG_SRC g :: slots).any fun a => s.rd a != s.rdLive a
  let s := (slots ++ [R.PG_CAR g, R.PG_PRD g, R.PG_SRC g, R.PG_SYNC g]).foldl (fun s a => s.wrLive a (s.rd a)) s
  let f := hdr .pg g 0x2C 0 8
  let e := s.fld f
  let s := if (e = 0 ∧ !(s.slots g).isEmpty) ∨ (e ≠ 0 ∧ moved) then s.setFld f (epochNext e) else s
  (s.setFld (R.PG_STAT_CFG_PEND g) 0).carrierSwitch g

/-- An admitted configuration applies (R28, R32, R56). -/
def applyConfig (s : State) : State :=
  if s.cad.awaitApply then
    let p := s.fld R.CAD_PERIOD_NEW_PERIOD
    let s := if s.fld R.CAD_PERIOD_ACT_PERIOD = p then s else (s.setFld R.CAD_PERIOD_ACT_PERIOD p).evt .cad 0 E.CAD_PERIOD_APPLIED
    let s := s.each (List.range 160) applyCtx
    let s := s.each (List.range 12) applyGroup
    let s := s.each (List.range 4) fun s l => s.wr (R.CAD_LANE_WC l) (s.cad.wc.read (fun _ => 0) l)
    (s.setFld R.CAD_ADM_STAT_APPLIED 1).updCad fun c => { c with awaitApply := false, wc := [], occ := [], frozenAt := some s.now }
  else s

/-! ### The boundary -/

/-- The tick runs of a lane that have not completed are late, and so is every due context that never started (R37, R38, R162); reissues that
lie 1024 ticks back no longer count (R130). -/
def boundaryLate (s : State) (l : Nat) : State :=
  let s := s.setFld (R.LPE_LANE_MEAS_LOAD_MAX l) (max (s.fld (R.LPE_LANE_MEAS_LOAD_MAX l)) (min (s.lane l).busy 0x1FFF))
  let s := ((s.laneRuns l).filter (!·.crit)).foldl (fun s r => s.abortLate l r) s
  let s := s.each ((s.lane l).due.filter fun c => !s.resting c) fun s c => (s.late c).updCtx c fun x => { x with aborted := true }
  let t := s.fld R.CAD_TICK_COUNT
  (s.updLane l fun L => { L with due := [], busy := 0, reissues := L.reissues.filter fun u => (t + 2 ^ 32 - u) % 2 ^ 32 < 1024 }).showLane l

/-- The J4 limit words posted since the last boundary come into force, or are discarded as stale (R50, R52). -/
def latchJ4 (s : State) (c : Nat) : State :=
  let l := (s.ctx c).j4Posts
  if l.isEmpty then s
  else
    let e := s.fld (R.LPX_CFG_EPOCH c)
    let s := s.updCtx c fun x => { x with j4Posts := [] }
    l.foldl (fun s p =>
      if p.epoch = e ∧ e ≠ 0 then s.updCtx c fun x => { x with j4 := x.j4.write (fun _ => 0x7F7FFFFF) p.lim p.word }
      else (s.stale .lpx (c / 16)).drtStale c p) s

/-- |FE_IN| is above its limit; a NaN pattern counts as above (R161). -/
def feAbove (s : State) (c : Nat) : Bool := f32Mag (s.rd (R.LPX_FE_LIMIT c)) < f32Mag (s.ctx c).fe

/-- FAULT by DROP_MAX (R40). -/
def dropFault (s : State) (c : Nat) : State :=
  ((s.flt .cad 0 F.CAD_CTX_FAULT).post 0x3010 (s.locCtx c) c).raise 1 (s.sourcedBy c)

/-- A cause of UNIT_FAULT with its own event: 2 FE, 3 NUMERIC (R136, R143, R161). -/
def unitCause (s : State) (c code : Nat) : State :=
  ((s.flt .lpx (c / 16) (F.LPX_UNIT_FAULT + c % 16)).post code (s.locCtx c) c).raise 2 (s.sourcedBy c)

/-- The causes that put a context into FAULT at a boundary, each with its own event and routing; FAULT_CAUSE by the precedence TRIP,
NUMERIC, FE, DROP_MAX (R136, R151). -/
def ctxCauses (s : State) (c : Nat) (trip num fe drop : Bool) : State :=
  if !(trip || num || fe || drop) then s
  else
    let cause := if trip then 7 else if num then 3 else if fe then 2 else 1
    let carry := s.critRunning c
    let s := (s.ctxFault c cause).when carry fun s => s.setFld (R.LPX_STATE_CARRY c) 1
    let s := s.when trip fun s => s.flt .lpx (c / 16) (F.LPX_UNIT_FAULT + c % 16)
    let s := s.when num fun s => s.unitCause c 0x3012
    let s := s.when fe fun s => s.unitCause c 0x3011
    s.when drop fun s => s.dropFault c

/-- A group whose source is the context is in a safe state (R135). -/
def sourceSafe (s : State) (c : Nat) : Bool := (s.sourced c).any fun g => s.gstate g == 3

/-- The requested change that acts at any boundary (R134, R135). -/
def requested (s : State) (c : Nat) : Option Nat :=
  let st := s.cstate c
  let q := s.fld (R.LPX_STATE_REQ c)
  if q = st ∨ 4 ≤ q ∨ (q = 2 ∧ s.sourceSafe c) ∨ (q = 1 ∧ s.resting c) then none else some q

/-- The boundary slot's work on one context (R39, R134–R138, R152, R161). -/
def ctxBoundary (s : State) (c : Nat) : State :=
  let x := s.ctx c
  let s := if x.aborted then s.clearScratch c else s
  let sel (k : Nat) : Word := s.rd (R.LPX_XSEL0 c + 4 * k)
  let s := if x.aborted || x.barred || x.tripPend || x.numPend || x.dropPend || x.xsel.read (fun _ => 0) 0 != sel 0 || x.xsel.read (fun _ => 0) 1 != sel 1 then
      s.updCtx c fun x => { x with aborted := false, barred := false, tripPend := false, numPend := false, dropPend := false, xsel := (x.xsel.write (fun _ => 0) 0 (sel 0)).write (fun _ => 0) 1 (sel 1) }
    else s
  let st := s.cstate c
  let run := st = 1 ∨ st = 2 ∨ st = 3
  let above := s.feAbove c
  let ticks := s.fld (R.LPX_FE_TICKS_FE_TICKS c)
  let cnt := if st = 2 ∧ above ∧ ticks ≠ 0 then min (s.fld (R.LPX_FE_TICKS_FE_CNT c) + 1) 0xFFFF else 0
  let s := (s.setFld (R.LPX_STAT_FE_OVER c) (b2n above)).setFld (R.LPX_FE_TICKS_FE_CNT c) cnt
  let trip := run && x.tripPend
  let num := run && x.numPend && s.on (R.LPX_CTL_NUM_TRIP c)
  let fe := st = 2 && ticks != 0 && ticks ≤ cnt
  let drop := run && x.dropPend
  if trip || num || fe || drop then s.ctxCauses c trip num fe drop
  else if st = 2 && s.sourceSafe c then
    ((s.setFld (R.LPX_STATE_REQ c) 3).setFld (R.LPX_STAT_FORCED_HELD c) 1).ctxEnter c 3
  else match s.requested c with
    | some q => s.ctxEnter c q
    | none =>
      if st = 3 && s.fld (R.LPX_STATE_REQ c) = 2 then (s.setFld (R.LPX_STATE_REQ c) 3).setFld (R.LPX_STATE_REQ_PEND c) 0 else s

/-- The hyperperiod of the running tick contexts (R18). -/
def hyper (s : State) : Nat :=
  ((List.range 160).filter fun c => !s.resting c && s.liveFld (R.LPX_CFG_TRIG c) == 0).foldl (fun h c => Nat.lcm h (s.liveFld (R.LPX_RATE_DIV c))) 1

/-- The tick contexts of a lane due in the tick that begins (R19, R162). -/
def dueNow (s : State) (l : Nat) : List Nat :=
  (s.laneCtxs l).filter fun c => !s.resting c && s.liveFld (R.LPX_CFG_TRIG c) == 0
    && (s.fld R.CAD_POS_T_CFG + 64 * s.liveFld (R.LPX_RATE_DIV c) - s.liveFld (R.LPX_RATE_PHASE c)) % s.liveFld (R.LPX_RATE_DIV c) == 0

/-- What the supervision blocks do on the boundary clock, after the mailboxes have swapped. -/
def boundaryBlocks (s : State) : State :=
  let s := (s.chgTick.auxTick).soReq
  let s := (s.each (List.range 4) posTick).serialTrigger 15
  let s := s.each [0, 1] keMark
  let s := s.each (List.range 160) fun s c => if (s.ctx c).ran then s.updCtx c fun x => { x with ran := false } else s
  let s := (s.each [0, 1, 2] actTick).updDrl fun d => { d with tick := true }
  s.histSample

/-- A tick boundary (R14, R28, R39, R43, R50, R117, R148, R162). -/
def tickBoundary (s : State) : State :=
  let s := (s.setFld R.CAD_TICK_COUNT (s.fld R.CAD_TICK_COUNT + 1)).setFld R.CAD_POS_CLK_IN_TICK 0
  let s := s.each (List.range 4) boundaryLate
  let fresh := s.cad.awaitApply
  let s := s.applyConfig.chgApply
  let s := s.updEng fun x => { x with const := (List.range 31).foldl (fun m k => Store.write (fun _ => 0) m k (s.rd (R.LPE_CONST k))) [] }
  let s := s.each (List.range 160) latchJ4
  let s := s.each (List.range 160) mbxSwap
  let s := s.each (List.range 160) ctxBoundary
  let s := s.setFld R.CAD_POS_T_CFG (if fresh then 0 else (s.fld R.CAD_POS_T_CFG + 1) % s.hyper)
  let s := s.each (List.range 4) fun s l => s.updLane l fun L => { L with due := if s.laneFaulted l then [] else s.dueNow l }
  s.boundaryBlocks

end State

/-- A Cadence tick boundary (R14); in flush mode only position feedback is left to meet it (R75). -/
def execTickBoundary (s : State) : Out := .next (if s.shed then s.each (List.range 4) State.posTick else s.tickBoundary)

/-- The two tick counters disagree (R15): the cause stays until reset. -/
def execTickMismatch (s : State) : Out :=
  .next (
    let was := s.cad.tickMismatch
    let s := (s.updCad fun c => { c with tickMismatch := true }).flt .cad 0 F.CAD_TICK_MISMATCH
    if was then s else (s.postOpen 0x3001 (locSub 5)).raise 0 State.allGroups)

/-- A write of CAD_ADM_CTL.REQ = 1 (R27, R29, R32). -/
def execAdmissionRequest (m : Master) (s : State) : Out :=
  .next (s.write m R.CAD_ADM_CTL [(s.frozen, .busy)] fun s =>
    let s := (s.wr R.CAD_ADM_STAT 0xFF001).setFld R.CAD_ADM_HYPER_H 1
    (s.setFld R.CAD_ADM_CTL_REQ 1).updCad fun c => { c with checking := true })

/-- The admission check completes (R28, R30, R32). -/
def execAdmissionCheckDone (s : State) : Out := .next (if s.cad.checking then s.admDone else s)

/-- The consecutive aborted runs of a context have reached DROP_MAX (R40): FAULT, where the boundary has not made it yet. -/
def execContextDropFault (c : Fin 160) (s : State) : Out :=
  .next (if !s.resting c && (s.ctx c).dropPend then
      (s.updCtx c fun x => { x with dropPend := false }).ctxCauses c false false false true
    else s)

/-- J3 has room after losses (R49): event 0x1011 with their number. -/
def execJ3LostReport (s : State) : Out :=
  .next (if s.cad.lostSince ≠ 0 ∧ s.j3.length < j3Depth then
      let n := s.cad.lostSince
      (s.updCad fun c => { c with lostSince := 0 }).post 0x1011 (loc 0 0 7 0x03 0x3F) n
    else s)

/-- FE_CNT of a CLOSED context reaches FE_TICKS (R161): FAULT with cause FE, where the boundary has not made it yet. -/
def execFollowingErrorTrip (c : Fin 160) (s : State) : Out :=
  let n := s.fld (R.LPX_FE_TICKS_FE_TICKS c)
  .next (if s.cstate c == 2 && n != 0 && s.feAbove c && n ≤ s.fld (R.LPX_FE_TICKS_FE_CNT c) + 1 then
      ((s.setFld (R.LPX_STAT_FE_OVER c) 1).setFld (R.LPX_FE_TICKS_FE_CNT c) n).ctxCauses c false false true false
    else s)

end Sys2Proof.Machine
end

