-- ==== Sys2Proof/Machine/Joins.lean ====
section
/-!
DEFINITION. Events in which several blocks take part: the carrier period start with arming and disarming, the delivery of a window, the end
of a housekeeping slot, and a die's status frame.
-/
namespace Sys2Proof.Machine

namespace State

/-- A window of a source is delivered (R179): TRC, CHG and AUX look at it, the group's serial transactions and critical contexts are
triggered unless the window closed LONG. -/
def windowDelivered (s : State) (g : Nat) (w : Closed) (ecc : Ecc) : State :=
  let s := s.each ([0, 1].filter fun n => s.fld (R.TRC_CFG_GRP n) == g) fun s n => s.trcWindow n w
  let s := if g = 2 then s.gridWindow else s
  let s := s.auxWindow w
  if g = 15 ∨ w.long then s
  else
    let s := s.serialTrigger g
    (s.strikeEngine ecc).trigger g

/-- The controller-die temperature of R488: the highest of HK17–HK22, in units of 1/65520 °C. -/
def hotDie (s : State) : Int :=
  ((List.range 6).map fun i => (s.fld (R.HKA_IN_CODE (17 + i)) : Int) * 400 - 200 * 65520).foldl max (-200 * 65520)

/-- The temperature windows of R488. -/
def tempWindows (s : State) : State :=
  let t := s.hotDie
  (s.setFld R.SEC_IMG_STAT_IMG_TEMP_OK (b2n (-25 * 65520 ≤ t && t ≤ 105 * 65520))).setFld R.SEC_IMG_STAT_OTP_TEMP_OK (b2n (0 ≤ t && t ≤ 85 * 65520))

/-- What PWR shows of an input just converted (chapter 2): VLV, the hold-up bank, the DC link. -/
def pwrMeas (s : State) (n : Nat) : State :=
  let c : Int := s.fld (R.HKA_IN_CODE n)
  if n = 0 then s.setNear R.PWR_VLV_MV 0 0xFFFF (Q.mk' (c * 45000) 65520)
  else if n = 1 then s.setNear R.PWR_HOLDUP_VOLT 0 0xFF (Q.mk' (c * 200) 65520)
  else if n = 2 then s.setNear R.PWR_VDC_VOLT 0 0x7FF (Q.mk' (c * 1600) 65520)
  else s

/-- The end of a housekeeping round (R188, R330, R532). -/
def hkRoundEnd (s : State) : State :=
  let s := (s.updSens fun x => { x with hkLate := false }).setFld R.HKA_STAT_BUSY 0
  let s := s.setFld R.HKA_STAT_ROUNDS (s.fld R.HKA_STAT_ROUNDS + 1)
  (s.evt .hka 0 E.HKA_ROUND_DONE).chgRound.tmpRound

end State

/-- A group's carrier period start (R213, R215, R217), with the groups it resynchronises and the blocks that count periods. -/
def execCarrierPeriodStart (g : Fin 12) (s : State) : Out :=
  .next (if s.on (R.PG_STAT_CAR_RUN g) then
      let s := s.periodStart 11 g
      s.each ((List.range 12).filter s.atPeriodStart) State.convStart
    else s)

/-- The first carrier period start after the precharge makes an ARMING group ARMED (R228). -/
def execArmingComplete (g : Fin 12) (s : State) : Out :=
  .next (if s.gstate g = 1 ∧ (s.grp g).charged ∧ s.atPeriodStart g then
      (((s.armComplete g).trcArmed g).each [0, 1, 2] State.actEval)
    else s)

/-- A pending DISARM takes effect at a carrier period start (R229). -/
def execDisarmTakeEffect (g : Fin 12) (s : State) : Out :=
  .next (if s.gstate g = 2 ∧ (s.grp g).disarmPend ∧ s.atPeriodStart g then s.disarmed g 0 else s)

/-- A window's averages reach their ports, 16 clocks after its last conversion (R179); `ecc` is what the dispatch of a critical context finds. -/
def execWindowAverageDelivery (src : Fin 16) (ecc : Ecc) (s : State) : Out :=
  .next (match s.deliverWindow src with
    | (s, some w) => s.windowDelivered src w ecc
    | (s, none) => s)

/-- A conversion slot of both housekeeping converters ends (R188–R190) with their codes; CP is read at its held plateaus (R329). -/
def execHkSlotEnd (code0 code1 : Fin 65536) (s : State) : Out :=
  .next (if s.on R.HKA_STAT_BUSY && !s.shed then
      let s := s.cpSettle
      let n := s.sens.hkSlot
      let c0 := if n = 14 then s.conv.chg.cpHigh else if n = 15 then s.conv.chg.cpLow else code0.val
      let s := ((s.hkStore n c0).pwrMeas n).hkStore (32 + n) code1
      let s := s.tempWindows.updSens fun x => { x with hkSlot := n + 1 }
      if n = 31 then s.hkRoundEnd else s
    else s)

/-- The controller receives a status frame of the die of link `k` (R236, R248): a telemetry value by its selector, and measured values. -/
def execStatusFrame (k : Fin 15) (sel : Fin 3) (v : Fin 4096) (meas : List Nat) (s : State) : Out :=
  .next (if s.fld (R.NL_STAT_STATE k) = 2 ∨ s.fld (R.NL_STAT_STATE k) = 4 then s.statusFrame k sel v meas else s)

/-- A conversion ends on every channel (R171, R172, R175, R177); `codes` are the inputs' ideal codes. A window that waited for it
closes, and one that reaches 8191 conversions closes LONG at the next (R180). A channel in resolver mode takes its sample pair (R277). In
flush mode the converters serve position feedback alone (R75). -/
def execConversionEnd (codes : List Int) (s : State) : Out :=
  .next <|
    let s := s.updSens fun x => { x with ended := true }
    if s.shed then (s.each (List.range 32) fun s c => s.convert c (codes.getD c 0)).each (List.range 4) State.resolverSample
    else
    let s := s.each State.sources fun s g => if 8191 ≤ (s.winSrc g).n then s.closeWindow g true else s
    let s := s.each (List.range 32) fun s c => s.convert c (codes.getD c 0)
    let s := s.each State.sources fun s g => if s.accumulates g then s.updSrc g fun w => { w with n := if w.skip then w.n else w.n + 1, skip := false } else s
    let s := s.each (List.range 4) State.resolverSample
    s.each State.sources fun s g => if (s.winSrc g).closePend then s.closeWindow g false else s

end Sys2Proof.Machine
end

