-- ==== Sys2Proof/Machine/Bus.lean ====
section
/-!
DEFINITION. The shape of a register write (R4, R12, R112, R115, R122): what a word written to a register's row leaves in it, the rules a
page adds, and the operations a write starts. The pages' own rules follow in BusControl, BusDrive and BusPlanes.
-/
namespace Sys2Proof.Machine

/-- A write on its way to a block register: who sends it, the page type and instance, the bus address, the unit of the register's row, the
word. -/
structure BusWrite where
  m : Master
  k : PageKind
  n : Nat
  a : Nat
  i : Nat
  v : Word
  deriving DecidableEq, Repr

namespace BusWrite

/-- The write goes to this register. -/
def hits (w : BusWrite) (r : Nat) : Bool := w.a == r
/-- The value it carries for a field of that register. -/
def get (w : BusWrite) (f : Fld) : Nat := getBits w.v f.lo f.w
/-- It carries a 1 for a one-bit field. -/
def sets (w : BusWrite) (f : Fld) : Bool := w.a == f.addr && w.get f == 1
/-- It would change a field. -/
def changes (w : BusWrite) (s : State) (f : Fld) : Bool := w.a == f.addr && w.get f != s.fld f
/-- A value outside a field's range (R122, RANGE). -/
def range (w : BusWrite) (f : Fld) (lo hi : Nat) : Bool × ErrKind := (w.a == f.addr && (w.get f < lo || hi < w.get f), .range)
/-- Two's complement value outside a range. -/
def rangeI (w : BusWrite) (f : Fld) (lo hi : Int) : Bool × ErrKind :=
  (w.a == f.addr && (signed f.w (w.get f) < lo || hi < signed f.w (w.get f)), .range)

end BusWrite

/-- A binary32 word that is neither infinity nor NaN; one that is not negative besides; one above zero besides. -/
def f32Fin (v : Word) : Bool := getBits v 23 8 != 0xFF
def f32NonNeg (v : Word) : Bool := f32Fin v && (getBits v 31 1 == 0 || v == 0x80000000)
def f32Pos (v : Word) : Bool := f32Fin v && getBits v 31 1 == 0 && v != 0

namespace BusWrite

/-- The register's word must be a finite binary32 number, a non-negative one, a positive one. -/
def fin (w : BusWrite) (r : Nat) : Bool × ErrKind := (w.a == r && !f32Fin w.v, .range)
def nonNeg (w : BusWrite) (r : Nat) : Bool × ErrKind := (w.a == r && !f32NonNeg w.v, .range)
def pos (w : BusWrite) (r : Nat) : Bool × ErrKind := (w.a == r && !f32Pos w.v, .range)

end BusWrite

/-- The word a row holds after a write: RW and RWL fields take the written bits, W1C fields clear where 1 is written; every other field
keeps its value. An acknowledging write of the agent acts on the W1C fields alone (R112). -/
def RegRow.written (r : RegRow) (ack : Bool) (old v : Word) : Word :=
  r.fields.foldl (fun x f =>
    match f.acc with
    | .rw | .rwl => if ack then x else setBits x f.lo f.w (getBits v f.lo f.w)
    | .w1c => setBits x f.lo f.w (getBits (x &&& ~~~v) f.lo f.w)
    | _ => x) old

/-- The error kind that a response names. -/
def errKindOf (code : Nat) : Option ErrKind :=
  [ErrKind.owner, .width, .unmapped, .range, .locked, .state, .busy, .timeout, .key, .prot, .ecc].find? fun e => e.code == code

namespace State

/-- The next state that a command answers. -/
def run (s : State) (f : State → Out) : State :=
  match f s with
  | .next t => t
  | _ => s

/-- The register's word written by its row (R12, R112). -/
def storeRow (s : State) (r : RegRow) (ack : Bool) (a : Nat) (v : Word) : State := s.wr a (r.written ack (s.rd a) v)

/-- A write would change a committed RWL field (R115). -/
def rwlHit (s : State) (r : RegRow) (k : PageKind) (n a : Nat) (v : Word) : Bool :=
  s.on (hdr k n 0x0C 2 1) && r.fields.any fun f => f.acc = .rwl && getBits v f.lo f.w != getBits (s.rd a) f.lo f.w

/-- The row has an RW2 field at this address (R116); credential slot 0 is read only (R508). -/
def isRw2 (a : Nat) : Bool := rw2Mask a != 0

/-- The page takes staged writes from this sender: MC, in a session that is not yet sealed (R116, R499). -/
def stagesFor (s : State) (m : Master) (k : PageKind) : Bool :=
  rights m = .mc && changePages.contains k && s.on (sessionFld k) && s.chgState == 1

/-- A write to the staged copy of a register (R116); PAGE_LOCK.STAGED shows whether any staged value differs. -/
def stage (s : State) (k : PageKind) (a : Nat) (v : Word) : State :=
  let mask := rw2Mask a
  let x := (s.stagedRd a &&& ~~~mask) ||| (v &&& mask)
  let s := { s with staged := Store.write s.rd s.staged a x }
  s.setFld (stagedFld k) (b2n ((rw2Regs k).any s.altered))

/-- A write of a block register by a party with full rights (R4, R122): the page's rules, then the stored word and what the write starts.
`act` gets the state before the write and the state that holds the new word; an operation that refuses makes the whole write an error. -/
def regWrite (s : State) (w : BusWrite) (r : RegRow) (errs : List (Bool × ErrKind)) (act : State → State → State) : State :=
  let errs := (s.rwlHit r w.k w.n w.a w.v, .locked) :: (isRw2 w.a && !s.stagesFor w.m w.k, .locked) :: errs
  match (errs.filter Prod.fst).map Prod.snd with
  | [] =>
    if s.remoteDown w.k w.n then s.accTimeout w.m true w.k w.n w.a
    else if isRw2 w.a then (s.stage w.k w.a w.v).okResp
    else
      let t := act s (s.storeRow r false w.a w.v).okResp
      match errKindOf t.resp.kind with
      | none => t
      | some e => s.errResp w.m true w.a e
  | l => s.errOneOf w.m true w.a l

end State
end Sys2Proof.Machine
end

