-- ==== Sys2Proof/Machine/BusControl.lean ====
section
/-!
DEFINITION. Writes to the register pages of the control plane: the Cadence tick, the loop engine, the sensing pages, the power groups with
their links, and the driver dies (chapters 1, 4–7).
-/
namespace Sys2Proof.Machine

namespace BusWrite

/-- The context of an LPX frame (R109). -/
def ctx (w : BusWrite) : Nat := (w.a - PageKind.lpx.base) / 0x100

/-! ### Cadence and loop engine -/

/-- The staged fields of R29. -/
def staged (w : BusWrite) : Bool :=
  let c := w.ctx
  w.hits R.CAD_PERIOD_NEW || (w.k = .lpx && (w.hits (R.LPX_CFG c) || w.hits (R.LPX_PROG c) || w.hits (R.LPX_RATE c)))
    || (w.k = .pg && [R.PG_SLOT0 w.n, R.PG_SLOT1 w.n, R.PG_CAR w.n, R.PG_PRD w.n, R.PG_SRC w.n, R.PG_SYNC w.n].contains w.a)

/-- CAD (R16, R29, R57). -/
def rulesCad (w : BusWrite) (_ : State) : List (Bool × ErrKind) := [w.range R.CAD_PERIOD_NEW_PERIOD 500 8000]

/-- LPE (R167). -/
def rulesLpe (w : BusWrite) (s : State) : List (Bool × ErrKind) :=
  [w.range R.LPE_CTL_RETRY_MAX 1 15, w.range R.LPE_VAL_CTL_LEN 1 4096, (w.hits R.LPE_VAL_CTL && s.on R.LPE_VAL_STAT_BUSY, .busy)]

/-- LPX (R40, R152, R161, R169). -/
def rulesLpx (w : BusWrite) (_ : State) : List (Bool × ErrKind) :=
  let c := w.ctx
  [w.range (R.LPX_CFG_TGRP c) 0 11, w.range (R.LPX_PROG_LEN c) 1 4096,
   (w.hits (R.LPX_PROG c) && 4096 < w.get (R.LPX_PROG_START c) + w.get (R.LPX_PROG_LEN c), .range),
   w.range (R.LPX_RATE_DIV c) 1 64, w.range (R.LPX_CTL_DROP_MAX c) 1 15, w.nonNeg (R.LPX_FE_LIMIT c),
   w.range (R.LPX_XSEL0_CTX_LO c) 0 159, w.range (R.LPX_XSEL0_CTX_HI c) 0 159,
   w.range (R.LPX_XSEL1_CTX_LO c) 0 159, w.range (R.LPX_XSEL1_CTX_HI c) 0 159]

/-! ### Sensing -/

/-- FAD (R176, R181, R203). -/
def rulesFad (w : BusWrite) (s : State) : List (Bool × ErrKind) :=
  let c := w.i
  let cfg := w.hits (R.FAD_CH_CFG c)
  let moves := w.changes s (R.FAD_CH_CFG_GRP c) || w.changes s (R.FAD_CH_CFG_EN c)
  [(cfg && 12 ≤ w.get (R.FAD_CH_CFG_GRP c) && w.get (R.FAD_CH_CFG_GRP c) ≤ 14, .range), w.fin (R.FAD_CH_GAIN c), w.fin (R.FAD_CH_OFS c),
   (cfg && moves && (s.armed (s.fld (R.FAD_CH_CFG_GRP c)) || s.armed (w.get (R.FAD_CH_CFG_GRP c))), .state)]

/-- A channel that is enabled, disabled or moved to another source begins its window anew (R180, R181). -/
def actFad (w : BusWrite) (s0 s : State) : State :=
  let c := w.i
  if w.hits (R.FAD_CH_CFG c) && (s0.fld (R.FAD_CH_CFG_EN c) != s.fld (R.FAD_CH_CFG_EN c) || s0.fld (R.FAD_CH_CFG_GRP c) != s.fld (R.FAD_CH_CFG_GRP c)) then
    s.clearFast c
  else s

/-- The span of the fall-back buffer is aligned to its size and inside one partition that the agent's DMA may write (R187). -/
def faqBaseOk (w : BusWrite) (s : State) : Bool :=
  let b := w.v.toNat
  let size := 8 * s.faqSlots
  let last := b + size - 1
  b % size = 0 && inSram b && inSram last && sramWriter s.faqDma b && sramWriter s.faqDma last

/-- FAQ (R187, R205). -/
def rulesFaq (w : BusWrite) (s : State) : List (Bool × ErrKind) :=
  [w.range R.FAQ_CTL_LEVEL 1 512, (w.sets R.FAQ_CTL_DMA_EN && s.fld (hdr .faq 0 0x08 3 2) == 0, .state),
   (w.hits R.FAQ_DMA_BASE && !w.faqBaseOk s, .range), w.range R.FAQ_DMA_SIZE_LOG2 9 15,
   ((w.hits R.FAQ_DMA_BASE || w.hits R.FAQ_DMA_SIZE) && s.on R.FAQ_CTL_DMA_EN, .state)]

/-- FAQ_CTL after its fields are stored: enabling the fall-back starts at slot 0 and takes entries again, DISCARD empties the queue (R186,
R187, R205). -/
def actFaq (w : BusWrite) (s0 s : State) : State :=
  let s := if w.sets R.FAQ_CTL_DMA_EN && !s0.on R.FAQ_CTL_DMA_EN then (s.setFld R.FAQ_DMA_WR_INDEX 0).updSens fun x => { x with faqDead := false } else s
  if w.sets R.FAQ_CTL_DISCARD then s.run (execFaqDiscard w.m) else s

/-- HKA (R188, R207). -/
def rulesHka (w : BusWrite) (_ : State) : List (Bool × ErrKind) :=
  [w.range R.HKA_ROUND_PERIOD 10 1000, w.range (R.HKA_NTC_NOM_RES w.i) 1 0xFFFF, w.range (R.HKA_NTC_BETA w.i) 1000 10000]

/-- The word a monitor's threshold register holds after the write: TH_HI belongs to the exchange word with TH_SRC = 1 (R209). -/
def monTh (w : BusWrite) (s : State) : Word :=
  if !w.hits (R.WMA_TH w.i) then s.rd (R.WMA_TH w.i)
  else if s.on (R.WMA_CFG_TH_SRC w.i) then setBits w.v 0 12 (s.fld (R.WMA_TH_TH_HI w.i)) else w.v

/-- Both comparators would be left enabled with TH_LO not below TH_HI (R192). -/
def monCrossed (w : BusWrite) (s : State) : Bool :=
  let k := w.i
  let cfg := if w.hits (R.WMA_CFG k) then w.v else s.rd (R.WMA_CFG k)
  let th := w.monTh s
  (w.hits (R.WMA_CFG k) || w.hits (R.WMA_TH k)) && getBits cfg 23 1 == 1 && getBits cfg 24 1 == 1
    && signed 12 (getBits th 0 12) ≤ signed 12 (getBits th 16 12)

/-- WMA (R192, R201, R209). -/
def rulesWma (w : BusWrite) (s : State) : List (Bool × ErrKind) :=
  let k := w.i
  let held := [R.WMA_CFG_EN k, R.WMA_CFG_SRC k, R.WMA_CFG_GRP k, R.WMA_CFG_HI_EN k, R.WMA_CFG_LO_EN k, R.WMA_CFG_J2_EN k, R.WMA_CFG_PT_EN k,
    R.WMA_CFG_TH_SRC k]
  let cfg := w.hits (R.WMA_CFG k)
  [(cfg && 12 ≤ w.get (R.WMA_CFG_GRP k) && w.get (R.WMA_CFG_GRP k) ≤ 14, .range), w.range (R.WMA_XSRC_CTX k) 0 159, (w.monCrossed s, .range),
   (cfg && held.any (w.changes s) && (s.armed (s.fld (R.WMA_CFG_GRP k)) || s.armed (w.get (R.WMA_CFG_GRP k))), .state)]

/-- A latch written with 1 stays set while its comparator is TRIPPED; pulse termination follows the latches (R118, R194). -/
def ackWma (w : BusWrite) (s0 s : State) : State :=
  let k := w.i
  (s.each [0, 1] fun s b =>
    let hi := b == 1
    if s0.on (State.monLatchFld k hi) && s.monOn k hi && s.monState k hi == 1 then s.setFld (State.monLatchFld k hi) 1 else s).showPt

/-- What a write to a monitor starts: an enabled comparator has no previous state (R193), and both self-check bits in one write start
the swap check, which leaves the tie-off check BUSY. -/
def actWma (w : BusWrite) (s0 s : State) : State :=
  let k := w.i
  let s := if w.hits (R.WMA_TH k) then s.setFld (R.WMA_TH_TH_HI k) (getBits (w.monTh s0) 0 12) else s
  let s := if w.hits (R.WMA_CFG k) && !s.on (R.WMA_CFG_TH_SRC k) then s.updMon k fun r => { r with th := none } else s
  let s := if w.sets (R.WMA_CFG_EN k) && !s0.on (R.WMA_CFG_EN k) then s.monUnresolve k else s
  let s := s.each [0, 1] fun s b =>
    let hi := b == 1
    if w.hits (R.WMA_CFG k) && w.get (State.monOnFld k hi) != s0.fld (State.monOnFld k hi) then
      s.setFld (if hi then R.WMA_STAT_HI_STATE k else R.WMA_STAT_LO_STATE k) (if s.on (State.monOnFld k hi) then 2 else 3) else s
  let s := w.ackWma s0 s
  if w.sets (R.WMA_CHK_SWAP k) then s.run (execMonitorSwapCheck w.m (Fin.ofNat 32 k))
  else if w.sets (R.WMA_CHK_TIE k) then s.run (execMonitorTieCheck w.m (Fin.ofNat 32 k)) else s

/-! ### Power groups and links -/

/-- The legs that a write to a slot register names (R211). -/
def slotLegs (w : BusWrite) : List Nat := [getBits w.v 0 6, getBits w.v 8 6, getBits w.v 16 6]
def slotUses (w : BusWrite) : List Nat := [getBits w.v 6 2, getBits w.v 14 2, getBits w.v 22 2]
def legCodeOk (l : Nat) : Bool := l < 0x18 || (0x20 ≤ l && l < 0x2C) || l == 0x3F

/-- A named leg stands in another group's staged slots, or in the live slots of another group that is armed or in a safe state (R212). -/
def legTaken (w : BusWrite) (s : State) : Bool :=
  (w.slotLegs.filter (· != 0x3F)).any fun l => (List.range 12).any fun g =>
    g != w.n && (((List.range 6).any fun k => s.fld (slotLegFld g k) == l) || (s.gactive g && (s.legsOf g).contains l))

/-- PGn (R29, R211–R213, R217, R242). -/
def rulesPg (w : BusWrite) (s : State) : List (Bool × ErrKind) :=
  let g := w.n
  let slot := w.hits (R.PG_SLOT0 g) || w.hits (R.PG_SLOT1 g)
  let m := w.get (R.PG_SYNC_MASTER g)
  let c := w.get (R.PG_SRC_CTX g)
  let held := [R.PG_DT01 g, R.PG_DT23 g, R.PG_DT45 g, R.PG_MINPW g, R.PG_PRECHG g, R.PG_PT g].contains w.a
  [(slot && !(w.slotLegs.all legCodeOk && w.slotUses.all (· < 3)), .range), (slot && w.legTaken s, .state),
   w.range (R.PG_PRD_PRD g) 25600 12800000,
   (w.hits (R.PG_SRC g) && 160 ≤ c && c ≤ 254, .range),
   (w.hits (R.PG_SRC g) && c < 160 && ((List.range 12).any fun h => h != g && s.fld (R.PG_SRC_CTX h) == c), .state),
   (w.hits (R.PG_SYNC g) && m != 15 && (12 ≤ m || m == g || s.fld (R.PG_SYNC_MASTER m) == g), .range),
   (w.hits (R.PG_SYNC g) && s.fld (R.PG_PRD_PRD g) ≤ w.get (R.PG_SYNC_OFFSET g), .range),
   w.range (R.PG_DT01_DT_EVEN g) 0 25600, w.range (R.PG_DT01_DT_ODD g) 0 25600, w.range (R.PG_DT23_DT_EVEN g) 0 25600,
   w.range (R.PG_DT23_DT_ODD g) 0 25600, w.range (R.PG_DT45_DT_EVEN g) 0 25600, w.range (R.PG_DT45_DT_ODD g) 0 25600,
   w.range (R.PG_MINPW_MIN_PW g) 16 4000, w.range (R.PG_PRECHG_US g) 0 1000,
   (w.staged && !(w.hits (R.PG_PRD g) && s.gstate g != 3) && s.gactive g, .state), (held && s.gactive g, .state)]

/-- The link registers, which lie on PG0 (R239, R243). -/
def rulesNl (w : BusWrite) (s : State) : List (Bool × ErrKind) :=
  [(w.changes s (R.NL_CTL_FALLBACK w.i) && s.dieActive w.i, .state)]

/-- A link that is enabled starts to train, one that is disabled is DOWN; RESTART retrains (R237, R239). -/
def actNl (w : BusWrite) (s0 s : State) : State :=
  let k := w.i
  if !w.hits (R.NL_CTL k) then s
  else
    let s := if s0.on (R.NL_CTL_EN k) = s.on (R.NL_CTL_EN k) then s else s.setFld (R.NL_STAT_STATE k) (b2n (s.on (R.NL_CTL_EN k)))
    if w.sets (R.NL_CTL_RESTART k) then s.run (execLinkRestart w.m (Fin.ofNat 15 k)) else s

/-! ### Driver dies -/

/-- GHDn (R253, R266): the limits hold for the values the channel's registers will have. -/
def rulesGhd (w : BusWrite) (s : State) : List (Bool × ErrKind) :=
  let n := w.n
  let c := w.i
  let will (f : Fld) : Nat := if w.a == f.addr then w.get f else s.fld f
  let vpos := will (R.GHD_SUP_VPOS n c)
  let vneg := will (R.GHD_SUP_VNEG n c)
  let sup := w.hits (R.GHD_SUP n c)
  let uv := w.hits (R.GHD_UV n c)
  let sto := w.hits (R.GHD_STO n c)
  [w.range (R.GHD_SUP_VPOS n c) 120 220, w.range (R.GHD_SUP_VNEG n c) 0 100, w.range (R.GHD_UV_PUV n c) 20 32, w.range (R.GHD_UV_NUV n c) 4 16,
   w.range (R.GHD_DSAT_TH n c) 16 48, w.range (R.GHD_DSAT_BLANK n c) 15 300, w.range (R.GHD_STO_LEVEL n c) 60 140,
   w.range (R.GHD_STO_HOLD n c) 25 400,
   ((sup || uv) && vpos < 5 * will (R.GHD_UV_PUV n c) + 10, .range),
   ((sup || uv) && will (R.GHD_UV_NUV_EN n c) == 1 && vneg < 5 * will (R.GHD_UV_NUV n c) + 10, .range),
   ((sup || sto) && vpos < will (R.GHD_STO_LEVEL n c) + 20, .range),
   ((sup || uv || sto || w.hits (R.GHD_DSAT n c) || w.hits (R.GHD_CLP n c)) && s.legActive (chanLeg (4 * n + c)), .state)]

/-- A channel whose supplies are switched off is off and not READY (R266), one whose VPOS or VNEG changes is not READY until it settles (R248); without NUV_EN the negative supply has no lock-out (R253). -/
def actGhd (w : BusWrite) (s0 s : State) : State :=
  let c := 4 * w.n + w.i
  if w.hits (R.GHD_SUP w.n w.i) && !s.on (ghd R.GHD_SUP_EN c) then (s.directOff c).supplyChanged c
  else if w.hits (R.GHD_SUP w.n w.i) && (s0.fld (ghd R.GHD_SUP_VPOS c) != s.fld (ghd R.GHD_SUP_VPOS c)
      || s0.fld (ghd R.GHD_SUP_VNEG c) != s.fld (ghd R.GHD_SUP_VNEG c)) then s.supplyChanged c
  else if w.hits (R.GHD_UV w.n w.i) && !s.on (ghd R.GHD_UV_NUV_EN c) then s.setFld (ghd R.GHD_STAT_NUV c) 0
  else s

/-- GLDk (R268). -/
def rulesGld (w : BusWrite) (s : State) : List (Bool × ErrKind) :=
  [w.range (R.GLD_LEG_CFG_TREF w.n w.i) 10 200, w.range (R.GLD_LEG_CFG_REF_LOW w.n w.i) 2 10,
   (w.hits (R.GLD_LEG_CFG w.n w.i) && s.legActive (0x20 + 4 * w.n + w.i), .state)]

/-! ### Registers that are a command of their own -/

/-- Two trigger bits of one register, in the order of their bits. -/
def two (a b : Bool) (f g : State → Out) (s : State) : State :=
  let t := if a then s.run f else s
  if b && (!a || t.resp.kind == 0) then t.run g else t

/-- A write of the control plane whose whole effect is a command's own (R4 and the command's rules). -/
def directControl (w : BusWrite) (s : State) : Option State :=
  let c : Fin 160 := Fin.ofNat 160 w.ctx
  match w.k with
  | .cad => if w.sets R.CAD_ADM_CTL_REQ then some (s.run (execAdmissionRequest w.m)) else none
  | .lpe =>
    if w.hits (R.LPE_LANE_CTL w.i) && w.sets (R.LPE_LANE_CTL_CHECK w.i) then some (s.run (execLaneCheck w.m (Fin.ofNat 4 w.i)))
    else if w.sets R.LPE_VAL_CTL_GO then
      some (s.run (execValidationStart w.m (Fin.ofNat 4096 (w.get R.LPE_VAL_CTL_START)) (Fin.ofNat 8192 (w.get R.LPE_VAL_CTL_LEN))))
    else none
  | .lpx =>
    if w.hits (R.LPX_STATE c) then some (s.run (execStateRequest w.m c (Fin.ofNat 8 (w.get (R.LPX_STATE_REQ c)))))
    else if w.hits (R.LPX_CW_DATA c) then some (s.run (execContextWordWrite w.m c w.v))
    else if w.hits (R.LPX_MBX_CMT c) then
      some (if w.sets (R.LPX_MBX_CMT_COMMIT c) then s.run (execMailboxCommit w.m c (Fin.ofNat 256 (w.get (R.LPX_MBX_CMT_EPOCH c))))
        else s.mbxCheck w.m c w.a [] id)
    else if w.hits (R.LPX_MBX c w.i) then some (s.run (execMailboxWordWrite w.m c (Fin.ofNat 8 w.i) w.v))
    else none
  | .fad => if w.hits R.FAD_REF then some (s.run (execReferenceSelect w.m (Fin.ofNat 4 (w.get R.FAD_REF_SEL)))) else none
  | .pg =>
    let g : Fin 12 := Fin.ofNat 12 w.n
    if w.sets (R.PG_ARM_ARM g) || w.sets (R.PG_ARM_DISARM g) then
      some (two (w.sets (R.PG_ARM_ARM g)) (w.sets (R.PG_ARM_DISARM g)) (execArm w.m g) (execDisarm w.m g) s)
    else none
  | .ghd =>
    let d := w.sets (R.GHD_STAT_DSAT_LATCH w.n w.i)
    let p := w.sets (R.GHD_STAT_PWR_LATCH w.n w.i)
    if d || p then some (s.run (execTripLatchClear w.m (.gh (Fin.ofNat 48 (4 * w.n + w.i))) d p)) else none
  | .gld =>
    if w.sets (R.GLD_LEG_STAT_BST_LATCH w.n w.i) then
      some (s.run (execTripLatchClear w.m (.gl (Fin.ofNat 24 (2 * (4 * w.n + w.i)))) true false))
    else none
  | _ => none

end BusWrite
end Sys2Proof.Machine
end

