-- ==== Sys2Proof/Machine/BusDrive.lean ====
section
/-!
DEFINITION. Writes to the pages of the drives: position channels and emulators, traction, charger, auxiliary converter, actuators and the
Derailleur sequencer (chapters 8–11).
-/
namespace Sys2Proof.Machine
namespace BusWrite

/-- A sector map gives the states 1–6 the sectors 0–5, each once (R276). -/
def mapOk (v : Nat) : Bool := (List.range 6).all fun x => ((List.range 6).filter fun k => v / 8 ^ k % 8 == x).length == 1

/-! ### Position channels and emulators -/

/-- Bits of the CRC that a frame of a serial word ends with (R281). -/
def serLen (sel : Nat) : Nat := [0, 5, 6, 8].getD sel 0

/-- POSn (R270, R271, R276–R278, R281, R290, R293). -/
def rulesPos (w : BusWrite) (s : State) : List (Bool × ErrKind) :=
  let p := w.n
  let will (f : Fld) : Nat := if w.a == f.addr then w.get f else s.fld f
  let cfg := w.hits (R.POS_CFG p)
  let mode := w.get (R.POS_CFG_MODE p)
  let ser := w.hits (R.POS_SER0 p) || w.hits (R.POS_SER1 p)
  let body := will (R.POS_SER0_FRAME_LEN p) - serLen (will (R.POS_SER1_CRC_SEL p))
  let enabled (c : Nat) : Bool := s.on (R.FAD_CH_CFG_EN c)
  let held := [R.POS_CFG p, R.POS_QEI p, R.POS_HALL p, R.POS_RSLV0 p, R.POS_RSLV1 p, R.POS_SER0 p, R.POS_SER1 p, R.POS_SER2 p].contains w.a
  let sourced := [0, 1].any fun e => s.on (R.EMU_CFG_EN e) && !s.on (R.EMU_CFG_MODE e) && s.fld (R.EMU_CFG_SRC e) == p
  [w.range (R.POS_CFG_MODE p) 0 4, w.range (R.POS_CFG_SENS_PP p) 1 15, w.range (R.POS_CFG_MACH_PP p) 1 32, w.range (R.POS_CFG_SPAN p) 0 2,
   (cfg && (mode == 1 || mode == 3) && w.get (R.POS_CFG_MACH_PP p) % w.get (R.POS_CFG_SENS_PP p) != 0, .range),
   w.range (R.POS_QEI_LINES p) 1 0xFFFF, (w.hits (R.POS_HALL p) && !mapOk (w.get (R.POS_HALL_MAP p)), .range),
   w.range (R.POS_TIME_STILL_MS p) 1 1000, w.range (R.POS_ILL_ILL_MAX p) 1 255, w.range (R.POS_ILL_ILL_WIN p) 1 1000,
   w.range (R.POS_RSLV0_EXC_DIV p) 250 1250, w.range (R.POS_RSLV0_EXC_AMP p) 4 20,
   (w.hits (R.POS_RSLV1 p) && s.fld (R.POS_RSLV0_EXC_DIV p) ≤ w.get (R.POS_RSLV1_PHASE p), .range),
   w.range (R.POS_SER0_FRAME_LEN p) 8 64, w.range (R.POS_SER0_POS_LEN p) 8 40, w.range (R.POS_SER0_ST_BITS p) 8 24,
   w.range (R.POS_SER1_CLK_HALF p) 20 255,
   (ser && (body < will (R.POS_SER0_POS_OFS p) + will (R.POS_SER0_POS_LEN p) || body ≤ will (R.POS_SER1_ERR_BIT p)
     || will (R.POS_SER0_POS_LEN p) < will (R.POS_SER0_ST_BITS p)), .range),
   (w.hits (R.POS_SER2 p) && 12 ≤ w.get (R.POS_SER2_TRIG p) && w.get (R.POS_SER2_TRIG p) ≤ 14, .range),
   w.range (R.POS_SER2_N_BAD p) 1 15, w.range (R.POS_SER2_WTO p) 1 100,
   (held && s.anyActive, .state),
   (cfg && mode == 1 && s.posMode p != 1 && (enabled (s.fld (R.POS_RSLV0_FA_SIN p)) || enabled (s.fld (R.POS_RSLV0_FA_COS p))), .state),
   (cfg && mode != s.posMode p && sourced, .state)]

/-- A change of MODE restarts the measurement (R270), another write of POSn_CFG takes effect within it (R271); RESTART does so too, and what its wire detector then shows is the world's, left free here. -/
def actPos (w : BusWrite) (s0 s : State) : State :=
  let p := w.n
  if w.hits (R.POS_CFG p) then
    (if w.get (R.POS_CFG_MODE p) = s.posMode p then s.posReconfig p (s0.fld (R.POS_CFG_DIR_INV p) != s.fld (R.POS_CFG_DIR_INV p))
     else s.posSetMode p (w.get (R.POS_CFG_MODE p)))
  else if w.sets (R.POS_CTL_RESTART p) then (s.run (execPosRestart w.m (Fin.ofNat 4 p) (bitAt s.freeVal.toNat 0))).tookFree
  else s

/-- A resolver's converters may not be enabled as channels (R277). -/
def rulesRslv (w : BusWrite) (s : State) : List (Bool × ErrKind) :=
  [(w.sets (R.FAD_CH_CFG_EN w.i) && !s.on (R.FAD_CH_CFG_EN w.i)
    && ((List.range 4).any fun p => s.posMode p == 1 && (s.fld (R.POS_RSLV0_FA_SIN p) == w.i || s.fld (R.POS_RSLV0_FA_COS p) == w.i)), .state)]

/-- EMU (R290, R293, R295); EMU_CFGe is a command of its own. -/
def rulesEmu (w : BusWrite) (s : State) : List (Bool × ErrKind) :=
  let e := w.i
  let ratio := w.hits (R.EMU_RATIO e)
  [(ratio && (w.get (R.EMU_RATIO_D e) < w.get (R.EMU_RATIO_N e) || w.get (R.EMU_RATIO_N e) == 0), .range),
   w.range (R.EMU_ZPER_Z_PER e) 4 16777215, ((ratio || w.hits (R.EMU_ZPER e)) && s.on (R.EMU_CFG_EN e), .state)]

/-! ### Traction -/

/-- Phase supervision may not be enabled as the registers and slots stand (R308). -/
def opdBad (w : BusWrite) (s : State) : Bool :=
  let n := w.n
  let g := w.get (R.TRC_CFG_GRP n)
  let chs := (List.range 6).map (s.trcCh n)
  !f32Pos (s.rd (R.TRC_RES_TH n)) || !f32Pos (s.rd (R.TRC_Z_TH n)) || chs.eraseDups.length != 6
    || (chs.any fun c => !s.on (R.FAD_CH_CFG_EN c) || s.fld (R.FAD_CH_CFG_GRP c) != g)
    || ((List.range 6).any fun k => !s.slotUsed g k || s.slotUse g k != 0)

/-- TRCn (R308, R317–R319, R321). −0.004 is taken as the nearest binary32 value. -/
def rulesTrc (w : BusWrite) (s : State) : List (Bool × ErrKind) :=
  let n := w.n
  let mag := w.v.toNat % 2 ^ 31
  let held := [R.TRC_CFG n, R.TRC_FA n, R.TRC_OPD n, R.TRC_RES_TH n, R.TRC_Z_TH n, R.TRC_DEG n, R.TRC_DEG_ILIM n, R.TRC_KE_SRC n, R.TRC_KE_NOM n,
    R.TRC_KE_ALPHA n, R.TRC_KE_TOL n]
  [w.range (R.TRC_CFG_GRP n) 0 11, (w.sets (R.TRC_CFG_OPD_EN n) && w.opdBad s, .range),
   (w.sets (R.TRC_CFG_KE_EN n) && !f32Pos (s.rd (R.TRC_KE_NOM n)), .range),
   w.range (R.TRC_OPD_DET_CNT n) 1 255, w.nonNeg (R.TRC_RES_TH n), w.nonNeg (R.TRC_Z_TH n), w.nonNeg (R.TRC_DEG_ILIM n),
   w.range (R.TRC_DEG_DEGRADE_MAX n) 1 1800, (w.hits (R.TRC_DEG n) && w.get (R.TRC_DEG_DEGRADE_MAX n) ≤ w.get (R.TRC_DEG_DEG_WARN n), .range),
   w.range (R.TRC_KE_SRC_CTX n) 0 159, (w.hits (R.TRC_KE_SRC n) && w.get (R.TRC_KE_SRC_TSRC n) == 6, .range),
   (w.hits (R.TRC_KE_ALPHA n) && !(mag == 0 || (getBits w.v 31 1 == 1 && mag ≤ 0x3B83126F)), .range),
   (w.hits (R.TRC_KE_TOL n) && (w.get (R.TRC_KE_TOL_WRONG_TOL n) ≤ w.get (R.TRC_KE_TOL_DEMAG_TOL n) || w.get (R.TRC_KE_TOL_N_ID n) == 0), .range),
   (held.contains w.a && s.gactive (s.fld (R.TRC_CFG_GRP n)), .state)]

/-- A dropped set's legs are off once DROP_SPD = 0 (R310). -/
def actTrc (w : BusWrite) (_ s : State) : State :=
  if w.hits (R.TRC_CFG w.n) && !s.on (R.TRC_CFG_DROP_SPD w.n) && s.on (R.TRC_STAT_DROP_SHORT w.n) then s.trcDropTo w.n false else s

/-! ### Charger and auxiliary converter -/

/-- CHG (R339, R355, R357); CHG_CFG is a command of its own, and the protection registers are staged under R116. -/
def rulesChg (w : BusWrite) (s : State) : List (Bool × ErrKind) :=
  let st := s.fld R.CHG_STAT_SESS
  [w.range R.CHG_TO0_T_PILOT 1 600, w.range R.CHG_TO0_T_S2 1 600, w.range R.CHG_TO1_T_GRID 1 600, w.range R.CHG_TO1_T_STOP 1 600,
   w.range R.CHG_PROT1_FLO 4000 7000, w.range R.CHG_PROT1_FHI 4000 7000, w.range R.CHG_PROT2_T_VTRIP 10 1000, w.range R.CHG_PROT2_T_FTRIP 10 1000,
   w.range R.CHG_PROT3_P_IMP_MAX 0 4400, w.range R.CHG_PROT3_P_EXP_MAX 0 4400, w.range R.CHG_PROT4_ROCOF_MAX 1 255,
   w.range R.CHG_TINH_TSRC 0 5,
   (w.hits R.CHG_PROT0 && w.get R.CHG_PROT0_VHI ≤ w.get R.CHG_PROT0_VLO, .range),
   (w.hits R.CHG_PROT1 && w.get R.CHG_PROT1_FHI ≤ w.get R.CHG_PROT1_FLO, .range),
   (w.hits R.CHG_TINH && signed 8 (w.get R.CHG_TINH_T_HI) ≤ signed 8 (w.get R.CHG_TINH_T_LO), .range),
   ([R.CHG_FA0, R.CHG_FA1, R.CHG_TO0, R.CHG_TO1, R.CHG_TINH].contains w.a && st != 0 && st != 6, .state)]

/-- AUX (R357, R359); AUX_CFG is a command of its own. -/
def rulesAux (w : BusWrite) (s : State) : List (Bool × ErrKind) :=
  let st := s.fld R.AUX_STAT_STATE
  [w.range R.AUX_CHK_T_CHK 10 100, w.range R.AUX_SS_T_SSTO 1 1000, w.range R.AUX_SS_N_SS 1 255, w.range R.AUX_CEIL_CEIL_SS 1 2047,
   w.range R.AUX_CEIL_CEIL_RUN 1 2047, w.range R.AUX_HIC_T_HIC 10 2000, w.range R.AUX_HIC_HIC_MAX 1 15, w.range R.AUX_VMON_T_OL 1 1000,
   w.range R.AUX_VMON_GOOD_PCT 50 100, w.range R.AUX_VMON_UV_PCT 50 100,
   (w.hits R.AUX_VMON && w.get R.AUX_VMON_GOOD_PCT ≤ w.get R.AUX_VMON_UV_PCT, .range),
   ([R.AUX_CHK, R.AUX_SS, R.AUX_CEIL, R.AUX_HIC, R.AUX_VMON].contains w.a && st != 0 && st != 5, .state)]

/-! ### Actuators and shifts -/

/-- ACTn (R383, R385); ACT_CFG and ZERO are commands of their own. -/
def rulesAct (w : BusWrite) (s : State) : List (Bool × ErrKind) :=
  let n := w.n
  [(w.hits (R.ACT_HALL n) && !mapOk (w.get (R.ACT_HALL_MAP n)), .range), w.range (R.ACT_HALL_HOFS n) 0 59, w.range (R.ACT_PLN_P n) 0 45,
   w.range (R.ACT_PLN_ADV n) 0 30, w.range (R.ACT_PLN_ZC_FILT n) 1 7, w.range (R.ACT_START0_T_ALIGN n) 1 255,
   w.range (R.ACT_START0_RAMP_MS n) 1 1000, w.range (R.ACT_START1_F_END n) 1 0xFFFF, w.range (R.ACT_START1_N_LOCK n) 2 15,
   w.range (R.ACT_CATCH_OBS_MS n) 1 255, w.range (R.ACT_CATCH_BRK_MS n) 1 255, w.range (R.ACT_TIME_CATCH_TO n) 10 1000,
   w.range (R.ACT_TIME_STALL_MS n) 1 1000, w.nonNeg (R.ACT_KE n), w.range (R.ACT_EMF_EMF_TOL n) 1 100,
   (w.hits (R.ACT_PARK n) && signed 16 (w.get (R.ACT_PARK_ENG_HI n)) < signed 16 (w.get (R.ACT_PARK_ENG_LO n)), .range),
   (!w.hits (R.ACT_CTL n) && s.gactive (s.actGrp n), .state)]

/-- ENGAGED and AT_TARGET follow the registers they are formed with (R373, R376). -/
def actAct (w : BusWrite) (_ s : State) : State := s.actShow w.n

/-- DRL (R383, R385, R387). -/
def rulesDrl (w : BusWrite) (s : State) : List (Bool × ErrKind) :=
  let k := w.i
  let c1 := w.get R.DRL_CFG_TQ_CTX1
  [w.range R.DRL_CFG_ACT 0 2, w.range R.DRL_CFG_TQ_CTX0 0 159, (w.hits R.DRL_CFG && 160 ≤ c1 && c1 != 0xFF, .range),
   w.nonNeg R.DRL_KSYNC, w.nonNeg R.DRL_TQ_SYNC, w.nonNeg R.DRL_TQ_TH, w.fin R.DRL_HAND, w.nonNeg R.DRL_RST_RATE,
   w.range R.DRL_SYNC_SYNC_HOLD 1 1000, w.range R.DRL_RST_RST_TO 1 500,
   w.range (R.DRL_STEP_CTL_KIND k) 0 5, w.range (R.DRL_STEP_CTL_TIMEOUT k) 1 500,
   (!w.hits R.DRL_CTL && !w.hits R.DRL_HAND && s.on R.DRL_STAT_BUSY, .state)]

/-- DRL_CTL: GO starts a shift at START, ABORT ends one (R378, R382). -/
def actDrl (w : BusWrite) (_ s : State) : State :=
  two (w.sets R.DRL_CTL_GO) (w.sets R.DRL_CTL_ABORT) (execShiftGo w.m (Fin.ofNat 8 (w.get R.DRL_CTL_START))) (execShiftAbort w.m) s

/-- A write of the drives' pages whose whole effect is a command's own. -/
def directDrive (w : BusWrite) (s : State) : Option State :=
  match w.k with
  | .emu => if w.hits (R.EMU_CFG w.i) then some (s.run (execEmuEnable w.m (Fin.ofNat 2 w.i) w.v)) else none
  | .trc =>
    let n : Fin 2 := Fin.ofNat 2 w.n
    if w.sets (R.TRC_CTL_CLEAR n) || w.sets (R.TRC_CTL_KE_RESTART n) then
      some (two (w.sets (R.TRC_CTL_CLEAR n)) (w.sets (R.TRC_CTL_KE_RESTART n)) (execTrcClear w.m n) (execKeRestart w.m n) s)
    else none
  | .chg => if w.hits R.CHG_CFG then some (s.run (execChgEnable w.m w.v)) else none
  | .aux => if w.hits R.AUX_CFG then some (s.run (execAuxEnable w.m w.v)) else none
  | .act =>
    let n : Fin 3 := Fin.ofNat 3 w.n
    if w.hits (R.ACT_CFG n) then some (s.run (execActEnable w.m n w.v))
    else if w.sets (R.ACT_CTL_ZERO n) then some (s.run (execActZero w.m n)) else none
  | _ => none

end BusWrite
end Sys2Proof.Machine
end

