-- ==== Sys2Proof/Machine/BusPlanes.lean ====
section
/-!
DEFINITION. Writes to the pages of the safety manager, the data plane and the management plane: SAF, SIO, EPT, TND, CAN, ETH, HSP, SYS, PWR,
SEC, ROL, BST, REC, TMP and NOR (chapters 2, 3, 12–16).
-/
namespace Sys2Proof.Machine
namespace BusWrite

/-- The binary32 order; a NaN is in no order. -/
def f32Le (x y : Word) : Bool :=
  let nan (v : Word) : Bool := getBits v 23 8 == 0xFF && getBits v 0 23 != 0
  let key (v : Word) : Int := if getBits v 31 1 = 1 then -(getBits v 0 31 : Int) else getBits v 0 31
  !nan x && !nan y && key x ≤ key y

/-! ### Safety manager -/

/-- The mandatory lines of R391. -/
def mandatory (k : Nat) : Bool := [0, 7, 9, 10, 11, 13, 22, 23, 24].contains k

/-- SAF (R390, R391, R418). -/
def rulesSaf (w : BusWrite) (_ : State) : List (Bool × ErrKind) :=
  let k := w.i
  let r := w.get (R.SAF_RXN_REACT k)
  [w.range R.SAF_CHOP_DLY 1 100, w.range R.SAF_CHOP_N 1 15, w.range R.SAF_HOLD_HOLD_MAX 1 1000, w.range (R.SAF_RXN_REACT k) 0 5,
   (w.hits (R.SAF_RXN k) && mandatory k && (r == 0 || r == 4 || w.get (R.SAF_RXN_OWN k) == 0), .range)]

/-- SAF_INJ: LINE is stored, GO injects (R398). -/
def actSaf (w : BusWrite) (_ s : State) : State :=
  if w.sets R.SAF_INJ_GO then
    s.run (execFaultInject w.m (Fin.ofNat 128 (w.get R.SAF_INJ_LINE)) (Fin.ofNat 256 (w.get R.SAF_INJ_KEY)))
  else s

/-- SIO (R402, R405, R420). -/
def rulesSio (w : BusWrite) (_ : State) : List (Bool × ErrKind) :=
  let k := w.i
  [w.range R.SIO_TP_TP_W 20 200, w.range R.SIO_TP_TP_PER 10 255, (w.hits R.SIO_TP && 25 * w.get R.SIO_TP_TP_PER ≤ w.get R.SIO_TP_TP_W, .range),
   w.range R.SIO_SO_CMD_CTX 0 159, w.range (R.SIO_SI_CFG_MODE k) 0 2, w.range (R.SIO_SI_CFG_FILT k) 1 15, w.range (R.SIO_SI_CFG_DISC k) 1 500,
   w.range (R.SIO_SO_CFG_TP_W k) 10 200, w.range (R.SIO_SO_CFG_TP_PER k) 1 255, w.range (R.SIO_SO_CFG_DEG_MAX k) 1 240]

/-! ### Eptal and Tandem -/

/-- A stream would be enabled on a CAN buffer whose DIR is not its own (R453). -/
def eptDirBad (w : BusWrite) (s : State) : Bool :=
  let k := w.i
  let bad (net buf : Nat) : Bool := net < 4 && s.fld (R.CAN_BUF_CFG_DIR net buf) != w.get (R.EPT_CFG_DIR k)
  w.sets (R.EPT_CFG_EN k) && !s.on (R.EPT_CFG_EN k)
    && (bad (s.fld (R.EPT_SID_NET_A k)) (s.fld (R.EPT_BUF_BUF_A k)) || bad (s.fld (R.EPT_SID_NET_B k)) (s.fld (R.EPT_BUF_BUF_B k)))

/-- EPT (R410, R416, R420, R422, R436, R453). -/
def rulesEpt (w : BusWrite) (s : State) : List (Bool × ErrKind) :=
  let k := w.i
  let cfg := w.hits (R.EPT_CFG k)
  let sid := w.hits (R.EPT_SID k)
  [w.range (R.EPT_CFG_LEN k) 1 32, (cfg && 8 * w.get (R.EPT_CFG_LEN k) ≤ w.get (R.EPT_CFG_DEMAND_BIT k), .range),
   w.range (R.EPT_SID_NET_A k) 0 5, w.range (R.EPT_SID_NET_B k) 0 5, (sid && w.get (R.EPT_SID_NET_A k) == w.get (R.EPT_SID_NET_B k), .range),
   w.range (R.EPT_TIME_WIN k) 1 100, w.range (R.EPT_TIME_PER_MAX k) 2 255, w.range (R.EPT_TIME_SINGLE_MAX k) 1 3600,
   (w.hits (R.EPT_TIME k) && w.get (R.EPT_TIME_PER_MAX k) ≤ w.get (R.EPT_TIME_WIN k), .range), (w.eptDirBad s, .range),
   (s.on (R.EPT_CFG_EN k) && ((cfg && w.get (R.EPT_CFG_EN k) == 1) || sid || w.hits (R.EPT_BUF k)), .state),
   (w.sets (R.EPT_CFG_EN k) && s.pairState 1 == 2, .state)]

/-- A change of source, destination or direction reassigns a stream, and its first EN assigns it (R54, R410); a stream that is enabled
awaits its first message (R412), one that is disabled is idle. A receive stream's DATA is read only. -/
def actEpt (w : BusWrite) (s0 s : State) : State :=
  let k := w.i
  if w.a == R.EPT_CFG k || w.a == R.EPT_SID k || w.a == R.EPT_BUF k then
    let s := s.eptReassign s0 k
    if s0.on (R.EPT_CFG_EN k) != s.on (R.EPT_CFG_EN k) then s.eptBegin k else s
  else if w.a != R.EPT_CTL k && w.a != R.EPT_TIME k && !s.on (R.EPT_CFG_DIR k) then s.wr w.a (s0.rd w.a)
  else s

/-- A restart or start address: 4-byte aligned in ROM, SRAM or the NOR window (R443). -/
def vectorOk (v : Word) : Bool := v.toNat % 4 = 0 && (inRom v.toNat || inSram v.toNat || inNor v.toNat)

/-- TND (R435, R436, R443). -/
def rulesTnd (w : BusWrite) (s : State) : List (Bool × ErrKind) :=
  let p := w.i
  let base := w.get (R.TND_CWIN_BASE p) * 2 ^ 16
  let part := 0x20000000 + 0x100000 * p
  [w.range (R.TND_CFG_FOLD_PER p) 1 100, w.range (R.TND_CFG_SC_MAX p) 10 3600, w.range (R.TND_CFG_TRANS_MAX p) 1 15,
   w.range (R.TND_CFG_TRANS_WIN p) 1 255, w.range (R.TND_TO_SPLIT_TO p) 1 100, w.range (R.TND_TO_REJOIN_TO p) 1 100,
   ((w.hits (R.TND_RVEC p) || w.hits (R.TND_CVEC p)) && !vectorOk w.v, .range),
   (w.hits (R.TND_CWIN p) && (base < part || part + 0x100000 < base + (w.get (R.TND_CWIN_SIZE p) + 1) * 2 ^ 16), .range),
   ((w.hits (R.TND_CVEC p) || w.hits (R.TND_CWIN p)) && s.pairState p != 0, .state)]

/-- TND_Pp_CTL: its requests in the order of their bits (R434, R435, R437, R443). -/
def actTnd (w : BusWrite) (_ s : State) : State :=
  let p := w.i
  let q : Fin 2 := Fin.ofNat 2 p
  let s := two (w.sets (R.TND_CTL_SPLIT p)) (w.sets (R.TND_CTL_REJOIN p)) (execSplitRequest w.m q) (execRejoinRequest w.m q) s
  if s.resp.kind ≠ 0 then s
  else two (w.sets (R.TND_CTL_ASSAY p)) (w.sets (R.TND_CTL_FOLD p)) (execAssayRequest w.m q) (execFoldRequest w.m q) s

/-! ### Networks -/

/-- A bit-timing register breaks R446: prescaler, length and jump width, and the least bit length in CAN clocks. -/
def timingBad (presc ph1 ph2 rjw least : Nat) : Bool :=
  presc == 0 || ph1 == 0 || ph2 == 0 || rjw == 0 || ph2 < rjw || presc * (1 + ph1 + ph2) < least

/-- CANn (R446, R466); CAN_CTL, CAN_BUFCMD and CAN_BUFk_CFG are commands of their own. -/
def rulesCan (w : BusWrite) (s : State) : List (Bool × ErrKind) :=
  let n := w.n
  [(w.hits (R.CAN_NBT n) && timingBad (w.get (R.CAN_NBT_N_PRESC n)) (w.get (R.CAN_NBT_N_PH1 n)) (w.get (R.CAN_NBT_N_PH2 n))
      (w.get (R.CAN_NBT_N_RJW n)) 80, .range),
   (w.hits (R.CAN_DBT n) && timingBad (w.get (R.CAN_DBT_D_PRESC n)) (w.get (R.CAN_DBT_D_PH1 n)) (w.get (R.CAN_DBT_D_PH2 n))
      (w.get (R.CAN_DBT_D_RJW n)) 10, .range),
   ([R.CAN_NBT n, R.CAN_DBT n, R.CAN_TDC n].contains w.a && s.on (R.CAN_CTL_EN n), .state)]

/-- A ring base lies in TB's partition, aligned to the ring's size (R461). -/
def ringOk (w : BusWrite) (log2 : Nat) : Bool := w.v.toNat % (16 * 2 ^ log2) = 0 && State.inTb w.v.toNat (16 * 2 ^ log2)

/-- ETHn (R461, R468, R470); ETH_CTL and TXKICK are commands of their own. -/
def rulesEth (w : BusWrite) (s : State) : List (Bool × ErrKind) :=
  let n := w.n
  [(w.hits (R.ETH_RXRING n) && !w.ringOk (s.fld (R.ETH_RING_RX_LOG2 n)), .range),
   (w.hits (R.ETH_TXRING n) && !w.ringOk (s.fld (R.ETH_RING_TX_LOG2 n)), .range),
   w.range (R.ETH_RING_RX_LOG2 n) 2 8, w.range (R.ETH_RING_TX_LOG2 n) 2 8,
   (s.on (R.ETH_CTL_EN n) && !w.hits (R.ETH_TXKICK n) && !w.hits (R.ETH_CNT n), .state)]

/-- EPT_EN = 0 releases the port from every stream: the copies that wait for it are never sent (R460). -/
def actEth (w : BusWrite) (_ s : State) : State :=
  if w.hits (R.ETH_EPT_PORT w.n) && !s.on (R.ETH_EPT_PORT_EPT_EN w.n) then s.updEth w.n fun r => { r with queue := [] } else s

/-- HSP (R472); SEND is a command of its own. -/
def rulesHsp (w : BusWrite) (_ : State) : List (Bool × ErrKind) := [w.range R.AUXL_CTL_LINK_TO 10 1000]

/-! ### Management plane -/

/-- PWR (R94, R99). -/
def rulesPwr (w : BusWrite) (_ : State) : List (Bool × ErrKind) := [w.range R.PWR_DETACH_CTL_HOLD_S 1 255]

/-- PWR_DETACH_CTL takes REQ before CANCEL; SCOPE is sampled with REQ (R94, R96). The sensor supplies follow their enables (R91). -/
def actPwr (w : BusWrite) (_ s : State) : State :=
  if w.hits R.PWR_SENS_CTL then s.sensShow
  else two (w.sets R.PWR_DETACH_CTL_REQ) (w.sets R.PWR_DETACH_CTL_CANCEL) (execDetachRequest w.m (w.get R.PWR_DETACH_CTL_SCOPE == 1))
    (execDetachCancel w.m) s

/-- SEC (R489, R506). -/
def rulesSec (w : BusWrite) (_ : State) : List (Bool × ErrKind) :=
  let a := w.v.toNat
  [(w.hits R.SEC_ATT_ADDR && !(a % 4 = 0 && 0x20200000 ≤ a && a + 344 ≤ 0x203C0000), .range),
   w.range R.SEC_EARLY0_FSW 4 100, w.range R.SEC_EARLY0_EARLY_MAX 10 600, w.nonNeg R.SEC_EARLY1,
   w.range R.SEC_EARLY3_BYTE 0 60, w.range R.SEC_EARLY3_DEM_TO 10 255]

/-- What a fold finds when a write of SEC_DBG_CTL brings the pair to a boundary is the world's, left free here (R441). -/
def freeDiff (s : State) : Option (Fin 100) := if bitAt s.freeVal.toNat 0 then some (Fin.ofNat 100 (s.freeVal.toNat / 2)) else none

/-- Several requests of one register, in the order of their bits, up to the first that is refused. -/
def several (l : List (Bool × (State → Out))) (s : State) : State :=
  l.foldl (fun s e => if e.1 && s.resp.kind == 0 then s.run e.2 else s) s

/-- SEC's requests: CONFIRM and ADVANCE, the image slots, the report, and debug but for GO, which the access itself follows (R484–R489, R504). -/
def actSec (w : BusWrite) (_ s : State) : State :=
  let slot : Fin 2 := Fin.ofNat 2 (w.get R.SEC_IMG_CTL_SLOT)
  let p : Fin 2 := Fin.ofNat 2 (w.get R.SEC_DBG_CTL_PAIR)
  let d := freeDiff s
  if w.hits R.SEC_CTL then
    several [(w.sets R.SEC_CTL_CONFIRM, execImageConfirm w.m),
      (w.sets R.SEC_CTL_ADVANCE, execRollbackAdvance w.m (Fin.ofNat 256 (w.get R.SEC_CTL_KEY)))] s
  else if w.hits R.SEC_IMG_CTL then
    several [(w.sets R.SEC_IMG_CTL_OPEN, execSlotOpen w.m slot), (w.sets R.SEC_IMG_CTL_CLOSE, execSlotClose w.m),
      (w.sets R.SEC_IMG_CTL_ACTIVATE, execSlotActivate w.m slot)] s
  else if w.sets R.SEC_ATT_CTL_GO then s.run (execAttestationRequest w.m)
  else if w.hits R.SEC_DBG_CTL then
    let t := several [(w.sets R.SEC_DBG_CTL_OPEN_REQ, execDebugOpen w.m), (w.sets R.SEC_DBG_CTL_CLOSE, execDebugClose w.m),
      (w.sets R.SEC_DBG_CTL_HALT, execDebugHalt w.m p d), (w.sets R.SEC_DBG_CTL_RESUME, execDebugResume w.m p d),
      (w.sets R.SEC_DBG_CTL_STEP, execDebugStep w.m p d)] s
    if w.sets R.SEC_DBG_CTL_HALT || w.sets R.SEC_DBG_CTL_RESUME || w.sets R.SEC_DBG_CTL_STEP then t.tookFree else t
  else s

/-- ROL (R490, R498, R508). -/
def rulesRol (w : BusWrite) (s : State) : List (Bool × ErrKind) :=
  let k := w.i
  let buffer := (R.ROL_STMT 0 ≤ w.a && w.a < R.ROL_KEY 0) || w.hits (R.ROL_KEY k)
  [(buffer && s.on R.ROL_RESULT_BUSY, .busy),
   (w.hits R.ROL_CHG_CTL && w.get R.ROL_CHG_CTL_OPEN == 0 && w.get R.ROL_CHG_CTL_PAGES != s.fld R.ROL_CHG_CTL_PAGES && s.chgState != 0, .state),
   (w.hits R.ROL_CHG_CTL && w.get R.ROL_CHG_CTL_OPEN == 1 && s.chgState != 0, .busy),
   (w.hits (R.ROL_CRED k) && k != 0 && w.get (R.ROL_CRED_EN k) == 1 && w.get (R.ROL_CRED_ROLE k) == 0, .range)]

/-- ROL's requests, each register's in the order of its bits (R492–R494, R498, R499, R502). -/
def actRol (w : BusWrite) (_ s : State) : State :=
  if w.hits R.ROL_CTL then
    several [(w.sets R.ROL_CTL_NONCE, execNonceDraw w.m), (w.sets R.ROL_CTL_SUBMIT, execStatementSubmit w.m),
      (w.sets R.ROL_CTL_LOGOUT, execAuthLogout w.m)] s
  else if w.hits R.ROL_CHG_CTL then
    several [(w.sets R.ROL_CHG_CTL_OPEN, execChangeOpen w.m (Fin.ofNat 64 (w.get R.ROL_CHG_CTL_PAGES))),
      (w.sets R.ROL_CHG_CTL_SEAL, execChangeSeal w.m), (w.sets R.ROL_CHG_CTL_ABORT, execChangeAbort w.m)] s
  else s

/-- BST (R534, R537, R544): while a self-test runs, its target and algorithm stand. -/
def rulesBst (w : BusWrite) (s : State) : List (Bool × ErrKind) :=
  [w.range R.BST_CTL_TARGET 0 6, w.range R.BST_CTL_ALG 0 2,
   (w.hits R.BST_CTL && w.get R.BST_CTL_ABORT == 0 && s.on R.BST_STAT_BUSY, .busy)]

/-- BST_CTL's requests: ABORT and REPAIR act on the self-test before, GO starts the next (R534, R536, R538). -/
def actBst (w : BusWrite) (s0 s : State) : State :=
  if !w.hits R.BST_CTL then s
  else
    let t := several [(w.sets R.BST_CTL_ABORT, execBistAbort w.m), (w.sets R.BST_CTL_REPAIR, execBistRepair w.m)] s0.okResp
    let t := (t.setFld R.BST_CTL_TARGET (w.get R.BST_CTL_TARGET)).setFld R.BST_CTL_ALG (w.get R.BST_CTL_ALG)
    several [(w.sets R.BST_CTL_GO, execBistRequest w.m (Fin.ofNat 16 (w.get R.BST_CTL_TARGET)) (Fin.ofNat 4 (w.get R.BST_CTL_ALG)))] t

/-- REC (R515, R522, R523). -/
def rulesRec (w : BusWrite) (_ : State) : List (Bool × ErrKind) :=
  let k := w.i
  [w.range R.REC_CTL_RATE_N 1 255, w.range R.REC_CTL_RATE_WIN 1 255,
   ((w.hits (R.REC_HCFG k) || w.hits (R.REC_XCFG k)) && !State.recSrcOk w.v, .range), w.pos (R.REC_HWID k)]

/-- A write to the configuration of a histogram or tracker zeroes it (R522, R523); FLUSH starts a flush. -/
def actRec (w : BusWrite) (_ s : State) : State :=
  let k := w.i
  if w.sets R.REC_CTL_FLUSH then s.run (execFlushRequest w.m)
  else if w.hits (R.REC_HCFG k) || w.hits (R.REC_HLO k) || w.hits (R.REC_HWID k) then s.histZero k
  else if w.hits (R.REC_XCFG k) then s.trackZero k
  else s

/-- TMP (R533, R543); TMP_DRTk_CFG is a command of its own. -/
def rulesTmp (w : BusWrite) (s : State) : List (Bool × ErrKind) :=
  let k := w.i
  let will (a : Nat) : Word := if w.a == a then w.v else s.rd a
  let limits := w.hits (R.TMP_DRT_LFULL k) || w.hits (R.TMP_DRT_LMIN k)
  [(w.hits R.TMP_CFG && (150 < w.get R.TMP_CFG_TJ_LIMIT || w.get R.TMP_CFG_TJ_LIMIT ≤ w.get R.TMP_CFG_TJ_WARN), .range),
   (limits && !(f32Le (will (R.TMP_DRT_LMIN k)) (will (R.TMP_DRT_LFULL k))), .range),
   ((limits || w.hits (R.TMP_DRT_START k) || w.hits (R.TMP_DRT_END k)) && s.on (R.TMP_DRT_CFG_EN k), .state)]

/-- NOR (R539, R544). -/
def rulesNor (w : BusWrite) (s : State) : List (Bool × ErrKind) :=
  [w.range R.NOR_CMD_OP 0 2, (w.hits (R.NOR_BUF w.i) && s.on R.NOR_STAT_BUSY, .busy)]

/-- NOR_CMD.GO starts the operation (R539). -/
def actNor (w : BusWrite) (_ s : State) : State :=
  if w.sets R.NOR_CMD_GO then
    s.run fun s =>
      match w.get R.NOR_CMD_OP with
      | 0 => execNorProgramPage w.m s
      | 1 => execNorEraseSector w.m s
      | _ => execNorResetDie w.m s
  else s

/-! ### Registers that are a command of their own -/

/-- CAN_BUFCMD by its OP (R450–R452, R468); whether a frame on the bus still wins over a CANCEL is the world's, left free here. -/
def canBufCmd (w : BusWrite) (s : State) : State :=
  let n : Fin 4 := Fin.ofNat 4 w.n
  let k : Fin 128 := Fin.ofNat 128 (w.get (R.CAN_BUFCMD_BUF n))
  match w.get (R.CAN_BUFCMD_OP n) with
  | 0 => s.run (execCanCommit w.m n k (Fin.ofNat 256 (w.get (R.CAN_BUFCMD_EPOCH n))))
  | 1 => (s.run (execCanCancel w.m n k (bitAt s.freeVal.toNat 0))).tookFree
  | 2 => s.run (execCanLock w.m n k)
  | _ => s.run (execCanRelease w.m n k)

/-- A write of these pages whose whole effect is a command's own. -/
def directPlanes (w : BusWrite) (s : State) : Option State :=
  match w.k with
  | .saf =>
    if w.hits R.SAF_REL then some (s.run (execRelease w.m (Fin.ofNat 4096 (w.get R.SAF_REL_GROUPS))))
    else if w.hits (R.SAF_PEND w.i) then some (s.run (execPendingClear w.m (Fin.ofNat 4 w.i) w.v))
    else none
  | .sio =>
    if w.sets (R.SIO_SI_CTL_RESET w.i) then some (s.run (execSiReset w.m (Fin.ofNat 8 w.i)))
    else if w.sets (R.SIO_SO_CTL_RESET w.i) then some (s.run (execSoReset w.m (Fin.ofNat 4 w.i)))
    else none
  | .ept =>
    if w.hits (R.EPT_CTL w.i) && (w.sets (R.EPT_CTL_SEND w.i) || w.sets (R.EPT_CTL_RESET w.i)) then
      some (two (w.sets (R.EPT_CTL_SEND w.i)) (w.sets (R.EPT_CTL_RESET w.i))
        (execEptalSend w.m (Fin.ofNat 16 w.i) (Fin.ofNat 256 (w.get (R.EPT_CTL_EPOCH w.i)))) (execEptalReset w.m (Fin.ofNat 16 w.i)) s)
    else none
  | .can =>
    if w.hits (R.CAN_CTL w.n) then some (s.canCtl w.m w.n w.v)
    else if w.hits (R.CAN_BUFCMD w.n) then some (w.canBufCmd s)
    else if w.hits (R.CAN_BUF_CFG w.n w.i) then
      some ((s.run (execCanBufferConfig w.m (Fin.ofNat 4 w.n) (Fin.ofNat 128 w.i) w.v
        (s.fld (R.CAN_STAT_ACT w.n) == 1 && bitAt s.freeVal.toNat 0))).tookFree)
    else none
  | .eth =>
    if w.hits (R.ETH_CTL w.n) then some (s.ethCtl w.m w.n w.v)
    else if w.sets (R.ETH_TXKICK_KICK w.n) then some (s.run (execEthTxKick w.m (Fin.ofNat 2 w.n) .clean))
    else none
  | .hsp => if w.sets R.AUXL_TXCTL_SEND then some (s.run (execAuxlAckSend w.m)) else none
  | .sys =>
    if w.sets R.SYS_RST_CTL_RESET then some (s.run (execWarmReset w.m (Fin.ofNat 256 (w.get R.SYS_RST_CTL_KEY)))) else none
  | .tmp => if w.hits (R.TMP_DRT_CFG w.i) then some (s.run (execDerateChannelWrite w.m (Fin.ofNat 8 w.i) w.v)) else none
  | _ => none

end BusWrite
end Sys2Proof.Machine
end

