-- ==== Sys2Proof/Machine/Access.lean ====
section
/-!
DEFINITION. An access to the register space, whole: headers, locks and SRST (R110–R119), block registers by their pages' rules, the memory
windows and memory itself (R100–R108), and reads with their side effects (R5, R112). The commands of the bus, the host port and the
debugger's accesses follow from it.
-/
namespace Sys2Proof.Machine

namespace BusWrite

/-- The rules a page adds to a write, frozen staged fields first (R29, R122). -/
def rules (w : BusWrite) (s : State) : List (Bool × ErrKind) :=
  (w.staged && s.frozen, .busy) :: match w.k with
  | .cad => w.rulesCad s
  | .lpe => w.rulesLpe s
  | .lpx => w.rulesLpx s
  | .pg => w.rulesPg s ++ w.rulesNl s
  | .ghd => w.rulesGhd s
  | .gld => w.rulesGld s
  | .fad => w.rulesFad s ++ w.rulesRslv s
  | .faq => w.rulesFaq s
  | .hka => w.rulesHka s
  | .wma => w.rulesWma s
  | .pos => w.rulesPos s
  | .emu => w.rulesEmu s
  | .trc => w.rulesTrc s
  | .chg => w.rulesChg s
  | .aux => w.rulesAux s
  | .act => w.rulesAct s
  | .drl => w.rulesDrl s
  | .saf => w.rulesSaf s
  | .sio => w.rulesSio s
  | .ept => w.rulesEpt s
  | .tnd => w.rulesTnd s
  | .can => w.rulesCan s
  | .eth => w.rulesEth s
  | .hsp => w.rulesHsp s
  | .sys => []
  | .pwr => w.rulesPwr s
  | .sec => w.rulesSec s
  | .rol => w.rulesRol s
  | .bst => w.rulesBst s
  | .recorder => w.rulesRec s
  | .tmp => w.rulesTmp s
  | .nor => w.rulesNor s

/-- CFG_PEND shows a staged field that differs from its live value (R169, R242). -/
def showPend (w : BusWrite) (s : State) : State :=
  if !w.staged then s
  else if w.k = .pg then s.setFld (R.PG_STAT_CFG_PEND w.n) (b2n (s.pgCfgPend w.n))
  else if w.k = .lpx then
    s.setFld (R.LPX_STATE_CFG_PEND w.ctx) (b2n (s.lpxCfgPend w.ctx))
  else s

/-- What a stored write starts, from the state before and the state that holds the word. -/
def act (w : BusWrite) (s0 s : State) : State :=
  let s := w.showPend s
  match w.k with
  | .fad => w.actFad s0 s
  | .faq => w.actFaq s0 s
  | .trc => w.actTrc s0 s
  | .wma => w.actWma s0 s
  | .pg => w.actNl s0 s
  | .ghd => w.actGhd s0 s
  | .pos => w.actPos s0 s
  | .act => w.actAct s0 s
  | .drl => w.actDrl s0 s
  | .saf => w.actSaf s0 s
  | .ept => w.actEpt s0 s
  | .tnd => w.actTnd s0 s
  | .eth => w.actEth s0 s
  | .pwr => w.actPwr s0 s
  | .sec => w.actSec s0 s
  | .rol => w.actRol s0 s
  | .bst => w.actBst s0 s
  | .recorder => w.actRec s0 s
  | .nor => w.actNor s0 s
  | _ => s

/-- A write whose whole effect is a command of the table. -/
def direct (w : BusWrite) (s : State) : Option State := ((w.directControl s).orElse fun _ => w.directDrive s).orElse fun _ => w.directPlanes s

end BusWrite

/-! ### Software reset of a page -/

/-- The addresses of a page's block registers. -/
def pageRegs (k : PageKind) (n : Nat) : List Nat :=
  let row (r : RegRow) : List Nat :=
    ((List.range r.count).filter (r.first ≤ ·)).flatMap fun i => (List.range (max 1 r.count2)).map fun j => r.off + r.stride * i + r.stride2 * j
  let offs := (pageRows k n).flatMap row
  if k = .lpx then (List.range 16).flatMap fun f => offs.map (k.page n + 0x100 * f + ·)
  else if k = .pg then (rowsPg.flatMap row).map (k.page n + ·)
  else offs.map (k.page n + ·)

/-- Pages of which some read-only fields show the live state of something that SRST does not touch; the others return every field. -/
def srstKeepsRo (k : PageKind) : Bool := !([PageKind.lpx, .faq, .wma, .trc, .chg, .aux, .act, .drl, .ept, .bst, .nor, .emu].contains k)

/-- Registers of those pages, by offset, whose read-only fields record what has happened: SRST returns them with the rest (R111). -/
def srstRecord (k : PageKind) (o : Nat) : Bool :=
  match k with
  | .sys => o = 0x4C || o = 0x50 || o = 0x5C
  | .tnd => o = 0x11C || o = 0x15C || o = 0x120 || o = 0x160 || o = 0x128 || o = 0x168
  | .lpe => o = 0x88 || o = 0x8C || o = 0x90 || o = 0x98
  | .pg => 0x80 ≤ o && o < 0x98
  | .fad => o = 0x40 || o = 0x44 || 0x100 ≤ o
  | .hka => 0x4C ≤ o
  | .pos => 0x80 ≤ o && o < 0x98
  | .saf => o = 0x84 || o = 0x8C || o = 0x90
  | .can => o = 0x4C || o = 0x54
  | .eth => o = 0x74
  | .hsp => o = 0x84 || o = 0x88
  | .rol => o = 0x48
  | .recorder => o = 0x60
  | _ => false

/-- Single fields of the same kind, in registers that show live state beside them. -/
def srstFields (k : PageKind) (n : Nat) : List Fld :=
  match k with
  | .lpe => (List.range 4).flatMap fun l => [R.LPE_LANE_CMP_CHECK_BUSY l, R.LPE_LANE_CMP_CHECK_PASS l]
  | .tnd => [R.TND_STAT_VERDICT 0, R.TND_STAT_VERDICT 1]
  | .pg => [R.PG_STAT_DENY n]
  | .pwr => [R.PWR_DETACH_STAT_DENY]
  | .hka => [R.HKA_STAT_ROUNDS]
  | .hsp => [R.HSP_STAT_TAG, R.AUXL_STAT_NEW, R.AUXL_STAT_TO_FLAG]
  | .sec => [R.SEC_ATT_CTL_DONE, R.SEC_DBG_CTL_KIND]
  | .rol => [R.ROL_CHG_STAT_DISCARD]
  | _ => []

namespace State

/-- A unit of the page is active (R111 and the page's chapter). SYS, PWR, HSP and SEC have no active condition. -/
def pageActive (s : State) (k : PageKind) (n : Nat) : Bool :=
  let ctxs := (List.range 160).any fun c => s.cstate c != 0
  match k with
  | .cad => ctxs || s.anyActive || s.frozen
  | .lpe => ctxs
  | .lpx => (List.range 16).any fun i => s.cstate (16 * n + i) != 0
  | .pg => s.gactive n
  | .ghd => (List.range 4).any fun c => s.legActive (chanLeg (4 * n + c))
  | .gld => (List.range 4).any fun i => s.legActive (0x20 + 4 * n + i)
  | .fad | .hka => s.anyArmed
  | .faq => s.on R.FAQ_CTL_EN || s.on R.FAQ_CTL_DMA_EN
  | .wma => (List.range 32).any fun m => s.on (R.WMA_CFG_EN m) && s.armed (s.fld (R.WMA_CFG_GRP m))
  | .pos => s.posMode n != 0
  | .emu => s.on (R.EMU_CFG_EN 0) || s.on (R.EMU_CFG_EN 1)
  | .trc => s.gactive (s.fld (R.TRC_CFG_GRP n)) || s.on (R.TRC_STAT_STATE n)
  | .chg => s.fld R.CHG_STAT_SESS != 0 && s.fld R.CHG_STAT_SESS != 6
  | .aux => s.fld R.AUX_STAT_STATE != 0 && s.fld R.AUX_STAT_STATE != 5
  | .act => s.gactive (s.actGrp n)
  | .drl => s.on R.DRL_STAT_BUSY
  | .saf => (List.range 12).any fun g => s.gstate g == 3
  | .sio => ((List.range 8).any fun i => s.on (R.SIO_SI_CFG_MODE i)) || ((List.range 4).any fun m => s.on (R.SIO_SO_CFG_EN m))
  | .ept => (List.range 16).any fun i => s.on (R.EPT_CFG_EN i)
  | .tnd => s.pairState 0 != 0 || s.pairState 1 != 0
  | .can => s.on (R.CAN_CTL_EN n)
  | .eth => s.on (R.ETH_CTL_EN n)
  | .rol => s.chgState != 0
  | .recorder => s.on R.REC_STAT_FLUSHING || s.on R.REC_STAT_CLEARING
  | .tmp => (List.range 8).any fun i => s.on (R.TMP_DRT_CFG_EN i)
  | .bst => s.on R.BST_STAT_BUSY
  | .nor => s.on R.NOR_STAT_BUSY
  | .sys | .pwr | .hsp | .sec => false

/-- The word a register holds after SRST (R111): RW2 fields, committed RWL fields, EPOCHs (R54) and live state stay. -/
def srstWord (s : State) (k : PageKind) (n a : Nat) : Word :=
  match rowAt a with
  | none => s.rd a
  | some r =>
    let reset := resetWord a
    let com := s.on (hdr k n 0x0C 2 1)
    let x := r.fields.foldl (fun x f =>
      let keep : Bool := f.acc = .rw2 || (f.acc = .rwl && com) || (f.acc = .ro && srstKeepsRo k && !srstRecord k (offsetIn k a))
      if keep then x else setBits x f.lo f.w (getBits reset f.lo f.w)) (s.rd a)
    let keeps : Bool := (k = .lpx && offsetIn k a = 0x40) || (k = .ept && 0x100 ≤ a % 0x1000 && (a - 0x100) % 0x40 = 0)
    if keeps then setBits x 24 8 (getBits (s.rd a) 24 8) else x

/-- SRST of an inactive page (R111): its block registers, with what the page holds behind them. CAD names its registers itself (R57); the
cause of the present start is what SYS_RST_CAUSE resets to. A buffer or stream whose address the reset changes is reassigned (R53). SRST
reads as 1 for 1 to 400 clocks, a free value (log entry 71). -/
def srst (s : State) (k : PageKind) (n : Nat) : State :=
  let regs := if k = .cad then [R.CAD_PERIOD_NEW, R.CAD_ADM_STAT, R.CAD_ADM_HYPER, R.CAD_LATE_TOTAL, R.CAD_J3_LOST]
    else (pageRegs k n).filter (· != R.SYS_RST_CAUSE)
  let s0 := s
  let s := s.each regs fun s a => s.wr a (if k = .cad then resetWord a else s.srstWord k n a)
  let s := (srstFields k n).foldl (fun s f => s.setFld f 0) s
  let s := ({ s with srstEnds := s.srstEnds.write (fun _ => 0) (hdr k n 0x08 0 1).addr (s.now + 1 + s.freeVal.toNat % 400) } : State).tookFree
  match k with
  | .fad => (s.each (List.range 32) State.clearFast).updSens fun x => { x with refBad := false }
  | .faq => (s.updSens fun x => { x with faq := [], waits := [], faqDead := false }).showFaq
  | .wma => (s.updSens fun x => { x with mon := [] }).showPt
  | .pg => s.setFld (R.PG_STAT_CFG_PEND n) (b2n (s.pgCfgPend n))
  | .lpx => s.each (List.range 16) fun s i => s.setFld (R.LPX_STATE_CFG_PEND (16 * n + i)) (b2n (s.lpxCfgPend (16 * n + i)))
  | .hsp => s.setFld R.HSP_STAT_RESULT 6
  | .can => (s.each (List.range 128) fun s i => s.canReassign n i (s0.rd (R.CAN_BUF_CFG n i)) 0)
  | .trc => s.updTrac n fun _ => {}
  | .chg => s.updChg fun _ => {}
  | .aux => s.updAux fun _ => {}
  | .act => ((s.updAct n fun _ => {}).actEval n).actShow n
  | .drl => s.updDrl fun _ => {}
  | .ept => s.each (List.range 16) fun s i => (((s.updEpt i fun _ => {}).eptReassign s0 i).eptShow i)
  | .emu => s.showEmus
  | .pwr => (s.setFld R.PWR_DETACH_CTL_REQ (b2n (s.fld R.PWR_DETACH_STAT_STATE == 1))).sensShow
  | .eth => s.updEth n fun _ => {}
  | .recorder => (s.each (List.range 32) State.histZero).each (List.range 16) State.trackZero
  | _ => s

/-! ### Headers -/

/-- PAGE_CTL (R111, R112): with full rights its RW fields, AGENT only on pages of the control plane and J2; FAQ's AGENT stands while its
fall-back is enabled (R187). SRST then resets the block registers. -/
def writePageCtl (s : State) (m : Master) (k : PageKind) (n : Nat) (v : Word) : State :=
  let a := k.page n + 0x08
  let ag := k.ownerCode = 0 || k.ownerCode = 4
  let newAg := getBits v 3 2
  if s.mayWrite m k n then
    s.checked m k n a [(ag && newAg == 3, .range), (getBits v 0 1 == 1 && s.pageActive k n, .state),
        (k = .faq && newAg != s.fld (hdr k n 0x08 3 2) && s.on R.FAQ_CTL_DMA_EN, .state)] fun s =>
      let s := s.setFld (hdr k n 0x08 1 2) (getBits v 1 2)
      let s := if ag then s.setFld (hdr k n 0x08 3 2) newAg else s
      if getBits v 0 1 = 1 then (s.setFld (hdr k n 0x08 0 1) 1).srst k n else s
  else s.ackPage m k n a [] fun s => s.setFld (hdr k n 0x08 1 2) (getBits v 1 2)

/-- PAGE_LOCK (R114, R115): MC alone writes it. -/
def writePageLock (s : State) (m : Master) (k : PageKind) (n : Nat) (v : Word) : State :=
  let a := k.page n + 0x0C
  if rights m ≠ .mc ∨ isChecker m then s.errResp m true a .owner
  else
    s.checked m k n a [(getBits v 0 1 == 1 && getBits v 8 8 != 0x5A, .key)] fun s =>
      let s := (s.setFld (hdr k n 0x0C 0 1) (getBits v 0 1)).setFld (hdr k n 0x0C 3 1) (getBits v 3 1)
      if getBits v 1 1 = 1 then s.setFld (hdr k n 0x0C 2 1) 1 else s

/-- A write to the common header (R110–R119). -/
def writeHeader (s : State) (m : Master) (k : PageKind) (n a : Nat) (v : Word) : State :=
  let all (mask : Nat) : Word := BitVec.ofNat 32 mask
  match a % 0x40 with
  | 0x08 => s.writePageCtl m k n v
  | 0x0C => s.writePageLock m k n v
  | 0x10 => s.ackPage m k n a [] fun s => s.wr a (s.rd a &&& ~~~v)
  | 0x14 => s.ackPage m k n a [] fun s => s.wr a (v &&& all k.evtMask)
  | 0x18 => s.writePage m k n a [] fun s => s.wr (k.page n + 0x10) (s.rd (k.page n + 0x10) ||| (v &&& all k.evtMask))
  | 0x1C => s.ackPage m k n a [] fun s => s.wr a (s.rd a &&& (~~~v ||| s.faultsHeld k))
  | 0x20 => s.ackPage m k n a [] fun s => s.wr a (v &&& all (faultBits k n))
  | 0x28 => s.writePage m k n a [] fun s => s.wr a (s.rd a &&& ~~~(v &&& 3))
  | _ => s.writePage m k n a [] id

/-! ### Block registers -/

/-- A write to an address of a page (R4, R12, R112, R122). -/
def writeBlock (s : State) (m : Master) (k : PageKind) (n a : Nat) (v : Word) : State :=
  match (pageRows k n).find? fun r => (r.locate (offsetIn k a)).isSome with
  | none => s.writePage m k n a [] id
  | some r =>
    let i := ((r.locate (offsetIn k a)).getD (0, 0)).1
    let w : BusWrite := ⟨m, k, n, a, i, v⟩
    match w.direct s with
    | some t => t
    | none =>
      if s.mayWrite m k n then s.regWrite w r (w.rules s) w.act
      else if s.isAgent m k n && r.fields.any (·.acc = .w1c) then
        s.checked m k n a [] fun t =>
          let t := t.storeRow r true a v
          if k = .wma then w.ackWma s t else t
      else s.errResp m true a .owner

/-- A write of a word of the CAN message RAM, which is TB's; a buffer owned by a stream refuses it (R108, R449, R453). -/
def writeCanRam (s : State) (m : Master) (a : Nat) (v : Word) : State :=
  let n := (a - 0x400B0000) / 0x4000
  let k := a % 0x4000 / 0x80
  let w := a % 0x80 / 4
  if rights m ≠ .tb ∨ isChecker m then s.errResp m true a .owner
  else if (s.canStream n k).isSome then s.errResp m true a .state
  else (if w < 18 then s.canRamWrite n k w v else s).okResp

/-- Whether an address lies in one of the windows without a header (R108). -/
def inProg (a : Nat) : Bool := 0x40020000 ≤ a && a < 0x40028000
def inTab (a : Nat) : Bool := 0x40030000 ≤ a && a < 0x40040000
def inCanRam (a : Nat) : Bool := 0x400B0000 ≤ a && a < 0x400C0000

/-- A write access of a 32-bit word anywhere in the address space, or one that is narrow or unaligned (R11, R100, R122). -/
def busWrite (s : State) (m : Master) (a : Nat) (wd : Width) (v : Word) : State :=
  let wordOnly (t : State) : State := if wd = .narrow ∨ a % 4 ≠ 0 then s.errResp m true a .width else t
  if inSram a then s.sramWrite m a 4 v.toNat
  else if inRom a || inNor a then s.errResp m true a .prot
  else if inProg a then wordOnly (s.progWrite m ((a - 0x40020000) / 4) v)
  else if inTab a then wordOnly (s.tabWrite m ((a - 0x40030000) / 4) v)
  else if inCanRam a then wordOnly (s.writeCanRam m a v)
  else match pageAt a with
    | none => s.errResp m true a .unmapped
    | some (k, n) => wordOnly (if inHeader k a then s.writeHeader m k n a v else s.writeBlock m k n a v)

/-! ### Reads -/

/-- The word a register shows: write-only fields read 0 (they are never stored), RW2 registers show the staged copy with VIEW_STAGED (R110). -/
def shown (s : State) (k : PageKind) (n a : Nat) : Word :=
  if isRw2 a && s.on (hdr k n 0x0C 3 1) then s.stagedRd a else s.rd a

/-- The side effect of a read by the page's agent (R5, R112): RC fields clear, FRESH clears (R182, R188); an Eptal delivery counts as read
with its first data word. -/
def readEffect (s : State) (k : PageKind) (n a : Nat) : State :=
  match (pageRows k n).find? fun r => (r.locate (offsetIn k a)).isSome with
  | none => s
  | some r =>
    let i := ((r.locate (offsetIn k a)).getD (0, 0)).1
    let s := s.wr a (r.fields.foldl (fun x f => if f.acc = .rc then setBits x f.lo f.w 0 else x) (s.rd a))
    if k = .hka && a == R.HKA_IN i then s.setFld (R.HKA_IN_FRESH i) 0
    else if k = .ept && a % 0x40 == 0x20 && 0x100 ≤ a % 0x1000 then s.setFld (R.EPT_STAT_FRESH i) 0
    else s

/-- A read of a page (R5). -/
def readPage (s : State) (m : Master) (k : PageKind) (n a : Nat) : State :=
  let c := (a - PageKind.lpx.base) / 0x100
  let o := a % 0x1000
  if s.srstHeld k n a then s.errResp m false a .busy
  else if s.remoteDown k n then s.accTimeout m false k n a
  else if inHeader k a then
    let d := if a % 0x40 = 0x18 then 0 else s.rd a
    let off := a % 0x40
    (if s.fullRead m k n && (off == 0x28 || off == 0x2C) then s.setFld (hdr k n off 16 16) 0 else s).okResp d
  else if a = R.FAQ_POP0 then s.faqPop m
  else if a = R.AUXL_RX1 then s.run (execAuxlRxRead m)
  else if k = .lpx ∧ a = R.LPX_CW_DATA c then s.run (execContextWordRead m (Fin.ofNat 160 c))
  else if k = .fad ∧ 0x100 ≤ o ∧ o < 0x500 ∧ o % 0x20 = R.FAD_CH_LAST 0 % 0x20 then s.run (execLastRead m (Fin.ofNat 32 (o / 0x20 - 8)))
  else
    let d := s.shown k n a
    (if s.fullRead m k n then s.readEffect k n a else s).okResp d

/-- The bytes of an access lie in one region of R100. -/
def spans (inR : Nat → Bool) (a n : Nat) : Bool := inR a && inR (a + n - 1)

/-- A read of `n` bytes anywhere in the address space (R100–R106, R108); a register or window answers aligned words alone (R11). -/
def busRead (s : State) (m : Master) (a n : Nat) : State :=
  let wordOnly (t : State) : State := if n ≠ 4 ∨ a % 4 ≠ 0 then s.errResp m false a .width else t
  if spans inSram a n then s.sramRead m a n
  else if spans inRom a n then s.okResp (BitVec.ofNat 32 (s.le a n))
  else if spans inNor a n then s.norRead m a n
  else if inSram a || inRom a || inNor a then s.errResp m false a .unmapped
  else if inProg a then
    let i := (a - 0x40020000) / 4
    wordOnly ((s.engineReads (· == a)).okResp (BitVec.ofNat 32 ((s.prog.read (fun _ => 0) (i / 2)).toNat / 2 ^ (32 * (i % 2)))))
  else if inTab a then wordOnly ((s.engineReads (· == a)).okResp (s.tabWord ((a - 0x40030000) / 4)))
  else if inCanRam a then wordOnly (s.okResp (s.canA ((a - 0x400B0000) / 0x4000) (a % 0x4000 / 0x80) (a % 0x80 / 4)))
  else match pageAt a with
    | none => s.errResp m false a .unmapped
    | some (k, n) => wordOnly (s.readPage m k n a)

/-! ### Debugger accesses -/

/-- The access of SEC_DBG_CTL.GO (R439, R504): with the rights of the halted pair, memory and pages by address, or a register of its main core.
A register that the debugger has written holds that word; the cores' own contents are not the block's, and read as free values. -/
def debugAccess (s : State) (p op : Nat) : State :=
  let m : Master := .dbg (if p = 0 then .ta else .tb)
  let a := (s.rd R.SEC_DBG_ADDR).toNat
  let t :=
    match op with
    | 0 => s.busRead m a 4
    | 1 => s.busWrite m a .word (s.rd R.SEC_DBG_DATA)
    | 2 =>
      match ((s.tndRec p).replay.reverse.find? fun (e : Nat × Word) => e.1 == a) with
      | some e => s.okResp e.2
      | none => (s.okResp s.freeVal).tookFree
    | _ => s.dbgWrite p a (s.rd R.SEC_DBG_DATA)
  let t' := if (op = 0 ∨ op = 2) ∧ t.resp.kind = 0 then t.wr R.SEC_DBG_DATA t.resp.data else t
  (t'.setFld R.SEC_DBG_CTL_KIND t.resp.kind).okResp

/-- A write of SEC_DBG_CTL.GO = 1 for a pair and an operation: only while debug is open and the pair is halted. -/
def debugGo (s : State) (m : Master) (p op : Nat) : State :=
  let s' := s.write m R.SEC_DBG_CTL [(!s.on R.SEC_DBG_CTL_OPENED || !s.on (R.TND_STAT_HALTED p), .state)] fun s =>
    (s.setFld R.SEC_DBG_CTL_PAIR p).setFld R.SEC_DBG_CTL_OP op
  if s'.resp.kind = 0 then s'.debugAccess p op else s'

/-- A write access with everything it starts: a write of SEC_DBG_CTL with GO = 1 makes the debugger's access last. -/
def access (s : State) (m : Master) (a : Nat) (wd : Width) (v : Word) : State :=
  let t := s.busWrite m a wd v
  if a = R.SEC_DBG_CTL ∧ wd = .word ∧ getBits v 7 1 = 1 ∧ t.resp.kind = 0 then
    let u := t.debugGo m (getBits v 3 1) (getBits v 8 2)
    match errKindOf u.resp.kind with
    | some e => s.errResp m true a e
    | none => u
  else t

end State

/-! ### Commands -/

/-- A write to a register (R4, R11, R12, R122). -/
def execRegisterWrite (m : Master) (addr : Word) (width : Width) (v : Word) (s : State) : Out := .next (s.access m addr.toNat width v)

/-- An access gets no answer within 2 µs (R123); `wr` is a write's data, `took` says that the write reached the die before its link was lost.
An access that fails the controller's own checks returns that error instead. -/
def execAccessTimeout (m : Master) (addr : Word) (wr : Option Word) (took : Bool) (s : State) : Out :=
  .next (
    let a := addr.toNat
    match pageAt a with
    | none => s.errResp m wr.isSome a .unmapped
    | some (k, n) =>
      match wr with
      | none => if a % 4 ≠ 0 then s.errResp m false a .width else s.accTimeout m false k n a
      | some v =>
        let t := s.busWrite m a .word v
        if t.resp.kind ≠ 0 then t else (if took then t else s).accTimeout m true k n a)

/-- A write of PAGE_CTL with SRST = 1 on the page of an address (R111). -/
def execPageSrst (m : Master) (page v : Word) (s : State) : Out :=
  .next (match pageAt page.toNat with
    | none => s.errResp m true page.toNat .unmapped
    | some (k, n) => s.writePageCtl m k n (v ||| 1))

/-- A write of PAGE_LOCK on the page of an address (R114). -/
def execPageLockWrite (m : Master) (page v : Word) (s : State) : Out :=
  .next (match pageAt page.toNat with
    | none => s.errResp m true page.toNat .unmapped
    | some (k, n) => s.writePageLock m k n v)

/-- A write of PAGE_LOCK with COMMIT = 1 (R115). -/
def execPageCommit (m : Master) (page v : Word) (s : State) : Out :=
  .next (match pageAt page.toNat with
    | none => s.errResp m true page.toNat .unmapped
    | some (k, n) => s.writePageLock m k n (v ||| 2))

/-- A write of EVT_SET on the page of an address (R118). -/
def execEvtSetWrite (m : Master) (page v : Word) (s : State) : Out :=
  .next (match pageAt page.toNat with
    | none => s.errResp m true page.toNat .unmapped
    | some (k, n) => s.writeHeader m k n (k.page n + 0x18) v)

/-- A write of an RW2 field (R116). -/
def execStagedWrite (m : Master) (addr v : Word) (s : State) : Out := .next (s.access m addr.toNat .word v)

/-- A write of 1, 2 or 4 bytes to memory (R101, R104, R105); elsewhere it is a register access (R11). -/
def execMemoryWrite (m : Master) (addr : Word) (bytes : Fin 3) (v : Word) (s : State) : Out :=
  .next (
    let a := addr.toNat
    if inSram a then s.sramWrite m a (2 ^ bytes.val) v.toNat
    else if inRom a || inNor a then s.errResp m true a .prot
    else s.access m a (if bytes.val = 2 then .word else .narrow) v)

/-- A read of 1, 2 or 4 bytes, of SRAM above all (R101, R102, R106), and of any other region as the master sees it (R5, R100, R104, R105,
R112); the operand is an SRAM error that has come up. -/
def execSramRead (m : Master) (addr : Word) (bytes : Fin 3) (ecc : Ecc) (s : State) : Out :=
  .next ((s.strikeSram ecc).busRead m addr.toNat (2 ^ bytes.val))

/-- A read of 1, 2 or 4 bytes of the NOR window (R105), and of any other region as the master sees it. -/
def execNorWindowRead (m : Master) (addr : Word) (bytes : Fin 3) (s : State) : Out := .next (s.busRead m addr.toNat (2 ^ bytes.val))

/-- A write of SEC_DBG_CTL.GO = 1 (R504). -/
def execDebugAccess (m : Master) (p : Fin 2) (op : Fin 4) (s : State) : Out := .next (s.debugGo m p op)

end Sys2Proof.Machine
end

