-- ==== Sys2Proof/Machine/HostPort.lean ====
section
/-!
DEFINITION. The host port (R462–R465): its frames, the responses they carry back and the transaction timeout.
-/
namespace Sys2Proof.Machine

/-- Location of the host port's events (chapter 14). -/
def locHsp : Nat := locBlk 1 0x26

namespace State

def updHsp (s : State) (f : HspRec → HspRec) : State := { s with net := { s.net with hsp := f s.net.hsp } }

/-- A response other than OK, PENDING and NONE sets HSP_ERR and posts event 0x1160, whose data the manual leaves open (R464). -/
def hspErr (s : State) (result : Nat) : State :=
  if result = 0 ∨ result = 1 ∨ result = 6 then s else (s.evt .hsp 0 E.HSP_HSP_ERR).postOpen 0x1160 locHsp

/-- A response becomes due, behind those that wait or, for a refused request, ahead of them (R463). -/
def hspDue (s : State) (front : Bool) (a : HspAns) : State :=
  (s.updHsp fun h => { h with due := if front then a :: h.due else h.due ++ [a] }).hspErr a.result

/-- MISO of a frame, latched as it begins (R462, R463): PENDING while the previous access runs, else the response that is due, else NONE;
nothing while a detach of X1 holds the pin at high impedance (R90). -/
def hspMiso (s : State) (pend : Bool) : State :=
  let a : HspAns := match s.net.hsp.due with
    | [] => ⟨6, 0, 0⟩
    | a :: _ => if pend then ⟨1, a.tag, 0⟩ else a
  let d := a.data.toNat
  let b (x : Nat) : Byte := BitVec.ofNat 8 x
  let bytes : List Byte := [b (a.result * 16 + a.tag), b (d / 2 ^ 24), b (d / 2 ^ 16), b (d / 2 ^ 8), b d, b (s.rd (PageKind.hsp.page 0 + 0x10)).toNat, 0, 0, 0]
  let s := s.updHsp fun h => { h with miso := if s.detachingX1 then [] else bytes ++ [b (crc8 bytes)], due := if pend then h.due else h.due.drop 1 }
  (s.setFld R.HSP_STAT_RESULT a.result).setFld R.HSP_STAT_TAG a.tag

/-- The response to an access: OK with its data, or ERROR with the kind (R462, R464). -/
def hspAnswer (s : State) (tag : Nat) : State :=
  s.hspDue false ⟨if s.resp.kind = 0 then 0 else 2, tag, if s.resp.kind = 0 then s.resp.data else BitVec.ofNat 32 s.resp.kind⟩

/-- A frame of the host (R462–R464): MISO goes out, then a discarded frame or a refused request leaves its result, and a request runs its
access at the end of the frame. A frame can begin before the previous access has completed only while a response is due. -/
def hspFrame (s : State) (f : HspFrame) (pend : Bool) (tag : Nat) (request : Bool) (acc : State → State) : State :=
  if s.shed || !s.on R.HSP_CTL_EN then s
  else
    let p := pend && !s.net.hsp.due.isEmpty
    let s := s.hspMiso p
    match f with
    | .crc => (s.inc R.HSP_CNT_CRC_ERR).hspDue false ⟨3, tag, 0⟩
    | .length => (s.inc R.HSP_CNT_LEN_ERR).hspDue false ⟨4, tag, 0⟩
    | .good =>
      if !request then s
      else if p then (s.inc R.HSP_CNT_BUSY_REJ).hspDue true ⟨7, tag, 0⟩
      else (acc s).hspAnswer tag

end State

/-- A READ frame (R463). -/
def execHspRead (f : HspFrame) (pend : Bool) (tag : Fin 16) (addr : Word) (s : State) : Out :=
  .next (s.hspFrame f pend tag true fun s => s.busRead .hsp addr.toNat 4)

/-- A WRITE frame (R463). -/
def execHspWrite (f : HspFrame) (pend : Bool) (tag : Fin 16) (addr v : Word) (s : State) : Out :=
  .next (s.hspFrame f pend tag true fun s => s.access .hsp addr.toNat .word v)

/-- A NOP frame carries only the previous response (R462). -/
def execHspNop (f : HspFrame) (pend : Bool) (tag : Fin 16) (s : State) : Out := .next (s.hspFrame f pend tag false id)

/-- A transaction exceeds 100 µs (R465): its response is discarded and the next carries TIMEOUT with its TAG; `tag` is that of a request
frame that is discarded because it lasted too long itself. -/
def execHspTimeout (tag : Fin 16) (s : State) : Out :=
  .next (if !s.on R.HSP_CTL_EN then s
    else
      let s := (s.opTo .hsp 0).inc R.HSP_CNT_TIMEOUT
      match s.net.hsp.due with
      | [] => s.hspDue false ⟨5, tag, 0⟩
      | a :: rest => (s.updHsp fun h => { h with due := rest }).hspDue true ⟨5, a.tag, 0⟩)

end Sys2Proof.Machine
end

