-- ==== Sys2Proof/Machine/Dispatch.lean ====
section
/-!
DEFINITION. The meaning of every command: one arm per constructor of Instr, each one direct call.
-/
namespace Sys2Proof.Machine

/-- The effect of a command on everything but the queue. -/
def exec (i : Instr) (s : State) : Host.Outcome State Fault Refusal :=
  match i with
  | .powerOnReset dies => Sys2Proof.Machine.execPowerOnReset dies s
  | .resetRelease ctlOk fails => Sys2Proof.Machine.execResetRelease ctlOk fails s
  | .wake => Sys2Proof.Machine.execWake s
  | .warmReset m key => Sys2Proof.Machine.execWarmReset m key s
  | .tickBoundary => Sys2Proof.Machine.execTickBoundary s
  | .tickMismatch => Sys2Proof.Machine.execTickMismatch s
  | .admissionRequest m => Sys2Proof.Machine.execAdmissionRequest m s
  | .admissionCheckDone => Sys2Proof.Machine.execAdmissionCheckDone s
  | .tickRunDispatch lane ecc => Sys2Proof.Machine.execTickRunDispatch lane ecc s
  | .runComplete lane => Sys2Proof.Machine.execRunComplete lane s
  | .runDeadlineAbort lane crit => Sys2Proof.Machine.execRunDeadlineAbort lane crit s
  | .contextDropFault c => Sys2Proof.Machine.execContextDropFault c s
  | .mailboxWordWrite m c k v => Sys2Proof.Machine.execMailboxWordWrite m c k v s
  | .mailboxCommit m c epoch => Sys2Proof.Machine.execMailboxCommit m c epoch s
  | .j3LostReport => Sys2Proof.Machine.execJ3LostReport s
  | .registerWrite m addr width v => Sys2Proof.Machine.execRegisterWrite m addr width v s
  | .accessTimeout m addr wr took => Sys2Proof.Machine.execAccessTimeout m addr wr took s
  | .pageSrst m page v => Sys2Proof.Machine.execPageSrst m page v s
  | .pageLockWrite m page v => Sys2Proof.Machine.execPageLockWrite m page v s
  | .pageCommit m page v => Sys2Proof.Machine.execPageCommit m page v s
  | .evtSetWrite m page v => Sys2Proof.Machine.execEvtSetWrite m page v s
  | .stagedWrite m addr v => Sys2Proof.Machine.execStagedWrite m addr v s
  | .sramRead m addr bytes ecc => Sys2Proof.Machine.execSramRead m addr bytes ecc s
  | .memoryWrite m addr bytes v => Sys2Proof.Machine.execMemoryWrite m addr bytes v s
  | .norWindowRead m addr bytes => Sys2Proof.Machine.execNorWindowRead m addr bytes s
  | .pfWarnFalling => Sys2Proof.Machine.execPfWarnFalling s
  | .pfWarnCleared => Sys2Proof.Machine.execPfWarnCleared s
  | .uvOff => Sys2Proof.Machine.execUvOff s
  | .pfFlushEnd => Sys2Proof.Machine.execPfFlushEnd s
  | .flushRestart => Sys2Proof.Machine.execFlushRestart s
  | .holdupCutoff written => Sys2Proof.Machine.execHoldupCutoff written s
  | .vlvHigh => Sys2Proof.Machine.execVlvHigh s
  | .holdupCharged => Sys2Proof.Machine.execHoldupCharged s
  | .holdupMeasured cap => Sys2Proof.Machine.execHoldupMeasured cap s
  | .backupFail => Sys2Proof.Machine.execBackupFail s
  | .gatePwrHigh avg => Sys2Proof.Machine.execGatePwrHigh avg s
  | .gateOverload => Sys2Proof.Machine.execGateOverload s
  | .sensOc k => Sys2Proof.Machine.execSensOc k s
  | .x2Attach => Sys2Proof.Machine.execX2Attach s
  | .x1LoopOpen => Sys2Proof.Machine.execX1LoopOpen s
  | .x2LoopOpen => Sys2Proof.Machine.execX2LoopOpen s
  | .detachRequest m x2 => Sys2Proof.Machine.execDetachRequest m x2 s
  | .detachReady => Sys2Proof.Machine.execDetachReady s
  | .detachCancel m => Sys2Proof.Machine.execDetachCancel m s
  | .detachTimeout => Sys2Proof.Machine.execDetachTimeout s
  | .reissue lane => Sys2Proof.Machine.execReissue lane s
  | .laneFault lane => Sys2Proof.Machine.execLaneFault lane s
  | .laneCheck m lane => Sys2Proof.Machine.execLaneCheck m lane s
  | .laneCheckDone lane pass => Sys2Proof.Machine.execLaneCheckDone lane pass s
  | .stateRequest m c req => Sys2Proof.Machine.execStateRequest m c req s
  | .followingErrorTrip c => Sys2Proof.Machine.execFollowingErrorTrip c s
  | .contextWordWrite m c v => Sys2Proof.Machine.execContextWordWrite m c v s
  | .contextWordRead m c => Sys2Proof.Machine.execContextWordRead m c s
  | .engineConstantWrite m k v => Sys2Proof.Machine.execEngineConstantWrite m k v s
  | .programMemoryWrite m k v => Sys2Proof.Machine.execProgramMemoryWrite m k v s
  | .tableMemoryWrite m k v => Sys2Proof.Machine.execTableMemoryWrite m k v s
  | .validationStart m start len => Sys2Proof.Machine.execValidationStart m start len s
  | .validationDone => Sys2Proof.Machine.execValidationDone s
  | .dutyPortApply lane => Sys2Proof.Machine.execDutyPortApply lane s
  | .undefinedInstruction lane => Sys2Proof.Machine.execUndefinedInstruction lane s
  | .nop lane => Sys2Proof.Machine.execNop lane s
  | .mov lane => Sys2Proof.Machine.execMov lane s
  | .add lane => Sys2Proof.Machine.execAdd lane s
  | .sub lane => Sys2Proof.Machine.execSub lane s
  | .mul lane => Sys2Proof.Machine.execMul lane s
  | .mac lane => Sys2Proof.Machine.execMac lane s
  | .msb lane => Sys2Proof.Machine.execMsb lane s
  | .neg lane => Sys2Proof.Machine.execNeg lane s
  | .abs lane => Sys2Proof.Machine.execAbs lane s
  | .min lane => Sys2Proof.Machine.execMin lane s
  | .max lane => Sys2Proof.Machine.execMax lane s
  | .clamp lane => Sys2Proof.Machine.execClamp lane s
  | .lerp lane => Sys2Proof.Machine.execLerp lane s
  | .rate lane => Sys2Proof.Machine.execRate lane s
  | .wrap lane => Sys2Proof.Machine.execWrap lane s
  | .rcp lane => Sys2Proof.Machine.execRcp lane s
  | .rsq lane => Sys2Proof.Machine.execRsq lane s
  | .div lane => Sys2Proof.Machine.execDiv lane s
  | .sqrt lane => Sys2Proof.Machine.execSqrt lane s
  | .hyp lane => Sys2Proof.Machine.execHyp lane s
  | .atan2 lane => Sys2Proof.Machine.execAtan2 lane s
  | .sincos lane => Sys2Proof.Machine.execSincos lane s
  | .cvti lane => Sys2Proof.Machine.execCvti lane s
  | .cvtf lane => Sys2Proof.Machine.execCvtf lane s
  | .cmplt lane => Sys2Proof.Machine.execCmplt lane s
  | .cmple lane => Sys2Proof.Machine.execCmple lane s
  | .cmpeq lane => Sys2Proof.Machine.execCmpeq lane s
  | .cmpag lane => Sys2Proof.Machine.execCmpag lane s
  | .pandlt lane => Sys2Proof.Machine.execPandlt lane s
  | .porlt lane => Sys2Proof.Machine.execPorlt lane s
  | .sel lane => Sys2Proof.Machine.execSel lane s
  | .btst lane => Sys2Proof.Machine.execBtst lane s
  | .and lane => Sys2Proof.Machine.execAnd lane s
  | .or lane => Sys2Proof.Machine.execOr lane s
  | .xor lane => Sys2Proof.Machine.execXor lane s
  | .shr lane => Sys2Proof.Machine.execShr lane s
  | .clk3 lane => Sys2Proof.Machine.execClk3 lane s
  | .vsd6 lane => Sys2Proof.Machine.execVsd6 lane s
  | .park lane => Sys2Proof.Machine.execPark lane s
  | .ipark lane => Sys2Proof.Machine.execIpark lane s
  | .parksc lane => Sys2Proof.Machine.execParksc lane s
  | .iparksc lane => Sys2Proof.Machine.execIparksc lane s
  | .pic lane => Sys2Proof.Machine.execPic lane s
  | .svm lane => Sys2Proof.Machine.execSvm lane s
  | .lut1 lane => Sys2Proof.Machine.execLut1 lane s
  | .lut2 lane => Sys2Proof.Machine.execLut2 lane s
  | .conversionEnd codes => Sys2Proof.Machine.execConversionEnd codes s
  | .longWindowClose src => Sys2Proof.Machine.execLongWindowClose src s
  | .windowAverageDelivery src ecc => Sys2Proof.Machine.execWindowAverageDelivery src ecc s
  | .referenceSelect m sel => Sys2Proof.Machine.execReferenceSelect m sel s
  | .referenceReady meas => Sys2Proof.Machine.execReferenceReady meas s
  | .refFail meas => Sys2Proof.Machine.execRefFail meas s
  | .lastRead m ch => Sys2Proof.Machine.execLastRead m ch s
  | .faqPop m => Sys2Proof.Machine.execFaqPop m s
  | .faqDiscard m => Sys2Proof.Machine.execFaqDiscard m s
  | .faqFallbackWrite => Sys2Proof.Machine.execFaqFallbackWrite s
  | .hkRoundStart => Sys2Proof.Machine.execHkRoundStart s
  | .hkSlotEnd code0 code1 => Sys2Proof.Machine.execHkSlotEnd code0 code1 s
  | .hkStall conv => Sys2Proof.Machine.execHkStall conv s
  | .monitorTrip k hi ch x => Sys2Proof.Machine.execMonitorTrip k hi ch x s
  | .monitorRelease k hi ch x => Sys2Proof.Machine.execMonitorRelease k hi ch x s
  | .monitorResolve k hi ch x => Sys2Proof.Machine.execMonitorResolve k hi ch x s
  | .monitorSwapCheck m k => Sys2Proof.Machine.execMonitorSwapCheck m k s
  | .monitorTieCheck m k => Sys2Proof.Machine.execMonitorTieCheck m k s
  | .monitorCheckDone k pass => Sys2Proof.Machine.execMonitorCheckDone k pass s
  | .carrierPeriodStart g => Sys2Proof.Machine.execCarrierPeriodStart g s
  | .halfPeriodPoint g => Sys2Proof.Machine.execHalfPeriodPoint g s
  | .cntMismatch g => Sys2Proof.Machine.execCntMismatch g s
  | .edgeDue g slot => Sys2Proof.Machine.execEdgeDue g slot s
  | .arm m g => Sys2Proof.Machine.execArm m g s
  | .armingComplete g => Sys2Proof.Machine.execArmingComplete g s
  | .armingAbort g => Sys2Proof.Machine.execArmingAbort g s
  | .disarm m g => Sys2Proof.Machine.execDisarm m g s
  | .disarmTakeEffect g => Sys2Proof.Machine.execDisarmTakeEffect g s
  | .idleFrame k noise hot => Sys2Proof.Machine.execIdleFrame k noise hot s
  | .edgeFrame k n lag noise hot => Sys2Proof.Machine.execEdgeFrame k n lag noise hot s
  | .safeFrame k noise hot => Sys2Proof.Machine.execSafeFrame k noise hot s
  | .regFrame k crcOk => Sys2Proof.Machine.execRegFrame k crcOk s
  | .cfgFrame k crcOk => Sys2Proof.Machine.execCfgFrame k crcOk s
  | .statusFrame k sel v meas => Sys2Proof.Machine.execStatusFrame k sel v meas s
  | .dieLinkLoss k hot => Sys2Proof.Machine.execDieLinkLoss k hot s
  | .controllerLinkLoss k => Sys2Proof.Machine.execControllerLinkLoss k s
  | .linkTrained k => Sys2Proof.Machine.execLinkTrained k s
  | .linkCalDone k trim => Sys2Proof.Machine.execLinkCalDone k trim s
  | .linkRestart m k => Sys2Proof.Machine.execLinkRestart m k s
  | .regionMismatch k q => Sys2Proof.Machine.execRegionMismatch k q s
  | .dsatTrip c => Sys2Proof.Machine.execDsatTrip c s
  | .twoStepHoldEnd c => Sys2Proof.Machine.execTwoStepHoldEnd c s
  | .supplyUvlo c pos low => Sys2Proof.Machine.execSupplyUvlo c pos low s
  | .readySet c => Sys2Proof.Machine.execReadySet c s
  | .clampOn c => Sys2Proof.Machine.execClampOn c s
  | .channelPwrHigh c avg => Sys2Proof.Machine.execChannelPwrHigh c avg s
  | .channelPwrTrip c => Sys2Proof.Machine.execChannelPwrTrip c s
  | .tripLatchClear m c dsat pwr => Sys2Proof.Machine.execTripLatchClear m c dsat pwr s
  | .bootstrapUvlo l vbst => Sys2Proof.Machine.execBootstrapUvlo l vbst s
  | .lvDieSupplyFault k vbr bad => Sys2Proof.Machine.execLvDieSupplyFault k vbr bad s
  | .refreshPulse l => Sys2Proof.Machine.execRefreshPulse l s
  | .refreshPulseEnd l => Sys2Proof.Machine.execRefreshPulseEnd l s
  | .chopperSample => Sys2Proof.Machine.execChopperSample s
  | .chopperFault whileOff => Sys2Proof.Machine.execChopperFault whileOff s
  | .speedFreewheelChange g => Sys2Proof.Machine.execSpeedFreewheelChange g s
  | .quadratureEdge p l => Sys2Proof.Machine.execQuadratureEdge p l s
  | .illegalTransition p l => Sys2Proof.Machine.execIllegalTransition p l s
  | .illWindowEnd p => Sys2Proof.Machine.execIllWindowEnd p s
  | .indexPulse p l => Sys2Proof.Machine.execIndexPulse p l s
  | .hallEdge p l => Sys2Proof.Machine.execHallEdge p l s
  | .resolverResult p cur => Sys2Proof.Machine.execResolverResult p cur s
  | .serialWord p line => Sys2Proof.Machine.execSerialWord p line s
  | .serialWordTimeout p => Sys2Proof.Machine.execSerialWordTimeout p s
  | .standstill p => Sys2Proof.Machine.execStandstill p s
  | .posRestart m p wireOk => Sys2Proof.Machine.execPosRestart m p wireOk s
  | .sensorFault p cause => Sys2Proof.Machine.execSensorFault p cause s
  | .emuStep e => Sys2Proof.Machine.execEmuStep e s
  | .emuEnable m e v => Sys2Proof.Machine.execEmuEnable m e v s
  | .trcDeclaration n => Sys2Proof.Machine.execTrcDeclaration n s
  | .dropModeChange n => Sys2Proof.Machine.execDropModeChange n s
  | .degradeWarning n => Sys2Proof.Machine.execDegradeWarning n s
  | .degradeExpiry n => Sys2Proof.Machine.execDegradeExpiry n s
  | .trcClear m n => Sys2Proof.Machine.execTrcClear m n s
  | .keIdentification n => Sys2Proof.Machine.execKeIdentification n s
  | .keRestart m n => Sys2Proof.Machine.execKeRestart m n s
  | .chgEnable m v => Sys2Proof.Machine.execChgEnable m v s
  | .cpEdge rising => Sys2Proof.Machine.execCpEdge rising s
  | .cpOscTimeout => Sys2Proof.Machine.execCpOscTimeout s
  | .cpCapture high code => Sys2Proof.Machine.execCpCapture high code s
  | .cpStateChange => Sys2Proof.Machine.execCpStateChange s
  | .ppRatingChange => Sys2Proof.Machine.execPpRatingChange s
  | .handshakeTimeout t => Sys2Proof.Machine.execHandshakeTimeout t s
  | .gridZeroCrossing => Sys2Proof.Machine.execGridZeroCrossing s
  | .gridOkSet => Sys2Proof.Machine.execGridOkSet s
  | .gridVoltageTrip phase high => Sys2Proof.Machine.execGridVoltageTrip phase high s
  | .gridFrequencyTrip kind => Sys2Proof.Machine.execGridFrequencyTrip kind s
  | .powerLimitTrip direction => Sys2Proof.Machine.execPowerLimitTrip direction s
  | .driveInterlock g => Sys2Proof.Machine.execDriveInterlock g s
  | .auxEnable m v => Sys2Proof.Machine.execAuxEnable m v s
  | .auxTestPulseEnd => Sys2Proof.Machine.execAuxTestPulseEnd s
  | .auxSoftStartLimit => Sys2Proof.Machine.execAuxSoftStartLimit s
  | .auxSoftStartTimeout => Sys2Proof.Machine.execAuxSoftStartTimeout s
  | .auxOverload => Sys2Proof.Machine.execAuxOverload s
  | .auxHiccupEnd => Sys2Proof.Machine.execAuxHiccupEnd s
  | .auxRunStable => Sys2Proof.Machine.execAuxRunStable s
  | .auxlCommandFrame bytes framing => Sys2Proof.Machine.execAuxlCommandFrame bytes framing s
  | .auxlRxRead m => Sys2Proof.Machine.execAuxlRxRead m s
  | .auxlLinkTimeout => Sys2Proof.Machine.execAuxlLinkTimeout s
  | .auxlAckSend m => Sys2Proof.Machine.execAuxlAckSend m s
  | .auxlTxDone => Sys2Proof.Machine.execAuxlTxDone s
  | .actEnable m n v => Sys2Proof.Machine.execActEnable m n v s
  | .actHallEdge n hall => Sys2Proof.Machine.execActHallEdge n hall s
  | .actHallFault n => Sys2Proof.Machine.execActHallFault n s
  | .actSwSample n a b c => Sys2Proof.Machine.execActSwSample n a b c s
  | .actDesync n => Sys2Proof.Machine.execActDesync n s
  | .actSpeedTimeout n => Sys2Proof.Machine.execActSpeedTimeout n s
  | .actPrechargeEnd n => Sys2Proof.Machine.execActPrechargeEnd n s
  | .actObserveEnd n => Sys2Proof.Machine.execActObserveEnd n s
  | .actRevbrakeEnd n => Sys2Proof.Machine.execActRevbrakeEnd n s
  | .actCatchTimeout n => Sys2Proof.Machine.execActCatchTimeout n s
  | .actAlignEnd n => Sys2Proof.Machine.execActAlignEnd n s
  | .actRampEnd n => Sys2Proof.Machine.execActRampEnd n s
  | .actRetryEnd n => Sys2Proof.Machine.execActRetryEnd n s
  | .actRunStable n => Sys2Proof.Machine.execActRunStable n s
  | .actStall n => Sys2Proof.Machine.execActStall n s
  | .actEmfFault n => Sys2Proof.Machine.execActEmfFault n s
  | .actZero m n => Sys2Proof.Machine.execActZero m n s
  | .parkSlip n => Sys2Proof.Machine.execParkSlip n s
  | .shiftGo m start => Sys2Proof.Machine.execShiftGo m start s
  | .shiftAbort m => Sys2Proof.Machine.execShiftAbort m s
  | .shiftStepTimeout => Sys2Proof.Machine.execShiftStepTimeout s
  | .faultLineRaise lines => Sys2Proof.Machine.execFaultLineRaise lines s
  | .pendingClear m k v => Sys2Proof.Machine.execPendingClear m k v s
  | .holdMaxExpiry g => Sys2Proof.Machine.execHoldMaxExpiry g s
  | .release m groups => Sys2Proof.Machine.execRelease m groups s
  | .faultInject m line key => Sys2Proof.Machine.execFaultInject m line key s
  | .safetyInputChange n a b together => Sys2Proof.Machine.execSafetyInputChange n a b together s
  | .siDiscrepancy n => Sys2Proof.Machine.execSiDiscrepancy n s
  | .siTestPulse n srcB aLow bLow => Sys2Proof.Machine.execSiTestPulse n srcB aLow bLow s
  | .siReset m n => Sys2Proof.Machine.execSiReset m n s
  | .soHighSideClose m => Sys2Proof.Machine.execSoHighSideClose m s
  | .soSwitchTest m low hsNode lsNode => Sys2Proof.Machine.execSoSwitchTest m low hsNode lsNode s
  | .soTestEnd m hsNode lsNode => Sys2Proof.Machine.execSoTestEnd m hsNode lsNode s
  | .soOvercurrent m => Sys2Proof.Machine.execSoOvercurrent m s
  | .soDegradeExpiry m => Sys2Proof.Machine.execSoDegradeExpiry m s
  | .soReset m k => Sys2Proof.Machine.execSoReset m k s
  | .eptalSend m k epoch => Sys2Proof.Machine.execEptalSend m k epoch s
  | .eptalSendMiss k pathB => Sys2Proof.Machine.execEptalSendMiss k pathB s
  | .eptalCopy k pathB bytes => Sys2Proof.Machine.execEptalCopy k pathB bytes s
  | .eptalWindowExpiry k => Sys2Proof.Machine.execEptalWindowExpiry k s
  | .eptalSingleExpiry k => Sys2Proof.Machine.execEptalSingleExpiry k s
  | .eptalDeliveryTimeout k => Sys2Proof.Machine.execEptalDeliveryTimeout k s
  | .eptalReset m k => Sys2Proof.Machine.execEptalReset m k s
  | .gateMismatch p addr write fold => Sys2Proof.Machine.execGateMismatch p addr write fold s
  | .stateFold p diff => Sys2Proof.Machine.execStateFold p diff s
  | .foldRequest m p => Sys2Proof.Machine.execFoldRequest m p s
  | .cacheEccError p chk data double => Sys2Proof.Machine.execCacheEccError p chk data double s
  | .assayVerdict p main chk => Sys2Proof.Machine.execAssayVerdict p main chk s
  | .assayTimeout p => Sys2Proof.Machine.execAssayTimeout p s
  | .restartFetch p => Sys2Proof.Machine.execRestartFetch p s
  | .scWarning p => Sys2Proof.Machine.execScWarning p s
  | .scExpiry p => Sys2Proof.Machine.execScExpiry p s
  | .assayRequest m p => Sys2Proof.Machine.execAssayRequest m p s
  | .splitRequest m p => Sys2Proof.Machine.execSplitRequest m p s
  | .splitSync p diff => Sys2Proof.Machine.execSplitSync p diff s
  | .splitTimeout p => Sys2Proof.Machine.execSplitTimeout p s
  | .rejoinRequest m p => Sys2Proof.Machine.execRejoinRequest m p s
  | .rejoinSync p => Sys2Proof.Machine.execRejoinSync p s
  | .rejoinCopyDone p diff => Sys2Proof.Machine.execRejoinCopyDone p diff s
  | .rejoinTimeout p => Sys2Proof.Machine.execRejoinTimeout p s
  | .debugHalt m p diff => Sys2Proof.Machine.execDebugHalt m p diff s
  | .debugResume m p diff => Sys2Proof.Machine.execDebugResume m p diff s
  | .debugStep m p diff => Sys2Proof.Machine.execDebugStep m p diff s
  | .debugStateWrite p reg v => Sys2Proof.Machine.execDebugStateWrite p reg v s
  | .canStartOfFrame n => Sys2Proof.Machine.execCanStartOfFrame n s
  | .canFrameReceived n f => Sys2Proof.Machine.execCanFrameReceived n f s
  | .canTxDone n dly => Sys2Proof.Machine.execCanTxDone n dly s
  | .canTxError n lost err dphase collision counted dly => Sys2Proof.Machine.execCanTxError n lost err dphase collision counted dly s
  | .canBusOff n => Sys2Proof.Machine.execCanBusOff n s
  | .canRecover m n => Sys2Proof.Machine.execCanRecover m n s
  | .canRecoveryDone n => Sys2Proof.Machine.execCanRecoveryDone n s
  | .canCommit m n k epoch => Sys2Proof.Machine.execCanCommit m n k epoch s
  | .canCancel m n k won => Sys2Proof.Machine.execCanCancel m n k won s
  | .canLock m n k => Sys2Proof.Machine.execCanLock m n k s
  | .canRelease m n k => Sys2Proof.Machine.execCanRelease m n k s
  | .canBufferConfig m n k v receiving => Sys2Proof.Machine.execCanBufferConfig m n k v receiving s
  | .canDominantTimeout n => Sys2Proof.Machine.execCanDominantTimeout n s
  | .ethFrameReceived n bytes fcsOk ecc => Sys2Proof.Machine.execEthFrameReceived n bytes fcsOk ecc s
  | .ethTxKick m n ecc => Sys2Proof.Machine.execEthTxKick m n ecc s
  | .ethTxDone n ecc => Sys2Proof.Machine.execEthTxDone n ecc s
  | .ethLinkChange n up sqi => Sys2Proof.Machine.execEthLinkChange n up sqi s
  | .hspRead f pend tag addr => Sys2Proof.Machine.execHspRead f pend tag addr s
  | .hspWrite f pend tag addr v => Sys2Proof.Machine.execHspWrite f pend tag addr v s
  | .hspNop f pend tag => Sys2Proof.Machine.execHspNop f pend tag s
  | .hspTimeout tag => Sys2Proof.Machine.execHspTimeout tag s
  | .romStageDone cfgValid => Sys2Proof.Machine.execRomStageDone cfgValid s
  | .earlyServiceReady => Sys2Proof.Machine.execEarlyServiceReady s
  | .hallmarkSlotVerified slot ecdsa lms => Sys2Proof.Machine.execHallmarkSlotVerified slot ecdsa lms s
  | .fullServiceStart => Sys2Proof.Machine.execFullServiceStart s
  | .earlyMaxExpiry => Sys2Proof.Machine.execEarlyMaxExpiry s
  | .earlyOverspeed mac => Sys2Proof.Machine.execEarlyOverspeed mac s
  | .earlyDemandTimeout mac => Sys2Proof.Machine.execEarlyDemandTimeout mac s
  | .imageConfirm m => Sys2Proof.Machine.execImageConfirm m s
  | .rollbackAdvance m key => Sys2Proof.Machine.execRollbackAdvance m key s
  | .slotOpen m slot => Sys2Proof.Machine.execSlotOpen m slot s
  | .slotClose m => Sys2Proof.Machine.execSlotClose m s
  | .slotActivate m slot => Sys2Proof.Machine.execSlotActivate m slot s
  | .activationDone ecdsa lms => Sys2Proof.Machine.execActivationDone ecdsa lms s
  | .attestationRequest m => Sys2Proof.Machine.execAttestationRequest m s
  | .attestationDone => Sys2Proof.Machine.execAttestationDone s
  | .nonceDraw m => Sys2Proof.Machine.execNonceDraw m s
  | .statementSubmit m => Sys2Proof.Machine.execStatementSubmit m s
  | .authStatement => Sys2Proof.Machine.execAuthStatement s
  | .changeStatement => Sys2Proof.Machine.execChangeStatement s
  | .lifecycleStatement => Sys2Proof.Machine.execLifecycleStatement s
  | .clearStatement => Sys2Proof.Machine.execClearStatement s
  | .revokeStatement => Sys2Proof.Machine.execRevokeStatement s
  | .lifecycleHoldExpiry => Sys2Proof.Machine.execLifecycleHoldExpiry s
  | .authLogout m => Sys2Proof.Machine.execAuthLogout m s
  | .authSessionExpiry => Sys2Proof.Machine.execAuthSessionExpiry s
  | .changeOpen m pages => Sys2Proof.Machine.execChangeOpen m pages s
  | .changeSeal m => Sys2Proof.Machine.execChangeSeal m s
  | .changeDigestDone => Sys2Proof.Machine.execChangeDigestDone s
  | .changeCommit ok => Sys2Proof.Machine.execChangeCommit ok s
  | .changeWindowExpiry => Sys2Proof.Machine.execChangeWindowExpiry s
  | .changeAbort m => Sys2Proof.Machine.execChangeAbort m s
  | .debugOpen m => Sys2Proof.Machine.execDebugOpen m s
  | .debugClose m => Sys2Proof.Machine.execDebugClose m s
  | .debugAccess m p op => Sys2Proof.Machine.execDebugAccess m p op s
  | .recordCapture => Sys2Proof.Machine.execRecordCapture s
  | .ringRoomRecord => Sys2Proof.Machine.execRingRoomRecord s
  | .rateWindowEnd => Sys2Proof.Machine.execRateWindowEnd s
  | .startFlush => Sys2Proof.Machine.execStartFlush s
  | .flushPeriodic => Sys2Proof.Machine.execFlushPeriodic s
  | .flushBacklog => Sys2Proof.Machine.execFlushBacklog s
  | .flushRequest m => Sys2Proof.Machine.execFlushRequest m s
  | .flushDone ok => Sys2Proof.Machine.execFlushDone ok s
  | .clearEraseDone => Sys2Proof.Machine.execClearEraseDone s
  | .norProgramPage m => Sys2Proof.Machine.execNorProgramPage m s
  | .norEraseSector m => Sys2Proof.Machine.execNorEraseSector m s
  | .norResetDie m => Sys2Proof.Machine.execNorResetDie m s
  | .norOpDone page => Sys2Proof.Machine.execNorOpDone page s
  | .norOpTimeout => Sys2Proof.Machine.execNorOpTimeout s
  | .derateChannelWrite m k v => Sys2Proof.Machine.execDerateChannelWrite m k v s
  | .bistRequest m target alg => Sys2Proof.Machine.execBistRequest m target alg s
  | .bistDone fails => Sys2Proof.Machine.execBistDone fails s
  | .bistAbort m => Sys2Proof.Machine.execBistAbort m s
  | .bistRepair m => Sys2Proof.Machine.execBistRepair m s
  | .prechargeEnd g => Sys2Proof.Machine.execPrechargeEnd g s
  | .deadTimeEnd l => Sys2Proof.Machine.execDeadTimeEnd l s
  | .lvSoftTurnOffEnd l => Sys2Proof.Machine.execLvSoftTurnOffEnd l s
  | .canReceiveError n res err dphase eight => Sys2Proof.Machine.execCanReceiveError n res err dphase eight s
  | .backupSupplyChange active => Sys2Proof.Machine.execBackupSupplyChange active s
  | .hl21TestStart => Sys2Proof.Machine.execHl21TestStart s

end Sys2Proof.Machine
end

