-- ==== Sys2Proof/Machine/Idle.lean ====
section
/-!
DEFINITION. One system clock with no command waiting: counters count, carriers run, blocks that work on every clock take their
step, and faults whose cause is present show again (R119). Everything that the opcode table names as a happening comes as a command.
-/
namespace Sys2Proof.Machine
namespace State

/-- A FAULT_STAT bit, shown if its cause is present. -/
def showFault (s : State) (k : PageKind) (n bit : Nat) (present : Bool) : State := if present then s.flt k n bit else s

/-- The same for the bits of several units. -/
def showFaultsOf (s : State) (units : Nat) (f : Nat → PageKind × Nat × Nat) (present : Nat → Bool) : State :=
  s.each (List.range units) fun s i => s.showFault (f i).1 (f i).2.1 (f i).2.2 (present i)

/-- Every FAULT_STAT bit handled locally whose cause is present as a lasting condition is set again (R119). One that is routed to J2 is
present exactly while its line is PENDING (R389), and a write of 1 leaves it set for as long. -/
def showFaults (s : State) : State :=
  let s := s.showFault .pwr 0 F.PWR_BACKUP_FAIL s.pwr.backupFail
  let s := s.showFault .tmp 0 F.TMP_OVERTEMP s.rcd.limit
  s.showFaultsOf 4 (fun n => (.can, n, F.CAN_BUS_OFF)) fun n => s.fld (R.CAN_STAT_STATE n) == 2

/-- The level conditions of the clock: the blocks that look at their inputs on every clock. -/
def clockLevels (s : State) : State :=
  let s := s.showFaults
  if s.shed then s.recClock
  else
  let s := s.each [0, 1] fun s n => (s.trcClock n).keClock n
  let s := s.sessClock.auxClock.gridClock
  let s := (s.each [0, 1, 2] actClock).drlClock
  (s.each [0, 1] tndClock).recClock

/-- The counters of the clock (R14, R15, R167, R171, R215): the tick window's boundary lies 96 clocks before the tick boundary (R178). -/
def clockCounts (s : State) : State :=
  let period := s.fld R.CAD_PERIOD_ACT_PERIOD
  let n := s.fld R.CAD_POS_CLK_IN_TICK + 1
  let s := { s with now := s.now + 1 }
  let s := s.setFld R.CAD_POS_CLK_IN_TICK (min n (period - 1))
  let ph := (s.fld R.FAD_GRID_PHASE + 1) % 80
  let s := s.setFld R.FAD_GRID_PHASE ph
  let s := if ph == 0 then (s.updSens fun x => { x with ended := false }) else s
  let s := (s.each (List.range 12) carrierClock).each (List.range 12) schedBoundary
  let s := s.each (List.range 4) fun s l => if (s.lane l).run.isSome || !(s.lane l).tail.isEmpty then s.updLane l fun L => { L with busy := L.busy + 1 } else s
  if n + 96 == period && !s.shed then s.windowBoundary 15 else s

/-- The ends of one second of operating time. -/
def clockSecond (s : State) : State :=
  let s := (s.each (List.range 4) soSecond).each (List.range 16) eptSecond
  let s := if s.shed then s else s.each [0, 1] tndSecond
  ((s.recSecond).pwrSecond).secSecond

/-- Software resets that have taken their time end (R111). -/
def srstClock (s : State) : State :=
  let s := (s.srstEnds.filter fun e => e.2 ≤ s.now).foldl (fun s e => s.setFld ⟨e.1, 0, 1⟩ 0) s
  { s with srstEnds := s.srstEnds.filter fun e => s.now < e.2 }

/-- One system clock; the position channels show the values of the clock that it brings (R272). -/
def idle (s : State) : State :=
  let s := s.clockLevels.clockCounts.each (List.range 4) showPos
  let s := if s.now % 400000000 = 0 then s.clockSecond else s
  s.srstClock

end State
end Sys2Proof.Machine
end

