-- ==== Sys2Proof/Machine/Outputs.lean ====
section
/-!
DEFINITION. What the part shows outside its registers, as functions of its state: the interrupts of the cores (R110, R118) and the pins whose
level no register holds (R69, R90, R291, R465).
-/
namespace Sys2Proof.Machine

namespace State

/-! ### Interrupts (R110, R118) -/

/-- A page raises its agent's interrupt: an event flag with EVT_IRQ, or a fault flag with FAULT_IRQ, is set and enabled. -/
def pageIrq (s : State) (k : PageKind) (n : Nat) : Bool :=
  let w (o : Nat) : Word := s.rd (k.page n + o)
  (s.on (hdr k n 0x08 1 1) && w 0x10 &&& w 0x14 != 0) || (s.on (hdr k n 0x08 2 1) && w 0x1C &&& w 0x20 != 0)

/-- The interrupt of a core: a page that names it in AGENT raises its interrupt. -/
def agentIrq (s : State) (c : Core) : Bool :=
  pageKinds.any fun k => (List.range k.count).any fun n => s.fld (hdr k n 0x08 3 2) == agentCodeOf c && s.pageIrq k n

/-! ### Pins (R90, R95)

`none` is high impedance. Before reset release and once the part has shed its loads, the outputs are as unpowered or in reset. -/

/-- The part is in service: it has left reset and has not shed its loads. -/
def inService (s : State) : Bool := s.sec.released && !s.shed

/-- EXC_P and EXC_N of a position channel: driven (R277), in flush mode too (R75), or high impedance in a detach of either scope. -/
def excDriven (s : State) (p : Nat) : Bool := s.sec.released && !s.detaching && s.on (R.POS_RSLV0_EXC_EN p)

/-- Lines A, B and Z of an emulator (R290, R291): bits 0 to 2. -/
def emuLines (s : State) (e : Nat) : Option Nat :=
  if s.inService && !s.detaching && s.on (R.EMU_CFG_EN e) then some (s.emuRec e).pins else none

/-- VREF_OUT carries the internal reference (R69, R173). -/
def vrefOn (s : State) : Bool := s.inService

/-- The CAN transceivers are in standby, recessive (R95). -/
def canStandby (s : State) : Bool := !s.inService || s.pwr.netDown

/-- The bytes on AUXL_ACK; none: the line is idle (R466). -/
def auxlAck (s : State) : List Byte := if s.inService && s.on R.AUXL_STAT_TX_BUSY then s.net.ack else []

/-- HSP_IRQ_N is pulled low (R465). -/
def hspIrqLow (s : State) : Bool :=
  s.inService && !s.detachingX1 && (s.on R.HSP_IRQ_REQ || (s.on R.HSP_IRQ_ERR_EN && s.on (hdr .hsp 0 0x10 E.HSP_HSP_ERR 1)))

end State

end Sys2Proof.Machine
end

