-- ==== Sys2Proof/Safety.lean ====
section
/-!
DEFINITION. What claims about the block are stated in: the canonical form of a state, what an operation may do to the queue and to that
form, and how a command completes.
-/
namespace Sys2Proof.Machine

/-- Keys at or above a bound and strictly rising. -/
def Store.risingFrom {α : Type} : Nat → Store α → Bool
  | _, [] => true
  | b, (a, _) :: m => decide (b ≤ a) && Store.risingFrom (a + 1) m

/-- Every store of the state lists, in rising order, exactly the entries that differ from what an unlisted key reads as, so that equal
contents are equal data; the staged copies of a change session only rise, since what they stand beside may change; and the J3 queue
holds no more posts than it has room for (R48, R510). -/
structure State.Canonical (s : State) : Prop where
  mem : Memory.wf s.undef s.mem
  bad : Store.wf (fun _ => 0) s.bad = true
  regs : Store.wf resetWord s.regs = true
  srst : Store.wf (fun _ => 0) s.srstEnds = true
  live : Store.wf resetWord s.live = true
  staged : Store.risingFrom 0 s.staged = true
  prog : Store.wf (fun _ => 0) s.prog = true
  tab : Store.wf (fun _ => 0) s.tab = true
  canAct : Store.wf (fun _ => 0) s.canAct = true
  canShadow : Store.wf (fun _ => 0) s.canShadow = true
  j3 : s.j3.length ≤ j3Depth

/-- The parts of the state that a command may be said to leave alone: the time, the count of free values taken, the answer to the last
access, the J3 queue, the register file (with the software resets that run on it) and its live and staged
copies, the memories with the errors they hold, and each subsystem's state behind its registers. -/
inductive Part where
  | clock | free | resp | j3 | regs | live | staged | bytes | engineMem | canRam
  | cad | eng | sens | pwm | safe | pos | trac | conv | act | drl | tnd | net | rcd | pwr | sec
  deriving DecidableEq, Repr

/-- Two states have the same contents of a part. -/
def Part.Same (s t : State) : Part → Prop
  | .clock => t.now = s.now
  | .free => t.free = s.free
  | .resp => t.resp = s.resp
  | .j3 => t.j3 = s.j3
  | .regs => t.regs = s.regs ∧ t.srstEnds = s.srstEnds
  | .live => t.live = s.live
  | .staged => t.staged = s.staged
  | .bytes => t.mem = s.mem ∧ t.bad = s.bad ∧ t.undef = s.undef ∧ t.undefGen = s.undefGen
  | .engineMem => t.prog = s.prog ∧ t.tab = s.tab
  | .canRam => t.canAct = s.canAct ∧ t.canShadow = s.canShadow
  | .cad => t.cad = s.cad
  | .eng => t.eng = s.eng
  | .sens => t.sens = s.sens
  | .pwm => t.pwm = s.pwm
  | .safe => t.safe = s.safe
  | .pos => t.pos = s.pos
  | .trac => t.trac = s.trac
  | .conv => t.conv = s.conv
  | .act => t.act = s.act
  | .drl => t.drl = s.drl
  | .tnd => t.tnd = s.tnd
  | .net => t.net = s.net
  | .rcd => t.rcd = s.rcd
  | .pwr => t.pwr = s.pwr
  | .sec => t.sec = s.sec

/-- From `s` to `t` the queue of waiting commands stays, a canonical state stays canonical, and no part changes but those of `P`. -/
structure Within (P : Part → Bool) (s t : State) : Prop where
  pending : t.pending = s.pending
  canonical : s.Canonical → t.Canonical
  same : ∀ p, P p = false → p.Same s t

/-- A sender may write the block registers of a page now: it has the right of R4, and no software reset of the page runs (R111). -/
def State.opens (s : State) (m : Master) (k : PageKind) (n : Nat) : Bool := s.mayWrite m k n && !s.on (hdr k n 0x08 0 1)

/-- The command runs to its end: it answers a next state, of which `E` holds. -/
def Answers (c : Instr) (s : State) (E : State → Prop) : Prop := ∃ t, exec c s = .next t ∧ E t

end Sys2Proof.Machine
end

