-- ==== Sys2Proof/Certificates/Slice0/Obligations.lean ====
section
/-!
DEFINITION. The statements for the provers: what the manual's rules say of the block, command by command and for the whole machine.
-/
open Sys2Proof Sys2Proof.Machine

/-- The word `w` reaches row `r` of a page from a sender with full rights (R4), aligned and 32 bits wide (R11), and no rule refuses it. -/
def Sys2Proof.Machine.BusWrite.Plain (s : State) (w : BusWrite) (r : RegRow) : Prop :=
  w.a < 2 ^ 32 ∧ w.a % 4 = 0 ∧ w.a ≠ R.SEC_DBG_CTL ∧ pageAt w.a = some (w.k, w.n) ∧ inHeader w.k w.a = false ∧
  ((pageRows w.k w.n).find? fun r => (r.locate (offsetIn w.k w.a)).isSome) = some r ∧
  ((r.locate (offsetIn w.k w.a)).getD (0, 0)).1 = w.i ∧ s.opens w.m w.k w.n = true ∧ s.remoteDown w.k w.n = false ∧
  w.direct s = none ∧ s.rwlHit r w.k w.n w.a w.v = false ∧ ∀ e ∈ w.rules s, e.1 = false

/-- Lane `l` is in run `r`, whose next instruction `i` has opcode `op`, is defined and has a predicate that holds (R145,
R146), outside the boundary slot for a tick run (R14), with no error in engine memory (R132). -/
def Sys2Proof.Machine.State.Issues (s : State) (l : Fin 4) (op : Nat) (r : Run) (i : Ins) : Prop :=
  (s.lane l).run = some r ∧ r.idx < r.len ∧ i = s.insAt (r.base + r.idx) ∧ i.op = op ∧ s.insErr i = 0 ∧
  (i.pred = 1 → r.pf = true) ∧ (i.pred = 2 → r.pf = false) ∧ s.eng.bad = [] ∧ s.tickHeld r = false

/-- Whatever state the command answers, only the named parts of the state differ from before, and the queue of waiting commands stays. -/
def Sys2Proof.Machine.Touches (c : Instr) (l : List Part) : Prop := ∀ s t, exec c s = .next t → Within l.contains s t

/-- The instructions of the engine, each with its opcode (R153). -/
def Sys2Proof.Machine.engineTable (l : Fin 4) : List (Instr × Nat) :=
  [(.nop l, 0x00), (.mov l, 0x01), (.add l, 0x02), (.sub l, 0x03), (.mul l, 0x04), (.mac l, 0x05), (.msb l, 0x06), (.neg l, 0x07),
   (.abs l, 0x08), (.min l, 0x09), (.max l, 0x0A), (.clamp l, 0x0B), (.lerp l, 0x0C), (.rate l, 0x0D), (.wrap l, 0x0E), (.rcp l, 0x0F),
   (.rsq l, 0x10), (.div l, 0x11), (.sqrt l, 0x12), (.hyp l, 0x13), (.atan2 l, 0x14), (.sincos l, 0x15), (.cvti l, 0x16),
   (.cvtf l, 0x17), (.cmplt l, 0x18), (.cmple l, 0x19), (.cmpeq l, 0x1A), (.cmpag l, 0x1B), (.pandlt l, 0x1C), (.porlt l, 0x1D),
   (.sel l, 0x1E), (.btst l, 0x1F)] ++
  [(.and l, 0x20), (.or l, 0x21), (.xor l, 0x22), (.shr l, 0x23), (.clk3 l, 0x30), (.vsd6 l, 0x31), (.park l, 0x32), (.ipark l, 0x33),
   (.parksc l, 0x34), (.iparksc l, 0x35), (.pic l, 0x36), (.svm l, 0x37), (.lut1 l, 0x38), (.lut2 l, 0x39)]

/-- An access was answered with an error of a kind (R122): beside the answer, only the registers that report the error, or the loss of its
event, differ from before. -/
def Sys2Proof.Machine.State.Refused (s t : State) (e : ErrKind) : Prop :=
  t.resp = ⟨e.code, 0⟩ ∧ Within [Part.free, .resp, .j3, .regs, .cad].contains s t ∧
  ∀ a, a ∉ [R.SYS_ERR_ADDR, R.SYS_ERR_INFO, R.SYS_ERR_CNT, PageKind.sys.page 0 + 0x10, R.CAD_J3_LOST, PageKind.cad.page 0 + 0x10,
    R.TND_CERR 0, R.TND_CERR 1] → t.rd a = s.rd a

/-- The resets, reset release and the wake request complete. Each reset answers the state after a reset with its own cause code, the command's
only condition being the one the manual names; reset release marks the module released and runs the start of the ROM stage; a wake request
is noted before release only. -/
def Obligations.ResetCommandsComplete : Prop :=
  (∀ s dies, exec (.powerOnReset dies) s = .next (s.resetState 1 dies)) ∧
  (∀ s, s.on R.PWR_STAT_ON_HOLDUP = true → exec .flushRestart s = .next (s.resetState 2 true)) ∧
  (∀ s (n : Fin 7681), s.on R.PWR_STAT_ON_HOLDUP = true → s.rcd.step4 = false →
    exec (.holdupCutoff n) s = .next (s.resetState 1 (s.on R.PWR_STAT_BACKUP_OK))) ∧
  (∀ s (n : Fin 7681), s.on R.PWR_STAT_ON_HOLDUP = true → s.rcd.step4 = true →
    exec (.holdupCutoff n) s = .next ((s.flushStep4 n).resetState 1 ((s.flushStep4 n).on R.PWR_STAT_BACKUP_OK))) ∧
  (∀ s m, s.opens m .sys 0 = true → ((List.range 12).any s.armed) = false →
    exec (.warmReset m 0xC3) s = .next (s.resetState 4 true).okResp) ∧
  (∀ s, s.sec.released = false → s.por = false → exec .wake s = .next (s.wr R.SYS_RST_CAUSE 8)) ∧
  (∀ s ok fails, s.sec.released = false → exec (.resetRelease ok fails) s =
    .next (((((s.updSec fun x => { x with released := true }).setFld R.PWR_STAT_VLV_OK 1).setFld R.PWR_STAT_X1_PRESENT 1).startBist
      (fails.map fun f => (f.1.val, f.2))).recStart ok).startPosts)

/-- The bring-up commands complete. Each stage of the start runs in the stage before it: the ROM stage; early service, entered with its time
and event 0x0170; a slot's verification in its turn; full service from the preferred slot that passed, else from the other; EARLY_MAX
without a passed slot, which enters stage 3; overspeed, which trips the machine's current context; and a silent demand, which commits a
zero setpoint. -/
def Obligations.BringUpCommandsComplete : Prop :=
  (∀ s ok, s.sec.released = true → s.sec.romDone = false → s.fld R.SEC_BOOT_STAGE = 0 → exec (.romStageDone ok) s = .next (s.romStage ok)) ∧
  (∀ s, s.sec.romDone = true → s.fld R.SEC_BOOT_STAGE = 0 →
    ((s.setFld R.SEC_BOOT_TIME_EARLY_MS (min (s.now / 4000) 0xFFFF)).setStage 1).on R.SEC_EARLY0_PARK_EN = false →
    exec .earlyServiceReady s = .next (let t := (s.setFld R.SEC_BOOT_TIME_EARLY_MS (min (s.now / 4000) 0xFFFF)).setStage 1
      t.post 0x0170 locSec (t.fld R.SEC_EARLY0_MA_EN + 2 * t.fld R.SEC_EARLY0_MB_EN + 4 * t.fld R.SEC_EARLY0_PARK_EN))) ∧
  (∀ s (k : Fin 2) ecdsa lms, s.fld R.SEC_BOOT_STAGE = 1 → s.slotTurn k = true →
    exec (.hallmarkSlotVerified k ecdsa lms) s = .next (s.trySlot k ecdsa lms)) ∧
  (∀ s, s.fld R.SEC_BOOT_STAGE = 1 → s.slotPassed (s.fld R.SEC_BOOT_PREF) = true →
    exec .fullServiceStart s = .next (s.fullService (s.fld R.SEC_BOOT_PREF))) ∧
  (∀ s, s.fld R.SEC_BOOT_STAGE = 1 → s.slotPassed (s.fld R.SEC_BOOT_PREF) = false → s.slotPassed (1 - s.fld R.SEC_BOOT_PREF) = true →
    exec .fullServiceStart s = .next (s.fullService (1 - s.fld R.SEC_BOOT_PREF))) ∧
  (∀ s, s.fld R.SEC_BOOT_STAGE = 1 → s.slotPassed 0 = false → s.slotPassed 1 = false → s.cstate 0 ≠ 2 → s.cstate 3 ≠ 2 →
    exec .earlyMaxExpiry s = .next ((s.post 0x4008 locSec (s.fld R.SEC_BOOT_RES_A + s.fld R.SEC_BOOT_RES_B * 16)).setStage 3)) ∧
  (∀ s (k : Fin 2), s.fld R.SEC_BOOT_STAGE = 1 → s.cstate (3 * k) = 2 →
    f32AbsGe (s.rd (R.POS_RPM k)) (s.fld R.SEC_EARLY3_EARLY_SPD) 1 = true →
    f32Mag (s.rd (R.POS_RPM k)) ≠ s.fld R.SEC_EARLY3_EARLY_SPD * f32One → exec (.earlyOverspeed k) s = .next (s.tripCtx (3 * k))) ∧
  (∀ s (k : Fin 2), s.fld R.SEC_BOOT_STAGE = 1 → exec (.earlyDemandTimeout k) s =
    .next ((s.mbxWrite (.core .tb) (1 + 3 * k) 0 0).mbxCommit (1 + 3 * k)
      (s.fld (R.LPX_CFG_EPOCH (1 + 3 * k)))))

/-- Ticks, admission, contexts and mailboxes: the commands complete. With the right of R4 and the conditions of each rule, every command of
the cadence family answers the next state its rule gives: the request starts the check, the check ends, a mailbox word and a commit from
the context's writer are taken, a drop fault and a following error reach the context, lost posts are reported. -/
def Obligations.CadenceCommandsComplete : Prop :=
  (∀ s, exec .tickBoundary s = .next s.tickBoundary) ∧
  (∀ s, s.cad.tickMismatch = false → exec .tickMismatch s =
    .next ((((s.updCad fun c => { c with tickMismatch := true }).flt .cad 0 F.CAD_TICK_MISMATCH).postOpen 0x3001 (locSub 5)).raise 0 State.allGroups)) ∧
  (∀ s m, s.opens m .cad 0 = true → s.frozen = false → exec (.admissionRequest m) s =
    .next (((((s.wr R.CAD_ADM_STAT 0xFF001).setFld R.CAD_ADM_HYPER_H 1).setFld R.CAD_ADM_CTL_REQ 1).updCad
      fun c => { c with checking := true }).okResp)) ∧
  (∀ s, s.cad.checking = true → exec .admissionCheckDone s = .next s.admDone) ∧
  (∀ s c, s.resting c.val = false → (s.ctx c.val).dropPend = true → exec (.contextDropFault c) s =
    .next ((s.updCtx c fun x => { x with dropPend := false }).ctxCauses c false false false true)) ∧
  (∀ s (c : Fin 160), s.cstate c = 2 → s.fld (R.LPX_FE_TICKS_FE_TICKS c) ≠ 0 → s.feAbove c = true →
    s.fld (R.LPX_FE_TICKS_FE_TICKS c) ≤ s.fld (R.LPX_FE_TICKS_FE_CNT c) + 1 → exec (.followingErrorTrip c) s =
    .next (((s.setFld (R.LPX_STAT_FE_OVER c) 1).setFld (R.LPX_FE_TICKS_FE_CNT c) (s.fld (R.LPX_FE_TICKS_FE_TICKS c))).ctxCauses c
      false false true false)) ∧
  (∀ s m (c : Fin 160) (k : Fin 8) v, isChecker m = false → rights m = s.mbxWriter c → s.on R.DRL_STAT_BUSY = false →
    s.on (R.LPX_MBX_CMT_PEND c) = false → exec (.mailboxWordWrite m c k v) s = .next (s.wr (R.LPX_MBX c k) v).okResp) ∧
  (∀ s m (c : Fin 160) (e : Fin 256), isChecker m = false → rights m = s.mbxWriter c → s.on R.DRL_STAT_BUSY = false →
    e.val = s.fld (R.LPX_CFG_EPOCH c) → e.val ≠ 0 → exec (.mailboxCommit m c e) s = .next (s.setFld (R.LPX_MBX_CMT_PEND c) 1).okResp) ∧
  (∀ s, s.cad.lostSince ≠ 0 → s.j3.length < j3Depth → exec .j3LostReport s =
    .next ((s.updCad fun c => { c with lostSince := 0 }).post 0x1011 (loc 0 0 7 0x03 0x3F) s.cad.lostSince)) ∧
  (∀ s m (c : Fin 160) (q : Fin 8), s.opens m .lpx (c / 16) = true → q.val < 4 → s.reqPermitted c q = true →
    (s.frozen && s.resting c) = false → exec (.stateRequest m c q) s =
    .next (((s.setFld (R.LPX_STATE_REQ c) q).setFld (R.LPX_STATE_REQ_PEND c) (b2n (q.val != s.cstate c))).okResp)) ∧
  (∀ s m (c : Fin 160) v, s.opens m .lpx (c / 16) = true → s.wordsOpen c = true → exec (.contextWordWrite m c v) s =
    .next (((s.setCtxWord c (s.fld (R.LPX_CW_IDX_INDEX c)) v).cwStep m c).okResp)) ∧
  (∀ s m (c : Fin 160), s.on (hdr .lpx (c / 16) 0x08 0 1) = false → s.eng.bad = [] → exec (.contextWordRead m c) s =
    .next ((s.cwStep m c).okResp ((s.ctx c).words.read (fun _ => 0) (s.fld (R.LPX_CW_IDX_INDEX c)))))

/-- Lanes, runs, validation and the engine's memories: the commands complete. Dispatch, completion and abort act on the run the lane holds; a
mismatch reissues the instruction once and faults the lane the second time; a lane check runs and ends; validation runs over the range
given and ends with what it found; constants, program and table words from the page's owner are taken. -/
def Obligations.EngineControlCommandsComplete : Prop :=
  (∀ s l ecc, exec (.tickRunDispatch l ecc) s = .next ((s.strikeEngine ecc).dispatchTick l)) ∧
  (∀ s (l : Fin 4) r, ((s.laneRuns l).find? fun r => decide (r.len ≤ r.idx)) = some r → exec (.runComplete l) s = .next (s.completeRun l r)) ∧
  (∀ s (l : Fin 4) crit r, ((s.laneRuns l).find? fun r => r.crit == crit) = some r → exec (.runDeadlineAbort l crit) s = .next (((s.abortLate l r).resume l).showLane l)) ∧
  (∀ s (l : Fin 4) r, (s.lane l).run = some r → r.reissued = true → exec (.reissue l) s = .next (s.laneFault l)) ∧
  (∀ s (l : Fin 4) r, (s.lane l).run = some r → r.reissued = false →
    ((s.lane l).reissues.filter fun u => (s.fld R.CAD_TICK_COUNT + 2 ^ 32 - u) % 2 ^ 32 < 1024).length < s.fld R.LPE_CTL_RETRY_MAX →
    Answers (.reissue l) s fun t => (t.lane l).run = some { r with reissued := true } ∧ t.eng.ctx = s.eng.ctx) ∧
  (∀ s (l : Fin 4) r, (s.lane l).run = some r → r.reissued = true → exec (.laneFault l) s = .next (s.laneFault l)) ∧
  (∀ s m (l : Fin 4), s.opens m .lpe 0 = true → ((s.laneCtxs l).any fun c => !s.resting c) = false → exec (.laneCheck m l) s =
    .next (((s.setFld (R.LPE_LANE_CTL_CHECK l) 1).setFld (R.LPE_LANE_CMP_CHECK_BUSY l) 1).okResp)) ∧
  (∀ s (l : Fin 4), s.on (R.LPE_LANE_CMP_CHECK_BUSY l) = true → exec (.laneCheckDone l false) s =
    .next (((s.setFld (R.LPE_LANE_CTL_CHECK l) 0).setFld (R.LPE_LANE_CMP_CHECK_BUSY l) 0).setFld (R.LPE_LANE_CMP_CHECK_PASS l) 0)) ∧
  (∀ s (l : Fin 4), s.on (R.LPE_LANE_CMP_CHECK_BUSY l) = true → exec (.laneCheckDone l true) s =
    .next ((((((s.setFld (R.LPE_LANE_CTL_CHECK l) 0).setFld (R.LPE_LANE_CMP_CHECK_BUSY l) 0).setFld (R.LPE_LANE_CMP_CHECK_PASS l) 1).setFld
      (R.LPE_LANE_CMP_FAULTED l) 0).updLane l fun L => { L with reissues := [] }).showLane l)) ∧
  (∀ s m (k : Fin 31) v, s.opens m .lpe 0 = true → exec (.engineConstantWrite m k v) s = .next (s.wr (R.LPE_CONST k) v).okResp) ∧
  (∀ s m (k : Fin 8192) v, s.opens m .lpe 0 = true → s.progProtected (k / 2) = false → s.progValidating (k / 2) = false →
    Answers (.programMemoryWrite m k v) s fun t => t.resp = ⟨0, 0⟩ ∧ t.regs = s.regs ∧
      (t.prog.read (fun _ => 0) (k.val / 2)).toNat / 2 ^ (32 * (k.val % 2)) % 2 ^ 32 = v.toNat) ∧
  (∀ s m (k : Fin 16384) v, s.opens m .lpe 0 = true → 1024 < k.val →
    exec (.tableMemoryWrite m k v) s =
    .next ((({ s with tab := s.tab.write (fun _ => 0) k v } : State).clearErr (· == tabBase + 4 * k.val)).okResp)) ∧
  (∀ s m (st : Fin 4096) (n : Fin 8192), s.opens m .lpe 0 = true → n.val ≠ 0 → st.val + n.val ≤ 4096 → s.on R.LPE_VAL_STAT_BUSY = false →
    exec (.validationStart m st n) s = .next (((((s.setFld R.LPE_VAL_CTL_START st).setFld R.LPE_VAL_CTL_LEN n).setFld R.LPE_VAL_CTL_GO 1).setFld
      R.LPE_VAL_STAT_BUSY 1).okResp)) ∧
  (∀ s, s.on R.LPE_VAL_STAT_BUSY = true → Answers .validationDone s fun t =>
    t.fld R.LPE_VAL_STAT_BUSY = 0 ∧ t.fld R.LPE_VAL_CTL_GO = 0 ∧ t.fld R.LPE_VAL_CNT_INSTR = s.fld R.LPE_VAL_CTL_LEN % 2 ^ R.LPE_VAL_CNT_INSTR.w) ∧
  (∀ s l, exec (.dutyPortApply l) s = .next (s.drainOne l)) ∧
  (∀ s (l : Fin 4) r, (s.lane l).run = some r → r.idx < r.len → s.insErr (s.insAt (r.base + r.idx)) ≠ 0 →
    exec (.undefinedInstruction l) s = .next (s.undefinedIns l r))

/-- Bus accesses complete. A word written with full rights to a register whose rules refuse nothing is stored in its writable fields, with
what the register starts; a staged field takes it in its staged copy; the header commands and the memory windows answer as their rules
say; an access without an answer times out. -/
def Obligations.BusCommandsComplete : Prop :=
  (∀ s (w : BusWrite) r, BusWrite.Plain s w r → State.isRw2 w.a = false → (w.act s ((s.storeRow r false w.a w.v).okResp)).resp.kind = 0 →
    exec (.registerWrite w.m (BitVec.ofNat 32 w.a) .word w.v) s = .next (w.act s ((s.storeRow r false w.a w.v).okResp))) ∧
  (∀ s (w : BusWrite) r, BusWrite.Plain s w r → State.isRw2 w.a = true → s.stagesFor w.m w.k = true →
    exec (.stagedWrite w.m (BitVec.ofNat 32 w.a) w.v) s = .next (s.stage w.k w.a w.v).okResp) ∧
  (∀ s m (a : Word) took k n, pageAt a.toNat = some (k, n) → a.toNat % 4 = 0 →
    exec (.accessTimeout m a none took) s = .next (s.accTimeout m false k n a.toNat)) ∧
  (∀ s m (a v : Word) k n, pageAt a.toNat = some (k, n) → rights m = .mc → isChecker m = false → s.remoteDown k n = false →
    getBits v 0 1 = 0 → getBits v 1 1 = 0 → exec (.pageLockWrite m a v) s =
    .next (((s.setFld (hdr k n 0x0C 0 1) 0).setFld (hdr k n 0x0C 3 1) (getBits v 3 1)).okResp)) ∧
  (∀ s m (a v : Word) k n, pageAt a.toNat = some (k, n) → rights m = .mc → isChecker m = false → s.remoteDown k n = false →
    getBits v 0 1 = 0 → Answers (.pageCommit m a v) s fun t => t.resp = ⟨0, 0⟩ ∧ t.fld (hdr k n 0x0C 2 1) = 1 ∧ t.fld (hdr k n 0x0C 0 1) = 0) ∧
  (∀ s m (a v : Word) k n, pageAt a.toNat = some (k, n) → s.mayWrite m k n = true → s.remoteDown k n = false →
    exec (.evtSetWrite m a v) s =
    .next ((s.wr (k.page n + 0x10) (s.rd (k.page n + 0x10) ||| (v &&& BitVec.ofNat 32 k.evtMask))).okResp)) ∧
  (∀ s m (a v : Word) n, pageAt a.toNat = some (.pos, n) → s.opens m .pos n = true → s.pageActive .pos n = false → getBits v 3 2 ≠ 3 →
    Answers (.pageSrst m a v) s fun t => t.resp = ⟨0, 0⟩ ∧ t.eng = s.eng ∧ t.prog = s.prog) ∧
  (∀ s m (a : Word) (n : Fin 3), inSram a.toNat = true → inSram (a.toNat + 2 ^ n.val - 1) = true → s.bad = [] →
    exec (.sramRead m a n .clean) s = .next (s.okResp (BitVec.ofNat 32 (s.le a.toNat (2 ^ n.val))))) ∧
  (∀ s m (a : Word) (n : Fin 3) v, inSram a.toNat = true → isChecker m = false →
    (∀ i < 2 ^ n.val, sramWriter m (a.toNat + i) = true) → inSram (a.toNat + 2 ^ n.val - 1) = true → exec (.memoryWrite m a n v) s = .next (s.setLe a.toNat v.toNat (2 ^ n.val)).okResp) ∧
  (∀ s m (a : Word) (n : Fin 3), inNor a.toNat = true → inNor (a.toNat + 2 ^ n.val - 1) = true →
    (∀ i < 2 ^ n.val, norReader m (a.toNat + i) = true) →
    exec (.norWindowRead m a n) s = .next (s.okResp (BitVec.ofNat 32 (s.le a.toNat (2 ^ n.val)))))

/-- Supply supervision: the commands complete. Each supervision event, while its condition of the manual holds, sets its bits, posts its event
and raises its line. -/
def Obligations.SupplyCommandsComplete : Prop :=
  (∀ s, s.on R.PWR_STAT_PF_WARN = false → s.fld R.SEC_BOOT_STAGE ≠ 2 →
    exec .pfWarnFalling s = .next (s.setFld R.PWR_STAT_PF_WARN 1)) ∧
  (∀ s, s.on R.PWR_STAT_PF_WARN = false → s.fld R.SEC_BOOT_STAGE = 2 → exec .pfWarnFalling s =
    .next ((((s.setFld R.PWR_STAT_PF_WARN 1).evt .pwr 0 E.PWR_PF_WARN).postOpen 0x7001 (locPwr 0)).recTrigger 2)) ∧
  (∀ s, exec .pfWarnCleared s = .next (s.setFld R.PWR_STAT_PF_WARN 0)) ∧
  (∀ s, s.on R.PWR_STAT_ON_HOLDUP = false → exec .uvOff s = .next ((((((((s.setFld R.PWR_STAT_VLV_OK 0).setFld R.PWR_STAT_ON_HOLDUP 1).setFld
      R.PWR_VDC_BACKUP_ACT (s.fld R.PWR_STAT_BACKUP_OK)).flt .pwr 0 F.PWR_UV_OFF).postOpen 0x7002 (locPwr 0)).raise 22 State.allGroups).shedAll).recTrigger 2)) ∧
  (∀ s, s.rcd.step4 = true → s.on R.PWR_STAT_ON_HOLDUP = false → (s.flushStep4 (s.fld R.REC_STAT_BACKLOG)).rcd.clearWait = none →
    exec .pfFlushEnd s = .next ((((s.flushStep4 (s.fld R.REC_STAT_BACKLOG)).setFld R.REC_STAT_PF 0).setFld R.REC_STAT_FLUSHING 0).updRec
      fun r => { r with step4 := false })) ∧
  (∀ s, exec .vlvHigh s = .next ((s.evt .pwr 0 E.PWR_VLV_HIGH).postOpen 0x700D (locPwr 0))) ∧
  (∀ s, exec .holdupCharged s = .next ((s.setFld R.PWR_HOLDUP_CHARGED 1).setFld R.PWR_STAT_HOLDUP_OK 1)) ∧
  (∀ s (c : Fin 4096), s.on R.PWR_HOLDUP_CHARGED = true → 150 ≤ c.val →
    exec (.holdupMeasured c) s = .next ((s.setFld R.PWR_HOLDUP_CAP c).setFld R.PWR_HOLDUP_TESTED 1)) ∧
  (∀ s (c : Fin 4096), s.on R.PWR_HOLDUP_CHARGED = true → c.val < 150 → exec (.holdupMeasured c) s =
    .next ((((s.setFld R.PWR_HOLDUP_CAP c).setFld R.PWR_HOLDUP_TESTED 1).evt .pwr 0 E.PWR_HOLDUP_LOW).postOpen 0x7008 (locSupply 1))) ∧
  (∀ s, s.on R.PWR_STAT_BACKUP_OK = false → exec .backupFail s =
    .next (((s.updPwr fun p => { p with backupFail := true }).flt .pwr 0 F.PWR_BACKUP_FAIL).postOpen 0x700C (locSupply 0))) ∧
  (∀ s b, exec (.backupSupplyChange b) s =
    .next (((s.setFld R.PWR_VDC_BACKUP_ACT (b2n (b && s.shed))).setFld R.PWR_STAT_BACKUP_OK (b2n b)).updPwr fun p =>
      { p with backupFail := false })) ∧
  (∀ s (v : Fin 1024), v.val < 600 → Answers (.gatePwrHigh v) s fun t =>
    t.fld R.PWR_GATE_AVG = v ∧ t.fld R.PWR_GATE_PEAK = max (s.fld R.PWR_GATE_PEAK) v ∧ t.on R.PWR_STAT_GATE_PWR_HIGH = false) ∧
  (∀ s (v : Fin 1024), 600 ≤ v.val → Answers (.gatePwrHigh v) s fun t =>
    t.fld R.PWR_GATE_AVG = v ∧ t.fld R.PWR_GATE_PEAK = max (s.fld R.PWR_GATE_PEAK) v ∧ t.on R.PWR_STAT_GATE_PWR_HIGH = true) ∧
  (∀ s, 660 ≤ s.fld R.PWR_GATE_AVG → exec .gateOverload s =
    .next ((((s.updPwr fun p => { p with overload := true }).flt .pwr 0 F.PWR_GATE_OVERLOAD).postOpen 0x700A (locSupply 2)).raise 25 State.allGroups)) ∧
  (∀ s (k : Fin 4), bitAt (s.fld R.PWR_SENS_STAT_ON) k = true → exec (.sensOc k) s =
    .next (((s.setFld R.PWR_SENS_STAT_OC (bitSet (s.fld R.PWR_SENS_STAT_OC) k)).evt .pwr 0 E.PWR_SENS_OC).postOpen 0x700B (locPwr 3)))

/-- Connectors and planned detach: the commands complete. An attach, an opened loop, a detach request and each end of one have the effect of
their rules. -/
def Obligations.ConnectorCommandsComplete : Prop :=
  (∀ s, s.on R.PWR_STAT_X2_PRESENT = false → exec .x2Attach s =
    .next ((((((s.setFld R.PWR_STAT_X2_PRESENT 1).updPwr fun p => { p with x2Lost := false }).sensShow).evt .pwr 0 E.PWR_X2_ATTACH).postOpen 0x7005
      (locPwr 2)))) ∧
  (∀ s, s.on R.PWR_STAT_X1_PRESENT = true → s.fld R.PWR_DETACH_STAT_STATE = 0 → exec .x1LoopOpen s =
    .next ((((((s.setFld R.PWR_STAT_X1_PRESENT 0).updPwr fun p => { p with x1Lost := true }).flt .pwr 0 F.PWR_X1_WITHDRAWN).postOpen 0x7003
      (locPwr 1)).raise 23 State.allGroups).recTrigger 2)) ∧
  (∀ s, s.on R.PWR_STAT_X2_PRESENT = true → exec .x2LoopOpen s =
    .next ((((s.setFld R.PWR_STAT_X2_PRESENT 0).sensShow).posFreeze).loopOpen true fun s =>
      (((s.updPwr fun p => { p with x2Lost := true }).flt .pwr 0 F.PWR_X2_WITHDRAWN).postOpen 0x7004 (locPwr 2)).raise 24 State.allGroups)) ∧
  (∀ s m, s.opens m .pwr 0 = true → s.fld R.PWR_DETACH_STAT_STATE = 0 → s.anyArmed = false → s.on R.PWR_STAT_X2_PRESENT = true →
    exec (.detachRequest m true) s = .next (((((((s.setFld R.PWR_DETACH_CTL_SCOPE 1).setFld R.PWR_DETACH_STAT_STATE 1).setFld
      R.PWR_DETACH_STAT_SCOPE_ACT 1).setFld R.PWR_DETACH_STAT_FLUSH_OK 1).setFld R.PWR_DETACH_CTL_REQ 1).detachShow).okResp)) ∧
  (∀ s, s.fld R.PWR_DETACH_STAT_STATE = 1 → Answers .detachReady s fun t =>
    t.fld R.PWR_DETACH_STAT_STATE = 2 ∧ t.fld R.PWR_DETACH_CTL_REQ = 0) ∧
  (∀ s m, s.opens m .pwr 0 = true → s.fld R.PWR_DETACH_STAT_STATE = 2 →
    exec (.detachCancel m) s = .next (s.detachEnd 0).okResp) ∧
  (∀ s, s.fld R.PWR_DETACH_STAT_STATE = 2 → exec .detachTimeout s = .next ((s.opTo .pwr 0).detachEnd 1))

/-- Conversions, windows, the acquisition queue and housekeeping: the commands complete. A conversion reaches all 32 channels and every
window; a window's average is delivered; the reference is selected, settles and fails; the queue is popped, discarded and falls back to
SRAM; the housekeeping round starts, advances and stalls. -/
def Obligations.SensingCommandsComplete : Prop :=
  (∀ s codes, s.shed = false → exec (.conversionEnd codes) s = .next (
    (((((s.updSens fun x => { x with ended := true }).each State.sources fun s g =>
      if 8191 ≤ (s.winSrc g).n then s.closeWindow g true else s).each (List.range 32) fun s c => s.convert c (codes.getD c 0)).each
      State.sources fun s g => if s.accumulates g then s.updSrc g fun w =>
        { w with n := if w.skip then w.n else w.n + 1, skip := false } else s).each (List.range 4)
      State.resolverSample).each State.sources fun s g => if (s.winSrc g).closePend then s.closeWindow g false else s)) ∧
  (∀ s (g : Fin 16), 8191 ≤ (s.winSrc g).n → exec (.longWindowClose g) s = .next (s.closeWindow g true)) ∧
  (∀ s (g : Fin 16) ecc t w, s.deliverWindow g = (t, some w) → exec (.windowAverageDelivery g ecc) s = .next (t.windowDelivered g w ecc)) ∧
  (∀ s (g : Fin 16) ecc t, s.deliverWindow g = (t, none) → exec (.windowAverageDelivery g ecc) s = .next t) ∧
  (∀ s m (r : Fin 4), s.opens m .fad 0 = true → r.val ≠ 3 → s.anyArmed = false → exec (.referenceSelect m r) s =
    .next ((((s.setFld R.FAD_REF_SEL r).setFld R.FAD_REF_REF_RDY 0).updSens fun x => { x with refBad := false }).okResp)) ∧
  (∀ s (v : Fin 65536), s.on R.FAD_REF_REF_RDY = false → s.refInside v = true → exec (.referenceReady v) s =
    .next (((((s.updSens fun x => { x with refBad := false }).setFld R.FAD_REF_REF_RDY 1).setFld R.FAD_REF_MEAS_VALUE v).evt .fad 0 E.FAD_REF_READY).post 0x0020 (locFad 0x20)
      (s.fld R.FAD_REF_SEL))) ∧
  (∀ s (v : Fin 65536), s.on R.FAD_REF_REF_RDY = true → s.refInside v = false → exec (.refFail v) s =
    .next (let t := (((s.updSens fun x => { x with refBad := true }).setFld R.FAD_REF_REF_RDY 0).setFld R.FAD_REF_MEAS_VALUE v).flt .fad 0 F.FAD_REF_FAIL
      (t.post 0x3040 (locFad 0x20) (t.fld R.FAD_REF_SEL)).raise 5 State.allGroups)) ∧
  (∀ s m (c : Fin 32), s.isAgent m .fad 0 = true →
    exec (.lastRead m c) s = .next ((s.setFld (R.FAD_CH_LAST_FRESH c) 0).okResp (s.rd (R.FAD_CH_LAST c)))) ∧
  (∀ s m, exec (.faqPop m) s = .next (s.faqPop m)) ∧
  (∀ s m, s.opens m .faq 0 = true →
    exec (.faqDiscard m) s = .next ((s.updSens fun x => { x with faq := [] }).showFaq).okResp) ∧
  (∀ s w0 w1 rest, s.sens.waits = (w0, w1) :: rest → s.on R.FAQ_CTL_DMA_EN = true → inSram (s.faqSlot (s.fld R.FAQ_DMA_WR_INDEX)) = true →
    inSram (s.faqSlot (s.fld R.FAQ_DMA_WR_INDEX) + 7) = true → sramWriter s.faqDma (s.faqSlot (s.fld R.FAQ_DMA_WR_INDEX)) = true →
    bitAt (s.le (s.faqSlot (s.fld R.FAQ_DMA_WR_INDEX)) 4) 31 = true → exec .faqFallbackWrite s =
    .next (((s.updSens fun x => { x with waits := rest }).faqLost).showFaq)) ∧
  (∀ s w0 w1 rest, s.sens.waits = (w0, w1) :: rest → s.on R.FAQ_CTL_DMA_EN = true → inSram (s.faqSlot (s.fld R.FAQ_DMA_WR_INDEX)) = true →
    inSram (s.faqSlot (s.fld R.FAQ_DMA_WR_INDEX) + 7) = true → sramWriter s.faqDma (s.faqSlot (s.fld R.FAQ_DMA_WR_INDEX)) = true →
    bitAt (s.le (s.faqSlot (s.fld R.FAQ_DMA_WR_INDEX)) 4) 31 = false → s.on R.FAQ_STAT_ON_DMA = true → Answers .faqFallbackWrite s fun t =>
      t.mem = (((s.setLe (s.faqSlot (s.fld R.FAQ_DMA_WR_INDEX) + 4) w1.toNat 4).setLe (s.faqSlot (s.fld R.FAQ_DMA_WR_INDEX)) w0.toNat 4).mem)) ∧
  (∀ s, s.on R.HKA_STAT_BUSY = false → s.shed = false → exec .hkRoundStart s =
    .next ((s.setFld R.HKA_STAT_BUSY 1).updSens fun x => { x with hkSlot := 0, hkRound := x.hkRound + 1 })) ∧
  (∀ s (c0 c1 : Fin 65536), s.on R.HKA_STAT_BUSY = true → s.shed = false → s.cpSettle.sens.hkSlot < 14 → exec (.hkSlotEnd c0 c1) s =
    .next (let t := s.cpSettle
      (((t.hkStore t.sens.hkSlot c0).pwrMeas t.sens.hkSlot).hkStore (32 + t.sens.hkSlot) c1).tempWindows.updSens
      fun x => { x with hkSlot := t.sens.hkSlot + 1 })) ∧
  (∀ s (c : Fin 2), s.on R.HKA_STAT_BUSY = true → s.shed = false → exec (.hkStall c) s =
    .next ((((s.updSens fun x => { x with hkLate := true }).flt .hka 0 F.HKA_HK_STALL).post 0x3042 (locHka c) c).raise 6 State.allGroups))

/-- The window monitors: the commands complete. A comparator that is on and not under check, on an input beyond its threshold or back within
its hysteresis, trips, releases or resolves; a check starts from MC or the owner and ends with its result. -/
def Obligations.MonitorCommandsComplete : Prop :=
  (∀ s (k : Fin 32) hi (ch : Fin 32) x, s.monLooks k hi ch x = some true → s.monState k hi < 2 →
    exec (.monitorTrip k hi ch x) s = .next (s.monTripped k hi).tookFree) ∧
  (∀ s (k : Fin 32) hi (ch : Fin 32) x, s.monLooks k hi ch x = some false → s.monState k hi = 1 →
    exec (.monitorRelease k hi ch x) s = .next ((s.setFld (State.monStateFld k hi) 0).showPt).tookFree) ∧
  (∀ s (k : Fin 32) hi (ch : Fin 32) x, s.monLooks k hi ch x = some true → (s.mon k).failed = false → s.monState k hi = 2 →
    exec (.monitorResolve k hi ch x) s = .next (s.monTripped k hi).tookFree) ∧
  (∀ s (k : Fin 32) hi (ch : Fin 32) x, s.monLooks k hi ch x = some false → (s.mon k).failed = false → s.monState k hi = 2 →
    exec (.monitorResolve k hi ch x) s = .next ((s.setFld (State.monStateFld k hi) 0).showPt).tookFree) ∧
  (∀ s m (k : Fin 32), exec (.monitorSwapCheck m k) s = .next (s.monCheck m k 1)) ∧
  (∀ s m (k : Fin 32), exec (.monitorTieCheck m k) s = .next (s.monCheck m k 2)) ∧
  (∀ s (k : Fin 32) pass, (s.mon k).check = 2 → Answers (.monitorCheckDone k pass) s fun t =>
    (t.mon k).check = 0 ∧ (t.mon k).failed = !pass ∧ t.mem = s.mem)

/-- Carriers and arming: the commands complete. A running carrier's period start and half period; an edge guard; arming from OFF, precharge,
completion and abort of ARMING; DISARM in each state: each has the effect of its rule. -/
def Obligations.PwmCommandsComplete : Prop :=
  (∀ s (g : Fin 12), s.on (R.PG_STAT_CAR_RUN g) = true → exec (.carrierPeriodStart g) s =
    .next ((s.periodStart 11 g).each ((List.range 12).filter (s.periodStart 11 g).atPeriodStart) State.convStart)) ∧
  (∀ s (g : Fin 12), s.on (R.PG_STAT_CAR_RUN g) = true → s.wmode g = 2 ∨ s.wmode g = 3 → exec (.halfPeriodPoint g) s = .next (s.windowBoundary g)) ∧
  (∀ s (g : Fin 12), exec (.cntMismatch g) s = .next (((s.flt .pg g F.PG_CNT_MISMATCH).post 0x3050 (locPg g) g).raise 7 (2 ^ g.val))) ∧
  (∀ s (g : Fin 12) (k : Fin 6), exec (.edgeDue g k) s = .next (s.guardSlot g k)) ∧
  (∀ s m (g : Fin 12), s.opens m .pg g = true → exec (.arm m g) s = .next (s.armGroup m g)) ∧
  (∀ s (g : Fin 12), s.gstate g = 1 → (s.grp g).precharging = true → exec (.prechargeEnd g) s =
    .next ((s.each (s.prechargeChans g) fun s c => (s.updLeg (chanLeg c) fun r => { r with code := 0 }).directOff c).updGrp g fun r => { r with precharging := false, charged := true })) ∧
  (∀ s (g : Fin 12), s.gstate g = 1 → (s.grp g).charged = true → s.atPeriodStart g = true → exec (.armingComplete g) s =
    .next (((s.armComplete g).trcArmed g).each [0, 1, 2] State.actEval)) ∧
  (∀ s (g : Fin 12) p, s.gstate g = 1 → ((s.armConds g).find? fun p => !p.2) = some p →
    exec (.armingAbort g) s = .next (s.disarmed g p.1)) ∧
  (∀ s m (g : Fin 12), s.opens m .pg g = true → s.gstate g = 2 → exec (.disarm m g) s =
    .next (s.updGrp g fun r => { r with disarmPend := true }).okResp) ∧
  (∀ s m (g : Fin 12), s.opens m .pg g = true → s.gstate g = 1 → exec (.disarm m g) s = .next (s.disarmed g 0).okResp) ∧
  (∀ s m (g : Fin 12), s.opens m .pg g = true → s.gstate g = 0 → exec (.disarm m g) s = .next s.okResp) ∧
  (∀ s m (g : Fin 12), s.opens m .pg g = true → s.gstate g = 3 → exec (.disarm m g) s = .next s.okResp) ∧
  (∀ s (g : Fin 12), s.gstate g = 2 → (s.grp g).disarmPend = true → s.atPeriodStart g = true →
    exec (.disarmTakeEffect g) s = .next (s.disarmed g 0))

/-- Nolil frames and link states: the commands complete. An IDLE or SAFE frame without noise on it acts on the die as its rule says, an EDGE
frame puts the edges it carries on the line with their ages, an IDLE frame whose CRC fails counts as a CRC error, a REG or CFG frame acts
or is counted; a loss, training, calibration, restart and a region mismatch move the link's state. -/
def Obligations.LinkCommandsComplete : Prop :=
  (∀ s (k : Fin 15) hot, (s.link k).seq < 4 → exec (.idleFrame k [] hot) s = .next ((s.sent k).idleLevels k
    ((linkLegs k).foldl (fun m l => m + b2n (s.legLevel l) * 2 ^ legIdx l) 0) hot)) ∧
  (∀ s (k : Fin 15) noise hot f, f = noisy noise (s.downFrame k 0 (wordBytes (s.now % 2 ^ 16) ++
      [BitVec.ofNat 8 ((linkLegs k).foldl (fun m l => m + b2n (s.legLevel l) * 2 ^ legIdx l) 0 * 16 + s.fld (R.NL_CTL_FALLBACK k))])) →
    (f.getLastD 0).toNat ≠ crc8 f.dropLast → (f.getD 0 0).toNat % 2 ^ 5 / 2 ^ 2 ≠ 1 →
    exec (.idleFrame k noise hot) s = .next ((s.sent k).crcError k)) ∧
  (∀ s (k : Fin 15) (n : Fin 5) (lag : Fin 65536) noise hot i lv t0 rest, (s.nextEdges k).take n = .edge i lv t0 :: rest →
    exec (.edgeFrame k n lag noise hot) s = .next (((s.sent k).updLink k fun r =>
      { r with queue := (LinkItem.edge i lv t0 :: rest).foldl (fun q e => q.erase e) r.queue }).dieReceive k 0 (noisy noise (s.downFrame k 1
        ((LinkItem.edge i lv t0 :: rest).zipIdx.flatMap fun e => match e.1 with
          | .edge i lv t => wordBytes (edgeWord (e.2 < rest.length) i lv (t0 + lag + 2048 * e.2 / 5 - t))
          | _ => []))) hot)) ∧
  (∀ s (k : Fin 15) hot t codes rest, (s.link k).seq < 4 → codes < 256 → ((s.link k).queue.filter (· ≠ .cfg)) = .safe t codes :: rest →
    exec (.safeFrame k [] hot) s =
    .next (((s.sent k).updLink k fun r => { r with queue := r.queue.erase (.safe t codes) }).safeFrame k t codes hot)) ∧
  (∀ s (k : Fin 15), exec (.regFrame k true) s = .next (s.sent k)) ∧
  (∀ s (k : Fin 15), exec (.regFrame k false) s = .next ((s.sent k).crcError k)) ∧
  (∀ s (k : Fin 15), (s.link k).queue.contains .cfg = true → exec (.cfgFrame k true) s =
    .next (((s.sent k).updLink k fun r => { r with queue := r.queue.erase .cfg }).cfgFrame k)) ∧
  (∀ s (k : Fin 15) (q : Fin 3) (v : Fin 4096) meas, s.fld (R.NL_STAT_STATE k) = 2 →
    exec (.statusFrame k q v meas) s = .next (s.statusFrame k q v meas)) ∧
  (∀ s (k : Fin 15) hot, (s.link k).fallback = false → exec (.dieLinkLoss k hot) s =
    .next (((s.updLink k fun r => { r with fallback := true, cfgd := false, queue := [] }).each (linkLegs k) fun s l =>
      (s.endRefresh l).applyLeg l true hot).each (linkChans k) State.updReady)) ∧
  (∀ s (k : Fin 15), s.fld (R.NL_STAT_STATE k) = 2 → exec (.controllerLinkLoss k) s =
    .next (((((((s.setFld (R.NL_STAT_STATE k) 3).setFld (R.NL_STAT_CAL_DONE k) 0).inc (R.NL_ERR_LOSS k)).linkFault k).each
      ((List.range 12).filter (bitAt (s.dieGroups k))) fun s g => s.flt .pg g F.PG_LINK_LOST).post 0x3051 (locLink k) k).raise 8
      (s.dieGroups k))) ∧
  (∀ s (k : Fin 15), s.on (R.NL_CTL_EN k) = true → s.fld (R.NL_STAT_STATE k) ≠ 2 → s.fld (R.NL_STAT_STATE k) ≠ 4 →
    exec (.linkTrained k) s = .next ((s.setFld (R.NL_STAT_STATE k) 2).setFld ⟨R.NL_REG k, 28, 3⟩ 0)) ∧
  (∀ s (k : Fin 15) (v : Fin 256), s.fld (R.NL_STAT_STATE k) = 2 → exec (.linkCalDone k v) s =
    .next ((s.setFld (R.NL_STAT_CAL_DONE k) 1).setFld (R.NL_STAT_TRIM k) v)) ∧
  (∀ s m (k : Fin 15), s.opens m .pg 0 = true → s.dieActive k = false → exec (.linkRestart m k) s = .next (s.restartLink k).okResp) ∧
  (∀ s (k : Fin 15) (q : Fin 3), s.fld (R.NL_STAT_STATE k) = 2 → exec (.regionMismatch k q) s =
    .next ((((((s.setFld (State.regionFld k q) 1).setFld (R.NL_STAT_STATE k) 4).linkFault k).post 0x3052 (locLink k) (k + q * 16))).raise 8
      ((((s.setFld (State.regionFld k q) 1).setFld (R.NL_STAT_STATE k) 4).linkFault k).dieGroups k)))

/-- The driver dies: the commands complete. Desaturation, two-step turn-off, supply supervision, readiness, clamp, channel power, latches,
bootstrap, refresh, soft turn-off and the end of a dead time act on their channel or leg as the rules say. -/
def Obligations.DieCommandsComplete : Prop :=
  (∀ s (c : Fin 48), s.on (ghd R.GHD_DSAT_DSAT_EN c) = true → s.on (chanOnFld c) = true → exec (.dsatTrip c) s = .next (s.dsatTrip c)) ∧
  (∀ s (c : Fin 48), s.on (ghd R.GHD_STAT_TWO_STEP c) = true →
    exec (.twoStepHoldEnd c) s = .next (s.setFld (ghd R.GHD_STAT_TWO_STEP c) 0)) ∧
  (∀ s (c : Fin 48), exec (.supplyUvlo c true false) s = .next (s.setFld (ghd R.GHD_STAT_PUV c) 0)) ∧
  (∀ s (c : Fin 48), s.on (ghd R.GHD_STAT_PUV c) = false → s.on (ghd R.GHD_STAT_NUV c) = false → exec (.supplyUvlo c true true) s =
    .next (((((((s.setFld (ghd R.GHD_STAT_PUV c) 1).inc (ghd R.GHD_CNT_UV_CNT c)).directOff c).setFld (ghd R.GHD_STAT_TWO_STEP c) 0).updChan c
      fun r => { r with supOk := false, uvHold := true }).updReady c))) ∧
  (∀ s c, isHv (chanNo c) = false → s.on (R.GLD_SUP_VDD_UV ((chanNo c - 64) / 8)) = false → exec (.readySet c) s =
    .next ((s.updChan (chanNo c) fun r => { r with supOk := true }).updReady (chanNo c))) ∧
  (∀ s (c : Fin 48), s.on (ghd R.GHD_CLP_CLAMP_EN c) = true → s.on (chanOnFld c) = false →
    exec (.clampOn c) s = .next (s.setFld (ghd R.GHD_STAT_CLAMP_ON c) 1)) ∧
  (∀ s (c : Fin 48) (v : Fin 256), v.val < 200 → exec (.channelPwrHigh c v) s =
    .next (((s.setFld (ghd R.GHD_PWR_AVG c) v).setFld (ghd R.GHD_PWR_PEAK c)
      (max ((s.setFld (ghd R.GHD_PWR_AVG c) v).fld (ghd R.GHD_PWR_PEAK c)) v)).setFld (ghd R.GHD_STAT_PWR_HIGH c) 0)) ∧
  (∀ s (c : Fin 48), 220 ≤ s.fld (ghd R.GHD_PWR_AVG c) → exec (.channelPwrTrip c) s =
    .next (((s.setFld (ghd R.GHD_STAT_PWR_LATCH c) 1).directOff c).updReady c)) ∧
  (∀ s m c, isHv (chanNo c) = true → (s.mayWrite m .ghd (chanNo c / 4) || s.isAgent m .ghd (chanNo c / 4)) = true →
    s.on (hdr .ghd (chanNo c / 4) 0x08 0 1) = false → s.remoteDown .ghd (chanNo c / 4) = false → s.legActive (chanLeg (chanNo c)) = false → exec (.tripLatchClear m c true false) s =
    .next ((s.setFld (ghd R.GHD_STAT_DSAT_LATCH (chanNo c)) 0).updReady (chanNo c)).okResp) ∧
  (∀ s (l : Fin 12) (v : Fin 256), 75 ≤ v.val → exec (.bootstrapUvlo l v) s =
    .next ((s.setFld (gld R.GLD_LEG_BST_VBST (0x20 + l.val)) v).setFld (gld R.GLD_LEG_STAT_BST_LOW (0x20 + l.val)) (b2n (v.val < 80)))) ∧
  (∀ s (k : Fin 3), exec (.lvDieSupplyFault k false true) s =
    .next ((((s.setFld (R.GLD_SUP_VDD_UV k) 1).each (linkChans (12 + k)) State.directOff).each (linkChans (12 + k)) fun s c =>
      s.updChan c fun r => { r with supOk := false }).each (linkChans (12 + k)) State.updReady)) ∧
  (∀ s (l : Fin 12), s.on (gld R.GLD_LEG_STAT_REFRESHING (0x20 + l.val)) = true → exec (.refreshPulseEnd l) s =
    .next ((s.endRefresh (0x20 + l.val)).applyLeg (0x20 + l.val) false [])) ∧
  (∀ s (l : Fin 12), s.on (gld R.GLD_LEG_CFG_REF_EN (0x20 + l.val)) = true → (s.leg (0x20 + l.val)).configured = true →
    (s.leg (0x20 + l.val)).use = 0 → s.legCode (0x20 + l.val) = 3 → (s.leg (0x20 + l.val)).level = true →
    s.on (gld R.GLD_LEG_STAT_REFRESHING (0x20 + l.val)) = false → exec (.refreshPulse l) s =
    .next ((((s.setFld (gld R.GLD_LEG_STAT_REFRESHING (0x20 + l.val)) 1).inc (gld R.GLD_LEG_CNT_REFRESH_CNT (0x20 + l.val))).evt .gld (l / 4)
      (E.GLD_REFRESH + l % 4)).applyLeg (0x20 + l.val) false [])) ∧
  (∀ s l, (s.leg (legNo l)).incoming = 2 → s.chanOff (legLow (legNo l)) = true → exec (.deadTimeEnd l) s =
    .next ((s.updLeg (legNo l) fun r => { r with incoming := 0 }).turnOn (legHigh (legNo l)))) ∧
  (∀ s (l : Fin 12), exec (.lvSoftTurnOffEnd l) s = .next (s.updLeg (0x20 + l.val) fun r => { r with soft := false })) ∧
  (∀ s, s.on R.SAF_CHOP_EN = true → s.slotLevel 7 0 = true → s.monState (s.fld R.SAF_CHOP_MON) true ≠ 1 →
    exec .chopperSample s = .next (s.inc R.SAF_CHOPSTAT_MISS)) ∧
  (∀ s, s.on R.SAF_CHOP_EN = true → s.slotLevel 7 0 = false → s.monState (s.fld R.SAF_CHOP_MON) true = 1 →
    exec (.chopperFault true) s = .next (s.chopFault true)) ∧
  (∀ s (g : Fin 12), s.gstate g = 3 → s.fld (R.PG_STAT_SAFE_KIND g) = 2 ∨ s.fld (R.PG_STAT_SAFE_KIND g) = 3 →
    s.on (R.SAF_GRP_TRAC g) = true →
    s.on (R.POS_STAT_SENSOR_FAULT (s.fld (R.SAF_GRP_POS g))) = false ∨ s.on (R.POS_STAT_FROZEN (s.fld (R.SAF_GRP_POS g))) = true →
    f32AbsGe (s.rd (R.POS_RPM (s.fld (R.SAF_GRP_POS g)))) (s.fld (R.SAF_GRP_N_CROSS g) * 19) 20 = false →
    exec (.speedFreewheelChange g) s = .next ((s.commandGroup g 1).updSafeReg))

/-- The engine instructions NOP to LERP complete. A lane whose next instruction is defined and has a true predicate issues it: the run goes on
with the stated results written and flags set. -/
def Obligations.ArithmeticInstructionsComplete : Prop :=
  (∀ s l r i, s.Issues l 0x00 r i → exec (.nop l) s = .next (s.applyEff l r {})) ∧
  (∀ s l r i, s.Issues l 0x01 r i → exec (.mov l) s = .next (s.applyEff l r { writes := [(i.dst, s.operand r i i.a)] })) ∧
  (∀ s l r i, s.Issues l 0x02 r i → exec (.add l) s = .next (s.applyEff l r
    (.one i.dst (((s.opVal r i i.a).add (s.opVal r i i.b)).round)))) ∧
  (∀ s l r i, s.Issues l 0x03 r i → exec (.sub l) s = .next (s.applyEff l r
    (.one i.dst (((s.opVal r i i.a).sub (s.opVal r i i.b)).round)))) ∧
  (∀ s l r i, s.Issues l 0x04 r i → exec (.mul l) s = .next (s.applyEff l r
    (.one i.dst (((s.opVal r i i.a).mul (s.opVal r i i.b)).round)))) ∧
  (∀ s l r i, s.Issues l 0x05 r i → exec (.mac l) s = .next (s.applyEff l r
    (.one i.dst ((((s.opVal r i i.a).mul (s.opVal r i i.b)).add (s.opVal r i i.c)).round)))) ∧
  (∀ s l r i, s.Issues l 0x06 r i → exec (.msb l) s = .next (s.applyEff l r
    (.one i.dst (((s.opVal r i i.c).sub ((s.opVal r i i.a).mul (s.opVal r i i.b))).round)))) ∧
  (∀ s l r i, s.Issues l 0x07 r i → exec (.neg l) s = .next (s.applyEff l r
    { writes := [(i.dst, (s.operand r i i.a) ^^^ 0x80000000#32)] })) ∧
  (∀ s l r i, s.Issues l 0x08 r i → exec (.abs l) s = .next (s.applyEff l r
    { writes := [(i.dst, (s.operand r i i.a) &&& 0x7FFFFFFF#32)] })) ∧
  (∀ s l r i, s.Issues l 0x09 r i → exec (.min l) s = .next (s.applyEff l r
    { Eff.one i.dst (chosen (pick false (s.freeBit 0) (s.opVal r i i.a) (s.opVal r i i.b))) with taken := 1 })) ∧
  (∀ s l r i, s.Issues l 0x0A r i → exec (.max l) s = .next (s.applyEff l r
    { Eff.one i.dst (chosen (pick true (s.freeBit 0) (s.opVal r i i.a) (s.opVal r i i.b))) with taken := 1 })) ∧
  (∀ s l r i, s.Issues l 0x0B r i → exec (.clamp l) s = .next (s.applyEff l r
    { Eff.one i.dst (chosen (clampEv (s.freeBit 0, s.freeBit 1) (s.opVal r i i.a) (s.opVal r i i.b) (s.opVal r i i.c))) with taken := 1 })) ∧
  (∀ s l r i, s.Issues l 0x0C r i → exec (.lerp l) s = .next (s.applyEff l r
    (.one i.dst (((s.opVal r i i.b).add ((s.opVal r i i.a).mul ((s.opVal r i i.c).sub (s.opVal r i i.b)))).round))))

/-- The engine instructions RATE to CVTF complete. A lane whose next instruction is defined and has a true predicate issues it: the run goes
on with the stated results written and flags set; a result known only to a bound is taken freely within it. -/
def Obligations.FunctionInstructionsComplete : Prop :=
  (∀ s l r i, s.Issues l 0x0D r i → exec (.rate l) s = .next (s.applyEff l r (rateEff s r i))) ∧
  (∀ s l r i, s.Issues l 0x0E r i → exec (.wrap l) s = .next (s.applyEff l r (.one i.dst (wrapRes (s.opVal r i i.a))))) ∧
  (∀ s l r i, s.Issues l 0x0F r i → exec (.rcp l) s = .next (s.applyEff l r
    { Eff.one i.dst (divRes (.int 1) (s.opVal r i i.a) fun n d neg => f32Within neg n d false s.freeVal.toNat) with taken := 1 })) ∧
  (∀ s l r i, s.Issues l 0x10 r i → exec (.rsq l) s = .next (s.applyEff l r
    { Eff.one i.dst (rsqRes s.freeVal.toNat (s.opVal r i i.a)) with taken := 1 })) ∧
  (∀ s l r i, s.Issues l 0x11 r i → exec (.div l) s = .next (s.applyEff l r
    (.one i.dst (divRes (s.opVal r i i.a) (s.opVal r i i.b) fun n d neg => .ofF32 (f32Round neg n d))))) ∧
  (∀ s l r i, s.Issues l 0x12 r i → exec (.sqrt l) s = .next (s.applyEff l r (.one i.dst (sqrtRes (s.opVal r i i.a))))) ∧
  (∀ s l r i, s.Issues l 0x13 r i → exec (.hyp l) s = .next (s.applyEff l r
    { Eff.one i.dst (hypRes s.freeVal.toNat (s.opVal r i i.a) (s.opVal r i i.b)) with taken := 1 })) ∧
  (∀ s l r i, s.Issues l 0x14 r i → exec (.atan2 l) s = .next (s.applyEff l r
    { Eff.one i.dst (belowOne (atan2Res s.freeVal (s.opVal r i i.a) (s.opVal r i i.b))) with taken := 1 })) ∧
  (∀ s l r i, s.Issues l 0x15 r i → exec (.sincos l) s = .next (s.applyEff l r (sincosEff s r i))) ∧
  (∀ s l r i, s.Issues l 0x16 r i → exec (.cvti l) s = .next (s.applyEff l r (.one i.dst (cvtiRes (s.opVal r i i.a))))) ∧
  (∀ s l r i, s.Issues l 0x17 r i → exec (.cvtf l) s = .next (s.applyEff l r
    (.one i.dst (.ofF32 (f32OfInt (s.operand r i i.a).toInt 0)))))

/-- The engine's comparisons, SEL and integer instructions complete. A lane whose next instruction is defined and has a true predicate issues
it: a comparison sets the predicate flag and INVALID for a NaN, an integer instruction writes its raw result. -/
def Obligations.LogicInstructionsComplete : Prop :=
  (∀ s l r i, s.Issues l 0x18 r i → exec (.cmplt l) s = .next (s.applyEff l r
    { pf := some (!(s.opVal r i i.a).isNan && !(s.opVal r i i.b).isNan && (s.opVal r i i.a).lt (s.opVal r i i.b)), inv := (s.opVal r i i.a).isNan || (s.opVal r i i.b).isNan })) ∧
  (∀ s l r i, s.Issues l 0x19 r i → exec (.cmple l) s = .next (s.applyEff l r
    { pf := some (!(s.opVal r i i.a).isNan && !(s.opVal r i i.b).isNan && (s.opVal r i i.a).le (s.opVal r i i.b)), inv := (s.opVal r i i.a).isNan || (s.opVal r i i.b).isNan })) ∧
  (∀ s l r i, s.Issues l 0x1A r i → exec (.cmpeq l) s = .next (s.applyEff l r
    { pf := some (!(s.opVal r i i.a).isNan && !(s.opVal r i i.b).isNan && ((s.opVal r i i.a).le (s.opVal r i i.b) && (s.opVal r i i.b).le (s.opVal r i i.a))), inv := (s.opVal r i i.a).isNan || (s.opVal r i i.b).isNan })) ∧
  (∀ s l r i, s.Issues l 0x1B r i → exec (.cmpag l) s = .next (s.applyEff l r
    { pf := some (!(s.opVal r i i.a).isNan && !(s.opVal r i i.b).isNan && (s.opVal r i i.b).lt (s.opVal r i i.a).abs), inv := (s.opVal r i i.a).isNan || (s.opVal r i i.b).isNan })) ∧
  (∀ s l r i, s.Issues l 0x1C r i → exec (.pandlt l) s = .next (s.applyEff l r
    { pf := some (r.pf && (!(s.opVal r i i.a).isNan && !(s.opVal r i i.b).isNan && (s.opVal r i i.a).lt (s.opVal r i i.b))), inv := (s.opVal r i i.a).isNan || (s.opVal r i i.b).isNan })) ∧
  (∀ s l r i, s.Issues l 0x1D r i → exec (.porlt l) s = .next (s.applyEff l r
    { pf := some (r.pf || (!(s.opVal r i i.a).isNan && !(s.opVal r i i.b).isNan && (s.opVal r i i.a).lt (s.opVal r i i.b))), inv := (s.opVal r i i.a).isNan || (s.opVal r i i.b).isNan })) ∧
  (∀ s l r i, s.Issues l 0x1E r i → exec (.sel l) s = .next (s.applyEff l r
    { writes := [(i.dst, if r.pf then s.operand r i i.a else s.operand r i i.b)] })) ∧
  (∀ s l r i, s.Issues l 0x1F r i → exec (.btst l) s = .next (s.applyEff l r
    { pf := some (bitAt (s.operand r i i.a).toNat (i.imm % 32)) })) ∧
  (∀ s l r i, s.Issues l 0x20 r i → exec (.and l) s = .next (s.applyEff l r
    { writes := [(i.dst, (s.operand r i i.a) &&& (s.operand r i i.b))] })) ∧
  (∀ s l r i, s.Issues l 0x21 r i → exec (.or l) s = .next (s.applyEff l r
    { writes := [(i.dst, (s.operand r i i.a) ||| (s.operand r i i.b))] })) ∧
  (∀ s l r i, s.Issues l 0x22 r i → exec (.xor l) s = .next (s.applyEff l r
    { writes := [(i.dst, (s.operand r i i.a) ^^^ (s.operand r i i.b))] })) ∧
  (∀ s l r i, s.Issues l 0x23 r i → exec (.shr l) s = .next (s.applyEff l r
    { writes := [(i.dst, (s.operand r i i.a) >>> (i.imm % 32))] }))

/-- The engine's transforms, PIC, SVM and table instructions complete. A lane whose next instruction is defined and has a true predicate
issues it: the run goes on with the words of the transform, the controller, the modulator or the table written. -/
def Obligations.BlockInstructionsComplete : Prop :=
  (∀ s l r i, s.Issues l 0x30 r i → exec (.clk3 l) s = .next (s.applyEff l r
    (.many i.dst (clk3Of (s.opVal r i i.a) (s.opVal r i (i.a + 1)) (s.opVal r i (i.a + 2)))))) ∧
  (∀ s l r i, s.Issues l 0x31 r i → exec (.vsd6 l) s = .next (s.applyEff l r
    (.many i.dst (vsd6Of ((List.range 6).map fun k => s.opVal r i (i.a + k)))))) ∧
  (∀ s l r i, s.Issues l 0x32 r i → exec (.park l) s = .next (s.applyEff l r (parkEff false s r i))) ∧
  (∀ s l r i, s.Issues l 0x33 r i → exec (.ipark l) s = .next (s.applyEff l r (parkEff true s r i))) ∧
  (∀ s l r i, s.Issues l 0x34 r i → exec (.parksc l) s = .next (s.applyEff l r
    (.many i.dst (rotate false (s.opVal r i i.a) (s.opVal r i i.b) (s.opVal r i i.c) (s.opVal r i (i.c + 1)))))) ∧
  (∀ s l r i, s.Issues l 0x35 r i → exec (.iparksc l) s = .next (s.applyEff l r
    (.many i.dst (rotate true (s.opVal r i i.a) (s.opVal r i i.b) (s.opVal r i i.c) (s.opVal r i (i.c + 1)))))) ∧
  (∀ s l r i, s.Issues l 0x36 r i → exec (.pic l) s = .next (s.applyEff l r (picEff s r i))) ∧
  (∀ s l r i, s.Issues l 0x37 r i → exec (.svm l) s = .next (s.applyEff l r (svmEff s r i))) ∧
  (∀ s l r i, s.Issues l 0x38 r i → exec (.lut1 l) s = .next (s.applyEff l r (lutEff false s r i))) ∧
  (∀ s l r i, s.Issues l 0x39 r i → exec (.lut2 l) s = .next (s.applyEff l r (lutEff true s r i)))

/-- Position channels and emulators: the commands complete. An edge, an illegal transition, an index, a Hall state, a resolver period, a
serial word or its timeout, standstill, a restart, a sensor fault and an emulator's step or configuration have the effect of their rules,
in the mode in which they occur. -/
def Obligations.PositionCommandsComplete : Prop :=
  (∀ s (p : Fin 4) l new, new = s.filtered p (l.map Fin.val) → s.posMode p = 2 → (bitAt new 2 && !bitAt (s.posRec p).lines 2) = false →
    (s.abStep p new + 4 - s.abStep p (s.posRec p).lines) % 4 = 1 → exec (.quadratureEdge p l) s =
    .next ((((s.updPos p fun r => { r with lines := new }).addCount p 1).legalEdge p false (s.now - s.fld (R.POS_CFG_FILT p))).showEmus)) ∧
  (∀ s (p : Fin 4) l new, new = s.filtered p (l.map Fin.val) → s.posMode p = 2 → (bitAt new 2 && !bitAt (s.posRec p).lines 2) = false →
    (s.abStep p new + 4 - s.abStep p (s.posRec p).lines) % 4 = 3 → exec (.quadratureEdge p l) s =
    .next ((((s.updPos p fun r => { r with lines := new }).addCount p (-1)).legalEdge p true (s.now - s.fld (R.POS_CFG_FILT p))).showEmus)) ∧
  (∀ s (p : Fin 4) l new, new = s.filtered p (l.map Fin.val) → s.posMode p = 2 → (bitAt new 2 && !bitAt (s.posRec p).lines 2) = false →
    (s.abStep p new + 4 - s.abStep p (s.posRec p).lines) % 4 = 2 → exec (.illegalTransition p l) s =
    .next (((s.updPos p fun r => { r with lines := new }).illegal p).showEmus)) ∧
  (∀ s (p : Fin 4) l new, new = s.filtered p (l.map Fin.val) → s.posMode p = 3 → new ≠ (s.posRec p).lines → s.hallSector p new = 6 →
    exec (.illegalTransition p l) s = .next (((((s.updPos p fun r => { r with lines := new }).updPos p fun r =>
      { r with sector := 6, was := if (s.posRec p).sector < 6 then (s.posRec p).sector else r.was }).illegal p).showEmus))) ∧
  (∀ s (p : Fin 4), exec (.illWindowEnd p) s = .next (s.updPos p fun r => { r with ill := 0 })) ∧
  (∀ s (p : Fin 4) l new t, new = s.filtered p (l.map Fin.val) → s.posMode p = 2 → s.abStep p new = s.abStep p (s.posRec p).lines →
    bitAt new 2 = true → bitAt (s.posRec p).lines 2 = false → s.on (R.POS_QEI_Z_EN p) = true → s.on (R.POS_STAT_HOMED p) = false →
    t = ((((s.updPos p fun r => { r with lines := new }).addCount p (-s.indexErr p)).setFld (R.POS_STAT_HOMED p) 1).evt .pos p E.POS_HOMED).post
      0x0070 (locPos p) p →
    exec (.indexPulse p l) s = .next (State.showEmus (t.setMeas p fun m => { m with ang := t.edgeAngle p false }))) ∧
  (∀ s (p : Fin 4) l new, new = s.filtered p (l.map Fin.val) → s.posMode p = 3 → new ≠ (s.posRec p).lines → (s.posRec p).sector < 6 →
    s.hallSector p new = ((s.posRec p).sector + 1) % 6 → exec (.hallEdge p l) s =
    .next (((((s.updPos p fun r => { r with lines := new }).updPos p fun r =>
      { r with sector := s.hallSector p new, was := (s.posRec p).sector }).addCount p 1).legalEdge p false
      (s.now - s.fld (R.POS_CFG_FILT p))).showEmus)) ∧
  (∀ s (p : Fin 4) (cur : Fin 1048576) n l sn cs, s.posMode p = 1 → n = s.fld (R.POS_RSLV0_EXC_DIV p) → l = (s.posRec p).smp.take n → n ≤ l.length →
    State.demod (s.fld (R.POS_RSLV1_PHASE p)) n l = (sn, cs) → ¬(sn = 0 ∧ cs = 0) →
    ∃ x y u, u = State.newAngle (State.updPos (s.setFld (R.POS_AMP_AMP p) (isqrt (4 * (sn * sn + cs * cs).toNat / (n * n)) / 2 ^ 128)) p
        fun r => { r with smp := r.smp.drop n, ampBad := x, excBad := y }) p ⟨atan2Turns sn cs, 2 ^ 64⟩ ((l.getD (n / 2) (s.now, 0, 0)).1)
        (s.fld (R.POS_CFG_SENS_PP p)) ∧
      exec (.resolverResult p cur) s =
        .next (if 4 ≤ (u.posRec p).ampBad then u.posFault p 3 else if 4 ≤ (u.posRec p).excBad then u.posFault p 4 else u)) ∧
  (∀ s (p : Fin 4) l, s.posMode p = 4 → (s.posRec p).busy = true → s.serialStart p l = none →
    exec (.serialWord p l) s = .next ((s.serialEnd p).badWord p 2)) ∧
  (∀ s (p : Fin 4) l k, s.posMode p = 4 → (s.posRec p).busy = true → s.serialStart p l = some k → Answers (.serialWord p l) s fun t =>
    (t.posRec p).busy = false ∧ (t.posRec p).gapEnd = s.now + 400 * s.fld (R.POS_SER2_GAP p)) ∧
  (∀ s (p : Fin 4), s.posMode p = 4 → (s.posRec p).busy = true → exec (.serialWordTimeout p) s =
    .next (((s.opTo .pos p).serialEnd p).badWord p 3)) ∧
  (∀ s (p : Fin 4), s.posMode p = 2 ∨ s.posMode p = 3 → s.on (R.POS_STAT_STILL p) = false →
    (s.posRec p).lastAt + 400000 * s.fld (R.POS_TIME_STILL_MS p) ≤ s.now → Answers (.standstill p) s fun t =>
      t.on (R.POS_STAT_STILL p) = true ∧ t.on (hdr .pos p 0x28 1 1) = true ∧ (t.posRec p).restart = 1 ∧ (t.posRec p).meas.spd = {} ∧
      t.fld (R.POS_COUNT_COUNT p) = s.fld (R.POS_COUNT_COUNT p)) ∧
  (∀ s m (p : Fin 4) w, s.opens m .pos p = true → exec (.posRestart m p w) s = .next (s.posRestart p w).okResp) ∧
  (∀ s (p : Fin 4), s.posMode p = 2 ∨ s.posMode p = 4 → exec (.sensorFault p 2) s = .next (s.posFault p 2).showEmus) ∧
  (∀ s (e : Fin 2), s.on (R.EMU_CFG_EN e) = true → s.on (R.EMU_CFG_MODE e) = true → s.emuHeld e = false → s.emuOut e < s.emuTarget e →
    (∀ t, (s.emuRec e).last = some t → t + 16 ≤ s.now) →
    exec (.emuStep e) s = .next ((s.updEmu e fun r => { r with count := r.count + 1, last := some s.now }).showEmu e)) ∧
  (∀ s m (e : Fin 2) v t u, s.opens m .emu 0 = true → s.on (R.EMU_CFG_EN e) = false → getBits v 0 1 = 1 → getBits v 1 1 = 1 →
    t = s.wr (R.EMU_CFG e) (BitVec.ofNat 32 (getBits v 0 6)) → u = t.updEmu e (fun r => { r with count := t.emuTarget e, last := none }) →
    exec (.emuEnable m e v) s = .next (((u.updEmu e fun r => { r with pins := u.emuPins e }).showEmu e).okResp))

/-- Traction supervision: the commands complete. A declaration drops its set or raises its fault; the dropped set changes its mode by speed;
the degrade timer warns and expires; CLEAR and KE_RESTART return the state; identification completes. -/
def Obligations.TractionCommandsComplete : Prop :=
  (∀ s (n : Fin 2), (s.tracRec n).decl = 1 ∨ (s.tracRec n).decl = 2 → Answers (.trcDeclaration n) s fun t =>
    (t.tracRec n).decl = 0 ∧ t.fld (R.TRC_STAT_STATE n) = 1 ∧ t.fld (R.TRC_STAT_SET n) = (s.tracRec n).decl - 1) ∧
  (∀ s (n : Fin 2), (s.tracRec n).decl = 3 →
    exec (.trcDeclaration n) s = .next ((s.updTrac n fun t => { t with decl := 0 }).trcSetFault n 3)) ∧
  (∀ s (n : Fin 2), s.fld (R.TRC_STAT_STATE n) ≠ 0 → s.on (R.TRC_CFG_DROP_SPD n) = true → s.on (R.TRC_STAT_DROP_SHORT n) = false →
    s.trcFast n = true → Answers (.dropModeChange n) s fun t => t.on (R.TRC_STAT_DROP_SHORT n) = true) ∧
  (∀ s (n : Fin 2), s.fld (R.TRC_STAT_STATE n) = 1 →
    (s.fld (R.TRC_DEG_DEGRADE_MAX n) - s.fld (R.TRC_DEG_DEG_WARN n)) * 1000 ≤ s.fld (R.TRC_DEG_TIME_ELAPSED_MS n) →
    exec (.degradeWarning n) s =
    .next ((s.evt .trc n E.TRC_DEG_WARN).post 0x1080 (locTrc n 1) (s.fld (R.TRC_DEG_DEG_WARN n) + n * 2 ^ 15))) ∧
  (∀ s (n : Fin 2), s.fld (R.TRC_STAT_STATE n) = 1 → s.fld (R.TRC_DEG_DEGRADE_MAX n) * 1000 ≤ s.fld (R.TRC_DEG_TIME_ELAPSED_MS n) →
    Answers (.degradeExpiry n) s fun t => t.fld (R.TRC_STAT_STATE n) = 2 ∧ t.fld (R.TRC_STAT_FCAUSE n) = 1) ∧
  (∀ s m (n : Fin 2), s.opens m .trc n = true → s.gstate (s.fld (R.TRC_CFG_GRP n)) = 0 → Answers (.trcClear m n) s fun t =>
    t.resp = ⟨0, 0⟩ ∧ t.fld (R.TRC_STAT_STATE n) = 0 ∧ t.fld (R.TRC_STAT_PHASE n) = 7 ∧ t.rd (R.TRC_CNT n) = 0 ∧ t.rd (R.TRC_DEG_TIME n) = 0) ∧
  (∀ s (n : Fin 2), s.fld (R.TRC_KE_STAT_VERDICT n) = 0 → 0 < s.fld (R.TRC_KE_STAT_ID_N n) →
    s.fld (R.TRC_KE_TOL_N_ID n) ≤ s.fld (R.TRC_KE_STAT_ID_N n) → Answers (.keIdentification n) s fun t =>
    t.fld (R.TRC_KE_STAT_VERDICT n) ≠ 0 ∧
    t.rd (R.TRC_KE_RATIO n) = ((s.tracRec n).keSum.mul ⟨1, s.fld (R.TRC_KE_STAT_ID_N n)⟩).word) ∧
  (∀ s m (n : Fin 2), s.opens m .trc n = true → exec (.keRestart m n) s =
    .next ((((s.setFld (R.TRC_KE_STAT_VERDICT n) 0).setFld (R.TRC_KE_STAT_ID_N n) 0).updTrac n fun t =>
      { t with keSum := {}, keDue := false, keAt := some s.now }).okResp))

/-- Charger: the commands complete. The pilot's edges and readings, its state and the cable's rating, a handshake timeout, a zero crossing,
the drive interlock and the write of CHG_CFG have the effect of their rules. A trip of the grid or of the power limits sets its flag,
posts its event and marks the clock, at whose end a session that the cable allows is ENDED with the first trip's reason. -/
def Obligations.ChargerCommandsComplete : Prop :=
  (∀ s m v, s.opens m .chg 0 = true → getBits v 8 8 ≤ 159 → s.fld R.CHG_STAT_SESS = 0 ∨ s.fld R.CHG_STAT_SESS = 6 →
    (bitAt v.toNat 0 = true → s.chgChansOk = true ∧ s.fld R.SEC_BOOT_STAGE = 2) → Answers (.chgEnable m v) s fun t =>
    t.resp = ⟨0, 0⟩ ∧ t.fld R.CHG_CFG_EN = getBits v 0 1 ∧ t.fld R.CHG_CFG_DRIVE_INTLK = getBits v 1 1 ∧ t.fld R.CHG_CFG_CMD_CTX = getBits v 8 8) ∧
  (∀ s, Answers (.cpEdge false) s fun t =>
    t.conv.chg.fall = some s.now ∧ t.conv.chg.cap = none ∧ t.conv.chg.rise = s.conv.chg.rise ∧ t.regs = s.regs) ∧
  (∀ s, s.conv.chg.rise = none → Answers (.cpEdge true) s fun t =>
    t.conv.chg.rise = some s.now ∧ t.conv.chg.cap = none ∧ t.conv.chg.fall = s.conv.chg.fall ∧ t.regs = s.regs) ∧
  (∀ s r u, s.conv.chg.rise = some r → u = State.updChg (s.cpSettle.updChg fun c =>
      { c with cap := none, widths := (c.widths.1, s.cpSettle.cpLevel.elim 0 fun e => s.now - e.2) }) (fun c => { c with rise := some s.now }) →
    exec (.cpEdge true) s = .next (((u.setNear R.CHG_CP_DUTY 0 1000 ⟨1000 * ((s.conv.chg.fall.getD r - r : Nat) : Int), s.now - r⟩).setFld
      R.CHG_STAT_CP_OSC (b2n (392000 ≤ s.now - r && s.now - r ≤ 408000))).showAllow)) ∧
  (∀ s, s.on R.CHG_STAT_CP_OSC = true → exec .cpOscTimeout s =
    .next (((s.updChg fun c => { c with rise := none, fall := none, widths := (0, 0), cap := none }).setFld R.CHG_STAT_CP_OSC 0).showAllow)) ∧
  (∀ s (c : Fin 65536), s.on R.CHG_STAT_CP_OSC = false → exec (.cpCapture true c) s = .next (s.updChg fun x => { x with cpHigh := c })) ∧
  (∀ s (c : Fin 65536), s.on R.CHG_STAT_CP_OSC = false → exec (.cpCapture false c) s = .next (s.updChg fun x => { x with cpLow := c })) ∧
  (∀ s h (c : Fin 65536) t, s.on R.CHG_STAT_CP_OSC = true → s.cpLevel = some (h, t) →
    t + max 2000 ((if h then s.conv.chg.widths.1 else s.conv.chg.widths.2) / 2) ≤ s.now →
    exec (.cpCapture h c) s = .next (s.updChg fun x => { x with cap := some (h, c.val) }).cpSettle) ∧
  (∀ s, 3 ≤ s.conv.chg.cpRun → s.conv.chg.cpCand ≠ s.fld R.CHG_STAT_CP_STATE → s.conv.chg.dioRun < 3 → exec .cpStateChange s =
    .next (((s.setFld R.CHG_STAT_CP_STATE s.conv.chg.cpCand).evt .chg 0 E.CHG_CP_CHG).post 0x0091 (locChg 1)
      (s.conv.chg.cpCand + s.fld R.CHG_STAT_CP_STATE * 16))) ∧
  (∀ s, 3 ≤ s.conv.chg.ppRun → s.conv.chg.ppCand ≠ s.fld R.CHG_STAT_RATING → exec .ppRatingChange s =
    .next (((s.setFld R.CHG_STAT_RATING s.conv.chg.ppCand).evt .chg 0 E.CHG_PP_CHG).showAllow)) ∧
  (∀ s (t : Fin 4) r, s.on R.CHG_CFG_EN = true → s.timerReason t = some r → exec (.handshakeTimeout t) s =
    .next ((((s.opTo .chg 0).evt .chg 0 E.CHG_HS_TO).post 0x1090 (locChg 0) t).updChg fun c => { c with timer := some r })) ∧
  (∀ s, exec .gridZeroCrossing s = .next s.gridCross) ∧
  (∀ s, s.gridGood = true → exec .gridOkSet s = .next (s.setFld R.CHG_STAT_GRID_OK 1)) ∧
  (∀ s (k : Fin 3), s.sessLive = true → s.fld R.CHG_PROT0_VHI < s.fld (R.CHG_VRMS_VRMS k) → exec (.gridVoltageTrip k true) s =
    .next (((((s.flt .chg 0 F.CHG_GRID).inc R.CHG_CNT_GRID_TRIPS).post 0x2090 (locChg 2) (1 + k * 16)).tripMark 5))) ∧
  (∀ s (k : Fin 3), s.sessLive = true → s.fld (R.CHG_VRMS_VRMS k) < s.fld R.CHG_PROT0_VLO → exec (.gridVoltageTrip k false) s =
    .next (((((s.flt .chg 0 F.CHG_GRID).inc R.CHG_CNT_GRID_TRIPS).post 0x2090 (locChg 2) (k * 16)).tripMark 5))) ∧
  (∀ s, s.sessLive = true → s.fld R.CHG_FREQ_FREQ < s.fld R.CHG_PROT1_FLO → exec (.gridFrequencyTrip 0) s =
    .next (((((s.flt .chg 0 F.CHG_GRID).inc R.CHG_CNT_GRID_TRIPS).post 0x2090 (locChg 2) 2).tripMark 5))) ∧
  (∀ s, s.sessLive = true → s.fld R.CHG_PROT1_FHI < s.fld R.CHG_FREQ_FREQ → exec (.gridFrequencyTrip 1) s =
    .next (((((s.flt .chg 0 F.CHG_GRID).inc R.CHG_CNT_GRID_TRIPS).post 0x2090 (locChg 2) 3).tripMark 5))) ∧
  (∀ s, s.sessLive = true → Q.le (Q.ofWord (s.rd R.CHG_PWR)) ⟨105 * (s.fld R.CHG_PROT3_P_IMP_MAX : Int), 10⟩ = false →
    exec (.powerLimitTrip false) s = .next (((s.flt .chg 0 F.CHG_LIMIT).post 0x2091 (locChg 2) 9).tripMark 9)) ∧
  (∀ s (g : Fin 2), s.on R.CHG_CFG_DRIVE_INTLK = true → s.on R.CHG_STAT_RATING = true → s.armed g = true → exec (.driveInterlock g) s =
    .next (((s.flt .chg 0 F.CHG_DRIVE_INTLK).post 0x3090 (locChg 0) g).raise 18 (2 ^ g.val))) ∧
  (∀ (s : State) r, s.shed = false → s.on R.CHG_CFG_EN = true → s.cableOk = true → 3 ≤ s.fld R.CHG_STAT_SESS → s.fld R.CHG_STAT_SESS ≤ 5 →
    s.conv.chg.trip = some r → s.sessClock = (s.chgTo 6 r).updChg fun c => { c with trip := none, timer := none, bnd := false })

/-- Auxiliary converter and its link: the commands complete. The tests of CHECK, the hiccup's end and a stable run move AUX as its rules say;
the limit and the timeout of SOFT and an overload mark the clock, at whose end AUX is in HICCUP with that reason, or in FAULT where
HIC_MAX is reached; a command frame is taken or counted; the acknowledgement is sent. -/
def Obligations.AuxiliaryCommandsComplete : Prop :=
  (∀ s m v, s.opens m .aux 0 = true → getBits v 6 8 ≤ 159 → s.fld R.AUX_STAT_STATE = 0 ∨ s.fld R.AUX_STAT_STATE = 5 →
    (bitAt v.toNat 0 = true → s.auxMonOk (getBits v 1 5) = true ∧ s.auxSlotsOk = true ∧ s.fld R.SEC_BOOT_STAGE = 2) →
    exec (.auxEnable m v) s = .next ((s.wr R.AUX_CFG (BitVec.ofNat 32 (v.toNat % 2 ^ 24))).okResp)) ∧
  (∀ s, s.fld R.AUX_STAT_STATE = 1 → s.conv.aux.phase = 1 → exec .auxTestPulseEnd s = .next (s.auxPhase 2)) ∧
  (∀ s, s.fld R.AUX_STAT_STATE = 1 → s.conv.aux.phase = 2 → exec .hl21TestStart s = .next (s.auxPhase 3)) ∧
  (∀ s, s.fld R.AUX_STAT_STATE = 1 → s.conv.aux.phase = 3 →
    exec .auxTestPulseEnd s = .next ((s.updAux fun a => { a with softAt := s.now + 448 }).auxPhase 4)) ∧
  (∀ s, s.fld R.AUX_STAT_STATE = 2 → s.fld R.AUX_SS_N_SS ≤ s.fld R.AUX_STAT_CL_CNT → exec .auxSoftStartLimit s = .next (s.hicMark 3)) ∧
  (∀ s, s.fld R.AUX_STAT_STATE = 2 → exec .auxSoftStartTimeout s = .next ((s.opTo .aux 0).hicMark 4)) ∧
  (∀ s, s.fld R.AUX_STAT_STATE = 3 → s.conv.aux.lastLimited = true → s.voutAtLeast (s.fld R.AUX_VMON_UV_PCT) = false →
    exec .auxOverload s = .next (s.hicMark 5)) ∧
  (∀ (s : State) r, s.shed = false → s.fld R.AUX_STAT_STATE = 2 ∨ s.fld R.AUX_STAT_STATE = 3 → s.on R.AUX_STAT_RUN_CMD = true →
    s.gstate 8 = 2 → s.conv.aux.hic = some r → r < 8 → s.fld R.AUX_STAT_HIC_CNT + 1 < s.fld R.AUX_HIC_HIC_MAX →
    s.auxClock.fld R.AUX_STAT_STATE = 4 ∧ s.auxClock.fld R.AUX_STAT_REASON = r) ∧
  (∀ (s : State) r, s.shed = false → s.fld R.AUX_STAT_STATE = 2 ∨ s.fld R.AUX_STAT_STATE = 3 → s.on R.AUX_STAT_RUN_CMD = true →
    s.gstate 8 = 2 → s.conv.aux.hic = some r → s.fld R.AUX_HIC_HIC_MAX ≤ s.fld R.AUX_STAT_HIC_CNT + 1 →
    s.auxClock.fld R.AUX_STAT_STATE = 5 ∧ s.auxClock.fld R.AUX_STAT_REASON = 6) ∧
  (∀ s, s.fld R.AUX_STAT_STATE = 4 → exec .auxHiccupEnd s = .next (s.updAux fun a => { a with hicDone := true })) ∧
  (∀ s, s.fld R.AUX_STAT_STATE = 3 → exec .auxRunStable s = .next (s.setFld R.AUX_STAT_HIC_CNT 0)) ∧
  (∀ s l, s.on R.AUXL_CTL_EN = true → l.length ≠ 8 → exec (.auxlCommandFrame l false) s = .next (s.inc R.AUXL_CNT_FRAMING)) ∧
  (∀ s l, s.on R.AUXL_CTL_EN = true → l.length = 8 → l.getD 0 0 = 0xA7 → (l.getD 7 0).toNat ≠ crc8 (l.take 7) →
    exec (.auxlCommandFrame l false) s = .next (s.inc R.AUXL_CNT_CRC_ERR)) ∧
  (∀ s l, s.on R.AUXL_CTL_EN = true → l.length = 8 → l.getD 0 0 = 0xA7 → (l.getD 7 0).toNat = crc8 (l.take 7) →
    Answers (.auxlCommandFrame l false) s fun t => t.rd R.AUXL_RX0 = BitVec.ofNat 32 (ofLe (l.take 4)) ∧
      t.rd R.AUXL_RX1 = BitVec.ofNat 32 (ofLe (l.drop 4)) ∧ t.on R.AUXL_STAT_NEW = true) ∧
  (∀ s m, s.isAgent m .hsp 0 = true →
    exec (.auxlRxRead m) s = .next ((s.setFld R.AUXL_STAT_NEW 0).okResp (s.rd R.AUXL_RX1))) ∧
  (∀ s, s.on R.AUXL_CTL_EN = true → s.on R.AUXL_STAT_TO_FLAG = false → exec .auxlLinkTimeout s =
    .next ((((((s.opTo .hsp 0).setFld R.AUXL_STAT_TO_FLAG 1).evt .hsp 0 E.HSP_AUXL_TO).inc R.AUXL_CNT_TIMEOUTS).post 0x1161 locAuxl 0))) ∧
  (∀ s m, s.opens m .hsp 0 = true → s.on R.AUXL_STAT_TX_BUSY = false → s.on R.AUXL_CTL_EN = true → s.ackIdle = false →
    Answers (.auxlAckSend m) s fun t => t.resp = ⟨0, 0⟩ ∧ t.on R.AUXL_STAT_TX_BUSY = true ∧
    t.net.ack.take 7 = leBytes (s.rd R.AUXL_TX0).toNat 4 ++ leBytes (s.fld R.AUXL_TX1_BYTES) 3) ∧
  (∀ s, s.on R.AUXL_STAT_TX_BUSY = true →
    exec .auxlTxDone s = .next ((s.setFld R.AUXL_STAT_TX_BUSY 0).evt .hsp 0 E.HSP_AUXL_TX_DONE))

/-- Actuators: the commands complete. The write of ACT_CFG, a Hall edge or fault, a sample of the switch nodes, and every timed end of a state
move the commutator to the state of its rule. -/
def Obligations.ActuatorCommandsComplete : Prop :=
  (∀ s m (n : Fin 3) v, s.opens m .act n = true → getBits v 2 4 ≤ 11 → (bitAt v.toNat 0 = true → s.actSlotsOk (getBits v 2 4) = true) →
    s.gactive (s.actGrp n) = false → exec (.actEnable m n v) s =
    .next (State.okResp (State.actShow (State.actEval ((s.wr (R.ACT_CFG n) (BitVec.ofNat 32 (v.toNat % 2 ^ 8))).updAct n fun r =>
      { r with codes := (s.wr (R.ACT_CFG n) (BitVec.ofNat 32 (v.toNat % 2 ^ 8))).restCodes n }) n) n))) ∧
  (∀ s (n : Fin 3) h, s.on (R.ACT_CFG_SENSE n) = false → s.shed = false → s.actSector n h ≠ 6 → (s.actRec n).sec < 6 →
    h.val ≠ (s.actRec n).hall → s.actSector n h = ((s.actRec n).sec + 1) % 6 → exec (.actHallEdge n h) s =
    .next (State.actHallTheta (State.actStep ((State.updAct (s.updAct n fun r => { r with hall := h }) n fun r =>
      { r with sec := s.actSector n h }).setFld (R.ACT_STAT_SECTOR n) (s.actSector n h)) n false s.now) n (s.actSector n h) false)) ∧
  (∀ s (n : Fin 3) h, s.on (R.ACT_CFG_SENSE n) = false → s.shed = false → s.actSector n h = 6 → h.val ≠ (s.actRec n).hall →
    Answers (.actHallEdge n h) s fun t => (t.actRec n).sec = 6 ∧
    t.fld (R.ACT_CNT_ILLEGAL n) = min (s.fld (R.ACT_CNT_ILLEGAL n) + 1) 255) ∧
  (∀ s (n : Fin 3), s.on (R.ACT_CFG_SENSE n) = false → (s.actRec n).sec = 6 → s.actState n ≠ 0 → s.actState n ≠ 8 →
    exec (.actHallFault n) s = .next (s.actFault n 4)) ∧
  (∀ s (n : Fin 3) a b c, s.on (R.ACT_CFG_EN n) = true → s.on (R.ACT_CFG_SENSE n) = true → s.shed = false →
    exec (.actSwSample n a b c) s = .next (s.actSample n [a.val, b.val, c.val])) ∧
  (∀ s (n : Fin 3), s.actState n = 7 → s.on (R.ACT_CFG_SENSE n) = true →
    s.now - max (s.actRec n).since ((s.actRec n).steps.headD 0) < s.fld (R.ACT_TIME_STALL_MS n) * 400000 →
    exec (.actDesync n) s = .next ((s.inc (R.ACT_CNT_DESYNC n)).actFailed n)) ∧
  (∀ s (n : Fin 3), s.actState n ≠ 4 → Answers (.actSpeedTimeout n) s fun t =>
    t.rd (R.ACT_SPEED n) = 0 ∧ t.on (R.ACT_STAT_SPD_VALID n) = false) ∧
  (∀ s (n : Fin 3), (s.actRec n).pre = 5 ∨ (s.actRec n).pre = 7 →
    exec (.actPrechargeEnd n) s = .next (s.actEnter n (s.actRec n).pre)) ∧
  (∀ s (n : Fin 3), s.actState n = 3 → (s.actRec n).pre = 0 → exec (.actObserveEnd n) s = .next (s.actDecide n)) ∧
  (∀ s (n : Fin 3), s.actState n = 4 → s.on (R.ACT_CFG_SENSE n) = true → Answers (.actRevbrakeEnd n) s fun t => t.actState n = 3) ∧
  (∀ s (n : Fin 3), s.actState n = 3 ∨ s.actState n = 4 → (s.actRec n).reached = false → Answers (.actCatchTimeout n) s fun t =>
    t.actState n = 8 ∧ t.fld (R.ACT_STAT_REASON n) = 2) ∧
  (∀ s (n : Fin 3), s.actState n = 5 → Answers (.actAlignEnd n) s fun t => t.actState n = 6) ∧
  (∀ s (n : Fin 3), s.actState n = 6 → exec (.actRampEnd n) s = .next (s.actFailed n)) ∧
  (∀ s (n : Fin 3), s.actState n = 1 → (s.actRec n).retry = true → exec (.actRetryEnd n) s = .next (s.actObserve n)) ∧
  (∀ s (n : Fin 3), s.actState n = 7 → exec (.actRunStable n) s =
    .next ((s.setFld (R.ACT_STAT_ATTEMPTS n) 0).updAct n fun r => { r with fails := 0 })) ∧
  (∀ s (n : Fin 3), s.actState n = 7 → Answers (.actStall n) s fun t => t.actState n = 2 ∧ t.on (R.ACT_STAT_STALLED n) = true) ∧
  (∀ s (n : Fin 3), s.on (R.ACT_CFG_EMF_EN n) = true → s.on (R.ACT_STAT_SPD_VALID n) = true → s.actState n = 3 ∨ s.actState n = 7 →
    Q.le ⟨s.fld (R.ACT_MEAS_EMF_PK n), 100⟩ (((s.actEmf n).mul ⟨1, 100⟩).mul ⟨100 + s.fld (R.ACT_EMF_EMF_TOL n), 1⟩) = false →
    exec (.actEmfFault n) s = .next (s.actFault n 3)) ∧
  (∀ s m (n : Fin 3), s.opens m .act n = true → s.actState n < 3 ∨ 7 < s.actState n → s.on (R.ACT_CFG_PARK_EN n) = true →
    exec (.actZero m n) s = .next (((s.wr (R.ACT_COUNT n) 0).setFld (R.ACT_STAT_HOMED n) 1).actShow n).okResp) ∧
  (∀ s (n : Fin 3), s.on (R.ACT_STAT_ENGAGED n) = true →
    f32AbsGe (s.rd (R.POS_RPM (s.fld (R.ACT_PARK_SPD_PARK_POS n)))) (s.fld (R.ACT_PARK_SPD_SLIP_SPD n)) 1 = true →
    f32Mag (s.rd (R.POS_RPM (s.fld (R.ACT_PARK_SPD_PARK_POS n)))) ≠ s.fld (R.ACT_PARK_SPD_SLIP_SPD n) * f32One →
    exec (.parkSlip n) s = .next (((s.flt .act n F.ACT_PARK_SLIP).post 0x30B1 (locAct n) (n * 2 ^ 12)).raise 20 0))

/-- Derailleur: the commands complete. GO starts the shift at the named step with the torque contexts' active words saved; ABORT is noted for
the next boundary; a step, or the return of the torque limits, that has run its time shows OP_TO and is evaluated as expired at the next
boundary. -/
def Obligations.ShiftCommandsComplete : Prop :=
  (∀ s m (k : Fin 8), s.opens m .drl 0 = true → s.drlBusy = false → s.fld R.SEC_BOOT_STAGE = 2 →
    (∀ c ∈ s.actCtx s.drlAct :: s.drlCtxs, c ≤ 159 ∧ s.cstate c = 2) → s.on (R.ACT_CFG_EN s.drlAct) = true →
    s.fld (R.DRL_STEP_CTL_KIND k) ≠ 0 → Answers (.shiftGo m k) s fun t =>
    t.resp = ⟨0, 0⟩ ∧ t.drlBusy = true ∧ t.drlStep = k ∧ t.drl.src = s.actCtx s.drlAct ∧ t.drl.stepAt = s.now ∧ t.drl.restore = 0) ∧
  (∀ s m, s.opens m .drl 0 = true → s.drlBusy = true →
    exec (.shiftAbort m) s = .next ((s.updDrl fun d => { d with abort := true }).okResp)) ∧
  (∀ s, s.drlBusy = true → s.drl.restore ≠ 1 → s.fld (R.DRL_STEP_CTL_TIMEOUT s.drlStep) * 4000000 ≤ s.drlElapsed →
    exec .shiftStepTimeout s = .next ((s.opTo .drl 0).updDrl fun d => { d with expired := true })) ∧
  (∀ s, s.drlBusy = true → s.drl.restore = 1 → s.fld R.DRL_RST_RST_TO * 4000000 ≤ s.drlElapsed →
    exec .shiftStepTimeout s = .next ((s.opTo .drl 0).updDrl fun d => { d with expired := true }))

/-- Safety manager: the commands complete. Lines raised on one clock act together; PENDING bits clear by writing 1; an expired Hold is
evaluated with SPEED; a release is tested group by group; an injection raises its line. -/
def Obligations.SafetyManagerCommandsComplete : Prop :=
  (∀ s l, exec (.faultLineRaise l) s =
    .next (s.raiseAll ((l.filter fun p => !State.reservedLine p.1).map fun p => (p.1.val, s.sourceGroups p.1 p.2)))) ∧
  (∀ s m (k : Fin 4) v, s.isAgent m .saf 0 = true → s.on (hdr .saf 0 0x08 0 1) = false → exec (.pendingClear m k v) s = .next (s.clearPending k v).okResp) ∧
  (∀ s (g : Fin 12), s.gstate g = 3 → s.fld (R.PG_STAT_SAFE_KIND g) = 4 → exec (.holdMaxExpiry g) s =
    .next ((s.updSafe fun x => { x with speedAdded := bitSet x.speedAdded g }).evalJ2 (· == g.val))) ∧
  (∀ s m gs, s.isAgent m .saf 0 = true → s.on (hdr .saf 0 0x08 0 1) = false → exec (.release m gs) s =
    .next ((s.each ((List.range 12).filter (bitAt gs.val)) State.releaseGroup).okResp)) ∧
  (∀ s m (l : Fin 128), s.opens m .saf 0 = true → State.reservedLine l = false → s.anyArmed = false → exec (.faultInject m l 0x3C) s =
    .next (((((s.tookFree.setFld R.SAF_INJ_LINE l).evt .saf 0 E.SAF_INJECTED).post 0x6100 locSaf l).raise l
      (s.injectGroups l)).okResp))

/-- Safety inputs and outputs: the commands complete. A channel's change, a discrepancy and a failed test pulse act on the input; the output's
high side closes, its switches are tested, it is limited in time and is reset. -/
def Obligations.SafetyIoCommandsComplete : Prop :=
  (∀ s (n : Fin 8) (a b : Fin 3), exec (.safetyInputChange n a b false) s =
    .next (((s.setFld (R.SIO_SI_STAT_A n) a).setFld (R.SIO_SI_STAT_B n) b).siUpdate n)) ∧
  (∀ s (n : Fin 8), s.on (R.SIO_SI_CFG_MODE n) = true → s.runA n ≠ s.runB n → exec (.siDiscrepancy n) s = .next ((s.opTo .sio 0).siFault n 1)) ∧
  (∀ s (n : Fin 8) b, s.on R.SIO_TP_TP_EN = true → s.on (R.SIO_SI_CFG_MODE n) = true → s.detachingX1 = false →
    s.on (R.SIO_SI_CFG_TP_A n) = true → exec (.siTestPulse n false false b) s = .next (s.siFault n 2)) ∧
  (∀ s m (n : Fin 8), s.opens m .sio 0 = true → s.runA n = false → s.runB n = false → exec (.siReset m n) s =
    .next ((State.siUpdate (State.updSafe (((s.setFld (R.SIO_SI_STAT_FAULT n) 0).setFld (R.SIO_SI_STAT_CAUSE n) 0).setFld (R.SIO_SI_STAT_FIRST n) 0)
      fun x => { x with siDem := bitClr x.siDem n }) n).okResp)) ∧
  (∀ s (m : Fin 4), (s.so m).ls = true → (s.so m).hs = false → (s.so m).testing = 0 → s.soWant m = true → exec (.soHighSideClose m) s =
    .next ((s.updSo m fun r => { r with hs := true, on := true }).soShow m)) ∧
  (∀ s (m : Fin 4) a b, s.on (R.SIO_SO_CFG_TP_EN m) = true → (s.so m).testing = 0 → (s.so m).on = true → exec (.soSwitchTest m true a b) s =
    .next ((s.updSo m fun r => { r with testing := 2, hs := r.hs, ls := false }).soShow m)) ∧
  (∀ s (m : Fin 4) a b, s.on (R.SIO_SO_CFG_TP_EN m) = true → (s.so m).testing = 0 → (s.so m).on = true → exec (.soSwitchTest m false a b) s =
    .next ((s.updSo m fun r => { r with testing := 1, hs := false, ls := r.ls }).soShow m)) ∧
  (∀ s (m : Fin 4) a b, (s.so m).testing = 1 → (s.so m).on = true → exec (.soTestEnd m a b) s =
    .next ((((((s.updSo m fun r => { r with testing := 0, hs := r.on, ls := r.on }).soShow m).soFound m 1 (a.val != 0) false)).soUpdate m))) ∧
  (∀ s (m : Fin 4), (s.so m).on = true → exec (.soOvercurrent m) s = .next (s.soFault m 6)) ∧
  (∀ s (m : Fin 4), s.on (R.SIO_SO_STAT_DEGRADED m) = true → exec (.soDegradeExpiry m) s = .next (s.soFault m 7)) ∧
  (∀ s m (k : Fin 4), s.opens m .sio 0 = true → s.on (R.SIO_SO_STAT_REQ k) = false → s.on (R.SIO_SO_STAT_FAULT k) = true →
    s.soCausePresent k = false → s.on (R.SIO_SO_STAT_DEGRADED k) = false → exec (.soReset m k) s =
    .next ((((((s.setFld (R.SIO_SO_STAT_FAULT k) 0).setFld (R.SIO_SO_STAT_CAUSE k) 0).soJudge k).soUpdate k)).okResp))

/-- Eptal streams: the commands complete. SEND numbers a message and hands both copies on; a copy that could not be sent is counted; a copy is
rejected, held, or delivered with its pair; an expired window delivers alone; the timers fault the stream; RESET begins anew. -/
def Obligations.EptalCommandsComplete : Prop :=
  (∀ s m (k : Fin 16) (e : Fin 256), s.opens m .ept 0 = true → (s.ept k).unsentA = false → (s.ept k).unsentB = false →
    s.on (R.EPT_CFG_EN k) = true → s.on (R.EPT_CFG_DIR k) = true → s.fld (R.EPT_CFG_EPOCH k) = e.val → e.val ≠ 0 →
    Answers (.eptalSend m k e) s fun t => t.resp = ⟨0, 0⟩ ∧ t.fld (R.EPT_SEQ_SEQ k) = (s.fld (R.EPT_SEQ_SEQ k) + 1) % 65536) ∧
  (∀ s (k : Fin 16), (s.ept k).unsentA = true → s.fld (R.EPT_SID_NET_A k) < 4 →
    exec (.eptalSendMiss k false) s = .next (s.inc (R.EPT_CNT_MISS_A k))) ∧
  (∀ s (k : Fin 16), (s.ept k).unsentB = true → s.fld (R.EPT_SID_NET_B k) < 4 →
    exec (.eptalSendMiss k true) s = .next (s.inc (R.EPT_CNT_MISS_B k))) ∧
  (∀ s (k : Fin 16) b l, s.on (R.EPT_CFG_EN k) = true → s.on (R.EPT_CFG_DIR k) = false → s.eptValid k b l = false →
    exec (.eptalCopy k b l) s = .next (s.inc (R.EPT_CNT_REJECT k))) ∧
  (∀ s (k : Fin 16) b l, s.on (R.EPT_CFG_EN k) = true → s.on (R.EPT_CFG_DIR k) = false → s.eptValid k b l = true →
    (s.ept k).got = false → eptEpoch l ≠ 0 → (s.ept k).held = none →
    exec (.eptalCopy k b l) s = .next ((s.updEpt k fun r => { r with held := some (b, l) }).eptShow k)) ∧
  (∀ s (k : Fin 16) b l q, s.on (R.EPT_CFG_EN k) = true → s.on (R.EPT_CFG_DIR k) = false → s.eptValid k b l = true →
    (s.ept k).got = false → eptEpoch l ≠ 0 → (s.ept k).held = some (!b, q) → eptSeq l = eptSeq q → eptBody l = eptBody q →
    exec (.eptalCopy k b l) s = .next (s.eptDeliver k l none)) ∧
  (∀ s (k : Fin 16) b l, (s.ept k).held = some (b, l) → exec (.eptalWindowExpiry k) s =
    .next (((s.opTo .ept 0).inc (if !b then R.EPT_CNT_MISS_B k else R.EPT_CNT_MISS_A k)).eptDeliver k l (some b))) ∧
  (∀ s (k : Fin 16), s.fld (R.EPT_STAT_STATE k) = 3 ∨ s.fld (R.EPT_STAT_STATE k) = 4 →
    exec (.eptalSingleExpiry k) s = .next (s.eptFault k 3)) ∧
  (∀ s (k : Fin 16), s.on (R.EPT_CFG_EN k) = true → s.on (R.EPT_CFG_DIR k) = false →
    exec (.eptalDeliveryTimeout k) s = .next ((s.opTo .ept 0).eptFault k 2)) ∧
  (∀ s m (k : Fin 16), s.opens m .ept 0 = true → exec (.eptalReset m k) s = .next (s.eptBegin k).okResp)

/-- Tandem pairs: the commands complete. A mismatch, a fold and a cache error, Assay's verdicts, the restart, single-core service, a split and
a rejoin move the pair as their rules say. -/
def Obligations.TandemCommandsComplete : Prop :=
  (∀ s (p : Fin 2) a w, s.joined p = true → s.on (R.TND_STAT_HALTED p) = false → Answers (.gateMismatch p a w none) s fun t =>
    t.pairState p = 4 ∧ t.fld (R.TND_MM_KIND p) = 1 ∧ t.rd (R.TND_MMADDR p) = a ∧ t.fld (R.TND_MM_WRITE p) = b2n w) ∧
  (∀ s (p : Fin 2), s.joined p = true → s.on (R.TND_STAT_HALTED p) = false → exec (.stateFold p none) s =
    .next ((s.inc (R.TND_CNT_FOLDS p)).updTnd p fun t => { t with foldDue := false })) ∧
  (∀ s (p : Fin 2) d, s.joined p = true → s.on (R.TND_STAT_HALTED p) = false → exec (.stateFold p (some d)) s =
    .next (State.mismatch ((s.inc (R.TND_CNT_FOLDS p)).updTnd p fun t => { t with foldDue := false }) p 2 d 0 false)) ∧
  (∀ s m (p : Fin 2), s.opens m .tnd 0 = true → s.pairState p = 0 →
    exec (.foldRequest m p) s = .next ((s.updTnd p fun t => { t with foldDue := true }).okResp)) ∧
  (∀ s (p : Fin 2) d, s.pairState p < 4 → exec (.cacheEccError p false d false) s =
    .next ((s.inc (R.TND_ECC_CE_MAIN p)).post 0x1113 (locTnd p 1 (1 + b2n d)) (p + b2n d * 32))) ∧
  (∀ s (p : Fin 2) d, s.joined p = true → exec (.cacheEccError p false d true) s = .next (s.mismatch p 2 0x7F 0 false)) ∧
  (∀ s (p : Fin 2), s.pairState p = 4 → exec (.assayVerdict p none none) s = .next (s.bothPass p)) ∧
  (∀ s (p : Fin 2) x, s.pairState p = 4 → Answers (.assayVerdict p (some x) none) s fun t =>
    t.pairState p = 5 ∧ (t.tndRec p).target = 7 ∧ t.fld (R.TND_STAT_VERDICT p) = 2) ∧
  (∀ s (p : Fin 2) x, s.pairState p = 4 → Answers (.assayVerdict p none (some x)) s fun t =>
    t.pairState p = 5 ∧ (t.tndRec p).target = 6 ∧ t.fld (R.TND_STAT_VERDICT p) = 3) ∧
  (∀ s (p : Fin 2) x y, s.pairState p = 4 → Answers (.assayVerdict p (some x) (some y)) s fun t =>
    t.pairState p = 8 ∧ t.fld (R.TND_STAT_VERDICT p) = 4) ∧
  (∀ s (p : Fin 2), s.pairState p = 4 → Answers (.assayTimeout p) s fun t => t.pairState p = 8 ∧ t.fld (R.TND_STAT_VERDICT p) = 6 ∧ t.on (hdr .tnd 0 0x28 1 1) = true) ∧
  (∀ s (p : Fin 2), s.pairState p = 5 → (s.tndRec p).target < 16 → Answers (.restartFetch p) s fun t => t.pairState p = (s.tndRec p).target) ∧
  (∀ s (p : Fin 2), s.pairState p = 6 ∨ s.pairState p = 7 → s.fld (R.TND_STAT_SC_LEFT p) = 60 → exec (.scWarning p) s =
    .next ((s.evt .tnd 0 (E.TND_SC_WARN + p)).post 0x1112 (locTnd p 3 0x3F) p)) ∧
  (∀ s (p : Fin 2), s.pairState p = 6 ∨ s.pairState p = 7 → s.fld (R.TND_STAT_SC_LEFT p) = 0 →
    exec (.scExpiry p) s = .next (s.pairCause p 4 0)) ∧
  (∀ s m (p : Fin 2), s.opens m .tnd 0 = true → s.allOff = true → s.pairState p = 0 → exec (.assayRequest m p) s =
    .next (((s.setFld (R.TND_STAT_STATE p) 4).updTnd p fun t => { t with requested := true }).okResp)) ∧
  (∀ s m, s.opens m .tnd 0 = true → s.lockOpen .tnd 0 = true → s.allOff = true → s.pairState 0 = 0 →
    exec (.splitRequest m 0) s = .next ((s.setFld (R.TND_STAT_STATE 0) 1).okResp)) ∧
  (∀ s (p : Fin 2), s.pairState p = 1 → Answers (.splitSync p none) s fun t => t.pairState p = 2) ∧
  (∀ s (p : Fin 2), s.pairState p = 1 → exec (.splitTimeout p) s = .next ((s.opTo .tnd 0).abandonSplit p)) ∧
  (∀ s m (p : Fin 2), s.opens m .tnd 0 = true → s.pairState p = 2 → exec (.rejoinRequest m p) s =
    .next (((s.setFld (R.TND_STAT_STATE p) 3).setFld (R.TND_STAT_CHK_PARKED p) 1).okResp)) ∧
  (∀ s (p : Fin 2), s.pairState p = 3 → exec (.rejoinSync p) s = .next (s.updTnd p fun t => { t with copying := true })) ∧
  (∀ s (p : Fin 2), s.pairState p = 3 → (s.tndRec p).copying = true → Answers (.rejoinCopyDone p none) s fun t =>
    t.pairState p = 0 ∧ t.on (R.TND_STAT_CHK_PARKED p) = false) ∧
  (∀ s (p : Fin 2), s.pairState p = 3 → exec (.rejoinTimeout p) s = .next ((s.opTo .tnd 0).abandonRejoin p false))

/-- Debugger: the commands complete. With its right, debug opens; it closes, and then no pair stays halted; an open port halts a pair, which
folds in lock-step; a halted pair resumes or steps, its replay queue emptied and, in lock-step, folded; a write of core state joins the
replay queue while it has room; an access runs with the halted core's rights. -/
def Obligations.DebugCommandsComplete : Prop :=
  (∀ s m, s.opens m .sec 0 = true → s.debugRight = true → s.on R.SEC_DBG_CTL_OPENED = false → exec (.debugOpen m) s =
    .next (((s.setFld R.SEC_DBG_CTL_OPENED 1).post 0x4005 locSec (1 + s.fld R.SEC_DBG_CTL_PAIR * 16)).okResp)) ∧
  (∀ s m, s.opens m .sec 0 = true → s.debugRight = true → s.on R.SEC_DBG_CTL_OPENED = true → exec (.debugOpen m) s = .next s.okResp) ∧
  (∀ s m, s.opens m .sec 0 = true → s.on R.SEC_DBG_CTL_OPENED = true → Answers (.debugClose m) s fun t =>
    t.resp = ⟨0, 0⟩ ∧ t.on R.SEC_DBG_CTL_OPENED = false ∧ ∀ p : Fin 2, t.on (R.TND_STAT_HALTED p) = false) ∧
  (∀ s m, s.opens m .sec 0 = true → s.on R.SEC_DBG_CTL_OPENED = false → exec (.debugClose m) s = .next s.okResp) ∧
  (∀ s m (p : Fin 2) d, s.opens m .sec 0 = true → s.on R.SEC_DBG_CTL_OPENED = true →
    s.pairState p ≤ 3 ∨ s.pairState p = 6 ∨ s.pairState p = 7 → s.on (R.TND_STAT_HALTED p) = false →
    s.allOff = true ∨ (s.fld R.SEC_LC_STATE ≠ 2 ∧ s.fld R.SEC_LC_STATE ≠ 3) → exec (.debugHalt m p d) s =
    .next ((s.setFld R.SEC_DBG_CTL_PAIR p).haltPair p d).okResp) ∧
  (∀ s m (p : Fin 2), s.opens m .sec 0 = true → s.on R.SEC_DBG_CTL_OPENED = true →
    s.pairState p ≤ 3 ∨ s.pairState p = 6 ∨ s.pairState p = 7 → s.on (R.TND_STAT_HALTED p) = false →
    s.allOff = true ∨ (s.fld R.SEC_LC_STATE ≠ 2 ∧ s.fld R.SEC_LC_STATE ≠ 3) → Answers (.debugHalt m p none) s fun t =>
    t.resp = ⟨0, 0⟩ ∧ t.on (R.TND_STAT_HALTED p) = true) ∧
  (∀ s m (p : Fin 2) d, s.opens m .sec 0 = true → s.on (R.TND_STAT_HALTED p) = true → exec (.debugResume m p d) s =
    .next ((s.setFld R.SEC_DBG_CTL_PAIR p).resumePair p d).okResp) ∧
  (∀ s m (p : Fin 2), s.opens m .sec 0 = true → s.on (R.TND_STAT_HALTED p) = true → Answers (.debugResume m p none) s fun t =>
    t.resp = ⟨0, 0⟩ ∧ t.on (R.TND_STAT_HALTED p) = false ∧ (t.tndRec p).replay = []) ∧
  (∀ s m (p : Fin 2) d, s.opens m .sec 0 = true → s.on (R.TND_STAT_HALTED p) = true → s.pairState p ≠ 0 → exec (.debugStep m p d) s =
    .next ((((s.setFld R.SEC_DBG_CTL_PAIR p).updTnd p fun t => { t with replay := [] }).showDbg p).okResp)) ∧
  (∀ s m (p : Fin 2) d, s.opens m .sec 0 = true → s.on (R.TND_STAT_HALTED p) = true → s.pairState p = 0 → exec (.debugStep m p d) s =
    .next ((((((s.setFld R.SEC_DBG_CTL_PAIR p).updTnd p fun t => { t with replay := [] }).showDbg p).fold p none).fold p d).okResp)) ∧
  (∀ s (p : Fin 2) (g v : Word), s.on (R.TND_STAT_HALTED p) = true → (s.tndRec p).replay.length < 32 → exec (.debugStateWrite p g v) s =
    .next (((s.updTnd p fun t => { t with replay := t.replay ++ [(g.toNat, v)] }).showDbg p).okResp)) ∧
  (∀ s m (p : Fin 2) (op : Fin 4), s.opens m .sec 0 = true → s.on R.SEC_DBG_CTL_OPENED = true → s.on (R.TND_STAT_HALTED p) = true →
    exec (.debugAccess m p op) s =
    .next (State.debugAccess (((s.setFld R.SEC_DBG_CTL_PAIR p).setFld R.SEC_DBG_CTL_OP op).okResp) p op))

/-- CAN controllers: the commands complete. A start of frame offers the winning buffer; a frame is received, sent or fails; bus-off and its
recovery; the buffer operations COMMIT, CANCEL, LOCK and RELEASE and a buffer's configuration. -/
def Obligations.CanCommandsComplete : Prop :=
  (∀ s (n : Fin 4), s.canOn n = true → s.standby = false → s.fld (R.CAN_CTL_MODE n) = 0 → s.on (R.CAN_CTL_EN n) = true →
    exec (.canStartOfFrame n) s = .next ((s.updCan n fun c => { c with bus := s.canOffer n, late := false, dark := false }).setFld
      (R.CAN_STAT_ACT n) (if (s.canOffer n).isSome then 2 else 1))) ∧
  (∀ s (n : Fin 4) f, s.canOn n = true → s.standby = false → (f.fdf = true → s.on (R.CAN_CTL_FD_EN n) = true) → s.fld (R.CAN_CTL_MODE n) = 1 →
    exec (.canFrameReceived n f) s = .next (
      let u := State.canErrState ((s.canReceive n f).updCan n fun c => { c with dark := false }) n
      if (u.can n).bus.isSome then u else u.canFrameEnd n)) ∧
  (∀ s (n : Fin 4) d k, (s.can n).bus = some k → (s.can n).late = false → ∃ u, u =
      State.evt ((((s.canDelay n k d).canSent n k).setCanBit n k 16 false).setCanBit n k 17 true) .can n E.CAN_TX_DONE ∧
    exec (.canTxDone n d) s =
    .next ((State.canErrState (u.setFld (R.CAN_STAT_TEC n) (u.fld (R.CAN_STAT_TEC n) - 1)) n).canFrameEnd n)) ∧
  (∀ s (n : Fin 4) e d k, (s.can n).bus = some k → s.on (R.CAN_CTL_NO_RETX n) = false → s.canOn n = true → s.fld (R.CAN_CTL_MODE n) = 0 →
    Answers (.canTxError n true e d false false none) s fun t => (t.can n).bus = none) ∧
  (∀ s (n : Fin 4) r e d x, s.canOn n = true → r = true → s.on (R.CAN_CTL_RES_TOL n) = true → exec (.canReceiveError n r e d x) s =
    .next ((s.setFld (R.CAN_STAT_RES_SEEN n) 1).setFld (R.CAN_STAT_ACT n) 3)) ∧
  (∀ s (n : Fin 4), s.canOn n = true → s.on (R.CAN_CTL_EN n) = true → s.on (R.CAN_CTL_AUTO_REC n) = false → Answers (.canBusOff n) s fun t =>
    t.fld (R.CAN_STAT_STATE n) = 2 ∧ (t.can n).bus = none) ∧
  (∀ s m (n : Fin 4), s.opens m .can n = true → s.fld (R.CAN_STAT_STATE n) = 2 → exec (.canRecover m n) s =
    .next ((s.setFld (R.CAN_STAT_RECOVERING n) 1).okResp)) ∧
  (∀ s (n : Fin 4), s.on (R.CAN_STAT_RECOVERING n) = true → Answers (.canRecoveryDone n) s fun t =>
    t.fld (R.CAN_STAT_STATE n) = 0 ∧ t.fld (R.CAN_STAT_TEC n) = 0 ∧ t.fld (R.CAN_STAT_REC n) = 0 ∧ t.on (R.CAN_STAT_RECOVERING n) = false) ∧
  (∀ s m (n : Fin 4) (k : Fin 128) (e : Fin 256), s.opens m .can n = true → s.canStream n k = none → s.on (R.CAN_BUF_CFG_DIR n k) = true →
    s.canEpoch n k = e.val → e.val ≠ 0 → s.canBadFormat n k = false → exec (.canCommit m n k e) s = .next (s.canAccept n k).okResp) ∧
  (∀ s m (n : Fin 4) (k : Fin 128) w, s.opens m .can n = true → s.canStream n k = none → s.on (R.CAN_BUF_CFG_DIR n k) = true →
    s.canBit n k 16 = true → (s.can n).bus ≠ some k.val →
    exec (.canCancel m n k w) s = .next (((s.setCanBit n k 16 false).setCanBit n k 18 true).okResp)) ∧
  (∀ s m (n : Fin 4) (k : Fin 128), s.opens m .can n = true → s.canStream n k = none → s.on (R.CAN_BUF_CFG_DIR n k) = false →
    exec (.canLock m n k) s = .next (((s.setCanBit n k 22 true).setCanBit n k 21 false).okResp)) ∧
  (∀ s m (n : Fin 4) (k : Fin 128), s.opens m .can n = true → s.canStream n k = none → s.on (R.CAN_BUF_CFG_DIR n k) = false →
    (s.can n).waits.contains k.val = false → exec (.canRelease m n k) s =
    .next ((State.updCan ((s.setCanBit n k 22 false).setCanBit n k 23 false) n fun c =>
      { c with waits := c.waits.filter (· != k.val) }).okResp)) ∧
  (∀ s m (n : Fin 4) (k : Fin 128) v r, s.opens m .can n = true → (getBits v 29 1 = 0 → getBits v 11 18 = 0) →
    getBits (s.rd (R.CAN_BUF_CFG n k)) 0 31 = getBits v 0 31 → Answers (.canBufferConfig m n k v r) s fun t =>
    t.resp = ⟨0, 0⟩ ∧ t.rd (R.CAN_BUF_CFG n k) = v) ∧
  (∀ s (n : Fin 4), exec (.canDominantTimeout n) s = .next (s.updCan n fun c => { c with dark := true }))

/-- Ethernet ports and the host port: the commands complete. A frame of a good length is counted or received; the transmit ring goes on at a
kick and at the end of a frame; the link changes; a host frame answers the previous request and runs its own; a transaction times out. -/
def Obligations.EthernetAndHostCommandsComplete : Prop :=
  (∀ s (n : Fin 2) l e, s.shed = false → s.on (R.ETH_CTL_EN n) = true → s.on (R.ETH_STAT_LINK n) = true → 60 ≤ l.length → l.length ≤ 1518 →
    exec (.ethFrameReceived n l false e) s = .next (s.inc (R.ETH_CNT_FCS_ERR n))) ∧
  (∀ s (n : Fin 2) l e, s.shed = false → s.on (R.ETH_CTL_EN n) = true → s.on (R.ETH_STAT_LINK n) = true → 60 ≤ l.length → l.length ≤ 1518 →
    exec (.ethFrameReceived n l true e) s = .next (s.ethReceive n l e)) ∧
  (∀ s m (n : Fin 2) e, s.opens m .eth n = true → exec (.ethTxKick m n e) s = .next (s.ethNext n e).okResp) ∧
  (∀ s (n : Fin 2) e, (s.eth n).sending = true → s.on (R.ETH_CTL_EN n) = false → Answers (.ethTxDone n e) s fun t =>
    (t.eth n).sending = false ∧ t.fld (R.ETH_IDX_TX_NEXT n) = (s.fld (R.ETH_IDX_TX_NEXT n) + 1) % 2 ^ s.fld (R.ETH_RING_TX_LOG2 n) % 256) ∧
  (∀ s (n : Fin 2) (q : Fin 8), s.standby = false → exec (.ethLinkChange n true q) s =
    .next ((s.setFld (R.ETH_STAT_SQI n) q).ethLink n true)) ∧
  (∀ s t (a : Word), s.shed = false → s.on R.HSP_CTL_EN = true →
    exec (.hspRead .good false t a) s = .next (((s.hspMiso false).busRead .hsp a.toNat 4).hspAnswer t)) ∧
  (∀ s t (a v : Word), s.shed = false → s.on R.HSP_CTL_EN = true →
    exec (.hspWrite .good false t a v) s = .next (((s.hspMiso false).access .hsp a.toNat .word v).hspAnswer t)) ∧
  (∀ s p t, s.shed = false → s.on R.HSP_CTL_EN = true → exec (.hspNop .good p t) s = .next (s.hspMiso (p && !s.net.hsp.due.isEmpty))) ∧
  (∀ s t a rest, s.on R.HSP_CTL_EN = true → s.net.hsp.due = a :: rest → exec (.hspTimeout t) s =
    .next ((((s.opTo .hsp 0).inc R.HSP_CNT_TIMEOUT).updHsp fun h => { h with due := rest }).hspDue true ⟨5, a.tag, 0⟩))

/-- Images, rollback and attestation: the commands complete. A trial image is confirmed; the rollback counter advances; a slot opens, closes
and is verified and activated; attestation is asked for and given. -/
def Obligations.ImageCommandsComplete : Prop :=
  (∀ s m, s.opens m .sec 0 = true → s.fld R.SEC_BOOT_STAGE = 2 → s.onTrial = true → exec (.imageConfirm m) s =
    .next ((((s.setFld R.SEC_BOOT_TRIAL 0).keysWritten).updSec fun x => { x with trialRun := false }).okResp)) ∧
  (∀ s m, s.opens m .sec 0 = true → s.fld R.SEC_BOOT_STAGE = 2 → s.onTrial = false → 2 ≤ s.role → s.on R.SEC_IMG_STAT_OTP_TEMP_OK = true →
    exec (.rollbackAdvance m 0xA5) s = .next (((s.setFld R.SEC_VER_RB_CNT (max (s.fld R.SEC_VER_RB_CNT) (s.fld R.SEC_VER_RUN_VER))).post
      0x4007 locSec (max (s.fld R.SEC_VER_RB_CNT) (s.fld R.SEC_VER_RUN_VER) % 128)).okResp)) ∧
  (∀ s m (k : Fin 2), s.opens m .sec 0 = true → s.fld R.SEC_BOOT_SLOT ≠ k.val → s.fld R.SEC_IMG_STAT_OPENED = 3 → 2 ≤ s.role →
    s.on R.SEC_IMG_STAT_IMG_TEMP_OK = true → exec (.slotOpen m k) s =
    .next (((s.setFld R.SEC_IMG_CTL_SLOT k).setFld R.SEC_IMG_STAT_OPENED k).okResp)) ∧
  (∀ s m, s.opens m .sec 0 = true → exec (.slotClose m) s = .next ((s.setFld R.SEC_IMG_STAT_OPENED 3).okResp)) ∧
  (∀ s m (k : Fin 2), s.opens m .sec 0 = true → s.on R.SEC_IMG_STAT_IMG_BUSY = false → s.fld R.SEC_IMG_STAT_OPENED ≠ k.val →
    bitAt s.rcd.written k = true → 2 ≤ s.role → s.on R.SEC_IMG_STAT_IMG_TEMP_OK = true → exec (.slotActivate m k) s =
    .next ((((s.setFld R.SEC_IMG_CTL_SLOT k).setFld R.SEC_IMG_STAT_IMG_BUSY 1).updSec fun x => { x with act := some k.val }).okResp)) ∧
  (∀ s k a b, s.sec.act = some k → s.hallmark k a b ≠ 1 → s.hallmark k a b < 8 → Answers (.activationDone a b) s fun t =>
    t.on R.SEC_IMG_STAT_IMG_BUSY = false ∧ t.fld R.SEC_IMG_STAT_RES = s.hallmark k a b ∧ t.fld R.SEC_BOOT_PREF = s.fld R.SEC_BOOT_PREF ∧
    t.fld R.SEC_BOOT_TRIAL = s.fld R.SEC_BOOT_TRIAL) ∧
  (∀ s k a b, s.sec.act = some k → k < 2 → s.hallmark k a b = 1 → Answers (.activationDone a b) s fun t =>
    t.on R.SEC_IMG_STAT_IMG_BUSY = false ∧ t.fld R.SEC_IMG_STAT_RES = 1 ∧ t.fld R.SEC_BOOT_PREF = k ∧ t.fld R.SEC_BOOT_TRIAL = 1) ∧
  (∀ s m, s.opens m .sec 0 = true → exec (.attestationRequest m) s =
    .next (((((s.setFld R.SEC_ATT_CTL_GO 1).setFld R.SEC_ATT_CTL_DONE 0).updSec fun x =>
      { x with att := s.getBytes (s.fld R.SEC_ATT_ADDR_ADDR) 32 })).okResp)) ∧
  (∀ s, s.on R.SEC_ATT_CTL_GO = true → Answers .attestationDone s fun t =>
    t.on R.SEC_ATT_CTL_GO = false ∧ t.on R.SEC_ATT_CTL_DONE = true)

/-- Statements and sessions: the commands complete. A nonce is drawn and a statement submitted; each kind of statement, once verified, has its
effect when accepted; a held life-cycle statement expires; a session ends by logout or time. -/
def Obligations.StatementCommandsComplete : Prop :=
  (∀ s m, s.opens m .rol 0 = true → Answers (.nonceDraw m) s fun t => t.resp = ⟨0, 0⟩ ∧ t.sec.nonce = true) ∧
  (∀ s m, s.opens m .rol 0 = true → s.on R.ROL_RESULT_BUSY = false →
    exec (.statementSubmit m) s = .next ((s.setFld R.ROL_RESULT_BUSY 1).okResp)) ∧
  (∀ s, s.on R.ROL_RESULT_BUSY = true → s.stmtKind = 1 → s.stmtReason = 0 → Answers .authStatement s fun t =>
    t.on R.ROL_RESULT_BUSY = false ∧ t.fld R.ROL_RESULT_RESULT = 1 ∧ t.sec.nonce = false ∧
    t.fld R.ROL_SESS_LEFT_S = 900) ∧
  (∀ s, s.on R.ROL_RESULT_BUSY = true → s.stmtKind = 2 → s.stmtReason = 0 → s.chgState = 2 → Answers .changeStatement s fun t =>
    t.on R.ROL_RESULT_BUSY = false ∧ t.fld R.ROL_RESULT_RESULT = 1 ∧ t.chgState = 3) ∧
  (∀ s, s.on R.ROL_RESULT_BUSY = true → s.stmtKind = 3 → s.stmtReason = 0 → s.lcRight (s.credRole s.stmtCred) (s.stmtBody 0) = some true →
    Answers .lifecycleStatement s fun t => t.on R.ROL_RESULT_BUSY = false ∧ t.on R.SEC_LC_HELD = true ∧ t.sec.held = some s.stmtCred) ∧
  (∀ s, s.on R.ROL_RESULT_BUSY = true → s.stmtKind = 4 → s.stmtReason = 0 → s.on R.REC_STAT_FLUSHING = true → Answers .clearStatement s fun t =>
    t.on R.ROL_RESULT_BUSY = false ∧ t.fld R.ROL_RESULT_RESULT = 1 ∧ t.rcd.clearWait = some (s.stmtCred, s.stmtBody 0)) ∧
  (∀ s, s.on R.ROL_RESULT_BUSY = true → s.stmtKind = 5 → s.stmtReason = 0 → s.stmtBody 0 = 0 → s.stmtBody 1 < 4 →
    Answers .revokeStatement s fun t => t.on R.ROL_RESULT_BUSY = false ∧ bitAt (t.fld R.SEC_KEYREV_ECDSA) (s.stmtBody 1) = true) ∧
  (∀ s, exec .lifecycleHoldExpiry s = .next ((s.setFld R.SEC_LC_HELD 0).updSec fun x => { x with held := none })) ∧
  (∀ s m, s.opens m .rol 0 = true → exec (.authLogout m) s = .next (s.sessEnd).okResp) ∧
  (∀ s, s.role ≠ 0 → Answers .authSessionExpiry s fun t => t.role = 0 ∧ t.fld R.SEC_IMG_STAT_OPENED = 3 ∧ t.on R.SEC_DBG_CTL_OPENED = false)

/-- Two-party changes: the commands complete. A session opens on its pages, is sealed with its digest, commits, and is discarded by time or
abort. -/
def Obligations.ChangeCommandsComplete : Prop :=
  (∀ s m (p : Fin 64), s.opens m .rol 0 = true → s.chgState = 0 → Answers (.changeOpen m p) s fun t =>
    t.resp = ⟨0, 0⟩ ∧ t.chgState = 1 ∧ t.fld R.ROL_CHG_STAT_LEFT_S = 600 ∧ t.fld R.ROL_CHG_STAT_FAILS = 0) ∧
  (∀ s m, s.opens m .rol 0 = true → s.chgState = 1 → s.sec.sealing = false → s.leavesInstaller = true →
    exec (.changeSeal m) s = .next ((s.updSec fun x => { x with sealing := true }).okResp)) ∧
  (∀ s, s.sec.sealing = true → Answers .changeDigestDone s fun t => t.chgState = 2 ∧ t.sec.sealing = false ∧
    ∀ k : Fin 12, t.rd (R.ROL_DIGEST k) = BitVec.ofNat 32 (ofLe (((sha384 s.digestInput).drop (4 * k.val)).take 4))) ∧
  (∀ s, s.chgState = 4 → s.sec.apply = false → Answers (.changeCommit true) s fun t => t.sec.apply = true ∧ t.chgState = 4) ∧
  (∀ s, s.chgState = 4 → s.sec.apply = false → exec (.changeCommit false) s = .next (s.chgDiscard 4)) ∧
  (∀ s, 1 ≤ s.chgState → s.chgState ≤ 3 → exec .changeWindowExpiry s = .next ((s.opTo .rol 0).chgDiscard 1)) ∧
  (∀ s m, s.opens m .rol 0 = true → 1 ≤ s.chgState → s.chgState ≤ 3 → exec (.changeAbort m) s = .next (s.chgDiscard 2).okResp)

/-- Recorder and NOR: the commands complete. The oldest post leaves the queue and is judged by the phase: recorded, limited or merged into the
open record; the loss of records is recorded once there is room; a rate window ends with a record of each suppressed code; each flush
trigger starts a flush, or joins the one that runs; a flush that is done or that fails ends with its result; the erase behind a clear
ends. A page program or a sector erase starts in an image slot open for writing and in the calibration region with its session, a die
reset at any time the page is idle; the operation completes with RESULT done and its effect on the memory, or times out. -/
def Obligations.RecorderCommandsComplete : Prop :=
  (∀ s p rest u, s.recPaused = false → s.j3 = p :: rest → u = State.recSync { s with j3 := rest } → u.fld R.REC_STAT_PHASE = 1 →
    p.code / 4096 < 4 → p.code ≠ 0x1180 → exec .recordCapture s = .next (u.recLimited p)) ∧
  (∀ s p rest u, s.recPaused = false → s.j3 = p :: rest → u = State.recSync { s with j3 := rest } →
    4 ≤ p.code / 4096 ∨ (u.fld R.REC_STAT_PHASE = 1 ∧ p.code = 0x1180) → exec .recordCapture s = .next (u.recPut p)) ∧
  (∀ s p rest u o, s.recPaused = false → s.j3 = p :: rest → u = State.recSync { s with j3 := rest } → u.fld R.REC_STAT_PHASE ≠ 1 →
    p.code / 4096 < 4 → u.rcd.open_ = some o → o.code = p.code ∧ o.loc = p.loc ∧ o.data = p.data → u.recRepeat < 255 →
    exec .recordCapture s = .next u.recMerge) ∧
  (∀ s p rest u, s.recPaused = false → s.j3 = p :: rest → u = State.recSync { s with j3 := rest } → u.fld R.REC_STAT_PHASE ≠ 1 →
    u.rcd.open_ = none → exec .recordCapture s = .next (u.recPut p)) ∧
  (∀ s, s.rcd.lost ≠ 0 → s.fld R.REC_STAT_BACKLOG < ringSlots → exec .ringRoomRecord s =
    .next ((s.recPut ⟨0x1181, locRec, s.rcd.lost, s.now⟩).updRec fun r => { r with lost := 0 })) ∧
  (∀ s, exec .rateWindowEnd s = .next ((s.rcd.rate.filter fun e => e.sup ≠ 0).foldl
    (fun u e => u.recPut ⟨0x1180, e.loc, e.code + min e.sup 0xFFFF * 2 ^ 16, u.now⟩) (s.updRec fun r => { r with rate := [] }))) ∧
  (∀ s, s.on R.REC_STAT_FLUSHING = false → Answers .startFlush s fun t =>
    t.on R.REC_STAT_FLUSHING = true ∧ t.fld R.REC_FLUSH_CAUSE = 7 ∧ t.rcd.upto = s.fld R.REC_STAT_BACKLOG ∧ t.rcd.snapDue = true) ∧
  (∀ s, s.on R.REC_STAT_FLUSHING = true → s.rcd.step4 = false → Answers .startFlush s fun t =>
    t.regs = s.regs ∧ t.rcd.upto = s.fld R.REC_STAT_BACKLOG ∧ t.rcd.snapDue = true) ∧
  (∀ s, s.on R.REC_STAT_FLUSHING = false → Answers .flushPeriodic s fun t =>
    t.on R.REC_STAT_FLUSHING = true ∧ t.fld R.REC_FLUSH_CAUSE = 3 ∧ t.rcd.upto = s.fld R.REC_STAT_BACKLOG ∧ t.rcd.snapDue = s.snapWanted 3) ∧
  (∀ s, s.on R.REC_STAT_FLUSHING = true → s.rcd.step4 = false → Answers .flushPeriodic s fun t =>
    t.regs = s.regs ∧ t.rcd.upto = s.fld R.REC_STAT_BACKLOG ∧ t.rcd.snapDue = (s.rcd.snapDue || s.snapWanted 3)) ∧
  (∀ s, s.on R.REC_STAT_FLUSHING = false → 1728 ≤ s.fld R.REC_STAT_BACKLOG → Answers .flushBacklog s fun t =>
    t.on R.REC_STAT_FLUSHING = true ∧ t.fld R.REC_FLUSH_CAUSE = 4 ∧ t.rcd.upto = s.fld R.REC_STAT_BACKLOG ∧ t.rcd.snapDue = false) ∧
  (∀ s, s.on R.REC_STAT_FLUSHING = true → s.rcd.step4 = false → 1728 ≤ s.fld R.REC_STAT_BACKLOG → Answers .flushBacklog s fun t =>
    t.regs = s.regs ∧ t.rcd.upto = s.fld R.REC_STAT_BACKLOG ∧ t.rcd.snapDue = s.rcd.snapDue) ∧
  (∀ s m, s.opens m .recorder 0 = true → s.on R.REC_STAT_FLUSHING = false → Answers (.flushRequest m) s fun t => t.resp = ⟨0, 0⟩ ∧
    t.on R.REC_STAT_FLUSHING = true ∧ t.fld R.REC_FLUSH_CAUSE = 6 ∧ t.rcd.upto = s.fld R.REC_STAT_BACKLOG ∧ t.rcd.snapDue = s.snapWanted 6) ∧
  (∀ s m, s.opens m .recorder 0 = true → s.on R.REC_STAT_FLUSHING = true → s.rcd.step4 = false → Answers (.flushRequest m) s fun t =>
    t.resp = ⟨0, 0⟩ ∧ t.rcd.upto = s.fld R.REC_STAT_BACKLOG ∧ t.rcd.snapDue = (s.rcd.snapDue || s.snapWanted 6)) ∧
  (∀ s, s.on R.REC_STAT_FLUSHING = true → s.rcd.step4 = false → s.on R.REC_STAT_PF = false → s.rcd.clearWait = none →
    s.fld R.PWR_DETACH_STAT_STATE = 0 → Answers (.flushDone true) s fun t => t.on R.REC_STAT_FLUSHING = false ∧
    t.fld R.REC_FLUSH_RESULT = 1 ∧ t.fld R.REC_FLUSH_COUNT = min s.rcd.upto (s.fld R.REC_STAT_BACKLOG)) ∧
  (∀ s, s.on R.REC_STAT_FLUSHING = true → s.rcd.step4 = false → s.on R.REC_STAT_PF = true → Answers (.flushDone true) s fun t =>
    t.rcd.step4 = true ∧ t.fld R.REC_FLUSH_RESULT = 1 ∧ t.fld R.REC_FLUSH_COUNT = min s.rcd.upto (s.fld R.REC_STAT_BACKLOG)) ∧
  (∀ s, s.on R.REC_STAT_FLUSHING = true → s.rcd.step4 = false → s.rcd.clearWait = none → s.fld R.PWR_DETACH_STAT_STATE = 0 →
    Answers (.flushDone false) s fun t => t.on R.REC_STAT_FLUSHING = false ∧ t.on R.REC_STAT_PF = false ∧ t.fld R.REC_FLUSH_RESULT = 2 ∧
    t.on (hdr .recorder 0 0x28 1 1) = true) ∧
  (∀ s, s.on R.REC_STAT_CLEARING = true → Answers .clearEraseDone s fun t => t.on R.REC_STAT_CLEARING = false) ∧
  (∀ s m a, s.opens m .nor 0 = true → s.on R.NOR_STAT_BUSY = false → s.on R.REC_STAT_PF = false → a = s.fld R.NOR_ADDR_ADDR → a % 256 = 0 →
    (0x60000000 ≤ a ∧ a < 0x61000000 ∧ s.fld R.SEC_IMG_STAT_OPENED = 0) ∨ (0x63000000 ≤ a ∧ a < 0x64000000 ∧ s.fld R.SEC_IMG_STAT_OPENED = 1) ∨
      (0x61000000 ≤ a ∧ a < 0x61400000 ∧ 2 ≤ s.fld R.ROL_SESS_ROLE) →
    s.on R.SEC_IMG_STAT_IMG_TEMP_OK = true → exec (.norProgramPage m) s =
    .next ((((s.setFld R.NOR_CMD_OP 0).setFld R.NOR_STAT_BUSY 1).updRec fun r => { r with nor := some (0, a) }).okResp)) ∧
  (∀ s m a, s.opens m .nor 0 = true → s.on R.NOR_STAT_BUSY = false → s.on R.REC_STAT_PF = false → a = s.fld R.NOR_ADDR_ADDR → a % 65536 = 0 →
    (0x60000000 ≤ a ∧ a < 0x61000000 ∧ s.fld R.SEC_IMG_STAT_OPENED = 0) ∨ (0x63000000 ≤ a ∧ a < 0x64000000 ∧ s.fld R.SEC_IMG_STAT_OPENED = 1) ∨
      (0x61000000 ≤ a ∧ a < 0x61400000 ∧ 2 ≤ s.fld R.ROL_SESS_ROLE) →
    s.on R.SEC_IMG_STAT_IMG_TEMP_OK = true → exec (.norEraseSector m) s =
    .next ((((s.setFld R.NOR_CMD_OP 1).setFld R.NOR_STAT_BUSY 1).updRec fun r => { r with nor := some (1, a) }).okResp)) ∧
  (∀ s m, s.opens m .nor 0 = true → s.on R.NOR_STAT_BUSY = false → s.on R.REC_STAT_PF = false → exec (.norResetDie m) s =
    .next ((((s.setFld R.NOR_CMD_OP 2).setFld R.NOR_STAT_BUSY 1).updRec fun r => { r with nor := some (2, s.fld R.NOR_ADDR_ADDR) }).okResp)) ∧
  (∀ s op a p, s.rcd.nor = some (op, a) → Answers (.norOpDone p) s fun t =>
    t.rcd.nor = none ∧ t.on R.NOR_STAT_BUSY = false ∧ t.fld R.NOR_STAT_RESULT = 1 ∧
    (op = 1 → t.fld R.NOR_CNT_ERASES = min (s.fld R.NOR_CNT_ERASES + 1) 0xFFFF ∧ ∀ b, a ≤ b → b < a + 65536 → t.byte b = (s.clearMem a 65536).byte b)) ∧
  (∀ s op a, s.rcd.nor = some (op, a) → Answers .norOpTimeout s fun t =>
    t.rcd.nor = none ∧ t.on R.NOR_STAT_BUSY = false ∧ t.fld R.NOR_STAT_RESULT = 2 ∧ t.on (hdr .nor 0 0x28 1 1) = true ∧
    t.fld R.NOR_CNT_TIMEOUTS = min (s.fld R.NOR_CNT_TIMEOUTS + 1) 255)

/-- Derating and memory self-test: the commands complete. A derate channel is configured with the EPOCH of its context; a test is started,
ends with its failures or is aborted; a failing word is repaired with a spare row. -/
def Obligations.ThermalCommandsComplete : Prop :=
  (∀ s m (k : Fin 8) v, s.opens m .tmp 0 = true → s.on (R.TMP_DRT_CFG_EN k) = false → getBits v 8 8 ≤ 159 → getBits v 0 1 = 1 →
    s.rd (R.TMP_DRT_START k) ≠ s.rd (R.TMP_DRT_END k) → exec (.derateChannelWrite m k v) s =
    .next (((((s.wr (R.TMP_DRT_CFG k) (v &&& 0x7FF3F)).setFld (R.TMP_DRT_STAT_EPOCH k) (s.fld (R.LPX_CFG_EPOCH (getBits v 8 8)))).setFld
      (R.TMP_DRT_STAT_STALE k) 0)).okResp)) ∧
  (∀ s m (a : Fin 4), s.opens m .bst 0 = true → s.on R.BST_STAT_BUSY = false → a.val ≠ 3 → s.bistState = true →
    Answers (.bistRequest m 6 a) s fun t => t.resp = ⟨0, 0⟩ ∧ t.on R.BST_STAT_BUSY = true ∧ t.fld R.BST_CTL_TARGET = 6 ∧ t.fld R.BST_CTL_ALG = a) ∧
  (∀ s, s.on R.BST_STAT_BUSY = true → Answers (.bistDone []) s fun t => t.on R.BST_STAT_BUSY = false ∧ t.fld R.BST_STAT_RESULT = 1) ∧
  (∀ s f l, s.on R.BST_STAT_BUSY = true → Answers (.bistDone (f :: l)) s fun t => t.on R.BST_STAT_BUSY = false ∧ t.fld R.BST_STAT_RESULT = 2) ∧
  (∀ s m, s.opens m .bst 0 = true → s.on R.BST_STAT_BUSY = true → Answers (.bistAbort m) s fun t =>
    t.resp = ⟨0, 0⟩ ∧ t.on R.BST_STAT_BUSY = false ∧ t.fld R.BST_STAT_RESULT = 3) ∧
  (∀ s m b, s.opens m .bst 0 = true → s.bistState = true → s.on R.SEC_IMG_STAT_OTP_TEMP_OK = true → s.fld R.BST_STAT_RESULT = 2 →
    s.bistBank = some b → s.spareUsed b < (if b < 16 then 4 else 2) → Answers (.bistRepair m) s fun t =>
    t.resp = ⟨0, 0⟩ ∧ t.spareUsed b = s.spareUsed b + 1)

/-- The engine and the tick: what each command leaves alone. An engine instruction changes the state of the engine and the registers,
counters, J3 queue and, for an undefined one, groups and fault lines that its rule names, and no other part of the state; so for every
command of the engine and of the tick. The queue and the canonical form stay. -/
def Obligations.EngineFrames : Prop :=
  (Touches .tickBoundary [.free, .j3, .regs, .live, .staged, .bytes, .cad, .eng, .sens, .pwm, .safe, .pos, .trac, .conv, .act, .drl,
    .sec]) ∧
  (Touches .tickMismatch [.free, .j3, .regs, .cad, .pwm, .safe]) ∧
  (∀ m, Touches (.admissionRequest m) [.free, .resp, .j3, .regs, .cad]) ∧
  (Touches .admissionCheckDone [.j3, .regs, .cad, .eng]) ∧
  (∀ lane ecc, Touches (.tickRunDispatch lane ecc) [.free, .j3, .regs, .engineMem, .cad, .eng, .pwm, .safe]) ∧
  (∀ lane, Touches (.runComplete lane) [.j3, .regs, .cad, .eng, .pwm, .safe, .act]) ∧
  (∀ lane crit, Touches (.runDeadlineAbort lane crit) [.j3, .regs, .cad, .eng]) ∧
  (∀ c, Touches (.contextDropFault c) [.j3, .regs, .cad, .eng, .pwm, .safe]) ∧
  (Touches .j3LostReport [.j3, .regs, .cad]) ∧
  (∀ lane, Touches (.reissue lane) [.j3, .regs, .cad, .eng, .pwm, .safe]) ∧
  (∀ lane, Touches (.laneFault lane) [.j3, .regs, .cad, .eng, .pwm, .safe]) ∧
  (∀ m lane, Touches (.laneCheck m lane) [.free, .resp, .j3, .regs, .cad]) ∧
  (∀ lane pass, Touches (.laneCheckDone lane pass) [.regs, .eng]) ∧
  (∀ m c req, Touches (.stateRequest m c req) [.free, .resp, .j3, .regs, .cad]) ∧
  (∀ c, Touches (.followingErrorTrip c) [.j3, .regs, .cad, .pwm, .safe]) ∧
  (∀ m c v, Touches (.contextWordWrite m c v) [.free, .resp, .j3, .regs, .cad, .eng]) ∧
  (∀ m c, Touches (.contextWordRead m c) [.resp, .j3, .regs, .cad, .eng]) ∧
  (∀ m k v, Touches (.engineConstantWrite m k v) [.free, .resp, .j3, .regs, .cad]) ∧
  (∀ m k v, Touches (.programMemoryWrite m k v) [.free, .resp, .j3, .regs, .engineMem, .cad, .eng]) ∧
  (∀ m k v, Touches (.tableMemoryWrite m k v) [.free, .resp, .j3, .regs, .engineMem, .cad, .eng]) ∧
  (∀ m start len, Touches (.validationStart m start len) [.free, .resp, .j3, .regs, .cad]) ∧
  (Touches .validationDone [.j3, .regs, .cad, .eng]) ∧
  (∀ lane, Touches (.dutyPortApply lane) [.j3, .regs, .cad, .eng, .pwm, .safe, .act]) ∧
  (∀ lane, Touches (.undefinedInstruction lane) [.j3, .regs, .cad, .eng, .pwm, .safe]) ∧
  (∀ lane, Touches (.nop lane) [.free, .j3, .regs, .cad, .eng, .pwm, .safe]) ∧
  (∀ lane, Touches (.mov lane) [.free, .j3, .regs, .cad, .eng, .pwm, .safe]) ∧
  (∀ lane, Touches (.add lane) [.free, .j3, .regs, .cad, .eng, .pwm, .safe]) ∧
  (∀ lane, Touches (.sub lane) [.free, .j3, .regs, .cad, .eng, .pwm, .safe]) ∧
  (∀ lane, Touches (.mul lane) [.free, .j3, .regs, .cad, .eng, .pwm, .safe]) ∧
  (∀ lane, Touches (.mac lane) [.free, .j3, .regs, .cad, .eng, .pwm, .safe]) ∧
  (∀ lane, Touches (.msb lane) [.free, .j3, .regs, .cad, .eng, .pwm, .safe]) ∧
  (∀ lane, Touches (.neg lane) [.free, .j3, .regs, .cad, .eng, .pwm, .safe]) ∧
  (∀ lane, Touches (.abs lane) [.free, .j3, .regs, .cad, .eng, .pwm, .safe]) ∧
  (∀ lane, Touches (.min lane) [.free, .j3, .regs, .cad, .eng, .pwm, .safe]) ∧
  (∀ lane, Touches (.max lane) [.free, .j3, .regs, .cad, .eng, .pwm, .safe]) ∧
  (∀ lane, Touches (.clamp lane) [.free, .j3, .regs, .cad, .eng, .pwm, .safe]) ∧
  (∀ lane, Touches (.lerp lane) [.free, .j3, .regs, .cad, .eng, .pwm, .safe]) ∧
  (∀ lane, Touches (.rate lane) [.free, .j3, .regs, .cad, .eng, .pwm, .safe]) ∧
  (∀ lane, Touches (.wrap lane) [.free, .j3, .regs, .cad, .eng, .pwm, .safe]) ∧
  (∀ lane, Touches (.rcp lane) [.free, .j3, .regs, .cad, .eng, .pwm, .safe]) ∧
  (∀ lane, Touches (.rsq lane) [.free, .j3, .regs, .cad, .eng, .pwm, .safe]) ∧
  (∀ lane, Touches (.div lane) [.free, .j3, .regs, .cad, .eng, .pwm, .safe]) ∧
  (∀ lane, Touches (.sqrt lane) [.free, .j3, .regs, .cad, .eng, .pwm, .safe]) ∧
  (∀ lane, Touches (.hyp lane) [.free, .j3, .regs, .cad, .eng, .pwm, .safe]) ∧
  (∀ lane, Touches (.atan2 lane) [.free, .j3, .regs, .cad, .eng, .pwm, .safe]) ∧
  (∀ lane, Touches (.sincos lane) [.free, .j3, .regs, .cad, .eng, .pwm, .safe]) ∧
  (∀ lane, Touches (.cvti lane) [.free, .j3, .regs, .cad, .eng, .pwm, .safe]) ∧
  (∀ lane, Touches (.cvtf lane) [.free, .j3, .regs, .cad, .eng, .pwm, .safe]) ∧
  (∀ lane, Touches (.cmplt lane) [.free, .j3, .regs, .cad, .eng, .pwm, .safe]) ∧
  (∀ lane, Touches (.cmple lane) [.free, .j3, .regs, .cad, .eng, .pwm, .safe]) ∧
  (∀ lane, Touches (.cmpeq lane) [.free, .j3, .regs, .cad, .eng, .pwm, .safe]) ∧
  (∀ lane, Touches (.cmpag lane) [.free, .j3, .regs, .cad, .eng, .pwm, .safe]) ∧
  (∀ lane, Touches (.pandlt lane) [.free, .j3, .regs, .cad, .eng, .pwm, .safe]) ∧
  (∀ lane, Touches (.porlt lane) [.free, .j3, .regs, .cad, .eng, .pwm, .safe]) ∧
  (∀ lane, Touches (.sel lane) [.free, .j3, .regs, .cad, .eng, .pwm, .safe]) ∧
  (∀ lane, Touches (.btst lane) [.free, .j3, .regs, .cad, .eng, .pwm, .safe]) ∧
  (∀ lane, Touches (.and lane) [.free, .j3, .regs, .cad, .eng, .pwm, .safe]) ∧
  (∀ lane, Touches (.or lane) [.free, .j3, .regs, .cad, .eng, .pwm, .safe]) ∧
  (∀ lane, Touches (.xor lane) [.free, .j3, .regs, .cad, .eng, .pwm, .safe]) ∧
  (∀ lane, Touches (.shr lane) [.free, .j3, .regs, .cad, .eng, .pwm, .safe]) ∧
  (∀ lane, Touches (.clk3 lane) [.free, .j3, .regs, .cad, .eng, .pwm, .safe]) ∧
  (∀ lane, Touches (.vsd6 lane) [.free, .j3, .regs, .cad, .eng, .pwm, .safe]) ∧
  (∀ lane, Touches (.park lane) [.free, .j3, .regs, .cad, .eng, .pwm, .safe]) ∧
  (∀ lane, Touches (.ipark lane) [.free, .j3, .regs, .cad, .eng, .pwm, .safe]) ∧
  (∀ lane, Touches (.parksc lane) [.free, .j3, .regs, .cad, .eng, .pwm, .safe]) ∧
  (∀ lane, Touches (.iparksc lane) [.free, .j3, .regs, .cad, .eng, .pwm, .safe]) ∧
  (∀ lane, Touches (.pic lane) [.free, .j3, .regs, .cad, .eng, .pwm, .safe]) ∧
  (∀ lane, Touches (.svm lane) [.free, .j3, .regs, .cad, .eng, .pwm, .safe]) ∧
  (∀ lane, Touches (.lut1 lane) [.free, .j3, .regs, .cad, .eng, .pwm, .safe]) ∧
  (∀ lane, Touches (.lut2 lane) [.free, .j3, .regs, .cad, .eng, .pwm, .safe])

/-- Sensing and monitors: what each command leaves alone. No command of the converters, queues and monitors changes a part of the state but
those named for it. The queue and the canonical form stay. -/
def Obligations.SensingFrames : Prop :=
  (∀ src, Touches (.longWindowClose src) [.sens]) ∧
  (∀ m sel, Touches (.referenceSelect m sel) [.free, .resp, .j3, .regs, .cad, .sens]) ∧
  (∀ meas, Touches (.referenceReady meas) [.j3, .regs, .cad, .sens]) ∧
  (∀ meas, Touches (.refFail meas) [.j3, .regs, .cad, .sens, .pwm, .safe]) ∧
  (∀ m ch, Touches (.lastRead m ch) [.resp, .regs]) ∧
  (∀ m, Touches (.faqPop m) [.resp, .regs, .sens]) ∧
  (∀ m, Touches (.faqDiscard m) [.free, .resp, .j3, .regs, .cad, .sens]) ∧
  (Touches .faqFallbackWrite [.resp, .j3, .regs, .bytes, .cad, .sens]) ∧
  (Touches .hkRoundStart [.regs, .sens]) ∧
  (∀ conv, Touches (.hkStall conv) [.j3, .regs, .cad, .sens, .pwm, .safe]) ∧
  (∀ k hi ch x, Touches (.monitorTrip k hi ch x) [.free, .j3, .regs, .cad, .pwm, .safe, .conv]) ∧
  (∀ k hi ch x, Touches (.monitorRelease k hi ch x) [.free, .regs]) ∧
  (∀ k hi ch x, Touches (.monitorResolve k hi ch x) [.free, .j3, .regs, .cad, .pwm, .safe, .conv]) ∧
  (∀ m k, Touches (.monitorSwapCheck m k) [.free, .resp, .j3, .regs, .cad, .sens]) ∧
  (∀ m k, Touches (.monitorTieCheck m k) [.free, .resp, .j3, .regs, .cad, .sens]) ∧
  (∀ k pass, Touches (.monitorCheckDone k pass) [.j3, .regs, .cad, .sens])

/-- Power groups, links and driver dies: what each command leaves alone. No command of the groups, the links or the dies changes a part of the
state but those named for it. The queue and the canonical form stay. -/
def Obligations.DriveFrames : Prop :=
  (∀ g, Touches (.halfPeriodPoint g) [.sens]) ∧
  (∀ g, Touches (.cntMismatch g) [.j3, .regs, .cad, .pwm, .safe]) ∧
  (∀ g slot, Touches (.edgeDue g slot) [.regs, .pwm]) ∧
  (∀ m g, Touches (.arm m g) [.resp, .j3, .regs, .cad, .pwm]) ∧
  (∀ g, Touches (.armingAbort g) [.j3, .regs, .cad, .pwm, .safe]) ∧
  (∀ m g, Touches (.disarm m g) [.free, .resp, .j3, .regs, .cad, .pwm, .safe]) ∧
  (∀ k noise hot, Touches (.idleFrame k noise hot) [.regs, .pwm]) ∧
  (∀ k n lag noise hot, Touches (.edgeFrame k n lag noise hot) [.regs, .pwm]) ∧
  (∀ k noise hot, Touches (.safeFrame k noise hot) [.regs, .pwm]) ∧
  (∀ k crcOk, Touches (.regFrame k crcOk) [.regs, .pwm]) ∧
  (∀ k crcOk, Touches (.cfgFrame k crcOk) [.regs, .pwm]) ∧
  (∀ k hot, Touches (.dieLinkLoss k hot) [.regs, .pwm]) ∧
  (∀ k, Touches (.controllerLinkLoss k) [.j3, .regs, .cad, .pwm, .safe]) ∧
  (∀ k, Touches (.linkTrained k) [.regs]) ∧
  (∀ k trim, Touches (.linkCalDone k trim) [.regs]) ∧
  (∀ m k, Touches (.linkRestart m k) [.free, .resp, .j3, .regs, .cad, .pwm]) ∧
  (∀ k q, Touches (.regionMismatch k q) [.j3, .regs, .cad, .pwm, .safe]) ∧
  (∀ c, Touches (.dsatTrip c) [.regs, .pwm]) ∧
  (∀ c, Touches (.twoStepHoldEnd c) [.regs]) ∧
  (∀ c pos low, Touches (.supplyUvlo c pos low) [.regs, .pwm]) ∧
  (∀ c, Touches (.readySet c) [.regs, .pwm]) ∧
  (∀ c, Touches (.clampOn c) [.regs]) ∧
  (∀ c avg, Touches (.channelPwrHigh c avg) [.j3, .regs, .cad]) ∧
  (∀ c, Touches (.channelPwrTrip c) [.regs, .pwm]) ∧
  (∀ m c dsat pwr, Touches (.tripLatchClear m c dsat pwr) [.free, .resp, .j3, .regs, .cad, .pwm]) ∧
  (∀ l vbst, Touches (.bootstrapUvlo l vbst) [.regs, .pwm]) ∧
  (∀ k vbr bad, Touches (.lvDieSupplyFault k vbr bad) [.regs, .pwm]) ∧
  (∀ l, Touches (.refreshPulse l) [.regs, .pwm]) ∧
  (∀ l, Touches (.refreshPulseEnd l) [.regs, .pwm]) ∧
  (Touches .chopperSample [.regs]) ∧
  (∀ whileOff, Touches (.chopperFault whileOff) [.j3, .regs, .cad, .pwm, .safe]) ∧
  (∀ g, Touches (.speedFreewheelChange g) [.j3, .regs, .cad, .pwm]) ∧
  (∀ g, Touches (.prechargeEnd g) [.regs, .pwm]) ∧
  (∀ l, Touches (.deadTimeEnd l) [.regs, .pwm]) ∧
  (∀ l, Touches (.lvSoftTurnOffEnd l) [.pwm])

/-- Position, traction, converters, actuators and shifts: what each command leaves alone. No command of a machine block changes a part of the
state but those named for it. The queue and the canonical form stay. -/
def Obligations.MachineFrames : Prop :=
  (∀ m c k v, Touches (.mailboxWordWrite m c k v) [.free, .resp, .j3, .regs, .cad, .drl]) ∧
  (∀ m c epoch, Touches (.mailboxCommit m c epoch) [.free, .resp, .j3, .regs, .cad]) ∧
  (∀ p l, Touches (.quadratureEdge p l) [.j3, .regs, .cad, .pwm, .safe, .pos]) ∧
  (∀ p l, Touches (.illegalTransition p l) [.j3, .regs, .cad, .pwm, .safe, .pos]) ∧
  (∀ p, Touches (.illWindowEnd p) [.pos]) ∧
  (∀ p l, Touches (.indexPulse p l) [.j3, .regs, .cad, .pwm, .safe, .pos]) ∧
  (∀ p l, Touches (.hallEdge p l) [.j3, .regs, .cad, .pwm, .safe, .pos]) ∧
  (∀ p cur, Touches (.resolverResult p cur) [.free, .j3, .regs, .cad, .pwm, .safe, .pos]) ∧
  (∀ p line, Touches (.serialWord p line) [.j3, .regs, .cad, .pwm, .safe, .pos]) ∧
  (∀ p, Touches (.serialWordTimeout p) [.j3, .regs, .cad, .pwm, .safe, .pos]) ∧
  (∀ p, Touches (.standstill p) [.regs, .pos]) ∧
  (∀ m p wireOk, Touches (.posRestart m p wireOk) [.free, .resp, .j3, .regs, .cad, .pos]) ∧
  (∀ p cause, Touches (.sensorFault p cause) [.j3, .regs, .cad, .pwm, .safe, .pos]) ∧
  (∀ e, Touches (.emuStep e) [.j3, .regs, .cad, .pos]) ∧
  (∀ m e v, Touches (.emuEnable m e v) [.free, .resp, .j3, .regs, .cad, .pos]) ∧
  (∀ n, Touches (.trcDeclaration n) [.j3, .regs, .cad, .pwm, .safe, .trac]) ∧
  (∀ n, Touches (.dropModeChange n) [.j3, .regs, .cad, .pwm]) ∧
  (∀ n, Touches (.degradeWarning n) [.j3, .regs, .cad]) ∧
  (∀ n, Touches (.degradeExpiry n) [.j3, .regs, .cad, .pwm, .safe]) ∧
  (∀ m n, Touches (.trcClear m n) [.free, .resp, .j3, .regs, .cad, .trac]) ∧
  (∀ n, Touches (.keIdentification n) [.j3, .regs, .cad, .pwm, .safe]) ∧
  (∀ m n, Touches (.keRestart m n) [.free, .resp, .j3, .regs, .cad, .trac]) ∧
  (∀ m v, Touches (.chgEnable m v) [.free, .resp, .j3, .regs, .cad, .conv]) ∧
  (∀ rising, Touches (.cpEdge rising) [.free, .regs, .conv]) ∧
  (Touches .cpOscTimeout [.free, .regs, .conv]) ∧
  (∀ high code, Touches (.cpCapture high code) [.conv]) ∧
  (Touches .cpStateChange [.j3, .regs, .cad, .conv]) ∧
  (Touches .ppRatingChange [.free, .regs]) ∧
  (∀ t, Touches (.handshakeTimeout t) [.j3, .regs, .cad, .conv]) ∧
  (Touches .gridZeroCrossing [.free, .regs, .conv]) ∧
  (Touches .gridOkSet [.regs]) ∧
  (∀ phase high, Touches (.gridVoltageTrip phase high) [.j3, .regs, .cad, .conv]) ∧
  (∀ kind, Touches (.gridFrequencyTrip kind) [.j3, .regs, .cad, .conv]) ∧
  (∀ direction, Touches (.powerLimitTrip direction) [.j3, .regs, .cad, .conv]) ∧
  (∀ g, Touches (.driveInterlock g) [.j3, .regs, .cad, .pwm, .safe]) ∧
  (∀ m v, Touches (.auxEnable m v) [.free, .resp, .j3, .regs, .cad]) ∧
  (Touches .auxTestPulseEnd [.pwm, .conv]) ∧
  (Touches .auxSoftStartLimit [.conv]) ∧
  (Touches .auxSoftStartTimeout [.regs, .conv]) ∧
  (Touches .auxOverload [.conv]) ∧
  (Touches .auxHiccupEnd [.conv]) ∧
  (Touches .auxRunStable [.regs]) ∧
  (∀ m n v, Touches (.actEnable m n v) [.free, .resp, .j3, .regs, .cad, .pwm, .act]) ∧
  (∀ n hall, Touches (.actHallEdge n hall) [.free, .j3, .regs, .cad, .pwm, .act]) ∧
  (∀ n, Touches (.actHallFault n) [.free, .j3, .regs, .cad, .pwm, .safe, .act]) ∧
  (∀ n a b c, Touches (.actSwSample n a b c) [.free, .j3, .regs, .cad, .pwm, .safe, .act]) ∧
  (∀ n, Touches (.actDesync n) [.free, .j3, .regs, .cad, .pwm, .safe, .act]) ∧
  (∀ n, Touches (.actSpeedTimeout n) [.free, .j3, .regs, .cad, .pwm, .act]) ∧
  (∀ n, Touches (.actPrechargeEnd n) [.free, .j3, .regs, .cad, .pwm, .act]) ∧
  (∀ n, Touches (.actObserveEnd n) [.free, .j3, .regs, .cad, .pwm, .act]) ∧
  (∀ n, Touches (.actRevbrakeEnd n) [.free, .j3, .regs, .cad, .pwm, .act]) ∧
  (∀ n, Touches (.actCatchTimeout n) [.free, .j3, .regs, .cad, .pwm, .safe, .act]) ∧
  (∀ n, Touches (.actAlignEnd n) [.free, .j3, .regs, .cad, .pwm, .act]) ∧
  (∀ n, Touches (.actRampEnd n) [.free, .j3, .regs, .cad, .pwm, .safe, .act]) ∧
  (∀ n, Touches (.actRetryEnd n) [.free, .j3, .regs, .cad, .pwm, .act]) ∧
  (∀ n, Touches (.actRunStable n) [.regs, .act]) ∧
  (∀ n, Touches (.actStall n) [.free, .j3, .regs, .cad, .pwm, .act]) ∧
  (∀ n, Touches (.actEmfFault n) [.free, .j3, .regs, .cad, .pwm, .safe, .act]) ∧
  (∀ m n, Touches (.actZero m n) [.free, .resp, .j3, .regs, .cad]) ∧
  (∀ n, Touches (.parkSlip n) [.j3, .regs, .cad, .pwm, .safe]) ∧
  (∀ m start, Touches (.shiftGo m start) [.free, .resp, .j3, .regs, .cad, .drl]) ∧
  (∀ m, Touches (.shiftAbort m) [.free, .resp, .j3, .regs, .cad, .drl]) ∧
  (Touches .shiftStepTimeout [.regs, .drl]) ∧
  (Touches .hl21TestStart [.pwm, .conv])

/-- Safety manager, Eptal, Tandem and debugger: what each command leaves alone. No command of the safety functions changes a part of the state
but those named for it. The queue and the canonical form stay. -/
def Obligations.SafetyFrames : Prop :=
  (∀ lines, Touches (.faultLineRaise lines) [.j3, .regs, .cad, .pwm, .safe]) ∧
  (∀ m k v, Touches (.pendingClear m k v) [.free, .resp, .j3, .regs, .cad, .pwm, .safe]) ∧
  (∀ g, Touches (.holdMaxExpiry g) [.j3, .regs, .cad, .pwm, .safe]) ∧
  (∀ m groups, Touches (.release m groups) [.free, .resp, .j3, .regs, .cad, .pwm, .safe]) ∧
  (∀ m line key, Touches (.faultInject m line key) [.free, .resp, .j3, .regs, .cad, .pwm, .safe]) ∧
  (∀ n a b together, Touches (.safetyInputChange n a b together) [.j3, .regs, .cad, .pwm, .safe]) ∧
  (∀ n, Touches (.siDiscrepancy n) [.j3, .regs, .cad, .pwm, .safe]) ∧
  (∀ n srcB aLow bLow, Touches (.siTestPulse n srcB aLow bLow) [.j3, .regs, .cad, .pwm, .safe]) ∧
  (∀ m n, Touches (.siReset m n) [.free, .resp, .j3, .regs, .cad, .pwm, .safe]) ∧
  (∀ m, Touches (.soHighSideClose m) [.regs, .safe]) ∧
  (∀ m low hsNode lsNode, Touches (.soSwitchTest m low hsNode lsNode) [.j3, .regs, .cad, .pwm, .safe]) ∧
  (∀ m hsNode lsNode, Touches (.soTestEnd m hsNode lsNode) [.j3, .regs, .cad, .pwm, .safe]) ∧
  (∀ m, Touches (.soOvercurrent m) [.j3, .regs, .cad, .pwm, .safe]) ∧
  (∀ m, Touches (.soDegradeExpiry m) [.j3, .regs, .cad, .pwm, .safe]) ∧
  (∀ m k, Touches (.soReset m k) [.free, .resp, .j3, .regs, .cad, .pwm, .safe]) ∧
  (∀ k pathB, Touches (.eptalSendMiss k pathB) [.regs, .safe]) ∧
  (∀ k pathB bytes, Touches (.eptalCopy k pathB bytes) [.j3, .regs, .cad, .pwm, .safe]) ∧
  (∀ k, Touches (.eptalWindowExpiry k) [.j3, .regs, .cad, .pwm, .safe]) ∧
  (∀ k, Touches (.eptalSingleExpiry k) [.j3, .regs, .cad, .pwm, .safe]) ∧
  (∀ k, Touches (.eptalDeliveryTimeout k) [.j3, .regs, .cad, .pwm, .safe]) ∧
  (∀ m k, Touches (.eptalReset m k) [.free, .resp, .j3, .regs, .cad, .pwm, .safe]) ∧
  (∀ p addr write fold, Touches (.gateMismatch p addr write fold) [.j3, .regs, .cad, .pwm, .safe, .tnd]) ∧
  (∀ p diff, Touches (.stateFold p diff) [.j3, .regs, .cad, .pwm, .safe, .tnd]) ∧
  (∀ m p, Touches (.foldRequest m p) [.free, .resp, .j3, .regs, .cad, .tnd]) ∧
  (∀ p chk data double, Touches (.cacheEccError p chk data double) [.j3, .regs, .cad, .pwm, .safe, .tnd]) ∧
  (∀ p main chk, Touches (.assayVerdict p main chk) [.j3, .regs, .cad, .pwm, .safe, .tnd]) ∧
  (∀ p, Touches (.assayTimeout p) [.j3, .regs, .cad, .pwm, .safe, .tnd]) ∧
  (∀ p, Touches (.restartFetch p) [.regs, .tnd]) ∧
  (∀ p, Touches (.scWarning p) [.j3, .regs, .cad]) ∧
  (∀ p, Touches (.scExpiry p) [.j3, .regs, .cad, .pwm, .safe]) ∧
  (∀ m p, Touches (.assayRequest m p) [.free, .resp, .j3, .regs, .cad, .tnd]) ∧
  (∀ m p, Touches (.splitRequest m p) [.free, .resp, .j3, .regs, .cad]) ∧
  (∀ p diff, Touches (.splitSync p diff) [.j3, .regs, .cad, .pwm, .safe, .tnd]) ∧
  (∀ p, Touches (.splitTimeout p) [.j3, .regs, .cad]) ∧
  (∀ m p, Touches (.rejoinRequest m p) [.free, .resp, .j3, .regs, .cad]) ∧
  (∀ p, Touches (.rejoinSync p) [.tnd]) ∧
  (∀ p diff, Touches (.rejoinCopyDone p diff) [.j3, .regs, .cad, .tnd]) ∧
  (∀ p, Touches (.rejoinTimeout p) [.j3, .regs, .cad, .tnd]) ∧
  (∀ m p diff, Touches (.debugHalt m p diff) [.free, .resp, .j3, .regs, .cad, .pwm, .safe, .tnd]) ∧
  (∀ m p diff, Touches (.debugResume m p diff) [.free, .resp, .j3, .regs, .cad, .pwm, .safe, .tnd]) ∧
  (∀ m p diff, Touches (.debugStep m p diff) [.free, .resp, .j3, .regs, .cad, .pwm, .safe, .tnd]) ∧
  (∀ p reg v, Touches (.debugStateWrite p reg v) [.resp, .regs, .tnd])

/-- Networks and the host port: what each command leaves alone. No command of the networks changes a part of the state but those named for it.
The queue and the canonical form stay. -/
def Obligations.NetworkFrames : Prop :=
  (∀ bytes framing, Touches (.auxlCommandFrame bytes framing) [.j3, .regs, .cad]) ∧
  (∀ m, Touches (.auxlRxRead m) [.resp, .regs]) ∧
  (Touches .auxlLinkTimeout [.j3, .regs, .cad]) ∧
  (∀ m, Touches (.auxlAckSend m) [.free, .resp, .j3, .regs, .cad, .net]) ∧
  (Touches .auxlTxDone [.regs]) ∧
  (∀ m k epoch, Touches (.eptalSend m k epoch) [.free, .resp, .j3, .regs, .canRam, .cad, .safe, .net]) ∧
  (∀ n, Touches (.canStartOfFrame n) [.regs, .net]) ∧
  (∀ n f, Touches (.canFrameReceived n f) [.free, .j3, .regs, .canRam, .cad, .pwm, .safe, .net]) ∧
  (∀ n dly, Touches (.canTxDone n dly) [.j3, .regs, .canRam, .cad, .safe, .net]) ∧
  (∀ n lost err dphase collision counted dly, Touches (.canTxError n lost err dphase collision counted dly) [.j3, .regs, .canRam, .cad,
    .net]) ∧
  (∀ n, Touches (.canBusOff n) [.j3, .regs, .canRam, .cad, .net]) ∧
  (∀ m n, Touches (.canRecover m n) [.free, .resp, .j3, .regs, .cad]) ∧
  (∀ n, Touches (.canRecoveryDone n) [.j3, .regs, .cad, .net]) ∧
  (∀ m n k epoch, Touches (.canCommit m n k epoch) [.free, .resp, .j3, .regs, .canRam, .cad, .net]) ∧
  (∀ m n k won, Touches (.canCancel m n k won) [.free, .resp, .j3, .regs, .canRam, .cad, .net]) ∧
  (∀ m n k, Touches (.canLock m n k) [.free, .resp, .j3, .regs, .canRam, .cad]) ∧
  (∀ m n k, Touches (.canRelease m n k) [.free, .resp, .j3, .regs, .canRam, .cad, .net]) ∧
  (∀ m n k v receiving, Touches (.canBufferConfig m n k v receiving) [.free, .resp, .j3, .regs, .canRam, .cad]) ∧
  (∀ n, Touches (.canDominantTimeout n) [.net]) ∧
  (∀ n bytes fcsOk ecc, Touches (.ethFrameReceived n bytes fcsOk ecc) [.free, .resp, .j3, .regs, .bytes, .cad, .pwm, .safe, .net]) ∧
  (∀ m n ecc, Touches (.ethTxKick m n ecc) [.free, .resp, .j3, .regs, .bytes, .cad, .pwm, .safe, .net]) ∧
  (∀ n ecc, Touches (.ethTxDone n ecc) [.free, .resp, .j3, .regs, .bytes, .cad, .pwm, .safe, .net]) ∧
  (∀ n up sqi, Touches (.ethLinkChange n up sqi) [.j3, .regs, .cad, .safe, .net]) ∧
  (∀ f pend tag addr, Touches (.hspRead f pend tag addr) [.free, .resp, .j3, .regs, .bytes, .cad, .eng, .sens, .pwm, .safe, .net]) ∧
  (∀ f pend tag addr v, Touches (.hspWrite f pend tag addr v) [.clock, .free, .resp, .j3, .regs, .live, .staged, .bytes, .engineMem,
    .canRam, .cad, .eng, .sens, .pwm, .safe, .pos, .trac, .conv, .act, .drl, .tnd, .net, .rcd, .pwr, .sec]) ∧
  (∀ f pend tag, Touches (.hspNop f pend tag) [.free, .j3, .regs, .cad, .net]) ∧
  (∀ tag, Touches (.hspTimeout tag) [.free, .j3, .regs, .cad, .net]) ∧
  (∀ n res err dphase eight, Touches (.canReceiveError n res err dphase eight) [.j3, .regs, .canRam, .cad, .net])

/-- Supply, bring-up, roles, recorder, thermal and bus: what each command leaves alone. No command of the module's management changes a part
of the state but those named for it. The queue and the canonical form stay. -/
def Obligations.ModuleFrames : Prop :=
  (∀ dies, Touches (.powerOnReset dies) [.clock, .resp, .j3, .regs, .live, .staged, .bytes, .engineMem, .canRam, .cad, .eng, .sens,
    .pwm, .safe, .pos, .trac, .conv, .act, .drl, .tnd, .net, .rcd, .pwr, .sec]) ∧
  (∀ ctlOk fails, Touches (.resetRelease ctlOk fails) [.free, .j3, .regs, .bytes, .cad, .rcd, .sec]) ∧
  (Touches .wake [.regs]) ∧
  (∀ m key, Touches (.warmReset m key) [.clock, .free, .resp, .j3, .regs, .live, .staged, .bytes, .engineMem, .canRam, .cad, .eng,
    .sens, .pwm, .safe, .pos, .trac, .conv, .act, .drl, .tnd, .net, .rcd, .pwr, .sec]) ∧
  (∀ m addr width v, Touches (.registerWrite m addr width v) [.clock, .free, .resp, .j3, .regs, .live, .staged, .bytes, .engineMem,
    .canRam, .cad, .eng, .sens, .pwm, .safe, .pos, .trac, .conv, .act, .drl, .tnd, .net, .rcd, .pwr, .sec]) ∧
  (∀ m addr wr took, Touches (.accessTimeout m addr wr took) [.clock, .free, .resp, .j3, .regs, .live, .staged, .bytes, .engineMem,
    .canRam, .cad, .eng, .sens, .pwm, .safe, .pos, .trac, .conv, .act, .drl, .tnd, .net, .rcd, .pwr, .sec]) ∧
  (∀ m page v, Touches (.pageSrst m page v) [.free, .resp, .j3, .regs, .bytes, .canRam, .cad, .sens, .pwm, .safe, .pos, .trac, .conv,
    .act, .drl, .net]) ∧
  (∀ m page v, Touches (.pageLockWrite m page v) [.free, .resp, .j3, .regs, .cad]) ∧
  (∀ m page v, Touches (.pageCommit m page v) [.free, .resp, .j3, .regs, .cad]) ∧
  (∀ m page v, Touches (.evtSetWrite m page v) [.free, .resp, .j3, .regs, .bytes, .canRam, .cad, .sens, .pwm, .safe, .pos, .trac,
    .conv, .act, .drl, .net]) ∧
  (∀ m addr v, Touches (.stagedWrite m addr v) [.clock, .free, .resp, .j3, .regs, .live, .staged, .bytes, .engineMem, .canRam, .cad,
    .eng, .sens, .pwm, .safe, .pos, .trac, .conv, .act, .drl, .tnd, .net, .rcd, .pwr, .sec]) ∧
  (∀ m addr bytes ecc, Touches (.sramRead m addr bytes ecc) [.free, .resp, .j3, .regs, .bytes, .cad, .eng, .sens, .pwm, .safe]) ∧
  (∀ m addr bytes v, Touches (.memoryWrite m addr bytes v) [.clock, .free, .resp, .j3, .regs, .live, .staged, .bytes, .engineMem,
    .canRam, .cad, .eng, .sens, .pwm, .safe, .pos, .trac, .conv, .act, .drl, .tnd, .net, .rcd, .pwr, .sec]) ∧
  (∀ m addr bytes, Touches (.norWindowRead m addr bytes) [.resp, .j3, .regs, .bytes, .cad, .eng, .sens, .pwm, .safe]) ∧
  (Touches .pfWarnFalling [.free, .j3, .regs, .bytes, .cad, .rcd]) ∧
  (Touches .pfWarnCleared [.regs]) ∧
  (Touches .uvOff [.free, .j3, .regs, .bytes, .cad, .eng, .pwm, .safe, .net, .rcd]) ∧
  (Touches .pfFlushEnd [.j3, .regs, .bytes, .cad, .rcd]) ∧
  (Touches .flushRestart [.clock, .resp, .j3, .regs, .live, .staged, .bytes, .engineMem, .canRam, .cad, .eng, .sens, .pwm, .safe, .pos,
    .trac, .conv, .act, .drl, .tnd, .net, .rcd, .pwr, .sec]) ∧
  (∀ written, Touches (.holdupCutoff written) [.clock, .resp, .j3, .regs, .live, .staged, .bytes, .engineMem, .canRam, .cad, .eng,
    .sens, .pwm, .safe, .pos, .trac, .conv, .act, .drl, .tnd, .net, .rcd, .pwr, .sec]) ∧
  (Touches .vlvHigh [.free, .j3, .regs, .cad]) ∧
  (Touches .holdupCharged [.regs]) ∧
  (∀ cap, Touches (.holdupMeasured cap) [.free, .j3, .regs, .cad]) ∧
  (Touches .backupFail [.free, .j3, .regs, .cad, .pwr]) ∧
  (∀ avg, Touches (.gatePwrHigh avg) [.free, .j3, .regs, .cad, .pwr]) ∧
  (Touches .gateOverload [.free, .j3, .regs, .cad, .pwm, .safe, .pwr]) ∧
  (∀ k, Touches (.sensOc k) [.free, .j3, .regs, .cad]) ∧
  (Touches .x2Attach [.free, .j3, .regs, .cad, .pwr]) ∧
  (Touches .x1LoopOpen [.free, .j3, .regs, .bytes, .cad, .pwm, .safe, .rcd, .pwr]) ∧
  (Touches .x2LoopOpen [.free, .j3, .regs, .cad, .pwm, .safe, .pos, .pwr]) ∧
  (∀ m x2, Touches (.detachRequest m x2) [.free, .resp, .j3, .regs, .bytes, .cad, .safe, .rcd]) ∧
  (Touches .detachReady [.free, .j3, .regs, .cad, .safe, .net, .pwr]) ∧
  (∀ m, Touches (.detachCancel m) [.free, .resp, .j3, .regs, .cad, .safe, .pwr]) ∧
  (Touches .detachTimeout [.j3, .regs, .cad, .safe, .pwr]) ∧
  (∀ codes, Touches (.conversionEnd codes) [.j3, .regs, .cad, .sens, .pos]) ∧
  (∀ src ecc, Touches (.windowAverageDelivery src ecc) [.free, .j3, .regs, .engineMem, .cad, .eng, .sens, .pwm, .safe, .pos, .trac,
    .conv]) ∧
  (∀ code0 code1, Touches (.hkSlotEnd code0 code1) [.free, .j3, .regs, .cad, .eng, .sens, .conv, .rcd]) ∧
  (∀ g, Touches (.carrierPeriodStart g) [.free, .j3, .regs, .cad, .sens, .pwm, .conv]) ∧
  (∀ g, Touches (.armingComplete g) [.free, .j3, .regs, .cad, .pwm, .trac, .act]) ∧
  (∀ g, Touches (.disarmTakeEffect g) [.j3, .regs, .cad, .pwm, .safe]) ∧
  (∀ k sel v meas, Touches (.statusFrame k sel v meas) [.j3, .regs, .cad, .pwm, .safe]) ∧
  (∀ cfgValid, Touches (.romStageDone cfgValid) [.j3, .regs, .live, .bytes, .cad, .eng, .pwm, .safe, .rcd, .sec]) ∧
  (Touches .earlyServiceReady [.free, .j3, .regs, .bytes, .cad, .pwm, .act, .rcd]) ∧
  (∀ slot ecdsa lms, Touches (.hallmarkSlotVerified slot ecdsa lms) [.j3, .regs, .bytes, .cad, .sec]) ∧
  (Touches .fullServiceStart [.j3, .regs, .bytes, .cad, .rcd, .sec]) ∧
  (Touches .earlyMaxExpiry [.j3, .regs, .bytes, .cad, .eng, .pwm, .safe, .rcd]) ∧
  (∀ mac, Touches (.earlyOverspeed mac) [.j3, .regs, .cad, .eng, .pwm, .safe]) ∧
  (∀ mac, Touches (.earlyDemandTimeout mac) [.free, .resp, .j3, .regs, .cad, .drl]) ∧
  (∀ m, Touches (.imageConfirm m) [.free, .resp, .j3, .regs, .bytes, .cad, .sec]) ∧
  (∀ m key, Touches (.rollbackAdvance m key) [.free, .resp, .j3, .regs, .cad]) ∧
  (∀ m slot, Touches (.slotOpen m slot) [.free, .resp, .j3, .regs, .cad]) ∧
  (∀ m, Touches (.slotClose m) [.free, .resp, .j3, .regs, .cad]) ∧
  (∀ m slot, Touches (.slotActivate m slot) [.free, .resp, .j3, .regs, .cad, .sec]) ∧
  (∀ ecdsa lms, Touches (.activationDone ecdsa lms) [.j3, .regs, .bytes, .cad, .sec]) ∧
  (∀ m, Touches (.attestationRequest m) [.free, .resp, .j3, .regs, .cad, .sec]) ∧
  (Touches .attestationDone [.free, .j3, .regs, .bytes, .cad]) ∧
  (∀ m, Touches (.nonceDraw m) [.free, .resp, .j3, .regs, .cad, .sec]) ∧
  (∀ m, Touches (.statementSubmit m) [.free, .resp, .j3, .regs, .cad]) ∧
  (Touches .authStatement [.j3, .regs, .cad, .pwm, .safe, .tnd, .sec]) ∧
  (Touches .changeStatement [.j3, .regs, .staged, .cad, .sec]) ∧
  (Touches .lifecycleStatement [.j3, .regs, .cad, .sec]) ∧
  (Touches .clearStatement [.j3, .regs, .bytes, .cad, .rcd, .sec]) ∧
  (Touches .revokeStatement [.j3, .regs, .cad, .sec]) ∧
  (Touches .lifecycleHoldExpiry [.regs, .sec]) ∧
  (∀ m, Touches (.authLogout m) [.free, .resp, .j3, .regs, .cad, .pwm, .safe, .tnd]) ∧
  (Touches .authSessionExpiry [.j3, .regs, .cad, .pwm, .safe, .tnd]) ∧
  (∀ m pages, Touches (.changeOpen m pages) [.free, .resp, .j3, .regs, .cad]) ∧
  (∀ m, Touches (.changeSeal m) [.free, .resp, .j3, .regs, .cad, .sec]) ∧
  (Touches .changeDigestDone [.regs, .sec]) ∧
  (∀ ok, Touches (.changeCommit ok) [.j3, .regs, .staged, .bytes, .cad, .sec]) ∧
  (Touches .changeWindowExpiry [.j3, .regs, .staged, .cad, .sec]) ∧
  (∀ m, Touches (.changeAbort m) [.free, .resp, .j3, .regs, .staged, .cad, .sec]) ∧
  (∀ m, Touches (.debugOpen m) [.free, .resp, .j3, .regs, .cad]) ∧
  (∀ m, Touches (.debugClose m) [.free, .resp, .j3, .regs, .cad, .pwm, .safe, .tnd]) ∧
  (∀ m p op, Touches (.debugAccess m p op) [.clock, .free, .resp, .j3, .regs, .live, .staged, .bytes, .engineMem, .canRam, .cad, .eng,
    .sens, .pwm, .safe, .pos, .trac, .conv, .act, .drl, .tnd, .net, .rcd, .pwr, .sec]) ∧
  (Touches .recordCapture [.j3, .regs, .bytes, .rcd]) ∧
  (Touches .ringRoomRecord [.regs, .bytes, .rcd]) ∧
  (Touches .rateWindowEnd [.regs, .bytes, .rcd]) ∧
  (Touches .startFlush [.j3, .regs, .bytes, .cad, .rcd]) ∧
  (Touches .flushPeriodic [.j3, .regs, .bytes, .cad, .rcd]) ∧
  (Touches .flushBacklog [.j3, .regs, .bytes, .cad, .rcd]) ∧
  (∀ m, Touches (.flushRequest m) [.free, .resp, .j3, .regs, .bytes, .cad, .rcd]) ∧
  (∀ ok, Touches (.flushDone ok) [.j3, .regs, .bytes, .cad, .safe, .net, .rcd, .pwr]) ∧
  (Touches .clearEraseDone [.regs, .bytes]) ∧
  (∀ m, Touches (.norProgramPage m) [.free, .resp, .j3, .regs, .cad, .rcd]) ∧
  (∀ m, Touches (.norEraseSector m) [.free, .resp, .j3, .regs, .cad, .rcd]) ∧
  (∀ m, Touches (.norResetDie m) [.free, .resp, .j3, .regs, .cad, .rcd]) ∧
  (∀ page, Touches (.norOpDone page) [.regs, .bytes, .rcd]) ∧
  (Touches .norOpTimeout [.j3, .regs, .bytes, .cad, .rcd]) ∧
  (∀ m k v, Touches (.derateChannelWrite m k v) [.free, .resp, .j3, .regs, .cad, .eng]) ∧
  (∀ m target alg, Touches (.bistRequest m target alg) [.free, .resp, .j3, .regs, .bytes, .cad, .rcd]) ∧
  (∀ fails, Touches (.bistDone fails) [.free, .j3, .regs, .bytes, .cad, .rcd]) ∧
  (∀ m, Touches (.bistAbort m) [.free, .resp, .j3, .regs, .bytes, .cad, .rcd]) ∧
  (∀ m, Touches (.bistRepair m) [.free, .resp, .j3, .regs, .cad, .rcd]) ∧
  (∀ active, Touches (.backupSupplyChange active) [.regs, .pwr])

/-- A step runs the command at the front of the queue. With a command at the front of the queue, a step answers what that command's meaning
answers on the state with the rest of the queue; the queue itself is the model's (log entry 1). -/
def Obligations.StepRunsFront : Prop :=
  ∀ (s : State) c rest, s.pending = c :: rest → step s = exec c { s with pending := rest }

/-- With no command waiting one clock passes. On an empty queue a step lets one system clock pass: what the clock does of itself happens, and
the clock count is one higher. That this is what an empty queue means is the model's choice (log entry 1). -/
def Obligations.EmptyQueueIdles : Prop :=
  ∀ s : State, s.pending = [] → ∃ t, step s = .next t ∧ t = s.idle ∧ t.now = s.now + 1 ∧ t.pending = []

/-- The state after reset is canonical. Every store of the state after reset is in its canonical form, the J3 queue is empty, and no command
waits. -/
def Obligations.ResetCanonical : Prop :=
  State.reset.Canonical ∧ State.reset.pending = [] ∧ State.reset.j3 = []

/-- Every step keeps the state canonical. From every canonical state, a step that answers a next state answers a canonical one: memories,
registers and staged copies keep the form in which equal contents are equal data, whatever command runs, and the J3 queue never holds more
posts than its 64. -/
def Obligations.StepKeepsCanonical : Prop :=
  ∀ (s : State) t, s.Canonical → step s = .next t → t.Canonical

/-- Every command answers a next state. No command of the table stops the block: from every state it answers a next state, an error being an
answer like any other, and it leaves the queue of waiting commands as it was. -/
def Obligations.EveryCommandAnswers : Prop :=
  ∀ c (s : State), ∃ t, exec c s = .next t ∧ t.pending = s.pending

/-- An issued engine instruction stays within its lane, its run and its context. Of each engine instruction that a lane issues: its run goes
on at the next index with its program, its context and its input snapshot as they were; no other lane and no other context's words change;
of the registers only the context's flags and the page's event flags do; and no group, fault line or memory changes. -/
def Obligations.IssuedInstructionsStayInTheirRun : Prop :=
  ∀ l, ∀ e ∈ engineTable l, ∀ (s : State) r i, s.Issues l e.2 r i → ∃ t u, exec e.1 s = .next t ∧ (t.lane l).run = some u ∧
    u.idx = r.idx + 1 ∧ u.ctx = r.ctx ∧ u.base = r.base ∧ u.len = r.len ∧ u.snap = r.snap ∧ u.consts = r.consts ∧ u.start = r.start ∧
    (∀ k, k ≠ l.val → t.lane k = s.lane k) ∧ (∀ c, c ≠ r.ctx → t.ctx c = s.ctx c) ∧
    (∀ a, a ≠ R.LPX_STAT r.ctx → a ≠ PageKind.lpx.page (r.ctx / 16) + 0x10 → t.rd a = s.rd a) ∧
    Within [Part.free, .regs, .eng].contains s t

/-- An engine instruction whose predicate is false writes nothing. A defined instruction, read without a memory error and not held at the
tick, whose predicate is false only goes by: the run's index advances, and it writes no word, changes no flag and leaves PF as it was. -/
def Obligations.PredicateFalseOnlyGoesBy : Prop :=
  ∀ l, ∀ e ∈ engineTable l, ∀ (s : State) r i, (s.lane l).run = some r → r.idx < r.len → i = s.insAt (r.base + r.idx) → i.op = e.2 →
    s.insErr i = 0 → s.eng.bad = [] → s.tickHeld r = false → (i.pred = 1 ∧ r.pf = false) ∨ (i.pred = 2 ∧ r.pf = true) →
    ∃ t, exec e.1 s = .next t ∧ (t.lane l).run = some { r with idx := r.idx + 1, reissued := false } ∧ t.regs = s.regs ∧
      (∀ k, k ≠ l.val → t.lane k = s.lane k) ∧ (∀ c, t.ctx c = s.ctx c) ∧ Within [Part.eng].contains s t

/-- Memory changes only where it is written. A write to SRAM changes no byte outside those it names; a page operation on NOR, finished or
timed out, changes no byte outside its page or sector; a write answered with an error changes none. -/
def Obligations.StoredBytes : Prop :=
  (∀ (s : State) m (a : Word) (n : Fin 3) v t, inSram a.toNat = true → exec (.memoryWrite m a n v) s = .next t →
    ∀ b, b < a.toNat ∨ a.toNat + 2 ^ n.val ≤ b → t.byte b = s.byte b) ∧
  (∀ (s : State) m (a : Word) (n : Fin 3) v t, inRom a.toNat = true ∨ inNor a.toNat = true → exec (.memoryWrite m a n v) s = .next t →
    s.Refused t .prot) ∧
  (∀ (s : State) p t a, s.rcd.nor = some (0, a) → exec (.norOpDone p) s = .next t → ∀ b, b < a ∨ a + 256 ≤ b → t.byte b = s.byte b) ∧
  (∀ (s : State) p t a, s.rcd.nor = some (1, a) → exec (.norOpDone p) s = .next t → ∀ b, b < a ∨ a + 65536 ≤ b → t.byte b = s.byte b) ∧
  (∀ (s : State) t op a, s.rcd.nor = some (op, a) → exec .norOpTimeout s = .next t → ∀ b, b < a ∨ a + 65536 ≤ b → t.byte b = s.byte b)

/-- A stale mailbox commit is discarded. A commit whose EPOCH is not the context's is counted in STALE of the context's page and discarded:
with no commit pending the staging bank reverts to the active values, and a pending commit and its bank are kept. -/
def Obligations.StaleMailboxCommit : Prop :=
  (∀ (s : State) m (c : Fin 160) (e : Fin 256), isChecker m = false → rights m = s.mbxWriter c → s.drlHolds c 0 = false →
    exec (.mailboxCommit m c e) s = .next (s.mbxCommit c e).okResp) ∧
  (∀ (s : State) (c : Fin 160) (e : Fin 256), e.val ≠ s.fld (R.LPX_CFG_EPOCH c) → ∃ t, t = s.mbxCommit c e ∧
    t.fld (hdr .lpx (c / 16) 0x2C 16 16) = min (s.fld (hdr .lpx (c / 16) 0x2C 16 16) + 1) 0xFFFF ∧
    t.fld (R.LPX_MBX_CMT_PEND c) = s.fld (R.LPX_MBX_CMT_PEND c) ∧
    ∀ k : Fin 8, t.rd (R.LPX_ACT c k) = s.rd (R.LPX_ACT c k) ∧
      t.rd (R.LPX_MBX c k) = if s.on (R.LPX_MBX_CMT_PEND c) = true then s.rd (R.LPX_MBX c k) else s.rd (R.LPX_ACT c k))

/-- Registers are aligned words. Every register of every page lies at an aligned offset; a narrow or unaligned access to a page is answered
with kind WIDTH, read or write, and nothing is written. -/
def Obligations.NarrowAndUnaligned : Prop :=
  (∀ k n, ∀ r ∈ pageRows k n, ∀ o, (r.locate o).isSome = true → o % 4 = 0) ∧
  (∀ (s : State) m (a : Word) wd v k n, pageAt a.toNat = some (k, n) → wd = .narrow ∨ a.toNat % 4 ≠ 0 →
    ∃ t, exec (.registerWrite m a wd v) s = .next t ∧ s.Refused t .width) ∧
  (∀ (s : State) m (a : Word) w k n, pageAt a.toNat = some (k, n) → w ≠ 4 ∨ a.toNat % 4 ≠ 0 →
    s.Refused (s.busRead m a.toNat w) .width)

/-- A planned detach is denied while a group is armed, or of an absent X2. A detach request in SERVICE is denied, with its cause in DENY and
STATE unchanged, while any group is armed, or for X2 while it is not present; otherwise the detach of the selected scope begins. -/
def Obligations.DetachDenied : Prop :=
  (∀ (s : State) m b, s.opens m .pwr 0 = true → s.fld R.PWR_DETACH_STAT_STATE = 0 → s.anyArmed = true → Answers (.detachRequest m b) s fun t =>
    t.resp = ⟨0, 0⟩ ∧ t.fld R.PWR_DETACH_STAT_STATE = 0 ∧ t.fld R.PWR_DETACH_STAT_DENY = 1) ∧
  (∀ (s : State) m, s.opens m .pwr 0 = true → s.fld R.PWR_DETACH_STAT_STATE = 0 → s.anyArmed = false → s.on R.PWR_STAT_X2_PRESENT = false →
    Answers (.detachRequest m true) s fun t =>
    t.resp = ⟨0, 0⟩ ∧ t.fld R.PWR_DETACH_STAT_STATE = 0 ∧ t.fld R.PWR_DETACH_STAT_DENY = 2) ∧
  (∀ (s : State) m b, s.opens m .pwr 0 = true → s.fld R.PWR_DETACH_STAT_STATE = 0 → s.anyArmed = false → b = true → s.on R.PWR_STAT_X2_PRESENT = true →
    Answers (.detachRequest m b) s fun t => t.resp = ⟨0, 0⟩ ∧ t.fld R.PWR_DETACH_STAT_STATE = 1 ∧ t.fld R.PWR_DETACH_STAT_SCOPE_ACT = 1) ∧
  (∀ (s : State) m, s.opens m .pwr 0 = true → s.fld R.PWR_DETACH_STAT_STATE = 0 → s.anyArmed = false →
    Answers (.detachRequest m false) s fun t => t.resp = ⟨0, 0⟩ ∧ t.fld R.PWR_DETACH_STAT_STATE = 1 ∧ t.fld R.PWR_DETACH_STAT_SCOPE_ACT = 0)

/-- A full J3 queue discards and later reports. A post that meets a full J3 queue is discarded and counted in CAD_J3_LOST, and neither the
queue nor the recorder nor its sequence takes it; once there is room, event 0x1011 at the queue's own location carries the count of posts
lost. -/
def Obligations.J3Full : Prop :=
  (∀ (s : State) code l d, j3Depth ≤ s.j3.length → ∃ t, t = s.post code l d ∧ t.j3 = s.j3 ∧
    t.fld R.CAD_J3_LOST_COUNT = min (s.fld R.CAD_J3_LOST_COUNT + 1) 0xFFFF ∧ t.cad.lostSince = s.cad.lostSince + 1 ∧ t.rcd = s.rcd ∧
    t.fld R.REC_SEQ_SEQ = s.fld R.REC_SEQ_SEQ) ∧
  (∀ s : State, s.cad.lostSince ≠ 0 → s.j3.length < j3Depth → s.on R.BST_STAT_BUSY = false → Answers .j3LostReport s fun t =>
    t.j3 = s.j3 ++ [⟨0x1011, loc 0x0 0x0 0x7 0x03 0x3F, s.cad.lostSince % 2 ^ 32, s.now⟩] ∧ t.cad.lostSince = 0)

/-- A latched trip is cleared only while its leg's groups are off. The GHD page's agent clears a latched DSAT_LATCH or PWR_LATCH by writing 1
while no group with the channel's leg is ARMING, ARMED or SAFE; while one is, the write is answered with STATE and the latches stay. -/
def Obligations.TripLatchRefused : Prop :=
  (∀ (s : State) m (c : Chan) d p, isHv (chanNo c) = true → s.isAgent m .ghd (chanNo c / 4) = true → s.legActive (chanLeg (chanNo c)) = true →
    d = true ∨ p = true → Answers (.tripLatchClear m c d p) s fun t => t.resp.kind = ErrKind.state.code ∧
    t.fld (ghd R.GHD_STAT_DSAT_LATCH (chanNo c)) = s.fld (ghd R.GHD_STAT_DSAT_LATCH (chanNo c)) ∧
    t.fld (ghd R.GHD_STAT_PWR_LATCH (chanNo c)) = s.fld (ghd R.GHD_STAT_PWR_LATCH (chanNo c))) ∧
  (∀ (s : State) m (c : Chan) d p, isHv (chanNo c) = true → s.isAgent m .ghd (chanNo c / 4) = true → s.legActive (chanLeg (chanNo c)) = false →
    s.remoteDown .ghd (chanNo c / 4) = false → Answers (.tripLatchClear m c d p) s fun t => t.resp.kind = 0 ∧
    (d = true → t.fld (ghd R.GHD_STAT_DSAT_LATCH (chanNo c)) = 0) ∧ (p = true → t.fld (ghd R.GHD_STAT_PWR_LATCH (chanNo c)) = 0))

/-- What a CAN commit does. A stale commit is discarded and counted; a format that the rule forbids is answered with RANGE; otherwise the
shadow becomes active with the transmit flags clear and PEND set, or, while the buffer's frame is on the bus, at the end of that frame. -/
def Obligations.CanCommit : Prop :=
  (∀ (s : State) m (n : Fin 4) (k : Fin 128) (e : Fin 256), s.opens m .can n = true → s.canStream n k = none → s.on (R.CAN_BUF_CFG_DIR n k) = true →
    s.canEpoch n k ≠ e.val → Answers (.canCommit m n k e) s fun t => t.resp = ⟨0, 0⟩ ∧ t.canAct = s.canAct ∧ t.canShadow = s.canShadow ∧
    t.fld (hdr .can n 0x2C 16 16) = min (s.fld (hdr .can n 0x2C 16 16) + 1) 0xFFFF) ∧
  (∀ (s : State) m (n : Fin 4) (k : Fin 128) (e : Fin 256), s.opens m .can n = true → s.canStream n k = none → s.on (R.CAN_BUF_CFG_DIR n k) = true →
    s.canEpoch n k = e.val → e.val ≠ 0 →
    (bitAt (s.canS n k 0).toNat 30 = true ∧ bitAt (s.canS n k 1).toNat 4 = true) ∨
    (bitAt (s.canS n k 1).toNat 4 = true ∧ s.on (R.CAN_CTL_FD_EN n) = false) ∨
    (bitAt (s.canS n k 1).toNat 5 = true ∧ bitAt (s.canS n k 1).toNat 4 = false) →
    ∃ t, exec (.canCommit m n k e) s = .next t ∧ s.Refused t .range) ∧
  (∀ (s : State) (n : Fin 4) (k : Fin 128), s.on (R.CAN_BUF_CFG_DIR n k) = true → (s.can n).bus ≠ some k.val → ∃ t, t = s.canAccept n k ∧
    (∀ j : Fin 16, t.canA n k (2 + j) = s.canS n k (2 + j)) ∧
    bitAt (t.canA n k 0).toNat 30 = bitAt (s.canS n k 0).toNat 30 ∧ bitAt (t.canA n k 1).toNat 4 = bitAt (s.canS n k 1).toNat 4 ∧
    bitAt (t.canA n k 1).toNat 5 = bitAt (s.canS n k 1).toNat 5 ∧ getBits (t.canA n k 1) 0 4 = getBits (s.canS n k 1) 0 4 ∧
    t.canBit n k 16 = true ∧ t.canBit n k 17 = false ∧ t.canBit n k 18 = false ∧ t.canBit n k 19 = false ∧ t.canBit n k 20 = false) ∧
  (∀ (s : State) (n : Fin 4) (k : Fin 128), (s.can n).bus = some k.val → ∃ t, t = s.canAccept n k ∧ t.canAct = s.canAct ∧ k.val ∈ (t.can n).commits)

/-- A write without the page's rights changes nothing on it. A word written to a register of a page outside the engine's contexts by a party
that neither owns the page, nor is MC with its lock open, nor is its agent, is answered with an error, and no register but those that
report the error changes. -/
def Obligations.OwnershipRefusal : Prop :=
  ∀ (s : State) m (a v : Word) k n, pageAt a.toNat = some (k, n) → a.toNat % 4 = 0 → k ≠ .lpx → s.mayWrite m k n = false → s.isAgent m k n = false →
    inHeader k a.toNat = false → ∃ t, exec (.registerWrite m a .word v) s = .next t ∧ s.Refused t .owner

/-- PAGE_LOCK opens only to MC with its key. A write of PAGE_LOCK by another party is answered with OWNER; MC's write of OPEN = 1 with another
key than 0x5A with KEY; with the key it opens the lock, and with OPEN = 0 it closes it; no lock is open after a reset. -/
def Obligations.PageLock : Prop :=
  (∀ (s : State) m (a v : Word) k n, pageAt a.toNat = some (k, n) → rights m ≠ .mc → ∃ t, exec (.pageLockWrite m a v) s = .next t ∧ s.Refused t .owner) ∧
  (∀ (s : State) (a v : Word) k n, pageAt a.toNat = some (k, n) → getBits v 0 1 = 1 → getBits v 8 8 ≠ 0x5A →
    ∃ t, exec (.pageLockWrite (.core .mc) a v) s = .next t ∧ s.Refused t .key) ∧
  (∀ (s : State) (a v : Word) k n, pageAt a.toNat = some (k, n) → s.remoteDown k n = false → getBits v 0 1 = 1 → getBits v 8 8 = 0x5A →
    Answers (.pageLockWrite (.core .mc) a v) s fun t => t.resp = ⟨0, 0⟩ ∧ t.lockOpen k n = true) ∧
  (∀ (s : State) (a v : Word) k n, pageAt a.toNat = some (k, n) → s.remoteDown k n = false → getBits v 0 1 = 0 →
    Answers (.pageLockWrite (.core .mc) a v) s fun t => t.resp = ⟨0, 0⟩ ∧ t.lockOpen k n = false) ∧
  (∀ (s : State) d k n, n < k.count → Answers (.powerOnReset d) s fun t => t.lockOpen k n = false)

/-- Each start shows exactly its cause. A power-on reset, the restart at the end of flush mode, a warm reset and a start from WAKE each leave
SYS_RST_CAUSE with the one bit of that cause; a warm reset with a group armed, or with another key than 0xC3, is an error and resets
nothing. -/
def Obligations.ResetCause : Prop :=
  (∀ (s : State) d, Answers (.powerOnReset d) s fun t => t.rd R.SYS_RST_CAUSE = 1) ∧
  (∀ s : State, s.on R.PWR_STAT_ON_HOLDUP = true → Answers .flushRestart s fun t => t.rd R.SYS_RST_CAUSE = 2) ∧
  (∀ (s : State) m, s.opens m .sys 0 = true → s.anyArmed = false → Answers (.warmReset m 0xC3) s fun t => t.rd R.SYS_RST_CAUSE = 4) ∧
  (∀ s : State, s.sec.released = false → s.por = false → Answers .wake s fun t => t.rd R.SYS_RST_CAUSE = 8) ∧
  (∀ (s : State) m, s.opens m .sys 0 = true → s.anyArmed = true → ∃ t, exec (.warmReset m 0xC3) s = .next t ∧ s.Refused t .state) ∧
  (∀ (s : State) m (k : Fin 256), s.opens m .sys 0 = true → s.anyArmed = false → k.val ≠ 0xC3 →
    ∃ t, exec (.warmReset m k) s = .next t ∧ s.Refused t .key)

/-- What reset leaves. After reset the Cadence period in force is 1000 clocks, SYS_RST_CAUSE shows a power-on reset, the part is 0x7160 at
stepping 1, no group is active, every context is idle and no fault line is pending; the life cycle PROVISIONED is the model's choice (log
entry 3). -/
def Obligations.ResetValues : Prop :=
  State.reset.fld R.CAD_PERIOD_ACT_PERIOD = 1000 ∧ State.reset.rd R.SYS_RST_CAUSE = 1 ∧ State.reset.fld R.SYS_DEV_ID_PART = 0x7160 ∧
  State.reset.fld R.SYS_DEV_ID_STEPPING = 1 ∧ (∀ g : Fin 12, State.reset.gstate g = 0) ∧ (∀ c : Fin 160, State.reset.cstate c = 0) ∧
  (∀ k : Fin 4, State.reset.rd (R.SAF_PEND k) = 0) ∧ State.reset.fld R.SEC_LC_STATE = 2

/-- A write to core state that meets a full replay queue is turned away. While a pair is halted and its replay queue holds 32 writes, a
further write to core state is answered with an error of kind BUSY, and nothing else changes. -/
def Obligations.ReplayQueueFull : Prop :=
  ∀ s (p : Fin 2) (g v : Word), s.on (R.TND_STAT_HALTED p) = true → 32 ≤ (s.tndRec p).replay.length →
    exec (.debugStateWrite p g v) s = .next { s with resp := ⟨ErrKind.busy.code, 0⟩ }
end

