-- ==== Sys2Proof/Laws/Dispatch.lean ====
section
/-!
SUPPORT. What `exec` is on each command: one equation for each constructor, so that no proof opens the dispatch.
-/
namespace Sys2Proof.Machine

theorem exec_powerOnReset dies (s : State) : exec (.powerOnReset dies) s = execPowerOnReset dies s := rfl
theorem exec_resetRelease ctlOk fails (s : State) : exec (.resetRelease ctlOk fails) s = execResetRelease ctlOk fails s := rfl
theorem exec_wake (s : State) : exec .wake s = execWake s := rfl
theorem exec_warmReset m key (s : State) : exec (.warmReset m key) s = execWarmReset m key s := rfl
theorem exec_tickBoundary (s : State) : exec .tickBoundary s = execTickBoundary s := rfl
theorem exec_tickMismatch (s : State) : exec .tickMismatch s = execTickMismatch s := rfl
theorem exec_admissionRequest m (s : State) : exec (.admissionRequest m) s = execAdmissionRequest m s := rfl
theorem exec_admissionCheckDone (s : State) : exec .admissionCheckDone s = execAdmissionCheckDone s := rfl
theorem exec_tickRunDispatch lane ecc (s : State) : exec (.tickRunDispatch lane ecc) s = execTickRunDispatch lane ecc s := rfl
theorem exec_runComplete lane (s : State) : exec (.runComplete lane) s = execRunComplete lane s := rfl
theorem exec_runDeadlineAbort lane crit (s : State) : exec (.runDeadlineAbort lane crit) s = execRunDeadlineAbort lane crit s := rfl
theorem exec_contextDropFault c (s : State) : exec (.contextDropFault c) s = execContextDropFault c s := rfl
theorem exec_mailboxWordWrite m c k v (s : State) : exec (.mailboxWordWrite m c k v) s = execMailboxWordWrite m c k v s := rfl
theorem exec_mailboxCommit m c epoch (s : State) : exec (.mailboxCommit m c epoch) s = execMailboxCommit m c epoch s := rfl
theorem exec_j3LostReport (s : State) : exec .j3LostReport s = execJ3LostReport s := rfl
theorem exec_registerWrite m addr width v (s : State) : exec (.registerWrite m addr width v) s = execRegisterWrite m addr width v s := rfl
theorem exec_accessTimeout m addr wr took (s : State) : exec (.accessTimeout m addr wr took) s = execAccessTimeout m addr wr took s := rfl
theorem exec_pageSrst m page v (s : State) : exec (.pageSrst m page v) s = execPageSrst m page v s := rfl
theorem exec_pageLockWrite m page v (s : State) : exec (.pageLockWrite m page v) s = execPageLockWrite m page v s := rfl
theorem exec_pageCommit m page v (s : State) : exec (.pageCommit m page v) s = execPageCommit m page v s := rfl
theorem exec_evtSetWrite m page v (s : State) : exec (.evtSetWrite m page v) s = execEvtSetWrite m page v s := rfl
theorem exec_stagedWrite m addr v (s : State) : exec (.stagedWrite m addr v) s = execStagedWrite m addr v s := rfl
theorem exec_sramRead m addr bytes ecc (s : State) : exec (.sramRead m addr bytes ecc) s = execSramRead m addr bytes ecc s := rfl
theorem exec_memoryWrite m addr bytes v (s : State) : exec (.memoryWrite m addr bytes v) s = execMemoryWrite m addr bytes v s := rfl
theorem exec_norWindowRead m addr bytes (s : State) : exec (.norWindowRead m addr bytes) s = execNorWindowRead m addr bytes s := rfl
theorem exec_pfWarnFalling (s : State) : exec .pfWarnFalling s = execPfWarnFalling s := rfl
theorem exec_pfWarnCleared (s : State) : exec .pfWarnCleared s = execPfWarnCleared s := rfl
theorem exec_uvOff (s : State) : exec .uvOff s = execUvOff s := rfl
theorem exec_pfFlushEnd (s : State) : exec .pfFlushEnd s = execPfFlushEnd s := rfl
theorem exec_flushRestart (s : State) : exec .flushRestart s = execFlushRestart s := rfl
theorem exec_holdupCutoff written (s : State) : exec (.holdupCutoff written) s = execHoldupCutoff written s := rfl
theorem exec_vlvHigh (s : State) : exec .vlvHigh s = execVlvHigh s := rfl
theorem exec_holdupCharged (s : State) : exec .holdupCharged s = execHoldupCharged s := rfl
theorem exec_holdupMeasured cap (s : State) : exec (.holdupMeasured cap) s = execHoldupMeasured cap s := rfl
theorem exec_backupFail (s : State) : exec .backupFail s = execBackupFail s := rfl
theorem exec_gatePwrHigh avg (s : State) : exec (.gatePwrHigh avg) s = execGatePwrHigh avg s := rfl
theorem exec_gateOverload (s : State) : exec .gateOverload s = execGateOverload s := rfl
theorem exec_sensOc k (s : State) : exec (.sensOc k) s = execSensOc k s := rfl
theorem exec_x2Attach (s : State) : exec .x2Attach s = execX2Attach s := rfl
theorem exec_x1LoopOpen (s : State) : exec .x1LoopOpen s = execX1LoopOpen s := rfl
theorem exec_x2LoopOpen (s : State) : exec .x2LoopOpen s = execX2LoopOpen s := rfl
theorem exec_detachRequest m x2 (s : State) : exec (.detachRequest m x2) s = execDetachRequest m x2 s := rfl
theorem exec_detachReady (s : State) : exec .detachReady s = execDetachReady s := rfl
theorem exec_detachCancel m (s : State) : exec (.detachCancel m) s = execDetachCancel m s := rfl
theorem exec_detachTimeout (s : State) : exec .detachTimeout s = execDetachTimeout s := rfl
theorem exec_reissue lane (s : State) : exec (.reissue lane) s = execReissue lane s := rfl
theorem exec_laneFault lane (s : State) : exec (.laneFault lane) s = execLaneFault lane s := rfl
theorem exec_laneCheck m lane (s : State) : exec (.laneCheck m lane) s = execLaneCheck m lane s := rfl
theorem exec_laneCheckDone lane pass (s : State) : exec (.laneCheckDone lane pass) s = execLaneCheckDone lane pass s := rfl
theorem exec_stateRequest m c req (s : State) : exec (.stateRequest m c req) s = execStateRequest m c req s := rfl
theorem exec_followingErrorTrip c (s : State) : exec (.followingErrorTrip c) s = execFollowingErrorTrip c s := rfl
theorem exec_contextWordWrite m c v (s : State) : exec (.contextWordWrite m c v) s = execContextWordWrite m c v s := rfl
theorem exec_contextWordRead m c (s : State) : exec (.contextWordRead m c) s = execContextWordRead m c s := rfl
theorem exec_engineConstantWrite m k v (s : State) : exec (.engineConstantWrite m k v) s = execEngineConstantWrite m k v s := rfl
theorem exec_programMemoryWrite m k v (s : State) : exec (.programMemoryWrite m k v) s = execProgramMemoryWrite m k v s := rfl
theorem exec_tableMemoryWrite m k v (s : State) : exec (.tableMemoryWrite m k v) s = execTableMemoryWrite m k v s := rfl
theorem exec_validationStart m start len (s : State) : exec (.validationStart m start len) s = execValidationStart m start len s := rfl
theorem exec_validationDone (s : State) : exec .validationDone s = execValidationDone s := rfl
theorem exec_dutyPortApply lane (s : State) : exec (.dutyPortApply lane) s = execDutyPortApply lane s := rfl
theorem exec_undefinedInstruction lane (s : State) : exec (.undefinedInstruction lane) s = execUndefinedInstruction lane s := rfl
theorem exec_nop lane (s : State) : exec (.nop lane) s = execNop lane s := rfl
theorem exec_mov lane (s : State) : exec (.mov lane) s = execMov lane s := rfl
theorem exec_add lane (s : State) : exec (.add lane) s = execAdd lane s := rfl
theorem exec_sub lane (s : State) : exec (.sub lane) s = execSub lane s := rfl
theorem exec_mul lane (s : State) : exec (.mul lane) s = execMul lane s := rfl
theorem exec_mac lane (s : State) : exec (.mac lane) s = execMac lane s := rfl
theorem exec_msb lane (s : State) : exec (.msb lane) s = execMsb lane s := rfl
theorem exec_neg lane (s : State) : exec (.neg lane) s = execNeg lane s := rfl
theorem exec_abs lane (s : State) : exec (.abs lane) s = execAbs lane s := rfl
theorem exec_min lane (s : State) : exec (.min lane) s = execMin lane s := rfl
theorem exec_max lane (s : State) : exec (.max lane) s = execMax lane s := rfl
theorem exec_clamp lane (s : State) : exec (.clamp lane) s = execClamp lane s := rfl
theorem exec_lerp lane (s : State) : exec (.lerp lane) s = execLerp lane s := rfl
theorem exec_rate lane (s : State) : exec (.rate lane) s = execRate lane s := rfl
theorem exec_wrap lane (s : State) : exec (.wrap lane) s = execWrap lane s := rfl
theorem exec_rcp lane (s : State) : exec (.rcp lane) s = execRcp lane s := rfl
theorem exec_rsq lane (s : State) : exec (.rsq lane) s = execRsq lane s := rfl
theorem exec_div lane (s : State) : exec (.div lane) s = execDiv lane s := rfl
theorem exec_sqrt lane (s : State) : exec (.sqrt lane) s = execSqrt lane s := rfl
theorem exec_hyp lane (s : State) : exec (.hyp lane) s = execHyp lane s := rfl
theorem exec_atan2 lane (s : State) : exec (.atan2 lane) s = execAtan2 lane s := rfl
theorem exec_sincos lane (s : State) : exec (.sincos lane) s = execSincos lane s := rfl
theorem exec_cvti lane (s : State) : exec (.cvti lane) s = execCvti lane s := rfl
theorem exec_cvtf lane (s : State) : exec (.cvtf lane) s = execCvtf lane s := rfl
theorem exec_cmplt lane (s : State) : exec (.cmplt lane) s = execCmplt lane s := rfl
theorem exec_cmple lane (s : State) : exec (.cmple lane) s = execCmple lane s := rfl
theorem exec_cmpeq lane (s : State) : exec (.cmpeq lane) s = execCmpeq lane s := rfl
theorem exec_cmpag lane (s : State) : exec (.cmpag lane) s = execCmpag lane s := rfl
theorem exec_pandlt lane (s : State) : exec (.pandlt lane) s = execPandlt lane s := rfl
theorem exec_porlt lane (s : State) : exec (.porlt lane) s = execPorlt lane s := rfl
theorem exec_sel lane (s : State) : exec (.sel lane) s = execSel lane s := rfl
theorem exec_btst lane (s : State) : exec (.btst lane) s = execBtst lane s := rfl
theorem exec_and lane (s : State) : exec (.and lane) s = execAnd lane s := rfl
theorem exec_or lane (s : State) : exec (.or lane) s = execOr lane s := rfl
theorem exec_xor lane (s : State) : exec (.xor lane) s = execXor lane s := rfl
theorem exec_shr lane (s : State) : exec (.shr lane) s = execShr lane s := rfl
theorem exec_clk3 lane (s : State) : exec (.clk3 lane) s = execClk3 lane s := rfl
theorem exec_vsd6 lane (s : State) : exec (.vsd6 lane) s = execVsd6 lane s := rfl
theorem exec_park lane (s : State) : exec (.park lane) s = execPark lane s := rfl
theorem exec_ipark lane (s : State) : exec (.ipark lane) s = execIpark lane s := rfl
theorem exec_parksc lane (s : State) : exec (.parksc lane) s = execParksc lane s := rfl
theorem exec_iparksc lane (s : State) : exec (.iparksc lane) s = execIparksc lane s := rfl
theorem exec_pic lane (s : State) : exec (.pic lane) s = execPic lane s := rfl
theorem exec_svm lane (s : State) : exec (.svm lane) s = execSvm lane s := rfl
theorem exec_lut1 lane (s : State) : exec (.lut1 lane) s = execLut1 lane s := rfl
theorem exec_lut2 lane (s : State) : exec (.lut2 lane) s = execLut2 lane s := rfl
theorem exec_conversionEnd codes (s : State) : exec (.conversionEnd codes) s = execConversionEnd codes s := rfl
theorem exec_longWindowClose src (s : State) : exec (.longWindowClose src) s = execLongWindowClose src s := rfl
theorem exec_windowAverageDelivery src ecc (s : State) : exec (.windowAverageDelivery src ecc) s = execWindowAverageDelivery src ecc s := rfl
theorem exec_referenceSelect m sel (s : State) : exec (.referenceSelect m sel) s = execReferenceSelect m sel s := rfl
theorem exec_referenceReady meas (s : State) : exec (.referenceReady meas) s = execReferenceReady meas s := rfl
theorem exec_refFail meas (s : State) : exec (.refFail meas) s = execRefFail meas s := rfl
theorem exec_lastRead m ch (s : State) : exec (.lastRead m ch) s = execLastRead m ch s := rfl
theorem exec_faqPop m (s : State) : exec (.faqPop m) s = execFaqPop m s := rfl
theorem exec_faqDiscard m (s : State) : exec (.faqDiscard m) s = execFaqDiscard m s := rfl
theorem exec_faqFallbackWrite (s : State) : exec .faqFallbackWrite s = execFaqFallbackWrite s := rfl
theorem exec_hkRoundStart (s : State) : exec .hkRoundStart s = execHkRoundStart s := rfl
theorem exec_hkSlotEnd code0 code1 (s : State) : exec (.hkSlotEnd code0 code1) s = execHkSlotEnd code0 code1 s := rfl
theorem exec_hkStall conv (s : State) : exec (.hkStall conv) s = execHkStall conv s := rfl
theorem exec_monitorTrip k hi ch x (s : State) : exec (.monitorTrip k hi ch x) s = execMonitorTrip k hi ch x s := rfl
theorem exec_monitorRelease k hi ch x (s : State) : exec (.monitorRelease k hi ch x) s = execMonitorRelease k hi ch x s := rfl
theorem exec_monitorResolve k hi ch x (s : State) : exec (.monitorResolve k hi ch x) s = execMonitorResolve k hi ch x s := rfl
theorem exec_monitorSwapCheck m k (s : State) : exec (.monitorSwapCheck m k) s = execMonitorSwapCheck m k s := rfl
theorem exec_monitorTieCheck m k (s : State) : exec (.monitorTieCheck m k) s = execMonitorTieCheck m k s := rfl
theorem exec_monitorCheckDone k pass (s : State) : exec (.monitorCheckDone k pass) s = execMonitorCheckDone k pass s := rfl
theorem exec_carrierPeriodStart g (s : State) : exec (.carrierPeriodStart g) s = execCarrierPeriodStart g s := rfl
theorem exec_halfPeriodPoint g (s : State) : exec (.halfPeriodPoint g) s = execHalfPeriodPoint g s := rfl
theorem exec_cntMismatch g (s : State) : exec (.cntMismatch g) s = execCntMismatch g s := rfl
theorem exec_edgeDue g slot (s : State) : exec (.edgeDue g slot) s = execEdgeDue g slot s := rfl
theorem exec_arm m g (s : State) : exec (.arm m g) s = execArm m g s := rfl
theorem exec_armingComplete g (s : State) : exec (.armingComplete g) s = execArmingComplete g s := rfl
theorem exec_armingAbort g (s : State) : exec (.armingAbort g) s = execArmingAbort g s := rfl
theorem exec_disarm m g (s : State) : exec (.disarm m g) s = execDisarm m g s := rfl
theorem exec_disarmTakeEffect g (s : State) : exec (.disarmTakeEffect g) s = execDisarmTakeEffect g s := rfl
theorem exec_idleFrame k noise hot (s : State) : exec (.idleFrame k noise hot) s = execIdleFrame k noise hot s := rfl
theorem exec_edgeFrame k n lag noise hot (s : State) : exec (.edgeFrame k n lag noise hot) s = execEdgeFrame k n lag noise hot s := rfl
theorem exec_safeFrame k noise hot (s : State) : exec (.safeFrame k noise hot) s = execSafeFrame k noise hot s := rfl
theorem exec_regFrame k crcOk (s : State) : exec (.regFrame k crcOk) s = execRegFrame k crcOk s := rfl
theorem exec_cfgFrame k crcOk (s : State) : exec (.cfgFrame k crcOk) s = execCfgFrame k crcOk s := rfl
theorem exec_statusFrame k sel v meas (s : State) : exec (.statusFrame k sel v meas) s = execStatusFrame k sel v meas s := rfl
theorem exec_dieLinkLoss k hot (s : State) : exec (.dieLinkLoss k hot) s = execDieLinkLoss k hot s := rfl
theorem exec_controllerLinkLoss k (s : State) : exec (.controllerLinkLoss k) s = execControllerLinkLoss k s := rfl
theorem exec_linkTrained k (s : State) : exec (.linkTrained k) s = execLinkTrained k s := rfl
theorem exec_linkCalDone k trim (s : State) : exec (.linkCalDone k trim) s = execLinkCalDone k trim s := rfl
theorem exec_linkRestart m k (s : State) : exec (.linkRestart m k) s = execLinkRestart m k s := rfl
theorem exec_regionMismatch k q (s : State) : exec (.regionMismatch k q) s = execRegionMismatch k q s := rfl
theorem exec_dsatTrip c (s : State) : exec (.dsatTrip c) s = execDsatTrip c s := rfl
theorem exec_twoStepHoldEnd c (s : State) : exec (.twoStepHoldEnd c) s = execTwoStepHoldEnd c s := rfl
theorem exec_supplyUvlo c pos low (s : State) : exec (.supplyUvlo c pos low) s = execSupplyUvlo c pos low s := rfl
theorem exec_readySet c (s : State) : exec (.readySet c) s = execReadySet c s := rfl
theorem exec_clampOn c (s : State) : exec (.clampOn c) s = execClampOn c s := rfl
theorem exec_channelPwrHigh c avg (s : State) : exec (.channelPwrHigh c avg) s = execChannelPwrHigh c avg s := rfl
theorem exec_channelPwrTrip c (s : State) : exec (.channelPwrTrip c) s = execChannelPwrTrip c s := rfl
theorem exec_tripLatchClear m c dsat pwr (s : State) : exec (.tripLatchClear m c dsat pwr) s = execTripLatchClear m c dsat pwr s := rfl
theorem exec_bootstrapUvlo l vbst (s : State) : exec (.bootstrapUvlo l vbst) s = execBootstrapUvlo l vbst s := rfl
theorem exec_lvDieSupplyFault k vbr bad (s : State) : exec (.lvDieSupplyFault k vbr bad) s = execLvDieSupplyFault k vbr bad s := rfl
theorem exec_refreshPulse l (s : State) : exec (.refreshPulse l) s = execRefreshPulse l s := rfl
theorem exec_refreshPulseEnd l (s : State) : exec (.refreshPulseEnd l) s = execRefreshPulseEnd l s := rfl
theorem exec_chopperSample (s : State) : exec .chopperSample s = execChopperSample s := rfl
theorem exec_chopperFault whileOff (s : State) : exec (.chopperFault whileOff) s = execChopperFault whileOff s := rfl
theorem exec_speedFreewheelChange g (s : State) : exec (.speedFreewheelChange g) s = execSpeedFreewheelChange g s := rfl
theorem exec_quadratureEdge p l (s : State) : exec (.quadratureEdge p l) s = execQuadratureEdge p l s := rfl
theorem exec_illegalTransition p l (s : State) : exec (.illegalTransition p l) s = execIllegalTransition p l s := rfl
theorem exec_illWindowEnd p (s : State) : exec (.illWindowEnd p) s = execIllWindowEnd p s := rfl
theorem exec_indexPulse p l (s : State) : exec (.indexPulse p l) s = execIndexPulse p l s := rfl
theorem exec_hallEdge p l (s : State) : exec (.hallEdge p l) s = execHallEdge p l s := rfl
theorem exec_resolverResult p cur (s : State) : exec (.resolverResult p cur) s = execResolverResult p cur s := rfl
theorem exec_serialWord p line (s : State) : exec (.serialWord p line) s = execSerialWord p line s := rfl
theorem exec_serialWordTimeout p (s : State) : exec (.serialWordTimeout p) s = execSerialWordTimeout p s := rfl
theorem exec_standstill p (s : State) : exec (.standstill p) s = execStandstill p s := rfl
theorem exec_posRestart m p wireOk (s : State) : exec (.posRestart m p wireOk) s = execPosRestart m p wireOk s := rfl
theorem exec_sensorFault p cause (s : State) : exec (.sensorFault p cause) s = execSensorFault p cause s := rfl
theorem exec_emuStep e (s : State) : exec (.emuStep e) s = execEmuStep e s := rfl
theorem exec_emuEnable m e v (s : State) : exec (.emuEnable m e v) s = execEmuEnable m e v s := rfl
theorem exec_trcDeclaration n (s : State) : exec (.trcDeclaration n) s = execTrcDeclaration n s := rfl
theorem exec_dropModeChange n (s : State) : exec (.dropModeChange n) s = execDropModeChange n s := rfl
theorem exec_degradeWarning n (s : State) : exec (.degradeWarning n) s = execDegradeWarning n s := rfl
theorem exec_degradeExpiry n (s : State) : exec (.degradeExpiry n) s = execDegradeExpiry n s := rfl
theorem exec_trcClear m n (s : State) : exec (.trcClear m n) s = execTrcClear m n s := rfl
theorem exec_keIdentification n (s : State) : exec (.keIdentification n) s = execKeIdentification n s := rfl
theorem exec_keRestart m n (s : State) : exec (.keRestart m n) s = execKeRestart m n s := rfl
theorem exec_chgEnable m v (s : State) : exec (.chgEnable m v) s = execChgEnable m v s := rfl
theorem exec_cpEdge rising (s : State) : exec (.cpEdge rising) s = execCpEdge rising s := rfl
theorem exec_cpOscTimeout (s : State) : exec .cpOscTimeout s = execCpOscTimeout s := rfl
theorem exec_cpCapture high code (s : State) : exec (.cpCapture high code) s = execCpCapture high code s := rfl
theorem exec_cpStateChange (s : State) : exec .cpStateChange s = execCpStateChange s := rfl
theorem exec_ppRatingChange (s : State) : exec .ppRatingChange s = execPpRatingChange s := rfl
theorem exec_handshakeTimeout t (s : State) : exec (.handshakeTimeout t) s = execHandshakeTimeout t s := rfl
theorem exec_gridZeroCrossing (s : State) : exec .gridZeroCrossing s = execGridZeroCrossing s := rfl
theorem exec_gridOkSet (s : State) : exec .gridOkSet s = execGridOkSet s := rfl
theorem exec_gridVoltageTrip phase high (s : State) : exec (.gridVoltageTrip phase high) s = execGridVoltageTrip phase high s := rfl
theorem exec_gridFrequencyTrip kind (s : State) : exec (.gridFrequencyTrip kind) s = execGridFrequencyTrip kind s := rfl
theorem exec_powerLimitTrip direction (s : State) : exec (.powerLimitTrip direction) s = execPowerLimitTrip direction s := rfl
theorem exec_driveInterlock g (s : State) : exec (.driveInterlock g) s = execDriveInterlock g s := rfl
theorem exec_auxEnable m v (s : State) : exec (.auxEnable m v) s = execAuxEnable m v s := rfl
theorem exec_auxTestPulseEnd (s : State) : exec .auxTestPulseEnd s = execAuxTestPulseEnd s := rfl
theorem exec_auxSoftStartLimit (s : State) : exec .auxSoftStartLimit s = execAuxSoftStartLimit s := rfl
theorem exec_auxSoftStartTimeout (s : State) : exec .auxSoftStartTimeout s = execAuxSoftStartTimeout s := rfl
theorem exec_auxOverload (s : State) : exec .auxOverload s = execAuxOverload s := rfl
theorem exec_auxHiccupEnd (s : State) : exec .auxHiccupEnd s = execAuxHiccupEnd s := rfl
theorem exec_auxRunStable (s : State) : exec .auxRunStable s = execAuxRunStable s := rfl
theorem exec_auxlCommandFrame bytes framing (s : State) : exec (.auxlCommandFrame bytes framing) s = execAuxlCommandFrame bytes framing s := rfl
theorem exec_auxlRxRead m (s : State) : exec (.auxlRxRead m) s = execAuxlRxRead m s := rfl
theorem exec_auxlLinkTimeout (s : State) : exec .auxlLinkTimeout s = execAuxlLinkTimeout s := rfl
theorem exec_auxlAckSend m (s : State) : exec (.auxlAckSend m) s = execAuxlAckSend m s := rfl
theorem exec_auxlTxDone (s : State) : exec .auxlTxDone s = execAuxlTxDone s := rfl
theorem exec_actEnable m n v (s : State) : exec (.actEnable m n v) s = execActEnable m n v s := rfl
theorem exec_actHallEdge n hall (s : State) : exec (.actHallEdge n hall) s = execActHallEdge n hall s := rfl
theorem exec_actHallFault n (s : State) : exec (.actHallFault n) s = execActHallFault n s := rfl
theorem exec_actSwSample n a b c (s : State) : exec (.actSwSample n a b c) s = execActSwSample n a b c s := rfl
theorem exec_actDesync n (s : State) : exec (.actDesync n) s = execActDesync n s := rfl
theorem exec_actSpeedTimeout n (s : State) : exec (.actSpeedTimeout n) s = execActSpeedTimeout n s := rfl
theorem exec_actPrechargeEnd n (s : State) : exec (.actPrechargeEnd n) s = execActPrechargeEnd n s := rfl
theorem exec_actObserveEnd n (s : State) : exec (.actObserveEnd n) s = execActObserveEnd n s := rfl
theorem exec_actRevbrakeEnd n (s : State) : exec (.actRevbrakeEnd n) s = execActRevbrakeEnd n s := rfl
theorem exec_actCatchTimeout n (s : State) : exec (.actCatchTimeout n) s = execActCatchTimeout n s := rfl
theorem exec_actAlignEnd n (s : State) : exec (.actAlignEnd n) s = execActAlignEnd n s := rfl
theorem exec_actRampEnd n (s : State) : exec (.actRampEnd n) s = execActRampEnd n s := rfl
theorem exec_actRetryEnd n (s : State) : exec (.actRetryEnd n) s = execActRetryEnd n s := rfl
theorem exec_actRunStable n (s : State) : exec (.actRunStable n) s = execActRunStable n s := rfl
theorem exec_actStall n (s : State) : exec (.actStall n) s = execActStall n s := rfl
theorem exec_actEmfFault n (s : State) : exec (.actEmfFault n) s = execActEmfFault n s := rfl
theorem exec_actZero m n (s : State) : exec (.actZero m n) s = execActZero m n s := rfl
theorem exec_parkSlip n (s : State) : exec (.parkSlip n) s = execParkSlip n s := rfl
theorem exec_shiftGo m start (s : State) : exec (.shiftGo m start) s = execShiftGo m start s := rfl
theorem exec_shiftAbort m (s : State) : exec (.shiftAbort m) s = execShiftAbort m s := rfl
theorem exec_shiftStepTimeout (s : State) : exec .shiftStepTimeout s = execShiftStepTimeout s := rfl
theorem exec_faultLineRaise lines (s : State) : exec (.faultLineRaise lines) s = execFaultLineRaise lines s := rfl
theorem exec_pendingClear m k v (s : State) : exec (.pendingClear m k v) s = execPendingClear m k v s := rfl
theorem exec_holdMaxExpiry g (s : State) : exec (.holdMaxExpiry g) s = execHoldMaxExpiry g s := rfl
theorem exec_release m groups (s : State) : exec (.release m groups) s = execRelease m groups s := rfl
theorem exec_faultInject m line key (s : State) : exec (.faultInject m line key) s = execFaultInject m line key s := rfl
theorem exec_safetyInputChange n a b together (s : State) : exec (.safetyInputChange n a b together) s = execSafetyInputChange n a b together s := rfl
theorem exec_siDiscrepancy n (s : State) : exec (.siDiscrepancy n) s = execSiDiscrepancy n s := rfl
theorem exec_siTestPulse n srcB aLow bLow (s : State) : exec (.siTestPulse n srcB aLow bLow) s = execSiTestPulse n srcB aLow bLow s := rfl
theorem exec_siReset m n (s : State) : exec (.siReset m n) s = execSiReset m n s := rfl
theorem exec_soHighSideClose m (s : State) : exec (.soHighSideClose m) s = execSoHighSideClose m s := rfl
theorem exec_soSwitchTest m low hsNode lsNode (s : State) : exec (.soSwitchTest m low hsNode lsNode) s = execSoSwitchTest m low hsNode lsNode s := rfl
theorem exec_soTestEnd m hsNode lsNode (s : State) : exec (.soTestEnd m hsNode lsNode) s = execSoTestEnd m hsNode lsNode s := rfl
theorem exec_soOvercurrent m (s : State) : exec (.soOvercurrent m) s = execSoOvercurrent m s := rfl
theorem exec_soDegradeExpiry m (s : State) : exec (.soDegradeExpiry m) s = execSoDegradeExpiry m s := rfl
theorem exec_soReset m k (s : State) : exec (.soReset m k) s = execSoReset m k s := rfl
theorem exec_eptalSend m k epoch (s : State) : exec (.eptalSend m k epoch) s = execEptalSend m k epoch s := rfl
theorem exec_eptalSendMiss k pathB (s : State) : exec (.eptalSendMiss k pathB) s = execEptalSendMiss k pathB s := rfl
theorem exec_eptalCopy k pathB bytes (s : State) : exec (.eptalCopy k pathB bytes) s = execEptalCopy k pathB bytes s := rfl
theorem exec_eptalWindowExpiry k (s : State) : exec (.eptalWindowExpiry k) s = execEptalWindowExpiry k s := rfl
theorem exec_eptalSingleExpiry k (s : State) : exec (.eptalSingleExpiry k) s = execEptalSingleExpiry k s := rfl
theorem exec_eptalDeliveryTimeout k (s : State) : exec (.eptalDeliveryTimeout k) s = execEptalDeliveryTimeout k s := rfl
theorem exec_eptalReset m k (s : State) : exec (.eptalReset m k) s = execEptalReset m k s := rfl
theorem exec_gateMismatch p addr write fold (s : State) : exec (.gateMismatch p addr write fold) s = execGateMismatch p addr write fold s := rfl
theorem exec_stateFold p diff (s : State) : exec (.stateFold p diff) s = execStateFold p diff s := rfl
theorem exec_foldRequest m p (s : State) : exec (.foldRequest m p) s = execFoldRequest m p s := rfl
theorem exec_cacheEccError p chk data double (s : State) : exec (.cacheEccError p chk data double) s = execCacheEccError p chk data double s := rfl
theorem exec_assayVerdict p main chk (s : State) : exec (.assayVerdict p main chk) s = execAssayVerdict p main chk s := rfl
theorem exec_assayTimeout p (s : State) : exec (.assayTimeout p) s = execAssayTimeout p s := rfl
theorem exec_restartFetch p (s : State) : exec (.restartFetch p) s = execRestartFetch p s := rfl
theorem exec_scWarning p (s : State) : exec (.scWarning p) s = execScWarning p s := rfl
theorem exec_scExpiry p (s : State) : exec (.scExpiry p) s = execScExpiry p s := rfl
theorem exec_assayRequest m p (s : State) : exec (.assayRequest m p) s = execAssayRequest m p s := rfl
theorem exec_splitRequest m p (s : State) : exec (.splitRequest m p) s = execSplitRequest m p s := rfl
theorem exec_splitSync p diff (s : State) : exec (.splitSync p diff) s = execSplitSync p diff s := rfl
theorem exec_splitTimeout p (s : State) : exec (.splitTimeout p) s = execSplitTimeout p s := rfl
theorem exec_rejoinRequest m p (s : State) : exec (.rejoinRequest m p) s = execRejoinRequest m p s := rfl
theorem exec_rejoinSync p (s : State) : exec (.rejoinSync p) s = execRejoinSync p s := rfl
theorem exec_rejoinCopyDone p diff (s : State) : exec (.rejoinCopyDone p diff) s = execRejoinCopyDone p diff s := rfl
theorem exec_rejoinTimeout p (s : State) : exec (.rejoinTimeout p) s = execRejoinTimeout p s := rfl
theorem exec_debugHalt m p diff (s : State) : exec (.debugHalt m p diff) s = execDebugHalt m p diff s := rfl
theorem exec_debugResume m p diff (s : State) : exec (.debugResume m p diff) s = execDebugResume m p diff s := rfl
theorem exec_debugStep m p diff (s : State) : exec (.debugStep m p diff) s = execDebugStep m p diff s := rfl
theorem exec_debugStateWrite p reg v (s : State) : exec (.debugStateWrite p reg v) s = execDebugStateWrite p reg v s := rfl
theorem exec_canStartOfFrame n (s : State) : exec (.canStartOfFrame n) s = execCanStartOfFrame n s := rfl
theorem exec_canFrameReceived n f (s : State) : exec (.canFrameReceived n f) s = execCanFrameReceived n f s := rfl
theorem exec_canTxDone n dly (s : State) : exec (.canTxDone n dly) s = execCanTxDone n dly s := rfl
theorem exec_canTxError n lost err dphase collision counted dly (s : State) : exec (.canTxError n lost err dphase collision counted dly) s = execCanTxError n lost err dphase collision counted dly s := rfl
theorem exec_canBusOff n (s : State) : exec (.canBusOff n) s = execCanBusOff n s := rfl
theorem exec_canRecover m n (s : State) : exec (.canRecover m n) s = execCanRecover m n s := rfl
theorem exec_canRecoveryDone n (s : State) : exec (.canRecoveryDone n) s = execCanRecoveryDone n s := rfl
theorem exec_canCommit m n k epoch (s : State) : exec (.canCommit m n k epoch) s = execCanCommit m n k epoch s := rfl
theorem exec_canCancel m n k won (s : State) : exec (.canCancel m n k won) s = execCanCancel m n k won s := rfl
theorem exec_canLock m n k (s : State) : exec (.canLock m n k) s = execCanLock m n k s := rfl
theorem exec_canRelease m n k (s : State) : exec (.canRelease m n k) s = execCanRelease m n k s := rfl
theorem exec_canBufferConfig m n k v receiving (s : State) : exec (.canBufferConfig m n k v receiving) s = execCanBufferConfig m n k v receiving s := rfl
theorem exec_canDominantTimeout n (s : State) : exec (.canDominantTimeout n) s = execCanDominantTimeout n s := rfl
theorem exec_ethFrameReceived n bytes fcsOk ecc (s : State) : exec (.ethFrameReceived n bytes fcsOk ecc) s = execEthFrameReceived n bytes fcsOk ecc s := rfl
theorem exec_ethTxKick m n ecc (s : State) : exec (.ethTxKick m n ecc) s = execEthTxKick m n ecc s := rfl
theorem exec_ethTxDone n ecc (s : State) : exec (.ethTxDone n ecc) s = execEthTxDone n ecc s := rfl
theorem exec_ethLinkChange n up sqi (s : State) : exec (.ethLinkChange n up sqi) s = execEthLinkChange n up sqi s := rfl
theorem exec_hspRead f pend tag addr (s : State) : exec (.hspRead f pend tag addr) s = execHspRead f pend tag addr s := rfl
theorem exec_hspWrite f pend tag addr v (s : State) : exec (.hspWrite f pend tag addr v) s = execHspWrite f pend tag addr v s := rfl
theorem exec_hspNop f pend tag (s : State) : exec (.hspNop f pend tag) s = execHspNop f pend tag s := rfl
theorem exec_hspTimeout tag (s : State) : exec (.hspTimeout tag) s = execHspTimeout tag s := rfl
theorem exec_romStageDone cfgValid (s : State) : exec (.romStageDone cfgValid) s = execRomStageDone cfgValid s := rfl
theorem exec_earlyServiceReady (s : State) : exec .earlyServiceReady s = execEarlyServiceReady s := rfl
theorem exec_hallmarkSlotVerified slot ecdsa lms (s : State) : exec (.hallmarkSlotVerified slot ecdsa lms) s = execHallmarkSlotVerified slot ecdsa lms s := rfl
theorem exec_fullServiceStart (s : State) : exec .fullServiceStart s = execFullServiceStart s := rfl
theorem exec_earlyMaxExpiry (s : State) : exec .earlyMaxExpiry s = execEarlyMaxExpiry s := rfl
theorem exec_earlyOverspeed mac (s : State) : exec (.earlyOverspeed mac) s = execEarlyOverspeed mac s := rfl
theorem exec_earlyDemandTimeout mac (s : State) : exec (.earlyDemandTimeout mac) s = execEarlyDemandTimeout mac s := rfl
theorem exec_imageConfirm m (s : State) : exec (.imageConfirm m) s = execImageConfirm m s := rfl
theorem exec_rollbackAdvance m key (s : State) : exec (.rollbackAdvance m key) s = execRollbackAdvance m key s := rfl
theorem exec_slotOpen m slot (s : State) : exec (.slotOpen m slot) s = execSlotOpen m slot s := rfl
theorem exec_slotClose m (s : State) : exec (.slotClose m) s = execSlotClose m s := rfl
theorem exec_slotActivate m slot (s : State) : exec (.slotActivate m slot) s = execSlotActivate m slot s := rfl
theorem exec_activationDone ecdsa lms (s : State) : exec (.activationDone ecdsa lms) s = execActivationDone ecdsa lms s := rfl
theorem exec_attestationRequest m (s : State) : exec (.attestationRequest m) s = execAttestationRequest m s := rfl
theorem exec_attestationDone (s : State) : exec .attestationDone s = execAttestationDone s := rfl
theorem exec_nonceDraw m (s : State) : exec (.nonceDraw m) s = execNonceDraw m s := rfl
theorem exec_statementSubmit m (s : State) : exec (.statementSubmit m) s = execStatementSubmit m s := rfl
theorem exec_authStatement (s : State) : exec .authStatement s = execAuthStatement s := rfl
theorem exec_changeStatement (s : State) : exec .changeStatement s = execChangeStatement s := rfl
theorem exec_lifecycleStatement (s : State) : exec .lifecycleStatement s = execLifecycleStatement s := rfl
theorem exec_clearStatement (s : State) : exec .clearStatement s = execClearStatement s := rfl
theorem exec_revokeStatement (s : State) : exec .revokeStatement s = execRevokeStatement s := rfl
theorem exec_lifecycleHoldExpiry (s : State) : exec .lifecycleHoldExpiry s = execLifecycleHoldExpiry s := rfl
theorem exec_authLogout m (s : State) : exec (.authLogout m) s = execAuthLogout m s := rfl
theorem exec_authSessionExpiry (s : State) : exec .authSessionExpiry s = execAuthSessionExpiry s := rfl
theorem exec_changeOpen m pages (s : State) : exec (.changeOpen m pages) s = execChangeOpen m pages s := rfl
theorem exec_changeSeal m (s : State) : exec (.changeSeal m) s = execChangeSeal m s := rfl
theorem exec_changeDigestDone (s : State) : exec .changeDigestDone s = execChangeDigestDone s := rfl
theorem exec_changeCommit ok (s : State) : exec (.changeCommit ok) s = execChangeCommit ok s := rfl
theorem exec_changeWindowExpiry (s : State) : exec .changeWindowExpiry s = execChangeWindowExpiry s := rfl
theorem exec_changeAbort m (s : State) : exec (.changeAbort m) s = execChangeAbort m s := rfl
theorem exec_debugOpen m (s : State) : exec (.debugOpen m) s = execDebugOpen m s := rfl
theorem exec_debugClose m (s : State) : exec (.debugClose m) s = execDebugClose m s := rfl
theorem exec_debugAccess m p op (s : State) : exec (.debugAccess m p op) s = execDebugAccess m p op s := rfl
theorem exec_recordCapture (s : State) : exec .recordCapture s = execRecordCapture s := rfl
theorem exec_ringRoomRecord (s : State) : exec .ringRoomRecord s = execRingRoomRecord s := rfl
theorem exec_rateWindowEnd (s : State) : exec .rateWindowEnd s = execRateWindowEnd s := rfl
theorem exec_startFlush (s : State) : exec .startFlush s = execStartFlush s := rfl
theorem exec_flushPeriodic (s : State) : exec .flushPeriodic s = execFlushPeriodic s := rfl
theorem exec_flushBacklog (s : State) : exec .flushBacklog s = execFlushBacklog s := rfl
theorem exec_flushRequest m (s : State) : exec (.flushRequest m) s = execFlushRequest m s := rfl
theorem exec_flushDone ok (s : State) : exec (.flushDone ok) s = execFlushDone ok s := rfl
theorem exec_clearEraseDone (s : State) : exec .clearEraseDone s = execClearEraseDone s := rfl
theorem exec_norProgramPage m (s : State) : exec (.norProgramPage m) s = execNorProgramPage m s := rfl
theorem exec_norEraseSector m (s : State) : exec (.norEraseSector m) s = execNorEraseSector m s := rfl
theorem exec_norResetDie m (s : State) : exec (.norResetDie m) s = execNorResetDie m s := rfl
theorem exec_norOpDone page (s : State) : exec (.norOpDone page) s = execNorOpDone page s := rfl
theorem exec_norOpTimeout (s : State) : exec .norOpTimeout s = execNorOpTimeout s := rfl
theorem exec_derateChannelWrite m k v (s : State) : exec (.derateChannelWrite m k v) s = execDerateChannelWrite m k v s := rfl
theorem exec_bistRequest m target alg (s : State) : exec (.bistRequest m target alg) s = execBistRequest m target alg s := rfl
theorem exec_bistDone fails (s : State) : exec (.bistDone fails) s = execBistDone fails s := rfl
theorem exec_bistAbort m (s : State) : exec (.bistAbort m) s = execBistAbort m s := rfl
theorem exec_bistRepair m (s : State) : exec (.bistRepair m) s = execBistRepair m s := rfl
theorem exec_prechargeEnd g (s : State) : exec (.prechargeEnd g) s = execPrechargeEnd g s := rfl
theorem exec_deadTimeEnd l (s : State) : exec (.deadTimeEnd l) s = execDeadTimeEnd l s := rfl
theorem exec_lvSoftTurnOffEnd l (s : State) : exec (.lvSoftTurnOffEnd l) s = execLvSoftTurnOffEnd l s := rfl
theorem exec_canReceiveError n res err dphase eight (s : State) : exec (.canReceiveError n res err dphase eight) s = execCanReceiveError n res err dphase eight s := rfl
theorem exec_backupSupplyChange active (s : State) : exec (.backupSupplyChange active) s = execBackupSupplyChange active s := rfl
theorem exec_hl21TestStart (s : State) : exec .hl21TestStart s = execHl21TestStart s := rfl

end Sys2Proof.Machine
end

