-- ==== Sys2Proof/Laws/Engine.lean ====
section
/-!
SUPPORT. What a lane does with an instruction command: it issues its next instruction, or nothing.
-/
namespace Sys2Proof.Machine

/-- With no error in engine memory a run goes on as it reads (R132). -/
theorem State.runReads_clean {s : State} (l : Nat) (r : Run) (p : Nat → Bool) (go : State → State) (h : s.eng.bad = []) :
    s.runReads l r p go = go s := by
  unfold State.runReads State.engineReads
  rw [h]
  rfl

/-- A defined instruction whose predicate holds has its effect (R146, R153). -/
theorem State.issue_runs {s : State} {l op : Nat} {r : Run} {i : Ins} (f : State → Run → Ins → Eff) (hr : (s.lane l).run = some r)
    (hl : r.idx < r.len) (hi : i = s.insAt (r.base + r.idx)) (ho : i.op = op) (he : s.insErr i = 0) (h1 : i.pred = 1 → r.pf = true)
    (h2 : i.pred = 2 → r.pf = false) (hb : s.eng.bad = []) (hh : s.tickHeld r = false) : s.issue l op f = s.applyEff l r (f s r i) := by
  subst hi
  unfold State.issue
  rw [hr]
  have a : ¬ r.len ≤ r.idx := by omega
  have b : ¬ ((s.insAt (r.base + r.idx)).pred = 1 ∧ r.pf = false) := fun ⟨x, y⟩ => by simp [h1 x] at y
  have c : ¬ ((s.insAt (r.base + r.idx)).pred = 2 ∧ r.pf = true) := fun ⟨x, y⟩ => by simp [h2 x] at y
  simp [a, ho, he, b, c, hh, runReads_clean _ _ _ _ hb]

/-- One whose predicate is false only goes by (R146). -/
theorem State.issue_skips {s : State} {l op : Nat} {r : Run} {i : Ins} (f : State → Run → Ins → Eff) (hr : (s.lane l).run = some r)
    (hl : r.idx < r.len) (hi : i = s.insAt (r.base + r.idx)) (ho : i.op = op) (he : s.insErr i = 0)
    (hp : (i.pred = 1 ∧ r.pf = false) ∨ (i.pred = 2 ∧ r.pf = true)) (hb : s.eng.bad = []) (hh : s.tickHeld r = false) :
    s.issue l op f = s.applyEff l r {} := by
  subst hi
  unfold State.issue
  rw [hr]
  have a : ¬ r.len ≤ r.idx := by omega
  simp [a, ho, he, hp, hh, runReads_clean _ _ _ _ hb]

/-- A lane that is in no run issues nothing. -/
theorem State.issue_idle {s : State} {l op : Nat} (f : State → Run → Ins → Eff) (hr : (s.lane l).run = none) : s.issue l op f = s := by
  unfold State.issue
  rw [hr]

end Sys2Proof.Machine
end

