-- ==== Sys2Proof/Laws/State.lean ====
section
/-!
SUPPORT. What each update of the state leaves alone: one lemma for each field and update, and for the registers beside them.
-/
namespace Sys2Proof.Machine
namespace State

/-! #### wr -/

@[simp] theorem wr_pending (s : State) (a : Nat) (v : Word) : (s.wr a v).pending = s.pending := rfl
@[simp] theorem wr_now (s : State) (a : Nat) (v : Word) : (s.wr a v).now = s.now := rfl
@[simp] theorem wr_free (s : State) (a : Nat) (v : Word) : (s.wr a v).free = s.free := rfl
@[simp] theorem wr_undef (s : State) (a : Nat) (v : Word) : (s.wr a v).undef = s.undef := rfl
@[simp] theorem wr_undefGen (s : State) (a : Nat) (v : Word) : (s.wr a v).undefGen = s.undefGen := rfl
@[simp] theorem wr_resp (s : State) (a : Nat) (v : Word) : (s.wr a v).resp = s.resp := rfl
@[simp] theorem wr_srstEnds (s : State) (a : Nat) (v : Word) : (s.wr a v).srstEnds = s.srstEnds := rfl
@[simp] theorem wr_live (s : State) (a : Nat) (v : Word) : (s.wr a v).live = s.live := rfl
@[simp] theorem wr_staged (s : State) (a : Nat) (v : Word) : (s.wr a v).staged = s.staged := rfl
@[simp] theorem wr_mem (s : State) (a : Nat) (v : Word) : (s.wr a v).mem = s.mem := rfl
@[simp] theorem wr_bad (s : State) (a : Nat) (v : Word) : (s.wr a v).bad = s.bad := rfl
@[simp] theorem wr_prog (s : State) (a : Nat) (v : Word) : (s.wr a v).prog = s.prog := rfl
@[simp] theorem wr_tab (s : State) (a : Nat) (v : Word) : (s.wr a v).tab = s.tab := rfl
@[simp] theorem wr_canAct (s : State) (a : Nat) (v : Word) : (s.wr a v).canAct = s.canAct := rfl
@[simp] theorem wr_canShadow (s : State) (a : Nat) (v : Word) : (s.wr a v).canShadow = s.canShadow := rfl
@[simp] theorem wr_j3 (s : State) (a : Nat) (v : Word) : (s.wr a v).j3 = s.j3 := rfl
@[simp] theorem wr_cad (s : State) (a : Nat) (v : Word) : (s.wr a v).cad = s.cad := rfl
@[simp] theorem wr_eng (s : State) (a : Nat) (v : Word) : (s.wr a v).eng = s.eng := rfl
@[simp] theorem wr_sens (s : State) (a : Nat) (v : Word) : (s.wr a v).sens = s.sens := rfl
@[simp] theorem wr_pwm (s : State) (a : Nat) (v : Word) : (s.wr a v).pwm = s.pwm := rfl
@[simp] theorem wr_safe (s : State) (a : Nat) (v : Word) : (s.wr a v).safe = s.safe := rfl
@[simp] theorem wr_pos (s : State) (a : Nat) (v : Word) : (s.wr a v).pos = s.pos := rfl
@[simp] theorem wr_trac (s : State) (a : Nat) (v : Word) : (s.wr a v).trac = s.trac := rfl
@[simp] theorem wr_conv (s : State) (a : Nat) (v : Word) : (s.wr a v).conv = s.conv := rfl
@[simp] theorem wr_act (s : State) (a : Nat) (v : Word) : (s.wr a v).act = s.act := rfl
@[simp] theorem wr_drl (s : State) (a : Nat) (v : Word) : (s.wr a v).drl = s.drl := rfl
@[simp] theorem wr_tnd (s : State) (a : Nat) (v : Word) : (s.wr a v).tnd = s.tnd := rfl
@[simp] theorem wr_net (s : State) (a : Nat) (v : Word) : (s.wr a v).net = s.net := rfl
@[simp] theorem wr_rcd (s : State) (a : Nat) (v : Word) : (s.wr a v).rcd = s.rcd := rfl
@[simp] theorem wr_pwr (s : State) (a : Nat) (v : Word) : (s.wr a v).pwr = s.pwr := rfl
@[simp] theorem wr_sec (s : State) (a : Nat) (v : Word) : (s.wr a v).sec = s.sec := rfl

/-! #### setFld -/

@[simp] theorem setFld_pending (s : State) (f : Fld) (v : Nat) : (s.setFld f v).pending = s.pending := rfl
@[simp] theorem setFld_now (s : State) (f : Fld) (v : Nat) : (s.setFld f v).now = s.now := rfl
@[simp] theorem setFld_free (s : State) (f : Fld) (v : Nat) : (s.setFld f v).free = s.free := rfl
@[simp] theorem setFld_undef (s : State) (f : Fld) (v : Nat) : (s.setFld f v).undef = s.undef := rfl
@[simp] theorem setFld_undefGen (s : State) (f : Fld) (v : Nat) : (s.setFld f v).undefGen = s.undefGen := rfl
@[simp] theorem setFld_resp (s : State) (f : Fld) (v : Nat) : (s.setFld f v).resp = s.resp := rfl
@[simp] theorem setFld_srstEnds (s : State) (f : Fld) (v : Nat) : (s.setFld f v).srstEnds = s.srstEnds := rfl
@[simp] theorem setFld_live (s : State) (f : Fld) (v : Nat) : (s.setFld f v).live = s.live := rfl
@[simp] theorem setFld_staged (s : State) (f : Fld) (v : Nat) : (s.setFld f v).staged = s.staged := rfl
@[simp] theorem setFld_mem (s : State) (f : Fld) (v : Nat) : (s.setFld f v).mem = s.mem := rfl
@[simp] theorem setFld_bad (s : State) (f : Fld) (v : Nat) : (s.setFld f v).bad = s.bad := rfl
@[simp] theorem setFld_prog (s : State) (f : Fld) (v : Nat) : (s.setFld f v).prog = s.prog := rfl
@[simp] theorem setFld_tab (s : State) (f : Fld) (v : Nat) : (s.setFld f v).tab = s.tab := rfl
@[simp] theorem setFld_canAct (s : State) (f : Fld) (v : Nat) : (s.setFld f v).canAct = s.canAct := rfl
@[simp] theorem setFld_canShadow (s : State) (f : Fld) (v : Nat) : (s.setFld f v).canShadow = s.canShadow := rfl
@[simp] theorem setFld_j3 (s : State) (f : Fld) (v : Nat) : (s.setFld f v).j3 = s.j3 := rfl
@[simp] theorem setFld_cad (s : State) (f : Fld) (v : Nat) : (s.setFld f v).cad = s.cad := rfl
@[simp] theorem setFld_eng (s : State) (f : Fld) (v : Nat) : (s.setFld f v).eng = s.eng := rfl
@[simp] theorem setFld_sens (s : State) (f : Fld) (v : Nat) : (s.setFld f v).sens = s.sens := rfl
@[simp] theorem setFld_pwm (s : State) (f : Fld) (v : Nat) : (s.setFld f v).pwm = s.pwm := rfl
@[simp] theorem setFld_safe (s : State) (f : Fld) (v : Nat) : (s.setFld f v).safe = s.safe := rfl
@[simp] theorem setFld_pos (s : State) (f : Fld) (v : Nat) : (s.setFld f v).pos = s.pos := rfl
@[simp] theorem setFld_trac (s : State) (f : Fld) (v : Nat) : (s.setFld f v).trac = s.trac := rfl
@[simp] theorem setFld_conv (s : State) (f : Fld) (v : Nat) : (s.setFld f v).conv = s.conv := rfl
@[simp] theorem setFld_act (s : State) (f : Fld) (v : Nat) : (s.setFld f v).act = s.act := rfl
@[simp] theorem setFld_drl (s : State) (f : Fld) (v : Nat) : (s.setFld f v).drl = s.drl := rfl
@[simp] theorem setFld_tnd (s : State) (f : Fld) (v : Nat) : (s.setFld f v).tnd = s.tnd := rfl
@[simp] theorem setFld_net (s : State) (f : Fld) (v : Nat) : (s.setFld f v).net = s.net := rfl
@[simp] theorem setFld_rcd (s : State) (f : Fld) (v : Nat) : (s.setFld f v).rcd = s.rcd := rfl
@[simp] theorem setFld_pwr (s : State) (f : Fld) (v : Nat) : (s.setFld f v).pwr = s.pwr := rfl
@[simp] theorem setFld_sec (s : State) (f : Fld) (v : Nat) : (s.setFld f v).sec = s.sec := rfl

/-! #### wrLive -/

@[simp] theorem wrLive_pending (s : State) (a : Nat) (v : Word) : (s.wrLive a v).pending = s.pending := rfl
@[simp] theorem wrLive_now (s : State) (a : Nat) (v : Word) : (s.wrLive a v).now = s.now := rfl
@[simp] theorem wrLive_free (s : State) (a : Nat) (v : Word) : (s.wrLive a v).free = s.free := rfl
@[simp] theorem wrLive_undef (s : State) (a : Nat) (v : Word) : (s.wrLive a v).undef = s.undef := rfl
@[simp] theorem wrLive_undefGen (s : State) (a : Nat) (v : Word) : (s.wrLive a v).undefGen = s.undefGen := rfl
@[simp] theorem wrLive_resp (s : State) (a : Nat) (v : Word) : (s.wrLive a v).resp = s.resp := rfl
@[simp] theorem wrLive_regs (s : State) (a : Nat) (v : Word) : (s.wrLive a v).regs = s.regs := rfl
@[simp] theorem wrLive_srstEnds (s : State) (a : Nat) (v : Word) : (s.wrLive a v).srstEnds = s.srstEnds := rfl
@[simp] theorem wrLive_staged (s : State) (a : Nat) (v : Word) : (s.wrLive a v).staged = s.staged := rfl
@[simp] theorem wrLive_mem (s : State) (a : Nat) (v : Word) : (s.wrLive a v).mem = s.mem := rfl
@[simp] theorem wrLive_bad (s : State) (a : Nat) (v : Word) : (s.wrLive a v).bad = s.bad := rfl
@[simp] theorem wrLive_prog (s : State) (a : Nat) (v : Word) : (s.wrLive a v).prog = s.prog := rfl
@[simp] theorem wrLive_tab (s : State) (a : Nat) (v : Word) : (s.wrLive a v).tab = s.tab := rfl
@[simp] theorem wrLive_canAct (s : State) (a : Nat) (v : Word) : (s.wrLive a v).canAct = s.canAct := rfl
@[simp] theorem wrLive_canShadow (s : State) (a : Nat) (v : Word) : (s.wrLive a v).canShadow = s.canShadow := rfl
@[simp] theorem wrLive_j3 (s : State) (a : Nat) (v : Word) : (s.wrLive a v).j3 = s.j3 := rfl
@[simp] theorem wrLive_cad (s : State) (a : Nat) (v : Word) : (s.wrLive a v).cad = s.cad := rfl
@[simp] theorem wrLive_eng (s : State) (a : Nat) (v : Word) : (s.wrLive a v).eng = s.eng := rfl
@[simp] theorem wrLive_sens (s : State) (a : Nat) (v : Word) : (s.wrLive a v).sens = s.sens := rfl
@[simp] theorem wrLive_pwm (s : State) (a : Nat) (v : Word) : (s.wrLive a v).pwm = s.pwm := rfl
@[simp] theorem wrLive_safe (s : State) (a : Nat) (v : Word) : (s.wrLive a v).safe = s.safe := rfl
@[simp] theorem wrLive_pos (s : State) (a : Nat) (v : Word) : (s.wrLive a v).pos = s.pos := rfl
@[simp] theorem wrLive_trac (s : State) (a : Nat) (v : Word) : (s.wrLive a v).trac = s.trac := rfl
@[simp] theorem wrLive_conv (s : State) (a : Nat) (v : Word) : (s.wrLive a v).conv = s.conv := rfl
@[simp] theorem wrLive_act (s : State) (a : Nat) (v : Word) : (s.wrLive a v).act = s.act := rfl
@[simp] theorem wrLive_drl (s : State) (a : Nat) (v : Word) : (s.wrLive a v).drl = s.drl := rfl
@[simp] theorem wrLive_tnd (s : State) (a : Nat) (v : Word) : (s.wrLive a v).tnd = s.tnd := rfl
@[simp] theorem wrLive_net (s : State) (a : Nat) (v : Word) : (s.wrLive a v).net = s.net := rfl
@[simp] theorem wrLive_rcd (s : State) (a : Nat) (v : Word) : (s.wrLive a v).rcd = s.rcd := rfl
@[simp] theorem wrLive_pwr (s : State) (a : Nat) (v : Word) : (s.wrLive a v).pwr = s.pwr := rfl
@[simp] theorem wrLive_sec (s : State) (a : Nat) (v : Word) : (s.wrLive a v).sec = s.sec := rfl
@[simp] theorem wrLive_rd (s : State) (a : Nat) (v : Word) (reg : Nat) : (s.wrLive a v).rd reg = s.rd reg := rfl
@[simp] theorem wrLive_fld (s : State) (a : Nat) (v : Word) (fd : Fld) : (s.wrLive a v).fld fd = s.fld fd := rfl
@[simp] theorem wrLive_on (s : State) (a : Nat) (v : Word) (fd : Fld) : (s.wrLive a v).on fd = s.on fd := rfl

/-! #### setByte -/

@[simp] theorem setByte_pending (s : State) (a : Nat) (v : Byte) : (s.setByte a v).pending = s.pending := rfl
@[simp] theorem setByte_now (s : State) (a : Nat) (v : Byte) : (s.setByte a v).now = s.now := rfl
@[simp] theorem setByte_free (s : State) (a : Nat) (v : Byte) : (s.setByte a v).free = s.free := rfl
@[simp] theorem setByte_undef (s : State) (a : Nat) (v : Byte) : (s.setByte a v).undef = s.undef := rfl
@[simp] theorem setByte_undefGen (s : State) (a : Nat) (v : Byte) : (s.setByte a v).undefGen = s.undefGen := rfl
@[simp] theorem setByte_resp (s : State) (a : Nat) (v : Byte) : (s.setByte a v).resp = s.resp := rfl
@[simp] theorem setByte_regs (s : State) (a : Nat) (v : Byte) : (s.setByte a v).regs = s.regs := rfl
@[simp] theorem setByte_srstEnds (s : State) (a : Nat) (v : Byte) : (s.setByte a v).srstEnds = s.srstEnds := rfl
@[simp] theorem setByte_live (s : State) (a : Nat) (v : Byte) : (s.setByte a v).live = s.live := rfl
@[simp] theorem setByte_staged (s : State) (a : Nat) (v : Byte) : (s.setByte a v).staged = s.staged := rfl
@[simp] theorem setByte_prog (s : State) (a : Nat) (v : Byte) : (s.setByte a v).prog = s.prog := rfl
@[simp] theorem setByte_tab (s : State) (a : Nat) (v : Byte) : (s.setByte a v).tab = s.tab := rfl
@[simp] theorem setByte_canAct (s : State) (a : Nat) (v : Byte) : (s.setByte a v).canAct = s.canAct := rfl
@[simp] theorem setByte_canShadow (s : State) (a : Nat) (v : Byte) : (s.setByte a v).canShadow = s.canShadow := rfl
@[simp] theorem setByte_j3 (s : State) (a : Nat) (v : Byte) : (s.setByte a v).j3 = s.j3 := rfl
@[simp] theorem setByte_cad (s : State) (a : Nat) (v : Byte) : (s.setByte a v).cad = s.cad := rfl
@[simp] theorem setByte_eng (s : State) (a : Nat) (v : Byte) : (s.setByte a v).eng = s.eng := rfl
@[simp] theorem setByte_sens (s : State) (a : Nat) (v : Byte) : (s.setByte a v).sens = s.sens := rfl
@[simp] theorem setByte_pwm (s : State) (a : Nat) (v : Byte) : (s.setByte a v).pwm = s.pwm := rfl
@[simp] theorem setByte_safe (s : State) (a : Nat) (v : Byte) : (s.setByte a v).safe = s.safe := rfl
@[simp] theorem setByte_pos (s : State) (a : Nat) (v : Byte) : (s.setByte a v).pos = s.pos := rfl
@[simp] theorem setByte_trac (s : State) (a : Nat) (v : Byte) : (s.setByte a v).trac = s.trac := rfl
@[simp] theorem setByte_conv (s : State) (a : Nat) (v : Byte) : (s.setByte a v).conv = s.conv := rfl
@[simp] theorem setByte_act (s : State) (a : Nat) (v : Byte) : (s.setByte a v).act = s.act := rfl
@[simp] theorem setByte_drl (s : State) (a : Nat) (v : Byte) : (s.setByte a v).drl = s.drl := rfl
@[simp] theorem setByte_tnd (s : State) (a : Nat) (v : Byte) : (s.setByte a v).tnd = s.tnd := rfl
@[simp] theorem setByte_net (s : State) (a : Nat) (v : Byte) : (s.setByte a v).net = s.net := rfl
@[simp] theorem setByte_rcd (s : State) (a : Nat) (v : Byte) : (s.setByte a v).rcd = s.rcd := rfl
@[simp] theorem setByte_pwr (s : State) (a : Nat) (v : Byte) : (s.setByte a v).pwr = s.pwr := rfl
@[simp] theorem setByte_sec (s : State) (a : Nat) (v : Byte) : (s.setByte a v).sec = s.sec := rfl
@[simp] theorem setByte_rd (s : State) (a : Nat) (v : Byte) (reg : Nat) : (s.setByte a v).rd reg = s.rd reg := rfl
@[simp] theorem setByte_fld (s : State) (a : Nat) (v : Byte) (fd : Fld) : (s.setByte a v).fld fd = s.fld fd := rfl
@[simp] theorem setByte_on (s : State) (a : Nat) (v : Byte) (fd : Fld) : (s.setByte a v).on fd = s.on fd := rfl

/-! #### okResp -/

@[simp] theorem okResp_pending (s : State) (d : Word) : (s.okResp d).pending = s.pending := rfl
@[simp] theorem okResp_now (s : State) (d : Word) : (s.okResp d).now = s.now := rfl
@[simp] theorem okResp_free (s : State) (d : Word) : (s.okResp d).free = s.free := rfl
@[simp] theorem okResp_undef (s : State) (d : Word) : (s.okResp d).undef = s.undef := rfl
@[simp] theorem okResp_undefGen (s : State) (d : Word) : (s.okResp d).undefGen = s.undefGen := rfl
@[simp] theorem okResp_regs (s : State) (d : Word) : (s.okResp d).regs = s.regs := rfl
@[simp] theorem okResp_srstEnds (s : State) (d : Word) : (s.okResp d).srstEnds = s.srstEnds := rfl
@[simp] theorem okResp_live (s : State) (d : Word) : (s.okResp d).live = s.live := rfl
@[simp] theorem okResp_staged (s : State) (d : Word) : (s.okResp d).staged = s.staged := rfl
@[simp] theorem okResp_mem (s : State) (d : Word) : (s.okResp d).mem = s.mem := rfl
@[simp] theorem okResp_bad (s : State) (d : Word) : (s.okResp d).bad = s.bad := rfl
@[simp] theorem okResp_prog (s : State) (d : Word) : (s.okResp d).prog = s.prog := rfl
@[simp] theorem okResp_tab (s : State) (d : Word) : (s.okResp d).tab = s.tab := rfl
@[simp] theorem okResp_canAct (s : State) (d : Word) : (s.okResp d).canAct = s.canAct := rfl
@[simp] theorem okResp_canShadow (s : State) (d : Word) : (s.okResp d).canShadow = s.canShadow := rfl
@[simp] theorem okResp_j3 (s : State) (d : Word) : (s.okResp d).j3 = s.j3 := rfl
@[simp] theorem okResp_cad (s : State) (d : Word) : (s.okResp d).cad = s.cad := rfl
@[simp] theorem okResp_eng (s : State) (d : Word) : (s.okResp d).eng = s.eng := rfl
@[simp] theorem okResp_sens (s : State) (d : Word) : (s.okResp d).sens = s.sens := rfl
@[simp] theorem okResp_pwm (s : State) (d : Word) : (s.okResp d).pwm = s.pwm := rfl
@[simp] theorem okResp_safe (s : State) (d : Word) : (s.okResp d).safe = s.safe := rfl
@[simp] theorem okResp_pos (s : State) (d : Word) : (s.okResp d).pos = s.pos := rfl
@[simp] theorem okResp_trac (s : State) (d : Word) : (s.okResp d).trac = s.trac := rfl
@[simp] theorem okResp_conv (s : State) (d : Word) : (s.okResp d).conv = s.conv := rfl
@[simp] theorem okResp_act (s : State) (d : Word) : (s.okResp d).act = s.act := rfl
@[simp] theorem okResp_drl (s : State) (d : Word) : (s.okResp d).drl = s.drl := rfl
@[simp] theorem okResp_tnd (s : State) (d : Word) : (s.okResp d).tnd = s.tnd := rfl
@[simp] theorem okResp_net (s : State) (d : Word) : (s.okResp d).net = s.net := rfl
@[simp] theorem okResp_rcd (s : State) (d : Word) : (s.okResp d).rcd = s.rcd := rfl
@[simp] theorem okResp_pwr (s : State) (d : Word) : (s.okResp d).pwr = s.pwr := rfl
@[simp] theorem okResp_sec (s : State) (d : Word) : (s.okResp d).sec = s.sec := rfl
@[simp] theorem okResp_rd (s : State) (d : Word) (reg : Nat) : (s.okResp d).rd reg = s.rd reg := rfl
@[simp] theorem okResp_fld (s : State) (d : Word) (fd : Fld) : (s.okResp d).fld fd = s.fld fd := rfl
@[simp] theorem okResp_on (s : State) (d : Word) (fd : Fld) : (s.okResp d).on fd = s.on fd := rfl

/-! #### tookFree -/

@[simp] theorem tookFree_pending (s : State) : (s.tookFree).pending = s.pending := rfl
@[simp] theorem tookFree_now (s : State) : (s.tookFree).now = s.now := rfl
@[simp] theorem tookFree_undef (s : State) : (s.tookFree).undef = s.undef := rfl
@[simp] theorem tookFree_undefGen (s : State) : (s.tookFree).undefGen = s.undefGen := rfl
@[simp] theorem tookFree_resp (s : State) : (s.tookFree).resp = s.resp := rfl
@[simp] theorem tookFree_regs (s : State) : (s.tookFree).regs = s.regs := rfl
@[simp] theorem tookFree_srstEnds (s : State) : (s.tookFree).srstEnds = s.srstEnds := rfl
@[simp] theorem tookFree_live (s : State) : (s.tookFree).live = s.live := rfl
@[simp] theorem tookFree_staged (s : State) : (s.tookFree).staged = s.staged := rfl
@[simp] theorem tookFree_mem (s : State) : (s.tookFree).mem = s.mem := rfl
@[simp] theorem tookFree_bad (s : State) : (s.tookFree).bad = s.bad := rfl
@[simp] theorem tookFree_prog (s : State) : (s.tookFree).prog = s.prog := rfl
@[simp] theorem tookFree_tab (s : State) : (s.tookFree).tab = s.tab := rfl
@[simp] theorem tookFree_canAct (s : State) : (s.tookFree).canAct = s.canAct := rfl
@[simp] theorem tookFree_canShadow (s : State) : (s.tookFree).canShadow = s.canShadow := rfl
@[simp] theorem tookFree_j3 (s : State) : (s.tookFree).j3 = s.j3 := rfl
@[simp] theorem tookFree_cad (s : State) : (s.tookFree).cad = s.cad := rfl
@[simp] theorem tookFree_eng (s : State) : (s.tookFree).eng = s.eng := rfl
@[simp] theorem tookFree_sens (s : State) : (s.tookFree).sens = s.sens := rfl
@[simp] theorem tookFree_pwm (s : State) : (s.tookFree).pwm = s.pwm := rfl
@[simp] theorem tookFree_safe (s : State) : (s.tookFree).safe = s.safe := rfl
@[simp] theorem tookFree_pos (s : State) : (s.tookFree).pos = s.pos := rfl
@[simp] theorem tookFree_trac (s : State) : (s.tookFree).trac = s.trac := rfl
@[simp] theorem tookFree_conv (s : State) : (s.tookFree).conv = s.conv := rfl
@[simp] theorem tookFree_act (s : State) : (s.tookFree).act = s.act := rfl
@[simp] theorem tookFree_drl (s : State) : (s.tookFree).drl = s.drl := rfl
@[simp] theorem tookFree_tnd (s : State) : (s.tookFree).tnd = s.tnd := rfl
@[simp] theorem tookFree_net (s : State) : (s.tookFree).net = s.net := rfl
@[simp] theorem tookFree_rcd (s : State) : (s.tookFree).rcd = s.rcd := rfl
@[simp] theorem tookFree_pwr (s : State) : (s.tookFree).pwr = s.pwr := rfl
@[simp] theorem tookFree_sec (s : State) : (s.tookFree).sec = s.sec := rfl
@[simp] theorem tookFree_rd (s : State) (reg : Nat) : (s.tookFree).rd reg = s.rd reg := rfl
@[simp] theorem tookFree_fld (s : State) (fd : Fld) : (s.tookFree).fld fd = s.fld fd := rfl
@[simp] theorem tookFree_on (s : State) (fd : Fld) : (s.tookFree).on fd = s.on fd := rfl

/-! #### setCanA -/

@[simp] theorem setCanA_pending (s : State) (n k w : Nat) (v : Word) : (s.setCanA n k w v).pending = s.pending := rfl
@[simp] theorem setCanA_free (s : State) (n k w : Nat) (v : Word) : (s.setCanA n k w v).free = s.free := rfl
@[simp] theorem setCanA_resp (s : State) (n k w : Nat) (v : Word) : (s.setCanA n k w v).resp = s.resp := rfl
@[simp] theorem setCanA_regs (s : State) (n k w : Nat) (v : Word) : (s.setCanA n k w v).regs = s.regs := rfl
@[simp] theorem setCanA_live (s : State) (n k w : Nat) (v : Word) : (s.setCanA n k w v).live = s.live := rfl
@[simp] theorem setCanA_mem (s : State) (n k w : Nat) (v : Word) : (s.setCanA n k w v).mem = s.mem := rfl
@[simp] theorem setCanA_j3 (s : State) (n k w : Nat) (v : Word) : (s.setCanA n k w v).j3 = s.j3 := rfl
@[simp] theorem setCanA_cad (s : State) (n k w : Nat) (v : Word) : (s.setCanA n k w v).cad = s.cad := rfl
@[simp] theorem setCanA_rd (s : State) (n k w : Nat) (v : Word) (reg : Nat) : (s.setCanA n k w v).rd reg = s.rd reg := rfl
@[simp] theorem setCanA_fld (s : State) (n k w : Nat) (v : Word) (fd : Fld) : (s.setCanA n k w v).fld fd = s.fld fd := rfl
@[simp] theorem setCanA_on (s : State) (n k w : Nat) (v : Word) (fd : Fld) : (s.setCanA n k w v).on fd = s.on fd := rfl

/-! #### setCanS -/

@[simp] theorem setCanS_pending (s : State) (n k w : Nat) (v : Word) : (s.setCanS n k w v).pending = s.pending := rfl
@[simp] theorem setCanS_free (s : State) (n k w : Nat) (v : Word) : (s.setCanS n k w v).free = s.free := rfl
@[simp] theorem setCanS_resp (s : State) (n k w : Nat) (v : Word) : (s.setCanS n k w v).resp = s.resp := rfl
@[simp] theorem setCanS_regs (s : State) (n k w : Nat) (v : Word) : (s.setCanS n k w v).regs = s.regs := rfl
@[simp] theorem setCanS_live (s : State) (n k w : Nat) (v : Word) : (s.setCanS n k w v).live = s.live := rfl
@[simp] theorem setCanS_mem (s : State) (n k w : Nat) (v : Word) : (s.setCanS n k w v).mem = s.mem := rfl
@[simp] theorem setCanS_j3 (s : State) (n k w : Nat) (v : Word) : (s.setCanS n k w v).j3 = s.j3 := rfl
@[simp] theorem setCanS_cad (s : State) (n k w : Nat) (v : Word) : (s.setCanS n k w v).cad = s.cad := rfl
@[simp] theorem setCanS_rd (s : State) (n k w : Nat) (v : Word) (reg : Nat) : (s.setCanS n k w v).rd reg = s.rd reg := rfl
@[simp] theorem setCanS_fld (s : State) (n k w : Nat) (v : Word) (fd : Fld) : (s.setCanS n k w v).fld fd = s.fld fd := rfl
@[simp] theorem setCanS_on (s : State) (n k w : Nat) (v : Word) (fd : Fld) : (s.setCanS n k w v).on fd = s.on fd := rfl

/-! #### updAct -/

@[simp] theorem updAct_pending (s : State) (n : Nat) (f : ActRec → ActRec) : (s.updAct n f).pending = s.pending := rfl
@[simp] theorem updAct_free (s : State) (n : Nat) (f : ActRec → ActRec) : (s.updAct n f).free = s.free := rfl
@[simp] theorem updAct_resp (s : State) (n : Nat) (f : ActRec → ActRec) : (s.updAct n f).resp = s.resp := rfl
@[simp] theorem updAct_regs (s : State) (n : Nat) (f : ActRec → ActRec) : (s.updAct n f).regs = s.regs := rfl
@[simp] theorem updAct_live (s : State) (n : Nat) (f : ActRec → ActRec) : (s.updAct n f).live = s.live := rfl
@[simp] theorem updAct_mem (s : State) (n : Nat) (f : ActRec → ActRec) : (s.updAct n f).mem = s.mem := rfl
@[simp] theorem updAct_j3 (s : State) (n : Nat) (f : ActRec → ActRec) : (s.updAct n f).j3 = s.j3 := rfl
@[simp] theorem updAct_cad (s : State) (n : Nat) (f : ActRec → ActRec) : (s.updAct n f).cad = s.cad := rfl
@[simp] theorem updAct_rd (s : State) (n : Nat) (f : ActRec → ActRec) (reg : Nat) : (s.updAct n f).rd reg = s.rd reg := rfl
@[simp] theorem updAct_fld (s : State) (n : Nat) (f : ActRec → ActRec) (fd : Fld) : (s.updAct n f).fld fd = s.fld fd := rfl
@[simp] theorem updAct_on (s : State) (n : Nat) (f : ActRec → ActRec) (fd : Fld) : (s.updAct n f).on fd = s.on fd := rfl

/-! #### updAux -/

@[simp] theorem updAux_pending (s : State) (f : Aux → Aux) : (s.updAux f).pending = s.pending := rfl
@[simp] theorem updAux_free (s : State) (f : Aux → Aux) : (s.updAux f).free = s.free := rfl
@[simp] theorem updAux_resp (s : State) (f : Aux → Aux) : (s.updAux f).resp = s.resp := rfl
@[simp] theorem updAux_regs (s : State) (f : Aux → Aux) : (s.updAux f).regs = s.regs := rfl
@[simp] theorem updAux_live (s : State) (f : Aux → Aux) : (s.updAux f).live = s.live := rfl
@[simp] theorem updAux_mem (s : State) (f : Aux → Aux) : (s.updAux f).mem = s.mem := rfl
@[simp] theorem updAux_j3 (s : State) (f : Aux → Aux) : (s.updAux f).j3 = s.j3 := rfl
@[simp] theorem updAux_cad (s : State) (f : Aux → Aux) : (s.updAux f).cad = s.cad := rfl
@[simp] theorem updAux_rd (s : State) (f : Aux → Aux) (reg : Nat) : (s.updAux f).rd reg = s.rd reg := rfl
@[simp] theorem updAux_fld (s : State) (f : Aux → Aux) (fd : Fld) : (s.updAux f).fld fd = s.fld fd := rfl
@[simp] theorem updAux_on (s : State) (f : Aux → Aux) (fd : Fld) : (s.updAux f).on fd = s.on fd := rfl

/-! #### updCad -/

@[simp] theorem updCad_pending (s : State) (f : Cad → Cad) : (s.updCad f).pending = s.pending := rfl
@[simp] theorem updCad_free (s : State) (f : Cad → Cad) : (s.updCad f).free = s.free := rfl
@[simp] theorem updCad_resp (s : State) (f : Cad → Cad) : (s.updCad f).resp = s.resp := rfl
@[simp] theorem updCad_regs (s : State) (f : Cad → Cad) : (s.updCad f).regs = s.regs := rfl
@[simp] theorem updCad_live (s : State) (f : Cad → Cad) : (s.updCad f).live = s.live := rfl
@[simp] theorem updCad_mem (s : State) (f : Cad → Cad) : (s.updCad f).mem = s.mem := rfl
@[simp] theorem updCad_j3 (s : State) (f : Cad → Cad) : (s.updCad f).j3 = s.j3 := rfl
@[simp] theorem updCad_rd (s : State) (f : Cad → Cad) (reg : Nat) : (s.updCad f).rd reg = s.rd reg := rfl
@[simp] theorem updCad_fld (s : State) (f : Cad → Cad) (fd : Fld) : (s.updCad f).fld fd = s.fld fd := rfl
@[simp] theorem updCad_on (s : State) (f : Cad → Cad) (fd : Fld) : (s.updCad f).on fd = s.on fd := rfl

/-! #### updCan -/

@[simp] theorem updCan_pending (s : State) (n : Nat) (f : CanRec → CanRec) : (s.updCan n f).pending = s.pending := rfl
@[simp] theorem updCan_free (s : State) (n : Nat) (f : CanRec → CanRec) : (s.updCan n f).free = s.free := rfl
@[simp] theorem updCan_resp (s : State) (n : Nat) (f : CanRec → CanRec) : (s.updCan n f).resp = s.resp := rfl
@[simp] theorem updCan_regs (s : State) (n : Nat) (f : CanRec → CanRec) : (s.updCan n f).regs = s.regs := rfl
@[simp] theorem updCan_live (s : State) (n : Nat) (f : CanRec → CanRec) : (s.updCan n f).live = s.live := rfl
@[simp] theorem updCan_mem (s : State) (n : Nat) (f : CanRec → CanRec) : (s.updCan n f).mem = s.mem := rfl
@[simp] theorem updCan_j3 (s : State) (n : Nat) (f : CanRec → CanRec) : (s.updCan n f).j3 = s.j3 := rfl
@[simp] theorem updCan_cad (s : State) (n : Nat) (f : CanRec → CanRec) : (s.updCan n f).cad = s.cad := rfl
@[simp] theorem updCan_rd (s : State) (n : Nat) (f : CanRec → CanRec) (reg : Nat) : (s.updCan n f).rd reg = s.rd reg := rfl
@[simp] theorem updCan_fld (s : State) (n : Nat) (f : CanRec → CanRec) (fd : Fld) : (s.updCan n f).fld fd = s.fld fd := rfl
@[simp] theorem updCan_on (s : State) (n : Nat) (f : CanRec → CanRec) (fd : Fld) : (s.updCan n f).on fd = s.on fd := rfl

/-! #### updChan -/

@[simp] theorem updChan_pending (s : State) (c : Nat) (f : ChanRec → ChanRec) : (s.updChan c f).pending = s.pending := rfl
@[simp] theorem updChan_free (s : State) (c : Nat) (f : ChanRec → ChanRec) : (s.updChan c f).free = s.free := rfl
@[simp] theorem updChan_resp (s : State) (c : Nat) (f : ChanRec → ChanRec) : (s.updChan c f).resp = s.resp := rfl
@[simp] theorem updChan_regs (s : State) (c : Nat) (f : ChanRec → ChanRec) : (s.updChan c f).regs = s.regs := rfl
@[simp] theorem updChan_live (s : State) (c : Nat) (f : ChanRec → ChanRec) : (s.updChan c f).live = s.live := rfl
@[simp] theorem updChan_mem (s : State) (c : Nat) (f : ChanRec → ChanRec) : (s.updChan c f).mem = s.mem := rfl
@[simp] theorem updChan_j3 (s : State) (c : Nat) (f : ChanRec → ChanRec) : (s.updChan c f).j3 = s.j3 := rfl
@[simp] theorem updChan_cad (s : State) (c : Nat) (f : ChanRec → ChanRec) : (s.updChan c f).cad = s.cad := rfl
@[simp] theorem updChan_rd (s : State) (c : Nat) (f : ChanRec → ChanRec) (reg : Nat) : (s.updChan c f).rd reg = s.rd reg := rfl
@[simp] theorem updChan_fld (s : State) (c : Nat) (f : ChanRec → ChanRec) (fd : Fld) : (s.updChan c f).fld fd = s.fld fd := rfl
@[simp] theorem updChan_on (s : State) (c : Nat) (f : ChanRec → ChanRec) (fd : Fld) : (s.updChan c f).on fd = s.on fd := rfl

/-! #### updChg -/

@[simp] theorem updChg_pending (s : State) (f : Chg → Chg) : (s.updChg f).pending = s.pending := rfl
@[simp] theorem updChg_free (s : State) (f : Chg → Chg) : (s.updChg f).free = s.free := rfl
@[simp] theorem updChg_resp (s : State) (f : Chg → Chg) : (s.updChg f).resp = s.resp := rfl
@[simp] theorem updChg_regs (s : State) (f : Chg → Chg) : (s.updChg f).regs = s.regs := rfl
@[simp] theorem updChg_live (s : State) (f : Chg → Chg) : (s.updChg f).live = s.live := rfl
@[simp] theorem updChg_mem (s : State) (f : Chg → Chg) : (s.updChg f).mem = s.mem := rfl
@[simp] theorem updChg_j3 (s : State) (f : Chg → Chg) : (s.updChg f).j3 = s.j3 := rfl
@[simp] theorem updChg_cad (s : State) (f : Chg → Chg) : (s.updChg f).cad = s.cad := rfl
@[simp] theorem updChg_rd (s : State) (f : Chg → Chg) (reg : Nat) : (s.updChg f).rd reg = s.rd reg := rfl
@[simp] theorem updChg_fld (s : State) (f : Chg → Chg) (fd : Fld) : (s.updChg f).fld fd = s.fld fd := rfl
@[simp] theorem updChg_on (s : State) (f : Chg → Chg) (fd : Fld) : (s.updChg f).on fd = s.on fd := rfl

/-! #### updCtx -/

@[simp] theorem updCtx_pending (s : State) (c : Nat) (f : Ctx → Ctx) : (s.updCtx c f).pending = s.pending := rfl
@[simp] theorem updCtx_free (s : State) (c : Nat) (f : Ctx → Ctx) : (s.updCtx c f).free = s.free := rfl
@[simp] theorem updCtx_resp (s : State) (c : Nat) (f : Ctx → Ctx) : (s.updCtx c f).resp = s.resp := rfl
@[simp] theorem updCtx_regs (s : State) (c : Nat) (f : Ctx → Ctx) : (s.updCtx c f).regs = s.regs := rfl
@[simp] theorem updCtx_live (s : State) (c : Nat) (f : Ctx → Ctx) : (s.updCtx c f).live = s.live := rfl
@[simp] theorem updCtx_mem (s : State) (c : Nat) (f : Ctx → Ctx) : (s.updCtx c f).mem = s.mem := rfl
@[simp] theorem updCtx_j3 (s : State) (c : Nat) (f : Ctx → Ctx) : (s.updCtx c f).j3 = s.j3 := rfl
@[simp] theorem updCtx_cad (s : State) (c : Nat) (f : Ctx → Ctx) : (s.updCtx c f).cad = s.cad := rfl
@[simp] theorem updCtx_rd (s : State) (c : Nat) (f : Ctx → Ctx) (reg : Nat) : (s.updCtx c f).rd reg = s.rd reg := rfl
@[simp] theorem updCtx_fld (s : State) (c : Nat) (f : Ctx → Ctx) (fd : Fld) : (s.updCtx c f).fld fd = s.fld fd := rfl
@[simp] theorem updCtx_on (s : State) (c : Nat) (f : Ctx → Ctx) (fd : Fld) : (s.updCtx c f).on fd = s.on fd := rfl

/-! #### updDrl -/

@[simp] theorem updDrl_pending (s : State) (f : Drl → Drl) : (s.updDrl f).pending = s.pending := rfl
@[simp] theorem updDrl_free (s : State) (f : Drl → Drl) : (s.updDrl f).free = s.free := rfl
@[simp] theorem updDrl_resp (s : State) (f : Drl → Drl) : (s.updDrl f).resp = s.resp := rfl
@[simp] theorem updDrl_regs (s : State) (f : Drl → Drl) : (s.updDrl f).regs = s.regs := rfl
@[simp] theorem updDrl_live (s : State) (f : Drl → Drl) : (s.updDrl f).live = s.live := rfl
@[simp] theorem updDrl_mem (s : State) (f : Drl → Drl) : (s.updDrl f).mem = s.mem := rfl
@[simp] theorem updDrl_j3 (s : State) (f : Drl → Drl) : (s.updDrl f).j3 = s.j3 := rfl
@[simp] theorem updDrl_cad (s : State) (f : Drl → Drl) : (s.updDrl f).cad = s.cad := rfl
@[simp] theorem updDrl_rd (s : State) (f : Drl → Drl) (reg : Nat) : (s.updDrl f).rd reg = s.rd reg := rfl
@[simp] theorem updDrl_fld (s : State) (f : Drl → Drl) (fd : Fld) : (s.updDrl f).fld fd = s.fld fd := rfl
@[simp] theorem updDrl_on (s : State) (f : Drl → Drl) (fd : Fld) : (s.updDrl f).on fd = s.on fd := rfl

/-! #### updEmu -/

@[simp] theorem updEmu_pending (s : State) (e : Nat) (f : EmuRec → EmuRec) : (s.updEmu e f).pending = s.pending := rfl
@[simp] theorem updEmu_free (s : State) (e : Nat) (f : EmuRec → EmuRec) : (s.updEmu e f).free = s.free := rfl
@[simp] theorem updEmu_resp (s : State) (e : Nat) (f : EmuRec → EmuRec) : (s.updEmu e f).resp = s.resp := rfl
@[simp] theorem updEmu_regs (s : State) (e : Nat) (f : EmuRec → EmuRec) : (s.updEmu e f).regs = s.regs := rfl
@[simp] theorem updEmu_live (s : State) (e : Nat) (f : EmuRec → EmuRec) : (s.updEmu e f).live = s.live := rfl
@[simp] theorem updEmu_mem (s : State) (e : Nat) (f : EmuRec → EmuRec) : (s.updEmu e f).mem = s.mem := rfl
@[simp] theorem updEmu_j3 (s : State) (e : Nat) (f : EmuRec → EmuRec) : (s.updEmu e f).j3 = s.j3 := rfl
@[simp] theorem updEmu_cad (s : State) (e : Nat) (f : EmuRec → EmuRec) : (s.updEmu e f).cad = s.cad := rfl
@[simp] theorem updEmu_rd (s : State) (e : Nat) (f : EmuRec → EmuRec) (reg : Nat) : (s.updEmu e f).rd reg = s.rd reg := rfl
@[simp] theorem updEmu_fld (s : State) (e : Nat) (f : EmuRec → EmuRec) (fd : Fld) : (s.updEmu e f).fld fd = s.fld fd := rfl
@[simp] theorem updEmu_on (s : State) (e : Nat) (f : EmuRec → EmuRec) (fd : Fld) : (s.updEmu e f).on fd = s.on fd := rfl

/-! #### updEng -/

@[simp] theorem updEng_pending (s : State) (f : Eng → Eng) : (s.updEng f).pending = s.pending := rfl
@[simp] theorem updEng_free (s : State) (f : Eng → Eng) : (s.updEng f).free = s.free := rfl
@[simp] theorem updEng_resp (s : State) (f : Eng → Eng) : (s.updEng f).resp = s.resp := rfl
@[simp] theorem updEng_regs (s : State) (f : Eng → Eng) : (s.updEng f).regs = s.regs := rfl
@[simp] theorem updEng_live (s : State) (f : Eng → Eng) : (s.updEng f).live = s.live := rfl
@[simp] theorem updEng_mem (s : State) (f : Eng → Eng) : (s.updEng f).mem = s.mem := rfl
@[simp] theorem updEng_j3 (s : State) (f : Eng → Eng) : (s.updEng f).j3 = s.j3 := rfl
@[simp] theorem updEng_cad (s : State) (f : Eng → Eng) : (s.updEng f).cad = s.cad := rfl
@[simp] theorem updEng_rd (s : State) (f : Eng → Eng) (reg : Nat) : (s.updEng f).rd reg = s.rd reg := rfl
@[simp] theorem updEng_fld (s : State) (f : Eng → Eng) (fd : Fld) : (s.updEng f).fld fd = s.fld fd := rfl
@[simp] theorem updEng_on (s : State) (f : Eng → Eng) (fd : Fld) : (s.updEng f).on fd = s.on fd := rfl

/-! #### updEpt -/

@[simp] theorem updEpt_pending (s : State) (k : Nat) (f : EptRec → EptRec) : (s.updEpt k f).pending = s.pending := rfl
@[simp] theorem updEpt_free (s : State) (k : Nat) (f : EptRec → EptRec) : (s.updEpt k f).free = s.free := rfl
@[simp] theorem updEpt_resp (s : State) (k : Nat) (f : EptRec → EptRec) : (s.updEpt k f).resp = s.resp := rfl
@[simp] theorem updEpt_regs (s : State) (k : Nat) (f : EptRec → EptRec) : (s.updEpt k f).regs = s.regs := rfl
@[simp] theorem updEpt_live (s : State) (k : Nat) (f : EptRec → EptRec) : (s.updEpt k f).live = s.live := rfl
@[simp] theorem updEpt_mem (s : State) (k : Nat) (f : EptRec → EptRec) : (s.updEpt k f).mem = s.mem := rfl
@[simp] theorem updEpt_j3 (s : State) (k : Nat) (f : EptRec → EptRec) : (s.updEpt k f).j3 = s.j3 := rfl
@[simp] theorem updEpt_cad (s : State) (k : Nat) (f : EptRec → EptRec) : (s.updEpt k f).cad = s.cad := rfl
@[simp] theorem updEpt_rd (s : State) (k : Nat) (f : EptRec → EptRec) (reg : Nat) : (s.updEpt k f).rd reg = s.rd reg := rfl
@[simp] theorem updEpt_fld (s : State) (k : Nat) (f : EptRec → EptRec) (fd : Fld) : (s.updEpt k f).fld fd = s.fld fd := rfl
@[simp] theorem updEpt_on (s : State) (k : Nat) (f : EptRec → EptRec) (fd : Fld) : (s.updEpt k f).on fd = s.on fd := rfl

/-! #### updEth -/

@[simp] theorem updEth_pending (s : State) (n : Nat) (f : EthRec → EthRec) : (s.updEth n f).pending = s.pending := rfl
@[simp] theorem updEth_free (s : State) (n : Nat) (f : EthRec → EthRec) : (s.updEth n f).free = s.free := rfl
@[simp] theorem updEth_resp (s : State) (n : Nat) (f : EthRec → EthRec) : (s.updEth n f).resp = s.resp := rfl
@[simp] theorem updEth_regs (s : State) (n : Nat) (f : EthRec → EthRec) : (s.updEth n f).regs = s.regs := rfl
@[simp] theorem updEth_live (s : State) (n : Nat) (f : EthRec → EthRec) : (s.updEth n f).live = s.live := rfl
@[simp] theorem updEth_mem (s : State) (n : Nat) (f : EthRec → EthRec) : (s.updEth n f).mem = s.mem := rfl
@[simp] theorem updEth_j3 (s : State) (n : Nat) (f : EthRec → EthRec) : (s.updEth n f).j3 = s.j3 := rfl
@[simp] theorem updEth_cad (s : State) (n : Nat) (f : EthRec → EthRec) : (s.updEth n f).cad = s.cad := rfl
@[simp] theorem updEth_rd (s : State) (n : Nat) (f : EthRec → EthRec) (reg : Nat) : (s.updEth n f).rd reg = s.rd reg := rfl
@[simp] theorem updEth_fld (s : State) (n : Nat) (f : EthRec → EthRec) (fd : Fld) : (s.updEth n f).fld fd = s.fld fd := rfl
@[simp] theorem updEth_on (s : State) (n : Nat) (f : EthRec → EthRec) (fd : Fld) : (s.updEth n f).on fd = s.on fd := rfl

/-! #### updFast -/

@[simp] theorem updFast_pending (s : State) (c : Nat) (f : FastCh → FastCh) : (s.updFast c f).pending = s.pending := rfl
@[simp] theorem updFast_free (s : State) (c : Nat) (f : FastCh → FastCh) : (s.updFast c f).free = s.free := rfl
@[simp] theorem updFast_resp (s : State) (c : Nat) (f : FastCh → FastCh) : (s.updFast c f).resp = s.resp := rfl
@[simp] theorem updFast_regs (s : State) (c : Nat) (f : FastCh → FastCh) : (s.updFast c f).regs = s.regs := rfl
@[simp] theorem updFast_live (s : State) (c : Nat) (f : FastCh → FastCh) : (s.updFast c f).live = s.live := rfl
@[simp] theorem updFast_mem (s : State) (c : Nat) (f : FastCh → FastCh) : (s.updFast c f).mem = s.mem := rfl
@[simp] theorem updFast_j3 (s : State) (c : Nat) (f : FastCh → FastCh) : (s.updFast c f).j3 = s.j3 := rfl
@[simp] theorem updFast_cad (s : State) (c : Nat) (f : FastCh → FastCh) : (s.updFast c f).cad = s.cad := rfl
@[simp] theorem updFast_rd (s : State) (c : Nat) (f : FastCh → FastCh) (reg : Nat) : (s.updFast c f).rd reg = s.rd reg := rfl
@[simp] theorem updFast_fld (s : State) (c : Nat) (f : FastCh → FastCh) (fd : Fld) : (s.updFast c f).fld fd = s.fld fd := rfl
@[simp] theorem updFast_on (s : State) (c : Nat) (f : FastCh → FastCh) (fd : Fld) : (s.updFast c f).on fd = s.on fd := rfl

/-! #### updGrp -/

@[simp] theorem updGrp_pending (s : State) (g : Nat) (f : Group → Group) : (s.updGrp g f).pending = s.pending := rfl
@[simp] theorem updGrp_free (s : State) (g : Nat) (f : Group → Group) : (s.updGrp g f).free = s.free := rfl
@[simp] theorem updGrp_resp (s : State) (g : Nat) (f : Group → Group) : (s.updGrp g f).resp = s.resp := rfl
@[simp] theorem updGrp_regs (s : State) (g : Nat) (f : Group → Group) : (s.updGrp g f).regs = s.regs := rfl
@[simp] theorem updGrp_live (s : State) (g : Nat) (f : Group → Group) : (s.updGrp g f).live = s.live := rfl
@[simp] theorem updGrp_mem (s : State) (g : Nat) (f : Group → Group) : (s.updGrp g f).mem = s.mem := rfl
@[simp] theorem updGrp_j3 (s : State) (g : Nat) (f : Group → Group) : (s.updGrp g f).j3 = s.j3 := rfl
@[simp] theorem updGrp_cad (s : State) (g : Nat) (f : Group → Group) : (s.updGrp g f).cad = s.cad := rfl
@[simp] theorem updGrp_rd (s : State) (g : Nat) (f : Group → Group) (reg : Nat) : (s.updGrp g f).rd reg = s.rd reg := rfl
@[simp] theorem updGrp_fld (s : State) (g : Nat) (f : Group → Group) (fd : Fld) : (s.updGrp g f).fld fd = s.fld fd := rfl
@[simp] theorem updGrp_on (s : State) (g : Nat) (f : Group → Group) (fd : Fld) : (s.updGrp g f).on fd = s.on fd := rfl

/-! #### updHsp -/

@[simp] theorem updHsp_pending (s : State) (f : HspRec → HspRec) : (s.updHsp f).pending = s.pending := rfl
@[simp] theorem updHsp_free (s : State) (f : HspRec → HspRec) : (s.updHsp f).free = s.free := rfl
@[simp] theorem updHsp_resp (s : State) (f : HspRec → HspRec) : (s.updHsp f).resp = s.resp := rfl
@[simp] theorem updHsp_regs (s : State) (f : HspRec → HspRec) : (s.updHsp f).regs = s.regs := rfl
@[simp] theorem updHsp_live (s : State) (f : HspRec → HspRec) : (s.updHsp f).live = s.live := rfl
@[simp] theorem updHsp_mem (s : State) (f : HspRec → HspRec) : (s.updHsp f).mem = s.mem := rfl
@[simp] theorem updHsp_j3 (s : State) (f : HspRec → HspRec) : (s.updHsp f).j3 = s.j3 := rfl
@[simp] theorem updHsp_cad (s : State) (f : HspRec → HspRec) : (s.updHsp f).cad = s.cad := rfl
@[simp] theorem updHsp_rd (s : State) (f : HspRec → HspRec) (reg : Nat) : (s.updHsp f).rd reg = s.rd reg := rfl
@[simp] theorem updHsp_fld (s : State) (f : HspRec → HspRec) (fd : Fld) : (s.updHsp f).fld fd = s.fld fd := rfl
@[simp] theorem updHsp_on (s : State) (f : HspRec → HspRec) (fd : Fld) : (s.updHsp f).on fd = s.on fd := rfl

/-! #### updLane -/

@[simp] theorem updLane_pending (s : State) (n : Nat) (f : Lane → Lane) : (s.updLane n f).pending = s.pending := rfl
@[simp] theorem updLane_free (s : State) (n : Nat) (f : Lane → Lane) : (s.updLane n f).free = s.free := rfl
@[simp] theorem updLane_resp (s : State) (n : Nat) (f : Lane → Lane) : (s.updLane n f).resp = s.resp := rfl
@[simp] theorem updLane_regs (s : State) (n : Nat) (f : Lane → Lane) : (s.updLane n f).regs = s.regs := rfl
@[simp] theorem updLane_live (s : State) (n : Nat) (f : Lane → Lane) : (s.updLane n f).live = s.live := rfl
@[simp] theorem updLane_mem (s : State) (n : Nat) (f : Lane → Lane) : (s.updLane n f).mem = s.mem := rfl
@[simp] theorem updLane_j3 (s : State) (n : Nat) (f : Lane → Lane) : (s.updLane n f).j3 = s.j3 := rfl
@[simp] theorem updLane_cad (s : State) (n : Nat) (f : Lane → Lane) : (s.updLane n f).cad = s.cad := rfl
@[simp] theorem updLane_rd (s : State) (n : Nat) (f : Lane → Lane) (reg : Nat) : (s.updLane n f).rd reg = s.rd reg := rfl
@[simp] theorem updLane_fld (s : State) (n : Nat) (f : Lane → Lane) (fd : Fld) : (s.updLane n f).fld fd = s.fld fd := rfl
@[simp] theorem updLane_on (s : State) (n : Nat) (f : Lane → Lane) (fd : Fld) : (s.updLane n f).on fd = s.on fd := rfl

/-! #### updLeg -/

@[simp] theorem updLeg_pending (s : State) (l : Nat) (f : Leg → Leg) : (s.updLeg l f).pending = s.pending := rfl
@[simp] theorem updLeg_free (s : State) (l : Nat) (f : Leg → Leg) : (s.updLeg l f).free = s.free := rfl
@[simp] theorem updLeg_resp (s : State) (l : Nat) (f : Leg → Leg) : (s.updLeg l f).resp = s.resp := rfl
@[simp] theorem updLeg_regs (s : State) (l : Nat) (f : Leg → Leg) : (s.updLeg l f).regs = s.regs := rfl
@[simp] theorem updLeg_live (s : State) (l : Nat) (f : Leg → Leg) : (s.updLeg l f).live = s.live := rfl
@[simp] theorem updLeg_mem (s : State) (l : Nat) (f : Leg → Leg) : (s.updLeg l f).mem = s.mem := rfl
@[simp] theorem updLeg_j3 (s : State) (l : Nat) (f : Leg → Leg) : (s.updLeg l f).j3 = s.j3 := rfl
@[simp] theorem updLeg_cad (s : State) (l : Nat) (f : Leg → Leg) : (s.updLeg l f).cad = s.cad := rfl
@[simp] theorem updLeg_rd (s : State) (l : Nat) (f : Leg → Leg) (reg : Nat) : (s.updLeg l f).rd reg = s.rd reg := rfl
@[simp] theorem updLeg_fld (s : State) (l : Nat) (f : Leg → Leg) (fd : Fld) : (s.updLeg l f).fld fd = s.fld fd := rfl
@[simp] theorem updLeg_on (s : State) (l : Nat) (f : Leg → Leg) (fd : Fld) : (s.updLeg l f).on fd = s.on fd := rfl

/-! #### updLink -/

@[simp] theorem updLink_pending (s : State) (k : Nat) (f : Link → Link) : (s.updLink k f).pending = s.pending := rfl
@[simp] theorem updLink_free (s : State) (k : Nat) (f : Link → Link) : (s.updLink k f).free = s.free := rfl
@[simp] theorem updLink_resp (s : State) (k : Nat) (f : Link → Link) : (s.updLink k f).resp = s.resp := rfl
@[simp] theorem updLink_regs (s : State) (k : Nat) (f : Link → Link) : (s.updLink k f).regs = s.regs := rfl
@[simp] theorem updLink_live (s : State) (k : Nat) (f : Link → Link) : (s.updLink k f).live = s.live := rfl
@[simp] theorem updLink_mem (s : State) (k : Nat) (f : Link → Link) : (s.updLink k f).mem = s.mem := rfl
@[simp] theorem updLink_j3 (s : State) (k : Nat) (f : Link → Link) : (s.updLink k f).j3 = s.j3 := rfl
@[simp] theorem updLink_cad (s : State) (k : Nat) (f : Link → Link) : (s.updLink k f).cad = s.cad := rfl
@[simp] theorem updLink_rd (s : State) (k : Nat) (f : Link → Link) (reg : Nat) : (s.updLink k f).rd reg = s.rd reg := rfl
@[simp] theorem updLink_fld (s : State) (k : Nat) (f : Link → Link) (fd : Fld) : (s.updLink k f).fld fd = s.fld fd := rfl
@[simp] theorem updLink_on (s : State) (k : Nat) (f : Link → Link) (fd : Fld) : (s.updLink k f).on fd = s.on fd := rfl

/-! #### updMon -/

@[simp] theorem updMon_pending (s : State) (k : Nat) (f : Mon → Mon) : (s.updMon k f).pending = s.pending := rfl
@[simp] theorem updMon_free (s : State) (k : Nat) (f : Mon → Mon) : (s.updMon k f).free = s.free := rfl
@[simp] theorem updMon_resp (s : State) (k : Nat) (f : Mon → Mon) : (s.updMon k f).resp = s.resp := rfl
@[simp] theorem updMon_regs (s : State) (k : Nat) (f : Mon → Mon) : (s.updMon k f).regs = s.regs := rfl
@[simp] theorem updMon_live (s : State) (k : Nat) (f : Mon → Mon) : (s.updMon k f).live = s.live := rfl
@[simp] theorem updMon_mem (s : State) (k : Nat) (f : Mon → Mon) : (s.updMon k f).mem = s.mem := rfl
@[simp] theorem updMon_j3 (s : State) (k : Nat) (f : Mon → Mon) : (s.updMon k f).j3 = s.j3 := rfl
@[simp] theorem updMon_cad (s : State) (k : Nat) (f : Mon → Mon) : (s.updMon k f).cad = s.cad := rfl
@[simp] theorem updMon_rd (s : State) (k : Nat) (f : Mon → Mon) (reg : Nat) : (s.updMon k f).rd reg = s.rd reg := rfl
@[simp] theorem updMon_fld (s : State) (k : Nat) (f : Mon → Mon) (fd : Fld) : (s.updMon k f).fld fd = s.fld fd := rfl
@[simp] theorem updMon_on (s : State) (k : Nat) (f : Mon → Mon) (fd : Fld) : (s.updMon k f).on fd = s.on fd := rfl

/-! #### updNet -/

@[simp] theorem updNet_pending (s : State) (f : Net → Net) : (s.updNet f).pending = s.pending := rfl
@[simp] theorem updNet_free (s : State) (f : Net → Net) : (s.updNet f).free = s.free := rfl
@[simp] theorem updNet_resp (s : State) (f : Net → Net) : (s.updNet f).resp = s.resp := rfl
@[simp] theorem updNet_regs (s : State) (f : Net → Net) : (s.updNet f).regs = s.regs := rfl
@[simp] theorem updNet_live (s : State) (f : Net → Net) : (s.updNet f).live = s.live := rfl
@[simp] theorem updNet_mem (s : State) (f : Net → Net) : (s.updNet f).mem = s.mem := rfl
@[simp] theorem updNet_j3 (s : State) (f : Net → Net) : (s.updNet f).j3 = s.j3 := rfl
@[simp] theorem updNet_cad (s : State) (f : Net → Net) : (s.updNet f).cad = s.cad := rfl
@[simp] theorem updNet_rd (s : State) (f : Net → Net) (reg : Nat) : (s.updNet f).rd reg = s.rd reg := rfl
@[simp] theorem updNet_fld (s : State) (f : Net → Net) (fd : Fld) : (s.updNet f).fld fd = s.fld fd := rfl
@[simp] theorem updNet_on (s : State) (f : Net → Net) (fd : Fld) : (s.updNet f).on fd = s.on fd := rfl

/-! #### updPos -/

@[simp] theorem updPos_pending (s : State) (p : Nat) (f : PosRec → PosRec) : (s.updPos p f).pending = s.pending := rfl
@[simp] theorem updPos_free (s : State) (p : Nat) (f : PosRec → PosRec) : (s.updPos p f).free = s.free := rfl
@[simp] theorem updPos_resp (s : State) (p : Nat) (f : PosRec → PosRec) : (s.updPos p f).resp = s.resp := rfl
@[simp] theorem updPos_regs (s : State) (p : Nat) (f : PosRec → PosRec) : (s.updPos p f).regs = s.regs := rfl
@[simp] theorem updPos_live (s : State) (p : Nat) (f : PosRec → PosRec) : (s.updPos p f).live = s.live := rfl
@[simp] theorem updPos_mem (s : State) (p : Nat) (f : PosRec → PosRec) : (s.updPos p f).mem = s.mem := rfl
@[simp] theorem updPos_j3 (s : State) (p : Nat) (f : PosRec → PosRec) : (s.updPos p f).j3 = s.j3 := rfl
@[simp] theorem updPos_cad (s : State) (p : Nat) (f : PosRec → PosRec) : (s.updPos p f).cad = s.cad := rfl
@[simp] theorem updPos_rd (s : State) (p : Nat) (f : PosRec → PosRec) (reg : Nat) : (s.updPos p f).rd reg = s.rd reg := rfl
@[simp] theorem updPos_fld (s : State) (p : Nat) (f : PosRec → PosRec) (fd : Fld) : (s.updPos p f).fld fd = s.fld fd := rfl
@[simp] theorem updPos_on (s : State) (p : Nat) (f : PosRec → PosRec) (fd : Fld) : (s.updPos p f).on fd = s.on fd := rfl

/-! #### updPwr -/

@[simp] theorem updPwr_pending (s : State) (f : Pwr → Pwr) : (s.updPwr f).pending = s.pending := rfl
@[simp] theorem updPwr_free (s : State) (f : Pwr → Pwr) : (s.updPwr f).free = s.free := rfl
@[simp] theorem updPwr_resp (s : State) (f : Pwr → Pwr) : (s.updPwr f).resp = s.resp := rfl
@[simp] theorem updPwr_regs (s : State) (f : Pwr → Pwr) : (s.updPwr f).regs = s.regs := rfl
@[simp] theorem updPwr_live (s : State) (f : Pwr → Pwr) : (s.updPwr f).live = s.live := rfl
@[simp] theorem updPwr_mem (s : State) (f : Pwr → Pwr) : (s.updPwr f).mem = s.mem := rfl
@[simp] theorem updPwr_j3 (s : State) (f : Pwr → Pwr) : (s.updPwr f).j3 = s.j3 := rfl
@[simp] theorem updPwr_cad (s : State) (f : Pwr → Pwr) : (s.updPwr f).cad = s.cad := rfl
@[simp] theorem updPwr_rd (s : State) (f : Pwr → Pwr) (reg : Nat) : (s.updPwr f).rd reg = s.rd reg := rfl
@[simp] theorem updPwr_fld (s : State) (f : Pwr → Pwr) (fd : Fld) : (s.updPwr f).fld fd = s.fld fd := rfl
@[simp] theorem updPwr_on (s : State) (f : Pwr → Pwr) (fd : Fld) : (s.updPwr f).on fd = s.on fd := rfl

/-! #### updRec -/

@[simp] theorem updRec_pending (s : State) (f : Rec → Rec) : (s.updRec f).pending = s.pending := rfl
@[simp] theorem updRec_free (s : State) (f : Rec → Rec) : (s.updRec f).free = s.free := rfl
@[simp] theorem updRec_resp (s : State) (f : Rec → Rec) : (s.updRec f).resp = s.resp := rfl
@[simp] theorem updRec_regs (s : State) (f : Rec → Rec) : (s.updRec f).regs = s.regs := rfl
@[simp] theorem updRec_live (s : State) (f : Rec → Rec) : (s.updRec f).live = s.live := rfl
@[simp] theorem updRec_mem (s : State) (f : Rec → Rec) : (s.updRec f).mem = s.mem := rfl
@[simp] theorem updRec_j3 (s : State) (f : Rec → Rec) : (s.updRec f).j3 = s.j3 := rfl
@[simp] theorem updRec_cad (s : State) (f : Rec → Rec) : (s.updRec f).cad = s.cad := rfl
@[simp] theorem updRec_rd (s : State) (f : Rec → Rec) (reg : Nat) : (s.updRec f).rd reg = s.rd reg := rfl
@[simp] theorem updRec_fld (s : State) (f : Rec → Rec) (fd : Fld) : (s.updRec f).fld fd = s.fld fd := rfl
@[simp] theorem updRec_on (s : State) (f : Rec → Rec) (fd : Fld) : (s.updRec f).on fd = s.on fd := rfl

/-! #### updSafe -/

@[simp] theorem updSafe_pending (s : State) (f : Safe → Safe) : (s.updSafe f).pending = s.pending := rfl
@[simp] theorem updSafe_free (s : State) (f : Safe → Safe) : (s.updSafe f).free = s.free := rfl
@[simp] theorem updSafe_resp (s : State) (f : Safe → Safe) : (s.updSafe f).resp = s.resp := rfl
@[simp] theorem updSafe_regs (s : State) (f : Safe → Safe) : (s.updSafe f).regs = s.regs := rfl
@[simp] theorem updSafe_live (s : State) (f : Safe → Safe) : (s.updSafe f).live = s.live := rfl
@[simp] theorem updSafe_mem (s : State) (f : Safe → Safe) : (s.updSafe f).mem = s.mem := rfl
@[simp] theorem updSafe_j3 (s : State) (f : Safe → Safe) : (s.updSafe f).j3 = s.j3 := rfl
@[simp] theorem updSafe_cad (s : State) (f : Safe → Safe) : (s.updSafe f).cad = s.cad := rfl
@[simp] theorem updSafe_rd (s : State) (f : Safe → Safe) (reg : Nat) : (s.updSafe f).rd reg = s.rd reg := rfl
@[simp] theorem updSafe_fld (s : State) (f : Safe → Safe) (fd : Fld) : (s.updSafe f).fld fd = s.fld fd := rfl
@[simp] theorem updSafe_on (s : State) (f : Safe → Safe) (fd : Fld) : (s.updSafe f).on fd = s.on fd := rfl

/-! #### updSec -/

@[simp] theorem updSec_pending (s : State) (f : Sec → Sec) : (s.updSec f).pending = s.pending := rfl
@[simp] theorem updSec_free (s : State) (f : Sec → Sec) : (s.updSec f).free = s.free := rfl
@[simp] theorem updSec_resp (s : State) (f : Sec → Sec) : (s.updSec f).resp = s.resp := rfl
@[simp] theorem updSec_regs (s : State) (f : Sec → Sec) : (s.updSec f).regs = s.regs := rfl
@[simp] theorem updSec_live (s : State) (f : Sec → Sec) : (s.updSec f).live = s.live := rfl
@[simp] theorem updSec_mem (s : State) (f : Sec → Sec) : (s.updSec f).mem = s.mem := rfl
@[simp] theorem updSec_j3 (s : State) (f : Sec → Sec) : (s.updSec f).j3 = s.j3 := rfl
@[simp] theorem updSec_cad (s : State) (f : Sec → Sec) : (s.updSec f).cad = s.cad := rfl
@[simp] theorem updSec_rd (s : State) (f : Sec → Sec) (reg : Nat) : (s.updSec f).rd reg = s.rd reg := rfl
@[simp] theorem updSec_fld (s : State) (f : Sec → Sec) (fd : Fld) : (s.updSec f).fld fd = s.fld fd := rfl
@[simp] theorem updSec_on (s : State) (f : Sec → Sec) (fd : Fld) : (s.updSec f).on fd = s.on fd := rfl

/-! #### updSens -/

@[simp] theorem updSens_pending (s : State) (f : Sens → Sens) : (s.updSens f).pending = s.pending := rfl
@[simp] theorem updSens_free (s : State) (f : Sens → Sens) : (s.updSens f).free = s.free := rfl
@[simp] theorem updSens_resp (s : State) (f : Sens → Sens) : (s.updSens f).resp = s.resp := rfl
@[simp] theorem updSens_regs (s : State) (f : Sens → Sens) : (s.updSens f).regs = s.regs := rfl
@[simp] theorem updSens_live (s : State) (f : Sens → Sens) : (s.updSens f).live = s.live := rfl
@[simp] theorem updSens_mem (s : State) (f : Sens → Sens) : (s.updSens f).mem = s.mem := rfl
@[simp] theorem updSens_j3 (s : State) (f : Sens → Sens) : (s.updSens f).j3 = s.j3 := rfl
@[simp] theorem updSens_cad (s : State) (f : Sens → Sens) : (s.updSens f).cad = s.cad := rfl
@[simp] theorem updSens_rd (s : State) (f : Sens → Sens) (reg : Nat) : (s.updSens f).rd reg = s.rd reg := rfl
@[simp] theorem updSens_fld (s : State) (f : Sens → Sens) (fd : Fld) : (s.updSens f).fld fd = s.fld fd := rfl
@[simp] theorem updSens_on (s : State) (f : Sens → Sens) (fd : Fld) : (s.updSens f).on fd = s.on fd := rfl

/-! #### updSo -/

@[simp] theorem updSo_pending (s : State) (m : Nat) (f : SoRec → SoRec) : (s.updSo m f).pending = s.pending := rfl
@[simp] theorem updSo_free (s : State) (m : Nat) (f : SoRec → SoRec) : (s.updSo m f).free = s.free := rfl
@[simp] theorem updSo_resp (s : State) (m : Nat) (f : SoRec → SoRec) : (s.updSo m f).resp = s.resp := rfl
@[simp] theorem updSo_regs (s : State) (m : Nat) (f : SoRec → SoRec) : (s.updSo m f).regs = s.regs := rfl
@[simp] theorem updSo_live (s : State) (m : Nat) (f : SoRec → SoRec) : (s.updSo m f).live = s.live := rfl
@[simp] theorem updSo_mem (s : State) (m : Nat) (f : SoRec → SoRec) : (s.updSo m f).mem = s.mem := rfl
@[simp] theorem updSo_j3 (s : State) (m : Nat) (f : SoRec → SoRec) : (s.updSo m f).j3 = s.j3 := rfl
@[simp] theorem updSo_cad (s : State) (m : Nat) (f : SoRec → SoRec) : (s.updSo m f).cad = s.cad := rfl
@[simp] theorem updSo_rd (s : State) (m : Nat) (f : SoRec → SoRec) (reg : Nat) : (s.updSo m f).rd reg = s.rd reg := rfl
@[simp] theorem updSo_fld (s : State) (m : Nat) (f : SoRec → SoRec) (fd : Fld) : (s.updSo m f).fld fd = s.fld fd := rfl
@[simp] theorem updSo_on (s : State) (m : Nat) (f : SoRec → SoRec) (fd : Fld) : (s.updSo m f).on fd = s.on fd := rfl

/-! #### updSrc -/

@[simp] theorem updSrc_pending (s : State) (g : Nat) (f : WinSrc → WinSrc) : (s.updSrc g f).pending = s.pending := rfl
@[simp] theorem updSrc_free (s : State) (g : Nat) (f : WinSrc → WinSrc) : (s.updSrc g f).free = s.free := rfl
@[simp] theorem updSrc_resp (s : State) (g : Nat) (f : WinSrc → WinSrc) : (s.updSrc g f).resp = s.resp := rfl
@[simp] theorem updSrc_regs (s : State) (g : Nat) (f : WinSrc → WinSrc) : (s.updSrc g f).regs = s.regs := rfl
@[simp] theorem updSrc_live (s : State) (g : Nat) (f : WinSrc → WinSrc) : (s.updSrc g f).live = s.live := rfl
@[simp] theorem updSrc_mem (s : State) (g : Nat) (f : WinSrc → WinSrc) : (s.updSrc g f).mem = s.mem := rfl
@[simp] theorem updSrc_j3 (s : State) (g : Nat) (f : WinSrc → WinSrc) : (s.updSrc g f).j3 = s.j3 := rfl
@[simp] theorem updSrc_cad (s : State) (g : Nat) (f : WinSrc → WinSrc) : (s.updSrc g f).cad = s.cad := rfl
@[simp] theorem updSrc_rd (s : State) (g : Nat) (f : WinSrc → WinSrc) (reg : Nat) : (s.updSrc g f).rd reg = s.rd reg := rfl
@[simp] theorem updSrc_fld (s : State) (g : Nat) (f : WinSrc → WinSrc) (fd : Fld) : (s.updSrc g f).fld fd = s.fld fd := rfl
@[simp] theorem updSrc_on (s : State) (g : Nat) (f : WinSrc → WinSrc) (fd : Fld) : (s.updSrc g f).on fd = s.on fd := rfl

/-! #### updTnd -/

@[simp] theorem updTnd_pending (s : State) (p : Nat) (f : TndRec → TndRec) : (s.updTnd p f).pending = s.pending := rfl
@[simp] theorem updTnd_free (s : State) (p : Nat) (f : TndRec → TndRec) : (s.updTnd p f).free = s.free := rfl
@[simp] theorem updTnd_resp (s : State) (p : Nat) (f : TndRec → TndRec) : (s.updTnd p f).resp = s.resp := rfl
@[simp] theorem updTnd_regs (s : State) (p : Nat) (f : TndRec → TndRec) : (s.updTnd p f).regs = s.regs := rfl
@[simp] theorem updTnd_live (s : State) (p : Nat) (f : TndRec → TndRec) : (s.updTnd p f).live = s.live := rfl
@[simp] theorem updTnd_mem (s : State) (p : Nat) (f : TndRec → TndRec) : (s.updTnd p f).mem = s.mem := rfl
@[simp] theorem updTnd_j3 (s : State) (p : Nat) (f : TndRec → TndRec) : (s.updTnd p f).j3 = s.j3 := rfl
@[simp] theorem updTnd_cad (s : State) (p : Nat) (f : TndRec → TndRec) : (s.updTnd p f).cad = s.cad := rfl
@[simp] theorem updTnd_rd (s : State) (p : Nat) (f : TndRec → TndRec) (reg : Nat) : (s.updTnd p f).rd reg = s.rd reg := rfl
@[simp] theorem updTnd_fld (s : State) (p : Nat) (f : TndRec → TndRec) (fd : Fld) : (s.updTnd p f).fld fd = s.fld fd := rfl
@[simp] theorem updTnd_on (s : State) (p : Nat) (f : TndRec → TndRec) (fd : Fld) : (s.updTnd p f).on fd = s.on fd := rfl

/-! #### updTrac -/

@[simp] theorem updTrac_pending (s : State) (n : Nat) (f : TracRec → TracRec) : (s.updTrac n f).pending = s.pending := rfl
@[simp] theorem updTrac_free (s : State) (n : Nat) (f : TracRec → TracRec) : (s.updTrac n f).free = s.free := rfl
@[simp] theorem updTrac_resp (s : State) (n : Nat) (f : TracRec → TracRec) : (s.updTrac n f).resp = s.resp := rfl
@[simp] theorem updTrac_regs (s : State) (n : Nat) (f : TracRec → TracRec) : (s.updTrac n f).regs = s.regs := rfl
@[simp] theorem updTrac_live (s : State) (n : Nat) (f : TracRec → TracRec) : (s.updTrac n f).live = s.live := rfl
@[simp] theorem updTrac_mem (s : State) (n : Nat) (f : TracRec → TracRec) : (s.updTrac n f).mem = s.mem := rfl
@[simp] theorem updTrac_j3 (s : State) (n : Nat) (f : TracRec → TracRec) : (s.updTrac n f).j3 = s.j3 := rfl
@[simp] theorem updTrac_cad (s : State) (n : Nat) (f : TracRec → TracRec) : (s.updTrac n f).cad = s.cad := rfl
@[simp] theorem updTrac_rd (s : State) (n : Nat) (f : TracRec → TracRec) (reg : Nat) : (s.updTrac n f).rd reg = s.rd reg := rfl
@[simp] theorem updTrac_fld (s : State) (n : Nat) (f : TracRec → TracRec) (fd : Fld) : (s.updTrac n f).fld fd = s.fld fd := rfl
@[simp] theorem updTrac_on (s : State) (n : Nat) (f : TracRec → TracRec) (fd : Fld) : (s.updTrac n f).on fd = s.on fd := rfl

end State
end Sys2Proof.Machine
end

