-- ==== Sys2Proof/Laws/Store.lean ====
section
/-!
SUPPORT. The laws of the sparse stores: a read after a write, and the canonical form, which every operation on a store keeps.
-/
namespace Sys2Proof.Machine.Store

variable {α : Type}

theorem read_insert (d : Nat → α) (k : Nat) (v : α) (m : Store α) (j : Nat) :
    read d (insert k v m) j = if j = k then v else read d m j := by
  induction m with
  | nil => simp only [insert, read, eq_comm]
  | cons e m ih =>
    obtain ⟨a, w⟩ := e
    simp only [insert]
    split
    · simp only [read, eq_comm]
    · split
      · rename_i h; subst h; simp only [read]; grind
      · simp only [read, ih]; grind

theorem read_erase (d : Nat → α) (k : Nat) (m : Store α) (j : Nat) :
    read d (erase k m) j = if j = k then d j else read d m j := by
  induction m with
  | nil => simp only [erase, read, ite_self]
  | cons e m ih =>
    obtain ⟨a, w⟩ := e
    simp only [erase]
    split <;> simp only [read, ih] <;> grind

/-- A read after a write: the value written at its key, and every other key as before. -/
theorem read_write [DecidableEq α] (d : Nat → α) (m : Store α) (k : Nat) (v : α) (j : Nat) :
    read d (write d m k v) j = if j = k then v else read d m j := by
  unfold write
  split
  · rw [read_erase]; grind
  · rw [read_insert]

theorem read_write_same [DecidableEq α] (d : Nat → α) (m : Store α) (k : Nat) (v : α) : read d (write d m k v) k = v := by
  simp [read_write]

theorem read_write_ne [DecidableEq α] (d : Nat → α) (m : Store α) {k j : Nat} (h : j ≠ k) (v : α) :
    read d (write d m k v) j = read d m j := by
  simp [read_write, h]

theorem read_removeIf (d : Nat → α) (p : Nat → Bool) (m : Store α) (j : Nat) :
    read d (removeIf p m) j = if p j then d j else read d m j := by
  induction m with
  | nil => simp only [removeIf, read, ite_self]
  | cons e m ih =>
    obtain ⟨a, w⟩ := e
    simp only [removeIf]
    split <;> simp only [read, ih] <;> grind

/-! ### The canonical form -/

theorem wfFrom_mono [DecidableEq α] {d : Nat → α} {b c : Nat} (h : b ≤ c) : ∀ {m : Store α}, wfFrom d c m = true → wfFrom d b m = true
  | [], _ => rfl
  | (_, _) :: _, hm => by
    simp only [wfFrom, Bool.and_eq_true, decide_eq_true_eq] at hm ⊢
    exact ⟨⟨by omega, hm.1.2⟩, hm.2⟩

theorem wfFrom_insert [DecidableEq α] {d : Nat → α} {k : Nat} {v : α} (hv : v ≠ d k) :
    ∀ {m : Store α} {b : Nat}, b ≤ k → wfFrom d b m = true → wfFrom d b (insert k v m) = true
  | [], b, hb, _ => by simp [insert, wfFrom, hb, hv]
  | (a, w) :: m, b, hb, hm => by
    simp only [wfFrom, Bool.and_eq_true, decide_eq_true_eq] at hm
    simp only [insert]
    split
    · rename_i h
      simp only [wfFrom, Bool.and_eq_true, decide_eq_true_eq]
      exact ⟨⟨hb, hv⟩, ⟨by omega, hm.1.2⟩, hm.2⟩
    · split
      · rename_i h; subst h
        simp only [wfFrom, Bool.and_eq_true, decide_eq_true_eq]
        exact ⟨⟨hb, hv⟩, hm.2⟩
      · simp only [wfFrom, Bool.and_eq_true, decide_eq_true_eq]
        exact ⟨hm.1, wfFrom_insert hv (by omega) hm.2⟩

theorem wfFrom_erase [DecidableEq α] {d : Nat → α} {k : Nat} :
    ∀ {m : Store α} {b : Nat}, wfFrom d b m = true → wfFrom d b (erase k m) = true
  | [], _, _ => rfl
  | (a, w) :: m, b, hm => by
    simp only [wfFrom, Bool.and_eq_true, decide_eq_true_eq] at hm
    simp only [erase]
    split
    · exact wfFrom_mono (by omega) (wfFrom_erase hm.2)
    · simp only [wfFrom, Bool.and_eq_true, decide_eq_true_eq]
      exact ⟨hm.1, wfFrom_erase hm.2⟩

/-- A write keeps the canonical form. -/
theorem wf_write [DecidableEq α] {d : Nat → α} {m : Store α} (k : Nat) (v : α) (h : wf d m = true) : wf d (write d m k v) = true := by
  unfold write
  split
  · exact wfFrom_erase h
  · rename_i hv; exact wfFrom_insert hv (Nat.zero_le _) h

/-- A store filled entry by entry has the canonical form. -/
theorem wf_rebuild [DecidableEq α] {β : Type} {d : Nat → α} {f : Nat × β → α} :
    ∀ (l : List (Nat × β)) {m : Store α}, wf d m = true → wf d (l.foldl (fun m e => write d m e.1 (f e)) m) = true
  | [], _, h => h
  | e :: l, _, h => wf_rebuild l (wf_write e.1 (f e) h)

/-- Taking out a set of keys keeps the canonical form, and the unlisted values there may change. -/
theorem wf_removeIf [DecidableEq α] {d e : Nat → α} {p : Nat → Bool} (hp : ∀ k, p k = false → e k = d k) :
    ∀ {m : Store α} {b : Nat}, wfFrom d b m = true → wfFrom e b (removeIf p m) = true
  | [], _, _ => rfl
  | (a, w) :: m, b, hm => by
    simp only [wfFrom, Bool.and_eq_true, decide_eq_true_eq] at hm
    simp only [removeIf]
    split
    · exact wfFrom_mono (by omega) (wf_removeIf hp hm.2)
    · rename_i ha
      simp only [wfFrom, Bool.and_eq_true, decide_eq_true_eq]
      exact ⟨⟨hm.1.1, by rw [hp a (by simpa using ha)]; exact hm.1.2⟩, wf_removeIf hp hm.2⟩

theorem wf_filter [DecidableEq α] {d : Nat → α} (p : Nat × α → Bool) :
    ∀ {m : Store α} {b : Nat}, wfFrom d b m = true → wfFrom d b (m.filter p) = true
  | [], _, _ => rfl
  | (a, w) :: m, b, hm => by
    simp only [wfFrom, Bool.and_eq_true, decide_eq_true_eq] at hm
    simp only [List.filter]
    split
    · simp only [wfFrom, Bool.and_eq_true, decide_eq_true_eq]
      exact ⟨hm.1, wf_filter p hm.2⟩
    · exact wfFrom_mono (by omega) (wf_filter p hm.2)

theorem rising_mono {b c : Nat} (h : b ≤ c) : ∀ {m : Store α}, risingFrom c m = true → risingFrom b m = true
  | [], _ => rfl
  | (_, _) :: _, hm => by
    simp only [risingFrom, Bool.and_eq_true, decide_eq_true_eq] at hm ⊢
    exact ⟨by omega, hm.2⟩

theorem rising_insert {k : Nat} {v : α} :
    ∀ {m : Store α} {b : Nat}, b ≤ k → risingFrom b m = true → risingFrom b (insert k v m) = true
  | [], b, hb, _ => by simp [insert, risingFrom, hb]
  | (a, w) :: m, b, hb, hm => by
    simp only [risingFrom, Bool.and_eq_true, decide_eq_true_eq] at hm
    simp only [insert]
    split
    · simp only [risingFrom, Bool.and_eq_true, decide_eq_true_eq]; exact ⟨hb, by omega, hm.2⟩
    · split
      · rename_i h; subst h
        simp only [risingFrom, Bool.and_eq_true, decide_eq_true_eq]; exact ⟨hb, hm.2⟩
      · simp only [risingFrom, Bool.and_eq_true, decide_eq_true_eq]
        exact ⟨hm.1, rising_insert (by omega) hm.2⟩

theorem rising_erase {k : Nat} : ∀ {m : Store α} {b : Nat}, risingFrom b m = true → risingFrom b (erase k m) = true
  | [], _, _ => rfl
  | (a, w) :: m, b, hm => by
    simp only [risingFrom, Bool.and_eq_true, decide_eq_true_eq] at hm
    simp only [erase]
    split
    · exact rising_mono (by omega) (rising_erase hm.2)
    · simp only [risingFrom, Bool.and_eq_true, decide_eq_true_eq]; exact ⟨hm.1, rising_erase hm.2⟩

/-- A write keeps the keys rising. -/
theorem rising_write [DecidableEq α] {d : Nat → α} {m : Store α} (k : Nat) (v : α) (h : risingFrom 0 m = true) :
    risingFrom 0 (write d m k v) = true := by
  unfold write
  split
  · exact rising_erase h
  · exact rising_insert (Nat.zero_le _) h

end Sys2Proof.Machine.Store
end

