-- ==== Sys2Proof/Laws/Fields.lean ====
section
/-!
SUPPORT. Registers and fields: what a read gives after a write, for bits, words, fields and the shared operations over them.
-/
namespace Sys2Proof.Machine

theorem getBits_lt (x : Word) (lo w : Nat) : getBits x lo w < 2 ^ w := Nat.mod_lt _ (Nat.two_pow_pos w)

theorem setBits_toNat (x : Word) {lo w : Nat} (v : Nat) (h : lo + w ≤ 32) :
    (setBits x lo w v).toNat = x.toNat / 2 ^ (lo + w) * 2 ^ (lo + w) + v % 2 ^ w * 2 ^ lo + x.toNat % 2 ^ lo := by
  have h1 : x.toNat < 2 ^ 32 := x.isLt
  have h2 : v % 2 ^ w < 2 ^ w := Nat.mod_lt _ (Nat.two_pow_pos w)
  have h3 : x.toNat % 2 ^ lo < 2 ^ lo := Nat.mod_lt _ (Nat.two_pow_pos lo)
  have h4 : v % 2 ^ w * 2 ^ lo + x.toNat % 2 ^ lo < 2 ^ (lo + w) := by
    calc v % 2 ^ w * 2 ^ lo + x.toNat % 2 ^ lo < v % 2 ^ w * 2 ^ lo + 2 ^ lo := by omega
      _ = (v % 2 ^ w + 1) * 2 ^ lo := by rw [Nat.add_mul, Nat.one_mul]
      _ ≤ 2 ^ w * 2 ^ lo := Nat.mul_le_mul_right _ h2
      _ = 2 ^ (lo + w) := by rw [← Nat.pow_add, Nat.add_comm]
  have h5 : x.toNat / 2 ^ (lo + w) < 2 ^ (32 - (lo + w)) := by
    rw [Nat.div_lt_iff_lt_mul (Nat.two_pow_pos _), ← Nat.pow_add]
    rwa [show 32 - (lo + w) + (lo + w) = 32 by omega]
  have h6 : x.toNat / 2 ^ (lo + w) * 2 ^ (lo + w) + 2 ^ (lo + w) ≤ 2 ^ 32 := by
    calc x.toNat / 2 ^ (lo + w) * 2 ^ (lo + w) + 2 ^ (lo + w) = (x.toNat / 2 ^ (lo + w) + 1) * 2 ^ (lo + w) := by
          rw [Nat.add_mul, Nat.one_mul]
      _ ≤ 2 ^ (32 - (lo + w)) * 2 ^ (lo + w) := Nat.mul_le_mul_right _ h5
      _ = 2 ^ 32 := by rw [← Nat.pow_add, show 32 - (lo + w) + (lo + w) = 32 by omega]
  unfold setBits
  rw [BitVec.toNat_ofNat, Nat.mod_eq_of_lt]
  omega

/-- Bits just written read back what was written, cut to their width. -/
theorem getBits_setBits (x : Word) {lo w : Nat} (v : Nat) (h : lo + w ≤ 32) : getBits (setBits x lo w v) lo w = v % 2 ^ w := by
  unfold getBits
  rw [setBits_toNat x v h]
  have h3 : x.toNat % 2 ^ lo < 2 ^ lo := Nat.mod_lt _ (Nat.two_pow_pos lo)
  rw [Nat.pow_add, Nat.mul_comm (2 ^ lo) (2 ^ w), ← Nat.mul_assoc, ← Nat.add_mul, Nat.add_comm (_ * 2 ^ lo), Nat.add_mul_div_right _ _ (Nat.two_pow_pos lo),
    Nat.div_eq_of_lt h3, Nat.zero_add, Nat.add_comm, Nat.add_mul_mod_self_right, Nat.mod_mod]

/-- Bits above or below those written stay. -/
theorem getBits_setBits_apart (x : Word) {lo w k n : Nat} (v : Nat) (h : lo + w ≤ 32) (a : lo + w ≤ k ∨ k + n ≤ lo) :
    getBits (setBits x lo w v) k n = getBits x k n := by
  unfold getBits
  rw [setBits_toNat x v h]
  have h2 : v % 2 ^ w < 2 ^ w := Nat.mod_lt _ (Nat.two_pow_pos w)
  have h3 : x.toNat % 2 ^ lo < 2 ^ lo := Nat.mod_lt _ (Nat.two_pow_pos lo)
  rcases a with a | a
  · obtain ⟨d, rfl⟩ : ∃ d, k = lo + w + d := ⟨k - (lo + w), by omega⟩
    have h4 : v % 2 ^ w * 2 ^ lo + x.toNat % 2 ^ lo < 2 ^ (lo + w) := by
      calc v % 2 ^ w * 2 ^ lo + x.toNat % 2 ^ lo < v % 2 ^ w * 2 ^ lo + 2 ^ lo := by omega
        _ = (v % 2 ^ w + 1) * 2 ^ lo := by rw [Nat.add_mul, Nat.one_mul]
        _ ≤ 2 ^ w * 2 ^ lo := Nat.mul_le_mul_right _ h2
        _ = 2 ^ (lo + w) := by rw [← Nat.pow_add, Nat.add_comm]
    rw [Nat.pow_add 2 (lo + w) d, ← Nat.div_div_eq_div_mul, ← Nat.div_div_eq_div_mul, Nat.add_assoc, Nat.add_comm,
      Nat.add_mul_div_right _ _ (Nat.two_pow_pos _), Nat.div_eq_of_lt h4, Nat.zero_add]
  · obtain ⟨d, rfl⟩ : ∃ d, lo = k + n + d := ⟨lo - (k + n), by omega⟩
    have e : ∀ y : Nat, y / 2 ^ k % 2 ^ n = y % 2 ^ (k + n) / 2 ^ k := fun y => by
      rw [Nat.pow_add, Nat.mod_mul_right_div_self]
    have hd : 2 ^ (k + n) ∣ 2 ^ (k + n + d) := Nat.pow_dvd_pow 2 (by omega)
    have hd' : 2 ^ (k + n) ∣ 2 ^ (k + n + d + w) := Nat.pow_dvd_pow 2 (by omega)
    rw [e, e]
    congr 1
    rw [Nat.add_mod, Nat.add_mod (_ * _) (_ * _), Nat.mod_eq_zero_of_dvd (Nat.dvd_mul_left_of_dvd hd' _),
      Nat.mod_eq_zero_of_dvd (Nat.dvd_mul_left_of_dvd hd _), Nat.mod_mod_of_dvd _ hd]
    simp

namespace State

theorem rd_wr (s : State) (a : Nat) (v : Word) : (s.wr a v).rd a = v := Store.read_write_same ..

theorem rd_wr_ne (s : State) {a b : Nat} (v : Word) (h : b ≠ a) : (s.wr a v).rd b = s.rd b := Store.read_write_ne _ _ h _

/-- A field just written reads back what was written, cut to its width. -/
theorem fld_setFld (s : State) {f : Fld} (v : Nat) (h : f.lo + f.w ≤ 32) : (s.setFld f v).fld f = v % 2 ^ f.w := by
  unfold fld setFld
  rw [rd_wr, getBits_setBits _ _ h]

/-- A field of another register, or of other bits, stays. -/
theorem fld_setFld_apart (s : State) {f g : Fld} (v : Nat) (h : f.lo + f.w ≤ 32)
    (a : g.addr ≠ f.addr ∨ f.lo + f.w ≤ g.lo ∨ g.lo + g.w ≤ f.lo) : (s.setFld f v).fld g = s.fld g := by
  unfold fld setFld
  by_cases e : g.addr = f.addr
  · rw [e, rd_wr, getBits_setBits_apart _ _ h (by simpa [e] using a)]
  · rw [rd_wr_ne _ _ e]

theorem rd_setFld_ne (s : State) {f : Fld} {a : Nat} (v : Nat) (h : a ≠ f.addr) : (s.setFld f v).rd a = s.rd a := rd_wr_ne _ _ h

theorem evt_rd_ne (s : State) (k : PageKind) (n b : Nat) {a : Nat} (h : a ≠ k.page n + 0x10) : (s.evt k n b).rd a = s.rd a :=
  rd_wr_ne _ _ h

theorem flt_rd_ne (s : State) (k : PageKind) (n b : Nat) {a : Nat} (h : a ≠ k.page n + 0x1C) : (s.flt k n b).rd a = s.rd a :=
  rd_wr_ne _ _ h

theorem inc_rd_ne (s : State) {f : Fld} {a : Nat} (h : a ≠ f.addr) : (s.inc f).rd a = s.rd a := rd_wr_ne _ _ h

/-- The registers a post may touch: the count of lost events and their flag. -/
theorem rd_post (s : State) (code l d : Nat) {a : Nat} (h1 : a ≠ R.CAD_J3_LOST) (h2 : a ≠ 0x40002010) :
    (s.post code l d).rd a = s.rd a := by
  have e : ((s.inc R.CAD_J3_LOST_COUNT).evt .cad 0 E.CAD_J3_LOST).rd a = s.rd a :=
    (evt_rd_ne _ _ _ _ (by rw [show PageKind.cad.page 0 + 0x10 = 0x40002010 by decide]; exact h2)).trans (inc_rd_ne _ h1)
  unfold post
  split
  · rfl
  · have r : ∀ t : State, ∀ c, ({ t with cad := c } : State).rd a = t.rd a := fun _ _ => rfl
    rw [r]
    exact e

theorem fld_post (s : State) (code l d : Nat) {f : Fld} (h1 : f.addr ≠ R.CAD_J3_LOST) (h2 : f.addr ≠ 0x40002010) :
    (s.post code l d).fld f = s.fld f := by
  unfold fld
  rw [rd_post s code l d h1 h2]

/-- A post enters the queue where there is room and the queue is not under test (R48). -/
theorem post_room (s : State) (code l d : Nat) (h : s.j3.length < j3Depth) (hb : s.on R.BST_STAT_BUSY = false) :
    s.post code l d = { s with j3 := s.j3 ++ [⟨code, l, d % 2 ^ 32, s.now⟩] } := by
  unfold post
  rw [if_pos ⟨h, by simp [hb]⟩]

/-- A post into a full queue is lost and counted (R49). -/
theorem post_full (s : State) (code l d : Nat) (h : j3Depth ≤ s.j3.length) : (s.post code l d).j3 = s.j3 := by
  unfold post
  rw [if_neg (fun k => absurd k.1 (Nat.not_lt.mpr h))]
  have e : ∀ t : State, ∀ c, ({ t with cad := c } : State).j3 = t.j3 := fun _ _ => rfl
  rw [e]
  exact (setFld_j3 _ _ _).trans (setFld_j3 _ _ _)

end State
end Sys2Proof.Machine
end

