-- ==== Sys2Proof/Laws/Within.lean ====
section
/-!
SUPPORT. `Within` composes; an update of one field changes one part; and the operations that write a store keep the canonical form.
-/
namespace Sys2Proof.Machine

theorem Part.Same.refl (s : State) (p : Part) : p.Same s s := by cases p <;> simp [Part.Same]

theorem Part.Same.trans {s t u : State} {p : Part} (h : p.Same s t) (k : p.Same t u) : p.Same s u := by
  cases p <;> simp only [Part.Same] at * <;> simp_all

theorem Within.refl (P : Part → Bool) (s : State) : Within P s s := ⟨rfl, id, fun p _ => .refl s p⟩

theorem Within.trans {P : Part → Bool} {s t u : State} (h : Within P s t) (k : Within P t u) : Within P s u :=
  ⟨k.pending.trans h.pending, fun c => k.canonical (h.canonical c), fun p hp => (h.same p hp).trans (k.same p hp)⟩

/-- What changes fewer parts changes no more than more of them. -/
theorem Within.mono {P Q : Part → Bool} (h : ∀ p, P p = true → Q p = true) {s t : State} (k : Within P s t) : Within Q s t :=
  ⟨k.pending, k.canonical, fun p hp => k.same p (by cases e : P p <;> simp_all)⟩

theorem Within.ite {P : Part → Bool} {c : Prop} [Decidable c] {s t u : State} (ht : Within P s t) (hu : Within P s u) :
    Within P s (if c then t else u) := by
  split <;> assumption

theorem Within.foldl {P : Part → Bool} {α : Type} {f : State → α → State} (hf : ∀ s x, Within P s (f s x)) {s t : State}
    (ht : Within P s t) : ∀ l : List α, Within P s (l.foldl f t)
  | [] => ht
  | x :: l => Within.foldl hf (ht.trans (hf t x)) l

theorem Within.each {P : Part → Bool} {f : State → Nat → State} (hf : ∀ s x, Within P s (f s x)) {s t : State} (l : List Nat)
    (ht : Within P s t) : Within P s (t.each l f) := Within.foldl hf ht l

theorem Within.when {P : Part → Bool} {c : Bool} {f : State → State} (hf : ∀ s, Within P s (f s)) {s t : State} (ht : Within P s t) :
    Within P s (t.when c f) := .ite (ht.trans (hf t)) ht

/-- What a command answers, if it answers a next state. -/
structure WithinOut (P : Part → Bool) (s : State) (o : Out) : Prop where
  next_ : ∀ t, o = .next t → Within P s t

theorem WithinOut.next {P : Part → Bool} {s t : State} (h : Within P s t) : WithinOut P s (.next t) := ⟨fun _ e => by cases e; exact h⟩

theorem WithinOut.ite {P : Part → Bool} {c : Prop} [Decidable c] {s : State} {o p : Out} (ho : WithinOut P s o) (hp : WithinOut P s p) :
    WithinOut P s (if c then o else p) := by
  split <;> assumption

theorem WithinOut.trans {P : Part → Bool} {s t : State} {o : Out} (h : Within P s t) (k : WithinOut P t o) : WithinOut P s o :=
  ⟨fun u e => h.trans (k.next_ u e)⟩

theorem Within.id_ (P : Part → Bool) (s : State) : Within P s (id s) := .refl P s

theorem Within.elim {P : Part → Bool} {α : Type} {o : Option α} {f : α → State} {s t : State} (ht : Within P s t)
    (hf : ∀ x, Within P s (f x)) : Within P s (o.elim t f) := by
  cases o with
  | none => exact ht
  | some x => exact hf x

theorem Within.all_cons {P : Part → Bool} {e : Bool × (State → Out)} {l : List (Bool × (State → Out))}
    (he : ∀ s, WithinOut P s (e.2 s)) (hl : ∀ e ∈ l, ∀ s, WithinOut P s (e.2 s)) : ∀ x ∈ e :: l, ∀ s, WithinOut P s (x.2 s) := by
  intro x hx
  rcases List.mem_cons.mp hx with rfl | hx
  · exact he
  · exact hl x hx

theorem Within.all_nil {P : Part → Bool} : ∀ x ∈ ([] : List (Bool × (State → Out))), ∀ s, WithinOut P s (x.2 s) :=
  fun _ h => absurd h List.not_mem_nil

/-- What an optional answer keeps, if there is one. -/
structure WithinOpt (P : Part → Bool) (s : State) (o : Option State) : Prop where
  some_ : ∀ t, o = some t → Within P s t

theorem WithinOpt.some {P : Part → Bool} {s t : State} (h : Within P s t) : WithinOpt P s (some t) := ⟨fun _ e => by cases e; exact h⟩

theorem WithinOpt.none (P : Part → Bool) (s : State) : WithinOpt P s none := ⟨fun _ e => nomatch e⟩

theorem WithinOpt.ite {P : Part → Bool} {c : Prop} [Decidable c] {s : State} {o p : Option State} (ho : WithinOpt P s o)
    (hp : WithinOpt P s p) : WithinOpt P s (if c then o else p) := by
  split <;> assumption

theorem WithinOpt.orElse {P : Part → Bool} {s : State} {o : Option State} {p : Unit → Option State} (ho : WithinOpt P s o)
    (hp : WithinOpt P s (p ())) : WithinOpt P s (o.orElse p) := by
  cases o with
  | none => exact hp
  | some t => exact ho

theorem Within.j3Rest {P : Part → Bool} (hP : P .j3 = true) {s : State} {x : Post} {rest : List Post} (e : s.j3 = x :: rest) :
    Within P s { s with j3 := rest } :=
  ⟨rfl, fun c => ⟨c.mem, c.bad, c.regs, c.srst, c.live, c.staged, c.prog, c.tab, c.canAct, c.canShadow,
      Nat.le_trans (by rw [e]; exact Nat.le_succ _) c.j3⟩, fun p hp => by
    cases p <;> first | exact Eq.refl _ | exact ⟨rfl, rfl⟩ | exact ⟨rfl, rfl, rfl, rfl⟩ | exact absurd hP (by rw [hp]; decide)⟩

/-! ### Updates of one field -/

theorem Within.clock {P : Part → Bool} (hP : P .clock = true) {s t : State} (h : Within P s t) (x : Nat) : Within P s { t with now := x } :=
  h.trans ⟨rfl, fun c => ⟨c.mem, c.bad, c.regs, c.srst, c.live, c.staged, c.prog, c.tab, c.canAct, c.canShadow, c.j3⟩, fun p hp => by
    cases p <;> first | exact Eq.refl _ | exact ⟨rfl, rfl⟩ | exact ⟨rfl, rfl, rfl, rfl⟩ | exact absurd hP (by rw [hp]; decide)⟩

theorem Within.free {P : Part → Bool} (hP : P .free = true) {s t : State} (h : Within P s t) (x : Nat) : Within P s { t with free := x } :=
  h.trans ⟨rfl, fun c => ⟨c.mem, c.bad, c.regs, c.srst, c.live, c.staged, c.prog, c.tab, c.canAct, c.canShadow, c.j3⟩, fun p hp => by
    cases p <;> first | exact Eq.refl _ | exact ⟨rfl, rfl⟩ | exact ⟨rfl, rfl, rfl, rfl⟩ | exact absurd hP (by rw [hp]; decide)⟩

theorem Within.resp {P : Part → Bool} (hP : P .resp = true) {s t : State} (h : Within P s t) (x : Resp) : Within P s { t with resp := x } :=
  h.trans ⟨rfl, fun c => ⟨c.mem, c.bad, c.regs, c.srst, c.live, c.staged, c.prog, c.tab, c.canAct, c.canShadow, c.j3⟩, fun p hp => by
    cases p <;> first | exact Eq.refl _ | exact ⟨rfl, rfl⟩ | exact ⟨rfl, rfl, rfl, rfl⟩ | exact absurd hP (by rw [hp]; decide)⟩

theorem Within.cad {P : Part → Bool} (hP : P .cad = true) {s t : State} (h : Within P s t) (x : Cad) : Within P s { t with cad := x } :=
  h.trans ⟨rfl, fun c => ⟨c.mem, c.bad, c.regs, c.srst, c.live, c.staged, c.prog, c.tab, c.canAct, c.canShadow, c.j3⟩, fun p hp => by
    cases p <;> first | exact Eq.refl _ | exact ⟨rfl, rfl⟩ | exact ⟨rfl, rfl, rfl, rfl⟩ | exact absurd hP (by rw [hp]; decide)⟩

theorem Within.eng {P : Part → Bool} (hP : P .eng = true) {s t : State} (h : Within P s t) (x : Eng) : Within P s { t with eng := x } :=
  h.trans ⟨rfl, fun c => ⟨c.mem, c.bad, c.regs, c.srst, c.live, c.staged, c.prog, c.tab, c.canAct, c.canShadow, c.j3⟩, fun p hp => by
    cases p <;> first | exact Eq.refl _ | exact ⟨rfl, rfl⟩ | exact ⟨rfl, rfl, rfl, rfl⟩ | exact absurd hP (by rw [hp]; decide)⟩

theorem Within.sens {P : Part → Bool} (hP : P .sens = true) {s t : State} (h : Within P s t) (x : Sens) : Within P s { t with sens := x } :=
  h.trans ⟨rfl, fun c => ⟨c.mem, c.bad, c.regs, c.srst, c.live, c.staged, c.prog, c.tab, c.canAct, c.canShadow, c.j3⟩, fun p hp => by
    cases p <;> first | exact Eq.refl _ | exact ⟨rfl, rfl⟩ | exact ⟨rfl, rfl, rfl, rfl⟩ | exact absurd hP (by rw [hp]; decide)⟩

theorem Within.pwm {P : Part → Bool} (hP : P .pwm = true) {s t : State} (h : Within P s t) (x : Pwm) : Within P s { t with pwm := x } :=
  h.trans ⟨rfl, fun c => ⟨c.mem, c.bad, c.regs, c.srst, c.live, c.staged, c.prog, c.tab, c.canAct, c.canShadow, c.j3⟩, fun p hp => by
    cases p <;> first | exact Eq.refl _ | exact ⟨rfl, rfl⟩ | exact ⟨rfl, rfl, rfl, rfl⟩ | exact absurd hP (by rw [hp]; decide)⟩

theorem Within.safe {P : Part → Bool} (hP : P .safe = true) {s t : State} (h : Within P s t) (x : Safe) : Within P s { t with safe := x } :=
  h.trans ⟨rfl, fun c => ⟨c.mem, c.bad, c.regs, c.srst, c.live, c.staged, c.prog, c.tab, c.canAct, c.canShadow, c.j3⟩, fun p hp => by
    cases p <;> first | exact Eq.refl _ | exact ⟨rfl, rfl⟩ | exact ⟨rfl, rfl, rfl, rfl⟩ | exact absurd hP (by rw [hp]; decide)⟩

theorem Within.pos {P : Part → Bool} (hP : P .pos = true) {s t : State} (h : Within P s t) (x : Pos) : Within P s { t with pos := x } :=
  h.trans ⟨rfl, fun c => ⟨c.mem, c.bad, c.regs, c.srst, c.live, c.staged, c.prog, c.tab, c.canAct, c.canShadow, c.j3⟩, fun p hp => by
    cases p <;> first | exact Eq.refl _ | exact ⟨rfl, rfl⟩ | exact ⟨rfl, rfl, rfl, rfl⟩ | exact absurd hP (by rw [hp]; decide)⟩

theorem Within.trac {P : Part → Bool} (hP : P .trac = true) {s t : State} (h : Within P s t) (x : Store TracRec) : Within P s { t with trac := x } :=
  h.trans ⟨rfl, fun c => ⟨c.mem, c.bad, c.regs, c.srst, c.live, c.staged, c.prog, c.tab, c.canAct, c.canShadow, c.j3⟩, fun p hp => by
    cases p <;> first | exact Eq.refl _ | exact ⟨rfl, rfl⟩ | exact ⟨rfl, rfl, rfl, rfl⟩ | exact absurd hP (by rw [hp]; decide)⟩

theorem Within.conv {P : Part → Bool} (hP : P .conv = true) {s t : State} (h : Within P s t) (x : Conv) : Within P s { t with conv := x } :=
  h.trans ⟨rfl, fun c => ⟨c.mem, c.bad, c.regs, c.srst, c.live, c.staged, c.prog, c.tab, c.canAct, c.canShadow, c.j3⟩, fun p hp => by
    cases p <;> first | exact Eq.refl _ | exact ⟨rfl, rfl⟩ | exact ⟨rfl, rfl, rfl, rfl⟩ | exact absurd hP (by rw [hp]; decide)⟩

theorem Within.act {P : Part → Bool} (hP : P .act = true) {s t : State} (h : Within P s t) (x : Store ActRec) : Within P s { t with act := x } :=
  h.trans ⟨rfl, fun c => ⟨c.mem, c.bad, c.regs, c.srst, c.live, c.staged, c.prog, c.tab, c.canAct, c.canShadow, c.j3⟩, fun p hp => by
    cases p <;> first | exact Eq.refl _ | exact ⟨rfl, rfl⟩ | exact ⟨rfl, rfl, rfl, rfl⟩ | exact absurd hP (by rw [hp]; decide)⟩

theorem Within.drl {P : Part → Bool} (hP : P .drl = true) {s t : State} (h : Within P s t) (x : Drl) : Within P s { t with drl := x } :=
  h.trans ⟨rfl, fun c => ⟨c.mem, c.bad, c.regs, c.srst, c.live, c.staged, c.prog, c.tab, c.canAct, c.canShadow, c.j3⟩, fun p hp => by
    cases p <;> first | exact Eq.refl _ | exact ⟨rfl, rfl⟩ | exact ⟨rfl, rfl, rfl, rfl⟩ | exact absurd hP (by rw [hp]; decide)⟩

theorem Within.tnd {P : Part → Bool} (hP : P .tnd = true) {s t : State} (h : Within P s t) (x : Store TndRec) : Within P s { t with tnd := x } :=
  h.trans ⟨rfl, fun c => ⟨c.mem, c.bad, c.regs, c.srst, c.live, c.staged, c.prog, c.tab, c.canAct, c.canShadow, c.j3⟩, fun p hp => by
    cases p <;> first | exact Eq.refl _ | exact ⟨rfl, rfl⟩ | exact ⟨rfl, rfl, rfl, rfl⟩ | exact absurd hP (by rw [hp]; decide)⟩

theorem Within.net {P : Part → Bool} (hP : P .net = true) {s t : State} (h : Within P s t) (x : Net) : Within P s { t with net := x } :=
  h.trans ⟨rfl, fun c => ⟨c.mem, c.bad, c.regs, c.srst, c.live, c.staged, c.prog, c.tab, c.canAct, c.canShadow, c.j3⟩, fun p hp => by
    cases p <;> first | exact Eq.refl _ | exact ⟨rfl, rfl⟩ | exact ⟨rfl, rfl, rfl, rfl⟩ | exact absurd hP (by rw [hp]; decide)⟩

theorem Within.rcd {P : Part → Bool} (hP : P .rcd = true) {s t : State} (h : Within P s t) (x : Rec) : Within P s { t with rcd := x } :=
  h.trans ⟨rfl, fun c => ⟨c.mem, c.bad, c.regs, c.srst, c.live, c.staged, c.prog, c.tab, c.canAct, c.canShadow, c.j3⟩, fun p hp => by
    cases p <;> first | exact Eq.refl _ | exact ⟨rfl, rfl⟩ | exact ⟨rfl, rfl, rfl, rfl⟩ | exact absurd hP (by rw [hp]; decide)⟩

theorem Within.pwr {P : Part → Bool} (hP : P .pwr = true) {s t : State} (h : Within P s t) (x : Pwr) : Within P s { t with pwr := x } :=
  h.trans ⟨rfl, fun c => ⟨c.mem, c.bad, c.regs, c.srst, c.live, c.staged, c.prog, c.tab, c.canAct, c.canShadow, c.j3⟩, fun p hp => by
    cases p <;> first | exact Eq.refl _ | exact ⟨rfl, rfl⟩ | exact ⟨rfl, rfl, rfl, rfl⟩ | exact absurd hP (by rw [hp]; decide)⟩

theorem Within.sec {P : Part → Bool} (hP : P .sec = true) {s t : State} (h : Within P s t) (x : Sec) : Within P s { t with sec := x } :=
  h.trans ⟨rfl, fun c => ⟨c.mem, c.bad, c.regs, c.srst, c.live, c.staged, c.prog, c.tab, c.canAct, c.canShadow, c.j3⟩, fun p hp => by
    cases p <;> first | exact Eq.refl _ | exact ⟨rfl, rfl⟩ | exact ⟨rfl, rfl, rfl, rfl⟩ | exact absurd hP (by rw [hp]; decide)⟩

theorem Within.prog {P : Part → Bool} (hP : P .engineMem = true) {s t : State} (h : Within P s t) (k : Nat) (v : ProgWord) :
    Within P s { t with prog := Store.write (fun _ => 0) t.prog k v } :=
  h.trans ⟨rfl, fun c => ⟨c.mem, c.bad, c.regs, c.srst, c.live, c.staged, Store.wf_write k v c.prog, c.tab, c.canAct, c.canShadow, c.j3⟩, fun p hp => by
    cases p <;> first | exact Eq.refl _ | exact ⟨rfl, rfl⟩ | exact ⟨rfl, rfl, rfl, rfl⟩ | exact absurd hP (by rw [hp]; decide)⟩

theorem Within.tab {P : Part → Bool} (hP : P .engineMem = true) {s t : State} (h : Within P s t) (k : Nat) (v : Word) :
    Within P s { t with tab := Store.write (fun _ => 0) t.tab k v } :=
  h.trans ⟨rfl, fun c => ⟨c.mem, c.bad, c.regs, c.srst, c.live, c.staged, c.prog, Store.wf_write k v c.tab, c.canAct, c.canShadow, c.j3⟩, fun p hp => by
    cases p <;> first | exact Eq.refl _ | exact ⟨rfl, rfl⟩ | exact ⟨rfl, rfl, rfl, rfl⟩ | exact absurd hP (by rw [hp]; decide)⟩

theorem Within.staged {P : Part → Bool} (hP : P .staged = true) {s t : State} (h : Within P s t) (d : Nat → Word) (k : Nat) (v : Word) :
    Within P s { t with staged := Store.write d t.staged k v } :=
  h.trans ⟨rfl, fun c => ⟨c.mem, c.bad, c.regs, c.srst, c.live, Store.rising_write k v c.staged, c.prog, c.tab, c.canAct, c.canShadow, c.j3⟩, fun p hp => by
    cases p <;> first | exact Eq.refl _ | exact ⟨rfl, rfl⟩ | exact ⟨rfl, rfl, rfl, rfl⟩ | exact absurd hP (by rw [hp]; decide)⟩

theorem Within.noStaged {P : Part → Bool} (hP : P .staged = true) {s t : State} (h : Within P s t)  :
    Within P s { t with staged := [] } :=
  h.trans ⟨rfl, fun c => ⟨c.mem, c.bad, c.regs, c.srst, c.live, rfl, c.prog, c.tab, c.canAct, c.canShadow, c.j3⟩, fun p hp => by
    cases p <;> first | exact Eq.refl _ | exact ⟨rfl, rfl⟩ | exact ⟨rfl, rfl, rfl, rfl⟩ | exact absurd hP (by rw [hp]; decide)⟩

theorem Within.badErase {P : Part → Bool} (hP : P .bytes = true) {s t : State} (h : Within P s t) (k : Nat) :
    Within P s { t with bad := Store.erase k t.bad } :=
  h.trans ⟨rfl, fun c => ⟨c.mem, Store.wfFrom_erase c.bad, c.regs, c.srst, c.live, c.staged, c.prog, c.tab, c.canAct, c.canShadow, c.j3⟩, fun p hp => by
    cases p <;> first | exact Eq.refl _ | exact ⟨rfl, rfl⟩ | exact ⟨rfl, rfl, rfl, rfl⟩ | exact absurd hP (by rw [hp]; decide)⟩

theorem Within.badWrite {P : Part → Bool} (hP : P .bytes = true) {s t : State} (h : Within P s t) (k v : Nat) :
    Within P s { t with bad := Store.write (fun _ => 0) t.bad k v } :=
  h.trans ⟨rfl, fun c => ⟨c.mem, Store.wf_write k v c.bad, c.regs, c.srst, c.live, c.staged, c.prog, c.tab, c.canAct, c.canShadow, c.j3⟩, fun p hp => by
    cases p <;> first | exact Eq.refl _ | exact ⟨rfl, rfl⟩ | exact ⟨rfl, rfl, rfl, rfl⟩ | exact absurd hP (by rw [hp]; decide)⟩

theorem Within.srstWrite {P : Part → Bool} (hP : P .regs = true) {s t : State} (h : Within P s t) (k v : Nat) :
    Within P s { t with srstEnds := Store.write (fun _ => 0) t.srstEnds k v } :=
  h.trans ⟨rfl, fun c => ⟨c.mem, c.bad, c.regs, Store.wf_write k v c.srst, c.live, c.staged, c.prog, c.tab, c.canAct, c.canShadow, c.j3⟩, fun p hp => by
    cases p <;> first | exact Eq.refl _ | exact ⟨rfl, rfl⟩ | exact ⟨rfl, rfl, rfl, rfl⟩ | exact absurd hP (by rw [hp]; decide)⟩

theorem Within.srstFilter {P : Part → Bool} (hP : P .regs = true) {s t : State} (h : Within P s t) (q : Nat × Nat → Bool) :
    Within P s { t with srstEnds := t.srstEnds.filter q } :=
  h.trans ⟨rfl, fun c => ⟨c.mem, c.bad, c.regs, Store.wf_filter q c.srst, c.live, c.staged, c.prog, c.tab, c.canAct, c.canShadow, c.j3⟩, fun p hp => by
    cases p <;> first | exact Eq.refl _ | exact ⟨rfl, rfl⟩ | exact ⟨rfl, rfl, rfl, rfl⟩ | exact absurd hP (by rw [hp]; decide)⟩

namespace State

theorem wr_within {P : Part → Bool} (s : State) (a : Nat) (v : Word) (hP : P .regs = true) : Within P s (s.wr a v) :=
  ⟨rfl, fun c => ⟨c.mem, c.bad, Store.wf_write a v c.regs, c.srst, c.live, c.staged, c.prog, c.tab, c.canAct, c.canShadow, c.j3⟩, fun p hp => by
    cases p <;> first | exact Eq.refl _ | exact ⟨rfl, rfl⟩ | exact ⟨rfl, rfl, rfl, rfl⟩ | exact absurd hP (by rw [hp]; decide)⟩

theorem wrLive_within {P : Part → Bool} (s : State) (a : Nat) (v : Word) (hP : P .live = true) : Within P s (s.wrLive a v) :=
  ⟨rfl, fun c => ⟨c.mem, c.bad, c.regs, c.srst, Store.wf_write a v c.live, c.staged, c.prog, c.tab, c.canAct, c.canShadow, c.j3⟩, fun p hp => by
    cases p <;> first | exact Eq.refl _ | exact ⟨rfl, rfl⟩ | exact ⟨rfl, rfl, rfl, rfl⟩ | exact absurd hP (by rw [hp]; decide)⟩

theorem setCanA_within {P : Part → Bool} (s : State) (n k w : Nat) (v : Word) (hP : P .canRam = true) : Within P s (s.setCanA n k w v) :=
  ⟨rfl, fun c => ⟨c.mem, c.bad, c.regs, c.srst, c.live, c.staged, c.prog, c.tab, Store.wf_write _ v c.canAct, c.canShadow, c.j3⟩, fun p hp => by
    cases p <;> first | exact Eq.refl _ | exact ⟨rfl, rfl⟩ | exact ⟨rfl, rfl, rfl, rfl⟩ | exact absurd hP (by rw [hp]; decide)⟩

theorem setCanS_within {P : Part → Bool} (s : State) (n k w : Nat) (v : Word) (hP : P .canRam = true) : Within P s (s.setCanS n k w v) :=
  ⟨rfl, fun c => ⟨c.mem, c.bad, c.regs, c.srst, c.live, c.staged, c.prog, c.tab, c.canAct, Store.wf_write _ v c.canShadow, c.j3⟩, fun p hp => by
    cases p <;> first | exact Eq.refl _ | exact ⟨rfl, rfl⟩ | exact ⟨rfl, rfl, rfl, rfl⟩ | exact absurd hP (by rw [hp]; decide)⟩

theorem setByte_within {P : Part → Bool} (s : State) (a : Nat) (v : Byte) (hP : P .bytes = true) : Within P s (s.setByte a v) :=
  ⟨rfl, fun c => ⟨Store.wf_write a v c.mem, Store.wfFrom_erase c.bad, c.regs, c.srst, c.live, c.staged, c.prog, c.tab, c.canAct, c.canShadow, c.j3⟩, fun p hp => by
    cases p <;> first | exact Eq.refl _ | exact ⟨rfl, rfl⟩ | exact ⟨rfl, rfl, rfl, rfl⟩ | exact absurd hP (by rw [hp]; decide)⟩

theorem setLe_within {P : Part → Bool} (s : State) (a v n : Nat) (hP : P .bytes = true) : Within P s (s.setLe a v n) := by
  induction n generalizing s a v with
  | zero => exact .refl P s
  | succ n ih => exact (setByte_within s a _ hP).trans (ih _ _ _)

end State

/-! ### Memory -/

/-- Outside a span that is taken out, the unlisted bytes stay. -/
theorem memDefault_outside {u : List Undef} {a b k : Nat} (hk : ¬ (a ≤ k ∧ k < b)) :
    memDefault (u.flatMap (Undef.outside a b)) k = memDefault u k := by
  unfold memDefault
  suffices h : ∀ u : List Undef, ((u.flatMap (Undef.outside a b)).find? fun r => r.start ≤ k && k < r.start + r.len).map (·.gen)
      = (u.find? fun r => r.start ≤ k && k < r.start + r.len).map (·.gen) by
    have h := h u
    cases h1 : (u.flatMap (Undef.outside a b)).find? fun r => r.start ≤ k && k < r.start + r.len <;>
      cases h2 : u.find? fun r => r.start ≤ k && k < r.start + r.len <;> simp_all
  intro u
  induction u with
  | nil => rfl
  | cons r u ih =>
    simp only [List.flatMap_cons, List.find?_append]
    by_cases hr : r.start ≤ k ∧ k < r.start + r.len
    · have hp : (decide (r.start ≤ k) && decide (k < r.start + r.len)) = true := by simpa using hr
      rw [List.find?_cons, hp]
      simp only [Undef.outside]
      split
      · rw [List.find?_cons, hp]; rfl
      · by_cases h1 : k < a
        · have h2 : r.start < a := by omega
          have h3 : (decide (r.start ≤ k) && decide (k < r.start + (a - r.start))) = true := by
            simp only [Bool.and_eq_true, decide_eq_true_eq]; omega
          rw [if_pos h2, List.singleton_append, List.find?_cons, h3]; rfl
        · have h2 : b < r.start + r.len := by omega
          have h3 : (decide (b ≤ k) && decide (k < b + (r.start + r.len - b))) = true := by
            simp only [Bool.and_eq_true, decide_eq_true_eq]; omega
          have h4 : (decide (r.start ≤ k) && decide (k < r.start + (a - r.start))) = false := by
            simp only [Bool.and_eq_false_iff, decide_eq_false_iff_not]; omega
          rw [if_pos h2]
          split
          · rw [List.singleton_append, List.find?_cons, h4]; simp only []; rw [List.find?_cons, h3]; rfl
          · rw [List.nil_append, List.find?_cons, h3]; rfl
    · have hp : (decide (r.start ≤ k) && decide (k < r.start + r.len)) = false := by simpa using hr
      have h0 : ((Undef.outside a b r).find? fun r => r.start ≤ k && k < r.start + r.len) = none := by
        rw [List.find?_eq_none]
        intro x hx
        simp only [Undef.outside] at hx
        split at hx
        · rw [List.mem_singleton] at hx; subst hx; simpa using hp
        · rcases List.mem_append.mp hx with hx | hx <;> split at hx <;> simp at hx <;> subst hx <;> simp <;> omega
      rw [h0, Option.none_or, ih, List.find?_cons, hp]

namespace State

theorem clearMem_within {P : Part → Bool} (s : State) (a n : Nat) (hP : P .bytes = true) : Within P s (s.clearMem a n) := by
  refine ⟨rfl, fun c => ⟨?_, ?_, c.regs, c.srst, c.live, c.staged, c.prog, c.tab, c.canAct, c.canShadow, c.j3⟩, fun p hp => by
    cases p <;> first | exact Eq.refl _ | exact ⟨rfl, rfl⟩ | exact ⟨rfl, rfl, rfl, rfl⟩ | exact absurd hP (by rw [hp]; decide)⟩
  · exact Store.wf_removeIf (d := memDefault s.undef) (fun k hk => memDefault_outside (by simpa using hk)) c.mem
  · exact Store.wf_removeIf (fun _ _ => rfl) c.bad

theorem removed_absent {α : Type} (p : Nat → Bool) : ∀ m : Store α, ∀ e ∈ Store.removeIf p m, p e.1 = false
  | [], _, h => by cases h
  | (a, w) :: m, e, h => by
    simp only [Store.removeIf] at h
    split at h
    · exact removed_absent p m e h
    · rename_i ha
      rcases List.mem_cons.mp h with rfl | h
      · simpa using ha
      · exact removed_absent p m e h

theorem wfFrom_congr {d e : Nat → Byte} : ∀ {m : Store Byte} {b : Nat}, (∀ x ∈ m, e x.1 = d x.1) → Store.wfFrom d b m = true →
    Store.wfFrom e b m = true
  | [], _, _, _ => rfl
  | (a, w) :: m, b, h, hm => by
    simp only [Store.wfFrom, Bool.and_eq_true, decide_eq_true_eq] at hm ⊢
    exact ⟨⟨hm.1.1, by rw [h (a, w) (by simp)]; exact hm.1.2⟩, wfFrom_congr (fun x hx => h x (by simp [hx])) hm.2⟩

theorem forget_within {P : Part → Bool} (s : State) (a n : Nat) (hP : P .bytes = true) : Within P s (s.forget a n) := by
  refine ⟨rfl, fun c => ⟨?_, ?_, c.regs, c.srst, c.live, c.staged, c.prog, c.tab, c.canAct, c.canShadow, c.j3⟩, fun p hp => by
    cases p <;> first | exact Eq.refl _ | exact ⟨rfl, rfl⟩ | exact ⟨rfl, rfl, rfl, rfl⟩ | exact absurd hP (by rw [hp]; decide)⟩
  rotate_left
  · exact ((clearMem_within (P := fun _ => true) s a n rfl).canonical c).bad
  refine wfFrom_congr ?_ ((clearMem_within (P := fun _ => true) s a n rfl).canonical c).mem
  intro x hx
  have hx := removed_absent _ _ x hx
  have h : (decide (a ≤ x.1) && decide (x.1 < a + n)) = false := hx
  show memDefault (⟨a, n, _⟩ :: _) x.1 = memDefault _ x.1
  unfold memDefault
  rw [List.find?_cons, h]

theorem post_within {P : Part → Bool} (s : State) (code loc data : Nat) (h1 : P .j3 = true) (h2 : P .regs = true) (h3 : P .cad = true) :
    Within P s (s.post code loc data) := by
  unfold post
  split
  · rename_i h
    refine ⟨rfl, fun c => ⟨c.mem, c.bad, c.regs, c.srst, c.live, c.staged, c.prog, c.tab, c.canAct, c.canShadow, ?_⟩, fun p hp => by
      cases p <;> first | exact Eq.refl _ | exact ⟨rfl, rfl⟩ | exact ⟨rfl, rfl, rfl, rfl⟩ | exact absurd h1 (by rw [hp]; decide)⟩
    simp only [List.length_append, List.length_singleton]
    omega
  · exact .cad h3 ((wr_within s _ _ h2).trans (wr_within _ _ _ h2)) _

end State
end Sys2Proof.Machine
end

