-- ==== Sys2Proof/Laws/FrameOps.lean ====
section
/-!
SUPPORT. Frames, one lemma for each function that gives a state, a command's outcome or an optional state: which parts of the state it may
change at all, and that it leaves the queue and the canonical form alone. This file: the shared operations, the dies, the J2 fabric, the engine's state, memory, sensing and the monitors.
-/
namespace Sys2Proof.Machine

theorem State.setFld_within {P : Part → Bool} (s : State) (f : Fld) (v : Nat) (h_regs : P .regs = true) :
    Within P s (State.setFld s f v) := by
  unfold State.setFld
  with_reducible repeat' first
    | assumption | exact Within.refl _ _ | apply Within.trans ?_ (State.wr_within _ _ _ ?_)

theorem State.incBy_within {P : Part → Bool} (s : State) (f : Fld) (n : Nat) (h_regs : P .regs = true) :
    Within P s (State.incBy s f n) := by
  unfold State.incBy
  with_reducible repeat' first
    | assumption | exact Within.refl _ _ | apply Within.trans ?_ (State.setFld_within _ _ _ ?_)

theorem State.inc_within {P : Part → Bool} (s : State) (f : Fld) (h_regs : P .regs = true) :
    Within P s (State.inc s f) := by
  unfold State.inc
  with_reducible repeat' first
    | assumption | exact Within.refl _ _ | apply Within.trans ?_ (State.incBy_within _ _ _ ?_)

theorem State.updSens_within {P : Part → Bool} (s : State) (f : Sens → Sens) (h_sens : P .sens = true) :
    Within P s (State.updSens s f) := by
  unfold State.updSens
  with_reducible repeat' first
    | assumption | exact Within.refl _ _ | apply Within.sens ?_ ?_ _

theorem State.updSafe_within {P : Part → Bool} (s : State) (f : Safe → Safe) (h_safe : P .safe = true) :
    Within P s (State.updSafe s f) := by
  unfold State.updSafe
  with_reducible repeat' first
    | assumption | exact Within.refl _ _ | apply Within.safe ?_ ?_ _

theorem State.updNet_within {P : Part → Bool} (s : State) (f : Net → Net) (h_net : P .net = true) :
    Within P s (State.updNet s f) := by
  unfold State.updNet
  with_reducible repeat' first
    | assumption | exact Within.refl _ _ | apply Within.net ?_ ?_ _

theorem State.updEng_within {P : Part → Bool} (s : State) (f : Eng → Eng) (h_eng : P .eng = true) :
    Within P s (State.updEng s f) := by
  unfold State.updEng
  with_reducible repeat' first
    | assumption | exact Within.refl _ _ | apply Within.eng ?_ ?_ _

theorem State.evt_within {P : Part → Bool} (s : State) (k : PageKind) (n : Nat) (bit : Nat) (h_regs : P .regs = true) :
    Within P s (State.evt s k n bit) := by
  unfold State.evt
  with_reducible repeat' first
    | assumption | exact Within.refl _ _ | apply Within.trans ?_ (State.setFld_within _ _ _ ?_)

theorem State.flt_within {P : Part → Bool} (s : State) (k : PageKind) (n : Nat) (bit : Nat) (h_regs : P .regs = true) :
    Within P s (State.flt s k n bit) := by
  unfold State.flt
  with_reducible repeat' first
    | assumption | exact Within.refl _ _ | apply Within.trans ?_ (State.setFld_within _ _ _ ?_)

theorem State.opTo_within {P : Part → Bool} (s : State) (k : PageKind) (n : Nat) (h_regs : P .regs = true) :
    Within P s (State.opTo s k n) := by
  unfold State.opTo
  with_reducible repeat' first
    | assumption | exact Within.refl _ _ | apply Within.trans ?_ (State.setFld_within _ _ _ ?_)

theorem State.stale_within {P : Part → Bool} (s : State) (k : PageKind) (n : Nat) (h_regs : P .regs = true) :
    Within P s (State.stale s k n) := by
  unfold State.stale
  with_reducible repeat' first
    | assumption | exact Within.refl _ _ | apply Within.trans ?_ (State.inc_within _ _ ?_)

theorem State.tookFree_within {P : Part → Bool} (s : State) (h_free : P .free = true) :
    Within P s (State.tookFree s) := by
  unfold State.tookFree
  with_reducible repeat' first
    | assumption | exact Within.refl _ _ | apply Within.free ?_ ?_ _

theorem State.setEngineWord_within {P : Part → Bool} (s : State) (k : Nat) (v : Word) (h_engineMem : P .engineMem = true)
    (h_eng : P .eng = true) :
    Within P s (State.setEngineWord s k v) := by
  unfold State.setEngineWord
  with_reducible repeat' first
    | assumption | exact Within.refl _ _ | apply Within.ite | apply Within.eng ?_ ?_ _ | apply Within.prog ?_ ?_ _ _
    | apply Within.tab ?_ ?_ _ _

theorem State.strikeEngine_within {P : Part → Bool} (s : State) (e : Ecc) (h_free : P .free = true) (h_engineMem : P .engineMem = true)
    (h_eng : P .eng = true) :
    Within P s (State.strikeEngine s e) := by
  unfold State.strikeEngine
  with_reducible repeat' first
    | assumption | exact Within.refl _ _ | apply Within.trans ?_ (State.tookFree_within _ ?_)
    | apply Within.trans ?_ (State.setEngineWord_within _ _ _ ?_ ?_) | apply Within.ite | split | (dsimp only; split)
    | apply Within.eng ?_ ?_ _

theorem State.strikeSram_within {P : Part → Bool} (s : State) (e : Ecc) (h_free : P .free = true) (h_bytes : P .bytes = true) :
    Within P s (State.strikeSram s e) := by
  unfold State.strikeSram
  with_reducible repeat' first
    | assumption | exact Within.refl _ _ | apply Within.trans ?_ (State.setLe_within _ _ _ _ ?_)
    | apply Within.trans ?_ (State.tookFree_within _ ?_) | apply Within.ite | split | (dsimp only; split)
    | apply Within.badErase ?_ ?_ _ | apply Within.badWrite ?_ ?_ _ _

theorem State.errResp_within {P : Part → Bool} (s : State) (m : Master) (write : Bool) (addr : Nat) (e : ErrKind)
    (h_resp : P .resp = true) (h_j3 : P .j3 = true) (h_regs : P .regs = true) (h_cad : P .cad = true) :
    Within P s (State.errResp s m write addr e) := by
  unfold State.errResp
  with_reducible repeat' first
    | assumption | exact Within.refl _ _ | apply Within.trans ?_ (State.inc_within _ _ ?_)
    | apply Within.trans ?_ (State.setFld_within _ _ _ ?_) | apply Within.trans ?_ (State.post_within _ _ _ _ ?_ ?_ ?_)
    | apply Within.trans ?_ (State.evt_within _ _ _ _ ?_) | apply Within.ite | apply Within.resp ?_ ?_ _

theorem State.okResp_within {P : Part → Bool} (s : State) (d : optParam Word 0) (h_resp : P .resp = true) :
    Within P s (State.okResp s d) := by
  unfold State.okResp
  with_reducible repeat' first
    | assumption | exact Within.refl _ _ | apply Within.resp ?_ ?_ _

theorem State.errOneOf_within {P : Part → Bool} (s : State) (m : Master) (write : Bool) (addr : Nat) (l : List ErrKind)
    (h_free : P .free = true) (h_resp : P .resp = true) (h_j3 : P .j3 = true) (h_regs : P .regs = true) (h_cad : P .cad = true) :
    Within P s (State.errOneOf s m write addr l) := by
  unfold State.errOneOf
  with_reducible repeat' first
    | assumption | exact Within.refl _ _ | apply Within.trans ?_ (State.errResp_within _ _ _ _ _ ?_ ?_ ?_ ?_)
    | apply Within.trans ?_ (State.tookFree_within _ ?_) | split | (dsimp only; split)

theorem State.accTimeout_within {P : Part → Bool} (s : State) (m : Master) (write : Bool) (k : PageKind) (n : Nat) (addr : Nat)
    (h_resp : P .resp = true) (h_j3 : P .j3 = true) (h_regs : P .regs = true) (h_cad : P .cad = true) :
    Within P s (State.accTimeout s m write k n addr) := by
  unfold State.accTimeout
  with_reducible repeat' first
    | assumption | exact Within.refl _ _ | apply Within.trans ?_ (State.setFld_within _ _ _ ?_)
    | apply Within.trans ?_ (State.errResp_within _ _ _ _ _ ?_ ?_ ?_ ?_)
    | apply Within.trans ?_ (State.post_within _ _ _ _ ?_ ?_ ?_) | apply Within.trans ?_ (State.inc_within _ _ ?_)

theorem State.checked_within {P : Part → Bool} (a0 : State) (m : Master) (k : PageKind) (n : Nat) (addr : Nat) (errs : List
    (Bool × ErrKind)) (eff : State → State) (h_free : P .free = true) (h_resp : P .resp = true) (h_j3 : P .j3 = true)
    (h_regs : P .regs = true) (h_cad : P .cad = true) (h6 : ∀ s, Within P s (eff s)) :
    Within P a0 (State.checked a0 m k n addr errs eff) := by
  unfold State.checked
  with_reducible repeat' first
    | assumption | exact Within.refl _ _ | apply Within.trans ?_ (State.errResp_within _ _ _ _ _ ?_ ?_ ?_ ?_)
    | apply Within.trans ?_ (State.accTimeout_within _ _ _ _ _ _ ?_ ?_ ?_ ?_) | apply Within.trans ?_ (State.okResp_within _ _ ?_)
    | apply Within.trans ?_ (State.errOneOf_within _ _ _ _ _ ?_ ?_ ?_ ?_ ?_) | apply Within.trans ?_ (h6 _) | apply Within.ite
    | split | (dsimp only; split)

theorem State.writePage_within {P : Part → Bool} (a0 : State) (m : Master) (k : PageKind) (n : Nat) (addr : Nat) (errs : List
    (Bool × ErrKind)) (eff : State → State) (h_free : P .free = true) (h_resp : P .resp = true) (h_j3 : P .j3 = true)
    (h_regs : P .regs = true) (h_cad : P .cad = true) (h6 : ∀ s, Within P s (eff s)) :
    Within P a0 (State.writePage a0 m k n addr errs eff) := by
  unfold State.writePage
  with_reducible repeat' first
    | assumption | exact Within.refl _ _ | exact Within.id_ _ _
    | apply Within.trans ?_ (State.checked_within _ _ _ _ _ _ _ ?_ ?_ ?_ ?_ ?_ (fun _ => ?_))
    | apply Within.trans ?_ (State.errResp_within _ _ _ _ _ ?_ ?_ ?_ ?_) | apply Within.trans ?_ (h6 _) | apply Within.ite

theorem State.ackPage_within {P : Part → Bool} (a0 : State) (m : Master) (k : PageKind) (n : Nat) (addr : Nat) (errs : List
    (Bool × ErrKind)) (eff : State → State) (h_free : P .free = true) (h_resp : P .resp = true) (h_j3 : P .j3 = true)
    (h_regs : P .regs = true) (h_cad : P .cad = true) (h6 : ∀ s, Within P s (eff s)) :
    Within P a0 (State.ackPage a0 m k n addr errs eff) := by
  unfold State.ackPage
  with_reducible repeat' first
    | assumption | exact Within.refl _ _ | exact Within.id_ _ _
    | apply Within.trans ?_ (State.checked_within _ _ _ _ _ _ _ ?_ ?_ ?_ ?_ ?_ (fun _ => ?_))
    | apply Within.trans ?_ (State.errResp_within _ _ _ _ _ ?_ ?_ ?_ ?_) | apply Within.trans ?_ (h6 _) | apply Within.ite

theorem State.write_within {P : Part → Bool} (a0 : State) (m : Master) (addr : Nat) (errs : List (Bool × ErrKind)) (eff : State → State)
    (h_free : P .free = true) (h_resp : P .resp = true) (h_j3 : P .j3 = true) (h_regs : P .regs = true) (h_cad : P .cad = true)
    (h4 : ∀ s, Within P s (eff s)) :
    Within P a0 (State.write a0 m addr errs eff) := by
  unfold State.write
  with_reducible repeat' first
    | assumption | exact Within.refl _ _ | exact Within.id_ _ _ | apply Within.trans ?_ (State.errResp_within _ _ _ _ _ ?_ ?_ ?_ ?_)
    | apply Within.trans ?_ (State.writePage_within _ _ _ _ _ _ _ ?_ ?_ ?_ ?_ ?_ (fun _ => ?_)) | apply Within.trans ?_ (h4 _)
    | split | (dsimp only; split)

theorem State.updGrp_within {P : Part → Bool} (s : State) (g : Nat) (f : Group → Group) (h_pwm : P .pwm = true) :
    Within P s (State.updGrp s g f) := by
  unfold State.updGrp
  with_reducible repeat' first
    | assumption | exact Within.refl _ _ | apply Within.pwm ?_ ?_ _

theorem State.updLink_within {P : Part → Bool} (s : State) (k : Nat) (f : Link → Link) (h_pwm : P .pwm = true) :
    Within P s (State.updLink s k f) := by
  unfold State.updLink
  with_reducible repeat' first
    | assumption | exact Within.refl _ _ | apply Within.pwm ?_ ?_ _

theorem State.updLeg_within {P : Part → Bool} (s : State) (l : Nat) (f : Leg → Leg) (h_pwm : P .pwm = true) :
    Within P s (State.updLeg s l f) := by
  unfold State.updLeg
  with_reducible repeat' first
    | assumption | exact Within.refl _ _ | apply Within.pwm ?_ ?_ _

theorem State.updChan_within {P : Part → Bool} (s : State) (c : Nat) (f : ChanRec → ChanRec) (h_pwm : P .pwm = true) :
    Within P s (State.updChan s c f) := by
  unfold State.updChan
  with_reducible repeat' first
    | assumption | exact Within.refl _ _ | apply Within.pwm ?_ ?_ _

theorem State.updTrac_within {P : Part → Bool} (s : State) (n : Nat) (f : TracRec → TracRec) (h_trac : P .trac = true) :
    Within P s (State.updTrac s n f) := by
  unfold State.updTrac
  with_reducible repeat' first
    | assumption | exact Within.refl _ _ | apply Within.trac ?_ ?_ _

theorem State.updAct_within {P : Part → Bool} (s : State) (n : Nat) (f : ActRec → ActRec) (h_act : P .act = true) :
    Within P s (State.updAct s n f) := by
  unfold State.updAct
  with_reducible repeat' first
    | assumption | exact Within.refl _ _ | apply Within.act ?_ ?_ _

theorem State.bstFault_within {P : Part → Bool} (s : State) (l : Nat) (h_regs : P .regs = true) :
    Within P s (State.bstFault s l) := by
  unfold State.bstFault
  with_reducible repeat' first
    | assumption | exact Within.refl _ _ | apply Within.trans ?_ (State.inc_within _ _ ?_)
    | apply Within.trans ?_ (State.setFld_within _ _ _ ?_)

theorem State.updReady_within {P : Part → Bool} (s : State) (c : Nat) (h_regs : P .regs = true) (h_pwm : P .pwm = true) :
    Within P s (State.updReady s c) := by
  unfold State.updReady
  with_reducible repeat' first
    | assumption | exact Within.refl _ _ | apply Within.trans ?_ (State.setFld_within _ _ _ ?_)
    | apply Within.trans ?_ (State.updChan_within _ _ _ ?_) | apply Within.trans ?_ (State.evt_within _ _ _ _ ?_) | apply Within.ite

theorem State.turnOn_within {P : Part → Bool} (s : State) (c : Nat) (h_regs : P .regs = true) (h_pwm : P .pwm = true) :
    Within P s (State.turnOn s c) := by
  unfold State.turnOn
  with_reducible repeat' first
    | assumption | exact Within.refl _ _ | apply Within.trans ?_ (State.setFld_within _ _ _ ?_)
    | apply Within.trans ?_ (State.updReady_within _ _ ?_ ?_) | apply Within.trans ?_ (State.bstFault_within _ _ ?_)
    | apply Within.ite

theorem State.twoStep_within {P : Part → Bool} (s : State) (c : Nat) (h_regs : P .regs = true) :
    Within P s (State.twoStep s c) := by
  unfold State.twoStep
  with_reducible repeat' first
    | assumption | exact Within.refl _ _ | apply Within.trans ?_ (State.inc_within _ _ ?_)
    | apply Within.trans ?_ (State.setFld_within _ _ _ ?_)

theorem State.dsatTrip_within {P : Part → Bool} (s : State) (c : Nat) (h_regs : P .regs = true) (h_pwm : P .pwm = true) :
    Within P s (State.dsatTrip s c) := by
  unfold State.dsatTrip
  with_reducible repeat' first
    | assumption | exact Within.refl _ _ | apply Within.trans ?_ (State.updReady_within _ _ ?_ ?_)
    | apply Within.trans ?_ (State.inc_within _ _ ?_) | apply Within.trans ?_ (State.setFld_within _ _ _ ?_)
    | apply Within.trans ?_ (State.twoStep_within _ _ ?_)

theorem State.turnOff_within {P : Part → Bool} (s : State) (c : Nat) (safe : Bool) (hot : Bool) (h_regs : P .regs = true)
    (h_pwm : P .pwm = true) :
    Within P s (State.turnOff s c safe hot) := by
  unfold State.turnOff
  with_reducible repeat' first
    | assumption | exact Within.refl _ _ | apply Within.trans ?_ (State.dsatTrip_within _ _ ?_ ?_)
    | apply Within.trans ?_ (State.twoStep_within _ _ ?_) | apply Within.trans ?_ (State.setFld_within _ _ _ ?_) | apply Within.ite

theorem State.directOff_within {P : Part → Bool} (s : State) (c : Nat) (h_regs : P .regs = true) :
    Within P s (State.directOff s c) := by
  unfold State.directOff
  with_reducible repeat' first
    | assumption | exact Within.refl _ _ | apply Within.trans ?_ (State.setFld_within _ _ _ ?_)

theorem State.applyLeg_within {P : Part → Bool} (s : State) (l : Nat) (safe : Bool) (hot : List Nat) (h_regs : P .regs = true)
    (h_pwm : P .pwm = true) :
    Within P s (State.applyLeg s l safe hot) := by
  unfold State.applyLeg
  with_reducible repeat' first
    | assumption | exact Within.refl _ _ | apply Within.trans ?_ (State.turnOff_within _ _ _ _ ?_ ?_)
    | apply Within.trans ?_ (State.updLeg_within _ _ _ ?_) | apply Within.trans ?_ (State.turnOn_within _ _ ?_ ?_)
    | apply Within.ite | split | (dsimp only; split)

theorem State.legsOff_within {P : Part → Bool} (s : State) (g : Nat) (h_regs : P .regs = true) (h_pwm : P .pwm = true) :
    Within P s (State.legsOff s g) := by
  unfold State.legsOff
  with_reducible repeat' first
    | assumption | exact Within.refl _ _ | exact Within.id_ _ _ | apply Within.each (fun _ _ => ?_) _ ?_
    | apply Within.trans ?_ (State.directOff_within _ _ ?_) | apply Within.trans ?_ (State.updLeg_within _ _ _ ?_)

theorem State.send_within {P : Part → Bool} (s : State) (k : Nat) (i : LinkItem) (h_pwm : P .pwm = true) :
    Within P s (State.send s k i) := by
  unfold State.send
  with_reducible repeat' first
    | assumption | exact Within.refl _ _ | apply Within.trans ?_ (State.updLink_within _ _ _ ?_)

theorem State.sendSafeTo_within {P : Part → Bool} (s : State) (ks : List Nat) (h_pwm : P .pwm = true) :
    Within P s (State.sendSafeTo s ks) := by
  unfold State.sendSafeTo
  with_reducible repeat' first
    | assumption | exact Within.refl _ _ | exact Within.id_ _ _ | apply Within.each (fun _ _ => ?_) _ ?_
    | apply Within.trans ?_ (State.updGrp_within _ _ _ ?_) | apply Within.trans ?_ (State.send_within _ _ _ ?_)
    | apply Within.foldl (fun _ _ => ?_) ?_ _

theorem State.sendSafe_within {P : Part → Bool} (s : State) (g : Nat) (h_pwm : P .pwm = true) :
    Within P s (State.sendSafe s g) := by
  unfold State.sendSafe
  with_reducible repeat' first
    | assumption | exact Within.refl _ _ | apply Within.trans ?_ (State.sendSafeTo_within _ _ ?_)

theorem State.commandGroup_within {P : Part → Bool} (s : State) (g : Nat) (kind : Nat) (h_j3 : P .j3 = true) (h_regs : P .regs = true)
    (h_cad : P .cad = true) (h_pwm : P .pwm = true) :
    Within P s (State.commandGroup s g kind) := by
  unfold State.commandGroup
  with_reducible repeat' first
    | assumption | exact Within.refl _ _ | apply Within.trans ?_ (State.evt_within _ _ _ _ ?_)
    | apply Within.trans ?_ (State.setFld_within _ _ _ ?_) | apply Within.trans ?_ (State.updGrp_within _ _ _ ?_)
    | apply Within.trans ?_ (State.sendSafe_within _ _ ?_) | apply Within.trans ?_ (State.post_within _ _ _ _ ?_ ?_ ?_)
    | apply Within.trans ?_ (State.inc_within _ _ ?_) | apply Within.ite

theorem State.updSafeReg_within {P : Part → Bool} (s : State) (h_regs : P .regs = true) :
    Within P s (State.updSafeReg s) := by
  unfold State.updSafeReg
  with_reducible repeat' first
    | assumption | exact Within.refl _ _ | apply Within.trans ?_ (State.setFld_within _ _ _ ?_) | apply Within.ite
    | apply Within.foldl (fun _ _ => ?_) ?_ _

theorem State.evalGroup_within {P : Part → Bool} (s : State) (g : Nat) (h_j3 : P .j3 = true) (h_regs : P .regs = true)
    (h_cad : P .cad = true) (h_pwm : P .pwm = true) :
    Within P s (State.evalGroup s g) := by
  unfold State.evalGroup
  with_reducible repeat' first
    | assumption | exact Within.refl _ _ | apply Within.trans ?_ (State.commandGroup_within _ _ _ ?_ ?_ ?_ ?_) | apply Within.ite

theorem State.updSo_within {P : Part → Bool} (s : State) (m : Nat) (f : SoRec → SoRec) (h_safe : P .safe = true) :
    Within P s (State.updSo s m f) := by
  unfold State.updSo
  with_reducible repeat' first
    | assumption | exact Within.refl _ _ | apply Within.safe ?_ ?_ _

theorem State.soUpdate_within {P : Part → Bool} (s : State) (m : Nat) (h_regs : P .regs = true) (h_safe : P .safe = true) :
    Within P s (State.soUpdate s m) := by
  unfold State.soUpdate
  with_reducible repeat' first
    | assumption | exact Within.refl _ _ | apply Within.trans ?_ (State.updSo_within _ _ _ ?_)
    | apply Within.trans ?_ (State.setFld_within _ _ _ ?_) | apply Within.ite

theorem State.evalJ2_within {P : Part → Bool} (s : State) (p : Nat → Bool) (h_j3 : P .j3 = true) (h_regs : P .regs = true)
    (h_cad : P .cad = true) (h_pwm : P .pwm = true) (h_safe : P .safe = true) :
    Within P s (State.evalJ2 s p) := by
  unfold State.evalJ2
  with_reducible repeat' first
    | assumption | exact Within.refl _ _ | exact Within.id_ _ _ | apply Within.each (fun _ _ => ?_) _ ?_
    | apply Within.trans ?_ (State.updSafeReg_within _ ?_) | apply Within.trans ?_ (State.evalGroup_within _ _ ?_ ?_ ?_ ?_)
    | apply Within.trans ?_ (State.soUpdate_within _ _ ?_ ?_)

theorem State.pend_within {P : Part → Bool} (s : State) (k : Nat) (own : Nat) (h_regs : P .regs = true) (h_safe : P .safe = true) :
    Within P s (State.pend s k own) := by
  unfold State.pend
  with_reducible repeat' first
    | assumption | exact Within.refl _ _ | apply Within.trans ?_ (State.setFld_within _ _ _ ?_)
    | apply Within.trans ?_ (State.updSafe_within _ _ ?_)

theorem State.holdDue_within {P : Part → Bool} (s : State) (h_safe : P .safe = true) :
    Within P s (State.holdDue s) := by
  unfold State.holdDue
  with_reducible repeat' first
    | assumption | exact Within.refl _ _ | apply Within.trans ?_ (State.updSafe_within _ _ ?_) | apply Within.ite
    | apply Within.foldl (fun _ _ => ?_) ?_ _

theorem State.raiseAll_within {P : Part → Bool} (s : State) (l : List (Nat × Nat)) (h_j3 : P .j3 = true) (h_regs : P .regs = true)
    (h_cad : P .cad = true) (h_pwm : P .pwm = true) (h_safe : P .safe = true) :
    Within P s (State.raiseAll s l) := by
  unfold State.raiseAll
  with_reducible repeat' first
    | assumption | exact Within.refl _ _ | apply Within.trans ?_ (State.pend_within _ _ _ ?_ ?_)
    | apply Within.trans ?_ (State.updSafe_within _ _ ?_) | apply Within.trans ?_ (State.holdDue_within _ ?_)
    | apply Within.trans ?_ (State.evalJ2_within _ _ ?_ ?_ ?_ ?_ ?_) | apply Within.ite | apply Within.foldl (fun _ _ => ?_) ?_ _

theorem State.raise_within {P : Part → Bool} (s : State) (k : Nat) (own : Nat) (h_j3 : P .j3 = true) (h_regs : P .regs = true)
    (h_cad : P .cad = true) (h_pwm : P .pwm = true) (h_safe : P .safe = true) :
    Within P s (State.raise s k own) := by
  unfold State.raise
  with_reducible repeat' first
    | assumption | exact Within.refl _ _ | apply Within.trans ?_ (State.raiseAll_within _ _ ?_ ?_ ?_ ?_ ?_)

theorem State.syncLines_within {P : Part → Bool} (s : State) (h_j3 : P .j3 = true) (h_regs : P .regs = true) (h_cad : P .cad = true)
    (h_pwm : P .pwm = true) (h_safe : P .safe = true) :
    Within P s (State.syncLines s) := by
  unfold State.syncLines
  with_reducible repeat' first
    | assumption | exact Within.refl _ _ | apply Within.trans ?_ (State.raiseAll_within _ _ ?_ ?_ ?_ ?_ ?_)

theorem State.unpend_within {P : Part → Bool} (s : State) (k : Nat) (h_regs : P .regs = true) (h_safe : P .safe = true) :
    Within P s (State.unpend s k) := by
  unfold State.unpend
  with_reducible repeat' first
    | assumption | exact Within.refl _ _ | apply Within.trans ?_ (State.setFld_within _ _ _ ?_)
    | apply Within.trans ?_ (State.updSafe_within _ _ ?_) | apply Within.ite

theorem State.groupOff_within {P : Part → Bool} (s : State) (g : Nat) (h_regs : P .regs = true) (h_pwm : P .pwm = true)
    (h_safe : P .safe = true) :
    Within P s (State.groupOff s g) := by
  unfold State.groupOff
  with_reducible repeat' first
    | assumption | exact Within.refl _ _ | apply Within.trans ?_ (State.setFld_within _ _ _ ?_)
    | apply Within.trans ?_ (State.updGrp_within _ _ _ ?_) | apply Within.trans ?_ (State.updSafe_within _ _ ?_)
    | apply Within.trans ?_ (State.legsOff_within _ _ ?_ ?_)

theorem State.updLane_within {P : Part → Bool} (s : State) (n : Nat) (f : Lane → Lane) (h_eng : P .eng = true) :
    Within P s (State.updLane s n f) := by
  unfold State.updLane
  with_reducible repeat' first
    | assumption | exact Within.refl _ _ | apply Within.eng ?_ ?_ _

theorem State.updCtx_within {P : Part → Bool} (s : State) (c : Nat) (f : Ctx → Ctx) (h_eng : P .eng = true) :
    Within P s (State.updCtx s c f) := by
  unfold State.updCtx
  with_reducible repeat' first
    | assumption | exact Within.refl _ _ | apply Within.eng ?_ ?_ _

theorem State.ctxFlag_within {P : Part → Bool} (s : State) (c : Nat) (f : Nat → Fld) (h_regs : P .regs = true) :
    Within P s (State.ctxFlag s c f) := by
  unfold State.ctxFlag
  with_reducible repeat' first
    | assumption | exact Within.refl _ _ | apply Within.trans ?_ (State.evt_within _ _ _ _ ?_)
    | apply Within.trans ?_ (State.setFld_within _ _ _ ?_) | apply Within.ite

theorem State.ctxMove_within {P : Part → Bool} (s : State) (c : Nat) (new : Nat) (h_j3 : P .j3 = true) (h_regs : P .regs = true)
    (h_cad : P .cad = true) :
    Within P s (State.ctxMove s c new) := by
  unfold State.ctxMove
  with_reducible repeat' first
    | assumption | exact Within.refl _ _ | apply Within.trans ?_ (State.setFld_within _ _ _ ?_)
    | apply Within.trans ?_ (State.post_within _ _ _ _ ?_ ?_ ?_)

theorem State.ctxFault_within {P : Part → Bool} (s : State) (c : Nat) (cause : Nat) (h_j3 : P .j3 = true) (h_regs : P .regs = true)
    (h_cad : P .cad = true) :
    Within P s (State.ctxFault s c cause) := by
  unfold State.ctxFault
  with_reducible repeat' first
    | assumption | exact Within.refl _ _ | apply Within.trans ?_ (State.ctxMove_within _ _ _ ?_ ?_ ?_)
    | apply Within.trans ?_ (State.setFld_within _ _ _ ?_)

theorem State.ctxFaultNow_within {P : Part → Bool} (s : State) (c : Nat) (cause : Nat) (h_j3 : P .j3 = true) (h_regs : P .regs = true)
    (h_cad : P .cad = true) :
    Within P s (State.ctxFaultNow s c cause) := by
  unfold State.ctxFaultNow
  with_reducible repeat' first
    | assumption | exact Within.refl _ _ | apply Within.trans ?_ (State.flt_within _ _ _ _ ?_)
    | apply Within.trans ?_ (State.ctxFault_within _ _ _ ?_ ?_ ?_) | apply Within.ite

theorem State.showLane_within {P : Part → Bool} (s : State) (l : Nat) (h_regs : P .regs = true) :
    Within P s (State.showLane s l) := by
  unfold State.showLane
  with_reducible repeat' first
    | assumption | exact Within.refl _ _ | apply Within.trans ?_ (State.setFld_within _ _ _ ?_) | apply Within.ite | split
    | (dsimp only; split)

theorem State.resume_within {P : Part → Bool} (s : State) (l : Nat) (h_eng : P .eng = true) :
    Within P s (State.resume s l) := by
  unfold State.resume
  with_reducible repeat' first
    | assumption | exact Within.refl _ _ | apply Within.trans ?_ (State.updLane_within _ _ _ ?_) | apply Within.ite

theorem State.runEnded_within {P : Part → Bool} (s : State) (r : Run) (h_regs : P .regs = true) (h_eng : P .eng = true) :
    Within P s (State.runEnded s r) := by
  unfold State.runEnded
  with_reducible repeat' first
    | assumption | exact Within.refl _ _ | apply Within.trans ?_ (State.updCtx_within _ _ _ ?_)
    | apply Within.trans ?_ (State.setFld_within _ _ _ ?_) | apply Within.ite

theorem State.late_within {P : Part → Bool} (s : State) (c : Nat) (h_j3 : P .j3 = true) (h_regs : P .regs = true) (h_cad : P .cad = true)
    (h_eng : P .eng = true) :
    Within P s (State.late s c) := by
  unfold State.late
  with_reducible repeat' first
    | assumption | exact Within.refl _ _ | apply Within.trans ?_ (State.inc_within _ _ ?_)
    | apply Within.trans ?_ (State.ctxFlag_within _ _ _ ?_) | apply Within.trans ?_ (State.post_within _ _ _ _ ?_ ?_ ?_)
    | apply Within.trans ?_ (State.evt_within _ _ _ _ ?_) | apply Within.trans ?_ (State.updCtx_within _ _ _ ?_) | apply Within.ite

theorem State.abortRun_within {P : Part → Bool} (s : State) (l : Nat) (r : Run) (h_regs : P .regs = true) (h_eng : P .eng = true) :
    Within P s (State.abortRun s l r) := by
  unfold State.abortRun
  with_reducible repeat' first
    | assumption | exact Within.refl _ _ | apply Within.trans ?_ (State.updLane_within _ _ _ ?_)
    | apply Within.trans ?_ (State.updCtx_within _ _ _ ?_) | apply Within.trans ?_ (State.runEnded_within _ _ ?_ ?_)
    | apply Within.ite

theorem State.abortLate_within {P : Part → Bool} (s : State) (l : Nat) (r : Run) (h_j3 : P .j3 = true) (h_regs : P .regs = true)
    (h_cad : P .cad = true) (h_eng : P .eng = true) :
    Within P s (State.abortLate s l r) := by
  unfold State.abortLate
  with_reducible repeat' first
    | assumption | exact Within.refl _ _ | apply Within.trans ?_ (State.opTo_within _ _ _ ?_)
    | apply Within.trans ?_ (State.late_within _ _ ?_ ?_ ?_ ?_) | apply Within.trans ?_ (State.abortRun_within _ _ _ ?_ ?_)

theorem State.clearErr_within {P : Part → Bool} (s : State) (p : Nat → Bool) (h_eng : P .eng = true) :
    Within P s (State.clearErr s p) := by
  unfold State.clearErr
  with_reducible repeat' first
    | assumption | exact Within.refl _ _ | apply Within.trans ?_ (State.updEng_within _ _ ?_)

theorem State.engineMend_within {P : Part → Bool} (s : State) (k : Nat) (h_j3 : P .j3 = true) (h_regs : P .regs = true)
    (h_cad : P .cad = true) (h_eng : P .eng = true) :
    Within P s (State.engineMend s k) := by
  unfold State.engineMend
  with_reducible repeat' first
    | assumption | exact Within.refl _ _ | apply Within.trans ?_ (State.post_within _ _ _ _ ?_ ?_ ?_)
    | apply Within.trans ?_ (State.evt_within _ _ _ _ ?_) | apply Within.trans ?_ (State.inc_within _ _ ?_)
    | apply Within.trans ?_ (State.clearErr_within _ _ ?_)

theorem State.engineReads_within {P : Part → Bool} (s : State) (p : Nat → Bool) (h_j3 : P .j3 = true) (h_regs : P .regs = true)
    (h_cad : P .cad = true) (h_eng : P .eng = true) :
    Within P s (State.engineReads s p) := by
  unfold State.engineReads
  with_reducible repeat' first
    | assumption | exact Within.refl _ _ | apply Within.trans ?_ (State.engineMend_within _ _ ?_ ?_ ?_ ?_)
    | apply Within.foldl (fun _ _ => ?_) ?_ _

theorem State.engineUe_within {P : Part → Bool} (s : State) (l : Nat) (r : Run) (k : Nat) (h_j3 : P .j3 = true) (h_regs : P .regs = true)
    (h_cad : P .cad = true) (h_eng : P .eng = true) (h_pwm : P .pwm = true) (h_safe : P .safe = true) :
    Within P s (State.engineUe s l r k) := by
  unfold State.engineUe
  with_reducible repeat' first
    | assumption | exact Within.refl _ _ | apply Within.trans ?_ (State.setFld_within _ _ _ ?_)
    | apply Within.trans ?_ (State.ctxFaultNow_within _ _ _ ?_ ?_ ?_) | apply Within.trans ?_ (State.abortRun_within _ _ _ ?_ ?_)
    | apply Within.trans ?_ (State.post_within _ _ _ _ ?_ ?_ ?_) | apply Within.trans ?_ (State.flt_within _ _ _ _ ?_)
    | apply Within.trans ?_ (State.showLane_within _ _ ?_) | apply Within.trans ?_ (State.resume_within _ _ ?_)
    | apply Within.trans ?_ (State.raise_within _ _ _ ?_ ?_ ?_ ?_ ?_)

theorem State.runReads_within {P : Part → Bool} (a0 : State) (l : Nat) (r : Run) (p : Nat → Bool) (go : State → State)
    (h_j3 : P .j3 = true) (h_regs : P .regs = true) (h_cad : P .cad = true) (h_eng : P .eng = true) (h_pwm : P .pwm = true)
    (h_safe : P .safe = true) (h4 : ∀ s, Within P s (go s)) :
    Within P a0 (State.runReads a0 l r p go) := by
  unfold State.runReads
  with_reducible repeat' first
    | assumption | exact Within.refl _ _ | apply Within.trans ?_ (State.engineUe_within _ _ _ _ ?_ ?_ ?_ ?_ ?_ ?_)
    | apply Within.trans ?_ (State.engineReads_within _ _ ?_ ?_ ?_ ?_) | apply Within.trans ?_ (h4 _) | split | (dsimp only; split)

theorem State.laneFault_within {P : Part → Bool} (s : State) (l : Nat) (h_j3 : P .j3 = true) (h_regs : P .regs = true)
    (h_cad : P .cad = true) (h_eng : P .eng = true) (h_pwm : P .pwm = true) (h_safe : P .safe = true) :
    Within P s (State.laneFault s l) := by
  unfold State.laneFault
  with_reducible repeat' first
    | assumption | exact Within.refl _ _ | exact Within.id_ _ _ | apply Within.trans ?_ (State.abortRun_within _ _ _ ?_ ?_)
    | apply Within.trans ?_ (State.setFld_within _ _ _ ?_) | apply Within.trans ?_ (State.updLane_within _ _ _ ?_)
    | apply Within.each (fun _ _ => ?_) _ ?_ | apply Within.trans ?_ (State.ctxFaultNow_within _ _ _ ?_ ?_ ?_)
    | apply Within.trans ?_ (State.showLane_within _ _ ?_) | apply Within.trans ?_ (State.raise_within _ _ _ ?_ ?_ ?_ ?_ ?_)
    | apply Within.trans ?_ (State.post_within _ _ _ _ ?_ ?_ ?_) | apply Within.trans ?_ (State.flt_within _ _ _ _ ?_)
    | apply Within.ite | apply Within.foldl (fun _ _ => ?_) ?_ _

theorem State.startRun_within {P : Part → Bool} (s : State) (l : Nat) (c : Nat) (crit : Bool) (h_free : P .free = true)
    (h_j3 : P .j3 = true) (h_regs : P .regs = true) (h_cad : P .cad = true) (h_eng : P .eng = true) (h_pwm : P .pwm = true)
    (h_safe : P .safe = true) :
    Within P s (State.startRun s l c crit) := by
  unfold State.startRun
  with_reducible repeat' first
    | assumption | exact Within.refl _ _ | exact Within.id_ _ _ | apply Within.trans ?_ (State.setFld_within _ _ _ ?_)
    | apply Within.trans ?_ (State.tookFree_within _ ?_) | apply Within.trans ?_ (State.updCtx_within _ _ _ ?_)
    | apply Within.trans ?_ (State.runReads_within _ _ _ _ _ ?_ ?_ ?_ ?_ ?_ ?_ (fun _ => ?_))
    | apply Within.trans ?_ (State.showLane_within _ _ ?_) | apply Within.trans ?_ (State.updLane_within _ _ _ ?_)
    | apply Within.ite | apply Within.foldl (fun _ _ => ?_) ?_ _ | apply Within.free ?_ ?_ _

theorem State.dutyWrite_within {P : Part → Bool} (s : State) (g : Nat) (k : Nat) (d : Word) (h_regs : P .regs = true)
    (h_act : P .act = true) :
    Within P s (State.dutyWrite s g k d) := by
  unfold State.dutyWrite
  with_reducible repeat' first
    | assumption | exact Within.refl _ _ | apply Within.trans ?_ (State.updAct_within _ _ _ ?_)
    | apply Within.trans ?_ (State.setFld_within _ _ _ ?_) | apply Within.ite | apply Within.elim ?_ (fun _ => ?_)

theorem State.tripCtx_within {P : Part → Bool} (s : State) (c : Nat) (h_j3 : P .j3 = true) (h_regs : P .regs = true)
    (h_cad : P .cad = true) (h_eng : P .eng = true) (h_pwm : P .pwm = true) (h_safe : P .safe = true) :
    Within P s (State.tripCtx s c) := by
  unfold State.tripCtx
  with_reducible repeat' first
    | assumption | exact Within.refl _ _ | apply Within.trans ?_ (State.raise_within _ _ _ ?_ ?_ ?_ ?_ ?_)
    | apply Within.trans ?_ (State.post_within _ _ _ _ ?_ ?_ ?_) | apply Within.trans ?_ (State.updCtx_within _ _ _ ?_)

theorem State.applyPort_within {P : Part → Bool} (s : State) (r : Run) (o : Nat) (v : Word) (h_j3 : P .j3 = true)
    (h_regs : P .regs = true) (h_cad : P .cad = true) (h_eng : P .eng = true) (h_pwm : P .pwm = true) (h_safe : P .safe = true)
    (h_act : P .act = true) :
    Within P s (State.applyPort s r o v) := by
  unfold State.applyPort
  with_reducible repeat' first
    | assumption | exact Within.refl _ _ | exact Within.id_ _ _ | apply Within.trans ?_ (State.updCtx_within _ _ _ ?_)
    | apply Within.trans ?_ (State.wr_within _ _ _ ?_) | apply Within.trans ?_ (State.post_within _ _ _ _ ?_ ?_ ?_)
    | apply Within.trans ?_ (State.ctxFlag_within _ _ _ ?_) | apply Within.each (fun _ _ => ?_) _ ?_
    | apply Within.trans ?_ (State.dutyWrite_within _ _ _ _ ?_ ?_)
    | apply Within.trans ?_ (State.tripCtx_within _ _ ?_ ?_ ?_ ?_ ?_ ?_) | apply Within.ite | split | (dsimp only; split)

theorem State.applyPorts_within {P : Part → Bool} (s : State) (r : Run) (w : List (Nat × Word)) (h_j3 : P .j3 = true)
    (h_regs : P .regs = true) (h_cad : P .cad = true) (h_eng : P .eng = true) (h_pwm : P .pwm = true) (h_safe : P .safe = true)
    (h_act : P .act = true) :
    Within P s (State.applyPorts s r w) := by
  unfold State.applyPorts
  with_reducible repeat' first
    | assumption | exact Within.refl _ _ | apply Within.trans ?_ (State.applyPort_within _ _ _ _ ?_ ?_ ?_ ?_ ?_ ?_ ?_)
    | apply Within.foldl (fun _ _ => ?_) ?_ _

theorem State.drainOne_within {P : Part → Bool} (s : State) (l : Nat) (h_j3 : P .j3 = true) (h_regs : P .regs = true)
    (h_cad : P .cad = true) (h_eng : P .eng = true) (h_pwm : P .pwm = true) (h_safe : P .safe = true) (h_act : P .act = true) :
    Within P s (State.drainOne s l) := by
  unfold State.drainOne
  with_reducible repeat' first
    | assumption | exact Within.refl _ _ | apply Within.trans ?_ (State.applyPorts_within _ _ _ ?_ ?_ ?_ ?_ ?_ ?_ ?_)
    | apply Within.trans ?_ (State.updLane_within _ _ _ ?_) | apply Within.ite | split | (dsimp only; split)

theorem State.completeRun_within {P : Part → Bool} (s : State) (l : Nat) (r : Run) (h_j3 : P .j3 = true) (h_regs : P .regs = true)
    (h_cad : P .cad = true) (h_eng : P .eng = true) (h_pwm : P .pwm = true) (h_safe : P .safe = true) (h_act : P .act = true) :
    Within P s (State.completeRun s l r) := by
  unfold State.completeRun
  with_reducible repeat' first
    | assumption | exact Within.refl _ _ | apply Within.trans ?_ (State.applyPorts_within _ _ _ ?_ ?_ ?_ ?_ ?_ ?_ ?_)
    | apply Within.trans ?_ (State.clearErr_within _ _ ?_) | apply Within.trans ?_ (State.updCtx_within _ _ _ ?_)
    | apply Within.trans ?_ (State.setFld_within _ _ _ ?_) | apply Within.trans ?_ (State.updLane_within _ _ _ ?_)
    | apply Within.trans ?_ (State.runEnded_within _ _ ?_ ?_) | apply Within.trans ?_ (State.showLane_within _ _ ?_)
    | apply Within.trans ?_ (State.resume_within _ _ ?_) | apply Within.ite | apply Within.foldl (fun _ _ => ?_) ?_ _

theorem State.moveAside_within {P : Part → Bool} (s : State) (l : Nat) (h_eng : P .eng = true) :
    Within P s (State.moveAside s l) := by
  unfold State.moveAside
  with_reducible repeat' first
    | assumption | exact Within.refl _ _ | apply Within.trans ?_ (State.updLane_within _ _ _ ?_) | apply Within.ite | split
    | (dsimp only; split)

theorem State.dispatchTick_within {P : Part → Bool} (s : State) (l : Nat) (h_free : P .free = true) (h_j3 : P .j3 = true)
    (h_regs : P .regs = true) (h_cad : P .cad = true) (h_eng : P .eng = true) (h_pwm : P .pwm = true) (h_safe : P .safe = true) :
    Within P s (State.dispatchTick s l) := by
  unfold State.dispatchTick
  with_reducible repeat' first
    | assumption | exact Within.refl _ _ | apply Within.trans ?_ (State.moveAside_within _ _ ?_)
    | apply Within.trans ?_ (State.updLane_within _ _ _ ?_)
    | apply Within.trans ?_ (State.startRun_within _ _ _ _ ?_ ?_ ?_ ?_ ?_ ?_ ?_) | apply Within.ite | split | (dsimp only; split)

theorem State.critTrigger_within {P : Part → Bool} (s : State) (c : Nat) (h_free : P .free = true) (h_j3 : P .j3 = true)
    (h_regs : P .regs = true) (h_cad : P .cad = true) (h_eng : P .eng = true) (h_pwm : P .pwm = true) (h_safe : P .safe = true) :
    Within P s (State.critTrigger s c) := by
  unfold State.critTrigger
  with_reducible repeat' first
    | assumption | exact Within.refl _ _ | apply Within.trans ?_ (State.showLane_within _ _ ?_)
    | apply Within.trans ?_ (State.resume_within _ _ ?_) | apply Within.trans ?_ (State.abortLate_within _ _ _ ?_ ?_ ?_ ?_)
    | apply Within.trans ?_ (State.moveAside_within _ _ ?_) | apply Within.trans ?_ (State.updLane_within _ _ _ ?_)
    | apply Within.trans ?_ (State.startRun_within _ _ _ _ ?_ ?_ ?_ ?_ ?_ ?_ ?_) | apply Within.ite | split | (dsimp only; split)

theorem State.trigger_within {P : Part → Bool} (s : State) (g : Nat) (h_free : P .free = true) (h_j3 : P .j3 = true)
    (h_regs : P .regs = true) (h_cad : P .cad = true) (h_eng : P .eng = true) (h_pwm : P .pwm = true) (h_safe : P .safe = true) :
    Within P s (State.trigger s g) := by
  unfold State.trigger
  with_reducible repeat' first
    | assumption | exact Within.refl _ _ | exact Within.id_ _ _ | apply Within.each (fun _ _ => ?_) _ ?_
    | apply Within.trans ?_ (State.critTrigger_within _ _ ?_ ?_ ?_ ?_ ?_ ?_ ?_)

theorem State.sramWrite_within {P : Part → Bool} (s : State) (m : Master) (a : Nat) (n : Nat) (v : Nat) (h_resp : P .resp = true)
    (h_j3 : P .j3 = true) (h_regs : P .regs = true) (h_bytes : P .bytes = true) (h_cad : P .cad = true) :
    Within P s (State.sramWrite s m a n v) := by
  unfold State.sramWrite
  with_reducible repeat' first
    | assumption | exact Within.refl _ _ | apply Within.trans ?_ (State.okResp_within _ _ ?_)
    | apply Within.trans ?_ (State.setLe_within _ _ _ _ ?_) | apply Within.trans ?_ (State.errResp_within _ _ _ _ _ ?_ ?_ ?_ ?_)
    | apply Within.ite

theorem State.sramMend_within {P : Part → Bool} (s : State) (w : Nat) (h_regs : P .regs = true) (h_bytes : P .bytes = true) :
    Within P s (State.sramMend s w) := by
  unfold State.sramMend
  with_reducible repeat' first
    | assumption | exact Within.refl _ _ | apply Within.trans ?_ (State.evt_within _ _ _ _ ?_)
    | apply Within.trans ?_ (State.inc_within _ _ ?_) | apply Within.ite | apply Within.badErase ?_ ?_ _
    | apply Within.badWrite ?_ ?_ _ _

theorem State.sramUe_within {P : Part → Bool} (s : State) (m : Master) (a : Nat) (w : Nat) (h_resp : P .resp = true) (h_j3 : P .j3 = true)
    (h_regs : P .regs = true) (h_cad : P .cad = true) (h_pwm : P .pwm = true) (h_safe : P .safe = true) :
    Within P s (State.sramUe s m a w) := by
  unfold State.sramUe
  with_reducible repeat' first
    | assumption | exact Within.refl _ _ | apply Within.trans ?_ (State.flt_within _ _ _ _ ?_)
    | apply Within.trans ?_ (State.setFld_within _ _ _ ?_) | apply Within.trans ?_ (State.errResp_within _ _ _ _ _ ?_ ?_ ?_ ?_)
    | apply Within.trans ?_ (State.raise_within _ _ _ ?_ ?_ ?_ ?_ ?_) | apply Within.trans ?_ (State.post_within _ _ _ _ ?_ ?_ ?_)

theorem State.sramRead_within {P : Part → Bool} (s : State) (m : Master) (a : Nat) (n : Nat) (h_resp : P .resp = true)
    (h_j3 : P .j3 = true) (h_regs : P .regs = true) (h_bytes : P .bytes = true) (h_cad : P .cad = true) (h_pwm : P .pwm = true)
    (h_safe : P .safe = true) :
    Within P s (State.sramRead s m a n) := by
  unfold State.sramRead
  with_reducible repeat' first
    | assumption | exact Within.refl _ _ | exact Within.id_ _ _
    | apply Within.trans ?_ (State.sramUe_within _ _ _ _ ?_ ?_ ?_ ?_ ?_ ?_) | apply Within.trans ?_ (State.okResp_within _ _ ?_)
    | apply Within.each (fun _ _ => ?_) _ ?_ | apply Within.trans ?_ (State.sramMend_within _ _ ?_ ?_) | split | (dsimp only; split)

theorem State.norRead_within {P : Part → Bool} (s : State) (m : Master) (a : Nat) (n : Nat) (h_resp : P .resp = true)
    (h_j3 : P .j3 = true) (h_regs : P .regs = true) (h_cad : P .cad = true) :
    Within P s (State.norRead s m a n) := by
  unfold State.norRead
  with_reducible repeat' first
    | assumption | exact Within.refl _ _ | apply Within.trans ?_ (State.okResp_within _ _ ?_)
    | apply Within.trans ?_ (State.errResp_within _ _ _ _ _ ?_ ?_ ?_ ?_) | apply Within.ite

theorem State.updSrc_within {P : Part → Bool} (s : State) (g : Nat) (f : WinSrc → WinSrc) (h_sens : P .sens = true) :
    Within P s (State.updSrc s g f) := by
  unfold State.updSrc
  with_reducible repeat' first
    | assumption | exact Within.refl _ _ | apply Within.sens ?_ ?_ _

theorem State.updFast_within {P : Part → Bool} (s : State) (c : Nat) (f : FastCh → FastCh) (h_sens : P .sens = true) :
    Within P s (State.updFast s c f) := by
  unfold State.updFast
  with_reducible repeat' first
    | assumption | exact Within.refl _ _ | apply Within.sens ?_ ?_ _

theorem State.clearFast_within {P : Part → Bool} (s : State) (c : Nat) (h_sens : P .sens = true) :
    Within P s (State.clearFast s c) := by
  unfold State.clearFast
  with_reducible repeat' first
    | assumption | exact Within.refl _ _ | apply Within.trans ?_ (State.updFast_within _ _ _ ?_)

theorem State.closeWindow_within {P : Part → Bool} (s : State) (g : Nat) (long : Bool) (h_sens : P .sens = true) :
    Within P s (State.closeWindow s g long) := by
  unfold State.closeWindow
  with_reducible repeat' first
    | assumption | exact Within.refl _ _ | exact Within.id_ _ _ | apply Within.each (fun _ _ => ?_) _ ?_
    | apply Within.trans ?_ (State.clearFast_within _ _ ?_) | apply Within.trans ?_ (State.updSrc_within _ _ _ ?_)

theorem State.beginWindows_within {P : Part → Bool} (s : State) (g : Nat) (h_sens : P .sens = true) :
    Within P s (State.beginWindows s g) := by
  unfold State.beginWindows
  with_reducible repeat' first
    | assumption | exact Within.refl _ _ | apply Within.trans ?_ (State.updSrc_within _ _ _ ?_)

theorem State.windowBoundary_within {P : Part → Bool} (s : State) (g : Nat) (h_sens : P .sens = true) :
    Within P s (State.windowBoundary s g) := by
  unfold State.windowBoundary
  with_reducible repeat' first
    | assumption | exact Within.refl _ _ | apply Within.trans ?_ (State.updSrc_within _ _ _ ?_)
    | apply Within.trans ?_ (State.closeWindow_within _ _ _ ?_) | apply Within.ite

theorem State.schedBoundary_within {P : Part → Bool} (s : State) (g : Nat) (h_sens : P .sens = true) :
    Within P s (State.schedBoundary s g) := by
  unfold State.schedBoundary
  with_reducible repeat' first
    | assumption | exact Within.refl _ _ | apply Within.trans ?_ (State.windowBoundary_within _ _ ?_)
    | apply Within.trans ?_ (State.updSrc_within _ _ _ ?_) | apply Within.ite

theorem State.showFaq_within {P : Part → Bool} (s : State) (h_regs : P .regs = true) :
    Within P s (State.showFaq s) := by
  unfold State.showFaq
  with_reducible repeat' first
    | assumption | exact Within.refl _ _ | apply Within.trans ?_ (State.wr_within _ _ _ ?_)
    | apply Within.trans ?_ (State.setFld_within _ _ _ ?_)

theorem State.faqLost_within {P : Part → Bool} (s : State) (h_j3 : P .j3 = true) (h_regs : P .regs = true) (h_cad : P .cad = true) :
    Within P s (State.faqLost s) := by
  unfold State.faqLost
  with_reducible repeat' first
    | assumption | exact Within.refl _ _ | apply Within.trans ?_ (State.evt_within _ _ _ _ ?_)
    | apply Within.trans ?_ (State.inc_within _ _ ?_) | apply Within.trans ?_ (State.post_within _ _ _ _ ?_ ?_ ?_)

theorem State.faqWait_within {P : Part → Bool} (s : State) (e : Word × Word) (h_j3 : P .j3 = true) (h_regs : P .regs = true)
    (h_cad : P .cad = true) (h_sens : P .sens = true) :
    Within P s (State.faqWait s e) := by
  unfold State.faqWait
  with_reducible repeat' first
    | assumption | exact Within.refl _ _ | apply Within.trans ?_ (State.updSens_within _ _ ?_)
    | apply Within.trans ?_ (State.faqLost_within _ ?_ ?_ ?_) | apply Within.ite

theorem State.faqPush_within {P : Part → Bool} (s : State) (e : Word × Word) (h_j3 : P .j3 = true) (h_regs : P .regs = true)
    (h_cad : P .cad = true) (h_sens : P .sens = true) :
    Within P s (State.faqPush s e) := by
  unfold State.faqPush
  with_reducible repeat' first
    | assumption | exact Within.refl _ _ | apply Within.trans ?_ (State.faqLost_within _ ?_ ?_ ?_)
    | apply Within.trans ?_ (State.faqWait_within _ _ ?_ ?_ ?_ ?_) | apply Within.trans ?_ (State.updSens_within _ _ ?_)
    | apply Within.trans ?_ (State.evt_within _ _ _ _ ?_) | apply Within.ite

theorem State.faqEnd_within {P : Part → Bool} (s : State) (h_regs : P .regs = true) :
    Within P s (State.faqEnd s) := by
  unfold State.faqEnd
  with_reducible repeat' first
    | assumption | exact Within.refl _ _ | apply Within.trans ?_ (State.setFld_within _ _ _ ?_) | apply Within.ite

theorem State.faqEntries_within {P : Part → Bool} (s : State) (l : List (Word × Word)) (h_j3 : P .j3 = true) (h_regs : P .regs = true)
    (h_cad : P .cad = true) (h_sens : P .sens = true) :
    Within P s (State.faqEntries s l) := by
  unfold State.faqEntries
  with_reducible repeat' first
    | assumption | exact Within.refl _ _ | apply Within.trans ?_ (State.faqEnd_within _ ?_)
    | apply Within.trans ?_ (State.updSens_within _ _ ?_) | apply Within.trans ?_ (State.faqPush_within _ _ ?_ ?_ ?_ ?_)
    | apply Within.trans ?_ (State.showFaq_within _ ?_) | apply Within.ite | apply Within.foldl (fun _ _ => ?_) ?_ _ | split
    | (dsimp only; split)

theorem State.deliverCh_within {P : Part → Bool} (s : State) (seq : Nat) (long : Bool) (e : Nat × Int × Nat × Bool × Bool)
    (h_regs : P .regs = true) (h_sens : P .sens = true) :
    Within P s (State.deliverCh s seq long e) := by
  unfold State.deliverCh
  with_reducible repeat' first
    | assumption | exact Within.refl _ _ | apply Within.trans ?_ (State.updFast_within _ _ _ ?_)
    | apply Within.trans ?_ (State.wr_within _ _ _ ?_) | split | (dsimp only; split)

theorem State.convert_within {P : Part → Bool} (s : State) (c : Nat) (k : Int) (h_j3 : P .j3 = true) (h_regs : P .regs = true)
    (h_cad : P .cad = true) (h_sens : P .sens = true) :
    Within P s (State.convert s c k) := by
  unfold State.convert
  with_reducible repeat' first
    | assumption | exact Within.refl _ _ | apply Within.trans ?_ (State.wr_within _ _ _ ?_)
    | apply Within.trans ?_ (State.evt_within _ _ _ _ ?_) | apply Within.trans ?_ (State.setFld_within _ _ _ ?_)
    | apply Within.trans ?_ (State.post_within _ _ _ _ ?_ ?_ ?_) | apply Within.trans ?_ (State.updFast_within _ _ _ ?_)
    | apply Within.ite

theorem execLongWindowClose_within {P : Part → Bool} (src : Fin 16) (s : State) (h_sens : P .sens = true) :
    WithinOut P s (execLongWindowClose src s) := by
  unfold execLongWindowClose
  with_reducible repeat' first
    | assumption | exact Within.refl _ _ | apply WithinOut.next | apply Within.trans ?_ (State.closeWindow_within _ _ _ ?_)
    | apply Within.ite | apply WithinOut.ite

theorem execReferenceSelect_within {P : Part → Bool} (m : Master) (sel : Fin 4) (s : State) (h_free : P .free = true)
    (h_resp : P .resp = true) (h_j3 : P .j3 = true) (h_regs : P .regs = true) (h_cad : P .cad = true) (h_sens : P .sens = true) :
    WithinOut P s (execReferenceSelect m sel s) := by
  unfold execReferenceSelect
  with_reducible repeat' first
    | assumption | exact Within.refl _ _ | exact Within.id_ _ _ | apply WithinOut.next
    | apply Within.trans ?_ (State.write_within _ _ _ _ _ ?_ ?_ ?_ ?_ ?_ (fun _ => ?_))
    | apply Within.trans ?_ (State.updSens_within _ _ ?_) | apply Within.trans ?_ (State.setFld_within _ _ _ ?_)

theorem execReferenceReady_within {P : Part → Bool} (meas : Fin 65536) (s : State) (h_j3 : P .j3 = true) (h_regs : P .regs = true)
    (h_cad : P .cad = true) (h_sens : P .sens = true) :
    WithinOut P s (execReferenceReady meas s) := by
  unfold execReferenceReady
  with_reducible repeat' first
    | assumption | exact Within.refl _ _ | apply WithinOut.next | apply Within.trans ?_ (State.post_within _ _ _ _ ?_ ?_ ?_)
    | apply Within.trans ?_ (State.evt_within _ _ _ _ ?_) | apply Within.trans ?_ (State.setFld_within _ _ _ ?_)
    | apply Within.trans ?_ (State.updSens_within _ _ ?_) | apply Within.ite | apply WithinOut.ite

theorem execRefFail_within {P : Part → Bool} (meas : Fin 65536) (s : State) (h_j3 : P .j3 = true) (h_regs : P .regs = true)
    (h_cad : P .cad = true) (h_sens : P .sens = true) (h_pwm : P .pwm = true) (h_safe : P .safe = true) :
    WithinOut P s (execRefFail meas s) := by
  unfold execRefFail
  with_reducible repeat' first
    | assumption | exact Within.refl _ _ | apply WithinOut.next | apply Within.trans ?_ (State.flt_within _ _ _ _ ?_)
    | apply Within.trans ?_ (State.setFld_within _ _ _ ?_) | apply Within.trans ?_ (State.updSens_within _ _ ?_)
    | apply Within.trans ?_ (State.raise_within _ _ _ ?_ ?_ ?_ ?_ ?_) | apply Within.trans ?_ (State.post_within _ _ _ _ ?_ ?_ ?_)
    | apply Within.ite | apply WithinOut.ite

theorem execLastRead_within {P : Part → Bool} (m : Master) (ch : Fin 32) (s : State) (h_resp : P .resp = true) (h_regs : P .regs = true) :
    WithinOut P s (execLastRead m ch s) := by
  unfold execLastRead
  with_reducible repeat' first
    | assumption | exact Within.refl _ _ | apply WithinOut.next | apply Within.trans ?_ (State.okResp_within _ _ ?_)
    | apply Within.trans ?_ (State.setFld_within _ _ _ ?_) | apply Within.ite | apply WithinOut.ite

theorem State.faqPop_within {P : Part → Bool} (s : State) (m : Master) (h_resp : P .resp = true) (h_regs : P .regs = true)
    (h_sens : P .sens = true) :
    Within P s (State.faqPop s m) := by
  unfold State.faqPop
  with_reducible repeat' first
    | assumption | exact Within.refl _ _ | apply Within.trans ?_ (State.okResp_within _ _ ?_)
    | apply Within.trans ?_ (State.evt_within _ _ _ _ ?_) | apply Within.trans ?_ (State.inc_within _ _ ?_)
    | apply Within.trans ?_ (State.showFaq_within _ ?_) | apply Within.trans ?_ (State.wr_within _ _ _ ?_)
    | apply Within.trans ?_ (State.updSens_within _ _ ?_) | apply Within.ite | split | (dsimp only; split)

theorem execFaqPop_within {P : Part → Bool} (m : Master) (s : State) (h_resp : P .resp = true) (h_regs : P .regs = true)
    (h_sens : P .sens = true) :
    WithinOut P s (execFaqPop m s) := by
  unfold execFaqPop
  with_reducible repeat' first
    | assumption | exact Within.refl _ _ | apply WithinOut.next | apply Within.trans ?_ (State.faqPop_within _ _ ?_ ?_ ?_)

theorem execFaqDiscard_within {P : Part → Bool} (m : Master) (s : State) (h_free : P .free = true) (h_resp : P .resp = true)
    (h_j3 : P .j3 = true) (h_regs : P .regs = true) (h_cad : P .cad = true) (h_sens : P .sens = true) :
    WithinOut P s (execFaqDiscard m s) := by
  unfold execFaqDiscard
  with_reducible repeat' first
    | assumption | exact Within.refl _ _ | exact Within.id_ _ _ | apply WithinOut.next
    | apply Within.trans ?_ (State.write_within _ _ _ _ _ ?_ ?_ ?_ ?_ ?_ (fun _ => ?_))
    | apply Within.trans ?_ (State.showFaq_within _ ?_) | apply Within.trans ?_ (State.updSens_within _ _ ?_)

theorem execFaqFallbackWrite_within {P : Part → Bool} (s : State) (h_resp : P .resp = true) (h_j3 : P .j3 = true)
    (h_regs : P .regs = true) (h_bytes : P .bytes = true) (h_cad : P .cad = true) (h_sens : P .sens = true) :
    WithinOut P s (execFaqFallbackWrite s) := by
  unfold execFaqFallbackWrite
  with_reducible repeat' first
    | assumption | exact Within.refl _ _ | apply WithinOut.next | apply Within.trans ?_ (State.updSens_within _ _ ?_)
    | apply Within.trans ?_ (State.showFaq_within _ ?_) | apply Within.trans ?_ (State.faqLost_within _ ?_ ?_ ?_)
    | apply Within.trans ?_ (State.setFld_within _ _ _ ?_) | apply Within.trans ?_ (State.errResp_within _ _ _ _ _ ?_ ?_ ?_ ?_)
    | apply Within.trans ?_ (State.post_within _ _ _ _ ?_ ?_ ?_) | apply Within.trans ?_ (State.flt_within _ _ _ _ ?_)
    | apply Within.trans ?_ (State.setLe_within _ _ _ _ ?_) | apply Within.trans ?_ (State.evt_within _ _ _ _ ?_) | apply Within.ite
    | apply WithinOut.ite | apply Within.foldl (fun _ _ => ?_) ?_ _ | split | (dsimp only; split)

theorem State.tempInput_within {P : Part → Bool} (s : State) (k : Nat) (code : Nat) (seq : Nat) (h_free : P .free = true)
    (h_j3 : P .j3 = true) (h_regs : P .regs = true) (h_cad : P .cad = true) :
    Within P s (State.tempInput s k code seq) := by
  unfold State.tempInput
  with_reducible repeat' first
    | assumption | exact Within.refl _ _ | apply Within.trans ?_ (State.setFld_within _ _ _ ?_)
    | apply Within.trans ?_ (State.post_within _ _ _ _ ?_ ?_ ?_) | apply Within.trans ?_ (State.evt_within _ _ _ _ ?_)
    | apply Within.trans ?_ (State.tookFree_within _ ?_) | apply Within.ite | split | (dsimp only; split)

theorem State.hkStore_within {P : Part → Bool} (s : State) (n : Nat) (code : Nat) (h_free : P .free = true) (h_j3 : P .j3 = true)
    (h_regs : P .regs = true) (h_cad : P .cad = true) :
    Within P s (State.hkStore s n code) := by
  unfold State.hkStore
  with_reducible repeat' first
    | assumption | exact Within.refl _ _ | apply Within.trans ?_ (State.wr_within _ _ _ ?_)
    | apply Within.trans ?_ (State.tempInput_within _ _ _ _ ?_ ?_ ?_ ?_) | apply Within.ite

theorem execHkRoundStart_within {P : Part → Bool} (s : State) (h_regs : P .regs = true) (h_sens : P .sens = true) :
    WithinOut P s (execHkRoundStart s) := by
  unfold execHkRoundStart
  with_reducible repeat' first
    | assumption | exact Within.refl _ _ | apply WithinOut.next | apply Within.trans ?_ (State.updSens_within _ _ ?_)
    | apply Within.trans ?_ (State.setFld_within _ _ _ ?_) | apply Within.ite | apply WithinOut.ite

theorem execHkStall_within {P : Part → Bool} (conv : Fin 2) (s : State) (h_j3 : P .j3 = true) (h_regs : P .regs = true)
    (h_cad : P .cad = true) (h_sens : P .sens = true) (h_pwm : P .pwm = true) (h_safe : P .safe = true) :
    WithinOut P s (execHkStall conv s) := by
  unfold execHkStall
  with_reducible repeat' first
    | assumption | exact Within.refl _ _ | apply WithinOut.next | apply Within.trans ?_ (State.raise_within _ _ _ ?_ ?_ ?_ ?_ ?_)
    | apply Within.trans ?_ (State.post_within _ _ _ _ ?_ ?_ ?_) | apply Within.trans ?_ (State.flt_within _ _ _ _ ?_)
    | apply Within.trans ?_ (State.updSens_within _ _ ?_) | apply Within.ite | apply WithinOut.ite

theorem State.updMon_within {P : Part → Bool} (s : State) (k : Nat) (f : Mon → Mon) (h_sens : P .sens = true) :
    Within P s (State.updMon s k f) := by
  unfold State.updMon
  with_reducible repeat' first
    | assumption | exact Within.refl _ _ | apply Within.sens ?_ ?_ _

theorem State.showPt_within {P : Part → Bool} (s : State) (h_regs : P .regs = true) :
    Within P s (State.showPt s) := by
  unfold State.showPt
  with_reducible repeat' first
    | assumption | exact Within.refl _ _ | exact Within.id_ _ _ | apply Within.each (fun _ _ => ?_) _ ?_
    | apply Within.trans ?_ (State.setFld_within _ _ _ ?_)

theorem State.auxLimited_within {P : Part → Bool} (s : State) (k : Nat) (hi : Bool) (h_regs : P .regs = true) (h_conv : P .conv = true) :
    Within P s (State.auxLimited s k hi) := by
  unfold State.auxLimited
  with_reducible repeat' first
    | assumption | exact Within.refl _ _ | apply Within.trans ?_ (State.inc_within _ _ ?_) | apply Within.ite
    | apply Within.conv ?_ ?_ _

theorem State.monLatch_within {P : Part → Bool} (s : State) (k : Nat) (hi : Bool) (h_j3 : P .j3 = true) (h_regs : P .regs = true)
    (h_cad : P .cad = true) (h_pwm : P .pwm = true) (h_safe : P .safe = true) (h_conv : P .conv = true) :
    Within P s (State.monLatch s k hi) := by
  unfold State.monLatch
  with_reducible repeat' first
    | assumption | exact Within.refl _ _ | apply Within.trans ?_ (State.auxLimited_within _ _ _ ?_ ?_)
    | apply Within.trans ?_ (State.inc_within _ _ ?_) | apply Within.trans ?_ (State.evt_within _ _ _ _ ?_)
    | apply Within.trans ?_ (State.setFld_within _ _ _ ?_) | apply Within.trans ?_ (State.raise_within _ _ _ ?_ ?_ ?_ ?_ ?_)
    | apply Within.trans ?_ (State.post_within _ _ _ _ ?_ ?_ ?_) | apply Within.trans ?_ (State.flt_within _ _ _ _ ?_)
    | apply Within.ite

theorem State.monTripped_within {P : Part → Bool} (s : State) (k : Nat) (hi : Bool) (h_j3 : P .j3 = true) (h_regs : P .regs = true)
    (h_cad : P .cad = true) (h_pwm : P .pwm = true) (h_safe : P .safe = true) (h_conv : P .conv = true) :
    Within P s (State.monTripped s k hi) := by
  unfold State.monTripped
  with_reducible repeat' first
    | assumption | exact Within.refl _ _ | apply Within.trans ?_ (State.setFld_within _ _ _ ?_)
    | apply Within.trans ?_ (State.showPt_within _ ?_) | apply Within.trans ?_ (State.monLatch_within _ _ _ ?_ ?_ ?_ ?_ ?_ ?_)
    | apply Within.ite

theorem State.monUnresolve_within {P : Part → Bool} (s : State) (k : Nat) (h_regs : P .regs = true) :
    Within P s (State.monUnresolve s k) := by
  unfold State.monUnresolve
  with_reducible repeat' first
    | assumption | exact Within.refl _ _ | apply Within.trans ?_ (State.setFld_within _ _ _ ?_) | apply Within.ite

theorem State.monThreshold_within {P : Part → Bool} (s : State) (k : Nat) (h_free : P .free = true) (h_regs : P .regs = true)
    (h_sens : P .sens = true) :
    Within P s (State.monThreshold s k) := by
  unfold State.monThreshold
  with_reducible repeat' first
    | assumption | exact Within.refl _ _ | apply Within.trans ?_ (State.setFld_within _ _ _ ?_)
    | apply Within.trans ?_ (State.updMon_within _ _ _ ?_) | apply Within.trans ?_ (State.tookFree_within _ ?_) | apply Within.ite

theorem State.monPeriod_within {P : Part → Bool} (s : State) (g : Nat) (h_free : P .free = true) (h_regs : P .regs = true)
    (h_sens : P .sens = true) :
    Within P s (State.monPeriod s g) := by
  unfold State.monPeriod
  with_reducible repeat' first
    | assumption | exact Within.refl _ _ | exact Within.id_ _ _ | apply Within.trans ?_ (State.showPt_within _ ?_)
    | apply Within.each (fun _ _ => ?_) _ ?_ | apply Within.trans ?_ (State.monThreshold_within _ _ ?_ ?_ ?_)
    | apply Within.trans ?_ (State.setFld_within _ _ _ ?_) | apply Within.ite

theorem State.monCheck_within {P : Part → Bool} (s : State) (m : Master) (k : Nat) (mode : Nat) (h_free : P .free = true)
    (h_resp : P .resp = true) (h_j3 : P .j3 = true) (h_regs : P .regs = true) (h_cad : P .cad = true) (h_sens : P .sens = true) :
    Within P s (State.monCheck s m k mode) := by
  unfold State.monCheck
  with_reducible repeat' first
    | assumption | exact Within.refl _ _ | exact Within.id_ _ _
    | apply Within.trans ?_ (State.write_within _ _ _ _ _ ?_ ?_ ?_ ?_ ?_ (fun _ => ?_))
    | apply Within.trans ?_ (State.setFld_within _ _ _ ?_) | apply Within.trans ?_ (State.updMon_within _ _ _ ?_) | apply Within.ite

theorem execMonitorTrip_within {P : Part → Bool} (k : Fin 32) (hi : Bool) (ch : Fin 32) (x : Int) (s : State) (h_free : P .free = true)
    (h_j3 : P .j3 = true) (h_regs : P .regs = true) (h_cad : P .cad = true) (h_pwm : P .pwm = true) (h_safe : P .safe = true)
    (h_conv : P .conv = true) :
    WithinOut P s (execMonitorTrip k hi ch x s) := by
  unfold execMonitorTrip
  with_reducible repeat' first
    | assumption | exact Within.refl _ _ | apply WithinOut.next | apply Within.trans ?_ (State.tookFree_within _ ?_)
    | apply Within.trans ?_ (State.monTripped_within _ _ _ ?_ ?_ ?_ ?_ ?_ ?_) | apply Within.ite | apply WithinOut.ite

theorem execMonitorRelease_within {P : Part → Bool} (k : Fin 32) (hi : Bool) (ch : Fin 32) (x : Int) (s : State) (h_free : P .free = true)
    (h_regs : P .regs = true) :
    WithinOut P s (execMonitorRelease k hi ch x s) := by
  unfold execMonitorRelease
  with_reducible repeat' first
    | assumption | exact Within.refl _ _ | apply WithinOut.next | apply Within.trans ?_ (State.tookFree_within _ ?_)
    | apply Within.trans ?_ (State.showPt_within _ ?_) | apply Within.trans ?_ (State.setFld_within _ _ _ ?_) | apply Within.ite
    | apply WithinOut.ite

theorem execMonitorResolve_within {P : Part → Bool} (k : Fin 32) (hi : Bool) (ch : Fin 32) (x : Int) (s : State) (h_free : P .free = true)
    (h_j3 : P .j3 = true) (h_regs : P .regs = true) (h_cad : P .cad = true) (h_pwm : P .pwm = true) (h_safe : P .safe = true)
    (h_conv : P .conv = true) :
    WithinOut P s (execMonitorResolve k hi ch x s) := by
  unfold execMonitorResolve
  with_reducible repeat' first
    | assumption | exact Within.refl _ _ | apply WithinOut.next | apply Within.trans ?_ (State.tookFree_within _ ?_)
    | apply Within.trans ?_ (State.monTripped_within _ _ _ ?_ ?_ ?_ ?_ ?_ ?_) | apply Within.trans ?_ (State.showPt_within _ ?_)
    | apply Within.trans ?_ (State.setFld_within _ _ _ ?_) | apply Within.ite | apply WithinOut.ite | split | (dsimp only; split)

theorem execMonitorSwapCheck_within {P : Part → Bool} (m : Master) (k : Fin 32) (s : State) (h_free : P .free = true)
    (h_resp : P .resp = true) (h_j3 : P .j3 = true) (h_regs : P .regs = true) (h_cad : P .cad = true) (h_sens : P .sens = true) :
    WithinOut P s (execMonitorSwapCheck m k s) := by
  unfold execMonitorSwapCheck
  with_reducible repeat' first
    | assumption | exact Within.refl _ _ | apply WithinOut.next
    | apply Within.trans ?_ (State.monCheck_within _ _ _ _ ?_ ?_ ?_ ?_ ?_ ?_)

theorem execMonitorTieCheck_within {P : Part → Bool} (m : Master) (k : Fin 32) (s : State) (h_free : P .free = true)
    (h_resp : P .resp = true) (h_j3 : P .j3 = true) (h_regs : P .regs = true) (h_cad : P .cad = true) (h_sens : P .sens = true) :
    WithinOut P s (execMonitorTieCheck m k s) := by
  unfold execMonitorTieCheck
  with_reducible repeat' first
    | assumption | exact Within.refl _ _ | apply WithinOut.next
    | apply Within.trans ?_ (State.monCheck_within _ _ _ _ ?_ ?_ ?_ ?_ ?_ ?_)

theorem execMonitorCheckDone_within {P : Part → Bool} (k : Fin 32) (pass : Bool) (s : State) (h_j3 : P .j3 = true)
    (h_regs : P .regs = true) (h_cad : P .cad = true) (h_sens : P .sens = true) :
    WithinOut P s (execMonitorCheckDone k pass s) := by
  unfold execMonitorCheckDone
  with_reducible repeat' first
    | assumption | exact Within.refl _ _ | apply WithinOut.next | apply Within.trans ?_ (State.wr_within _ _ _ ?_)
    | apply Within.trans ?_ (State.setFld_within _ _ _ ?_) | apply Within.trans ?_ (State.updMon_within _ _ _ ?_)
    | apply Within.trans ?_ (State.post_within _ _ _ _ ?_ ?_ ?_) | apply Within.trans ?_ (State.showPt_within _ ?_)
    | apply Within.trans ?_ (State.monUnresolve_within _ _ ?_) | apply Within.ite | apply WithinOut.ite

end Sys2Proof.Machine
end

