-- ==== Sys2Proof/Laws/FrameEngine.lean ====
section
/-!
SUPPORT. Frames, one lemma for each function that gives a state, a command's outcome or an optional state: which parts of the state it may
change at all, and that it leaves the queue and the canonical form alone. This file: the engine's instructions and its control.
-/
namespace Sys2Proof.Machine

theorem State.writeOps_within {P : Part → Bool} (s : State) (l : Nat) (r : Run) (w : List (Nat × Word)) (h_eng : P .eng = true) :
    Within P s (State.writeOps s l r w) := by
  unfold State.writeOps
  with_reducible repeat' first
    | assumption | exact Within.refl _ _ | apply Within.trans ?_ (State.clearErr_within _ _ ?_)
    | apply Within.trans ?_ (State.updCtx_within _ _ _ ?_) | apply Within.trans ?_ (State.updLane_within _ _ _ ?_)
    | apply Within.ite | apply Within.foldl (fun _ _ => ?_) ?_ _

theorem State.undefinedIns_within {P : Part → Bool} (s : State) (l : Nat) (r : Run) (h_j3 : P .j3 = true) (h_regs : P .regs = true)
    (h_cad : P .cad = true) (h_eng : P .eng = true) (h_pwm : P .pwm = true) (h_safe : P .safe = true) :
    Within P s (State.undefinedIns s l r) := by
  unfold State.undefinedIns
  with_reducible repeat' first
    | assumption | exact Within.refl _ _ | apply Within.trans ?_ (State.ctxFaultNow_within _ _ _ ?_ ?_ ?_)
    | apply Within.trans ?_ (State.abortRun_within _ _ _ ?_ ?_) | apply Within.trans ?_ (State.post_within _ _ _ _ ?_ ?_ ?_)
    | apply Within.trans ?_ (State.showLane_within _ _ ?_) | apply Within.trans ?_ (State.resume_within _ _ ?_)
    | apply Within.trans ?_ (State.raise_within _ _ _ ?_ ?_ ?_ ?_ ?_)

theorem State.applyEff_within {P : Part → Bool} (s : State) (l : Nat) (r : Run) (e : Eff) (h_free : P .free = true)
    (h_regs : P .regs = true) (h_eng : P .eng = true) :
    Within P s (State.applyEff s l r e) := by
  unfold State.applyEff
  with_reducible repeat' first
    | assumption | exact Within.refl _ _ | apply Within.trans ?_ (State.ctxFlag_within _ _ _ ?_)
    | apply Within.trans ?_ (State.updCtx_within _ _ _ ?_) | apply Within.trans ?_ (State.writeOps_within _ _ _ _ ?_)
    | apply Within.ite | apply Within.free ?_ ?_ _

theorem State.issue_within {P : Part → Bool} (s : State) (l : Nat) (op : Nat) (f : State → Run → Ins → Eff) (h_free : P .free = true)
    (h_j3 : P .j3 = true) (h_regs : P .regs = true) (h_cad : P .cad = true) (h_eng : P .eng = true) (h_pwm : P .pwm = true)
    (h_safe : P .safe = true) :
    Within P s (State.issue s l op f) := by
  unfold State.issue
  with_reducible repeat' first
    | assumption | exact Within.refl _ _ | exact Within.id_ _ _
    | apply Within.trans ?_ (State.runReads_within _ _ _ _ _ ?_ ?_ ?_ ?_ ?_ ?_ (fun _ => ?_))
    | apply Within.trans ?_ (State.undefinedIns_within _ _ _ ?_ ?_ ?_ ?_ ?_ ?_)
    | apply Within.trans ?_ (State.applyEff_within _ _ _ _ ?_ ?_ ?_) | apply Within.ite | split | (dsimp only; split)

theorem insOut_within {P : Part → Bool} (lane : Fin 4) (op : Nat) (f : State → Run → Ins → Eff) (s : State) (h_free : P .free = true)
    (h_j3 : P .j3 = true) (h_regs : P .regs = true) (h_cad : P .cad = true) (h_eng : P .eng = true) (h_pwm : P .pwm = true)
    (h_safe : P .safe = true) :
    WithinOut P s (insOut lane op f s) := by
  unfold insOut
  with_reducible repeat' first
    | assumption | exact Within.refl _ _ | apply WithinOut.next
    | apply Within.trans ?_ (State.issue_within _ _ _ _ ?_ ?_ ?_ ?_ ?_ ?_ ?_)

theorem execNop_within {P : Part → Bool} (lane : Fin 4) (s : State) (h_free : P .free = true) (h_j3 : P .j3 = true)
    (h_regs : P .regs = true) (h_cad : P .cad = true) (h_eng : P .eng = true) (h_pwm : P .pwm = true) (h_safe : P .safe = true) :
    WithinOut P s (execNop lane s) := by
  unfold execNop
  with_reducible repeat' first
    | assumption | exact Within.refl _ _ | apply WithinOut.next
    | apply WithinOut.trans ?_ (insOut_within _ _ _ _ ?_ ?_ ?_ ?_ ?_ ?_ ?_)

theorem execMov_within {P : Part → Bool} (lane : Fin 4) (s : State) (h_free : P .free = true) (h_j3 : P .j3 = true)
    (h_regs : P .regs = true) (h_cad : P .cad = true) (h_eng : P .eng = true) (h_pwm : P .pwm = true) (h_safe : P .safe = true) :
    WithinOut P s (execMov lane s) := by
  unfold execMov
  with_reducible repeat' first
    | assumption | exact Within.refl _ _ | exact Within.id_ _ _ | apply WithinOut.next
    | apply WithinOut.trans ?_ (insOut_within _ _ _ _ ?_ ?_ ?_ ?_ ?_ ?_ ?_)

theorem execAdd_within {P : Part → Bool} (lane : Fin 4) (s : State) (h_free : P .free = true) (h_j3 : P .j3 = true)
    (h_regs : P .regs = true) (h_cad : P .cad = true) (h_eng : P .eng = true) (h_pwm : P .pwm = true) (h_safe : P .safe = true) :
    WithinOut P s (execAdd lane s) := by
  unfold execAdd
  with_reducible repeat' first
    | assumption | exact Within.refl _ _ | apply WithinOut.next
    | apply WithinOut.trans ?_ (insOut_within _ _ _ _ ?_ ?_ ?_ ?_ ?_ ?_ ?_)

theorem execSub_within {P : Part → Bool} (lane : Fin 4) (s : State) (h_free : P .free = true) (h_j3 : P .j3 = true)
    (h_regs : P .regs = true) (h_cad : P .cad = true) (h_eng : P .eng = true) (h_pwm : P .pwm = true) (h_safe : P .safe = true) :
    WithinOut P s (execSub lane s) := by
  unfold execSub
  with_reducible repeat' first
    | assumption | exact Within.refl _ _ | apply WithinOut.next
    | apply WithinOut.trans ?_ (insOut_within _ _ _ _ ?_ ?_ ?_ ?_ ?_ ?_ ?_)

theorem execMul_within {P : Part → Bool} (lane : Fin 4) (s : State) (h_free : P .free = true) (h_j3 : P .j3 = true)
    (h_regs : P .regs = true) (h_cad : P .cad = true) (h_eng : P .eng = true) (h_pwm : P .pwm = true) (h_safe : P .safe = true) :
    WithinOut P s (execMul lane s) := by
  unfold execMul
  with_reducible repeat' first
    | assumption | exact Within.refl _ _ | apply WithinOut.next
    | apply WithinOut.trans ?_ (insOut_within _ _ _ _ ?_ ?_ ?_ ?_ ?_ ?_ ?_)

theorem execMac_within {P : Part → Bool} (lane : Fin 4) (s : State) (h_free : P .free = true) (h_j3 : P .j3 = true)
    (h_regs : P .regs = true) (h_cad : P .cad = true) (h_eng : P .eng = true) (h_pwm : P .pwm = true) (h_safe : P .safe = true) :
    WithinOut P s (execMac lane s) := by
  unfold execMac
  with_reducible repeat' first
    | assumption | exact Within.refl _ _ | apply WithinOut.next
    | apply WithinOut.trans ?_ (insOut_within _ _ _ _ ?_ ?_ ?_ ?_ ?_ ?_ ?_)

theorem execMsb_within {P : Part → Bool} (lane : Fin 4) (s : State) (h_free : P .free = true) (h_j3 : P .j3 = true)
    (h_regs : P .regs = true) (h_cad : P .cad = true) (h_eng : P .eng = true) (h_pwm : P .pwm = true) (h_safe : P .safe = true) :
    WithinOut P s (execMsb lane s) := by
  unfold execMsb
  with_reducible repeat' first
    | assumption | exact Within.refl _ _ | apply WithinOut.next
    | apply WithinOut.trans ?_ (insOut_within _ _ _ _ ?_ ?_ ?_ ?_ ?_ ?_ ?_)

theorem execNeg_within {P : Part → Bool} (lane : Fin 4) (s : State) (h_free : P .free = true) (h_j3 : P .j3 = true)
    (h_regs : P .regs = true) (h_cad : P .cad = true) (h_eng : P .eng = true) (h_pwm : P .pwm = true) (h_safe : P .safe = true) :
    WithinOut P s (execNeg lane s) := by
  unfold execNeg
  with_reducible repeat' first
    | assumption | exact Within.refl _ _ | apply WithinOut.next
    | apply WithinOut.trans ?_ (insOut_within _ _ _ _ ?_ ?_ ?_ ?_ ?_ ?_ ?_)

theorem execAbs_within {P : Part → Bool} (lane : Fin 4) (s : State) (h_free : P .free = true) (h_j3 : P .j3 = true)
    (h_regs : P .regs = true) (h_cad : P .cad = true) (h_eng : P .eng = true) (h_pwm : P .pwm = true) (h_safe : P .safe = true) :
    WithinOut P s (execAbs lane s) := by
  unfold execAbs
  with_reducible repeat' first
    | assumption | exact Within.refl _ _ | apply WithinOut.next
    | apply WithinOut.trans ?_ (insOut_within _ _ _ _ ?_ ?_ ?_ ?_ ?_ ?_ ?_)

theorem execMin_within {P : Part → Bool} (lane : Fin 4) (s : State) (h_free : P .free = true) (h_j3 : P .j3 = true)
    (h_regs : P .regs = true) (h_cad : P .cad = true) (h_eng : P .eng = true) (h_pwm : P .pwm = true) (h_safe : P .safe = true) :
    WithinOut P s (execMin lane s) := by
  unfold execMin
  with_reducible repeat' first
    | assumption | exact Within.refl _ _ | apply WithinOut.next
    | apply WithinOut.trans ?_ (insOut_within _ _ _ _ ?_ ?_ ?_ ?_ ?_ ?_ ?_)

theorem execMax_within {P : Part → Bool} (lane : Fin 4) (s : State) (h_free : P .free = true) (h_j3 : P .j3 = true)
    (h_regs : P .regs = true) (h_cad : P .cad = true) (h_eng : P .eng = true) (h_pwm : P .pwm = true) (h_safe : P .safe = true) :
    WithinOut P s (execMax lane s) := by
  unfold execMax
  with_reducible repeat' first
    | assumption | exact Within.refl _ _ | apply WithinOut.next
    | apply WithinOut.trans ?_ (insOut_within _ _ _ _ ?_ ?_ ?_ ?_ ?_ ?_ ?_)

theorem execClamp_within {P : Part → Bool} (lane : Fin 4) (s : State) (h_free : P .free = true) (h_j3 : P .j3 = true)
    (h_regs : P .regs = true) (h_cad : P .cad = true) (h_eng : P .eng = true) (h_pwm : P .pwm = true) (h_safe : P .safe = true) :
    WithinOut P s (execClamp lane s) := by
  unfold execClamp
  with_reducible repeat' first
    | assumption | exact Within.refl _ _ | apply WithinOut.next
    | apply WithinOut.trans ?_ (insOut_within _ _ _ _ ?_ ?_ ?_ ?_ ?_ ?_ ?_)

theorem execLerp_within {P : Part → Bool} (lane : Fin 4) (s : State) (h_free : P .free = true) (h_j3 : P .j3 = true)
    (h_regs : P .regs = true) (h_cad : P .cad = true) (h_eng : P .eng = true) (h_pwm : P .pwm = true) (h_safe : P .safe = true) :
    WithinOut P s (execLerp lane s) := by
  unfold execLerp
  with_reducible repeat' first
    | assumption | exact Within.refl _ _ | apply WithinOut.next
    | apply WithinOut.trans ?_ (insOut_within _ _ _ _ ?_ ?_ ?_ ?_ ?_ ?_ ?_)

theorem execRate_within {P : Part → Bool} (lane : Fin 4) (s : State) (h_free : P .free = true) (h_j3 : P .j3 = true)
    (h_regs : P .regs = true) (h_cad : P .cad = true) (h_eng : P .eng = true) (h_pwm : P .pwm = true) (h_safe : P .safe = true) :
    WithinOut P s (execRate lane s) := by
  unfold execRate
  with_reducible repeat' first
    | assumption | exact Within.refl _ _ | apply WithinOut.next
    | apply WithinOut.trans ?_ (insOut_within _ _ _ _ ?_ ?_ ?_ ?_ ?_ ?_ ?_)

theorem execWrap_within {P : Part → Bool} (lane : Fin 4) (s : State) (h_free : P .free = true) (h_j3 : P .j3 = true)
    (h_regs : P .regs = true) (h_cad : P .cad = true) (h_eng : P .eng = true) (h_pwm : P .pwm = true) (h_safe : P .safe = true) :
    WithinOut P s (execWrap lane s) := by
  unfold execWrap
  with_reducible repeat' first
    | assumption | exact Within.refl _ _ | apply WithinOut.next
    | apply WithinOut.trans ?_ (insOut_within _ _ _ _ ?_ ?_ ?_ ?_ ?_ ?_ ?_)

theorem execRcp_within {P : Part → Bool} (lane : Fin 4) (s : State) (h_free : P .free = true) (h_j3 : P .j3 = true)
    (h_regs : P .regs = true) (h_cad : P .cad = true) (h_eng : P .eng = true) (h_pwm : P .pwm = true) (h_safe : P .safe = true) :
    WithinOut P s (execRcp lane s) := by
  unfold execRcp
  with_reducible repeat' first
    | assumption | exact Within.refl _ _ | apply WithinOut.next
    | apply WithinOut.trans ?_ (insOut_within _ _ _ _ ?_ ?_ ?_ ?_ ?_ ?_ ?_)

theorem execRsq_within {P : Part → Bool} (lane : Fin 4) (s : State) (h_free : P .free = true) (h_j3 : P .j3 = true)
    (h_regs : P .regs = true) (h_cad : P .cad = true) (h_eng : P .eng = true) (h_pwm : P .pwm = true) (h_safe : P .safe = true) :
    WithinOut P s (execRsq lane s) := by
  unfold execRsq
  with_reducible repeat' first
    | assumption | exact Within.refl _ _ | apply WithinOut.next
    | apply WithinOut.trans ?_ (insOut_within _ _ _ _ ?_ ?_ ?_ ?_ ?_ ?_ ?_)

theorem execDiv_within {P : Part → Bool} (lane : Fin 4) (s : State) (h_free : P .free = true) (h_j3 : P .j3 = true)
    (h_regs : P .regs = true) (h_cad : P .cad = true) (h_eng : P .eng = true) (h_pwm : P .pwm = true) (h_safe : P .safe = true) :
    WithinOut P s (execDiv lane s) := by
  unfold execDiv
  with_reducible repeat' first
    | assumption | exact Within.refl _ _ | apply WithinOut.next
    | apply WithinOut.trans ?_ (insOut_within _ _ _ _ ?_ ?_ ?_ ?_ ?_ ?_ ?_)

theorem execSqrt_within {P : Part → Bool} (lane : Fin 4) (s : State) (h_free : P .free = true) (h_j3 : P .j3 = true)
    (h_regs : P .regs = true) (h_cad : P .cad = true) (h_eng : P .eng = true) (h_pwm : P .pwm = true) (h_safe : P .safe = true) :
    WithinOut P s (execSqrt lane s) := by
  unfold execSqrt
  with_reducible repeat' first
    | assumption | exact Within.refl _ _ | apply WithinOut.next
    | apply WithinOut.trans ?_ (insOut_within _ _ _ _ ?_ ?_ ?_ ?_ ?_ ?_ ?_)

theorem execHyp_within {P : Part → Bool} (lane : Fin 4) (s : State) (h_free : P .free = true) (h_j3 : P .j3 = true)
    (h_regs : P .regs = true) (h_cad : P .cad = true) (h_eng : P .eng = true) (h_pwm : P .pwm = true) (h_safe : P .safe = true) :
    WithinOut P s (execHyp lane s) := by
  unfold execHyp
  with_reducible repeat' first
    | assumption | exact Within.refl _ _ | apply WithinOut.next
    | apply WithinOut.trans ?_ (insOut_within _ _ _ _ ?_ ?_ ?_ ?_ ?_ ?_ ?_)

theorem execAtan2_within {P : Part → Bool} (lane : Fin 4) (s : State) (h_free : P .free = true) (h_j3 : P .j3 = true)
    (h_regs : P .regs = true) (h_cad : P .cad = true) (h_eng : P .eng = true) (h_pwm : P .pwm = true) (h_safe : P .safe = true) :
    WithinOut P s (execAtan2 lane s) := by
  unfold execAtan2
  with_reducible repeat' first
    | assumption | exact Within.refl _ _ | apply WithinOut.next
    | apply WithinOut.trans ?_ (insOut_within _ _ _ _ ?_ ?_ ?_ ?_ ?_ ?_ ?_)

theorem execSincos_within {P : Part → Bool} (lane : Fin 4) (s : State) (h_free : P .free = true) (h_j3 : P .j3 = true)
    (h_regs : P .regs = true) (h_cad : P .cad = true) (h_eng : P .eng = true) (h_pwm : P .pwm = true) (h_safe : P .safe = true) :
    WithinOut P s (execSincos lane s) := by
  unfold execSincos
  with_reducible repeat' first
    | assumption | exact Within.refl _ _ | apply WithinOut.next
    | apply WithinOut.trans ?_ (insOut_within _ _ _ _ ?_ ?_ ?_ ?_ ?_ ?_ ?_)

theorem execCvti_within {P : Part → Bool} (lane : Fin 4) (s : State) (h_free : P .free = true) (h_j3 : P .j3 = true)
    (h_regs : P .regs = true) (h_cad : P .cad = true) (h_eng : P .eng = true) (h_pwm : P .pwm = true) (h_safe : P .safe = true) :
    WithinOut P s (execCvti lane s) := by
  unfold execCvti
  with_reducible repeat' first
    | assumption | exact Within.refl _ _ | apply WithinOut.next
    | apply WithinOut.trans ?_ (insOut_within _ _ _ _ ?_ ?_ ?_ ?_ ?_ ?_ ?_)

theorem execCvtf_within {P : Part → Bool} (lane : Fin 4) (s : State) (h_free : P .free = true) (h_j3 : P .j3 = true)
    (h_regs : P .regs = true) (h_cad : P .cad = true) (h_eng : P .eng = true) (h_pwm : P .pwm = true) (h_safe : P .safe = true) :
    WithinOut P s (execCvtf lane s) := by
  unfold execCvtf
  with_reducible repeat' first
    | assumption | exact Within.refl _ _ | apply WithinOut.next
    | apply WithinOut.trans ?_ (insOut_within _ _ _ _ ?_ ?_ ?_ ?_ ?_ ?_ ?_)

theorem execCmplt_within {P : Part → Bool} (lane : Fin 4) (s : State) (h_free : P .free = true) (h_j3 : P .j3 = true)
    (h_regs : P .regs = true) (h_cad : P .cad = true) (h_eng : P .eng = true) (h_pwm : P .pwm = true) (h_safe : P .safe = true) :
    WithinOut P s (execCmplt lane s) := by
  unfold execCmplt
  with_reducible repeat' first
    | assumption | exact Within.refl _ _ | apply WithinOut.next
    | apply WithinOut.trans ?_ (insOut_within _ _ _ _ ?_ ?_ ?_ ?_ ?_ ?_ ?_)

theorem execCmple_within {P : Part → Bool} (lane : Fin 4) (s : State) (h_free : P .free = true) (h_j3 : P .j3 = true)
    (h_regs : P .regs = true) (h_cad : P .cad = true) (h_eng : P .eng = true) (h_pwm : P .pwm = true) (h_safe : P .safe = true) :
    WithinOut P s (execCmple lane s) := by
  unfold execCmple
  with_reducible repeat' first
    | assumption | exact Within.refl _ _ | apply WithinOut.next
    | apply WithinOut.trans ?_ (insOut_within _ _ _ _ ?_ ?_ ?_ ?_ ?_ ?_ ?_)

theorem execCmpeq_within {P : Part → Bool} (lane : Fin 4) (s : State) (h_free : P .free = true) (h_j3 : P .j3 = true)
    (h_regs : P .regs = true) (h_cad : P .cad = true) (h_eng : P .eng = true) (h_pwm : P .pwm = true) (h_safe : P .safe = true) :
    WithinOut P s (execCmpeq lane s) := by
  unfold execCmpeq
  with_reducible repeat' first
    | assumption | exact Within.refl _ _ | apply WithinOut.next
    | apply WithinOut.trans ?_ (insOut_within _ _ _ _ ?_ ?_ ?_ ?_ ?_ ?_ ?_)

theorem execCmpag_within {P : Part → Bool} (lane : Fin 4) (s : State) (h_free : P .free = true) (h_j3 : P .j3 = true)
    (h_regs : P .regs = true) (h_cad : P .cad = true) (h_eng : P .eng = true) (h_pwm : P .pwm = true) (h_safe : P .safe = true) :
    WithinOut P s (execCmpag lane s) := by
  unfold execCmpag
  with_reducible repeat' first
    | assumption | exact Within.refl _ _ | apply WithinOut.next
    | apply WithinOut.trans ?_ (insOut_within _ _ _ _ ?_ ?_ ?_ ?_ ?_ ?_ ?_)

theorem execPandlt_within {P : Part → Bool} (lane : Fin 4) (s : State) (h_free : P .free = true) (h_j3 : P .j3 = true)
    (h_regs : P .regs = true) (h_cad : P .cad = true) (h_eng : P .eng = true) (h_pwm : P .pwm = true) (h_safe : P .safe = true) :
    WithinOut P s (execPandlt lane s) := by
  unfold execPandlt
  with_reducible repeat' first
    | assumption | exact Within.refl _ _ | apply WithinOut.next
    | apply WithinOut.trans ?_ (insOut_within _ _ _ _ ?_ ?_ ?_ ?_ ?_ ?_ ?_)

theorem execPorlt_within {P : Part → Bool} (lane : Fin 4) (s : State) (h_free : P .free = true) (h_j3 : P .j3 = true)
    (h_regs : P .regs = true) (h_cad : P .cad = true) (h_eng : P .eng = true) (h_pwm : P .pwm = true) (h_safe : P .safe = true) :
    WithinOut P s (execPorlt lane s) := by
  unfold execPorlt
  with_reducible repeat' first
    | assumption | exact Within.refl _ _ | apply WithinOut.next
    | apply WithinOut.trans ?_ (insOut_within _ _ _ _ ?_ ?_ ?_ ?_ ?_ ?_ ?_)

theorem execSel_within {P : Part → Bool} (lane : Fin 4) (s : State) (h_free : P .free = true) (h_j3 : P .j3 = true)
    (h_regs : P .regs = true) (h_cad : P .cad = true) (h_eng : P .eng = true) (h_pwm : P .pwm = true) (h_safe : P .safe = true) :
    WithinOut P s (execSel lane s) := by
  unfold execSel
  with_reducible repeat' first
    | assumption | exact Within.refl _ _ | apply WithinOut.next
    | apply WithinOut.trans ?_ (insOut_within _ _ _ _ ?_ ?_ ?_ ?_ ?_ ?_ ?_) | apply Within.ite | apply WithinOut.ite

theorem execBtst_within {P : Part → Bool} (lane : Fin 4) (s : State) (h_free : P .free = true) (h_j3 : P .j3 = true)
    (h_regs : P .regs = true) (h_cad : P .cad = true) (h_eng : P .eng = true) (h_pwm : P .pwm = true) (h_safe : P .safe = true) :
    WithinOut P s (execBtst lane s) := by
  unfold execBtst
  with_reducible repeat' first
    | assumption | exact Within.refl _ _ | apply WithinOut.next
    | apply WithinOut.trans ?_ (insOut_within _ _ _ _ ?_ ?_ ?_ ?_ ?_ ?_ ?_)

theorem execAnd_within {P : Part → Bool} (lane : Fin 4) (s : State) (h_free : P .free = true) (h_j3 : P .j3 = true)
    (h_regs : P .regs = true) (h_cad : P .cad = true) (h_eng : P .eng = true) (h_pwm : P .pwm = true) (h_safe : P .safe = true) :
    WithinOut P s (execAnd lane s) := by
  unfold execAnd
  with_reducible repeat' first
    | assumption | exact Within.refl _ _ | apply WithinOut.next
    | apply WithinOut.trans ?_ (insOut_within _ _ _ _ ?_ ?_ ?_ ?_ ?_ ?_ ?_)

theorem execOr_within {P : Part → Bool} (lane : Fin 4) (s : State) (h_free : P .free = true) (h_j3 : P .j3 = true)
    (h_regs : P .regs = true) (h_cad : P .cad = true) (h_eng : P .eng = true) (h_pwm : P .pwm = true) (h_safe : P .safe = true) :
    WithinOut P s (execOr lane s) := by
  unfold execOr
  with_reducible repeat' first
    | assumption | exact Within.refl _ _ | apply WithinOut.next
    | apply WithinOut.trans ?_ (insOut_within _ _ _ _ ?_ ?_ ?_ ?_ ?_ ?_ ?_)

theorem execXor_within {P : Part → Bool} (lane : Fin 4) (s : State) (h_free : P .free = true) (h_j3 : P .j3 = true)
    (h_regs : P .regs = true) (h_cad : P .cad = true) (h_eng : P .eng = true) (h_pwm : P .pwm = true) (h_safe : P .safe = true) :
    WithinOut P s (execXor lane s) := by
  unfold execXor
  with_reducible repeat' first
    | assumption | exact Within.refl _ _ | apply WithinOut.next
    | apply WithinOut.trans ?_ (insOut_within _ _ _ _ ?_ ?_ ?_ ?_ ?_ ?_ ?_)

theorem execShr_within {P : Part → Bool} (lane : Fin 4) (s : State) (h_free : P .free = true) (h_j3 : P .j3 = true)
    (h_regs : P .regs = true) (h_cad : P .cad = true) (h_eng : P .eng = true) (h_pwm : P .pwm = true) (h_safe : P .safe = true) :
    WithinOut P s (execShr lane s) := by
  unfold execShr
  with_reducible repeat' first
    | assumption | exact Within.refl _ _ | apply WithinOut.next
    | apply WithinOut.trans ?_ (insOut_within _ _ _ _ ?_ ?_ ?_ ?_ ?_ ?_ ?_)

theorem execClk3_within {P : Part → Bool} (lane : Fin 4) (s : State) (h_free : P .free = true) (h_j3 : P .j3 = true)
    (h_regs : P .regs = true) (h_cad : P .cad = true) (h_eng : P .eng = true) (h_pwm : P .pwm = true) (h_safe : P .safe = true) :
    WithinOut P s (execClk3 lane s) := by
  unfold execClk3
  with_reducible repeat' first
    | assumption | exact Within.refl _ _ | apply WithinOut.next
    | apply WithinOut.trans ?_ (insOut_within _ _ _ _ ?_ ?_ ?_ ?_ ?_ ?_ ?_)

theorem execVsd6_within {P : Part → Bool} (lane : Fin 4) (s : State) (h_free : P .free = true) (h_j3 : P .j3 = true)
    (h_regs : P .regs = true) (h_cad : P .cad = true) (h_eng : P .eng = true) (h_pwm : P .pwm = true) (h_safe : P .safe = true) :
    WithinOut P s (execVsd6 lane s) := by
  unfold execVsd6
  with_reducible repeat' first
    | assumption | exact Within.refl _ _ | apply WithinOut.next
    | apply WithinOut.trans ?_ (insOut_within _ _ _ _ ?_ ?_ ?_ ?_ ?_ ?_ ?_)

theorem execPark_within {P : Part → Bool} (lane : Fin 4) (s : State) (h_free : P .free = true) (h_j3 : P .j3 = true)
    (h_regs : P .regs = true) (h_cad : P .cad = true) (h_eng : P .eng = true) (h_pwm : P .pwm = true) (h_safe : P .safe = true) :
    WithinOut P s (execPark lane s) := by
  unfold execPark
  with_reducible repeat' first
    | assumption | exact Within.refl _ _ | apply WithinOut.next
    | apply WithinOut.trans ?_ (insOut_within _ _ _ _ ?_ ?_ ?_ ?_ ?_ ?_ ?_)

theorem execIpark_within {P : Part → Bool} (lane : Fin 4) (s : State) (h_free : P .free = true) (h_j3 : P .j3 = true)
    (h_regs : P .regs = true) (h_cad : P .cad = true) (h_eng : P .eng = true) (h_pwm : P .pwm = true) (h_safe : P .safe = true) :
    WithinOut P s (execIpark lane s) := by
  unfold execIpark
  with_reducible repeat' first
    | assumption | exact Within.refl _ _ | apply WithinOut.next
    | apply WithinOut.trans ?_ (insOut_within _ _ _ _ ?_ ?_ ?_ ?_ ?_ ?_ ?_)

theorem execParksc_within {P : Part → Bool} (lane : Fin 4) (s : State) (h_free : P .free = true) (h_j3 : P .j3 = true)
    (h_regs : P .regs = true) (h_cad : P .cad = true) (h_eng : P .eng = true) (h_pwm : P .pwm = true) (h_safe : P .safe = true) :
    WithinOut P s (execParksc lane s) := by
  unfold execParksc
  with_reducible repeat' first
    | assumption | exact Within.refl _ _ | apply WithinOut.next
    | apply WithinOut.trans ?_ (insOut_within _ _ _ _ ?_ ?_ ?_ ?_ ?_ ?_ ?_)

theorem execIparksc_within {P : Part → Bool} (lane : Fin 4) (s : State) (h_free : P .free = true) (h_j3 : P .j3 = true)
    (h_regs : P .regs = true) (h_cad : P .cad = true) (h_eng : P .eng = true) (h_pwm : P .pwm = true) (h_safe : P .safe = true) :
    WithinOut P s (execIparksc lane s) := by
  unfold execIparksc
  with_reducible repeat' first
    | assumption | exact Within.refl _ _ | apply WithinOut.next
    | apply WithinOut.trans ?_ (insOut_within _ _ _ _ ?_ ?_ ?_ ?_ ?_ ?_ ?_)

theorem execPic_within {P : Part → Bool} (lane : Fin 4) (s : State) (h_free : P .free = true) (h_j3 : P .j3 = true)
    (h_regs : P .regs = true) (h_cad : P .cad = true) (h_eng : P .eng = true) (h_pwm : P .pwm = true) (h_safe : P .safe = true) :
    WithinOut P s (execPic lane s) := by
  unfold execPic
  with_reducible repeat' first
    | assumption | exact Within.refl _ _ | apply WithinOut.next
    | apply WithinOut.trans ?_ (insOut_within _ _ _ _ ?_ ?_ ?_ ?_ ?_ ?_ ?_)

theorem execSvm_within {P : Part → Bool} (lane : Fin 4) (s : State) (h_free : P .free = true) (h_j3 : P .j3 = true)
    (h_regs : P .regs = true) (h_cad : P .cad = true) (h_eng : P .eng = true) (h_pwm : P .pwm = true) (h_safe : P .safe = true) :
    WithinOut P s (execSvm lane s) := by
  unfold execSvm
  with_reducible repeat' first
    | assumption | exact Within.refl _ _ | apply WithinOut.next
    | apply WithinOut.trans ?_ (insOut_within _ _ _ _ ?_ ?_ ?_ ?_ ?_ ?_ ?_)

theorem execLut1_within {P : Part → Bool} (lane : Fin 4) (s : State) (h_free : P .free = true) (h_j3 : P .j3 = true)
    (h_regs : P .regs = true) (h_cad : P .cad = true) (h_eng : P .eng = true) (h_pwm : P .pwm = true) (h_safe : P .safe = true) :
    WithinOut P s (execLut1 lane s) := by
  unfold execLut1
  with_reducible repeat' first
    | assumption | exact Within.refl _ _ | apply WithinOut.next
    | apply WithinOut.trans ?_ (insOut_within _ _ _ _ ?_ ?_ ?_ ?_ ?_ ?_ ?_)

theorem execLut2_within {P : Part → Bool} (lane : Fin 4) (s : State) (h_free : P .free = true) (h_j3 : P .j3 = true)
    (h_regs : P .regs = true) (h_cad : P .cad = true) (h_eng : P .eng = true) (h_pwm : P .pwm = true) (h_safe : P .safe = true) :
    WithinOut P s (execLut2 lane s) := by
  unfold execLut2
  with_reducible repeat' first
    | assumption | exact Within.refl _ _ | apply WithinOut.next
    | apply WithinOut.trans ?_ (insOut_within _ _ _ _ ?_ ?_ ?_ ?_ ?_ ?_ ?_)

theorem State.cwStep_within {P : Part → Bool} (s : State) (m : Master) (c : Nat) (h_regs : P .regs = true) :
    Within P s (State.cwStep s m c) := by
  unfold State.cwStep
  with_reducible repeat' first
    | assumption | exact Within.refl _ _ | apply Within.trans ?_ (State.setFld_within _ _ _ ?_) | apply Within.ite

theorem State.setCtxWord_within {P : Part → Bool} (s : State) (c : Nat) (o : Nat) (v : Word) (h_eng : P .eng = true) :
    Within P s (State.setCtxWord s c o v) := by
  unfold State.setCtxWord
  with_reducible repeat' first
    | assumption | exact Within.refl _ _ | exact Within.id_ _ _ | apply Within.trans ?_ (State.clearErr_within _ _ ?_)
    | apply Within.trans ?_ (State.updCtx_within _ _ _ ?_) | apply Within.each (fun _ _ => ?_) _ ?_
    | apply Within.trans ?_ (State.updLane_within _ _ _ ?_) | apply Within.ite

theorem State.progWrite_within {P : Part → Bool} (s : State) (m : Master) (i : Nat) (v : Word) (h_free : P .free = true)
    (h_resp : P .resp = true) (h_j3 : P .j3 = true) (h_regs : P .regs = true) (h_engineMem : P .engineMem = true) (h_cad : P .cad = true)
    (h_eng : P .eng = true) :
    Within P s (State.progWrite s m i v) := by
  unfold State.progWrite
  with_reducible repeat' first
    | assumption | exact Within.refl _ _ | exact Within.id_ _ _
    | apply Within.trans ?_ (State.writePage_within _ _ _ _ _ _ _ ?_ ?_ ?_ ?_ ?_ (fun _ => ?_))
    | apply Within.trans ?_ (State.clearErr_within _ _ ?_) | apply Within.trans ?_ (State.setEngineWord_within _ _ _ ?_ ?_)

theorem State.tabWrite_within {P : Part → Bool} (s : State) (m : Master) (i : Nat) (v : Word) (h_free : P .free = true)
    (h_resp : P .resp = true) (h_j3 : P .j3 = true) (h_regs : P .regs = true) (h_engineMem : P .engineMem = true) (h_cad : P .cad = true)
    (h_eng : P .eng = true) :
    Within P s (State.tabWrite s m i v) := by
  unfold State.tabWrite
  with_reducible repeat' first
    | assumption | exact Within.refl _ _ | exact Within.id_ _ _ | apply Within.trans ?_ (State.errResp_within _ _ _ _ _ ?_ ?_ ?_ ?_)
    | apply Within.trans ?_ (State.writePage_within _ _ _ _ _ _ _ ?_ ?_ ?_ ?_ ?_ (fun _ => ?_))
    | apply Within.trans ?_ (State.clearErr_within _ _ ?_) | apply Within.ite | apply Within.tab ?_ ?_ _ _

theorem State.valEnd_within {P : Part → Bool} (s : State) (err : Nat) (idx : Nat) (h_j3 : P .j3 = true) (h_regs : P .regs = true)
    (h_cad : P .cad = true) :
    Within P s (State.valEnd s err idx) := by
  unfold State.valEnd
  with_reducible repeat' first
    | assumption | exact Within.refl _ _ | apply Within.trans ?_ (State.setFld_within _ _ _ ?_)
    | apply Within.trans ?_ (State.post_within _ _ _ _ ?_ ?_ ?_) | apply Within.trans ?_ (State.evt_within _ _ _ _ ?_)
    | apply Within.ite

theorem execTickRunDispatch_within {P : Part → Bool} (lane : Fin 4) (ecc : Ecc) (s : State) (h_free : P .free = true)
    (h_j3 : P .j3 = true) (h_regs : P .regs = true) (h_engineMem : P .engineMem = true) (h_cad : P .cad = true) (h_eng : P .eng = true)
    (h_pwm : P .pwm = true) (h_safe : P .safe = true) :
    WithinOut P s (execTickRunDispatch lane ecc s) := by
  unfold execTickRunDispatch
  with_reducible repeat' first
    | assumption | exact Within.refl _ _ | apply WithinOut.next
    | apply Within.trans ?_ (State.dispatchTick_within _ _ ?_ ?_ ?_ ?_ ?_ ?_ ?_)
    | apply Within.trans ?_ (State.strikeEngine_within _ _ ?_ ?_ ?_)

theorem execRunComplete_within {P : Part → Bool} (lane : Fin 4) (s : State) (h_j3 : P .j3 = true) (h_regs : P .regs = true)
    (h_cad : P .cad = true) (h_eng : P .eng = true) (h_pwm : P .pwm = true) (h_safe : P .safe = true) (h_act : P .act = true) :
    WithinOut P s (execRunComplete lane s) := by
  unfold execRunComplete
  with_reducible repeat' first
    | assumption | exact Within.refl _ _ | apply WithinOut.next
    | apply Within.trans ?_ (State.completeRun_within _ _ _ ?_ ?_ ?_ ?_ ?_ ?_ ?_) | split | (dsimp only; split)

theorem execRunDeadlineAbort_within {P : Part → Bool} (lane : Fin 4) (crit : Bool) (s : State) (h_j3 : P .j3 = true)
    (h_regs : P .regs = true) (h_cad : P .cad = true) (h_eng : P .eng = true) :
    WithinOut P s (execRunDeadlineAbort lane crit s) := by
  unfold execRunDeadlineAbort
  with_reducible repeat' first
    | assumption | exact Within.refl _ _ | apply WithinOut.next | apply Within.trans ?_ (State.showLane_within _ _ ?_)
    | apply Within.trans ?_ (State.resume_within _ _ ?_) | apply Within.trans ?_ (State.abortLate_within _ _ _ ?_ ?_ ?_ ?_) | split
    | (dsimp only; split)

theorem execDutyPortApply_within {P : Part → Bool} (lane : Fin 4) (s : State) (h_j3 : P .j3 = true) (h_regs : P .regs = true)
    (h_cad : P .cad = true) (h_eng : P .eng = true) (h_pwm : P .pwm = true) (h_safe : P .safe = true) (h_act : P .act = true) :
    WithinOut P s (execDutyPortApply lane s) := by
  unfold execDutyPortApply
  with_reducible repeat' first
    | assumption | exact Within.refl _ _ | apply WithinOut.next
    | apply Within.trans ?_ (State.drainOne_within _ _ ?_ ?_ ?_ ?_ ?_ ?_ ?_)

theorem execUndefinedInstruction_within {P : Part → Bool} (lane : Fin 4) (s : State) (h_j3 : P .j3 = true) (h_regs : P .regs = true)
    (h_cad : P .cad = true) (h_eng : P .eng = true) (h_pwm : P .pwm = true) (h_safe : P .safe = true) :
    WithinOut P s (execUndefinedInstruction lane s) := by
  unfold execUndefinedInstruction
  with_reducible repeat' first
    | assumption | exact Within.refl _ _ | apply WithinOut.next
    | apply Within.trans ?_ (State.undefinedIns_within _ _ _ ?_ ?_ ?_ ?_ ?_ ?_) | apply Within.ite | apply WithinOut.ite | split
    | (dsimp only; split)

theorem execReissue_within {P : Part → Bool} (lane : Fin 4) (s : State) (h_j3 : P .j3 = true) (h_regs : P .regs = true)
    (h_cad : P .cad = true) (h_eng : P .eng = true) (h_pwm : P .pwm = true) (h_safe : P .safe = true) :
    WithinOut P s (execReissue lane s) := by
  unfold execReissue
  with_reducible repeat' first
    | assumption | exact Within.refl _ _ | apply WithinOut.next
    | apply Within.trans ?_ (State.laneFault_within _ _ ?_ ?_ ?_ ?_ ?_ ?_)
    | apply Within.trans ?_ (State.post_within _ _ _ _ ?_ ?_ ?_) | apply Within.trans ?_ (State.evt_within _ _ _ _ ?_)
    | apply Within.trans ?_ (State.inc_within _ _ ?_) | apply Within.trans ?_ (State.updLane_within _ _ _ ?_) | apply Within.ite
    | apply WithinOut.ite | split | (dsimp only; split)

theorem execLaneFault_within {P : Part → Bool} (lane : Fin 4) (s : State) (h_j3 : P .j3 = true) (h_regs : P .regs = true)
    (h_cad : P .cad = true) (h_eng : P .eng = true) (h_pwm : P .pwm = true) (h_safe : P .safe = true) :
    WithinOut P s (execLaneFault lane s) := by
  unfold execLaneFault
  with_reducible repeat' first
    | assumption | exact Within.refl _ _ | apply WithinOut.next
    | apply Within.trans ?_ (State.laneFault_within _ _ ?_ ?_ ?_ ?_ ?_ ?_) | apply Within.ite | apply WithinOut.ite | split
    | (dsimp only; split)

theorem execLaneCheck_within {P : Part → Bool} (m : Master) (lane : Fin 4) (s : State) (h_free : P .free = true) (h_resp : P .resp = true)
    (h_j3 : P .j3 = true) (h_regs : P .regs = true) (h_cad : P .cad = true) :
    WithinOut P s (execLaneCheck m lane s) := by
  unfold execLaneCheck
  with_reducible repeat' first
    | assumption | exact Within.refl _ _ | exact Within.id_ _ _ | apply WithinOut.next
    | apply Within.trans ?_ (State.write_within _ _ _ _ _ ?_ ?_ ?_ ?_ ?_ (fun _ => ?_))
    | apply Within.trans ?_ (State.setFld_within _ _ _ ?_)

theorem execLaneCheckDone_within {P : Part → Bool} (lane : Fin 4) (pass : Bool) (s : State) (h_regs : P .regs = true)
    (h_eng : P .eng = true) :
    WithinOut P s (execLaneCheckDone lane pass s) := by
  unfold execLaneCheckDone
  with_reducible repeat' first
    | assumption | exact Within.refl _ _ | apply WithinOut.next | apply Within.trans ?_ (State.setFld_within _ _ _ ?_)
    | apply Within.trans ?_ (State.showLane_within _ _ ?_) | apply Within.trans ?_ (State.updLane_within _ _ _ ?_)
    | apply Within.ite | apply WithinOut.ite

theorem execStateRequest_within {P : Part → Bool} (m : Master) (c : Fin 160) (req : Fin 8) (s : State) (h_free : P .free = true)
    (h_resp : P .resp = true) (h_j3 : P .j3 = true) (h_regs : P .regs = true) (h_cad : P .cad = true) :
    WithinOut P s (execStateRequest m c req s) := by
  unfold execStateRequest
  with_reducible repeat' first
    | assumption | exact Within.refl _ _ | exact Within.id_ _ _ | apply WithinOut.next
    | apply Within.trans ?_ (State.write_within _ _ _ _ _ ?_ ?_ ?_ ?_ ?_ (fun _ => ?_))
    | apply Within.trans ?_ (State.setFld_within _ _ _ ?_) | apply Within.ite | apply WithinOut.ite

theorem execContextWordWrite_within {P : Part → Bool} (m : Master) (c : Fin 160) (v : Word) (s : State) (h_free : P .free = true)
    (h_resp : P .resp = true) (h_j3 : P .j3 = true) (h_regs : P .regs = true) (h_cad : P .cad = true) (h_eng : P .eng = true) :
    WithinOut P s (execContextWordWrite m c v s) := by
  unfold execContextWordWrite
  with_reducible repeat' first
    | assumption | exact Within.refl _ _ | exact Within.id_ _ _ | apply WithinOut.next
    | apply Within.trans ?_ (State.post_within _ _ _ _ ?_ ?_ ?_) | apply Within.trans ?_ (State.ctxFlag_within _ _ _ ?_)
    | apply Within.trans ?_ (State.errResp_within _ _ _ _ _ ?_ ?_ ?_ ?_)
    | apply Within.trans ?_ (State.write_within _ _ _ _ _ ?_ ?_ ?_ ?_ ?_ (fun _ => ?_))
    | apply Within.trans ?_ (State.cwStep_within _ _ _ ?_) | apply Within.trans ?_ (State.setCtxWord_within _ _ _ _ ?_)
    | apply Within.ite | apply WithinOut.ite

theorem execContextWordRead_within {P : Part → Bool} (m : Master) (c : Fin 160) (s : State) (h_resp : P .resp = true)
    (h_j3 : P .j3 = true) (h_regs : P .regs = true) (h_cad : P .cad = true) (h_eng : P .eng = true) :
    WithinOut P s (execContextWordRead m c s) := by
  unfold execContextWordRead
  with_reducible repeat' first
    | assumption | exact Within.refl _ _ | apply WithinOut.next | apply Within.trans ?_ (State.errResp_within _ _ _ _ _ ?_ ?_ ?_ ?_)
    | apply Within.trans ?_ (State.okResp_within _ _ ?_) | apply Within.trans ?_ (State.engineReads_within _ _ ?_ ?_ ?_ ?_)
    | apply Within.trans ?_ (State.cwStep_within _ _ _ ?_) | apply Within.ite | apply WithinOut.ite

theorem execEngineConstantWrite_within {P : Part → Bool} (m : Master) (k : Fin 31) (v : Word) (s : State) (h_free : P .free = true)
    (h_resp : P .resp = true) (h_j3 : P .j3 = true) (h_regs : P .regs = true) (h_cad : P .cad = true) :
    WithinOut P s (execEngineConstantWrite m k v s) := by
  unfold execEngineConstantWrite
  with_reducible repeat' first
    | assumption | exact Within.refl _ _ | exact Within.id_ _ _ | apply WithinOut.next
    | apply Within.trans ?_ (State.write_within _ _ _ _ _ ?_ ?_ ?_ ?_ ?_ (fun _ => ?_))
    | apply Within.trans ?_ (State.wr_within _ _ _ ?_)

theorem execProgramMemoryWrite_within {P : Part → Bool} (m : Master) (i : Fin 8192) (v : Word) (s : State) (h_free : P .free = true)
    (h_resp : P .resp = true) (h_j3 : P .j3 = true) (h_regs : P .regs = true) (h_engineMem : P .engineMem = true) (h_cad : P .cad = true)
    (h_eng : P .eng = true) :
    WithinOut P s (execProgramMemoryWrite m i v s) := by
  unfold execProgramMemoryWrite
  with_reducible repeat' first
    | assumption | exact Within.refl _ _ | apply WithinOut.next
    | apply Within.trans ?_ (State.progWrite_within _ _ _ _ ?_ ?_ ?_ ?_ ?_ ?_ ?_)

theorem execTableMemoryWrite_within {P : Part → Bool} (m : Master) (i : Fin 16384) (v : Word) (s : State) (h_free : P .free = true)
    (h_resp : P .resp = true) (h_j3 : P .j3 = true) (h_regs : P .regs = true) (h_engineMem : P .engineMem = true) (h_cad : P .cad = true)
    (h_eng : P .eng = true) :
    WithinOut P s (execTableMemoryWrite m i v s) := by
  unfold execTableMemoryWrite
  with_reducible repeat' first
    | assumption | exact Within.refl _ _ | apply WithinOut.next
    | apply Within.trans ?_ (State.tabWrite_within _ _ _ _ ?_ ?_ ?_ ?_ ?_ ?_ ?_)

theorem execValidationStart_within {P : Part → Bool} (m : Master) (start : Fin 4096) (len : Fin 8192) (s : State)
    (h_free : P .free = true) (h_resp : P .resp = true) (h_j3 : P .j3 = true) (h_regs : P .regs = true) (h_cad : P .cad = true) :
    WithinOut P s (execValidationStart m start len s) := by
  unfold execValidationStart
  with_reducible repeat' first
    | assumption | exact Within.refl _ _ | exact Within.id_ _ _ | apply WithinOut.next
    | apply Within.trans ?_ (State.write_within _ _ _ _ _ ?_ ?_ ?_ ?_ ?_ (fun _ => ?_))
    | apply Within.trans ?_ (State.setFld_within _ _ _ ?_) | apply Within.trans ?_ (State.valEnd_within _ _ _ ?_ ?_ ?_)
    | apply Within.ite | apply WithinOut.ite

theorem execValidationDone_within {P : Part → Bool} (s : State) (h_j3 : P .j3 = true) (h_regs : P .regs = true) (h_cad : P .cad = true)
    (h_eng : P .eng = true) :
    WithinOut P s (execValidationDone s) := by
  unfold execValidationDone
  with_reducible repeat' first
    | assumption | exact Within.refl _ _ | apply WithinOut.next | apply Within.trans ?_ (State.engineReads_within _ _ ?_ ?_ ?_ ?_)
    | apply Within.trans ?_ (State.setFld_within _ _ _ ?_) | apply Within.trans ?_ (State.valEnd_within _ _ _ ?_ ?_ ?_)
    | apply Within.ite | apply WithinOut.ite | split | (dsimp only; split)

end Sys2Proof.Machine
end

