-- ==== Sys2Proof/Laws/FrameDrive.lean ====
section
/-!
SUPPORT. Frames, one lemma for each function that gives a state, a command's outcome or an optional state: which parts of the state it may
change at all, and that it leaves the queue and the canonical form alone. This file: PWM, the links, the gate drivers, the safety manager, position and traction.
-/
namespace Sys2Proof.Machine

theorem State.showCnt_within {P : Part → Bool} (s : State) (g : Nat) (h_regs : P .regs = true) :
    Within P s (State.showCnt s g) := by
  unfold State.showCnt
  with_reducible repeat' first
    | assumption | exact Within.refl _ _ | apply Within.trans ?_ (State.setFld_within _ _ _ ?_) | split | (dsimp only; split)

theorem State.carrierClock_within {P : Part → Bool} (s : State) (g : Nat) (h_regs : P .regs = true) (h_pwm : P .pwm = true) :
    Within P s (State.carrierClock s g) := by
  unfold State.carrierClock
  with_reducible repeat' first
    | assumption | exact Within.refl _ _ | apply Within.trans ?_ (State.showCnt_within _ _ ?_)
    | apply Within.trans ?_ (State.updGrp_within _ _ _ ?_) | apply Within.ite

theorem State.periodWindow_within {P : Part → Bool} (s : State) (g : Nat) (jump : Bool) (left : List Nat) (h_sens : P .sens = true) :
    Within P s (State.periodWindow s g jump left) := by
  unfold State.periodWindow
  with_reducible repeat' first
    | assumption | exact Within.refl _ _ | apply Within.trans ?_ (State.beginWindows_within _ _ ?_)
    | apply Within.trans ?_ (State.updSrc_within _ _ _ ?_) | apply Within.trans ?_ (State.windowBoundary_within _ _ ?_)
    | apply Within.ite

theorem State.periodStartOne_within {P : Part → Bool} (s : State) (g : Nat) (h_free : P .free = true) (h_regs : P .regs = true)
    (h_sens : P .sens = true) (h_pwm : P .pwm = true) :
    Within P s (State.periodStartOne s g) := by
  unfold State.periodStartOne
  with_reducible repeat' first
    | assumption | exact Within.refl _ _ | apply Within.trans ?_ (State.updGrp_within _ _ _ ?_)
    | apply Within.trans ?_ (State.monPeriod_within _ _ ?_ ?_ ?_) | apply Within.trans ?_ (State.showCnt_within _ _ ?_)
    | apply Within.trans ?_ (State.setFld_within _ _ _ ?_) | apply Within.trans ?_ (State.periodWindow_within _ _ _ _ ?_)

theorem State.periodStart_within {P : Part → Bool} (a0 : Nat) (a1 : State) (a2 : Nat) (h_free : P .free = true) (h_regs : P .regs = true)
    (h_sens : P .sens = true) (h_pwm : P .pwm = true) :
    Within P a1 (State.periodStart a0 a1 a2) := by
  induction a0 generalizing a1 a2 with
  | zero => exact State.periodStartOne_within _ _ h_free h_regs h_sens h_pwm
  | succ n ih =>
    unfold State.periodStart
    exact .foldl (fun _ _ => .ite (.trans (State.updGrp_within _ _ _ h_pwm) (ih _ _)) (State.updGrp_within _ _ _ h_pwm))
      (State.periodStartOne_within _ _ h_free h_regs h_sens h_pwm) _

theorem State.guardEvt_within {P : Part → Bool} (s : State) (g : Nat) (h_regs : P .regs = true) :
    Within P s (State.guardEvt s g) := by
  unfold State.guardEvt
  with_reducible repeat' first
    | assumption | exact Within.refl _ _ | apply Within.trans ?_ (State.evt_within _ _ _ _ ?_)

theorem State.emitEdge_within {P : Part → Bool} (s : State) (g : Nat) (k : Nat) (t : Nat) (h_regs : P .regs = true)
    (h_pwm : P .pwm = true) :
    Within P s (State.emitEdge s g k t) := by
  unfold State.emitEdge
  with_reducible repeat' first
    | assumption | exact Within.refl _ _ | apply Within.trans ?_ (State.setFld_within _ _ _ ?_)
    | apply Within.trans ?_ (State.updGrp_within _ _ _ ?_) | apply Within.trans ?_ (State.send_within _ _ _ ?_)

theorem State.placeEdge_within {P : Part → Bool} (s : State) (g : Nat) (k : Nat) (d : Nat) (owed : Bool) (h_regs : P .regs = true)
    (h_pwm : P .pwm = true) :
    Within P s (State.placeEdge s g k d owed) := by
  unfold State.placeEdge
  with_reducible repeat' first
    | assumption | exact Within.refl _ _ | apply Within.trans ?_ (State.setFld_within _ _ _ ?_)
    | apply Within.trans ?_ (State.updGrp_within _ _ _ ?_) | apply Within.trans ?_ (State.guardEvt_within _ _ ?_)
    | apply Within.trans ?_ (State.inc_within _ _ ?_) | apply Within.trans ?_ (State.emitEdge_within _ _ _ _ ?_ ?_)
    | apply Within.ite

theorem State.holdEdge_within {P : Part → Bool} (s : State) (g : Nat) (k : Nat) (h_regs : P .regs = true) (h_pwm : P .pwm = true) :
    Within P s (State.holdEdge s g k) := by
  unfold State.holdEdge
  with_reducible repeat' first
    | assumption | exact Within.refl _ _ | apply Within.trans ?_ (State.guardEvt_within _ _ ?_)
    | apply Within.trans ?_ (State.inc_within _ _ ?_) | apply Within.trans ?_ (State.updGrp_within _ _ _ ?_) | apply Within.ite

theorem State.guardSlot_within {P : Part → Bool} (s : State) (g : Nat) (k : Nat) (h_regs : P .regs = true) (h_pwm : P .pwm = true) :
    Within P s (State.guardSlot s g k) := by
  unfold State.guardSlot
  with_reducible repeat' first
    | assumption | exact Within.refl _ _ | apply Within.trans ?_ (State.updGrp_within _ _ _ ?_)
    | apply Within.trans ?_ (State.setFld_within _ _ _ ?_) | apply Within.trans ?_ (State.placeEdge_within _ _ _ _ _ ?_ ?_)
    | apply Within.trans ?_ (State.holdEdge_within _ _ _ ?_ ?_) | apply Within.ite | split | (dsimp only; split)

theorem State.disarmed_within {P : Part → Bool} (s : State) (g : Nat) (deny : Nat) (h_j3 : P .j3 = true) (h_regs : P .regs = true)
    (h_cad : P .cad = true) (h_pwm : P .pwm = true) (h_safe : P .safe = true) :
    Within P s (State.disarmed s g deny) := by
  unfold State.disarmed
  with_reducible repeat' first
    | assumption | exact Within.refl _ _ | apply Within.trans ?_ (State.post_within _ _ _ _ ?_ ?_ ?_)
    | apply Within.trans ?_ (State.evt_within _ _ _ _ ?_) | apply Within.trans ?_ (State.groupOff_within _ _ ?_ ?_ ?_)

theorem State.armGroup_within {P : Part → Bool} (s : State) (m : Master) (g : Nat) (h_resp : P .resp = true) (h_j3 : P .j3 = true)
    (h_regs : P .regs = true) (h_cad : P .cad = true) (h_pwm : P .pwm = true) :
    Within P s (State.armGroup s m g) := by
  unfold State.armGroup
  with_reducible repeat' first
    | assumption | exact Within.refl _ _ | exact Within.id_ _ _ | apply Within.trans ?_ (State.post_within _ _ _ _ ?_ ?_ ?_)
    | apply Within.trans ?_ (State.evt_within _ _ _ _ ?_) | apply Within.trans ?_ (State.setFld_within _ _ _ ?_)
    | apply Within.trans ?_ (State.errResp_within _ _ _ _ _ ?_ ?_ ?_ ?_) | apply Within.trans ?_ (State.okResp_within _ _ ?_)
    | apply Within.each (fun _ _ => ?_) _ ?_ | apply Within.trans ?_ (State.send_within _ _ _ ?_)
    | apply Within.trans ?_ (State.updLeg_within _ _ _ ?_) | apply Within.trans ?_ (State.updGrp_within _ _ _ ?_) | apply Within.ite

theorem State.armComplete_within {P : Part → Bool} (s : State) (g : Nat) (h_j3 : P .j3 = true) (h_regs : P .regs = true)
    (h_cad : P .cad = true) (h_pwm : P .pwm = true) (h_trac : P .trac = true) :
    Within P s (State.armComplete s g) := by
  unfold State.armComplete
  with_reducible repeat' first
    | assumption | exact Within.refl _ _ | exact Within.id_ _ _ | apply Within.each (fun _ _ => ?_) _ ?_
    | apply Within.trans ?_ (State.updTrac_within _ _ _ ?_) | apply Within.trans ?_ (State.updGrp_within _ _ _ ?_)
    | apply Within.trans ?_ (State.setFld_within _ _ _ ?_) | apply Within.trans ?_ (State.applyLeg_within _ _ _ _ ?_ ?_)
    | apply Within.trans ?_ (State.updLeg_within _ _ _ ?_) | apply Within.trans ?_ (State.post_within _ _ _ _ ?_ ?_ ?_)
    | apply Within.trans ?_ (State.evt_within _ _ _ _ ?_)

theorem execHalfPeriodPoint_within {P : Part → Bool} (g : Fin 12) (s : State) (h_sens : P .sens = true) :
    WithinOut P s (execHalfPeriodPoint g s) := by
  unfold execHalfPeriodPoint
  with_reducible repeat' first
    | assumption | exact Within.refl _ _ | apply WithinOut.next | apply Within.trans ?_ (State.windowBoundary_within _ _ ?_)
    | apply Within.ite | apply WithinOut.ite

theorem execCntMismatch_within {P : Part → Bool} (g : Fin 12) (s : State) (h_j3 : P .j3 = true) (h_regs : P .regs = true)
    (h_cad : P .cad = true) (h_pwm : P .pwm = true) (h_safe : P .safe = true) :
    WithinOut P s (execCntMismatch g s) := by
  unfold execCntMismatch
  with_reducible repeat' first
    | assumption | exact Within.refl _ _ | apply WithinOut.next | apply Within.trans ?_ (State.raise_within _ _ _ ?_ ?_ ?_ ?_ ?_)
    | apply Within.trans ?_ (State.post_within _ _ _ _ ?_ ?_ ?_) | apply Within.trans ?_ (State.flt_within _ _ _ _ ?_)

theorem execEdgeDue_within {P : Part → Bool} (g : Fin 12) (slot : Fin 6) (s : State) (h_regs : P .regs = true) (h_pwm : P .pwm = true) :
    WithinOut P s (execEdgeDue g slot s) := by
  unfold execEdgeDue
  with_reducible repeat' first
    | assumption | exact Within.refl _ _ | apply WithinOut.next | apply Within.trans ?_ (State.guardSlot_within _ _ _ ?_ ?_)

theorem execArm_within {P : Part → Bool} (m : Master) (g : Fin 12) (s : State) (h_resp : P .resp = true) (h_j3 : P .j3 = true)
    (h_regs : P .regs = true) (h_cad : P .cad = true) (h_pwm : P .pwm = true) :
    WithinOut P s (execArm m g s) := by
  unfold execArm
  with_reducible repeat' first
    | assumption | exact Within.refl _ _ | apply WithinOut.next | apply Within.trans ?_ (State.armGroup_within _ _ _ ?_ ?_ ?_ ?_ ?_)
    | apply Within.trans ?_ (State.errResp_within _ _ _ _ _ ?_ ?_ ?_ ?_) | apply Within.ite | apply WithinOut.ite

theorem execArmingAbort_within {P : Part → Bool} (g : Fin 12) (s : State) (h_j3 : P .j3 = true) (h_regs : P .regs = true)
    (h_cad : P .cad = true) (h_pwm : P .pwm = true) (h_safe : P .safe = true) :
    WithinOut P s (execArmingAbort g s) := by
  unfold execArmingAbort
  with_reducible repeat' first
    | assumption | exact Within.refl _ _ | apply WithinOut.next | apply Within.trans ?_ (State.disarmed_within _ _ _ ?_ ?_ ?_ ?_ ?_)
    | apply Within.ite | apply WithinOut.ite | split | (dsimp only; split)

theorem execPrechargeEnd_within {P : Part → Bool} (g : Fin 12) (s : State) (h_regs : P .regs = true) (h_pwm : P .pwm = true) :
    WithinOut P s (execPrechargeEnd g s) := by
  unfold execPrechargeEnd
  with_reducible repeat' first
    | assumption | exact Within.refl _ _ | exact Within.id_ _ _ | apply WithinOut.next
    | apply Within.trans ?_ (State.updGrp_within _ _ _ ?_) | apply Within.each (fun _ _ => ?_) _ ?_
    | apply Within.trans ?_ (State.directOff_within _ _ ?_) | apply Within.trans ?_ (State.updLeg_within _ _ _ ?_)
    | apply Within.ite | apply WithinOut.ite

theorem execDisarm_within {P : Part → Bool} (m : Master) (g : Fin 12) (s : State) (h_free : P .free = true) (h_resp : P .resp = true)
    (h_j3 : P .j3 = true) (h_regs : P .regs = true) (h_cad : P .cad = true) (h_pwm : P .pwm = true) (h_safe : P .safe = true) :
    WithinOut P s (execDisarm m g s) := by
  unfold execDisarm
  with_reducible repeat' first
    | assumption | exact Within.refl _ _ | exact Within.id_ _ _ | apply WithinOut.next
    | apply Within.trans ?_ (State.write_within _ _ _ _ _ ?_ ?_ ?_ ?_ ?_ (fun _ => ?_))
    | apply Within.trans ?_ (State.updGrp_within _ _ _ ?_) | apply Within.trans ?_ (State.disarmed_within _ _ _ ?_ ?_ ?_ ?_ ?_)
    | apply Within.ite | apply WithinOut.ite

theorem State.crcError_within {P : Part → Bool} (s : State) (k : Nat) (h_regs : P .regs = true) :
    Within P s (State.crcError s k) := by
  unfold State.crcError
  with_reducible repeat' first
    | assumption | exact Within.refl _ _ | apply Within.trans ?_ (State.inc_within _ _ ?_)

theorem State.sent_within {P : Part → Bool} (s : State) (k : Nat) (h_pwm : P .pwm = true) :
    Within P s (State.sent s k) := by
  unfold State.sent
  with_reducible repeat' first
    | assumption | exact Within.refl _ _ | apply Within.trans ?_ (State.updLink_within _ _ _ ?_)

theorem State.endRefresh_within {P : Part → Bool} (s : State) (l : Nat) (h_regs : P .regs = true) :
    Within P s (State.endRefresh s l) := by
  unfold State.endRefresh
  with_reducible repeat' first
    | assumption | exact Within.refl _ _ | apply Within.trans ?_ (State.setFld_within _ _ _ ?_) | apply Within.ite

theorem State.applyEdge_within {P : Part → Bool} (s : State) (l : Nat) (lv : Bool) (hot : List Nat) (h_regs : P .regs = true)
    (h_pwm : P .pwm = true) :
    Within P s (State.applyEdge s l lv hot) := by
  unfold State.applyEdge
  with_reducible repeat' first
    | assumption | exact Within.refl _ _ | apply Within.trans ?_ (State.endRefresh_within _ _ ?_)
    | apply Within.trans ?_ (State.applyLeg_within _ _ _ _ ?_ ?_) | apply Within.trans ?_ (State.updLeg_within _ _ _ ?_)
    | apply Within.ite

theorem State.edgeField_within {P : Part → Bool} (s : State) (k : Nat) (i : Nat) (w : Nat) (hot : List Nat) (h_regs : P .regs = true)
    (h_pwm : P .pwm = true) :
    Within P s (State.edgeField s k i w hot) := by
  unfold State.edgeField
  with_reducible repeat' first
    | assumption | exact Within.refl _ _ | apply Within.trans ?_ (State.inc_within _ _ ?_)
    | apply Within.trans ?_ (State.applyEdge_within _ _ _ _ ?_ ?_) | apply Within.ite

theorem State.safeFrame_within {P : Part → Bool} (s : State) (k : Nat) (t : Nat) (codes : Nat) (hot : List Nat) (h_regs : P .regs = true)
    (h_pwm : P .pwm = true) :
    Within P s (State.safeFrame s k t codes hot) := by
  unfold State.safeFrame
  with_reducible repeat' first
    | assumption | exact Within.refl _ _ | exact Within.id_ _ _ | apply Within.trans ?_ (State.updLink_within _ _ _ ?_)
    | apply Within.each (fun _ _ => ?_) _ ?_ | apply Within.trans ?_ (State.applyLeg_within _ _ _ _ ?_ ?_)
    | apply Within.trans ?_ (State.updLeg_within _ _ _ ?_) | apply Within.trans ?_ (State.endRefresh_within _ _ ?_)
    | apply Within.ite | split | (dsimp only; split)

theorem State.idleLevels_within {P : Part → Bool} (s : State) (k : Nat) (levels : Nat) (hot : List Nat) (h_regs : P .regs = true)
    (h_pwm : P .pwm = true) :
    Within P s (State.idleLevels s k levels hot) := by
  unfold State.idleLevels
  with_reducible repeat' first
    | assumption | exact Within.refl _ _ | exact Within.id_ _ _ | apply Within.each (fun _ _ => ?_) _ ?_
    | apply Within.trans ?_ (State.applyEdge_within _ _ _ _ ?_ ?_) | apply Within.trans ?_ (State.updLink_within _ _ _ ?_)
    | apply Within.trans ?_ (State.inc_within _ _ ?_) | apply Within.ite | split | (dsimp only; split)

theorem State.dieReceive_within {P : Part → Bool} (s : State) (k : Nat) (t : Nat) (f : List Byte) (hot : List Nat)
    (h_regs : P .regs = true) (h_pwm : P .pwm = true) :
    Within P s (State.dieReceive s k t f hot) := by
  unfold State.dieReceive
  with_reducible repeat' first
    | assumption | exact Within.refl _ _ | apply Within.trans ?_ (State.idleLevels_within _ _ _ _ ?_ ?_)
    | apply Within.trans ?_ (State.edgeField_within _ _ _ _ _ ?_ ?_)
    | apply Within.trans ?_ (State.safeFrame_within _ _ _ _ _ ?_ ?_) | apply Within.trans ?_ (State.crcError_within _ _ ?_)
    | apply Within.ite | apply Within.foldl (fun _ _ => ?_) ?_ _ | split | (dsimp only; split)

theorem State.cfgFrame_within {P : Part → Bool} (s : State) (k : Nat) (h_regs : P .regs = true) (h_pwm : P .pwm = true) :
    Within P s (State.cfgFrame s k) := by
  unfold State.cfgFrame
  with_reducible repeat' first
    | assumption | exact Within.refl _ _ | exact Within.id_ _ _ | apply Within.each (fun _ _ => ?_) _ ?_
    | apply Within.trans ?_ (State.updLeg_within _ _ _ ?_) | apply Within.trans ?_ (State.updLink_within _ _ _ ?_)
    | apply Within.trans ?_ (State.applyLeg_within _ _ _ _ ?_ ?_) | apply Within.trans ?_ (State.updReady_within _ _ ?_ ?_)
    | apply Within.trans ?_ (State.turnOn_within _ _ ?_ ?_) | apply Within.ite | split | (dsimp only; split)

theorem State.linkFault_within {P : Part → Bool} (s : State) (k : Nat) (h_regs : P .regs = true) :
    Within P s (State.linkFault s k) := by
  unfold State.linkFault
  with_reducible repeat' first
    | assumption | exact Within.refl _ _ | apply Within.trans ?_ (State.flt_within _ _ _ _ ?_)

theorem execIdleFrame_within {P : Part → Bool} (k : Fin 15) (noise : List Byte) (hot : List Nat) (s : State) (h_regs : P .regs = true)
    (h_pwm : P .pwm = true) :
    WithinOut P s (execIdleFrame k noise hot s) := by
  unfold execIdleFrame
  with_reducible repeat' first
    | assumption | exact Within.refl _ _ | apply WithinOut.next | apply Within.trans ?_ (State.dieReceive_within _ _ _ _ _ ?_ ?_)
    | apply Within.trans ?_ (State.sent_within _ _ ?_) | apply Within.foldl (fun _ _ => ?_) ?_ _

theorem execEdgeFrame_within {P : Part → Bool} (k : Fin 15) (n : Fin 5) (lag : Fin 65536) (noise : List Byte) (hot : List Nat) (s : State)
    (h_regs : P .regs = true) (h_pwm : P .pwm = true) :
    WithinOut P s (execEdgeFrame k n lag noise hot s) := by
  unfold execEdgeFrame
  with_reducible repeat' first
    | assumption | exact Within.refl _ _ | apply WithinOut.next | apply Within.trans ?_ (State.updLink_within _ _ _ ?_)
    | apply Within.trans ?_ (State.sent_within _ _ ?_) | apply Within.trans ?_ (State.dieReceive_within _ _ _ _ _ ?_ ?_)
    | apply Within.foldl (fun _ _ => ?_) ?_ _ | split | (dsimp only; split)

theorem execSafeFrame_within {P : Part → Bool} (k : Fin 15) (noise : List Byte) (hot : List Nat) (s : State) (h_regs : P .regs = true)
    (h_pwm : P .pwm = true) :
    WithinOut P s (execSafeFrame k noise hot s) := by
  unfold execSafeFrame
  with_reducible repeat' first
    | assumption | exact Within.refl _ _ | apply WithinOut.next | apply Within.trans ?_ (State.dieReceive_within _ _ _ _ _ ?_ ?_)
    | apply Within.trans ?_ (State.updLink_within _ _ _ ?_) | apply Within.trans ?_ (State.sent_within _ _ ?_) | split
    | (dsimp only; split)

theorem execRegFrame_within {P : Part → Bool} (k : Fin 15) (crcOk : Bool) (s : State) (h_regs : P .regs = true) (h_pwm : P .pwm = true) :
    WithinOut P s (execRegFrame k crcOk s) := by
  unfold execRegFrame
  with_reducible repeat' first
    | assumption | exact Within.refl _ _ | apply WithinOut.next | apply Within.trans ?_ (State.sent_within _ _ ?_)
    | apply Within.trans ?_ (State.crcError_within _ _ ?_) | apply Within.ite | apply WithinOut.ite

theorem execCfgFrame_within {P : Part → Bool} (k : Fin 15) (crcOk : Bool) (s : State) (h_regs : P .regs = true) (h_pwm : P .pwm = true) :
    WithinOut P s (execCfgFrame k crcOk s) := by
  unfold execCfgFrame
  with_reducible repeat' first
    | assumption | exact Within.refl _ _ | apply WithinOut.next | apply Within.trans ?_ (State.updLink_within _ _ _ ?_)
    | apply Within.trans ?_ (State.sent_within _ _ ?_) | apply Within.trans ?_ (State.cfgFrame_within _ _ ?_ ?_)
    | apply Within.trans ?_ (State.crcError_within _ _ ?_) | apply Within.ite | apply WithinOut.ite

theorem execDieLinkLoss_within {P : Part → Bool} (k : Fin 15) (hot : List Nat) (s : State) (h_regs : P .regs = true)
    (h_pwm : P .pwm = true) :
    WithinOut P s (execDieLinkLoss k hot s) := by
  unfold execDieLinkLoss
  with_reducible repeat' first
    | assumption | exact Within.refl _ _ | exact Within.id_ _ _ | apply WithinOut.next
    | apply Within.trans ?_ (State.updLink_within _ _ _ ?_) | apply Within.each (fun _ _ => ?_) _ ?_
    | apply Within.trans ?_ (State.applyLeg_within _ _ _ _ ?_ ?_) | apply Within.trans ?_ (State.endRefresh_within _ _ ?_)
    | apply Within.trans ?_ (State.updReady_within _ _ ?_ ?_) | apply Within.ite | apply WithinOut.ite

theorem execControllerLinkLoss_within {P : Part → Bool} (k : Fin 15) (s : State) (h_j3 : P .j3 = true) (h_regs : P .regs = true)
    (h_cad : P .cad = true) (h_pwm : P .pwm = true) (h_safe : P .safe = true) :
    WithinOut P s (execControllerLinkLoss k s) := by
  unfold execControllerLinkLoss
  with_reducible repeat' first
    | assumption | exact Within.refl _ _ | exact Within.id_ _ _ | apply WithinOut.next
    | apply Within.trans ?_ (State.inc_within _ _ ?_) | apply Within.trans ?_ (State.setFld_within _ _ _ ?_)
    | apply Within.each (fun _ _ => ?_) _ ?_ | apply Within.trans ?_ (State.linkFault_within _ _ ?_)
    | apply Within.trans ?_ (State.flt_within _ _ _ _ ?_) | apply Within.trans ?_ (State.raise_within _ _ _ ?_ ?_ ?_ ?_ ?_)
    | apply Within.trans ?_ (State.post_within _ _ _ _ ?_ ?_ ?_) | apply Within.ite | apply WithinOut.ite

theorem execLinkTrained_within {P : Part → Bool} (k : Fin 15) (s : State) (h_regs : P .regs = true) :
    WithinOut P s (execLinkTrained k s) := by
  unfold execLinkTrained
  with_reducible repeat' first
    | assumption | exact Within.refl _ _ | apply WithinOut.next | apply Within.trans ?_ (State.setFld_within _ _ _ ?_)
    | apply Within.ite | apply WithinOut.ite

theorem execLinkCalDone_within {P : Part → Bool} (k : Fin 15) (trim : Fin 256) (s : State) (h_regs : P .regs = true) :
    WithinOut P s (execLinkCalDone k trim s) := by
  unfold execLinkCalDone
  with_reducible repeat' first
    | assumption | exact Within.refl _ _ | apply WithinOut.next | apply Within.trans ?_ (State.setFld_within _ _ _ ?_)
    | apply Within.ite | apply WithinOut.ite

theorem State.restartLink_within {P : Part → Bool} (s : State) (k : Nat) (h_regs : P .regs = true) (h_pwm : P .pwm = true) :
    Within P s (State.restartLink s k) := by
  unfold State.restartLink
  with_reducible repeat' first
    | assumption | exact Within.refl _ _ | apply Within.trans ?_ (State.setFld_within _ _ _ ?_)
    | apply Within.trans ?_ (State.updLink_within _ _ _ ?_)

theorem execLinkRestart_within {P : Part → Bool} (m : Master) (k : Fin 15) (s : State) (h_free : P .free = true) (h_resp : P .resp = true)
    (h_j3 : P .j3 = true) (h_regs : P .regs = true) (h_cad : P .cad = true) (h_pwm : P .pwm = true) :
    WithinOut P s (execLinkRestart m k s) := by
  unfold execLinkRestart
  with_reducible repeat' first
    | assumption | exact Within.refl _ _ | exact Within.id_ _ _ | apply WithinOut.next
    | apply Within.trans ?_ (State.write_within _ _ _ _ _ ?_ ?_ ?_ ?_ ?_ (fun _ => ?_))
    | apply Within.trans ?_ (State.restartLink_within _ _ ?_ ?_)

theorem execRegionMismatch_within {P : Part → Bool} (k : Fin 15) (q : Fin 3) (s : State) (h_j3 : P .j3 = true) (h_regs : P .regs = true)
    (h_cad : P .cad = true) (h_pwm : P .pwm = true) (h_safe : P .safe = true) :
    WithinOut P s (execRegionMismatch k q s) := by
  unfold execRegionMismatch
  with_reducible repeat' first
    | assumption | exact Within.refl _ _ | apply WithinOut.next | apply Within.trans ?_ (State.linkFault_within _ _ ?_)
    | apply Within.trans ?_ (State.setFld_within _ _ _ ?_) | apply Within.trans ?_ (State.raise_within _ _ _ ?_ ?_ ?_ ?_ ?_)
    | apply Within.trans ?_ (State.post_within _ _ _ _ ?_ ?_ ?_) | apply Within.ite | apply WithinOut.ite

theorem State.readDieSup_within {P : Part → Bool} (s : State) (d : Nat) (q : Nat) (now : Bool) (h_j3 : P .j3 = true)
    (h_regs : P .regs = true) (h_cad : P .cad = true) (h_pwm : P .pwm = true) :
    Within P s (State.readDieSup s d q now) := by
  unfold State.readDieSup
  with_reducible repeat' first
    | assumption | exact Within.refl _ _ | apply Within.trans ?_ (State.post_within _ _ _ _ ?_ ?_ ?_)
    | apply Within.trans ?_ (State.flt_within _ _ _ _ ?_) | apply Within.ite | apply Within.pwm ?_ ?_ _

theorem State.showMeas_within {P : Part → Bool} (s : State) (k : Nat) (h_regs : P .regs = true) :
    Within P s (State.showMeas s k) := by
  unfold State.showMeas
  with_reducible repeat' first
    | assumption | exact Within.refl _ _ | exact Within.id_ _ _ | apply Within.each (fun _ _ => ?_) _ ?_
    | apply Within.trans ?_ (State.setFld_within _ _ _ ?_) | apply Within.ite

theorem State.telemetry_within {P : Part → Bool} (s : State) (k : Nat) (sel : Nat) (v : Nat) (h_regs : P .regs = true) :
    Within P s (State.telemetry s k sel v) := by
  unfold State.telemetry
  with_reducible repeat' first
    | assumption | exact Within.refl _ _ | apply Within.trans ?_ (State.setFld_within _ _ _ ?_) | apply Within.ite

theorem State.readChan_within {P : Part → Bool} (s : State) (c : Nat) (h_j3 : P .j3 = true) (h_regs : P .regs = true)
    (h_cad : P .cad = true) (h_pwm : P .pwm = true) : Within P s (s.readChan c).1 := by
  unfold State.readChan
  dsimp only
  repeat' (first
    | with_reducible assumption
    | with_reducible exact Within.refl _ _
    | with_reducible apply Within.trans ?_ (State.updChan_within _ _ _ ?_)
    | with_reducible apply Within.trans ?_ (State.post_within _ _ _ _ ?_ ?_ ?_)
    | with_reducible apply Within.trans ?_ (State.flt_within _ _ _ _ ?_)
    | with_reducible apply Within.foldl (fun _ _ => ?_) ?_ _
    )

theorem Within.foldlPair {P : Part → Bool} {α β : Type} {f : State × β → α → State × β} (hf : ∀ p x, Within P p.1 (f p x).1) {s : State}
    {p : State × β} (hp : Within P s p.1) : ∀ l : List α, Within P s (l.foldl f p).1
  | [] => hp
  | x :: l => Within.foldlPair hf (hp.trans (hf p x)) l

theorem State.readDie_within {P : Part → Bool} (s : State) (d : Nat) (h_j3 : P .j3 = true) (h_regs : P .regs = true)
    (h_cad : P .cad = true) (h_pwm : P .pwm = true) : Within P s (s.readDie d).1 := by
  unfold State.readDie
  exact (State.readDieSup_within _ _ _ _ h_j3 h_regs h_cad h_pwm).trans (State.readDieSup_within _ _ _ _ h_j3 h_regs h_cad h_pwm)

theorem State.statusFrame_within {P : Part → Bool} (a0 : State) (a1 : Nat) (a2 : Nat) (a3 : Nat) (a4 : List Nat) (h_j3 : P .j3 = true)
    (h_regs : P .regs = true) (h_cad : P .cad = true) (h_pwm : P .pwm = true) (h_safe : P .safe = true) :
    Within P a0 (State.statusFrame a0 a1 a2 a3 a4) := by
  unfold State.statusFrame
  extract_lets s0 s1 s2 cor s3 s4 lines r0 r1
  have h0 : Within P a0 s0 := State.telemetry_within _ _ _ _ h_regs
  have h1 : Within P a0 s1 := (Within.foldl (fun _ _ => State.setFld_within _ _ _ h_regs) h0 _).trans (State.showMeas_within _ _ h_regs)
  have h2 : Within P a0 s2 := (h1.trans (State.setFld_within _ _ _ h_regs)).trans (State.setFld_within _ _ _ h_regs)
  have h3 : Within P a0 s3 := Within.each (fun _ _ => State.post_within _ _ _ _ h_j3 h_regs h_cad) _ h2
  have h4 : Within P a0 s4 := .ite h3 ((h3.trans (State.linkFault_within _ _ h_regs)).trans (State.updLink_within _ _ _ h_pwm))
  have hr0 : Within P a0 r0.1 := by
    unfold r0
    refine Within.foldlPair ?_ ?_ _
    · exact (fun p c => State.readChan_within p.1 c h_j3 h_regs h_cad h_pwm)
    · exact h4
  have hr1 : Within P a0 r1.1 := by
    unfold r1
    split
    · exact hr0
    · exact hr0.trans (State.readDie_within _ _ h_j3 h_regs h_cad h_pwm)
  exact hr1.trans (State.raiseAll_within _ _ h_j3 h_regs h_cad h_pwm h_safe)

theorem State.supplyChanged_within {P : Part → Bool} (s : State) (c : Nat) (h_regs : P .regs = true) (h_pwm : P .pwm = true) :
    Within P s (State.supplyChanged s c) := by
  unfold State.supplyChanged
  with_reducible repeat' first
    | assumption | exact Within.refl _ _ | apply Within.trans ?_ (State.updReady_within _ _ ?_ ?_)
    | apply Within.trans ?_ (State.updChan_within _ _ _ ?_)

theorem State.chopFault_within {P : Part → Bool} (s : State) (off : Bool) (h_j3 : P .j3 = true) (h_regs : P .regs = true)
    (h_cad : P .cad = true) (h_pwm : P .pwm = true) (h_safe : P .safe = true) :
    Within P s (State.chopFault s off) := by
  unfold State.chopFault
  with_reducible repeat' first
    | assumption | exact Within.refl _ _ | apply Within.trans ?_ (State.raise_within _ _ _ ?_ ?_ ?_ ?_ ?_)
    | apply Within.trans ?_ (State.post_within _ _ _ _ ?_ ?_ ?_) | apply Within.trans ?_ (State.flt_within _ _ _ _ ?_)

theorem execDsatTrip_within {P : Part → Bool} (c : Fin 48) (s : State) (h_regs : P .regs = true) (h_pwm : P .pwm = true) :
    WithinOut P s (execDsatTrip c s) := by
  unfold execDsatTrip
  with_reducible repeat' first
    | assumption | exact Within.refl _ _ | apply WithinOut.next | apply Within.trans ?_ (State.dsatTrip_within _ _ ?_ ?_)
    | apply Within.ite | apply WithinOut.ite

theorem execTwoStepHoldEnd_within {P : Part → Bool} (c : Fin 48) (s : State) (h_regs : P .regs = true) :
    WithinOut P s (execTwoStepHoldEnd c s) := by
  unfold execTwoStepHoldEnd
  with_reducible repeat' first
    | assumption | exact Within.refl _ _ | apply WithinOut.next | apply Within.trans ?_ (State.setFld_within _ _ _ ?_)
    | apply Within.ite | apply WithinOut.ite

theorem execSupplyUvlo_within {P : Part → Bool} (c : Fin 48) (pos : Bool) (low : Bool) (s : State) (h_regs : P .regs = true)
    (h_pwm : P .pwm = true) :
    WithinOut P s (execSupplyUvlo c pos low s) := by
  unfold execSupplyUvlo
  with_reducible repeat' first
    | assumption | exact Within.refl _ _ | apply WithinOut.next | apply Within.trans ?_ (State.setFld_within _ _ _ ?_)
    | apply Within.trans ?_ (State.directOff_within _ _ ?_) | apply Within.trans ?_ (State.inc_within _ _ ?_)
    | apply Within.trans ?_ (State.updReady_within _ _ ?_ ?_) | apply Within.trans ?_ (State.updChan_within _ _ _ ?_)
    | apply Within.ite | apply WithinOut.ite

theorem execReadySet_within {P : Part → Bool} (c : Chan) (s : State) (h_regs : P .regs = true) (h_pwm : P .pwm = true) :
    WithinOut P s (execReadySet c s) := by
  unfold execReadySet
  with_reducible repeat' first
    | assumption | exact Within.refl _ _ | apply WithinOut.next | apply Within.trans ?_ (State.updReady_within _ _ ?_ ?_)
    | apply Within.trans ?_ (State.updChan_within _ _ _ ?_) | apply Within.ite | apply WithinOut.ite

theorem execClampOn_within {P : Part → Bool} (c : Fin 48) (s : State) (h_regs : P .regs = true) :
    WithinOut P s (execClampOn c s) := by
  unfold execClampOn
  with_reducible repeat' first
    | assumption | exact Within.refl _ _ | apply WithinOut.next | apply Within.trans ?_ (State.setFld_within _ _ _ ?_)
    | apply Within.ite | apply WithinOut.ite

theorem execChannelPwrHigh_within {P : Part → Bool} (c : Fin 48) (avg : Fin 256) (s : State) (h_j3 : P .j3 = true)
    (h_regs : P .regs = true) (h_cad : P .cad = true) :
    WithinOut P s (execChannelPwrHigh c avg s) := by
  unfold execChannelPwrHigh
  with_reducible repeat' first
    | assumption | exact Within.refl _ _ | apply WithinOut.next | apply Within.trans ?_ (State.setFld_within _ _ _ ?_)
    | apply Within.trans ?_ (State.post_within _ _ _ _ ?_ ?_ ?_) | apply Within.trans ?_ (State.evt_within _ _ _ _ ?_)
    | apply Within.ite | apply WithinOut.ite

theorem execChannelPwrTrip_within {P : Part → Bool} (c : Fin 48) (s : State) (h_regs : P .regs = true) (h_pwm : P .pwm = true) :
    WithinOut P s (execChannelPwrTrip c s) := by
  unfold execChannelPwrTrip
  with_reducible repeat' first
    | assumption | exact Within.refl _ _ | apply WithinOut.next | apply Within.trans ?_ (State.updReady_within _ _ ?_ ?_)
    | apply Within.trans ?_ (State.directOff_within _ _ ?_) | apply Within.trans ?_ (State.setFld_within _ _ _ ?_)
    | apply Within.ite | apply WithinOut.ite

theorem execTripLatchClear_within {P : Part → Bool} (m : Master) (c : Chan) (dsat : Bool) (pwr : Bool) (s : State)
    (h_free : P .free = true) (h_resp : P .resp = true) (h_j3 : P .j3 = true) (h_regs : P .regs = true) (h_cad : P .cad = true)
    (h_pwm : P .pwm = true) :
    WithinOut P s (execTripLatchClear m c dsat pwr s) := by
  unfold execTripLatchClear
  with_reducible repeat' first
    | assumption | exact Within.refl _ _ | exact Within.id_ _ _ | apply WithinOut.next
    | apply Within.trans ?_ (State.ackPage_within _ _ _ _ _ _ _ ?_ ?_ ?_ ?_ ?_ (fun _ => ?_))
    | apply Within.trans ?_ (State.setFld_within _ _ _ ?_) | apply Within.trans ?_ (State.updReady_within _ _ ?_ ?_)
    | apply Within.ite | apply WithinOut.ite

theorem execBootstrapUvlo_within {P : Part → Bool} (l : Fin 12) (vbst : Fin 256) (s : State) (h_regs : P .regs = true)
    (h_pwm : P .pwm = true) :
    WithinOut P s (execBootstrapUvlo l vbst s) := by
  unfold execBootstrapUvlo
  with_reducible repeat' first
    | assumption | exact Within.refl _ _ | apply WithinOut.next | apply Within.trans ?_ (State.setFld_within _ _ _ ?_)
    | apply Within.trans ?_ (State.updReady_within _ _ ?_ ?_) | apply Within.trans ?_ (State.bstFault_within _ _ ?_)
    | apply Within.trans ?_ (State.updLeg_within _ _ _ ?_) | apply Within.trans ?_ (State.directOff_within _ _ ?_)
    | apply Within.ite | apply WithinOut.ite

theorem execLvSoftTurnOffEnd_within {P : Part → Bool} (l : Fin 12) (s : State) (h_pwm : P .pwm = true) :
    WithinOut P s (execLvSoftTurnOffEnd l s) := by
  unfold execLvSoftTurnOffEnd
  with_reducible repeat' first
    | assumption | exact Within.refl _ _ | apply WithinOut.next | apply Within.trans ?_ (State.updLeg_within _ _ _ ?_)

theorem execLvDieSupplyFault_within {P : Part → Bool} (k : Fin 3) (vbr : Bool) (bad : Bool) (s : State) (h_regs : P .regs = true)
    (h_pwm : P .pwm = true) :
    WithinOut P s (execLvDieSupplyFault k vbr bad s) := by
  unfold execLvDieSupplyFault
  with_reducible repeat' first
    | assumption | exact Within.refl _ _ | exact Within.id_ _ _ | apply WithinOut.next
    | apply Within.trans ?_ (State.setFld_within _ _ _ ?_) | apply Within.each (fun _ _ => ?_) _ ?_
    | apply Within.trans ?_ (State.directOff_within _ _ ?_) | apply Within.trans ?_ (State.updChan_within _ _ _ ?_)
    | apply Within.trans ?_ (State.updReady_within _ _ ?_ ?_) | apply Within.ite | apply WithinOut.ite

theorem execRefreshPulse_within {P : Part → Bool} (l : Fin 12) (s : State) (h_regs : P .regs = true) (h_pwm : P .pwm = true) :
    WithinOut P s (execRefreshPulse l s) := by
  unfold execRefreshPulse
  with_reducible repeat' first
    | assumption | exact Within.refl _ _ | apply WithinOut.next | apply Within.trans ?_ (State.evt_within _ _ _ _ ?_)
    | apply Within.trans ?_ (State.inc_within _ _ ?_) | apply Within.trans ?_ (State.setFld_within _ _ _ ?_)
    | apply Within.trans ?_ (State.applyLeg_within _ _ _ _ ?_ ?_) | apply Within.ite | apply WithinOut.ite

theorem execRefreshPulseEnd_within {P : Part → Bool} (l : Fin 12) (s : State) (h_regs : P .regs = true) (h_pwm : P .pwm = true) :
    WithinOut P s (execRefreshPulseEnd l s) := by
  unfold execRefreshPulseEnd
  with_reducible repeat' first
    | assumption | exact Within.refl _ _ | apply WithinOut.next | apply Within.trans ?_ (State.applyLeg_within _ _ _ _ ?_ ?_)
    | apply Within.trans ?_ (State.endRefresh_within _ _ ?_) | apply Within.ite | apply WithinOut.ite

theorem execDeadTimeEnd_within {P : Part → Bool} (l : PowerLeg) (s : State) (h_regs : P .regs = true) (h_pwm : P .pwm = true) :
    WithinOut P s (execDeadTimeEnd l s) := by
  unfold execDeadTimeEnd
  with_reducible repeat' first
    | assumption | exact Within.refl _ _ | apply WithinOut.next | apply Within.trans ?_ (State.turnOn_within _ _ ?_ ?_)
    | apply Within.trans ?_ (State.updLeg_within _ _ _ ?_) | apply Within.ite | apply WithinOut.ite | split | (dsimp only; split)

theorem execChopperSample_within {P : Part → Bool} (s : State) (h_regs : P .regs = true) :
    WithinOut P s (execChopperSample s) := by
  unfold execChopperSample
  with_reducible repeat' first
    | assumption | exact Within.refl _ _ | apply WithinOut.next | apply Within.trans ?_ (State.setFld_within _ _ _ ?_)
    | apply Within.trans ?_ (State.inc_within _ _ ?_) | apply Within.ite | apply WithinOut.ite

theorem execChopperFault_within {P : Part → Bool} (whileOff : Bool) (s : State) (h_j3 : P .j3 = true) (h_regs : P .regs = true)
    (h_cad : P .cad = true) (h_pwm : P .pwm = true) (h_safe : P .safe = true) :
    WithinOut P s (execChopperFault whileOff s) := by
  unfold execChopperFault
  with_reducible repeat' first
    | assumption | exact Within.refl _ _ | apply WithinOut.next | apply Within.trans ?_ (State.chopFault_within _ _ ?_ ?_ ?_ ?_ ?_)
    | apply Within.ite | apply WithinOut.ite

theorem execSpeedFreewheelChange_within {P : Part → Bool} (g : Fin 12) (s : State) (h_j3 : P .j3 = true) (h_regs : P .regs = true)
    (h_cad : P .cad = true) (h_pwm : P .pwm = true) :
    WithinOut P s (execSpeedFreewheelChange g s) := by
  unfold execSpeedFreewheelChange
  with_reducible repeat' first
    | assumption | exact Within.refl _ _ | apply WithinOut.next | apply Within.trans ?_ (State.updSafeReg_within _ ?_)
    | apply Within.trans ?_ (State.commandGroup_within _ _ _ ?_ ?_ ?_ ?_) | apply Within.ite | apply WithinOut.ite

theorem State.clearPending_within {P : Part → Bool} (s : State) (i : Nat) (v : Word) (h_j3 : P .j3 = true) (h_regs : P .regs = true)
    (h_cad : P .cad = true) (h_pwm : P .pwm = true) (h_safe : P .safe = true) :
    Within P s (State.clearPending s i v) := by
  unfold State.clearPending
  with_reducible repeat' first
    | assumption | exact Within.refl _ _ | apply Within.trans ?_ (State.evalJ2_within _ _ ?_ ?_ ?_ ?_ ?_)
    | apply Within.trans ?_ (State.unpend_within _ _ ?_ ?_) | apply Within.foldl (fun _ _ => ?_) ?_ _

theorem State.releaseGroup_within {P : Part → Bool} (s : State) (g : Nat) (h_j3 : P .j3 = true) (h_regs : P .regs = true)
    (h_cad : P .cad = true) (h_pwm : P .pwm = true) (h_safe : P .safe = true) :
    Within P s (State.releaseGroup s g) := by
  unfold State.releaseGroup
  with_reducible repeat' first
    | assumption | exact Within.refl _ _ | apply Within.trans ?_ (State.post_within _ _ _ _ ?_ ?_ ?_)
    | apply Within.trans ?_ (State.evt_within _ _ _ _ ?_) | apply Within.trans ?_ (State.setFld_within _ _ _ ?_)
    | apply Within.trans ?_ (State.groupOff_within _ _ ?_ ?_ ?_) | apply Within.trans ?_ (State.updSafeReg_within _ ?_)
    | apply Within.trans ?_ (State.inc_within _ _ ?_) | apply Within.ite

theorem State.siSet_within {P : Part → Bool} (s : State) (n : Nat) (run : Bool) (h_j3 : P .j3 = true) (h_regs : P .regs = true)
    (h_cad : P .cad = true) :
    Within P s (State.siSet s n run) := by
  unfold State.siSet
  with_reducible repeat' first
    | assumption | exact Within.refl _ _ | apply Within.trans ?_ (State.evt_within _ _ _ _ ?_)
    | apply Within.trans ?_ (State.setFld_within _ _ _ ?_) | apply Within.trans ?_ (State.post_within _ _ _ _ ?_ ?_ ?_)
    | apply Within.trans ?_ (State.inc_within _ _ ?_) | apply Within.ite

theorem State.siUpdate_within {P : Part → Bool} (s : State) (n : Nat) (h_j3 : P .j3 = true) (h_regs : P .regs = true)
    (h_cad : P .cad = true) (h_pwm : P .pwm = true) (h_safe : P .safe = true) :
    Within P s (State.siUpdate s n) := by
  unfold State.siUpdate
  with_reducible repeat' first
    | assumption | exact Within.refl _ _ | apply Within.trans ?_ (State.setFld_within _ _ _ ?_)
    | apply Within.trans ?_ (State.syncLines_within _ ?_ ?_ ?_ ?_ ?_) | apply Within.trans ?_ (State.siSet_within _ _ _ ?_ ?_ ?_)
    | apply Within.ite

theorem State.siFault_within {P : Part → Bool} (s : State) (n : Nat) (cause : Nat) (h_j3 : P .j3 = true) (h_regs : P .regs = true)
    (h_cad : P .cad = true) (h_pwm : P .pwm = true) (h_safe : P .safe = true) :
    Within P s (State.siFault s n cause) := by
  unfold State.siFault
  with_reducible repeat' first
    | assumption | exact Within.refl _ _ | apply Within.trans ?_ (State.inc_within _ _ ?_)
    | apply Within.trans ?_ (State.setFld_within _ _ _ ?_) | apply Within.trans ?_ (State.post_within _ _ _ _ ?_ ?_ ?_)
    | apply Within.trans ?_ (State.flt_within _ _ _ _ ?_) | apply Within.trans ?_ (State.siUpdate_within _ _ ?_ ?_ ?_ ?_ ?_)
    | apply Within.ite

theorem State.soReq_within {P : Part → Bool} (s : State) (h_regs : P .regs = true) (h_safe : P .safe = true) :
    Within P s (State.soReq s) := by
  unfold State.soReq
  with_reducible repeat' first
    | assumption | exact Within.refl _ _ | exact Within.id_ _ _ | apply Within.each (fun _ _ => ?_) _ ?_
    | apply Within.trans ?_ (State.soUpdate_within _ _ ?_ ?_) | apply Within.trans ?_ (State.setFld_within _ _ _ ?_)

theorem State.soShow_within {P : Part → Bool} (s : State) (m : Nat) (h_regs : P .regs = true) :
    Within P s (State.soShow s m) := by
  unfold State.soShow
  with_reducible repeat' first
    | assumption | exact Within.refl _ _ | apply Within.trans ?_ (State.setFld_within _ _ _ ?_)

theorem State.soFault_within {P : Part → Bool} (s : State) (m : Nat) (cause : Nat) (h_j3 : P .j3 = true) (h_regs : P .regs = true)
    (h_cad : P .cad = true) (h_pwm : P .pwm = true) (h_safe : P .safe = true) :
    Within P s (State.soFault s m cause) := by
  unfold State.soFault
  with_reducible repeat' first
    | assumption | exact Within.refl _ _ | apply Within.trans ?_ (State.setFld_within _ _ _ ?_)
    | apply Within.trans ?_ (State.post_within _ _ _ _ ?_ ?_ ?_) | apply Within.trans ?_ (State.flt_within _ _ _ _ ?_)
    | apply Within.trans ?_ (State.syncLines_within _ ?_ ?_ ?_ ?_ ?_) | apply Within.trans ?_ (State.soUpdate_within _ _ ?_ ?_)
    | apply Within.ite

theorem State.soJudge_within {P : Part → Bool} (s : State) (m : Nat) (h_j3 : P .j3 = true) (h_regs : P .regs = true)
    (h_cad : P .cad = true) (h_pwm : P .pwm = true) (h_safe : P .safe = true) :
    Within P s (State.soJudge s m) := by
  unfold State.soJudge
  with_reducible repeat' first
    | assumption | exact Within.refl _ _ | apply Within.trans ?_ (State.soFault_within _ _ _ ?_ ?_ ?_ ?_ ?_)
    | apply Within.trans ?_ (State.setFld_within _ _ _ ?_) | apply Within.trans ?_ (State.evt_within _ _ _ _ ?_)
    | apply Within.trans ?_ (State.updSo_within _ _ _ ?_) | apply Within.trans ?_ (State.post_within _ _ _ _ ?_ ?_ ?_)
    | apply Within.ite

theorem State.soFound_within {P : Part → Bool} (s : State) (m : Nat) (sw : Nat) (stuck : Bool) (a4 : Bool) (h_j3 : P .j3 = true)
    (h_regs : P .regs = true) (h_cad : P .cad = true) (h_pwm : P .pwm = true) (h_safe : P .safe = true) :
    Within P s (State.soFound s m sw stuck a4) := by
  unfold State.soFound
  with_reducible repeat' first
    | assumption | exact Within.refl _ _ | apply Within.trans ?_ (State.inc_within _ _ ?_)
    | apply Within.trans ?_ (State.soJudge_within _ _ ?_ ?_ ?_ ?_ ?_) | apply Within.trans ?_ (State.updSo_within _ _ _ ?_)
    | apply Within.ite

theorem State.soSecond_within {P : Part → Bool} (s : State) (m : Nat) (h_regs : P .regs = true) (h_safe : P .safe = true) :
    Within P s (State.soSecond s m) := by
  unfold State.soSecond
  with_reducible repeat' first
    | assumption | exact Within.refl _ _ | apply Within.trans ?_ (State.setFld_within _ _ _ ?_)
    | apply Within.trans ?_ (State.updSo_within _ _ _ ?_) | apply Within.ite

theorem execFaultLineRaise_within {P : Part → Bool} (lines : List (Fin 128 × Fin 4096)) (s : State) (h_j3 : P .j3 = true)
    (h_regs : P .regs = true) (h_cad : P .cad = true) (h_pwm : P .pwm = true) (h_safe : P .safe = true) :
    WithinOut P s (execFaultLineRaise lines s) := by
  unfold execFaultLineRaise
  with_reducible repeat' first
    | assumption | exact Within.refl _ _ | apply WithinOut.next | apply Within.trans ?_ (State.raiseAll_within _ _ ?_ ?_ ?_ ?_ ?_)

theorem execPendingClear_within {P : Part → Bool} (m : Master) (k : Fin 4) (v : Word) (s : State) (h_free : P .free = true)
    (h_resp : P .resp = true) (h_j3 : P .j3 = true) (h_regs : P .regs = true) (h_cad : P .cad = true) (h_pwm : P .pwm = true)
    (h_safe : P .safe = true) :
    WithinOut P s (execPendingClear m k v s) := by
  unfold execPendingClear
  with_reducible repeat' first
    | assumption | exact Within.refl _ _ | exact Within.id_ _ _ | apply WithinOut.next
    | apply Within.trans ?_ (State.ackPage_within _ _ _ _ _ _ _ ?_ ?_ ?_ ?_ ?_ (fun _ => ?_))
    | apply Within.trans ?_ (State.clearPending_within _ _ _ ?_ ?_ ?_ ?_ ?_)

theorem execHoldMaxExpiry_within {P : Part → Bool} (g : Fin 12) (s : State) (h_j3 : P .j3 = true) (h_regs : P .regs = true)
    (h_cad : P .cad = true) (h_pwm : P .pwm = true) (h_safe : P .safe = true) :
    WithinOut P s (execHoldMaxExpiry g s) := by
  unfold execHoldMaxExpiry
  with_reducible repeat' first
    | assumption | exact Within.refl _ _ | apply WithinOut.next | apply Within.trans ?_ (State.evalJ2_within _ _ ?_ ?_ ?_ ?_ ?_)
    | apply Within.trans ?_ (State.updSafe_within _ _ ?_) | apply Within.ite | apply WithinOut.ite

theorem execRelease_within {P : Part → Bool} (m : Master) (groups : Fin 4096) (s : State) (h_free : P .free = true)
    (h_resp : P .resp = true) (h_j3 : P .j3 = true) (h_regs : P .regs = true) (h_cad : P .cad = true) (h_pwm : P .pwm = true)
    (h_safe : P .safe = true) :
    WithinOut P s (execRelease m groups s) := by
  unfold execRelease
  with_reducible repeat' first
    | assumption | exact Within.refl _ _ | exact Within.id_ _ _ | apply WithinOut.next
    | apply Within.trans ?_ (State.ackPage_within _ _ _ _ _ _ _ ?_ ?_ ?_ ?_ ?_ (fun _ => ?_))
    | apply Within.each (fun _ _ => ?_) _ ?_ | apply Within.trans ?_ (State.releaseGroup_within _ _ ?_ ?_ ?_ ?_ ?_)

theorem execFaultInject_within {P : Part → Bool} (m : Master) (line : Fin 128) (key : Fin 256) (s : State) (h_free : P .free = true)
    (h_resp : P .resp = true) (h_j3 : P .j3 = true) (h_regs : P .regs = true) (h_cad : P .cad = true) (h_pwm : P .pwm = true)
    (h_safe : P .safe = true) :
    WithinOut P s (execFaultInject m line key s) := by
  unfold execFaultInject
  with_reducible repeat' first
    | assumption | exact Within.refl _ _ | exact Within.id_ _ _ | apply WithinOut.next
    | apply Within.trans ?_ (State.pend_within _ _ _ ?_ ?_)
    | apply Within.trans ?_ (State.write_within _ _ _ _ _ ?_ ?_ ?_ ?_ ?_ (fun _ => ?_))
    | apply Within.trans ?_ (State.tookFree_within _ ?_) | apply Within.trans ?_ (State.evt_within _ _ _ _ ?_)
    | apply Within.trans ?_ (State.setFld_within _ _ _ ?_) | apply Within.trans ?_ (State.raise_within _ _ _ ?_ ?_ ?_ ?_ ?_)
    | apply Within.trans ?_ (State.post_within _ _ _ _ ?_ ?_ ?_)

theorem execSafetyInputChange_within {P : Part → Bool} (n : Fin 8) (a : Fin 3) (b : Fin 3) (together : Bool) (s : State)
    (h_j3 : P .j3 = true) (h_regs : P .regs = true) (h_cad : P .cad = true) (h_pwm : P .pwm = true) (h_safe : P .safe = true) :
    WithinOut P s (execSafetyInputChange n a b together s) := by
  unfold execSafetyInputChange
  with_reducible repeat' first
    | assumption | exact Within.refl _ _ | apply WithinOut.next | apply Within.trans ?_ (State.updSafe_within _ _ ?_)
    | apply Within.trans ?_ (State.siUpdate_within _ _ ?_ ?_ ?_ ?_ ?_) | apply Within.trans ?_ (State.setFld_within _ _ _ ?_)
    | apply Within.ite | apply WithinOut.ite

theorem execSiDiscrepancy_within {P : Part → Bool} (n : Fin 8) (s : State) (h_j3 : P .j3 = true) (h_regs : P .regs = true)
    (h_cad : P .cad = true) (h_pwm : P .pwm = true) (h_safe : P .safe = true) :
    WithinOut P s (execSiDiscrepancy n s) := by
  unfold execSiDiscrepancy
  with_reducible repeat' first
    | assumption | exact Within.refl _ _ | apply WithinOut.next | apply Within.trans ?_ (State.siFault_within _ _ _ ?_ ?_ ?_ ?_ ?_)
    | apply Within.trans ?_ (State.opTo_within _ _ _ ?_) | apply Within.ite | apply WithinOut.ite

theorem execSiTestPulse_within {P : Part → Bool} (n : Fin 8) (srcB : Bool) (aLow : Bool) (bLow : Bool) (s : State) (h_j3 : P .j3 = true)
    (h_regs : P .regs = true) (h_cad : P .cad = true) (h_pwm : P .pwm = true) (h_safe : P .safe = true) :
    WithinOut P s (execSiTestPulse n srcB aLow bLow s) := by
  unfold execSiTestPulse
  with_reducible repeat' first
    | assumption | exact Within.refl _ _ | apply WithinOut.next | apply Within.trans ?_ (State.siFault_within _ _ _ ?_ ?_ ?_ ?_ ?_)
    | apply Within.ite | apply WithinOut.ite

theorem execSiReset_within {P : Part → Bool} (m : Master) (n : Fin 8) (s : State) (h_free : P .free = true) (h_resp : P .resp = true)
    (h_j3 : P .j3 = true) (h_regs : P .regs = true) (h_cad : P .cad = true) (h_pwm : P .pwm = true) (h_safe : P .safe = true) :
    WithinOut P s (execSiReset m n s) := by
  unfold execSiReset
  with_reducible repeat' first
    | assumption | exact Within.refl _ _ | exact Within.id_ _ _ | apply WithinOut.next
    | apply Within.trans ?_ (State.write_within _ _ _ _ _ ?_ ?_ ?_ ?_ ?_ (fun _ => ?_))
    | apply Within.trans ?_ (State.setFld_within _ _ _ ?_) | apply Within.trans ?_ (State.siUpdate_within _ _ ?_ ?_ ?_ ?_ ?_)
    | apply Within.trans ?_ (State.updSafe_within _ _ ?_)

theorem execSoHighSideClose_within {P : Part → Bool} (m : Fin 4) (s : State) (h_regs : P .regs = true) (h_safe : P .safe = true) :
    WithinOut P s (execSoHighSideClose m s) := by
  unfold execSoHighSideClose
  with_reducible repeat' first
    | assumption | exact Within.refl _ _ | apply WithinOut.next | apply Within.trans ?_ (State.soShow_within _ _ ?_)
    | apply Within.trans ?_ (State.updSo_within _ _ _ ?_) | apply Within.ite | apply WithinOut.ite

theorem execSoSwitchTest_within {P : Part → Bool} (m : Fin 4) (low : Bool) (hsNode : Fin 3) (lsNode : Fin 3) (s : State)
    (h_j3 : P .j3 = true) (h_regs : P .regs = true) (h_cad : P .cad = true) (h_pwm : P .pwm = true) (h_safe : P .safe = true) :
    WithinOut P s (execSoSwitchTest m low hsNode lsNode s) := by
  unfold execSoSwitchTest
  with_reducible repeat' first
    | assumption | exact Within.refl _ _ | apply WithinOut.next | apply Within.trans ?_ (State.soShow_within _ _ ?_)
    | apply Within.trans ?_ (State.updSo_within _ _ _ ?_) | apply Within.trans ?_ (State.soFound_within _ _ _ _ _ ?_ ?_ ?_ ?_ ?_)
    | apply Within.ite | apply WithinOut.ite

theorem execSoTestEnd_within {P : Part → Bool} (m : Fin 4) (hsNode : Fin 3) (lsNode : Fin 3) (s : State) (h_j3 : P .j3 = true)
    (h_regs : P .regs = true) (h_cad : P .cad = true) (h_pwm : P .pwm = true) (h_safe : P .safe = true) :
    WithinOut P s (execSoTestEnd m hsNode lsNode s) := by
  unfold execSoTestEnd
  with_reducible repeat' first
    | assumption | exact Within.refl _ _ | apply WithinOut.next | apply Within.trans ?_ (State.updSo_within _ _ _ ?_)
    | apply Within.trans ?_ (State.soUpdate_within _ _ ?_ ?_)
    | apply Within.trans ?_ (State.soFound_within _ _ _ _ _ ?_ ?_ ?_ ?_ ?_) | apply Within.trans ?_ (State.soShow_within _ _ ?_)
    | apply Within.ite | apply WithinOut.ite

theorem execSoOvercurrent_within {P : Part → Bool} (m : Fin 4) (s : State) (h_j3 : P .j3 = true) (h_regs : P .regs = true)
    (h_cad : P .cad = true) (h_pwm : P .pwm = true) (h_safe : P .safe = true) :
    WithinOut P s (execSoOvercurrent m s) := by
  unfold execSoOvercurrent
  with_reducible repeat' first
    | assumption | exact Within.refl _ _ | apply WithinOut.next | apply Within.trans ?_ (State.soFault_within _ _ _ ?_ ?_ ?_ ?_ ?_)
    | apply Within.ite | apply WithinOut.ite

theorem execSoDegradeExpiry_within {P : Part → Bool} (m : Fin 4) (s : State) (h_j3 : P .j3 = true) (h_regs : P .regs = true)
    (h_cad : P .cad = true) (h_pwm : P .pwm = true) (h_safe : P .safe = true) :
    WithinOut P s (execSoDegradeExpiry m s) := by
  unfold execSoDegradeExpiry
  with_reducible repeat' first
    | assumption | exact Within.refl _ _ | apply WithinOut.next | apply Within.trans ?_ (State.soFault_within _ _ _ ?_ ?_ ?_ ?_ ?_)
    | apply Within.ite | apply WithinOut.ite

theorem execSoReset_within {P : Part → Bool} (m : Master) (k : Fin 4) (s : State) (h_free : P .free = true) (h_resp : P .resp = true)
    (h_j3 : P .j3 = true) (h_regs : P .regs = true) (h_cad : P .cad = true) (h_pwm : P .pwm = true) (h_safe : P .safe = true) :
    WithinOut P s (execSoReset m k s) := by
  unfold execSoReset
  with_reducible repeat' first
    | assumption | exact Within.refl _ _ | exact Within.id_ _ _ | apply WithinOut.next
    | apply Within.trans ?_ (State.write_within _ _ _ _ _ ?_ ?_ ?_ ?_ ?_ (fun _ => ?_))
    | apply Within.trans ?_ (State.setFld_within _ _ _ ?_) | apply Within.trans ?_ (State.soUpdate_within _ _ ?_ ?_)
    | apply Within.trans ?_ (State.soJudge_within _ _ ?_ ?_ ?_ ?_ ?_) | apply Within.ite | apply WithinOut.ite

theorem State.updPos_within {P : Part → Bool} (s : State) (p : Nat) (f : PosRec → PosRec) (h_pos : P .pos = true) :
    Within P s (State.updPos s p f) := by
  unfold State.updPos
  with_reducible repeat' first
    | assumption | exact Within.refl _ _ | apply Within.pos ?_ ?_ _

theorem State.showPos_within {P : Part → Bool} (s : State) (p : Nat) (h_regs : P .regs = true) :
    Within P s (State.showPos s p) := by
  unfold State.showPos
  with_reducible repeat' first
    | assumption | exact Within.refl _ _ | apply Within.trans ?_ (State.wr_within _ _ _ ?_) | apply Within.ite

theorem State.setMeas_within {P : Part → Bool} (s : State) (p : Nat) (f : Meas → Meas) (h_regs : P .regs = true) (h_pos : P .pos = true) :
    Within P s (State.setMeas s p f) := by
  unfold State.setMeas
  with_reducible repeat' first
    | assumption | exact Within.refl _ _ | apply Within.trans ?_ (State.showPos_within _ _ ?_)
    | apply Within.trans ?_ (State.updPos_within _ _ _ ?_)

theorem State.posTick_within {P : Part → Bool} (s : State) (p : Nat) (h_regs : P .regs = true) (h_pos : P .pos = true) :
    Within P s (State.posTick s p) := by
  unfold State.posTick
  with_reducible repeat' first
    | assumption | exact Within.refl _ _ | apply Within.trans ?_ (State.setMeas_within _ _ _ ?_ ?_) | apply Within.ite

theorem State.updEmu_within {P : Part → Bool} (s : State) (e : Nat) (f : EmuRec → EmuRec) (h_pos : P .pos = true) :
    Within P s (State.updEmu s e f) := by
  unfold State.updEmu
  with_reducible repeat' first
    | assumption | exact Within.refl _ _ | apply Within.pos ?_ ?_ _

theorem State.showEmu_within {P : Part → Bool} (s : State) (e : Nat) (h_j3 : P .j3 = true) (h_regs : P .regs = true)
    (h_cad : P .cad = true) (h_pos : P .pos = true) :
    Within P s (State.showEmu s e) := by
  unfold State.showEmu
  with_reducible repeat' first
    | assumption | exact Within.refl _ _ | apply Within.trans ?_ (State.setFld_within _ _ _ ?_)
    | apply Within.trans ?_ (State.updEmu_within _ _ _ ?_) | apply Within.trans ?_ (State.post_within _ _ _ _ ?_ ?_ ?_)
    | apply Within.trans ?_ (State.evt_within _ _ _ _ ?_) | apply Within.ite

theorem State.showEmus_within {P : Part → Bool} (s : State) (h_j3 : P .j3 = true) (h_regs : P .regs = true) (h_cad : P .cad = true)
    (h_pos : P .pos = true) :
    Within P s (State.showEmus s) := by
  unfold State.showEmus
  with_reducible repeat' first
    | assumption | exact Within.refl _ _ | apply Within.trans ?_ (State.showEmu_within _ _ ?_ ?_ ?_ ?_)

theorem State.posFault_within {P : Part → Bool} (s : State) (p : Nat) (cause : Nat) (h_j3 : P .j3 = true) (h_regs : P .regs = true)
    (h_cad : P .cad = true) (h_pwm : P .pwm = true) (h_safe : P .safe = true) (h_pos : P .pos = true) :
    Within P s (State.posFault s p cause) := by
  unfold State.posFault
  with_reducible repeat' first
    | assumption | exact Within.refl _ _ | apply Within.trans ?_ (State.setFld_within _ _ _ ?_)
    | apply Within.trans ?_ (State.updPos_within _ _ _ ?_) | apply Within.trans ?_ (State.showEmus_within _ ?_ ?_ ?_ ?_)
    | apply Within.trans ?_ (State.raise_within _ _ _ ?_ ?_ ?_ ?_ ?_) | apply Within.trans ?_ (State.post_within _ _ _ _ ?_ ?_ ?_)
    | apply Within.trans ?_ (State.flt_within _ _ _ _ ?_) | apply Within.ite

theorem State.addCount_within {P : Part → Bool} (s : State) (p : Nat) (d : Int) (h_regs : P .regs = true) :
    Within P s (State.addCount s p d) := by
  unfold State.addCount
  with_reducible repeat' first
    | assumption | exact Within.refl _ _ | apply Within.trans ?_ (State.setFld_within _ _ _ ?_)

theorem State.undoStill_within {P : Part → Bool} (s : State) (p : Nat) (h_regs : P .regs = true) (h_pos : P .pos = true) :
    Within P s (State.undoStill s p) := by
  unfold State.undoStill
  with_reducible repeat' first
    | assumption | exact Within.refl _ _ | apply Within.trans ?_ (State.updPos_within _ _ _ ?_)
    | apply Within.trans ?_ (State.setFld_within _ _ _ ?_) | apply Within.ite | split | (dsimp only; split)

theorem State.legalEdge_within {P : Part → Bool} (s : State) (p : Nat) (back : Bool) (te : Nat) (h_regs : P .regs = true)
    (h_pos : P .pos = true) :
    Within P s (State.legalEdge s p back te) := by
  unfold State.legalEdge
  with_reducible repeat' first
    | assumption | exact Within.refl _ _ | apply Within.trans ?_ (State.updPos_within _ _ _ ?_)
    | apply Within.trans ?_ (State.undoStill_within _ _ ?_ ?_) | apply Within.trans ?_ (State.setFld_within _ _ _ ?_)
    | apply Within.trans ?_ (State.inc_within _ _ ?_) | apply Within.trans ?_ (State.setMeas_within _ _ _ ?_ ?_) | apply Within.ite

theorem State.illegal_within {P : Part → Bool} (s : State) (p : Nat) (h_j3 : P .j3 = true) (h_regs : P .regs = true)
    (h_cad : P .cad = true) (h_pwm : P .pwm = true) (h_safe : P .safe = true) (h_pos : P .pos = true) :
    Within P s (State.illegal s p) := by
  unfold State.illegal
  with_reducible repeat' first
    | assumption | exact Within.refl _ _ | apply Within.trans ?_ (State.setFld_within _ _ _ ?_)
    | apply Within.trans ?_ (State.post_within _ _ _ _ ?_ ?_ ?_) | apply Within.trans ?_ (State.evt_within _ _ _ _ ?_)
    | apply Within.trans ?_ (State.inc_within _ _ ?_) | apply Within.trans ?_ (State.setMeas_within _ _ _ ?_ ?_)
    | apply Within.trans ?_ (State.updPos_within _ _ _ ?_) | apply Within.trans ?_ (State.posFault_within _ _ _ ?_ ?_ ?_ ?_ ?_ ?_)
    | apply Within.ite

theorem State.quadState_within {P : Part → Bool} (s : State) (p : Nat) (old : Nat) (new : Nat) (h_j3 : P .j3 = true)
    (h_regs : P .regs = true) (h_cad : P .cad = true) (h_pwm : P .pwm = true) (h_safe : P .safe = true) (h_pos : P .pos = true) :
    Within P s (State.quadState s p old new) := by
  unfold State.quadState
  with_reducible repeat' first
    | assumption | exact Within.refl _ _ | apply Within.trans ?_ (State.illegal_within _ _ ?_ ?_ ?_ ?_ ?_ ?_)
    | apply Within.trans ?_ (State.legalEdge_within _ _ _ _ ?_ ?_) | apply Within.trans ?_ (State.addCount_within _ _ _ ?_)
    | apply Within.ite

theorem State.placeCentre_within {P : Part → Bool} (s : State) (p : Nat) (h_regs : P .regs = true) (h_pos : P .pos = true) :
    Within P s (State.placeCentre s p) := by
  unfold State.placeCentre
  with_reducible repeat' first
    | assumption | exact Within.refl _ _ | apply Within.trans ?_ (State.setMeas_within _ _ _ ?_ ?_)

theorem State.hallState_within {P : Part → Bool} (s : State) (p : Nat) (h : Nat) (h_j3 : P .j3 = true) (h_regs : P .regs = true)
    (h_cad : P .cad = true) (h_pwm : P .pwm = true) (h_safe : P .safe = true) (h_pos : P .pos = true) :
    Within P s (State.hallState s p h) := by
  unfold State.hallState
  with_reducible repeat' first
    | assumption | exact Within.refl _ _ | apply Within.trans ?_ (State.updPos_within _ _ _ ?_)
    | apply Within.trans ?_ (State.illegal_within _ _ ?_ ?_ ?_ ?_ ?_ ?_)
    | apply Within.trans ?_ (State.placeCentre_within _ _ ?_ ?_) | apply Within.trans ?_ (State.legalEdge_within _ _ _ _ ?_ ?_)
    | apply Within.trans ?_ (State.addCount_within _ _ _ ?_) | apply Within.ite

theorem State.index_within {P : Part → Bool} (s : State) (p : Nat) (h_j3 : P .j3 = true) (h_regs : P .regs = true) (h_cad : P .cad = true)
    (h_pos : P .pos = true) :
    Within P s (State.index s p) := by
  unfold State.index
  with_reducible repeat' first
    | assumption | exact Within.refl _ _ | apply Within.trans ?_ (State.setMeas_within _ _ _ ?_ ?_)
    | apply Within.trans ?_ (State.post_within _ _ _ _ ?_ ?_ ?_) | apply Within.trans ?_ (State.evt_within _ _ _ _ ?_)
    | apply Within.trans ?_ (State.setFld_within _ _ _ ?_) | apply Within.trans ?_ (State.addCount_within _ _ _ ?_)
    | apply Within.trans ?_ (State.inc_within _ _ ?_) | apply Within.ite

theorem State.posLines_within {P : Part → Bool} (s : State) (p : Nat) (l : List Nat) (h_j3 : P .j3 = true) (h_regs : P .regs = true)
    (h_cad : P .cad = true) (h_pwm : P .pwm = true) (h_safe : P .safe = true) (h_pos : P .pos = true) :
    Within P s (State.posLines s p l) := by
  unfold State.posLines
  with_reducible repeat' first
    | assumption | exact Within.refl _ _ | apply Within.trans ?_ (State.updPos_within _ _ _ ?_)
    | apply Within.trans ?_ (State.showEmus_within _ ?_ ?_ ?_ ?_)
    | apply Within.trans ?_ (State.quadState_within _ _ _ _ ?_ ?_ ?_ ?_ ?_ ?_)
    | apply Within.trans ?_ (State.index_within _ _ ?_ ?_ ?_ ?_)
    | apply Within.trans ?_ (State.hallState_within _ _ _ ?_ ?_ ?_ ?_ ?_ ?_) | apply Within.ite | split | (dsimp only; split)

theorem State.newAngle_within {P : Part → Bool} (s : State) (p : Nat) (sig : Q) (t : Nat) (pp : Nat) (h_j3 : P .j3 = true)
    (h_regs : P .regs = true) (h_cad : P .cad = true) (h_pos : P .pos = true) :
    Within P s (State.newAngle s p sig t pp) := by
  unfold State.newAngle
  with_reducible repeat' first
    | assumption | exact Within.refl _ _ | apply Within.trans ?_ (State.updPos_within _ _ _ ?_)
    | apply Within.trans ?_ (State.setFld_within _ _ _ ?_) | apply Within.trans ?_ (State.showEmus_within _ ?_ ?_ ?_ ?_)
    | apply Within.trans ?_ (State.setMeas_within _ _ _ ?_ ?_) | apply Within.ite | split | (dsimp only; split)

theorem State.resolverSample_within {P : Part → Bool} (s : State) (p : Nat) (h_pos : P .pos = true) :
    Within P s (State.resolverSample s p) := by
  unfold State.resolverSample
  with_reducible repeat' first
    | assumption | exact Within.refl _ _ | apply Within.trans ?_ (State.updPos_within _ _ _ ?_) | apply Within.ite

theorem State.serialTrigger_within {P : Part → Bool} (s : State) (src : Nat) (h_regs : P .regs = true) (h_pos : P .pos = true) :
    Within P s (State.serialTrigger s src) := by
  unfold State.serialTrigger
  with_reducible repeat' first
    | assumption | exact Within.refl _ _ | exact Within.id_ _ _ | apply Within.each (fun _ _ => ?_) _ ?_
    | apply Within.trans ?_ (State.inc_within _ _ ?_) | apply Within.trans ?_ (State.updPos_within _ _ _ ?_) | apply Within.ite

theorem State.serialEnd_within {P : Part → Bool} (s : State) (p : Nat) (h_pos : P .pos = true) :
    Within P s (State.serialEnd s p) := by
  unfold State.serialEnd
  with_reducible repeat' first
    | assumption | exact Within.refl _ _ | apply Within.trans ?_ (State.updPos_within _ _ _ ?_)

theorem State.badWord_within {P : Part → Bool} (s : State) (p : Nat) (kind : Nat) (h_j3 : P .j3 = true) (h_regs : P .regs = true)
    (h_cad : P .cad = true) (h_pwm : P .pwm = true) (h_safe : P .safe = true) (h_pos : P .pos = true) :
    Within P s (State.badWord s p kind) := by
  unfold State.badWord
  with_reducible repeat' first
    | assumption | exact Within.refl _ _ | apply Within.trans ?_ (State.setFld_within _ _ _ ?_)
    | apply Within.trans ?_ (State.post_within _ _ _ _ ?_ ?_ ?_) | apply Within.trans ?_ (State.evt_within _ _ _ _ ?_)
    | apply Within.trans ?_ (State.inc_within _ _ ?_) | apply Within.trans ?_ (State.setMeas_within _ _ _ ?_ ?_)
    | apply Within.trans ?_ (State.updPos_within _ _ _ ?_) | apply Within.trans ?_ (State.posFault_within _ _ _ ?_ ?_ ?_ ?_ ?_ ?_)
    | apply Within.ite

theorem State.serialWord_within {P : Part → Bool} (s : State) (p : Nat) (l : List (Nat × Bool)) (h_j3 : P .j3 = true)
    (h_regs : P .regs = true) (h_cad : P .cad = true) (h_pwm : P .pwm = true) (h_safe : P .safe = true) (h_pos : P .pos = true) :
    Within P s (State.serialWord s p l) := by
  unfold State.serialWord
  with_reducible repeat' first
    | assumption | exact Within.refl _ _ | apply Within.trans ?_ (State.badWord_within _ _ _ ?_ ?_ ?_ ?_ ?_ ?_)
    | apply Within.trans ?_ (State.serialEnd_within _ _ ?_) | apply Within.trans ?_ (State.wr_within _ _ _ ?_)
    | apply Within.trans ?_ (State.updPos_within _ _ _ ?_) | apply Within.trans ?_ (State.setFld_within _ _ _ ?_)
    | apply Within.trans ?_ (State.newAngle_within _ _ _ _ _ ?_ ?_ ?_ ?_) | apply Within.ite | split | (dsimp only; split)

theorem State.showValid_within {P : Part → Bool} (s : State) (p : Nat) (h_regs : P .regs = true) :
    Within P s (State.showValid s p) := by
  unfold State.showValid
  with_reducible repeat' first
    | assumption | exact Within.refl _ _ | apply Within.trans ?_ (State.setFld_within _ _ _ ?_)

theorem State.posBegin_within {P : Part → Bool} (s : State) (p : Nat) (h_regs : P .regs = true) (h_pos : P .pos = true) :
    Within P s (State.posBegin s p) := by
  unfold State.posBegin
  with_reducible repeat' first
    | assumption | exact Within.refl _ _ | apply Within.trans ?_ (State.setFld_within _ _ _ ?_)
    | apply Within.trans ?_ (State.updPos_within _ _ _ ?_) | apply Within.trans ?_ (State.setMeas_within _ _ _ ?_ ?_)

theorem State.posRestart_within {P : Part → Bool} (s : State) (p : Nat) (wireOk : Bool) (h_j3 : P .j3 = true) (h_regs : P .regs = true)
    (h_cad : P .cad = true) (h_pos : P .pos = true) :
    Within P s (State.posRestart s p wireOk) := by
  unfold State.posRestart
  with_reducible repeat' first
    | assumption | exact Within.refl _ _ | apply Within.trans ?_ (State.setFld_within _ _ _ ?_)
    | apply Within.trans ?_ (State.showEmus_within _ ?_ ?_ ?_ ?_) | apply Within.trans ?_ (State.posBegin_within _ _ ?_ ?_)
    | apply Within.trans ?_ (State.showValid_within _ _ ?_) | apply Within.ite

theorem State.posSetMode_within {P : Part → Bool} (s : State) (p : Nat) (mode : Nat) (h_j3 : P .j3 = true) (h_regs : P .regs = true)
    (h_cad : P .cad = true) (h_pos : P .pos = true) :
    Within P s (State.posSetMode s p mode) := by
  unfold State.posSetMode
  with_reducible repeat' first
    | assumption | exact Within.refl _ _ | apply Within.trans ?_ (State.setFld_within _ _ _ ?_)
    | apply Within.trans ?_ (State.updPos_within _ _ _ ?_) | apply Within.trans ?_ (State.showValid_within _ _ ?_)
    | apply Within.trans ?_ (State.posBegin_within _ _ ?_ ?_) | apply Within.trans ?_ (State.setMeas_within _ _ _ ?_ ?_)
    | apply Within.trans ?_ (State.placeCentre_within _ _ ?_ ?_) | apply Within.trans ?_ (State.showEmus_within _ ?_ ?_ ?_ ?_)
    | apply Within.trans ?_ (State.wr_within _ _ _ ?_) | apply Within.ite

theorem State.posReconfig_within {P : Part → Bool} (s : State) (p : Nat) (turned : Bool) (h_j3 : P .j3 = true) (h_regs : P .regs = true)
    (h_cad : P .cad = true) (h_pos : P .pos = true) :
    Within P s (State.posReconfig s p turned) := by
  unfold State.posReconfig
  with_reducible repeat' first
    | assumption | exact Within.refl _ _ | apply Within.trans ?_ (State.updPos_within _ _ _ ?_)
    | apply Within.trans ?_ (State.setMeas_within _ _ _ ?_ ?_) | apply Within.trans ?_ (State.showEmus_within _ ?_ ?_ ?_ ?_)
    | apply Within.trans ?_ (State.placeCentre_within _ _ ?_ ?_) | apply Within.ite

theorem State.posFreeze_within {P : Part → Bool} (s : State) (h_j3 : P .j3 = true) (h_regs : P .regs = true) (h_cad : P .cad = true)
    (h_pos : P .pos = true) :
    Within P s (State.posFreeze s) := by
  unfold State.posFreeze
  with_reducible repeat' first
    | assumption | exact Within.refl _ _ | exact Within.id_ _ _ | apply Within.trans ?_ (State.showEmus_within _ ?_ ?_ ?_ ?_)
    | apply Within.each (fun _ _ => ?_) _ ?_ | apply Within.trans ?_ (State.wr_within _ _ _ ?_)
    | apply Within.trans ?_ (State.setFld_within _ _ _ ?_) | apply Within.ite

theorem State.emuCfg_within {P : Part → Bool} (s : State) (m : Master) (e : Nat) (v : Word) (h_free : P .free = true)
    (h_resp : P .resp = true) (h_j3 : P .j3 = true) (h_regs : P .regs = true) (h_cad : P .cad = true) (h_pos : P .pos = true) :
    Within P s (State.emuCfg s m e v) := by
  unfold State.emuCfg
  with_reducible repeat' first
    | assumption | exact Within.refl _ _ | exact Within.id_ _ _
    | apply Within.trans ?_ (State.write_within _ _ _ _ _ ?_ ?_ ?_ ?_ ?_ (fun _ => ?_))
    | apply Within.trans ?_ (State.wr_within _ _ _ ?_) | apply Within.trans ?_ (State.showEmu_within _ _ ?_ ?_ ?_ ?_)
    | apply Within.trans ?_ (State.updEmu_within _ _ _ ?_) | apply Within.ite

theorem execQuadratureEdge_within {P : Part → Bool} (p : Fin 4) (l : List (Fin 8)) (s : State) (h_j3 : P .j3 = true)
    (h_regs : P .regs = true) (h_cad : P .cad = true) (h_pwm : P .pwm = true) (h_safe : P .safe = true) (h_pos : P .pos = true) :
    WithinOut P s (execQuadratureEdge p l s) := by
  unfold execQuadratureEdge
  with_reducible repeat' first
    | assumption | exact Within.refl _ _ | apply WithinOut.next
    | apply Within.trans ?_ (State.posLines_within _ _ _ ?_ ?_ ?_ ?_ ?_ ?_)

theorem execIllegalTransition_within {P : Part → Bool} (p : Fin 4) (l : List (Fin 8)) (s : State) (h_j3 : P .j3 = true)
    (h_regs : P .regs = true) (h_cad : P .cad = true) (h_pwm : P .pwm = true) (h_safe : P .safe = true) (h_pos : P .pos = true) :
    WithinOut P s (execIllegalTransition p l s) := by
  unfold execIllegalTransition
  with_reducible repeat' first
    | assumption | exact Within.refl _ _ | apply WithinOut.next
    | apply Within.trans ?_ (State.posLines_within _ _ _ ?_ ?_ ?_ ?_ ?_ ?_)

theorem execIllWindowEnd_within {P : Part → Bool} (p : Fin 4) (s : State) (h_pos : P .pos = true) :
    WithinOut P s (execIllWindowEnd p s) := by
  unfold execIllWindowEnd
  with_reducible repeat' first
    | assumption | exact Within.refl _ _ | apply WithinOut.next | apply Within.trans ?_ (State.updPos_within _ _ _ ?_)

theorem execIndexPulse_within {P : Part → Bool} (p : Fin 4) (l : List (Fin 8)) (s : State) (h_j3 : P .j3 = true) (h_regs : P .regs = true)
    (h_cad : P .cad = true) (h_pwm : P .pwm = true) (h_safe : P .safe = true) (h_pos : P .pos = true) :
    WithinOut P s (execIndexPulse p l s) := by
  unfold execIndexPulse
  with_reducible repeat' first
    | assumption | exact Within.refl _ _ | apply WithinOut.next
    | apply Within.trans ?_ (State.posLines_within _ _ _ ?_ ?_ ?_ ?_ ?_ ?_)

theorem execHallEdge_within {P : Part → Bool} (p : Fin 4) (l : List (Fin 8)) (s : State) (h_j3 : P .j3 = true) (h_regs : P .regs = true)
    (h_cad : P .cad = true) (h_pwm : P .pwm = true) (h_safe : P .safe = true) (h_pos : P .pos = true) :
    WithinOut P s (execHallEdge p l s) := by
  unfold execHallEdge
  with_reducible repeat' first
    | assumption | exact Within.refl _ _ | apply WithinOut.next
    | apply Within.trans ?_ (State.posLines_within _ _ _ ?_ ?_ ?_ ?_ ?_ ?_)

theorem execResolverResult_within {P : Part → Bool} (p : Fin 4) (cur : Fin 1048576) (s : State) (h_free : P .free = true)
    (h_j3 : P .j3 = true) (h_regs : P .regs = true) (h_cad : P .cad = true) (h_pwm : P .pwm = true) (h_safe : P .safe = true)
    (h_pos : P .pos = true) :
    WithinOut P s (execResolverResult p cur s) := by
  unfold execResolverResult
  with_reducible repeat' first
    | assumption | exact Within.refl _ _ | apply WithinOut.next | apply Within.trans ?_ (State.tookFree_within _ ?_)
    | apply Within.trans ?_ (State.setFld_within _ _ _ ?_) | apply Within.trans ?_ (State.updPos_within _ _ _ ?_)
    | apply Within.trans ?_ (State.newAngle_within _ _ _ _ _ ?_ ?_ ?_ ?_)
    | apply Within.trans ?_ (State.posFault_within _ _ _ ?_ ?_ ?_ ?_ ?_ ?_) | apply Within.ite | apply WithinOut.ite | split
    | (dsimp only; split)

theorem execSerialWord_within {P : Part → Bool} (p : Fin 4) (line : List (Nat × Bool)) (s : State) (h_j3 : P .j3 = true)
    (h_regs : P .regs = true) (h_cad : P .cad = true) (h_pwm : P .pwm = true) (h_safe : P .safe = true) (h_pos : P .pos = true) :
    WithinOut P s (execSerialWord p line s) := by
  unfold execSerialWord
  with_reducible repeat' first
    | assumption | exact Within.refl _ _ | apply WithinOut.next
    | apply Within.trans ?_ (State.serialWord_within _ _ _ ?_ ?_ ?_ ?_ ?_ ?_)

theorem execSerialWordTimeout_within {P : Part → Bool} (p : Fin 4) (s : State) (h_j3 : P .j3 = true) (h_regs : P .regs = true)
    (h_cad : P .cad = true) (h_pwm : P .pwm = true) (h_safe : P .safe = true) (h_pos : P .pos = true) :
    WithinOut P s (execSerialWordTimeout p s) := by
  unfold execSerialWordTimeout
  with_reducible repeat' first
    | assumption | exact Within.refl _ _ | apply WithinOut.next
    | apply Within.trans ?_ (State.badWord_within _ _ _ ?_ ?_ ?_ ?_ ?_ ?_) | apply Within.trans ?_ (State.serialEnd_within _ _ ?_)
    | apply Within.trans ?_ (State.opTo_within _ _ _ ?_) | apply Within.ite | apply WithinOut.ite

theorem execStandstill_within {P : Part → Bool} (p : Fin 4) (s : State) (h_regs : P .regs = true) (h_pos : P .pos = true) :
    WithinOut P s (execStandstill p s) := by
  unfold execStandstill
  with_reducible repeat' first
    | assumption | exact Within.refl _ _ | apply WithinOut.next | apply Within.trans ?_ (State.opTo_within _ _ _ ?_)
    | apply Within.trans ?_ (State.evt_within _ _ _ _ ?_) | apply Within.trans ?_ (State.setFld_within _ _ _ ?_)
    | apply Within.trans ?_ (State.setMeas_within _ _ _ ?_ ?_) | apply Within.trans ?_ (State.updPos_within _ _ _ ?_)
    | apply Within.ite | apply WithinOut.ite

theorem execPosRestart_within {P : Part → Bool} (m : Master) (p : Fin 4) (wireOk : Bool) (s : State) (h_free : P .free = true)
    (h_resp : P .resp = true) (h_j3 : P .j3 = true) (h_regs : P .regs = true) (h_cad : P .cad = true) (h_pos : P .pos = true) :
    WithinOut P s (execPosRestart m p wireOk s) := by
  unfold execPosRestart
  with_reducible repeat' first
    | assumption | exact Within.refl _ _ | exact Within.id_ _ _ | apply WithinOut.next
    | apply Within.trans ?_ (State.write_within _ _ _ _ _ ?_ ?_ ?_ ?_ ?_ (fun _ => ?_))
    | apply Within.trans ?_ (State.posRestart_within _ _ _ ?_ ?_ ?_ ?_)

theorem execSensorFault_within {P : Part → Bool} (p : Fin 4) (cause : Fin 6) (s : State) (h_j3 : P .j3 = true) (h_regs : P .regs = true)
    (h_cad : P .cad = true) (h_pwm : P .pwm = true) (h_safe : P .safe = true) (h_pos : P .pos = true) :
    WithinOut P s (execSensorFault p cause s) := by
  unfold execSensorFault
  with_reducible repeat' first
    | assumption | exact Within.refl _ _ | apply WithinOut.next | apply Within.trans ?_ (State.showEmus_within _ ?_ ?_ ?_ ?_)
    | apply Within.trans ?_ (State.posFault_within _ _ _ ?_ ?_ ?_ ?_ ?_ ?_) | apply Within.ite | apply WithinOut.ite | split
    | (dsimp only; split)

theorem execEmuStep_within {P : Part → Bool} (e : Fin 2) (s : State) (h_j3 : P .j3 = true) (h_regs : P .regs = true)
    (h_cad : P .cad = true) (h_pos : P .pos = true) :
    WithinOut P s (execEmuStep e s) := by
  unfold execEmuStep
  with_reducible repeat' first
    | assumption | exact Within.refl _ _ | apply WithinOut.next | apply Within.trans ?_ (State.showEmu_within _ _ ?_ ?_ ?_ ?_)
    | apply Within.trans ?_ (State.updEmu_within _ _ _ ?_) | apply Within.ite | apply WithinOut.ite

theorem execEmuEnable_within {P : Part → Bool} (m : Master) (e : Fin 2) (v : Word) (s : State) (h_free : P .free = true)
    (h_resp : P .resp = true) (h_j3 : P .j3 = true) (h_regs : P .regs = true) (h_cad : P .cad = true) (h_pos : P .pos = true) :
    WithinOut P s (execEmuEnable m e v s) := by
  unfold execEmuEnable
  with_reducible repeat' first
    | assumption | exact Within.refl _ _ | apply WithinOut.next
    | apply Within.trans ?_ (State.emuCfg_within _ _ _ _ ?_ ?_ ?_ ?_ ?_ ?_)

theorem State.count_within {P : Part → Bool} (s : State) (f : Fld) (vote : Bool) (h_regs : P .regs = true) :
    Within P s (State.count s f vote) := by
  unfold State.count
  with_reducible repeat' first
    | assumption | exact Within.refl _ _ | apply Within.trans ?_ (State.inc_within _ _ ?_)
    | apply Within.trans ?_ (State.setFld_within _ _ _ ?_) | apply Within.ite

theorem State.trcWindow_within {P : Part → Bool} (s : State) (n : Nat) (w : Closed) (h_regs : P .regs = true) (h_trac : P .trac = true) :
    Within P s (State.trcWindow s n w) := by
  unfold State.trcWindow
  with_reducible repeat' first
    | assumption | exact Within.refl _ _ | exact Within.id_ _ _ | apply Within.trans ?_ (State.wr_within _ _ _ ?_)
    | apply Within.each (fun _ _ => ?_) _ ?_ | apply Within.trans ?_ (State.count_within _ _ _ ?_)
    | apply Within.trans ?_ (State.updTrac_within _ _ _ ?_) | apply Within.ite | split | (dsimp only; split)

theorem State.trcDropBySpeed_within {P : Part → Bool} (s : State) (n : Nat) (h_regs : P .regs = true) :
    Within P s (State.trcDropBySpeed s n) := by
  unfold State.trcDropBySpeed
  with_reducible repeat' first
    | assumption | exact Within.refl _ _ | apply Within.trans ?_ (State.setFld_within _ _ _ ?_)

theorem State.trcSetFault_within {P : Part → Bool} (s : State) (n : Nat) (fcause : Nat) (h_j3 : P .j3 = true) (h_regs : P .regs = true)
    (h_cad : P .cad = true) (h_pwm : P .pwm = true) (h_safe : P .safe = true) :
    Within P s (State.trcSetFault s n fcause) := by
  unfold State.trcSetFault
  with_reducible repeat' first
    | assumption | exact Within.refl _ _ | apply Within.trans ?_ (State.post_within _ _ _ _ ?_ ?_ ?_)
    | apply Within.trans ?_ (State.flt_within _ _ _ _ ?_) | apply Within.trans ?_ (State.setFld_within _ _ _ ?_)
    | apply Within.trans ?_ (State.raise_within _ _ _ ?_ ?_ ?_ ?_ ?_)

theorem State.trcDeclare_within {P : Part → Bool} (s : State) (n : Nat) (h_j3 : P .j3 = true) (h_regs : P .regs = true)
    (h_cad : P .cad = true) (h_pwm : P .pwm = true) (h_safe : P .safe = true) (h_trac : P .trac = true) :
    Within P s (State.trcDeclare s n) := by
  unfold State.trcDeclare
  with_reducible repeat' first
    | assumption | exact Within.refl _ _ | apply Within.trans ?_ (State.updTrac_within _ _ _ ?_)
    | apply Within.trans ?_ (State.trcSetFault_within _ _ _ ?_ ?_ ?_ ?_ ?_) | apply Within.trans ?_ (State.setFld_within _ _ _ ?_)
    | apply Within.trans ?_ (State.trcDropBySpeed_within _ _ ?_) | apply Within.trans ?_ (State.flt_within _ _ _ _ ?_)
    | apply Within.trans ?_ (State.evt_within _ _ _ _ ?_) | apply Within.trans ?_ (State.post_within _ _ _ _ ?_ ?_ ?_)
    | apply Within.trans ?_ (State.sendSafeTo_within _ _ ?_) | split | (dsimp only; split)

theorem State.trcArmed_within {P : Part → Bool} (s : State) (g : Nat) (h_regs : P .regs = true) (h_trac : P .trac = true) :
    Within P s (State.trcArmed s g) := by
  unfold State.trcArmed
  with_reducible repeat' first
    | assumption | exact Within.refl _ _ | exact Within.id_ _ _ | apply Within.each (fun _ _ => ?_) _ ?_
    | apply Within.trans ?_ (State.updTrac_within _ _ _ ?_) | apply Within.trans ?_ (State.wr_within _ _ _ ?_)

theorem State.trcClock_within {P : Part → Bool} (s : State) (n : Nat) (h_regs : P .regs = true) (h_trac : P .trac = true) :
    Within P s (State.trcClock s n) := by
  unfold State.trcClock
  with_reducible repeat' first
    | assumption | exact Within.refl _ _ | apply Within.trans ?_ (State.setFld_within _ _ _ ?_)
    | apply Within.trans ?_ (State.updTrac_within _ _ _ ?_) | apply Within.ite

theorem State.keVerdict_within {P : Part → Bool} (s : State) (n : Nat) (v : Nat) (h_j3 : P .j3 = true) (h_regs : P .regs = true)
    (h_cad : P .cad = true) (h_pwm : P .pwm = true) (h_safe : P .safe = true) :
    Within P s (State.keVerdict s n v) := by
  unfold State.keVerdict
  with_reducible repeat' first
    | assumption | exact Within.refl _ _ | apply Within.trans ?_ (State.evt_within _ _ _ _ ?_)
    | apply Within.trans ?_ (State.setFld_within _ _ _ ?_) | apply Within.trans ?_ (State.post_within _ _ _ _ ?_ ?_ ?_)
    | apply Within.trans ?_ (State.flt_within _ _ _ _ ?_) | apply Within.trans ?_ (State.raise_within _ _ _ ?_ ?_ ?_ ?_ ?_)
    | apply Within.ite | split | (dsimp only; split)

theorem State.keIdentify_within {P : Part → Bool} (s : State) (n : Nat) (h_j3 : P .j3 = true) (h_regs : P .regs = true)
    (h_cad : P .cad = true) (h_pwm : P .pwm = true) (h_safe : P .safe = true) :
    Within P s (State.keIdentify s n) := by
  unfold State.keIdentify
  with_reducible repeat' first
    | assumption | exact Within.refl _ _ | apply Within.trans ?_ (State.wr_within _ _ _ ?_)
    | apply Within.trans ?_ (State.keVerdict_within _ _ _ ?_ ?_ ?_ ?_ ?_) | apply Within.ite

theorem State.keSample_within {P : Part → Bool} (s : State) (n : Nat) (h_free : P .free = true) (h_j3 : P .j3 = true)
    (h_regs : P .regs = true) (h_cad : P .cad = true) (h_pwm : P .pwm = true) (h_safe : P .safe = true) (h_trac : P .trac = true) :
    Within P s (State.keSample s n) := by
  unfold State.keSample
  with_reducible repeat' first
    | assumption | exact Within.refl _ _ | apply Within.trans ?_ (State.keIdentify_within _ _ ?_ ?_ ?_ ?_ ?_)
    | apply Within.trans ?_ (State.updTrac_within _ _ _ ?_) | apply Within.trans ?_ (State.setFld_within _ _ _ ?_)
    | apply Within.trans ?_ (State.tookFree_within _ ?_) | apply Within.trans ?_ (State.inc_within _ _ ?_)
    | apply Within.trans ?_ (State.wr_within _ _ _ ?_) | apply Within.trans ?_ (State.keVerdict_within _ _ _ ?_ ?_ ?_ ?_ ?_)
    | apply Within.ite | split | (dsimp only; split)

theorem State.keMark_within {P : Part → Bool} (s : State) (n : Nat) (h_trac : P .trac = true) :
    Within P s (State.keMark s n) := by
  unfold State.keMark
  with_reducible repeat' first
    | assumption | exact Within.refl _ _ | apply Within.trans ?_ (State.updTrac_within _ _ _ ?_) | apply Within.ite

theorem State.keClock_within {P : Part → Bool} (s : State) (n : Nat) (h_free : P .free = true) (h_j3 : P .j3 = true)
    (h_regs : P .regs = true) (h_cad : P .cad = true) (h_pwm : P .pwm = true) (h_safe : P .safe = true) (h_trac : P .trac = true) :
    Within P s (State.keClock s n) := by
  unfold State.keClock
  with_reducible repeat' first
    | assumption | exact Within.refl _ _ | apply Within.trans ?_ (State.keSample_within _ _ ?_ ?_ ?_ ?_ ?_ ?_ ?_) | apply Within.ite

theorem State.trcDropTo_within {P : Part → Bool} (s : State) (n : Nat) (short : Bool) (h_j3 : P .j3 = true) (h_regs : P .regs = true)
    (h_cad : P .cad = true) (h_pwm : P .pwm = true) :
    Within P s (State.trcDropTo s n short) := by
  unfold State.trcDropTo
  with_reducible repeat' first
    | assumption | exact Within.refl _ _ | apply Within.trans ?_ (State.evt_within _ _ _ _ ?_)
    | apply Within.trans ?_ (State.setFld_within _ _ _ ?_) | apply Within.trans ?_ (State.post_within _ _ _ _ ?_ ?_ ?_)
    | apply Within.trans ?_ (State.sendSafeTo_within _ _ ?_) | apply Within.ite

theorem execTrcDeclaration_within {P : Part → Bool} (n : Fin 2) (s : State) (h_j3 : P .j3 = true) (h_regs : P .regs = true)
    (h_cad : P .cad = true) (h_pwm : P .pwm = true) (h_safe : P .safe = true) (h_trac : P .trac = true) :
    WithinOut P s (execTrcDeclaration n s) := by
  unfold execTrcDeclaration
  with_reducible repeat' first
    | assumption | exact Within.refl _ _ | apply WithinOut.next
    | apply Within.trans ?_ (State.trcDeclare_within _ _ ?_ ?_ ?_ ?_ ?_ ?_)

theorem execDropModeChange_within {P : Part → Bool} (n : Fin 2) (s : State) (h_j3 : P .j3 = true) (h_regs : P .regs = true)
    (h_cad : P .cad = true) (h_pwm : P .pwm = true) :
    WithinOut P s (execDropModeChange n s) := by
  unfold execDropModeChange
  with_reducible repeat' first
    | assumption | exact Within.refl _ _ | apply WithinOut.next | apply Within.trans ?_ (State.trcDropTo_within _ _ _ ?_ ?_ ?_ ?_)
    | apply Within.ite | apply WithinOut.ite

theorem execDegradeWarning_within {P : Part → Bool} (n : Fin 2) (s : State) (h_j3 : P .j3 = true) (h_regs : P .regs = true)
    (h_cad : P .cad = true) :
    WithinOut P s (execDegradeWarning n s) := by
  unfold execDegradeWarning
  with_reducible repeat' first
    | assumption | exact Within.refl _ _ | apply WithinOut.next | apply Within.trans ?_ (State.post_within _ _ _ _ ?_ ?_ ?_)
    | apply Within.trans ?_ (State.evt_within _ _ _ _ ?_) | apply Within.ite | apply WithinOut.ite

theorem execDegradeExpiry_within {P : Part → Bool} (n : Fin 2) (s : State) (h_j3 : P .j3 = true) (h_regs : P .regs = true)
    (h_cad : P .cad = true) (h_pwm : P .pwm = true) (h_safe : P .safe = true) :
    WithinOut P s (execDegradeExpiry n s) := by
  unfold execDegradeExpiry
  with_reducible repeat' first
    | assumption | exact Within.refl _ _ | apply WithinOut.next | apply Within.trans ?_ (State.flt_within _ _ _ _ ?_)
    | apply Within.trans ?_ (State.setFld_within _ _ _ ?_) | apply Within.trans ?_ (State.opTo_within _ _ _ ?_)
    | apply Within.trans ?_ (State.raise_within _ _ _ ?_ ?_ ?_ ?_ ?_) | apply Within.trans ?_ (State.post_within _ _ _ _ ?_ ?_ ?_)
    | apply Within.ite | apply WithinOut.ite

theorem execTrcClear_within {P : Part → Bool} (m : Master) (n : Fin 2) (s : State) (h_free : P .free = true) (h_resp : P .resp = true)
    (h_j3 : P .j3 = true) (h_regs : P .regs = true) (h_cad : P .cad = true) (h_trac : P .trac = true) :
    WithinOut P s (execTrcClear m n s) := by
  unfold execTrcClear
  with_reducible repeat' first
    | assumption | exact Within.refl _ _ | exact Within.id_ _ _ | apply WithinOut.next
    | apply Within.trans ?_ (State.write_within _ _ _ _ _ ?_ ?_ ?_ ?_ ?_ (fun _ => ?_))
    | apply Within.trans ?_ (State.wr_within _ _ _ ?_) | apply Within.trans ?_ (State.updTrac_within _ _ _ ?_)
    | apply Within.trans ?_ (State.post_within _ _ _ _ ?_ ?_ ?_) | apply Within.trans ?_ (State.evt_within _ _ _ _ ?_)
    | apply Within.ite | apply WithinOut.ite

theorem execKeIdentification_within {P : Part → Bool} (n : Fin 2) (s : State) (h_j3 : P .j3 = true) (h_regs : P .regs = true)
    (h_cad : P .cad = true) (h_pwm : P .pwm = true) (h_safe : P .safe = true) :
    WithinOut P s (execKeIdentification n s) := by
  unfold execKeIdentification
  with_reducible repeat' first
    | assumption | exact Within.refl _ _ | apply WithinOut.next | apply Within.trans ?_ (State.keIdentify_within _ _ ?_ ?_ ?_ ?_ ?_)

theorem execKeRestart_within {P : Part → Bool} (m : Master) (n : Fin 2) (s : State) (h_free : P .free = true) (h_resp : P .resp = true)
    (h_j3 : P .j3 = true) (h_regs : P .regs = true) (h_cad : P .cad = true) (h_trac : P .trac = true) :
    WithinOut P s (execKeRestart m n s) := by
  unfold execKeRestart
  with_reducible repeat' first
    | assumption | exact Within.refl _ _ | exact Within.id_ _ _ | apply WithinOut.next
    | apply Within.trans ?_ (State.write_within _ _ _ _ _ ?_ ?_ ?_ ?_ ?_ (fun _ => ?_))
    | apply Within.trans ?_ (State.updTrac_within _ _ _ ?_) | apply Within.trans ?_ (State.setFld_within _ _ _ ?_)

end Sys2Proof.Machine
end

