-- ==== Sys2Proof/Laws/FrameUnits.lean ====
section
/-!
SUPPORT. Frames, one lemma for each function that gives a state, a command's outcome or an optional state: which parts of the state it may
change at all, and that it leaves the queue and the canonical form alone. This file: the charger, the auxiliary converter, the actuators, the derailleur and tandem.
-/
namespace Sys2Proof.Machine

theorem State.updChg_within {P : Part → Bool} (s : State) (f : Chg → Chg) (h_conv : P .conv = true) :
    Within P s (State.updChg s f) := by
  unfold State.updChg
  with_reducible repeat' first
    | assumption | exact Within.refl _ _ | apply Within.conv ?_ ?_ _

theorem State.updAux_within {P : Part → Bool} (s : State) (f : Aux → Aux) (h_conv : P .conv = true) :
    Within P s (State.updAux s f) := by
  unfold State.updAux
  with_reducible repeat' first
    | assumption | exact Within.refl _ _ | apply Within.conv ?_ ?_ _

theorem State.setNear_within {P : Part → Bool} (s : State) (f : Fld) (lo : Int) (hi : Int) (q : Q) (h_free : P .free = true)
    (h_regs : P .regs = true) :
    Within P s (State.setNear s f lo hi q) := by
  unfold State.setNear
  with_reducible repeat' first
    | assumption | exact Within.refl _ _ | apply Within.trans ?_ (State.tookFree_within _ ?_)
    | apply Within.trans ?_ (State.setFld_within _ _ _ ?_)

theorem State.convDisable_within {P : Part → Bool} (s : State) (g : Nat) (h_regs : P .regs = true) (h_pwm : P .pwm = true)
    (h_conv : P .conv = true) :
    Within P s (State.convDisable s g) := by
  unfold State.convDisable
  with_reducible repeat' first
    | assumption | exact Within.refl _ _ | apply Within.trans ?_ (State.setFld_within _ _ _ ?_)
    | apply Within.trans ?_ (State.sendSafe_within _ _ ?_) | apply Within.trans ?_ (State.updGrp_within _ _ _ ?_) | apply Within.ite
    | apply Within.conv ?_ ?_ _

theorem State.convEnable_within {P : Part → Bool} (s : State) (g : Nat) (h_conv : P .conv = true) :
    Within P s (State.convEnable s g) := by
  unfold State.convEnable
  with_reducible repeat' first
    | assumption | exact Within.refl _ _ | apply Within.conv ?_ ?_ _

theorem State.convPeriod_within {P : Part → Bool} (s : State) (g : Nat) (h_regs : P .regs = true) (h_pwm : P .pwm = true)
    (h_conv : P .conv = true) :
    Within P s (State.convPeriod s g) := by
  unfold State.convPeriod
  with_reducible repeat' first
    | assumption | exact Within.refl _ _ | exact Within.id_ _ _ | apply Within.trans ?_ (State.updGrp_within _ _ _ ?_)
    | apply Within.each (fun _ _ => ?_) _ ?_ | apply Within.trans ?_ (State.applyLeg_within _ _ _ _ ?_ ?_)
    | apply Within.trans ?_ (State.updLeg_within _ _ _ ?_) | apply Within.ite | apply Within.conv ?_ ?_ _

theorem State.showAllow_within {P : Part → Bool} (s : State) (h_free : P .free = true) (h_regs : P .regs = true) :
    Within P s (State.showAllow s) := by
  unfold State.showAllow
  with_reducible repeat' first
    | assumption | exact Within.refl _ _ | apply Within.trans ?_ (State.setNear_within _ _ _ _ _ ?_ ?_)
    | apply Within.trans ?_ (State.setFld_within _ _ _ ?_)

theorem State.chgClassify_within {P : Part → Bool} (s : State) (h_free : P .free = true) (h_regs : P .regs = true)
    (h_conv : P .conv = true) :
    Within P s (State.chgClassify s) := by
  unfold State.chgClassify
  with_reducible repeat' first
    | assumption | exact Within.refl _ _ | apply Within.trans ?_ (State.setNear_within _ _ _ _ _ ?_ ?_)
    | apply Within.trans ?_ (State.setFld_within _ _ _ ?_) | apply Within.trans ?_ (State.updChg_within _ _ ?_) | apply Within.ite

theorem State.cpFault_within {P : Part → Bool} (s : State) (h_j3 : P .j3 = true) (h_regs : P .regs = true) (h_cad : P .cad = true) :
    Within P s (State.cpFault s) := by
  unfold State.cpFault
  with_reducible repeat' first
    | assumption | exact Within.refl _ _ | apply Within.trans ?_ (State.flt_within _ _ _ _ ?_)
    | apply Within.trans ?_ (State.post_within _ _ _ _ ?_ ?_ ?_) | apply Within.ite

theorem State.tinhEvent_within {P : Part → Bool} (s : State) (h_j3 : P .j3 = true) (h_regs : P .regs = true) (h_cad : P .cad = true)
    (h_conv : P .conv = true) :
    Within P s (State.tinhEvent s) := by
  unfold State.tinhEvent
  with_reducible repeat' first
    | assumption | exact Within.refl _ _ | apply Within.trans ?_ (State.updChg_within _ _ ?_)
    | apply Within.trans ?_ (State.post_within _ _ _ _ ?_ ?_ ?_) | apply Within.trans ?_ (State.evt_within _ _ _ _ ?_)
    | apply Within.ite

theorem State.chgTo_within {P : Part → Bool} (s : State) (new : Nat) (reason : Nat) (h_j3 : P .j3 = true) (h_regs : P .regs = true)
    (h_cad : P .cad = true) (h_pwm : P .pwm = true) (h_conv : P .conv = true) :
    Within P s (State.chgTo s new reason) := by
  unfold State.chgTo
  with_reducible repeat' first
    | assumption | exact Within.refl _ _ | apply Within.trans ?_ (State.setFld_within _ _ _ ?_)
    | apply Within.trans ?_ (State.inc_within _ _ ?_) | apply Within.trans ?_ (State.cpFault_within _ ?_ ?_ ?_)
    | apply Within.trans ?_ (State.tinhEvent_within _ ?_ ?_ ?_ ?_) | apply Within.trans ?_ (State.updChg_within _ _ ?_)
    | apply Within.trans ?_ (State.convEnable_within _ _ ?_) | apply Within.trans ?_ (State.convDisable_within _ _ ?_ ?_ ?_)
    | apply Within.trans ?_ (State.post_within _ _ _ _ ?_ ?_ ?_) | apply Within.trans ?_ (State.evt_within _ _ _ _ ?_)
    | apply Within.ite

theorem State.sessStep_within {P : Part → Bool} (s : State) (timer : Option Nat) (bnd : Bool) (h_j3 : P .j3 = true)
    (h_regs : P .regs = true) (h_cad : P .cad = true) (h_pwm : P .pwm = true) (h_conv : P .conv = true) :
    Within P s (State.sessStep s timer bnd) := by
  unfold State.sessStep
  with_reducible repeat' first
    | assumption | exact Within.refl _ _ | apply Within.trans ?_ (State.chgTo_within _ _ _ ?_ ?_ ?_ ?_ ?_) | apply Within.ite
    | split | (dsimp only; split)

theorem State.sessClock_within {P : Part → Bool} (s : State) (h_j3 : P .j3 = true) (h_regs : P .regs = true) (h_cad : P .cad = true)
    (h_pwm : P .pwm = true) (h_conv : P .conv = true) :
    Within P s (State.sessClock s) := by
  unfold State.sessClock
  with_reducible repeat' first
    | assumption | exact Within.refl _ _ | apply Within.trans ?_ (State.sessStep_within _ _ _ ?_ ?_ ?_ ?_ ?_)
    | apply Within.trans ?_ (State.updChg_within _ _ ?_) | apply Within.ite

theorem State.tripMark_within {P : Part → Bool} (s : State) (r : Nat) (h_conv : P .conv = true) :
    Within P s (State.tripMark s r) := by
  unfold State.tripMark
  with_reducible repeat' first
    | assumption | exact Within.refl _ _ | apply Within.trans ?_ (State.updChg_within _ _ ?_)

theorem State.chgTinh_within {P : Part → Bool} (s : State) (h_j3 : P .j3 = true) (h_regs : P .regs = true) (h_cad : P .cad = true)
    (h_conv : P .conv = true) :
    Within P s (State.chgTinh s) := by
  unfold State.chgTinh
  with_reducible repeat' first
    | assumption | exact Within.refl _ _ | apply Within.trans ?_ (State.tinhEvent_within _ ?_ ?_ ?_ ?_)
    | apply Within.trans ?_ (State.setFld_within _ _ _ ?_) | apply Within.ite

theorem State.chgRound_within {P : Part → Bool} (s : State) (h_free : P .free = true) (h_j3 : P .j3 = true) (h_regs : P .regs = true)
    (h_cad : P .cad = true) (h_conv : P .conv = true) :
    Within P s (State.chgRound s) := by
  unfold State.chgRound
  with_reducible repeat' first
    | assumption | exact Within.refl _ _ | apply Within.trans ?_ (State.chgTinh_within _ ?_ ?_ ?_ ?_)
    | apply Within.trans ?_ (State.chgClassify_within _ ?_ ?_ ?_)

theorem State.chgTick_within {P : Part → Bool} (s : State) (h_regs : P .regs = true) (h_conv : P .conv = true) :
    Within P s (State.chgTick s) := by
  unfold State.chgTick
  with_reducible repeat' first
    | assumption | exact Within.refl _ _ | apply Within.trans ?_ (State.updChg_within _ _ ?_)
    | apply Within.trans ?_ (State.setFld_within _ _ _ ?_) | apply Within.ite

theorem State.gridCheck_within {P : Part → Bool} (s : State) (h_regs : P .regs = true) :
    Within P s (State.gridCheck s) := by
  unfold State.gridCheck
  with_reducible repeat' first
    | assumption | exact Within.refl _ _ | apply Within.trans ?_ (State.setFld_within _ _ _ ?_) | apply Within.ite

theorem State.setRms_within {P : Part → Bool} (s : State) (f : Fld) (sum : Int) (n : Nat) (h_free : P .free = true)
    (h_regs : P .regs = true) :
    Within P s (State.setRms s f sum n) := by
  unfold State.setRms
  with_reducible repeat' first
    | assumption | exact Within.refl _ _ | apply Within.trans ?_ (State.tookFree_within _ ?_)
    | apply Within.trans ?_ (State.setFld_within _ _ _ ?_)

theorem State.gridCross_within {P : Part → Bool} (s : State) (h_free : P .free = true) (h_regs : P .regs = true) (h_conv : P .conv = true) :
    Within P s (State.gridCross s) := by
  unfold State.gridCross
  with_reducible repeat' first
    | assumption | exact Within.refl _ _ | exact Within.id_ _ _ | apply Within.trans ?_ (State.updChg_within _ _ ?_)
    | apply Within.trans ?_ (State.setNear_within _ _ _ _ _ ?_ ?_) | apply Within.each (fun _ _ => ?_) _ ?_
    | apply Within.trans ?_ (State.setRms_within _ _ _ _ ?_ ?_) | apply Within.trans ?_ (State.wr_within _ _ _ ?_)
    | apply Within.trans ?_ (State.gridCheck_within _ ?_) | apply Within.ite | split | (dsimp only; split)

theorem State.gridWindow_within {P : Part → Bool} (s : State) (h_free : P .free = true) (h_regs : P .regs = true)
    (h_conv : P .conv = true) :
    Within P s (State.gridWindow s) := by
  unfold State.gridWindow
  with_reducible repeat' first
    | assumption | exact Within.refl _ _ | apply Within.trans ?_ (State.gridCross_within _ ?_ ?_ ?_)
    | apply Within.trans ?_ (State.updChg_within _ _ ?_) | apply Within.ite | split | (dsimp only; split)

theorem State.gridClock_within {P : Part → Bool} (s : State) (h_regs : P .regs = true) :
    Within P s (State.gridClock s) := by
  unfold State.gridClock
  with_reducible repeat' first
    | assumption | exact Within.refl _ _ | apply Within.trans ?_ (State.setFld_within _ _ _ ?_) | apply Within.ite | split
    | (dsimp only; split)

theorem State.gridTrip_within {P : Part → Bool} (s : State) (kind : Nat) (phase : Nat) (h_j3 : P .j3 = true) (h_regs : P .regs = true)
    (h_cad : P .cad = true) (h_conv : P .conv = true) :
    Within P s (State.gridTrip s kind phase) := by
  unfold State.gridTrip
  with_reducible repeat' first
    | assumption | exact Within.refl _ _ | apply Within.trans ?_ (State.inc_within _ _ ?_)
    | apply Within.trans ?_ (State.flt_within _ _ _ _ ?_) | apply Within.trans ?_ (State.tripMark_within _ _ ?_)
    | apply Within.trans ?_ (State.post_within _ _ _ _ ?_ ?_ ?_)

theorem State.auxTo_within {P : Part → Bool} (s : State) (new : Nat) (h_j3 : P .j3 = true) (h_regs : P .regs = true)
    (h_cad : P .cad = true) (h_pwm : P .pwm = true) (h_conv : P .conv = true) :
    Within P s (State.auxTo s new) := by
  unfold State.auxTo
  with_reducible repeat' first
    | assumption | exact Within.refl _ _ | apply Within.trans ?_ (State.updAux_within _ _ ?_)
    | apply Within.trans ?_ (State.setFld_within _ _ _ ?_) | apply Within.trans ?_ (State.convEnable_within _ _ ?_)
    | apply Within.trans ?_ (State.convDisable_within _ _ ?_ ?_ ?_) | apply Within.trans ?_ (State.sendSafe_within _ _ ?_)
    | apply Within.trans ?_ (State.post_within _ _ _ _ ?_ ?_ ?_) | apply Within.trans ?_ (State.evt_within _ _ _ _ ?_)
    | apply Within.ite

theorem State.auxFault_within {P : Part → Bool} (s : State) (reason : Nat) (h_j3 : P .j3 = true) (h_regs : P .regs = true)
    (h_cad : P .cad = true) (h_pwm : P .pwm = true) (h_conv : P .conv = true) :
    Within P s (State.auxFault s reason) := by
  unfold State.auxFault
  with_reducible repeat' first
    | assumption | exact Within.refl _ _ | apply Within.trans ?_ (State.post_within _ _ _ _ ?_ ?_ ?_)
    | apply Within.trans ?_ (State.flt_within _ _ _ _ ?_) | apply Within.trans ?_ (State.setFld_within _ _ _ ?_)
    | apply Within.trans ?_ (State.auxTo_within _ _ ?_ ?_ ?_ ?_ ?_)

theorem State.auxPhase_within {P : Part → Bool} (s : State) (p : Nat) (h_pwm : P .pwm = true) (h_conv : P .conv = true) :
    Within P s (State.auxPhase s p) := by
  unfold State.auxPhase
  with_reducible repeat' first
    | assumption | exact Within.refl _ _ | apply Within.trans ?_ (State.sendSafe_within _ _ ?_)
    | apply Within.trans ?_ (State.updAux_within _ _ ?_)

theorem State.auxCheck_within {P : Part → Bool} (s : State) (h_j3 : P .j3 = true) (h_regs : P .regs = true) (h_cad : P .cad = true)
    (h_pwm : P .pwm = true) (h_conv : P .conv = true) :
    Within P s (State.auxCheck s) := by
  unfold State.auxCheck
  with_reducible repeat' first
    | assumption | exact Within.refl _ _ | apply Within.trans ?_ (State.auxTo_within _ _ ?_ ?_ ?_ ?_ ?_)
    | apply Within.trans ?_ (State.auxPhase_within _ _ ?_ ?_) | apply Within.ite

theorem State.auxHiccup_within {P : Part → Bool} (s : State) (reason : Nat) (h_j3 : P .j3 = true) (h_regs : P .regs = true)
    (h_cad : P .cad = true) (h_pwm : P .pwm = true) (h_conv : P .conv = true) :
    Within P s (State.auxHiccup s reason) := by
  unfold State.auxHiccup
  with_reducible repeat' first
    | assumption | exact Within.refl _ _ | apply Within.trans ?_ (State.auxFault_within _ _ ?_ ?_ ?_ ?_ ?_)
    | apply Within.trans ?_ (State.inc_within _ _ ?_) | apply Within.trans ?_ (State.setFld_within _ _ _ ?_)
    | apply Within.trans ?_ (State.post_within _ _ _ _ ?_ ?_ ?_) | apply Within.trans ?_ (State.evt_within _ _ _ _ ?_)
    | apply Within.trans ?_ (State.auxTo_within _ _ ?_ ?_ ?_ ?_ ?_) | apply Within.ite

theorem State.auxStep_within {P : Part → Bool} (s : State) (hic : Option Nat) (bnd : Bool) (h_j3 : P .j3 = true) (h_regs : P .regs = true)
    (h_cad : P .cad = true) (h_pwm : P .pwm = true) (h_conv : P .conv = true) :
    Within P s (State.auxStep s hic bnd) := by
  unfold State.auxStep
  with_reducible repeat' first
    | assumption | exact Within.refl _ _ | apply Within.trans ?_ (State.auxCheck_within _ ?_ ?_ ?_ ?_ ?_)
    | apply Within.trans ?_ (State.setFld_within _ _ _ ?_) | apply Within.trans ?_ (State.auxTo_within _ _ ?_ ?_ ?_ ?_ ?_)
    | apply Within.trans ?_ (State.auxFault_within _ _ ?_ ?_ ?_ ?_ ?_) | apply Within.trans ?_ (State.inc_within _ _ ?_)
    | apply Within.trans ?_ (State.auxHiccup_within _ _ ?_ ?_ ?_ ?_ ?_) | apply Within.ite | split | (dsimp only; split)

theorem State.auxClock_within {P : Part → Bool} (s : State) (h_j3 : P .j3 = true) (h_regs : P .regs = true) (h_cad : P .cad = true)
    (h_pwm : P .pwm = true) (h_conv : P .conv = true) :
    Within P s (State.auxClock s) := by
  unfold State.auxClock
  with_reducible repeat' first
    | assumption | exact Within.refl _ _ | apply Within.trans ?_ (State.auxStep_within _ _ _ ?_ ?_ ?_ ?_ ?_)
    | apply Within.trans ?_ (State.updAux_within _ _ ?_) | apply Within.ite

theorem State.hicMark_within {P : Part → Bool} (s : State) (r : Nat) (h_conv : P .conv = true) :
    Within P s (State.hicMark s r) := by
  unfold State.hicMark
  with_reducible repeat' first
    | assumption | exact Within.refl _ _ | apply Within.trans ?_ (State.updAux_within _ _ ?_)

theorem State.auxTick_within {P : Part → Bool} (s : State) (h_regs : P .regs = true) (h_conv : P .conv = true) :
    Within P s (State.auxTick s) := by
  unfold State.auxTick
  with_reducible repeat' first
    | assumption | exact Within.refl _ _ | apply Within.trans ?_ (State.updAux_within _ _ ?_)
    | apply Within.trans ?_ (State.setFld_within _ _ _ ?_)

theorem State.auxWindow_within {P : Part → Bool} (s : State) (w : Closed) (h_free : P .free = true) (h_regs : P .regs = true) :
    Within P s (State.auxWindow s w) := by
  unfold State.auxWindow
  with_reducible repeat' first
    | assumption | exact Within.refl _ _ | apply Within.trans ?_ (State.setNear_within _ _ _ _ _ ?_ ?_) | apply Within.ite

theorem State.auxPeriod_within {P : Part → Bool} (s : State) (h_j3 : P .j3 = true) (h_regs : P .regs = true) (h_cad : P .cad = true)
    (h_pwm : P .pwm = true) (h_conv : P .conv = true) :
    Within P s (State.auxPeriod s) := by
  unfold State.auxPeriod
  with_reducible repeat' first
    | assumption | exact Within.refl _ _ | apply Within.trans ?_ (State.updAux_within _ _ ?_)
    | apply Within.trans ?_ (State.auxCheck_within _ ?_ ?_ ?_ ?_ ?_) | apply Within.trans ?_ (State.auxPhase_within _ _ ?_ ?_)
    | apply Within.trans ?_ (State.auxTo_within _ _ ?_ ?_ ?_ ?_ ?_) | apply Within.trans ?_ (State.convPeriod_within _ _ ?_ ?_ ?_)
    | apply Within.ite

theorem State.convStart_within {P : Part → Bool} (s : State) (g : Nat) (h_j3 : P .j3 = true) (h_regs : P .regs = true)
    (h_cad : P .cad = true) (h_pwm : P .pwm = true) (h_conv : P .conv = true) :
    Within P s (State.convStart s g) := by
  unfold State.convStart
  with_reducible repeat' first
    | assumption | exact Within.refl _ _ | apply Within.trans ?_ (State.auxPeriod_within _ ?_ ?_ ?_ ?_ ?_)
    | apply Within.trans ?_ (State.convPeriod_within _ _ ?_ ?_ ?_) | apply Within.ite

theorem State.chgCfg_within {P : Part → Bool} (s : State) (m : Master) (v : Word) (h_free : P .free = true) (h_resp : P .resp = true)
    (h_j3 : P .j3 = true) (h_regs : P .regs = true) (h_cad : P .cad = true) (h_conv : P .conv = true) :
    Within P s (State.chgCfg s m v) := by
  unfold State.chgCfg
  with_reducible repeat' first
    | assumption | exact Within.refl _ _ | exact Within.id_ _ _
    | apply Within.trans ?_ (State.write_within _ _ _ _ _ ?_ ?_ ?_ ?_ ?_ (fun _ => ?_))
    | apply Within.trans ?_ (State.setFld_within _ _ _ ?_) | apply Within.trans ?_ (State.updChg_within _ _ ?_) | apply Within.ite

theorem State.auxCfg_within {P : Part → Bool} (s : State) (m : Master) (v : Word) (h_free : P .free = true) (h_resp : P .resp = true)
    (h_j3 : P .j3 = true) (h_regs : P .regs = true) (h_cad : P .cad = true) :
    Within P s (State.auxCfg s m v) := by
  unfold State.auxCfg
  with_reducible repeat' first
    | assumption | exact Within.refl _ _ | exact Within.id_ _ _
    | apply Within.trans ?_ (State.write_within _ _ _ _ _ ?_ ?_ ?_ ?_ ?_ (fun _ => ?_))
    | apply Within.trans ?_ (State.wr_within _ _ _ ?_)

theorem execChgEnable_within {P : Part → Bool} (m : Master) (v : Word) (s : State) (h_free : P .free = true) (h_resp : P .resp = true)
    (h_j3 : P .j3 = true) (h_regs : P .regs = true) (h_cad : P .cad = true) (h_conv : P .conv = true) :
    WithinOut P s (execChgEnable m v s) := by
  unfold execChgEnable
  with_reducible repeat' first
    | assumption | exact Within.refl _ _ | apply WithinOut.next
    | apply Within.trans ?_ (State.chgCfg_within _ _ _ ?_ ?_ ?_ ?_ ?_ ?_)

theorem State.cpSettle_within {P : Part → Bool} (s : State) (h_conv : P .conv = true) :
    Within P s (State.cpSettle s) := by
  unfold State.cpSettle
  with_reducible repeat' first
    | assumption | exact Within.refl _ _ | apply Within.trans ?_ (State.updChg_within _ _ ?_) | apply Within.ite | split
    | (dsimp only; split)

theorem execCpEdge_within {P : Part → Bool} (rising : Bool) (s : State) (h_free : P .free = true) (h_regs : P .regs = true)
    (h_conv : P .conv = true) :
    WithinOut P s (execCpEdge rising s) := by
  unfold execCpEdge
  with_reducible repeat' first
    | assumption | exact Within.refl _ _ | apply WithinOut.next | apply Within.trans ?_ (State.cpSettle_within _ ?_)
    | apply Within.trans ?_ (State.updChg_within _ _ ?_) | apply Within.trans ?_ (State.setNear_within _ _ _ _ _ ?_ ?_)
    | apply Within.trans ?_ (State.showAllow_within _ ?_ ?_) | apply Within.trans ?_ (State.setFld_within _ _ _ ?_)
    | apply Within.ite | apply WithinOut.ite | split | (dsimp only; split) | apply Within.elim ?_ (fun _ => ?_)

theorem execCpOscTimeout_within {P : Part → Bool} (s : State) (h_free : P .free = true) (h_regs : P .regs = true)
    (h_conv : P .conv = true) :
    WithinOut P s (execCpOscTimeout s) := by
  unfold execCpOscTimeout
  with_reducible repeat' first
    | assumption | exact Within.refl _ _ | apply WithinOut.next | apply Within.trans ?_ (State.showAllow_within _ ?_ ?_)
    | apply Within.trans ?_ (State.setFld_within _ _ _ ?_) | apply Within.trans ?_ (State.updChg_within _ _ ?_) | apply Within.ite
    | apply WithinOut.ite

theorem execCpCapture_within {P : Part → Bool} (high : Bool) (code : Fin 65536) (s : State) (h_conv : P .conv = true) :
    WithinOut P s (execCpCapture high code s) := by
  unfold execCpCapture
  with_reducible repeat' first
    | assumption | exact Within.refl _ _ | apply WithinOut.next | apply Within.trans ?_ (State.updChg_within _ _ ?_)
    | apply Within.trans ?_ (State.cpSettle_within _ ?_) | apply Within.ite | apply WithinOut.ite | split | (dsimp only; split)

theorem execCpStateChange_within {P : Part → Bool} (s : State) (h_j3 : P .j3 = true) (h_regs : P .regs = true) (h_cad : P .cad = true)
    (h_conv : P .conv = true) :
    WithinOut P s (execCpStateChange s) := by
  unfold execCpStateChange
  with_reducible repeat' first
    | assumption | exact Within.refl _ _ | apply WithinOut.next | apply Within.trans ?_ (State.post_within _ _ _ _ ?_ ?_ ?_)
    | apply Within.trans ?_ (State.evt_within _ _ _ _ ?_) | apply Within.trans ?_ (State.setFld_within _ _ _ ?_)
    | apply Within.trans ?_ (State.cpFault_within _ ?_ ?_ ?_) | apply Within.trans ?_ (State.updChg_within _ _ ?_)
    | apply Within.ite | apply WithinOut.ite

theorem execPpRatingChange_within {P : Part → Bool} (s : State) (h_free : P .free = true) (h_regs : P .regs = true) :
    WithinOut P s (execPpRatingChange s) := by
  unfold execPpRatingChange
  with_reducible repeat' first
    | assumption | exact Within.refl _ _ | apply WithinOut.next | apply Within.trans ?_ (State.showAllow_within _ ?_ ?_)
    | apply Within.trans ?_ (State.evt_within _ _ _ _ ?_) | apply Within.trans ?_ (State.setFld_within _ _ _ ?_) | apply Within.ite
    | apply WithinOut.ite

theorem execHandshakeTimeout_within {P : Part → Bool} (t : Fin 4) (s : State) (h_j3 : P .j3 = true) (h_regs : P .regs = true)
    (h_cad : P .cad = true) (h_conv : P .conv = true) :
    WithinOut P s (execHandshakeTimeout t s) := by
  unfold execHandshakeTimeout
  with_reducible repeat' first
    | assumption | exact Within.refl _ _ | apply WithinOut.next | apply Within.trans ?_ (State.updChg_within _ _ ?_)
    | apply Within.trans ?_ (State.post_within _ _ _ _ ?_ ?_ ?_) | apply Within.trans ?_ (State.evt_within _ _ _ _ ?_)
    | apply Within.trans ?_ (State.opTo_within _ _ _ ?_) | apply Within.ite | apply WithinOut.ite | split | (dsimp only; split)

theorem execGridZeroCrossing_within {P : Part → Bool} (s : State) (h_free : P .free = true) (h_regs : P .regs = true)
    (h_conv : P .conv = true) :
    WithinOut P s (execGridZeroCrossing s) := by
  unfold execGridZeroCrossing
  with_reducible repeat' first
    | assumption | exact Within.refl _ _ | apply WithinOut.next | apply Within.trans ?_ (State.gridCross_within _ ?_ ?_ ?_)

theorem execGridOkSet_within {P : Part → Bool} (s : State) (h_regs : P .regs = true) :
    WithinOut P s (execGridOkSet s) := by
  unfold execGridOkSet
  with_reducible repeat' first
    | assumption | exact Within.refl _ _ | apply WithinOut.next | apply Within.trans ?_ (State.setFld_within _ _ _ ?_)
    | apply Within.ite | apply WithinOut.ite

theorem execGridVoltageTrip_within {P : Part → Bool} (phase : Fin 3) (high : Bool) (s : State) (h_j3 : P .j3 = true)
    (h_regs : P .regs = true) (h_cad : P .cad = true) (h_conv : P .conv = true) :
    WithinOut P s (execGridVoltageTrip phase high s) := by
  unfold execGridVoltageTrip
  with_reducible repeat' first
    | assumption | exact Within.refl _ _ | apply WithinOut.next | apply Within.trans ?_ (State.gridTrip_within _ _ _ ?_ ?_ ?_ ?_)
    | apply Within.ite | apply WithinOut.ite

theorem execGridFrequencyTrip_within {P : Part → Bool} (kind : Fin 3) (s : State) (h_j3 : P .j3 = true) (h_regs : P .regs = true)
    (h_cad : P .cad = true) (h_conv : P .conv = true) :
    WithinOut P s (execGridFrequencyTrip kind s) := by
  unfold execGridFrequencyTrip
  with_reducible repeat' first
    | assumption | exact Within.refl _ _ | apply WithinOut.next | apply Within.trans ?_ (State.gridTrip_within _ _ _ ?_ ?_ ?_ ?_)
    | apply Within.ite | apply WithinOut.ite | split | (dsimp only; split)

theorem execPowerLimitTrip_within {P : Part → Bool} (direction : Bool) (s : State) (h_j3 : P .j3 = true) (h_regs : P .regs = true)
    (h_cad : P .cad = true) (h_conv : P .conv = true) :
    WithinOut P s (execPowerLimitTrip direction s) := by
  unfold execPowerLimitTrip
  with_reducible repeat' first
    | assumption | exact Within.refl _ _ | apply WithinOut.next | apply Within.trans ?_ (State.tripMark_within _ _ ?_)
    | apply Within.trans ?_ (State.post_within _ _ _ _ ?_ ?_ ?_) | apply Within.trans ?_ (State.flt_within _ _ _ _ ?_)
    | apply Within.ite | apply WithinOut.ite

theorem execDriveInterlock_within {P : Part → Bool} (g : Fin 2) (s : State) (h_j3 : P .j3 = true) (h_regs : P .regs = true)
    (h_cad : P .cad = true) (h_pwm : P .pwm = true) (h_safe : P .safe = true) :
    WithinOut P s (execDriveInterlock g s) := by
  unfold execDriveInterlock
  with_reducible repeat' first
    | assumption | exact Within.refl _ _ | apply WithinOut.next | apply Within.trans ?_ (State.raise_within _ _ _ ?_ ?_ ?_ ?_ ?_)
    | apply Within.trans ?_ (State.post_within _ _ _ _ ?_ ?_ ?_) | apply Within.trans ?_ (State.flt_within _ _ _ _ ?_)
    | apply Within.ite | apply WithinOut.ite

theorem execAuxEnable_within {P : Part → Bool} (m : Master) (v : Word) (s : State) (h_free : P .free = true) (h_resp : P .resp = true)
    (h_j3 : P .j3 = true) (h_regs : P .regs = true) (h_cad : P .cad = true) :
    WithinOut P s (execAuxEnable m v s) := by
  unfold execAuxEnable
  with_reducible repeat' first
    | assumption | exact Within.refl _ _ | apply WithinOut.next | apply Within.trans ?_ (State.auxCfg_within _ _ _ ?_ ?_ ?_ ?_ ?_)

theorem execAuxTestPulseEnd_within {P : Part → Bool} (s : State) (h_pwm : P .pwm = true) (h_conv : P .conv = true) :
    WithinOut P s (execAuxTestPulseEnd s) := by
  unfold execAuxTestPulseEnd
  with_reducible repeat' first
    | assumption | exact Within.refl _ _ | apply WithinOut.next | apply Within.trans ?_ (State.auxPhase_within _ _ ?_ ?_)
    | apply Within.trans ?_ (State.updAux_within _ _ ?_) | apply Within.ite | apply WithinOut.ite

theorem execHl21TestStart_within {P : Part → Bool} (s : State) (h_pwm : P .pwm = true) (h_conv : P .conv = true) :
    WithinOut P s (execHl21TestStart s) := by
  unfold execHl21TestStart
  with_reducible repeat' first
    | assumption | exact Within.refl _ _ | apply WithinOut.next | apply Within.trans ?_ (State.auxPhase_within _ _ ?_ ?_)
    | apply Within.ite | apply WithinOut.ite

theorem execAuxSoftStartLimit_within {P : Part → Bool} (s : State) (h_conv : P .conv = true) :
    WithinOut P s (execAuxSoftStartLimit s) := by
  unfold execAuxSoftStartLimit
  with_reducible repeat' first
    | assumption | exact Within.refl _ _ | apply WithinOut.next | apply Within.trans ?_ (State.hicMark_within _ _ ?_)
    | apply Within.ite | apply WithinOut.ite

theorem execAuxSoftStartTimeout_within {P : Part → Bool} (s : State) (h_regs : P .regs = true) (h_conv : P .conv = true) :
    WithinOut P s (execAuxSoftStartTimeout s) := by
  unfold execAuxSoftStartTimeout
  with_reducible repeat' first
    | assumption | exact Within.refl _ _ | apply WithinOut.next | apply Within.trans ?_ (State.hicMark_within _ _ ?_)
    | apply Within.trans ?_ (State.opTo_within _ _ _ ?_) | apply Within.ite | apply WithinOut.ite

theorem execAuxOverload_within {P : Part → Bool} (s : State) (h_conv : P .conv = true) :
    WithinOut P s (execAuxOverload s) := by
  unfold execAuxOverload
  with_reducible repeat' first
    | assumption | exact Within.refl _ _ | apply WithinOut.next | apply Within.trans ?_ (State.hicMark_within _ _ ?_)
    | apply Within.ite | apply WithinOut.ite

theorem execAuxHiccupEnd_within {P : Part → Bool} (s : State) (h_conv : P .conv = true) :
    WithinOut P s (execAuxHiccupEnd s) := by
  unfold execAuxHiccupEnd
  with_reducible repeat' first
    | assumption | exact Within.refl _ _ | apply WithinOut.next | apply Within.trans ?_ (State.updAux_within _ _ ?_)
    | apply Within.ite | apply WithinOut.ite

theorem execAuxRunStable_within {P : Part → Bool} (s : State) (h_regs : P .regs = true) :
    WithinOut P s (execAuxRunStable s) := by
  unfold execAuxRunStable
  with_reducible repeat' first
    | assumption | exact Within.refl _ _ | apply WithinOut.next | apply Within.trans ?_ (State.setFld_within _ _ _ ?_)
    | apply Within.ite | apply WithinOut.ite

theorem State.actCodes_within {P : Part → Bool} (s : State) (n : Nat) (codes : Nat) (h_pwm : P .pwm = true) (h_act : P .act = true) :
    Within P s (State.actCodes s n codes) := by
  unfold State.actCodes
  with_reducible repeat' first
    | assumption | exact Within.refl _ _ | apply Within.trans ?_ (State.updAct_within _ _ _ ?_)
    | apply Within.trans ?_ (State.sendSafe_within _ _ ?_) | apply Within.ite | apply Within.foldl (fun _ _ => ?_) ?_ _

theorem State.actShow_within {P : Part → Bool} (s : State) (n : Nat) (h_regs : P .regs = true) :
    Within P s (State.actShow s n) := by
  unfold State.actShow
  with_reducible repeat' first
    | assumption | exact Within.refl _ _ | apply Within.trans ?_ (State.setFld_within _ _ _ ?_) | apply Within.ite

theorem State.actDrive_within {P : Part → Bool} (s : State) (n : Nat) (h_free : P .free = true) (h_regs : P .regs = true)
    (h_pwm : P .pwm = true) (h_act : P .act = true) :
    Within P s (State.actDrive s n) := by
  unfold State.actDrive
  with_reducible repeat' first
    | assumption | exact Within.refl _ _ | exact Within.id_ _ _ | apply Within.trans ?_ (State.setNear_within _ _ _ _ _ ?_ ?_)
    | apply Within.each (fun _ _ => ?_) _ ?_ | apply Within.trans ?_ (State.setFld_within _ _ _ ?_)
    | apply Within.trans ?_ (State.actCodes_within _ _ _ ?_ ?_) | apply Within.ite | apply Within.foldl (fun _ _ => ?_) ?_ _ | split
    | (dsimp only; split)

theorem State.actTo_within {P : Part → Bool} (s : State) (n : Nat) (new : Nat) (h_free : P .free = true) (h_j3 : P .j3 = true)
    (h_regs : P .regs = true) (h_cad : P .cad = true) (h_pwm : P .pwm = true) (h_act : P .act = true) :
    Within P s (State.actTo s n new) := by
  unfold State.actTo
  with_reducible repeat' first
    | assumption | exact Within.refl _ _ | apply Within.trans ?_ (State.updAct_within _ _ _ ?_)
    | apply Within.trans ?_ (State.setFld_within _ _ _ ?_) | apply Within.trans ?_ (State.post_within _ _ _ _ ?_ ?_ ?_)
    | apply Within.trans ?_ (State.evt_within _ _ _ _ ?_) | apply Within.trans ?_ (State.actCodes_within _ _ _ ?_ ?_)
    | apply Within.trans ?_ (State.actDrive_within _ _ ?_ ?_ ?_ ?_) | apply Within.trans ?_ (State.actShow_within _ _ ?_)
    | apply Within.ite | split | (dsimp only; split)

theorem State.actFault_within {P : Part → Bool} (s : State) (n : Nat) (reason : Nat) (h_free : P .free = true) (h_j3 : P .j3 = true)
    (h_regs : P .regs = true) (h_cad : P .cad = true) (h_pwm : P .pwm = true) (h_safe : P .safe = true) (h_act : P .act = true) :
    Within P s (State.actFault s n reason) := by
  unfold State.actFault
  with_reducible repeat' first
    | assumption | exact Within.refl _ _ | apply Within.trans ?_ (State.setFld_within _ _ _ ?_)
    | apply Within.trans ?_ (State.post_within _ _ _ _ ?_ ?_ ?_) | apply Within.trans ?_ (State.flt_within _ _ _ _ ?_)
    | apply Within.trans ?_ (State.actTo_within _ _ _ ?_ ?_ ?_ ?_ ?_ ?_)
    | apply Within.trans ?_ (State.raise_within _ _ _ ?_ ?_ ?_ ?_ ?_) | apply Within.ite

theorem State.actSense_within {P : Part → Bool} (s : State) (n : Nat) (h_act : P .act = true) :
    Within P s (State.actSense s n) := by
  unfold State.actSense
  with_reducible repeat' first
    | assumption | exact Within.refl _ _ | apply Within.trans ?_ (State.updAct_within _ _ _ ?_)
    | apply Within.foldl (fun _ _ => ?_) ?_ _

theorem State.actEnter_within {P : Part → Bool} (s : State) (n : Nat) (st : Nat) (h_free : P .free = true) (h_j3 : P .j3 = true)
    (h_regs : P .regs = true) (h_cad : P .cad = true) (h_pwm : P .pwm = true) (h_act : P .act = true) :
    Within P s (State.actEnter s n st) := by
  unfold State.actEnter
  with_reducible repeat' first
    | assumption | exact Within.refl _ _ | apply Within.trans ?_ (State.actTo_within _ _ _ ?_ ?_ ?_ ?_ ?_ ?_)
    | apply Within.trans ?_ (State.updAct_within _ _ _ ?_)

theorem State.actStart_within {P : Part → Bool} (s : State) (n : Nat) (st : Nat) (h_free : P .free = true) (h_j3 : P .j3 = true)
    (h_regs : P .regs = true) (h_cad : P .cad = true) (h_pwm : P .pwm = true) (h_act : P .act = true) :
    Within P s (State.actStart s n st) := by
  unfold State.actStart
  with_reducible repeat' first
    | assumption | exact Within.refl _ _ | apply Within.trans ?_ (State.actEnter_within _ _ _ ?_ ?_ ?_ ?_ ?_ ?_)
    | apply Within.trans ?_ (State.actCodes_within _ _ _ ?_ ?_) | apply Within.trans ?_ (State.updAct_within _ _ _ ?_)
    | apply Within.ite

theorem State.actDecide_within {P : Part → Bool} (s : State) (n : Nat) (h_free : P .free = true) (h_j3 : P .j3 = true)
    (h_regs : P .regs = true) (h_cad : P .cad = true) (h_pwm : P .pwm = true) (h_act : P .act = true) :
    Within P s (State.actDecide s n) := by
  unfold State.actDecide
  with_reducible repeat' first
    | assumption | exact Within.refl _ _ | apply Within.trans ?_ (State.actStart_within _ _ _ ?_ ?_ ?_ ?_ ?_ ?_)
    | apply Within.trans ?_ (State.updAct_within _ _ _ ?_) | apply Within.trans ?_ (State.actTo_within _ _ _ ?_ ?_ ?_ ?_ ?_ ?_)
    | apply Within.ite

theorem State.actObserve_within {P : Part → Bool} (s : State) (n : Nat) (h_free : P .free = true) (h_j3 : P .j3 = true)
    (h_regs : P .regs = true) (h_cad : P .cad = true) (h_pwm : P .pwm = true) (h_act : P .act = true) :
    Within P s (State.actObserve s n) := by
  unfold State.actObserve
  with_reducible repeat' first
    | assumption | exact Within.refl _ _ | apply Within.trans ?_ (State.actSense_within _ _ ?_)
    | apply Within.trans ?_ (State.actTo_within _ _ _ ?_ ?_ ?_ ?_ ?_ ?_)
    | apply Within.trans ?_ (State.actDecide_within _ _ ?_ ?_ ?_ ?_ ?_ ?_) | apply Within.ite

theorem State.actFailed_within {P : Part → Bool} (s : State) (n : Nat) (h_free : P .free = true) (h_j3 : P .j3 = true)
    (h_regs : P .regs = true) (h_cad : P .cad = true) (h_pwm : P .pwm = true) (h_safe : P .safe = true) (h_act : P .act = true) :
    Within P s (State.actFailed s n) := by
  unfold State.actFailed
  with_reducible repeat' first
    | assumption | exact Within.refl _ _ | apply Within.trans ?_ (State.setFld_within _ _ _ ?_)
    | apply Within.trans ?_ (State.updAct_within _ _ _ ?_) | apply Within.trans ?_ (State.post_within _ _ _ _ ?_ ?_ ?_)
    | apply Within.trans ?_ (State.evt_within _ _ _ _ ?_) | apply Within.trans ?_ (State.inc_within _ _ ?_)
    | apply Within.trans ?_ (State.actFault_within _ _ _ ?_ ?_ ?_ ?_ ?_ ?_ ?_)
    | apply Within.trans ?_ (State.actTo_within _ _ _ ?_ ?_ ?_ ?_ ?_ ?_) | apply Within.ite

theorem State.actStalled_within {P : Part → Bool} (s : State) (n : Nat) (h_free : P .free = true) (h_j3 : P .j3 = true)
    (h_regs : P .regs = true) (h_cad : P .cad = true) (h_pwm : P .pwm = true) (h_act : P .act = true) :
    Within P s (State.actStalled s n) := by
  unfold State.actStalled
  with_reducible repeat' first
    | assumption | exact Within.refl _ _ | apply Within.trans ?_ (State.evt_within _ _ _ _ ?_)
    | apply Within.trans ?_ (State.inc_within _ _ ?_) | apply Within.trans ?_ (State.setFld_within _ _ _ ?_)
    | apply Within.trans ?_ (State.actTo_within _ _ _ ?_ ?_ ?_ ?_ ?_ ?_)
    | apply Within.trans ?_ (State.post_within _ _ _ _ ?_ ?_ ?_)

theorem State.actArrive_within {P : Part → Bool} (s : State) (n : Nat) (h_free : P .free = true) (h_j3 : P .j3 = true)
    (h_regs : P .regs = true) (h_cad : P .cad = true) (h_pwm : P .pwm = true) (h_act : P .act = true) :
    Within P s (State.actArrive s n) := by
  unfold State.actArrive
  with_reducible repeat' first
    | assumption | exact Within.refl _ _ | apply Within.trans ?_ (State.evt_within _ _ _ _ ?_)
    | apply Within.trans ?_ (State.setFld_within _ _ _ ?_) | apply Within.trans ?_ (State.actTo_within _ _ _ ?_ ?_ ?_ ?_ ?_ ?_)
    | apply Within.ite

theorem State.actStep_within {P : Part → Bool} (s : State) (n : Nat) (back : Bool) (t : Nat) (h_free : P .free = true)
    (h_j3 : P .j3 = true) (h_regs : P .regs = true) (h_cad : P .cad = true) (h_pwm : P .pwm = true) (h_act : P .act = true) :
    Within P s (State.actStep s n back t) := by
  unfold State.actStep
  with_reducible repeat' first
    | assumption | exact Within.refl _ _ | apply Within.trans ?_ (State.setFld_within _ _ _ ?_)
    | apply Within.trans ?_ (State.updAct_within _ _ _ ?_) | apply Within.trans ?_ (State.wr_within _ _ _ ?_)
    | apply Within.trans ?_ (State.actArrive_within _ _ ?_ ?_ ?_ ?_ ?_ ?_)
    | apply Within.trans ?_ (State.actDecide_within _ _ ?_ ?_ ?_ ?_ ?_ ?_) | apply Within.trans ?_ (State.actShow_within _ _ ?_)
    | apply Within.ite

theorem State.actIllegal_within {P : Part → Bool} (s : State) (n : Nat) (h_regs : P .regs = true) (h_act : P .act = true) :
    Within P s (State.actIllegal s n) := by
  unfold State.actIllegal
  with_reducible repeat' first
    | assumption | exact Within.refl _ _ | apply Within.trans ?_ (State.updAct_within _ _ _ ?_)
    | apply Within.trans ?_ (State.inc_within _ _ ?_)

theorem State.actHallTheta_within {P : Part → Bool} (s : State) (n : Nat) (x : Nat) (back : Bool) (h_act : P .act = true) :
    Within P s (State.actHallTheta s n x back) := by
  unfold State.actHallTheta
  with_reducible repeat' first
    | assumption | exact Within.refl _ _ | apply Within.trans ?_ (State.updAct_within _ _ _ ?_)

theorem State.actHall_within {P : Part → Bool} (s : State) (n : Nat) (h : Nat) (h_free : P .free = true) (h_j3 : P .j3 = true)
    (h_regs : P .regs = true) (h_cad : P .cad = true) (h_pwm : P .pwm = true) (h_act : P .act = true) :
    Within P s (State.actHall s n h) := by
  unfold State.actHall
  with_reducible repeat' first
    | assumption | exact Within.refl _ _ | apply Within.trans ?_ (State.updAct_within _ _ _ ?_)
    | apply Within.trans ?_ (State.actIllegal_within _ _ ?_ ?_) | apply Within.trans ?_ (State.setFld_within _ _ _ ?_)
    | apply Within.trans ?_ (State.actHallTheta_within _ _ _ _ ?_)
    | apply Within.trans ?_ (State.actStep_within _ _ _ _ ?_ ?_ ?_ ?_ ?_ ?_) | apply Within.ite

theorem State.actCrossing_within {P : Part → Bool} (s : State) (n : Nat) (ang : Nat) (t : Nat) (h_free : P .free = true)
    (h_j3 : P .j3 = true) (h_regs : P .regs = true) (h_cad : P .cad = true) (h_pwm : P .pwm = true) (h_act : P .act = true) :
    Within P s (State.actCrossing s n ang t) := by
  unfold State.actCrossing
  with_reducible repeat' first
    | assumption | exact Within.refl _ _ | apply Within.trans ?_ (State.updAct_within _ _ _ ?_)
    | apply Within.trans ?_ (State.actStep_within _ _ _ _ ?_ ?_ ?_ ?_ ?_ ?_)
    | apply Within.trans ?_ (State.actEnter_within _ _ _ ?_ ?_ ?_ ?_ ?_ ?_) | apply Within.ite

theorem State.actWatch_within {P : Part → Bool} (s : State) (n : Nat) (ph : Nat) (rising : Bool) (t : Nat) (h_free : P .free = true)
    (h_j3 : P .j3 = true) (h_regs : P .regs = true) (h_cad : P .cad = true) (h_pwm : P .pwm = true) (h_act : P .act = true) :
    Within P s (State.actWatch s n ph rising t) := by
  unfold State.actWatch
  with_reducible repeat' first
    | assumption | exact Within.refl _ _ | apply Within.trans ?_ (State.updAct_within _ _ _ ?_)
    | apply Within.trans ?_ (State.actStep_within _ _ _ _ ?_ ?_ ?_ ?_ ?_ ?_) | apply Within.ite | split | (dsimp only; split)

theorem State.actPhase_within {P : Part → Bool} (s : State) (n : Nat) (ph : Nat) (e : Int) (all : Bool) (counts : Bool)
    (h_free : P .free = true) (h_j3 : P .j3 = true) (h_regs : P .regs = true) (h_cad : P .cad = true) (h_pwm : P .pwm = true)
    (h_act : P .act = true) :
    Within P s (State.actPhase s n ph e all counts) := by
  unfold State.actPhase
  with_reducible repeat' first
    | assumption | exact Within.refl _ _ | apply Within.trans ?_ (State.updAct_within _ _ _ ?_)
    | apply Within.trans ?_ (State.actWatch_within _ _ _ _ _ ?_ ?_ ?_ ?_ ?_ ?_)
    | apply Within.trans ?_ (State.actCrossing_within _ _ _ _ ?_ ?_ ?_ ?_ ?_ ?_) | apply Within.ite

theorem State.actSample_within {P : Part → Bool} (s : State) (n : Nat) (v : List Nat) (h_free : P .free = true) (h_j3 : P .j3 = true)
    (h_regs : P .regs = true) (h_cad : P .cad = true) (h_pwm : P .pwm = true) (h_safe : P .safe = true) (h_act : P .act = true) :
    Within P s (State.actSample s n v) := by
  unfold State.actSample
  with_reducible repeat' first
    | assumption | exact Within.refl _ _ | exact Within.id_ _ _ | apply Within.each (fun _ _ => ?_) _ ?_
    | apply Within.trans ?_ (State.actPhase_within _ _ _ _ _ _ ?_ ?_ ?_ ?_ ?_ ?_)
    | apply Within.trans ?_ (State.setNear_within _ _ _ _ _ ?_ ?_)
    | apply Within.trans ?_ (State.actFault_within _ _ _ ?_ ?_ ?_ ?_ ?_ ?_ ?_) | apply Within.ite
    | apply Within.foldl (fun _ _ => ?_) ?_ _

theorem State.actGo_within {P : Part → Bool} (s : State) (n : Nat) (h_free : P .free = true) (h_j3 : P .j3 = true)
    (h_regs : P .regs = true) (h_cad : P .cad = true) (h_pwm : P .pwm = true) (h_act : P .act = true) :
    Within P s (State.actGo s n) := by
  unfold State.actGo
  with_reducible repeat' first
    | assumption | exact Within.refl _ _ | apply Within.trans ?_ (State.updAct_within _ _ _ ?_)
    | apply Within.trans ?_ (State.setFld_within _ _ _ ?_) | apply Within.trans ?_ (State.actObserve_within _ _ ?_ ?_ ?_ ?_ ?_ ?_)

theorem State.actCommand_within {P : Part → Bool} (s : State) (n : Nat) (w7 : Word) (w1 : Word) (h_free : P .free = true)
    (h_j3 : P .j3 = true) (h_regs : P .regs = true) (h_cad : P .cad = true) (h_pwm : P .pwm = true) (h_act : P .act = true) :
    Within P s (State.actCommand s n w7 w1) := by
  unfold State.actCommand
  with_reducible repeat' first
    | assumption | exact Within.refl _ _ | apply Within.trans ?_ (State.updAct_within _ _ _ ?_)
    | apply Within.trans ?_ (State.setFld_within _ _ _ ?_) | apply Within.trans ?_ (State.post_within _ _ _ _ ?_ ?_ ?_)
    | apply Within.trans ?_ (State.actArrive_within _ _ ?_ ?_ ?_ ?_ ?_ ?_) | apply Within.trans ?_ (State.evt_within _ _ _ _ ?_)
    | apply Within.trans ?_ (State.actTo_within _ _ _ ?_ ?_ ?_ ?_ ?_ ?_)
    | apply Within.trans ?_ (State.actGo_within _ _ ?_ ?_ ?_ ?_ ?_ ?_) | apply Within.ite | split | (dsimp only; split)

theorem State.actEval_within {P : Part → Bool} (s : State) (n : Nat) (h_free : P .free = true) (h_j3 : P .j3 = true)
    (h_regs : P .regs = true) (h_cad : P .cad = true) (h_pwm : P .pwm = true) (h_act : P .act = true) :
    Within P s (State.actEval s n) := by
  unfold State.actEval
  with_reducible repeat' first
    | assumption | exact Within.refl _ _ | apply Within.trans ?_ (State.actTo_within _ _ _ ?_ ?_ ?_ ?_ ?_ ?_)
    | apply Within.trans ?_ (State.updAct_within _ _ _ ?_) | apply Within.trans ?_ (State.setFld_within _ _ _ ?_) | apply Within.ite

theorem State.actTick_within {P : Part → Bool} (s : State) (n : Nat) (h_free : P .free = true) (h_j3 : P .j3 = true)
    (h_regs : P .regs = true) (h_cad : P .cad = true) (h_eng : P .eng = true) (h_pwm : P .pwm = true) (h_act : P .act = true) :
    Within P s (State.actTick s n) := by
  unfold State.actTick
  with_reducible repeat' first
    | assumption | exact Within.refl _ _ | apply Within.trans ?_ (State.updCtx_within _ _ _ ?_)
    | apply Within.trans ?_ (State.actEval_within _ _ ?_ ?_ ?_ ?_ ?_ ?_) | apply Within.trans ?_ (State.updAct_within _ _ _ ?_)
    | apply Within.ite

theorem State.actDue_within {P : Part → Bool} (s : State) (n : Nat) (h_free : P .free = true) (h_j3 : P .j3 = true)
    (h_regs : P .regs = true) (h_cad : P .cad = true) (h_pwm : P .pwm = true) (h_act : P .act = true) :
    Within P s (State.actDue s n) := by
  unfold State.actDue
  with_reducible repeat' first
    | assumption | exact Within.refl _ _ | apply Within.trans ?_ (State.updAct_within _ _ _ ?_)
    | apply Within.trans ?_ (State.actCommand_within _ _ _ _ ?_ ?_ ?_ ?_ ?_ ?_)
    | apply Within.trans ?_ (State.actGo_within _ _ ?_ ?_ ?_ ?_ ?_ ?_) | apply Within.ite

theorem State.actHold_within {P : Part → Bool} (s : State) (n : Nat) (h_act : P .act = true) :
    Within P s (State.actHold s n) := by
  unfold State.actHold
  with_reducible repeat' first
    | assumption | exact Within.refl _ _ | apply Within.trans ?_ (State.updAct_within _ _ _ ?_) | apply Within.ite

theorem State.actClock_within {P : Part → Bool} (s : State) (n : Nat) (h_free : P .free = true) (h_j3 : P .j3 = true)
    (h_regs : P .regs = true) (h_cad : P .cad = true) (h_pwm : P .pwm = true) (h_act : P .act = true) :
    Within P s (State.actClock s n) := by
  unfold State.actClock
  with_reducible repeat' first
    | assumption | exact Within.refl _ _ | apply Within.trans ?_ (State.actDrive_within _ _ ?_ ?_ ?_ ?_)
    | apply Within.trans ?_ (State.actDue_within _ _ ?_ ?_ ?_ ?_ ?_ ?_)
    | apply Within.trans ?_ (State.actEval_within _ _ ?_ ?_ ?_ ?_ ?_ ?_) | apply Within.trans ?_ (State.actHold_within _ _ ?_)

theorem State.actCfg_within {P : Part → Bool} (s : State) (m : Master) (n : Nat) (v : Word) (h_free : P .free = true)
    (h_resp : P .resp = true) (h_j3 : P .j3 = true) (h_regs : P .regs = true) (h_cad : P .cad = true) (h_pwm : P .pwm = true)
    (h_act : P .act = true) :
    Within P s (State.actCfg s m n v) := by
  unfold State.actCfg
  with_reducible repeat' first
    | assumption | exact Within.refl _ _ | exact Within.id_ _ _
    | apply Within.trans ?_ (State.write_within _ _ _ _ _ ?_ ?_ ?_ ?_ ?_ (fun _ => ?_))
    | apply Within.trans ?_ (State.wr_within _ _ _ ?_) | apply Within.trans ?_ (State.actShow_within _ _ ?_)
    | apply Within.trans ?_ (State.actEval_within _ _ ?_ ?_ ?_ ?_ ?_ ?_) | apply Within.trans ?_ (State.updAct_within _ _ _ ?_)

theorem execActEnable_within {P : Part → Bool} (m : Master) (n : Fin 3) (v : Word) (s : State) (h_free : P .free = true)
    (h_resp : P .resp = true) (h_j3 : P .j3 = true) (h_regs : P .regs = true) (h_cad : P .cad = true) (h_pwm : P .pwm = true)
    (h_act : P .act = true) :
    WithinOut P s (execActEnable m n v s) := by
  unfold execActEnable
  with_reducible repeat' first
    | assumption | exact Within.refl _ _ | apply WithinOut.next
    | apply Within.trans ?_ (State.actCfg_within _ _ _ _ ?_ ?_ ?_ ?_ ?_ ?_ ?_)

theorem execActHallEdge_within {P : Part → Bool} (n : Fin 3) (hall : Fin 8) (s : State) (h_free : P .free = true) (h_j3 : P .j3 = true)
    (h_regs : P .regs = true) (h_cad : P .cad = true) (h_pwm : P .pwm = true) (h_act : P .act = true) :
    WithinOut P s (execActHallEdge n hall s) := by
  unfold execActHallEdge
  with_reducible repeat' first
    | assumption | exact Within.refl _ _ | apply WithinOut.next
    | apply Within.trans ?_ (State.actHall_within _ _ _ ?_ ?_ ?_ ?_ ?_ ?_) | apply Within.ite | apply WithinOut.ite

theorem execActHallFault_within {P : Part → Bool} (n : Fin 3) (s : State) (h_free : P .free = true) (h_j3 : P .j3 = true)
    (h_regs : P .regs = true) (h_cad : P .cad = true) (h_pwm : P .pwm = true) (h_safe : P .safe = true) (h_act : P .act = true) :
    WithinOut P s (execActHallFault n s) := by
  unfold execActHallFault
  with_reducible repeat' first
    | assumption | exact Within.refl _ _ | apply WithinOut.next
    | apply Within.trans ?_ (State.actFault_within _ _ _ ?_ ?_ ?_ ?_ ?_ ?_ ?_) | apply Within.ite | apply WithinOut.ite

theorem execActSwSample_within {P : Part → Bool} (n : Fin 3) (a : Fin 4096) (b : Fin 4096) (c : Fin 4096) (s : State)
    (h_free : P .free = true) (h_j3 : P .j3 = true) (h_regs : P .regs = true) (h_cad : P .cad = true) (h_pwm : P .pwm = true)
    (h_safe : P .safe = true) (h_act : P .act = true) :
    WithinOut P s (execActSwSample n a b c s) := by
  unfold execActSwSample
  with_reducible repeat' first
    | assumption | exact Within.refl _ _ | apply WithinOut.next
    | apply Within.trans ?_ (State.actSample_within _ _ _ ?_ ?_ ?_ ?_ ?_ ?_ ?_) | apply Within.ite | apply WithinOut.ite

theorem execActDesync_within {P : Part → Bool} (n : Fin 3) (s : State) (h_free : P .free = true) (h_j3 : P .j3 = true)
    (h_regs : P .regs = true) (h_cad : P .cad = true) (h_pwm : P .pwm = true) (h_safe : P .safe = true) (h_act : P .act = true) :
    WithinOut P s (execActDesync n s) := by
  unfold execActDesync
  with_reducible repeat' first
    | assumption | exact Within.refl _ _ | apply WithinOut.next
    | apply Within.trans ?_ (State.actStalled_within _ _ ?_ ?_ ?_ ?_ ?_ ?_)
    | apply Within.trans ?_ (State.actFailed_within _ _ ?_ ?_ ?_ ?_ ?_ ?_ ?_) | apply Within.trans ?_ (State.inc_within _ _ ?_)
    | apply Within.ite | apply WithinOut.ite

theorem execActSpeedTimeout_within {P : Part → Bool} (n : Fin 3) (s : State) (h_free : P .free = true) (h_j3 : P .j3 = true)
    (h_regs : P .regs = true) (h_cad : P .cad = true) (h_pwm : P .pwm = true) (h_act : P .act = true) :
    WithinOut P s (execActSpeedTimeout n s) := by
  unfold execActSpeedTimeout
  with_reducible repeat' first
    | assumption | exact Within.refl _ _ | apply WithinOut.next | apply Within.trans ?_ (State.updAct_within _ _ _ ?_)
    | apply Within.trans ?_ (State.setFld_within _ _ _ ?_) | apply Within.trans ?_ (State.wr_within _ _ _ ?_)
    | apply Within.trans ?_ (State.actDecide_within _ _ ?_ ?_ ?_ ?_ ?_ ?_) | apply Within.ite | apply WithinOut.ite

theorem execActPrechargeEnd_within {P : Part → Bool} (n : Fin 3) (s : State) (h_free : P .free = true) (h_j3 : P .j3 = true)
    (h_regs : P .regs = true) (h_cad : P .cad = true) (h_pwm : P .pwm = true) (h_act : P .act = true) :
    WithinOut P s (execActPrechargeEnd n s) := by
  unfold execActPrechargeEnd
  with_reducible repeat' first
    | assumption | exact Within.refl _ _ | apply WithinOut.next
    | apply Within.trans ?_ (State.actEnter_within _ _ _ ?_ ?_ ?_ ?_ ?_ ?_) | apply Within.ite | apply WithinOut.ite

theorem execActObserveEnd_within {P : Part → Bool} (n : Fin 3) (s : State) (h_free : P .free = true) (h_j3 : P .j3 = true)
    (h_regs : P .regs = true) (h_cad : P .cad = true) (h_pwm : P .pwm = true) (h_act : P .act = true) :
    WithinOut P s (execActObserveEnd n s) := by
  unfold execActObserveEnd
  with_reducible repeat' first
    | assumption | exact Within.refl _ _ | apply WithinOut.next
    | apply Within.trans ?_ (State.actDecide_within _ _ ?_ ?_ ?_ ?_ ?_ ?_) | apply Within.ite | apply WithinOut.ite

theorem execActRevbrakeEnd_within {P : Part → Bool} (n : Fin 3) (s : State) (h_free : P .free = true) (h_j3 : P .j3 = true)
    (h_regs : P .regs = true) (h_cad : P .cad = true) (h_pwm : P .pwm = true) (h_act : P .act = true) :
    WithinOut P s (execActRevbrakeEnd n s) := by
  unfold execActRevbrakeEnd
  with_reducible repeat' first
    | assumption | exact Within.refl _ _ | apply WithinOut.next
    | apply Within.trans ?_ (State.actObserve_within _ _ ?_ ?_ ?_ ?_ ?_ ?_) | apply Within.ite | apply WithinOut.ite

theorem execActCatchTimeout_within {P : Part → Bool} (n : Fin 3) (s : State) (h_free : P .free = true) (h_j3 : P .j3 = true)
    (h_regs : P .regs = true) (h_cad : P .cad = true) (h_pwm : P .pwm = true) (h_safe : P .safe = true) (h_act : P .act = true) :
    WithinOut P s (execActCatchTimeout n s) := by
  unfold execActCatchTimeout
  with_reducible repeat' first
    | assumption | exact Within.refl _ _ | apply WithinOut.next
    | apply Within.trans ?_ (State.actFault_within _ _ _ ?_ ?_ ?_ ?_ ?_ ?_ ?_) | apply Within.trans ?_ (State.opTo_within _ _ _ ?_)
    | apply Within.ite | apply WithinOut.ite

theorem execActAlignEnd_within {P : Part → Bool} (n : Fin 3) (s : State) (h_free : P .free = true) (h_j3 : P .j3 = true)
    (h_regs : P .regs = true) (h_cad : P .cad = true) (h_pwm : P .pwm = true) (h_act : P .act = true) :
    WithinOut P s (execActAlignEnd n s) := by
  unfold execActAlignEnd
  with_reducible repeat' first
    | assumption | exact Within.refl _ _ | apply WithinOut.next | apply Within.trans ?_ (State.actTo_within _ _ _ ?_ ?_ ?_ ?_ ?_ ?_)
    | apply Within.trans ?_ (State.actSense_within _ _ ?_) | apply Within.ite | apply WithinOut.ite

theorem execActRampEnd_within {P : Part → Bool} (n : Fin 3) (s : State) (h_free : P .free = true) (h_j3 : P .j3 = true)
    (h_regs : P .regs = true) (h_cad : P .cad = true) (h_pwm : P .pwm = true) (h_safe : P .safe = true) (h_act : P .act = true) :
    WithinOut P s (execActRampEnd n s) := by
  unfold execActRampEnd
  with_reducible repeat' first
    | assumption | exact Within.refl _ _ | apply WithinOut.next
    | apply Within.trans ?_ (State.actFailed_within _ _ ?_ ?_ ?_ ?_ ?_ ?_ ?_) | apply Within.ite | apply WithinOut.ite

theorem execActRetryEnd_within {P : Part → Bool} (n : Fin 3) (s : State) (h_free : P .free = true) (h_j3 : P .j3 = true)
    (h_regs : P .regs = true) (h_cad : P .cad = true) (h_pwm : P .pwm = true) (h_act : P .act = true) :
    WithinOut P s (execActRetryEnd n s) := by
  unfold execActRetryEnd
  with_reducible repeat' first
    | assumption | exact Within.refl _ _ | apply WithinOut.next
    | apply Within.trans ?_ (State.actObserve_within _ _ ?_ ?_ ?_ ?_ ?_ ?_) | apply Within.ite | apply WithinOut.ite

theorem execActRunStable_within {P : Part → Bool} (n : Fin 3) (s : State) (h_regs : P .regs = true) (h_act : P .act = true) :
    WithinOut P s (execActRunStable n s) := by
  unfold execActRunStable
  with_reducible repeat' first
    | assumption | exact Within.refl _ _ | apply WithinOut.next | apply Within.trans ?_ (State.updAct_within _ _ _ ?_)
    | apply Within.trans ?_ (State.setFld_within _ _ _ ?_) | apply Within.ite | apply WithinOut.ite

theorem execActStall_within {P : Part → Bool} (n : Fin 3) (s : State) (h_free : P .free = true) (h_j3 : P .j3 = true)
    (h_regs : P .regs = true) (h_cad : P .cad = true) (h_pwm : P .pwm = true) (h_act : P .act = true) :
    WithinOut P s (execActStall n s) := by
  unfold execActStall
  with_reducible repeat' first
    | assumption | exact Within.refl _ _ | apply WithinOut.next
    | apply Within.trans ?_ (State.actStalled_within _ _ ?_ ?_ ?_ ?_ ?_ ?_) | apply Within.ite | apply WithinOut.ite

theorem execActEmfFault_within {P : Part → Bool} (n : Fin 3) (s : State) (h_free : P .free = true) (h_j3 : P .j3 = true)
    (h_regs : P .regs = true) (h_cad : P .cad = true) (h_pwm : P .pwm = true) (h_safe : P .safe = true) (h_act : P .act = true) :
    WithinOut P s (execActEmfFault n s) := by
  unfold execActEmfFault
  with_reducible repeat' first
    | assumption | exact Within.refl _ _ | apply WithinOut.next
    | apply Within.trans ?_ (State.actFault_within _ _ _ ?_ ?_ ?_ ?_ ?_ ?_ ?_) | apply Within.ite | apply WithinOut.ite

theorem execActZero_within {P : Part → Bool} (m : Master) (n : Fin 3) (s : State) (h_free : P .free = true) (h_resp : P .resp = true)
    (h_j3 : P .j3 = true) (h_regs : P .regs = true) (h_cad : P .cad = true) :
    WithinOut P s (execActZero m n s) := by
  unfold execActZero
  with_reducible repeat' first
    | assumption | exact Within.refl _ _ | exact Within.id_ _ _ | apply WithinOut.next
    | apply Within.trans ?_ (State.write_within _ _ _ _ _ ?_ ?_ ?_ ?_ ?_ (fun _ => ?_))
    | apply Within.trans ?_ (State.actShow_within _ _ ?_) | apply Within.trans ?_ (State.setFld_within _ _ _ ?_)
    | apply Within.trans ?_ (State.wr_within _ _ _ ?_) | apply Within.ite | apply WithinOut.ite

theorem execParkSlip_within {P : Part → Bool} (n : Fin 3) (s : State) (h_j3 : P .j3 = true) (h_regs : P .regs = true)
    (h_cad : P .cad = true) (h_pwm : P .pwm = true) (h_safe : P .safe = true) :
    WithinOut P s (execParkSlip n s) := by
  unfold execParkSlip
  with_reducible repeat' first
    | assumption | exact Within.refl _ _ | apply WithinOut.next | apply Within.trans ?_ (State.raise_within _ _ _ ?_ ?_ ?_ ?_ ?_)
    | apply Within.trans ?_ (State.post_within _ _ _ _ ?_ ?_ ?_) | apply Within.trans ?_ (State.flt_within _ _ _ _ ?_)
    | apply Within.ite | apply WithinOut.ite

theorem State.mbxCheck_within {P : Part → Bool} (a0 : State) (m : Master) (c : Nat) (addr : Nat) (errs : List (Bool × ErrKind))
    (eff : State → State) (h_free : P .free = true) (h_resp : P .resp = true) (h_j3 : P .j3 = true) (h_regs : P .regs = true)
    (h_cad : P .cad = true) (h5 : ∀ s, Within P s (eff s)) :
    Within P a0 (State.mbxCheck a0 m c addr errs eff) := by
  unfold State.mbxCheck
  with_reducible repeat' first
    | assumption | exact Within.refl _ _ | apply Within.trans ?_ (State.errResp_within _ _ _ _ _ ?_ ?_ ?_ ?_)
    | apply Within.trans ?_ (State.okResp_within _ _ ?_) | apply Within.trans ?_ (State.errOneOf_within _ _ _ _ _ ?_ ?_ ?_ ?_ ?_)
    | apply Within.trans ?_ (State.inc_within _ _ ?_) | apply Within.trans ?_ (h5 _) | apply Within.ite | split
    | (dsimp only; split)

theorem State.mbxWrite_within {P : Part → Bool} (s : State) (m : Master) (c : Nat) (k : Nat) (v : Word) (h_free : P .free = true)
    (h_resp : P .resp = true) (h_j3 : P .j3 = true) (h_regs : P .regs = true) (h_cad : P .cad = true) (h_drl : P .drl = true) :
    Within P s (State.mbxWrite s m c k v) := by
  unfold State.mbxWrite
  with_reducible repeat' first
    | assumption | exact Within.refl _ _ | exact Within.id_ _ _
    | apply Within.trans ?_ (State.mbxCheck_within _ _ _ _ _ _ ?_ ?_ ?_ ?_ ?_ (fun _ => ?_))
    | apply Within.trans ?_ (State.wr_within _ _ _ ?_) | apply Within.ite | apply Within.drl ?_ ?_ _

theorem State.mbxCommit_within {P : Part → Bool} (s : State) (c : Nat) (epoch : Nat) (h_regs : P .regs = true) :
    Within P s (State.mbxCommit s c epoch) := by
  unfold State.mbxCommit
  with_reducible repeat' first
    | assumption | exact Within.refl _ _ | exact Within.id_ _ _ | apply Within.trans ?_ (State.setFld_within _ _ _ ?_)
    | apply Within.trans ?_ (State.stale_within _ _ _ ?_) | apply Within.each (fun _ _ => ?_) _ ?_
    | apply Within.trans ?_ (State.wr_within _ _ _ ?_) | apply Within.ite

theorem State.mbxSwap_within {P : Part → Bool} (s : State) (c : Nat) (h_regs : P .regs = true) :
    Within P s (State.mbxSwap s c) := by
  unfold State.mbxSwap
  with_reducible repeat' first
    | assumption | exact Within.refl _ _ | exact Within.id_ _ _ | apply Within.trans ?_ (State.setFld_within _ _ _ ?_)
    | apply Within.each (fun _ _ => ?_) _ ?_ | apply Within.trans ?_ (State.wr_within _ _ _ ?_) | apply Within.ite

theorem State.updDrl_within {P : Part → Bool} (s : State) (f : Drl → Drl) (h_drl : P .drl = true) :
    Within P s (State.updDrl s f) := by
  unfold State.updDrl
  with_reducible repeat' first
    | assumption | exact Within.refl _ _ | apply Within.drl ?_ ?_ _

theorem State.drlPut_within {P : Part → Bool} (s : State) (c : Nat) (k : Nat) (v : Word) (h_regs : P .regs = true) (h_drl : P .drl = true) :
    Within P s (State.drlPut s c k v) := by
  unfold State.drlPut
  with_reducible repeat' first
    | assumption | exact Within.refl _ _ | apply Within.trans ?_ (State.wr_within _ _ _ ?_)
    | apply Within.trans ?_ (State.updDrl_within _ _ ?_) | apply Within.ite

theorem State.drlSet_within {P : Part → Bool} (s : State) (i : Nat) (k : Nat) (v : Word) (h_regs : P .regs = true) (h_drl : P .drl = true) :
    Within P s (State.drlSet s i k v) := by
  unfold State.drlSet
  with_reducible repeat' first
    | assumption | exact Within.refl _ _ | apply Within.trans ?_ (State.drlPut_within _ _ _ _ ?_ ?_)
    | apply Within.trans ?_ (State.updDrl_within _ _ ?_)

theorem State.drlRamp_within {P : Part → Bool} (s : State) (rate : Word) (target : Nat → Nat → Word) (h_regs : P .regs = true)
    (h_drl : P .drl = true) :
    Within P s (State.drlRamp s rate target) := by
  unfold State.drlRamp
  with_reducible repeat' first
    | assumption | exact Within.refl _ _ | exact Within.id_ _ _ | apply Within.each (fun _ _ => ?_) _ ?_
    | apply Within.trans ?_ (State.drlSet_within _ _ _ _ ?_ ?_)

theorem State.drlTol_within {P : Part → Bool} (s : State) (h_drl : P .drl = true) :
    Within P s (State.drlTol s) := by
  unfold State.drlTol
  with_reducible repeat' first
    | assumption | exact Within.refl _ _ | apply Within.trans ?_ (State.updDrl_within _ _ ?_) | apply Within.ite

theorem State.drlSync_within {P : Part → Bool} (s : State) (h_regs : P .regs = true) (h_drl : P .drl = true) :
    Within P s (State.drlSync s) := by
  unfold State.drlSync
  with_reducible repeat' first
    | assumption | exact Within.refl _ _ | exact Within.id_ _ _ | apply Within.trans ?_ (State.drlTol_within _ ?_)
    | apply Within.each (fun _ _ => ?_) _ ?_ | apply Within.trans ?_ (State.drlSet_within _ _ _ _ ?_ ?_) | apply Within.ite | split
    | (dsimp only; split)

theorem State.drlMove_within {P : Part → Bool} (s : State) (sp7 : Word) (sp1 : Word) (h_regs : P .regs = true) (h_drl : P .drl = true) :
    Within P s (State.drlMove s sp7 sp1) := by
  unfold State.drlMove
  with_reducible repeat' first
    | assumption | exact Within.refl _ _ | apply Within.trans ?_ (State.drlPut_within _ _ _ _ ?_ ?_)

theorem State.drlEnd_within {P : Part → Bool} (s : State) (result : Nat) (h_j3 : P .j3 = true) (h_regs : P .regs = true)
    (h_cad : P .cad = true) :
    Within P s (State.drlEnd s result) := by
  unfold State.drlEnd
  with_reducible repeat' first
    | assumption | exact Within.refl _ _ | exact Within.id_ _ _ | apply Within.trans ?_ (State.setFld_within _ _ _ ?_)
    | apply Within.trans ?_ (State.evt_within _ _ _ _ ?_) | apply Within.when (fun _ => ?_) ?_
    | apply Within.trans ?_ (State.post_within _ _ _ _ ?_ ?_ ?_)

theorem State.drlEnter_within {P : Part → Bool} (s : State) (k : Nat) (h_j3 : P .j3 = true) (h_regs : P .regs = true)
    (h_cad : P .cad = true) (h_drl : P .drl = true) :
    Within P s (State.drlEnter s k) := by
  unfold State.drlEnter
  with_reducible repeat' first
    | assumption | exact Within.refl _ _ | apply Within.trans ?_ (State.setFld_within _ _ _ ?_)
    | apply Within.trans ?_ (State.updDrl_within _ _ ?_) | apply Within.trans ?_ (State.post_within _ _ _ _ ?_ ?_ ?_)
    | apply Within.trans ?_ (State.drlEnd_within _ _ ?_ ?_ ?_) | apply Within.ite

theorem State.drlNeutral_within {P : Part → Bool} (s : State) (result : Nat) (h_j3 : P .j3 = true) (h_regs : P .regs = true)
    (h_cad : P .cad = true) (h_drl : P .drl = true) :
    Within P s (State.drlNeutral s result) := by
  unfold State.drlNeutral
  with_reducible repeat' first
    | assumption | exact Within.refl _ _ | exact Within.id_ _ _ | apply Within.each (fun _ _ => ?_) _ ?_
    | apply Within.trans ?_ (State.drlSet_within _ _ _ _ ?_ ?_) | apply Within.trans ?_ (State.drlEnd_within _ _ ?_ ?_ ?_)
    | apply Within.trans ?_ (State.drlPut_within _ _ _ _ ?_ ?_)

theorem State.drlFallback_within {P : Part → Bool} (s : State) (fb : Nat) (reason : Nat) (h_j3 : P .j3 = true) (h_regs : P .regs = true)
    (h_cad : P .cad = true) (h_pwm : P .pwm = true) (h_safe : P .safe = true) (h_drl : P .drl = true) :
    Within P s (State.drlFallback s fb reason) := by
  unfold State.drlFallback
  with_reducible repeat' first
    | assumption | exact Within.refl _ _ | apply Within.trans ?_ (State.post_within _ _ _ _ ?_ ?_ ?_)
    | apply Within.trans ?_ (State.evt_within _ _ _ _ ?_) | apply Within.trans ?_ (State.setFld_within _ _ _ ?_)
    | apply Within.trans ?_ (State.drlNeutral_within _ _ ?_ ?_ ?_ ?_)
    | apply Within.trans ?_ (State.drlEnter_within _ _ ?_ ?_ ?_ ?_) | apply Within.trans ?_ (State.updDrl_within _ _ ?_)
    | apply Within.trans ?_ (State.flt_within _ _ _ _ ?_) | apply Within.trans ?_ (State.raise_within _ _ _ ?_ ?_ ?_ ?_ ?_)
    | apply Within.ite | split | (dsimp only; split)

theorem State.drlWrite_within {P : Part → Bool} (s : State) (h_regs : P .regs = true) (h_drl : P .drl = true) :
    Within P s (State.drlWrite s) := by
  unfold State.drlWrite
  with_reducible repeat' first
    | assumption | exact Within.refl _ _ | exact Within.id_ _ _ | apply Within.each (fun _ _ => ?_) _ ?_
    | apply Within.trans ?_ (State.drlSet_within _ _ _ _ ?_ ?_) | apply Within.trans ?_ (State.drlMove_within _ _ _ ?_ ?_)
    | apply Within.trans ?_ (State.drlRamp_within _ _ _ ?_ ?_) | apply Within.trans ?_ (State.drlSync_within _ ?_ ?_)
    | apply Within.ite | split | (dsimp only; split)

theorem State.drlCommit_within {P : Part → Bool} (s : State) (h_regs : P .regs = true) (h_drl : P .drl = true) :
    Within P s (State.drlCommit s) := by
  unfold State.drlCommit
  with_reducible repeat' first
    | assumption | exact Within.refl _ _ | exact Within.id_ _ _ | apply Within.each (fun _ _ => ?_) _ ?_
    | apply Within.trans ?_ (State.updDrl_within _ _ ?_) | apply Within.trans ?_ (State.mbxCommit_within _ _ _ ?_)
    | apply Within.elim ?_ (fun _ => ?_)

theorem State.drlRestore_within {P : Part → Bool} (s : State) (h_j3 : P .j3 = true) (h_regs : P .regs = true) (h_cad : P .cad = true)
    (h_pwm : P .pwm = true) (h_safe : P .safe = true) (h_drl : P .drl = true) :
    Within P s (State.drlRestore s) := by
  unfold State.drlRestore
  with_reducible repeat' first
    | assumption | exact Within.refl _ _ | apply Within.trans ?_ (State.updDrl_within _ _ ?_)
    | apply Within.trans ?_ (State.drlFallback_within _ _ _ ?_ ?_ ?_ ?_ ?_ ?_)
    | apply Within.trans ?_ (State.drlEnd_within _ _ ?_ ?_ ?_) | apply Within.ite

theorem State.drlTick_within {P : Part → Bool} (s : State) (h_j3 : P .j3 = true) (h_regs : P .regs = true) (h_cad : P .cad = true)
    (h_pwm : P .pwm = true) (h_safe : P .safe = true) (h_drl : P .drl = true) :
    Within P s (State.drlTick s) := by
  unfold State.drlTick
  with_reducible repeat' first
    | assumption | exact Within.refl _ _ | apply Within.trans ?_ (State.drlTol_within _ ?_)
    | apply Within.trans ?_ (State.drlEnd_within _ _ ?_ ?_ ?_)
    | apply Within.trans ?_ (State.drlFallback_within _ _ _ ?_ ?_ ?_ ?_ ?_ ?_) | apply Within.trans ?_ (State.updDrl_within _ _ ?_)
    | apply Within.trans ?_ (State.drlRestore_within _ ?_ ?_ ?_ ?_ ?_ ?_)
    | apply Within.trans ?_ (State.drlEnter_within _ _ ?_ ?_ ?_ ?_) | apply Within.trans ?_ (State.drlCommit_within _ ?_ ?_)
    | apply Within.trans ?_ (State.drlWrite_within _ ?_ ?_) | apply Within.ite

theorem State.drlClock_within {P : Part → Bool} (s : State) (h_j3 : P .j3 = true) (h_regs : P .regs = true) (h_cad : P .cad = true)
    (h_pwm : P .pwm = true) (h_safe : P .safe = true) (h_drl : P .drl = true) :
    Within P s (State.drlClock s) := by
  unfold State.drlClock
  with_reducible repeat' first
    | assumption | exact Within.refl _ _ | apply Within.trans ?_ (State.drlTick_within _ ?_ ?_ ?_ ?_ ?_ ?_)
    | apply Within.trans ?_ (State.updDrl_within _ _ ?_) | apply Within.trans ?_ (State.setFld_within _ _ _ ?_) | apply Within.ite

theorem State.drlGo_within {P : Part → Bool} (s : State) (m : Master) (start : Nat) (h_free : P .free = true) (h_resp : P .resp = true)
    (h_j3 : P .j3 = true) (h_regs : P .regs = true) (h_cad : P .cad = true) (h_drl : P .drl = true) :
    Within P s (State.drlGo s m start) := by
  unfold State.drlGo
  with_reducible repeat' first
    | assumption | exact Within.refl _ _ | exact Within.id_ _ _
    | apply Within.trans ?_ (State.write_within _ _ _ _ _ ?_ ?_ ?_ ?_ ?_ (fun _ => ?_))
    | apply Within.trans ?_ (State.setFld_within _ _ _ ?_) | apply Within.trans ?_ (State.wr_within _ _ _ ?_)
    | apply Within.each (fun _ _ => ?_) _ ?_ | apply Within.trans ?_ (State.drlEnter_within _ _ ?_ ?_ ?_ ?_) | apply Within.ite
    | apply Within.foldl (fun _ _ => ?_) ?_ _ | apply Within.drl ?_ ?_ _

theorem execMailboxWordWrite_within {P : Part → Bool} (m : Master) (c : Fin 160) (k : Fin 8) (v : Word) (s : State)
    (h_free : P .free = true) (h_resp : P .resp = true) (h_j3 : P .j3 = true) (h_regs : P .regs = true) (h_cad : P .cad = true)
    (h_drl : P .drl = true) :
    WithinOut P s (execMailboxWordWrite m c k v s) := by
  unfold execMailboxWordWrite
  with_reducible repeat' first
    | assumption | exact Within.refl _ _ | apply WithinOut.next
    | apply Within.trans ?_ (State.mbxWrite_within _ _ _ _ _ ?_ ?_ ?_ ?_ ?_ ?_)

theorem execMailboxCommit_within {P : Part → Bool} (m : Master) (c : Fin 160) (epoch : Fin 256) (s : State) (h_free : P .free = true)
    (h_resp : P .resp = true) (h_j3 : P .j3 = true) (h_regs : P .regs = true) (h_cad : P .cad = true) :
    WithinOut P s (execMailboxCommit m c epoch s) := by
  unfold execMailboxCommit
  with_reducible repeat' first
    | assumption | exact Within.refl _ _ | exact Within.id_ _ _ | apply WithinOut.next
    | apply Within.trans ?_ (State.mbxCheck_within _ _ _ _ _ _ ?_ ?_ ?_ ?_ ?_ (fun _ => ?_))
    | apply Within.trans ?_ (State.mbxCommit_within _ _ _ ?_)

theorem execShiftGo_within {P : Part → Bool} (m : Master) (start : Fin 8) (s : State) (h_free : P .free = true) (h_resp : P .resp = true)
    (h_j3 : P .j3 = true) (h_regs : P .regs = true) (h_cad : P .cad = true) (h_drl : P .drl = true) :
    WithinOut P s (execShiftGo m start s) := by
  unfold execShiftGo
  with_reducible repeat' first
    | assumption | exact Within.refl _ _ | apply WithinOut.next | apply Within.trans ?_ (State.drlGo_within _ _ _ ?_ ?_ ?_ ?_ ?_ ?_)

theorem execShiftAbort_within {P : Part → Bool} (m : Master) (s : State) (h_free : P .free = true) (h_resp : P .resp = true)
    (h_j3 : P .j3 = true) (h_regs : P .regs = true) (h_cad : P .cad = true) (h_drl : P .drl = true) :
    WithinOut P s (execShiftAbort m s) := by
  unfold execShiftAbort
  with_reducible repeat' first
    | assumption | exact Within.refl _ _ | exact Within.id_ _ _ | apply WithinOut.next
    | apply Within.trans ?_ (State.write_within _ _ _ _ _ ?_ ?_ ?_ ?_ ?_ (fun _ => ?_))
    | apply Within.trans ?_ (State.updDrl_within _ _ ?_) | apply Within.ite | apply WithinOut.ite

theorem execShiftStepTimeout_within {P : Part → Bool} (s : State) (h_regs : P .regs = true) (h_drl : P .drl = true) :
    WithinOut P s (execShiftStepTimeout s) := by
  unfold execShiftStepTimeout
  with_reducible repeat' first
    | assumption | exact Within.refl _ _ | apply WithinOut.next | apply Within.trans ?_ (State.updDrl_within _ _ ?_)
    | apply Within.trans ?_ (State.opTo_within _ _ _ ?_) | apply Within.ite | apply WithinOut.ite

theorem State.updTnd_within {P : Part → Bool} (s : State) (p : Nat) (f : TndRec → TndRec) (h_tnd : P .tnd = true) :
    Within P s (State.updTnd s p f) := by
  unfold State.updTnd
  with_reducible repeat' first
    | assumption | exact Within.refl _ _ | apply Within.tnd ?_ ?_ _

theorem State.setPair_within {P : Part → Bool} (s : State) (p : Nat) (st : Nat) (h_regs : P .regs = true) :
    Within P s (State.setPair s p st) := by
  unfold State.setPair
  with_reducible repeat' first
    | assumption | exact Within.refl _ _ | apply Within.trans ?_ (State.setFld_within _ _ _ ?_)

theorem State.pairCause_within {P : Part → Bool} (s : State) (p : Nat) (cause : Nat) (kind : Nat) (h_j3 : P .j3 = true)
    (h_regs : P .regs = true) (h_cad : P .cad = true) (h_pwm : P .pwm = true) (h_safe : P .safe = true) :
    Within P s (State.pairCause s p cause kind) := by
  unfold State.pairCause
  with_reducible repeat' first
    | assumption | exact Within.refl _ _ | apply Within.trans ?_ (State.post_within _ _ _ _ ?_ ?_ ?_)
    | apply Within.trans ?_ (State.flt_within _ _ _ _ ?_) | apply Within.trans ?_ (State.setFld_within _ _ _ ?_)
    | apply Within.trans ?_ (State.raise_within _ _ _ ?_ ?_ ?_ ?_ ?_)

theorem State.showDbg_within {P : Part → Bool} (s : State) (p : Nat) (h_regs : P .regs = true) :
    Within P s (State.showDbg s p) := by
  unfold State.showDbg
  with_reducible repeat' first
    | assumption | exact Within.refl _ _ | apply Within.trans ?_ (State.setFld_within _ _ _ ?_) | apply Within.ite

theorem State.mismatch_within {P : Part → Bool} (s : State) (p : Nat) (kind : Nat) (word : Nat) (addr : Word) (write : Bool)
    (h_j3 : P .j3 = true) (h_regs : P .regs = true) (h_cad : P .cad = true) (h_pwm : P .pwm = true) (h_safe : P .safe = true)
    (h_tnd : P .tnd = true) :
    Within P s (State.mismatch s p kind word addr write) := by
  unfold State.mismatch
  with_reducible repeat' first
    | assumption | exact Within.refl _ _ | apply Within.trans ?_ (State.setFld_within _ _ _ ?_)
    | apply Within.trans ?_ (State.wr_within _ _ _ ?_) | apply Within.trans ?_ (State.updTnd_within _ _ _ ?_)
    | apply Within.trans ?_ (State.pairCause_within _ _ _ _ ?_ ?_ ?_ ?_ ?_) | apply Within.trans ?_ (State.showDbg_within _ _ ?_)
    | apply Within.trans ?_ (State.setPair_within _ _ _ ?_) | apply Within.ite

theorem State.fold_within {P : Part → Bool} (s : State) (p : Nat) (diff : Option (Fin 100)) (h_j3 : P .j3 = true)
    (h_regs : P .regs = true) (h_cad : P .cad = true) (h_pwm : P .pwm = true) (h_safe : P .safe = true) (h_tnd : P .tnd = true) :
    Within P s (State.fold s p diff) := by
  unfold State.fold
  with_reducible repeat' first
    | assumption | exact Within.refl _ _ | apply Within.trans ?_ (State.updTnd_within _ _ _ ?_)
    | apply Within.trans ?_ (State.inc_within _ _ ?_) | apply Within.trans ?_ (State.mismatch_within _ _ _ _ _ _ ?_ ?_ ?_ ?_ ?_ ?_)
    | split | (dsimp only; split)

theorem State.stopPair_within {P : Part → Bool} (s : State) (p : Nat) (h_j3 : P .j3 = true) (h_regs : P .regs = true)
    (h_cad : P .cad = true) (h_pwm : P .pwm = true) (h_safe : P .safe = true) :
    Within P s (State.stopPair s p) := by
  unfold State.stopPair
  with_reducible repeat' first
    | assumption | exact Within.refl _ _ | apply Within.trans ?_ (State.pairCause_within _ _ _ _ ?_ ?_ ?_ ?_ ?_)
    | apply Within.trans ?_ (State.setPair_within _ _ _ ?_)

theorem State.restartPair_within {P : Part → Bool} (s : State) (p : Nat) (target : Nat) (h_regs : P .regs = true) (h_tnd : P .tnd = true) :
    Within P s (State.restartPair s p target) := by
  unfold State.restartPair
  with_reducible repeat' first
    | assumption | exact Within.refl _ _ | apply Within.trans ?_ (State.updTnd_within _ _ _ ?_)
    | apply Within.trans ?_ (State.setPair_within _ _ _ ?_)

theorem State.verdict_within {P : Part → Bool} (s : State) (p : Nat) (v : Nat) (blk : Nat) (mac : Nat) (h_j3 : P .j3 = true)
    (h_regs : P .regs = true) (h_cad : P .cad = true) (h_pwm : P .pwm = true) (h_safe : P .safe = true) (h_tnd : P .tnd = true) :
    Within P s (State.verdict s p v blk mac) := by
  unfold State.verdict
  with_reducible repeat' first
    | assumption | exact Within.refl _ _ | apply Within.trans ?_ (State.post_within _ _ _ _ ?_ ?_ ?_)
    | apply Within.trans ?_ (State.evt_within _ _ _ _ ?_) | apply Within.trans ?_ (State.setFld_within _ _ _ ?_)
    | apply Within.trans ?_ (State.inc_within _ _ ?_) | apply Within.trans ?_ (State.restartPair_within _ _ _ ?_ ?_)
    | apply Within.trans ?_ (State.stopPair_within _ _ ?_ ?_ ?_ ?_ ?_) | apply Within.ite | split | (dsimp only; split)

theorem State.bothPass_within {P : Part → Bool} (s : State) (p : Nat) (h_j3 : P .j3 = true) (h_regs : P .regs = true)
    (h_cad : P .cad = true) (h_pwm : P .pwm = true) (h_safe : P .safe = true) (h_tnd : P .tnd = true) :
    Within P s (State.bothPass s p) := by
  unfold State.bothPass
  with_reducible repeat' first
    | assumption | exact Within.refl _ _ | apply Within.trans ?_ (State.verdict_within _ _ _ _ _ ?_ ?_ ?_ ?_ ?_ ?_)
    | apply Within.trans ?_ (State.updTnd_within _ _ _ ?_) | apply Within.ite

theorem State.abandonSplit_within {P : Part → Bool} (s : State) (p : Nat) (h_j3 : P .j3 = true) (h_regs : P .regs = true)
    (h_cad : P .cad = true) :
    Within P s (State.abandonSplit s p) := by
  unfold State.abandonSplit
  with_reducible repeat' first
    | assumption | exact Within.refl _ _ | apply Within.trans ?_ (State.post_within _ _ _ _ ?_ ?_ ?_)
    | apply Within.trans ?_ (State.evt_within _ _ _ _ ?_) | apply Within.trans ?_ (State.setPair_within _ _ _ ?_)

theorem State.abandonRejoin_within {P : Part → Bool} (s : State) (p : Nat) (diff : Bool) (h_j3 : P .j3 = true) (h_regs : P .regs = true)
    (h_cad : P .cad = true) (h_tnd : P .tnd = true) :
    Within P s (State.abandonRejoin s p diff) := by
  unfold State.abandonRejoin
  with_reducible repeat' first
    | assumption | exact Within.refl _ _ | apply Within.trans ?_ (State.updTnd_within _ _ _ ?_)
    | apply Within.trans ?_ (State.setPair_within _ _ _ ?_) | apply Within.trans ?_ (State.post_within _ _ _ _ ?_ ?_ ?_)
    | apply Within.trans ?_ (State.evt_within _ _ _ _ ?_)

theorem State.tndClock_within {P : Part → Bool} (s : State) (p : Nat) (h_j3 : P .j3 = true) (h_regs : P .regs = true)
    (h_cad : P .cad = true) (h_pwm : P .pwm = true) (h_safe : P .safe = true) :
    Within P s (State.tndClock s p) := by
  unfold State.tndClock
  with_reducible repeat' first
    | assumption | exact Within.refl _ _ | apply Within.trans ?_ (State.pairCause_within _ _ _ _ ?_ ?_ ?_ ?_ ?_)
    | apply Within.trans ?_ (State.setFld_within _ _ _ ?_) | apply Within.ite

theorem State.haltPair_within {P : Part → Bool} (s : State) (p : Nat) (diff : Option (Fin 100)) (h_j3 : P .j3 = true)
    (h_regs : P .regs = true) (h_cad : P .cad = true) (h_pwm : P .pwm = true) (h_safe : P .safe = true) (h_tnd : P .tnd = true) :
    Within P s (State.haltPair s p diff) := by
  unfold State.haltPair
  with_reducible repeat' first
    | assumption | exact Within.refl _ _ | apply Within.trans ?_ (State.post_within _ _ _ _ ?_ ?_ ?_)
    | apply Within.trans ?_ (State.showDbg_within _ _ ?_) | apply Within.trans ?_ (State.setFld_within _ _ _ ?_)
    | apply Within.trans ?_ (State.fold_within _ _ _ ?_ ?_ ?_ ?_ ?_ ?_)
    | apply Within.trans ?_ (State.tndClock_within _ _ ?_ ?_ ?_ ?_ ?_) | apply Within.ite

theorem State.resumePair_within {P : Part → Bool} (s : State) (p : Nat) (diff : Option (Fin 100)) (h_j3 : P .j3 = true)
    (h_regs : P .regs = true) (h_cad : P .cad = true) (h_pwm : P .pwm = true) (h_safe : P .safe = true) (h_tnd : P .tnd = true) :
    Within P s (State.resumePair s p diff) := by
  unfold State.resumePair
  with_reducible repeat' first
    | assumption | exact Within.refl _ _ | apply Within.trans ?_ (State.updTnd_within _ _ _ ?_)
    | apply Within.trans ?_ (State.post_within _ _ _ _ ?_ ?_ ?_) | apply Within.trans ?_ (State.showDbg_within _ _ ?_)
    | apply Within.trans ?_ (State.setFld_within _ _ _ ?_) | apply Within.trans ?_ (State.tndClock_within _ _ ?_ ?_ ?_ ?_ ?_)
    | apply Within.trans ?_ (State.fold_within _ _ _ ?_ ?_ ?_ ?_ ?_ ?_) | apply Within.ite

theorem State.dbgWrite_within {P : Part → Bool} (s : State) (p : Nat) (reg : Nat) (v : Word) (h_resp : P .resp = true)
    (h_regs : P .regs = true) (h_tnd : P .tnd = true) :
    Within P s (State.dbgWrite s p reg v) := by
  unfold State.dbgWrite
  with_reducible repeat' first
    | assumption | exact Within.refl _ _ | apply Within.trans ?_ (State.okResp_within _ _ ?_)
    | apply Within.trans ?_ (State.showDbg_within _ _ ?_) | apply Within.trans ?_ (State.updTnd_within _ _ _ ?_) | apply Within.ite
    | apply Within.resp ?_ ?_ _

theorem State.tndSecond_within {P : Part → Bool} (s : State) (p : Nat) (h_regs : P .regs = true) :
    Within P s (State.tndSecond s p) := by
  unfold State.tndSecond
  with_reducible repeat' first
    | assumption | exact Within.refl _ _ | apply Within.trans ?_ (State.setFld_within _ _ _ ?_) | apply Within.ite

theorem execGateMismatch_within {P : Part → Bool} (p : Fin 2) (addr : Word) (write : Bool) (fold : Option (Fin 100)) (s : State)
    (h_j3 : P .j3 = true) (h_regs : P .regs = true) (h_cad : P .cad = true) (h_pwm : P .pwm = true) (h_safe : P .safe = true)
    (h_tnd : P .tnd = true) :
    WithinOut P s (execGateMismatch p addr write fold s) := by
  unfold execGateMismatch
  with_reducible repeat' first
    | assumption | exact Within.refl _ _ | apply WithinOut.next
    | apply Within.trans ?_ (State.mismatch_within _ _ _ _ _ _ ?_ ?_ ?_ ?_ ?_ ?_) | apply Within.ite | apply WithinOut.ite | split
    | (dsimp only; split)

theorem execStateFold_within {P : Part → Bool} (p : Fin 2) (diff : Option (Fin 100)) (s : State) (h_j3 : P .j3 = true)
    (h_regs : P .regs = true) (h_cad : P .cad = true) (h_pwm : P .pwm = true) (h_safe : P .safe = true) (h_tnd : P .tnd = true) :
    WithinOut P s (execStateFold p diff s) := by
  unfold execStateFold
  with_reducible repeat' first
    | assumption | exact Within.refl _ _ | apply WithinOut.next | apply Within.trans ?_ (State.updTnd_within _ _ _ ?_)
    | apply Within.trans ?_ (State.fold_within _ _ _ ?_ ?_ ?_ ?_ ?_ ?_) | apply Within.ite | apply WithinOut.ite

theorem execFoldRequest_within {P : Part → Bool} (m : Master) (p : Fin 2) (s : State) (h_free : P .free = true) (h_resp : P .resp = true)
    (h_j3 : P .j3 = true) (h_regs : P .regs = true) (h_cad : P .cad = true) (h_tnd : P .tnd = true) :
    WithinOut P s (execFoldRequest m p s) := by
  unfold execFoldRequest
  with_reducible repeat' first
    | assumption | exact Within.refl _ _ | exact Within.id_ _ _ | apply WithinOut.next
    | apply Within.trans ?_ (State.write_within _ _ _ _ _ ?_ ?_ ?_ ?_ ?_ (fun _ => ?_))
    | apply Within.trans ?_ (State.updTnd_within _ _ _ ?_) | apply Within.ite | apply WithinOut.ite

theorem execCacheEccError_within {P : Part → Bool} (p : Fin 2) (chk : Bool) (data : Bool) (double : Bool) (s : State)
    (h_j3 : P .j3 = true) (h_regs : P .regs = true) (h_cad : P .cad = true) (h_pwm : P .pwm = true) (h_safe : P .safe = true)
    (h_tnd : P .tnd = true) :
    WithinOut P s (execCacheEccError p chk data double s) := by
  unfold execCacheEccError
  with_reducible repeat' first
    | assumption | exact Within.refl _ _ | apply WithinOut.next | apply Within.trans ?_ (State.post_within _ _ _ _ ?_ ?_ ?_)
    | apply Within.trans ?_ (State.inc_within _ _ ?_) | apply Within.trans ?_ (State.mismatch_within _ _ _ _ _ _ ?_ ?_ ?_ ?_ ?_ ?_)
    | apply Within.trans ?_ (State.setFld_within _ _ _ ?_) | apply Within.trans ?_ (State.stopPair_within _ _ ?_ ?_ ?_ ?_ ?_)
    | apply Within.ite | apply WithinOut.ite

theorem execAssayVerdict_within {P : Part → Bool} (p : Fin 2) (main : Option (Fin 4)) (chk : Option (Fin 4)) (s : State)
    (h_j3 : P .j3 = true) (h_regs : P .regs = true) (h_cad : P .cad = true) (h_pwm : P .pwm = true) (h_safe : P .safe = true)
    (h_tnd : P .tnd = true) :
    WithinOut P s (execAssayVerdict p main chk s) := by
  unfold execAssayVerdict
  with_reducible repeat' first
    | assumption | exact Within.refl _ _ | apply WithinOut.next
    | apply Within.trans ?_ (State.bothPass_within _ _ ?_ ?_ ?_ ?_ ?_ ?_)
    | apply Within.trans ?_ (State.verdict_within _ _ _ _ _ ?_ ?_ ?_ ?_ ?_ ?_) | apply Within.ite | apply WithinOut.ite | split
    | (dsimp only; split)

theorem execAssayTimeout_within {P : Part → Bool} (p : Fin 2) (s : State) (h_j3 : P .j3 = true) (h_regs : P .regs = true)
    (h_cad : P .cad = true) (h_pwm : P .pwm = true) (h_safe : P .safe = true) (h_tnd : P .tnd = true) :
    WithinOut P s (execAssayTimeout p s) := by
  unfold execAssayTimeout
  with_reducible repeat' first
    | assumption | exact Within.refl _ _ | apply WithinOut.next
    | apply Within.trans ?_ (State.verdict_within _ _ _ _ _ ?_ ?_ ?_ ?_ ?_ ?_) | apply Within.trans ?_ (State.opTo_within _ _ _ ?_)
    | apply Within.ite | apply WithinOut.ite

theorem execRestartFetch_within {P : Part → Bool} (p : Fin 2) (s : State) (h_regs : P .regs = true) (h_tnd : P .tnd = true) :
    WithinOut P s (execRestartFetch p s) := by
  unfold execRestartFetch
  with_reducible repeat' first
    | assumption | exact Within.refl _ _ | apply WithinOut.next | apply Within.trans ?_ (State.setPair_within _ _ _ ?_)
    | apply Within.trans ?_ (State.setFld_within _ _ _ ?_) | apply Within.trans ?_ (State.updTnd_within _ _ _ ?_) | apply Within.ite
    | apply WithinOut.ite

theorem execScWarning_within {P : Part → Bool} (p : Fin 2) (s : State) (h_j3 : P .j3 = true) (h_regs : P .regs = true)
    (h_cad : P .cad = true) :
    WithinOut P s (execScWarning p s) := by
  unfold execScWarning
  with_reducible repeat' first
    | assumption | exact Within.refl _ _ | apply WithinOut.next | apply Within.trans ?_ (State.post_within _ _ _ _ ?_ ?_ ?_)
    | apply Within.trans ?_ (State.evt_within _ _ _ _ ?_) | apply Within.ite | apply WithinOut.ite

theorem execScExpiry_within {P : Part → Bool} (p : Fin 2) (s : State) (h_j3 : P .j3 = true) (h_regs : P .regs = true)
    (h_cad : P .cad = true) (h_pwm : P .pwm = true) (h_safe : P .safe = true) :
    WithinOut P s (execScExpiry p s) := by
  unfold execScExpiry
  with_reducible repeat' first
    | assumption | exact Within.refl _ _ | apply WithinOut.next
    | apply Within.trans ?_ (State.pairCause_within _ _ _ _ ?_ ?_ ?_ ?_ ?_) | apply Within.ite | apply WithinOut.ite

theorem execAssayRequest_within {P : Part → Bool} (m : Master) (p : Fin 2) (s : State) (h_free : P .free = true) (h_resp : P .resp = true)
    (h_j3 : P .j3 = true) (h_regs : P .regs = true) (h_cad : P .cad = true) (h_tnd : P .tnd = true) :
    WithinOut P s (execAssayRequest m p s) := by
  unfold execAssayRequest
  with_reducible repeat' first
    | assumption | exact Within.refl _ _ | exact Within.id_ _ _ | apply WithinOut.next
    | apply Within.trans ?_ (State.write_within _ _ _ _ _ ?_ ?_ ?_ ?_ ?_ (fun _ => ?_))
    | apply Within.trans ?_ (State.updTnd_within _ _ _ ?_) | apply Within.trans ?_ (State.setPair_within _ _ _ ?_)

theorem execSplitRequest_within {P : Part → Bool} (m : Master) (p : Fin 2) (s : State) (h_free : P .free = true) (h_resp : P .resp = true)
    (h_j3 : P .j3 = true) (h_regs : P .regs = true) (h_cad : P .cad = true) :
    WithinOut P s (execSplitRequest m p s) := by
  unfold execSplitRequest
  with_reducible repeat' first
    | assumption | exact Within.refl _ _ | exact Within.id_ _ _ | apply WithinOut.next
    | apply Within.trans ?_ (State.errResp_within _ _ _ _ _ ?_ ?_ ?_ ?_)
    | apply Within.trans ?_ (State.write_within _ _ _ _ _ ?_ ?_ ?_ ?_ ?_ (fun _ => ?_))
    | apply Within.trans ?_ (State.setPair_within _ _ _ ?_) | apply Within.ite | apply WithinOut.ite

theorem execSplitSync_within {P : Part → Bool} (p : Fin 2) (diff : Option (Fin 100)) (s : State) (h_j3 : P .j3 = true)
    (h_regs : P .regs = true) (h_cad : P .cad = true) (h_pwm : P .pwm = true) (h_safe : P .safe = true) (h_tnd : P .tnd = true) :
    WithinOut P s (execSplitSync p diff s) := by
  unfold execSplitSync
  with_reducible repeat' first
    | assumption | exact Within.refl _ _ | apply WithinOut.next | apply Within.trans ?_ (State.fold_within _ _ _ ?_ ?_ ?_ ?_ ?_ ?_)
    | apply Within.trans ?_ (State.inc_within _ _ ?_) | apply Within.trans ?_ (State.setPair_within _ _ _ ?_)
    | apply Within.trans ?_ (State.post_within _ _ _ _ ?_ ?_ ?_) | apply Within.trans ?_ (State.evt_within _ _ _ _ ?_)
    | apply Within.ite | apply WithinOut.ite | split | (dsimp only; split)

theorem execSplitTimeout_within {P : Part → Bool} (p : Fin 2) (s : State) (h_j3 : P .j3 = true) (h_regs : P .regs = true)
    (h_cad : P .cad = true) :
    WithinOut P s (execSplitTimeout p s) := by
  unfold execSplitTimeout
  with_reducible repeat' first
    | assumption | exact Within.refl _ _ | apply WithinOut.next | apply Within.trans ?_ (State.abandonSplit_within _ _ ?_ ?_ ?_)
    | apply Within.trans ?_ (State.opTo_within _ _ _ ?_) | apply Within.ite | apply WithinOut.ite

theorem execRejoinRequest_within {P : Part → Bool} (m : Master) (p : Fin 2) (s : State) (h_free : P .free = true)
    (h_resp : P .resp = true) (h_j3 : P .j3 = true) (h_regs : P .regs = true) (h_cad : P .cad = true) :
    WithinOut P s (execRejoinRequest m p s) := by
  unfold execRejoinRequest
  with_reducible repeat' first
    | assumption | exact Within.refl _ _ | exact Within.id_ _ _ | apply WithinOut.next
    | apply Within.trans ?_ (State.write_within _ _ _ _ _ ?_ ?_ ?_ ?_ ?_ (fun _ => ?_))
    | apply Within.trans ?_ (State.setFld_within _ _ _ ?_) | apply Within.trans ?_ (State.setPair_within _ _ _ ?_)

theorem execRejoinSync_within {P : Part → Bool} (p : Fin 2) (s : State) (h_tnd : P .tnd = true) :
    WithinOut P s (execRejoinSync p s) := by
  unfold execRejoinSync
  with_reducible repeat' first
    | assumption | exact Within.refl _ _ | apply WithinOut.next | apply Within.trans ?_ (State.updTnd_within _ _ _ ?_)
    | apply Within.ite | apply WithinOut.ite

theorem execRejoinCopyDone_within {P : Part → Bool} (p : Fin 2) (diff : Option (Fin 100)) (s : State) (h_j3 : P .j3 = true)
    (h_regs : P .regs = true) (h_cad : P .cad = true) (h_tnd : P .tnd = true) :
    WithinOut P s (execRejoinCopyDone p diff s) := by
  unfold execRejoinCopyDone
  with_reducible repeat' first
    | assumption | exact Within.refl _ _ | apply WithinOut.next | apply Within.trans ?_ (State.inc_within _ _ ?_)
    | apply Within.trans ?_ (State.abandonRejoin_within _ _ _ ?_ ?_ ?_ ?_) | apply Within.trans ?_ (State.updTnd_within _ _ _ ?_)
    | apply Within.trans ?_ (State.setFld_within _ _ _ ?_) | apply Within.trans ?_ (State.setPair_within _ _ _ ?_)
    | apply Within.trans ?_ (State.post_within _ _ _ _ ?_ ?_ ?_) | apply Within.trans ?_ (State.evt_within _ _ _ _ ?_)
    | apply Within.ite | apply WithinOut.ite

theorem execRejoinTimeout_within {P : Part → Bool} (p : Fin 2) (s : State) (h_j3 : P .j3 = true) (h_regs : P .regs = true)
    (h_cad : P .cad = true) (h_tnd : P .tnd = true) :
    WithinOut P s (execRejoinTimeout p s) := by
  unfold execRejoinTimeout
  with_reducible repeat' first
    | assumption | exact Within.refl _ _ | apply WithinOut.next
    | apply Within.trans ?_ (State.abandonRejoin_within _ _ _ ?_ ?_ ?_ ?_) | apply Within.trans ?_ (State.opTo_within _ _ _ ?_)
    | apply Within.ite | apply WithinOut.ite

theorem execDebugHalt_within {P : Part → Bool} (m : Master) (p : Fin 2) (diff : Option (Fin 100)) (s : State) (h_free : P .free = true)
    (h_resp : P .resp = true) (h_j3 : P .j3 = true) (h_regs : P .regs = true) (h_cad : P .cad = true) (h_pwm : P .pwm = true)
    (h_safe : P .safe = true) (h_tnd : P .tnd = true) :
    WithinOut P s (execDebugHalt m p diff s) := by
  unfold execDebugHalt
  with_reducible repeat' first
    | assumption | exact Within.refl _ _ | exact Within.id_ _ _ | apply WithinOut.next
    | apply Within.trans ?_ (State.write_within _ _ _ _ _ ?_ ?_ ?_ ?_ ?_ (fun _ => ?_))
    | apply Within.trans ?_ (State.haltPair_within _ _ _ ?_ ?_ ?_ ?_ ?_ ?_) | apply Within.trans ?_ (State.setFld_within _ _ _ ?_)

theorem execDebugResume_within {P : Part → Bool} (m : Master) (p : Fin 2) (diff : Option (Fin 100)) (s : State) (h_free : P .free = true)
    (h_resp : P .resp = true) (h_j3 : P .j3 = true) (h_regs : P .regs = true) (h_cad : P .cad = true) (h_pwm : P .pwm = true)
    (h_safe : P .safe = true) (h_tnd : P .tnd = true) :
    WithinOut P s (execDebugResume m p diff s) := by
  unfold execDebugResume
  with_reducible repeat' first
    | assumption | exact Within.refl _ _ | exact Within.id_ _ _ | apply WithinOut.next
    | apply Within.trans ?_ (State.write_within _ _ _ _ _ ?_ ?_ ?_ ?_ ?_ (fun _ => ?_))
    | apply Within.trans ?_ (State.resumePair_within _ _ _ ?_ ?_ ?_ ?_ ?_ ?_) | apply Within.trans ?_ (State.setFld_within _ _ _ ?_)

theorem execDebugStep_within {P : Part → Bool} (m : Master) (p : Fin 2) (diff : Option (Fin 100)) (s : State) (h_free : P .free = true)
    (h_resp : P .resp = true) (h_j3 : P .j3 = true) (h_regs : P .regs = true) (h_cad : P .cad = true) (h_pwm : P .pwm = true)
    (h_safe : P .safe = true) (h_tnd : P .tnd = true) :
    WithinOut P s (execDebugStep m p diff s) := by
  unfold execDebugStep
  with_reducible repeat' first
    | assumption | exact Within.refl _ _ | exact Within.id_ _ _ | apply WithinOut.next
    | apply Within.trans ?_ (State.write_within _ _ _ _ _ ?_ ?_ ?_ ?_ ?_ (fun _ => ?_))
    | apply Within.trans ?_ (State.showDbg_within _ _ ?_) | apply Within.trans ?_ (State.updTnd_within _ _ _ ?_)
    | apply Within.trans ?_ (State.setFld_within _ _ _ ?_) | apply Within.trans ?_ (State.fold_within _ _ _ ?_ ?_ ?_ ?_ ?_ ?_)
    | apply Within.ite | apply WithinOut.ite

theorem execDebugStateWrite_within {P : Part → Bool} (p : Fin 2) (reg : Word) (v : Word) (s : State) (h_resp : P .resp = true)
    (h_regs : P .regs = true) (h_tnd : P .tnd = true) :
    WithinOut P s (execDebugStateWrite p reg v s) := by
  unfold execDebugStateWrite
  with_reducible repeat' first
    | assumption | exact Within.refl _ _ | apply WithinOut.next | apply Within.trans ?_ (State.dbgWrite_within _ _ _ _ ?_ ?_ ?_)
    | apply Within.ite | apply WithinOut.ite

end Sys2Proof.Machine
end

