-- ==== Sys2Proof/Laws/FrameNet.lean ====
section
/-!
SUPPORT. Frames, one lemma for each function that gives a state, a command's outcome or an optional state: which parts of the state it may
change at all, and that it leaves the queue and the canonical form alone. This file: Eptal, the networks, the recorder, thermal and BIST, and power.
-/
namespace Sys2Proof.Machine

theorem State.updEpt_within {P : Part → Bool} (s : State) (k : Nat) (f : EptRec → EptRec) (h_safe : P .safe = true) :
    Within P s (State.updEpt s k f) := by
  unfold State.updEpt
  with_reducible repeat' first
    | assumption | exact Within.refl _ _ | apply Within.safe ?_ ?_ _

theorem State.eptShow_within {P : Part → Bool} (s : State) (k : Nat) (h_j3 : P .j3 = true) (h_regs : P .regs = true)
    (h_cad : P .cad = true) (h_pwm : P .pwm = true) (h_safe : P .safe = true) :
    Within P s (State.eptShow s k) := by
  unfold State.eptShow
  with_reducible repeat' first
    | assumption | exact Within.refl _ _ | apply Within.trans ?_ (State.setFld_within _ _ _ ?_)
    | apply Within.trans ?_ (State.post_within _ _ _ _ ?_ ?_ ?_) | apply Within.trans ?_ (State.syncLines_within _ ?_ ?_ ?_ ?_ ?_)
    | apply Within.ite

theorem State.eptFault_within {P : Part → Bool} (s : State) (k : Nat) (cause : Nat) (h_j3 : P .j3 = true) (h_regs : P .regs = true)
    (h_cad : P .cad = true) (h_pwm : P .pwm = true) (h_safe : P .safe = true) :
    Within P s (State.eptFault s k cause) := by
  unfold State.eptFault
  with_reducible repeat' first
    | assumption | exact Within.refl _ _ | apply Within.trans ?_ (State.setFld_within _ _ _ ?_)
    | apply Within.trans ?_ (State.eptShow_within _ _ ?_ ?_ ?_ ?_ ?_) | apply Within.trans ?_ (State.post_within _ _ _ _ ?_ ?_ ?_)
    | apply Within.trans ?_ (State.flt_within _ _ _ _ ?_) | apply Within.ite

theorem State.eptDeliver_within {P : Part → Bool} (s : State) (k : Nat) (p : List Byte) (single : Option Bool) (h_j3 : P .j3 = true)
    (h_regs : P .regs = true) (h_cad : P .cad = true) (h_pwm : P .pwm = true) (h_safe : P .safe = true) :
    Within P s (State.eptDeliver s k p single) := by
  unfold State.eptDeliver
  with_reducible repeat' first
    | assumption | exact Within.refl _ _ | exact Within.id_ _ _ | apply Within.each (fun _ _ => ?_) _ ?_
    | apply Within.trans ?_ (State.wr_within _ _ _ ?_) | apply Within.trans ?_ (State.evt_within _ _ _ _ ?_)
    | apply Within.trans ?_ (State.setFld_within _ _ _ ?_) | apply Within.trans ?_ (State.updEpt_within _ _ _ ?_)
    | apply Within.trans ?_ (State.post_within _ _ _ _ ?_ ?_ ?_) | apply Within.trans ?_ (State.eptShow_within _ _ ?_ ?_ ?_ ?_ ?_)
    | apply Within.ite | split | (dsimp only; split)

theorem State.eptMiss_within {P : Part → Bool} (s : State) (k : Nat) (pathB : Bool) (h_regs : P .regs = true) :
    Within P s (State.eptMiss s k pathB) := by
  unfold State.eptMiss
  with_reducible repeat' first
    | assumption | exact Within.refl _ _ | apply Within.trans ?_ (State.inc_within _ _ ?_) | apply Within.ite

theorem State.eptSingle_within {P : Part → Bool} (s : State) (k : Nat) (h_j3 : P .j3 = true) (h_regs : P .regs = true)
    (h_cad : P .cad = true) (h_pwm : P .pwm = true) (h_safe : P .safe = true) :
    Within P s (State.eptSingle s k) := by
  unfold State.eptSingle
  with_reducible repeat' first
    | assumption | exact Within.refl _ _ | apply Within.trans ?_ (State.eptDeliver_within _ _ _ _ ?_ ?_ ?_ ?_ ?_)
    | apply Within.trans ?_ (State.eptMiss_within _ _ _ ?_) | split | (dsimp only; split)

theorem State.eptReassign_within {P : Part → Bool} (s : State) (s0 : State) (k : Nat) (h_regs : P .regs = true) :
    Within P s (State.eptReassign s s0 k) := by
  unfold State.eptReassign
  with_reducible repeat' first
    | assumption | exact Within.refl _ _ | apply Within.trans ?_ (State.setFld_within _ _ _ ?_) | apply Within.ite

theorem State.eptCopy_within {P : Part → Bool} (s : State) (k : Nat) (pathB : Bool) (p : List Byte) (h_j3 : P .j3 = true)
    (h_regs : P .regs = true) (h_cad : P .cad = true) (h_pwm : P .pwm = true) (h_safe : P .safe = true) :
    Within P s (State.eptCopy s k pathB p) := by
  unfold State.eptCopy
  with_reducible repeat' first
    | assumption | exact Within.refl _ _ | apply Within.trans ?_ (State.inc_within _ _ ?_)
    | apply Within.trans ?_ (State.stale_within _ _ _ ?_) | apply Within.trans ?_ (State.eptShow_within _ _ ?_ ?_ ?_ ?_ ?_)
    | apply Within.trans ?_ (State.updEpt_within _ _ _ ?_) | apply Within.trans ?_ (State.eptDeliver_within _ _ _ _ ?_ ?_ ?_ ?_ ?_)
    | apply Within.trans ?_ (State.eptFault_within _ _ _ ?_ ?_ ?_ ?_ ?_)
    | apply Within.trans ?_ (State.eptSingle_within _ _ ?_ ?_ ?_ ?_ ?_) | apply Within.ite | split | (dsimp only; split)

theorem State.eptBegin_within {P : Part → Bool} (s : State) (k : Nat) (h_j3 : P .j3 = true) (h_regs : P .regs = true)
    (h_cad : P .cad = true) (h_pwm : P .pwm = true) (h_safe : P .safe = true) :
    Within P s (State.eptBegin s k) := by
  unfold State.eptBegin
  with_reducible repeat' first
    | assumption | exact Within.refl _ _ | apply Within.trans ?_ (State.setFld_within _ _ _ ?_)
    | apply Within.trans ?_ (State.eptShow_within _ _ ?_ ?_ ?_ ?_ ?_) | apply Within.trans ?_ (State.updEpt_within _ _ _ ?_)

theorem State.eptSecond_within {P : Part → Bool} (s : State) (k : Nat) (h_regs : P .regs = true) :
    Within P s (State.eptSecond s k) := by
  unfold State.eptSecond
  with_reducible repeat' first
    | assumption | exact Within.refl _ _ | apply Within.trans ?_ (State.setFld_within _ _ _ ?_)

theorem execEptalCopy_within {P : Part → Bool} (k : Fin 16) (pathB : Bool) (bytes : List Byte) (s : State) (h_j3 : P .j3 = true)
    (h_regs : P .regs = true) (h_cad : P .cad = true) (h_pwm : P .pwm = true) (h_safe : P .safe = true) :
    WithinOut P s (execEptalCopy k pathB bytes s) := by
  unfold execEptalCopy
  with_reducible repeat' first
    | assumption | exact Within.refl _ _ | apply WithinOut.next
    | apply Within.trans ?_ (State.eptCopy_within _ _ _ _ ?_ ?_ ?_ ?_ ?_)

theorem execEptalWindowExpiry_within {P : Part → Bool} (k : Fin 16) (s : State) (h_j3 : P .j3 = true) (h_regs : P .regs = true)
    (h_cad : P .cad = true) (h_pwm : P .pwm = true) (h_safe : P .safe = true) :
    WithinOut P s (execEptalWindowExpiry k s) := by
  unfold execEptalWindowExpiry
  with_reducible repeat' first
    | assumption | exact Within.refl _ _ | apply WithinOut.next | apply Within.trans ?_ (State.eptSingle_within _ _ ?_ ?_ ?_ ?_ ?_)
    | apply Within.trans ?_ (State.opTo_within _ _ _ ?_) | apply Within.ite | apply WithinOut.ite

theorem execEptalSingleExpiry_within {P : Part → Bool} (k : Fin 16) (s : State) (h_j3 : P .j3 = true) (h_regs : P .regs = true)
    (h_cad : P .cad = true) (h_pwm : P .pwm = true) (h_safe : P .safe = true) :
    WithinOut P s (execEptalSingleExpiry k s) := by
  unfold execEptalSingleExpiry
  with_reducible repeat' first
    | assumption | exact Within.refl _ _ | apply WithinOut.next | apply Within.trans ?_ (State.eptFault_within _ _ _ ?_ ?_ ?_ ?_ ?_)
    | apply Within.ite | apply WithinOut.ite

theorem execEptalDeliveryTimeout_within {P : Part → Bool} (k : Fin 16) (s : State) (h_j3 : P .j3 = true) (h_regs : P .regs = true)
    (h_cad : P .cad = true) (h_pwm : P .pwm = true) (h_safe : P .safe = true) :
    WithinOut P s (execEptalDeliveryTimeout k s) := by
  unfold execEptalDeliveryTimeout
  with_reducible repeat' first
    | assumption | exact Within.refl _ _ | apply WithinOut.next | apply Within.trans ?_ (State.eptFault_within _ _ _ ?_ ?_ ?_ ?_ ?_)
    | apply Within.trans ?_ (State.opTo_within _ _ _ ?_) | apply Within.ite | apply WithinOut.ite

theorem execEptalSendMiss_within {P : Part → Bool} (k : Fin 16) (pathB : Bool) (s : State) (h_regs : P .regs = true)
    (h_safe : P .safe = true) :
    WithinOut P s (execEptalSendMiss k pathB s) := by
  unfold execEptalSendMiss
  with_reducible repeat' first
    | assumption | exact Within.refl _ _ | apply WithinOut.next | apply Within.trans ?_ (State.eptMiss_within _ _ _ ?_)
    | apply Within.trans ?_ (State.updEpt_within _ _ _ ?_) | apply Within.ite | apply WithinOut.ite

theorem execEptalReset_within {P : Part → Bool} (m : Master) (k : Fin 16) (s : State) (h_free : P .free = true) (h_resp : P .resp = true)
    (h_j3 : P .j3 = true) (h_regs : P .regs = true) (h_cad : P .cad = true) (h_pwm : P .pwm = true) (h_safe : P .safe = true) :
    WithinOut P s (execEptalReset m k s) := by
  unfold execEptalReset
  with_reducible repeat' first
    | assumption | exact Within.refl _ _ | exact Within.id_ _ _ | apply WithinOut.next
    | apply Within.trans ?_ (State.write_within _ _ _ _ _ ?_ ?_ ?_ ?_ ?_ (fun _ => ?_))
    | apply Within.trans ?_ (State.eptBegin_within _ _ ?_ ?_ ?_ ?_ ?_)

theorem State.updCan_within {P : Part → Bool} (s : State) (n : Nat) (f : CanRec → CanRec) (h_net : P .net = true) :
    Within P s (State.updCan s n f) := by
  unfold State.updCan
  with_reducible repeat' first
    | assumption | exact Within.refl _ _ | apply Within.net ?_ ?_ _

theorem State.setCanBit_within {P : Part → Bool} (s : State) (n : Nat) (k : Nat) (b : Nat) (v : Bool) (h_regs : P .regs = true)
    (h_canRam : P .canRam = true) :
    Within P s (State.setCanBit s n k b v) := by
  unfold State.setCanBit
  with_reducible repeat' first
    | assumption | exact Within.refl _ _ | apply Within.trans ?_ (State.setCanA_within _ _ _ _ _ ?_)
    | apply Within.trans ?_ (State.setFld_within _ _ _ ?_) | apply Within.ite

theorem State.canCopy_within {P : Part → Bool} (s : State) (n : Nat) (k : Nat) (h_canRam : P .canRam = true) :
    Within P s (State.canCopy s n k) := by
  unfold State.canCopy
  with_reducible repeat' first
    | assumption | exact Within.refl _ _ | exact Within.id_ _ _ | apply Within.trans ?_ (State.setCanA_within _ _ _ _ _ ?_)
    | apply Within.each (fun _ _ => ?_) _ ?_ | apply Within.ite

theorem State.canActivate_within {P : Part → Bool} (s : State) (n : Nat) (k : Nat) (h_regs : P .regs = true) (h_canRam : P .canRam = true) :
    Within P s (State.canActivate s n k) := by
  unfold State.canActivate
  with_reducible repeat' first
    | assumption | exact Within.refl _ _ | exact Within.id_ _ _ | apply Within.trans ?_ (State.setCanBit_within _ _ _ _ _ ?_ ?_)
    | apply Within.each (fun _ _ => ?_) _ ?_ | apply Within.trans ?_ (State.canCopy_within _ _ _ ?_)

theorem State.canAccept_within {P : Part → Bool} (s : State) (n : Nat) (k : Nat) (h_regs : P .regs = true) (h_canRam : P .canRam = true)
    (h_net : P .net = true) :
    Within P s (State.canAccept s n k) := by
  unfold State.canAccept
  with_reducible repeat' first
    | assumption | exact Within.refl _ _ | apply Within.trans ?_ (State.updCan_within _ _ _ ?_)
    | apply Within.trans ?_ (State.canActivate_within _ _ _ ?_ ?_) | apply Within.ite

theorem State.canErrState_within {P : Part → Bool} (s : State) (n : Nat) (h_j3 : P .j3 = true) (h_regs : P .regs = true)
    (h_cad : P .cad = true) :
    Within P s (State.canErrState s n) := by
  unfold State.canErrState
  with_reducible repeat' first
    | assumption | exact Within.refl _ _ | apply Within.trans ?_ (State.post_within _ _ _ _ ?_ ?_ ?_)
    | apply Within.trans ?_ (State.evt_within _ _ _ _ ?_) | apply Within.trans ?_ (State.setFld_within _ _ _ ?_) | apply Within.ite

theorem State.canFrameEnd_within {P : Part → Bool} (s : State) (n : Nat) (h_regs : P .regs = true) (h_canRam : P .canRam = true)
    (h_net : P .net = true) :
    Within P s (State.canFrameEnd s n) := by
  unfold State.canFrameEnd
  with_reducible repeat' first
    | assumption | exact Within.refl _ _ | exact Within.id_ _ _ | apply Within.trans ?_ (State.setFld_within _ _ _ ?_)
    | apply Within.trans ?_ (State.updCan_within _ _ _ ?_) | apply Within.each (fun _ _ => ?_) _ ?_
    | apply Within.trans ?_ (State.canActivate_within _ _ _ ?_ ?_) | apply Within.ite

theorem State.canError_within {P : Part → Bool} (s : State) (n : Nat) (err : Nat) (dphase : Bool) (h_regs : P .regs = true) :
    Within P s (State.canError s n err dphase) := by
  unfold State.canError
  with_reducible repeat' first
    | assumption | exact Within.refl _ _ | apply Within.trans ?_ (State.setFld_within _ _ _ ?_)
    | apply Within.trans ?_ (State.inc_within _ _ ?_) | apply Within.ite

theorem State.canDelay_within {P : Part → Bool} (s : State) (n : Nat) (k : Nat) (dly : Option (Fin 4096)) (h_regs : P .regs = true) :
    Within P s (State.canDelay s n k dly) := by
  unfold State.canDelay
  with_reducible repeat' first
    | assumption | exact Within.refl _ _ | apply Within.trans ?_ (State.setFld_within _ _ _ ?_) | apply Within.ite | split
    | (dsimp only; split)

theorem State.canSent_within {P : Part → Bool} (s : State) (n : Nat) (k : Nat) (h_safe : P .safe = true) :
    Within P s (State.canSent s n k) := by
  unfold State.canSent
  with_reducible repeat' first
    | assumption | exact Within.refl _ _ | apply Within.trans ?_ (State.updEpt_within _ _ _ ?_) | apply Within.ite | split
    | (dsimp only; split)

theorem State.canCommand_within {P : Part → Bool} (a0 : State) (m : Master) (n : Nat) (k : Nat) (tx : Bool) (eff : State → State)
    (h_free : P .free = true) (h_resp : P .resp = true) (h_j3 : P .j3 = true) (h_regs : P .regs = true) (h_cad : P .cad = true)
    (h5 : ∀ s, Within P s (eff s)) :
    Within P a0 (State.canCommand a0 m n k tx eff) := by
  unfold State.canCommand
  with_reducible repeat' first
    | assumption | exact Within.refl _ _ | exact Within.id_ _ _
    | apply Within.trans ?_ (State.write_within _ _ _ _ _ ?_ ?_ ?_ ?_ ?_ (fun _ => ?_)) | apply Within.trans ?_ (h5 _)

theorem State.canCommit_within {P : Part → Bool} (s : State) (m : Master) (n : Nat) (k : Nat) (epoch : Nat) (h_free : P .free = true)
    (h_resp : P .resp = true) (h_j3 : P .j3 = true) (h_regs : P .regs = true) (h_canRam : P .canRam = true) (h_cad : P .cad = true)
    (h_net : P .net = true) :
    Within P s (State.canCommit s m n k epoch) := by
  unfold State.canCommit
  with_reducible repeat' first
    | assumption | exact Within.refl _ _ | exact Within.id_ _ _
    | apply Within.trans ?_ (State.write_within _ _ _ _ _ ?_ ?_ ?_ ?_ ?_ (fun _ => ?_))
    | apply Within.trans ?_ (State.stale_within _ _ _ ?_) | apply Within.trans ?_ (State.canAccept_within _ _ _ ?_ ?_ ?_)
    | apply Within.ite

theorem State.canCancel_within {P : Part → Bool} (s : State) (m : Master) (n : Nat) (k : Nat) (won : Bool) (h_free : P .free = true)
    (h_resp : P .resp = true) (h_j3 : P .j3 = true) (h_regs : P .regs = true) (h_canRam : P .canRam = true) (h_cad : P .cad = true)
    (h_net : P .net = true) :
    Within P s (State.canCancel s m n k won) := by
  unfold State.canCancel
  with_reducible repeat' first
    | assumption | exact Within.refl _ _ | exact Within.id_ _ _
    | apply Within.trans ?_ (State.canCommand_within _ _ _ _ _ _ ?_ ?_ ?_ ?_ ?_ (fun _ => ?_))
    | apply Within.trans ?_ (State.updCan_within _ _ _ ?_) | apply Within.trans ?_ (State.setCanBit_within _ _ _ _ _ ?_ ?_)
    | apply Within.trans ?_ (State.setFld_within _ _ _ ?_) | apply Within.trans ?_ (State.canFrameEnd_within _ _ ?_ ?_ ?_)
    | apply Within.ite

theorem State.canLock_within {P : Part → Bool} (s : State) (m : Master) (n : Nat) (k : Nat) (h_free : P .free = true)
    (h_resp : P .resp = true) (h_j3 : P .j3 = true) (h_regs : P .regs = true) (h_canRam : P .canRam = true) (h_cad : P .cad = true) :
    Within P s (State.canLock s m n k) := by
  unfold State.canLock
  with_reducible repeat' first
    | assumption | exact Within.refl _ _ | exact Within.id_ _ _
    | apply Within.trans ?_ (State.canCommand_within _ _ _ _ _ _ ?_ ?_ ?_ ?_ ?_ (fun _ => ?_))
    | apply Within.trans ?_ (State.setCanBit_within _ _ _ _ _ ?_ ?_)

theorem State.canShowNew_within {P : Part → Bool} (s : State) (n : Nat) (k : Nat) (h_regs : P .regs = true) (h_canRam : P .canRam = true) :
    Within P s (State.canShowNew s n k) := by
  unfold State.canShowNew
  with_reducible repeat' first
    | assumption | exact Within.refl _ _ | apply Within.trans ?_ (State.evt_within _ _ _ _ ?_)
    | apply Within.trans ?_ (State.setCanBit_within _ _ _ _ _ ?_ ?_) | apply Within.trans ?_ (State.canCopy_within _ _ _ ?_)

theorem State.canRelease_within {P : Part → Bool} (s : State) (m : Master) (n : Nat) (k : Nat) (h_free : P .free = true)
    (h_resp : P .resp = true) (h_j3 : P .j3 = true) (h_regs : P .regs = true) (h_canRam : P .canRam = true) (h_cad : P .cad = true)
    (h_net : P .net = true) :
    Within P s (State.canRelease s m n k) := by
  unfold State.canRelease
  with_reducible repeat' first
    | assumption | exact Within.refl _ _ | exact Within.id_ _ _
    | apply Within.trans ?_ (State.canCommand_within _ _ _ _ _ _ ?_ ?_ ?_ ?_ ?_ (fun _ => ?_))
    | apply Within.trans ?_ (State.setCanBit_within _ _ _ _ _ ?_ ?_) | apply Within.trans ?_ (State.updCan_within _ _ _ ?_)
    | apply Within.trans ?_ (State.canShowNew_within _ _ _ ?_ ?_) | apply Within.ite

theorem State.canRecover_within {P : Part → Bool} (s : State) (n : Nat) (h_regs : P .regs = true) :
    Within P s (State.canRecover s n) := by
  unfold State.canRecover
  with_reducible repeat' first
    | assumption | exact Within.refl _ _ | apply Within.trans ?_ (State.setFld_within _ _ _ ?_) | apply Within.ite

theorem State.canReassign_within {P : Part → Bool} (s : State) (n : Nat) (k : Nat) (old : Word) (v : Word) (h_canRam : P .canRam = true) :
    Within P s (State.canReassign s n k old v) := by
  unfold State.canReassign
  with_reducible repeat' first
    | assumption | exact Within.refl _ _ | apply Within.trans ?_ (State.setCanA_within _ _ _ _ _ ?_) | apply Within.ite

theorem State.canConfig_within {P : Part → Bool} (s : State) (m : Master) (n : Nat) (k : Nat) (v : Word) (receiving : Bool)
    (h_free : P .free = true) (h_resp : P .resp = true) (h_j3 : P .j3 = true) (h_regs : P .regs = true) (h_canRam : P .canRam = true)
    (h_cad : P .cad = true) :
    Within P s (State.canConfig s m n k v receiving) := by
  unfold State.canConfig
  with_reducible repeat' first
    | assumption | exact Within.refl _ _ | exact Within.id_ _ _
    | apply Within.trans ?_ (State.write_within _ _ _ _ _ ?_ ?_ ?_ ?_ ?_ (fun _ => ?_))
    | apply Within.trans ?_ (State.canReassign_within _ _ _ _ _ ?_) | apply Within.trans ?_ (State.wr_within _ _ _ ?_)
    | apply Within.trans ?_ (State.setCanA_within _ _ _ _ _ ?_) | apply Within.ite

theorem State.canRamWrite_within {P : Part → Bool} (s : State) (n : Nat) (k : Nat) (w : Nat) (v : Word) (h_canRam : P .canRam = true) :
    Within P s (State.canRamWrite s n k w v) := by
  unfold State.canRamWrite
  with_reducible repeat' first
    | assumption | exact Within.refl _ _ | apply Within.trans ?_ (State.setCanS_within _ _ _ _ _ ?_) | apply Within.ite

theorem State.canCtl_within {P : Part → Bool} (s : State) (m : Master) (n : Nat) (v : Word) (h_free : P .free = true)
    (h_resp : P .resp = true) (h_j3 : P .j3 = true) (h_regs : P .regs = true) (h_cad : P .cad = true) :
    Within P s (State.canCtl s m n v) := by
  unfold State.canCtl
  with_reducible repeat' first
    | assumption | exact Within.refl _ _ | exact Within.id_ _ _
    | apply Within.trans ?_ (State.write_within _ _ _ _ _ ?_ ?_ ?_ ?_ ?_ (fun _ => ?_))
    | apply Within.trans ?_ (State.wr_within _ _ _ ?_) | apply Within.trans ?_ (State.canRecover_within _ _ ?_)
    | apply Within.trans ?_ (State.setFld_within _ _ _ ?_) | apply Within.ite

theorem State.canTake_within {P : Part → Bool} (s : State) (n : Nat) (k : Nat) (f : CanFrame) (h_canRam : P .canRam = true) :
    Within P s (State.canTake s n k f) := by
  unfold State.canTake
  with_reducible repeat' first
    | assumption | exact Within.refl _ _ | apply Within.trans ?_ (State.setCanS_within _ _ _ _ _ ?_) | apply Within.ite
    | apply Within.foldl (fun _ _ => ?_) ?_ _

theorem State.canReceive_within {P : Part → Bool} (s : State) (n : Nat) (f : CanFrame) (h_j3 : P .j3 = true) (h_regs : P .regs = true)
    (h_canRam : P .canRam = true) (h_cad : P .cad = true) (h_pwm : P .pwm = true) (h_safe : P .safe = true) (h_net : P .net = true) :
    Within P s (State.canReceive s n f) := by
  unfold State.canReceive
  with_reducible repeat' first
    | assumption | exact Within.refl _ _ | apply Within.trans ?_ (State.inc_within _ _ ?_)
    | apply Within.trans ?_ (State.eptCopy_within _ _ _ _ ?_ ?_ ?_ ?_ ?_) | apply Within.trans ?_ (State.canTake_within _ _ _ _ ?_)
    | apply Within.trans ?_ (State.canShowNew_within _ _ _ ?_ ?_) | apply Within.trans ?_ (State.evt_within _ _ _ _ ?_)
    | apply Within.trans ?_ (State.setCanBit_within _ _ _ _ _ ?_ ?_) | apply Within.trans ?_ (State.updCan_within _ _ _ ?_)
    | apply Within.ite | split | (dsimp only; split)

theorem execCanStartOfFrame_within {P : Part → Bool} (n : Fin 4) (s : State) (h_regs : P .regs = true) (h_net : P .net = true) :
    WithinOut P s (execCanStartOfFrame n s) := by
  unfold execCanStartOfFrame
  with_reducible repeat' first
    | assumption | exact Within.refl _ _ | apply WithinOut.next | apply Within.trans ?_ (State.setFld_within _ _ _ ?_)
    | apply Within.trans ?_ (State.updCan_within _ _ _ ?_) | apply Within.ite | apply WithinOut.ite

theorem execCanFrameReceived_within {P : Part → Bool} (n : Fin 4) (f : CanFrame) (s : State) (h_free : P .free = true)
    (h_j3 : P .j3 = true) (h_regs : P .regs = true) (h_canRam : P .canRam = true) (h_cad : P .cad = true) (h_pwm : P .pwm = true)
    (h_safe : P .safe = true) (h_net : P .net = true) :
    WithinOut P s (execCanFrameReceived n f s) := by
  unfold execCanFrameReceived
  with_reducible repeat' first
    | assumption | exact Within.refl _ _ | apply WithinOut.next
    | apply Within.trans ?_ (State.canReceive_within _ _ _ ?_ ?_ ?_ ?_ ?_ ?_ ?_)
    | apply Within.trans ?_ (State.updCan_within _ _ _ ?_) | apply Within.trans ?_ (State.setFld_within _ _ _ ?_)
    | apply Within.trans ?_ (State.tookFree_within _ ?_) | apply Within.trans ?_ (State.canErrState_within _ _ ?_ ?_ ?_)
    | apply Within.trans ?_ (State.canFrameEnd_within _ _ ?_ ?_ ?_) | apply Within.ite | apply WithinOut.ite

theorem execCanTxDone_within {P : Part → Bool} (n : Fin 4) (dly : Option (Fin 4096)) (s : State) (h_j3 : P .j3 = true)
    (h_regs : P .regs = true) (h_canRam : P .canRam = true) (h_cad : P .cad = true) (h_safe : P .safe = true) (h_net : P .net = true) :
    WithinOut P s (execCanTxDone n dly s) := by
  unfold execCanTxDone
  with_reducible repeat' first
    | assumption | exact Within.refl _ _ | exact Within.id_ _ _ | apply WithinOut.next
    | apply Within.trans ?_ (State.setCanBit_within _ _ _ _ _ ?_ ?_) | apply Within.trans ?_ (State.canSent_within _ _ _ ?_)
    | apply Within.trans ?_ (State.canDelay_within _ _ _ _ ?_) | apply Within.when (fun _ => ?_) ?_
    | apply Within.trans ?_ (State.evt_within _ _ _ _ ?_) | apply Within.trans ?_ (State.setFld_within _ _ _ ?_)
    | apply Within.trans ?_ (State.canFrameEnd_within _ _ ?_ ?_ ?_) | apply Within.trans ?_ (State.canErrState_within _ _ ?_ ?_ ?_)
    | split | (dsimp only; split)

theorem execCanTxError_within {P : Part → Bool} (n : Fin 4) (lost : Bool) (err : Fin 7) (dphase : Bool) (collision : Bool)
    (counted : Bool) (dly : Option (Fin 4096)) (s : State) (h_j3 : P .j3 = true) (h_regs : P .regs = true) (h_canRam : P .canRam = true)
    (h_cad : P .cad = true) (h_net : P .net = true) :
    WithinOut P s (execCanTxError n lost err dphase collision counted dly s) := by
  unfold execCanTxError
  with_reducible repeat' first
    | assumption | exact Within.refl _ _ | exact Within.id_ _ _ | apply WithinOut.next
    | apply Within.trans ?_ (State.canError_within _ _ _ _ ?_) | apply Within.trans ?_ (State.canDelay_within _ _ _ _ ?_)
    | apply Within.when (fun _ => ?_) ?_ | apply Within.trans ?_ (State.post_within _ _ _ _ ?_ ?_ ?_)
    | apply Within.trans ?_ (State.evt_within _ _ _ _ ?_) | apply Within.trans ?_ (State.inc_within _ _ ?_)
    | apply Within.trans ?_ (State.incBy_within _ _ _ ?_) | apply Within.trans ?_ (State.setCanBit_within _ _ _ _ _ ?_ ?_)
    | apply Within.trans ?_ (State.canFrameEnd_within _ _ ?_ ?_ ?_) | apply Within.trans ?_ (State.canErrState_within _ _ ?_ ?_ ?_)
    | apply Within.trans ?_ (State.setFld_within _ _ _ ?_) | apply Within.ite | apply WithinOut.ite | split | (dsimp only; split)

theorem execCanReceiveError_within {P : Part → Bool} (n : Fin 4) (res : Bool) (err : Fin 7) (dphase : Bool) (eight : Bool) (s : State)
    (h_j3 : P .j3 = true) (h_regs : P .regs = true) (h_canRam : P .canRam = true) (h_cad : P .cad = true) (h_net : P .net = true) :
    WithinOut P s (execCanReceiveError n res err dphase eight s) := by
  unfold execCanReceiveError
  with_reducible repeat' first
    | assumption | exact Within.refl _ _ | exact Within.id_ _ _ | apply WithinOut.next
    | apply Within.trans ?_ (State.setFld_within _ _ _ ?_) | apply Within.trans ?_ (State.canError_within _ _ _ _ ?_)
    | apply Within.when (fun _ => ?_) ?_ | apply Within.trans ?_ (State.incBy_within _ _ _ ?_)
    | apply Within.trans ?_ (State.canErrState_within _ _ ?_ ?_ ?_) | apply Within.trans ?_ (State.canFrameEnd_within _ _ ?_ ?_ ?_)
    | apply Within.ite | apply WithinOut.ite

theorem execCanBusOff_within {P : Part → Bool} (n : Fin 4) (s : State) (h_j3 : P .j3 = true) (h_regs : P .regs = true)
    (h_canRam : P .canRam = true) (h_cad : P .cad = true) (h_net : P .net = true) :
    WithinOut P s (execCanBusOff n s) := by
  unfold execCanBusOff
  with_reducible repeat' first
    | assumption | exact Within.refl _ _ | apply WithinOut.next | apply Within.trans ?_ (State.setFld_within _ _ _ ?_)
    | apply Within.trans ?_ (State.canFrameEnd_within _ _ ?_ ?_ ?_) | apply Within.trans ?_ (State.inc_within _ _ ?_)
    | apply Within.trans ?_ (State.flt_within _ _ _ _ ?_) | apply Within.trans ?_ (State.post_within _ _ _ _ ?_ ?_ ?_)
    | apply Within.trans ?_ (State.canRecover_within _ _ ?_) | apply Within.ite | apply WithinOut.ite

theorem execCanRecover_within {P : Part → Bool} (m : Master) (n : Fin 4) (s : State) (h_free : P .free = true) (h_resp : P .resp = true)
    (h_j3 : P .j3 = true) (h_regs : P .regs = true) (h_cad : P .cad = true) :
    WithinOut P s (execCanRecover m n s) := by
  unfold execCanRecover
  with_reducible repeat' first
    | assumption | exact Within.refl _ _ | exact Within.id_ _ _ | apply WithinOut.next
    | apply Within.trans ?_ (State.write_within _ _ _ _ _ ?_ ?_ ?_ ?_ ?_ (fun _ => ?_))
    | apply Within.trans ?_ (State.canRecover_within _ _ ?_)

theorem execCanRecoveryDone_within {P : Part → Bool} (n : Fin 4) (s : State) (h_j3 : P .j3 = true) (h_regs : P .regs = true)
    (h_cad : P .cad = true) (h_net : P .net = true) :
    WithinOut P s (execCanRecoveryDone n s) := by
  unfold execCanRecoveryDone
  with_reducible repeat' first
    | assumption | exact Within.refl _ _ | apply WithinOut.next | apply Within.trans ?_ (State.post_within _ _ _ _ ?_ ?_ ?_)
    | apply Within.trans ?_ (State.updCan_within _ _ _ ?_) | apply Within.trans ?_ (State.setFld_within _ _ _ ?_) | apply Within.ite
    | apply WithinOut.ite

theorem execCanCommit_within {P : Part → Bool} (m : Master) (n : Fin 4) (k : Fin 128) (epoch : Fin 256) (s : State)
    (h_free : P .free = true) (h_resp : P .resp = true) (h_j3 : P .j3 = true) (h_regs : P .regs = true) (h_canRam : P .canRam = true)
    (h_cad : P .cad = true) (h_net : P .net = true) :
    WithinOut P s (execCanCommit m n k epoch s) := by
  unfold execCanCommit
  with_reducible repeat' first
    | assumption | exact Within.refl _ _ | apply WithinOut.next
    | apply Within.trans ?_ (State.canCommit_within _ _ _ _ _ ?_ ?_ ?_ ?_ ?_ ?_ ?_)

theorem execCanCancel_within {P : Part → Bool} (m : Master) (n : Fin 4) (k : Fin 128) (won : Bool) (s : State) (h_free : P .free = true)
    (h_resp : P .resp = true) (h_j3 : P .j3 = true) (h_regs : P .regs = true) (h_canRam : P .canRam = true) (h_cad : P .cad = true)
    (h_net : P .net = true) :
    WithinOut P s (execCanCancel m n k won s) := by
  unfold execCanCancel
  with_reducible repeat' first
    | assumption | exact Within.refl _ _ | apply WithinOut.next
    | apply Within.trans ?_ (State.canCancel_within _ _ _ _ _ ?_ ?_ ?_ ?_ ?_ ?_ ?_)

theorem execCanLock_within {P : Part → Bool} (m : Master) (n : Fin 4) (k : Fin 128) (s : State) (h_free : P .free = true)
    (h_resp : P .resp = true) (h_j3 : P .j3 = true) (h_regs : P .regs = true) (h_canRam : P .canRam = true) (h_cad : P .cad = true) :
    WithinOut P s (execCanLock m n k s) := by
  unfold execCanLock
  with_reducible repeat' first
    | assumption | exact Within.refl _ _ | apply WithinOut.next
    | apply Within.trans ?_ (State.canLock_within _ _ _ _ ?_ ?_ ?_ ?_ ?_ ?_)

theorem execCanRelease_within {P : Part → Bool} (m : Master) (n : Fin 4) (k : Fin 128) (s : State) (h_free : P .free = true)
    (h_resp : P .resp = true) (h_j3 : P .j3 = true) (h_regs : P .regs = true) (h_canRam : P .canRam = true) (h_cad : P .cad = true)
    (h_net : P .net = true) :
    WithinOut P s (execCanRelease m n k s) := by
  unfold execCanRelease
  with_reducible repeat' first
    | assumption | exact Within.refl _ _ | apply WithinOut.next
    | apply Within.trans ?_ (State.canRelease_within _ _ _ _ ?_ ?_ ?_ ?_ ?_ ?_ ?_)

theorem execCanBufferConfig_within {P : Part → Bool} (m : Master) (n : Fin 4) (k : Fin 128) (v : Word) (receiving : Bool) (s : State)
    (h_free : P .free = true) (h_resp : P .resp = true) (h_j3 : P .j3 = true) (h_regs : P .regs = true) (h_canRam : P .canRam = true)
    (h_cad : P .cad = true) :
    WithinOut P s (execCanBufferConfig m n k v receiving s) := by
  unfold execCanBufferConfig
  with_reducible repeat' first
    | assumption | exact Within.refl _ _ | apply WithinOut.next
    | apply Within.trans ?_ (State.canConfig_within _ _ _ _ _ _ ?_ ?_ ?_ ?_ ?_ ?_)

theorem execCanDominantTimeout_within {P : Part → Bool} (n : Fin 4) (s : State) (h_net : P .net = true) :
    WithinOut P s (execCanDominantTimeout n s) := by
  unfold execCanDominantTimeout
  with_reducible repeat' first
    | assumption | exact Within.refl _ _ | apply WithinOut.next | apply Within.trans ?_ (State.updCan_within _ _ _ ?_)

theorem State.updEth_within {P : Part → Bool} (s : State) (n : Nat) (f : EthRec → EthRec) (h_net : P .net = true) :
    Within P s (State.updEth s n f) := by
  unfold State.updEth
  with_reducible repeat' first
    | assumption | exact Within.refl _ _ | apply Within.net ?_ ?_ _

theorem State.ethFlush_within {P : Part → Bool} (s : State) (n : Nat) (h_safe : P .safe = true) (h_net : P .net = true) :
    Within P s (State.ethFlush s n) := by
  unfold State.ethFlush
  with_reducible repeat' first
    | assumption | exact Within.refl _ _ | apply Within.trans ?_ (State.updEpt_within _ _ _ ?_)
    | apply Within.trans ?_ (State.updEth_within _ _ _ ?_) | apply Within.ite | apply Within.foldl (fun _ _ => ?_) ?_ _

theorem State.ethDmaErr_within {P : Part → Bool} (s : State) (n : Nat) (d : Nat) (tx : Bool) (h_j3 : P .j3 = true)
    (h_regs : P .regs = true) (h_bytes : P .bytes = true) (h_cad : P .cad = true) (h_net : P .net = true) :
    Within P s (State.ethDmaErr s n d tx) := by
  unfold State.ethDmaErr
  with_reducible repeat' first
    | assumption | exact Within.refl _ _ | apply Within.trans ?_ (State.setLe_within _ _ _ _ ?_)
    | apply Within.trans ?_ (State.updEth_within _ _ _ ?_) | apply Within.trans ?_ (State.post_within _ _ _ _ ?_ ?_ ?_)
    | apply Within.trans ?_ (State.flt_within _ _ _ _ ?_) | apply Within.ite

theorem State.ethNext_within {P : Part → Bool} (s : State) (n : Nat) (ecc : Ecc) (h_free : P .free = true) (h_resp : P .resp = true)
    (h_j3 : P .j3 = true) (h_regs : P .regs = true) (h_bytes : P .bytes = true) (h_cad : P .cad = true) (h_pwm : P .pwm = true)
    (h_safe : P .safe = true) (h_net : P .net = true) :
    Within P s (State.ethNext s n ecc) := by
  unfold State.ethNext
  with_reducible repeat' first
    | assumption | exact Within.refl _ _ | apply Within.trans ?_ (State.sramRead_within _ _ _ _ ?_ ?_ ?_ ?_ ?_ ?_ ?_)
    | apply Within.trans ?_ (State.strikeSram_within _ _ ?_ ?_)
    | apply Within.trans ?_ (State.ethDmaErr_within _ _ _ _ ?_ ?_ ?_ ?_ ?_) | apply Within.trans ?_ (State.updEth_within _ _ _ ?_)
    | apply Within.trans ?_ (State.errResp_within _ _ _ _ _ ?_ ?_ ?_ ?_) | apply Within.ite

theorem State.ethStore_within {P : Part → Bool} (s : State) (n : Nat) (f : List Byte) (ecc : Ecc) (h_free : P .free = true)
    (h_resp : P .resp = true) (h_j3 : P .j3 = true) (h_regs : P .regs = true) (h_bytes : P .bytes = true) (h_cad : P .cad = true)
    (h_pwm : P .pwm = true) (h_safe : P .safe = true) (h_net : P .net = true) :
    Within P s (State.ethStore s n f ecc) := by
  unfold State.ethStore
  with_reducible repeat' first
    | assumption | exact Within.refl _ _ | apply Within.trans ?_ (State.evt_within _ _ _ _ ?_)
    | apply Within.trans ?_ (State.inc_within _ _ ?_) | apply Within.trans ?_ (State.sramRead_within _ _ _ _ ?_ ?_ ?_ ?_ ?_ ?_ ?_)
    | apply Within.trans ?_ (State.strikeSram_within _ _ ?_ ?_)
    | apply Within.trans ?_ (State.ethDmaErr_within _ _ _ _ ?_ ?_ ?_ ?_ ?_)
    | apply Within.trans ?_ (State.errResp_within _ _ _ _ _ ?_ ?_ ?_ ?_) | apply Within.trans ?_ (State.setByte_within _ _ _ ?_)
    | apply Within.trans ?_ (State.setLe_within _ _ _ _ ?_) | apply Within.trans ?_ (State.setFld_within _ _ _ ?_)
    | apply Within.ite | apply Within.foldl (fun _ _ => ?_) ?_ _

theorem State.ethReceive_within {P : Part → Bool} (s : State) (n : Nat) (f : List Byte) (ecc : Ecc) (h_free : P .free = true)
    (h_resp : P .resp = true) (h_j3 : P .j3 = true) (h_regs : P .regs = true) (h_bytes : P .bytes = true) (h_cad : P .cad = true)
    (h_pwm : P .pwm = true) (h_safe : P .safe = true) (h_net : P .net = true) :
    Within P s (State.ethReceive s n f ecc) := by
  unfold State.ethReceive
  with_reducible repeat' first
    | assumption | exact Within.refl _ _ | exact Within.id_ _ _
    | apply Within.trans ?_ (State.ethStore_within _ _ _ _ ?_ ?_ ?_ ?_ ?_ ?_ ?_ ?_ ?_)
    | apply Within.trans ?_ (State.inc_within _ _ ?_) | apply Within.each (fun _ _ => ?_) _ ?_
    | apply Within.trans ?_ (State.eptCopy_within _ _ _ _ ?_ ?_ ?_ ?_ ?_) | apply Within.ite | split | (dsimp only; split)

theorem State.ethCtl_within {P : Part → Bool} (s : State) (m : Master) (n : Nat) (v : Word) (h_free : P .free = true)
    (h_resp : P .resp = true) (h_j3 : P .j3 = true) (h_regs : P .regs = true) (h_cad : P .cad = true) (h_net : P .net = true) :
    Within P s (State.ethCtl s m n v) := by
  unfold State.ethCtl
  with_reducible repeat' first
    | assumption | exact Within.refl _ _ | exact Within.id_ _ _
    | apply Within.trans ?_ (State.write_within _ _ _ _ _ ?_ ?_ ?_ ?_ ?_ (fun _ => ?_))
    | apply Within.trans ?_ (State.wr_within _ _ _ ?_) | apply Within.trans ?_ (State.updEth_within _ _ _ ?_) | apply Within.ite

theorem State.ethLink_within {P : Part → Bool} (s : State) (n : Nat) (up : Bool) (h_j3 : P .j3 = true) (h_regs : P .regs = true)
    (h_cad : P .cad = true) (h_safe : P .safe = true) (h_net : P .net = true) :
    Within P s (State.ethLink s n up) := by
  unfold State.ethLink
  with_reducible repeat' first
    | assumption | exact Within.refl _ _ | apply Within.trans ?_ (State.evt_within _ _ _ _ ?_)
    | apply Within.trans ?_ (State.setFld_within _ _ _ ?_) | apply Within.trans ?_ (State.ethFlush_within _ _ ?_ ?_)
    | apply Within.trans ?_ (State.post_within _ _ _ _ ?_ ?_ ?_) | apply Within.trans ?_ (State.inc_within _ _ ?_)
    | apply Within.ite

theorem State.netsDown_within {P : Part → Bool} (s : State) (h_j3 : P .j3 = true) (h_regs : P .regs = true) (h_cad : P .cad = true)
    (h_safe : P .safe = true) (h_net : P .net = true) (h_pwr : P .pwr = true) :
    Within P s (State.netsDown s) := by
  unfold State.netsDown
  with_reducible repeat' first
    | assumption | exact Within.refl _ _ | apply Within.trans ?_ (State.ethLink_within _ _ _ ?_ ?_ ?_ ?_ ?_) | apply Within.ite
    | apply Within.pwr ?_ ?_ _

theorem State.netsShed_within {P : Part → Bool} (s : State) (h_j3 : P .j3 = true) (h_regs : P .regs = true) (h_cad : P .cad = true)
    (h_safe : P .safe = true) (h_net : P .net = true) :
    Within P s (State.netsShed s) := by
  unfold State.netsShed
  with_reducible repeat' first
    | assumption | exact Within.refl _ _ | exact Within.id_ _ _ | apply Within.each (fun _ _ => ?_) _ ?_
    | apply Within.trans ?_ (State.setFld_within _ _ _ ?_) | apply Within.trans ?_ (State.updCan_within _ _ _ ?_)
    | apply Within.trans ?_ (State.ethLink_within _ _ _ ?_ ?_ ?_ ?_ ?_) | apply Within.trans ?_ (State.updEth_within _ _ _ ?_)

theorem execEthFrameReceived_within {P : Part → Bool} (n : Fin 2) (bytes : List Byte) (fcsOk : Bool) (ecc : Ecc) (s : State)
    (h_free : P .free = true) (h_resp : P .resp = true) (h_j3 : P .j3 = true) (h_regs : P .regs = true) (h_bytes : P .bytes = true)
    (h_cad : P .cad = true) (h_pwm : P .pwm = true) (h_safe : P .safe = true) (h_net : P .net = true) :
    WithinOut P s (execEthFrameReceived n bytes fcsOk ecc s) := by
  unfold execEthFrameReceived
  with_reducible repeat' first
    | assumption | exact Within.refl _ _ | apply WithinOut.next | apply Within.trans ?_ (State.inc_within _ _ ?_)
    | apply Within.trans ?_ (State.ethReceive_within _ _ _ _ ?_ ?_ ?_ ?_ ?_ ?_ ?_ ?_ ?_) | apply Within.ite | apply WithinOut.ite

theorem execEthTxKick_within {P : Part → Bool} (m : Master) (n : Fin 2) (ecc : Ecc) (s : State) (h_free : P .free = true)
    (h_resp : P .resp = true) (h_j3 : P .j3 = true) (h_regs : P .regs = true) (h_bytes : P .bytes = true) (h_cad : P .cad = true)
    (h_pwm : P .pwm = true) (h_safe : P .safe = true) (h_net : P .net = true) :
    WithinOut P s (execEthTxKick m n ecc s) := by
  unfold execEthTxKick
  with_reducible repeat' first
    | assumption | exact Within.refl _ _ | exact Within.id_ _ _ | apply WithinOut.next
    | apply Within.trans ?_ (State.write_within _ _ _ _ _ ?_ ?_ ?_ ?_ ?_ (fun _ => ?_))
    | apply Within.trans ?_ (State.ethNext_within _ _ _ ?_ ?_ ?_ ?_ ?_ ?_ ?_ ?_ ?_)

theorem execEthTxDone_within {P : Part → Bool} (n : Fin 2) (ecc : Ecc) (s : State) (h_free : P .free = true) (h_resp : P .resp = true)
    (h_j3 : P .j3 = true) (h_regs : P .regs = true) (h_bytes : P .bytes = true) (h_cad : P .cad = true) (h_pwm : P .pwm = true)
    (h_safe : P .safe = true) (h_net : P .net = true) :
    WithinOut P s (execEthTxDone n ecc s) := by
  unfold execEthTxDone
  with_reducible repeat' first
    | assumption | exact Within.refl _ _ | apply WithinOut.next | apply Within.trans ?_ (State.setLe_within _ _ _ _ ?_)
    | apply Within.trans ?_ (State.evt_within _ _ _ _ ?_) | apply Within.trans ?_ (State.setFld_within _ _ _ ?_)
    | apply Within.trans ?_ (State.ethNext_within _ _ _ ?_ ?_ ?_ ?_ ?_ ?_ ?_ ?_ ?_)
    | apply Within.trans ?_ (State.ethFlush_within _ _ ?_ ?_) | apply Within.trans ?_ (State.updEth_within _ _ _ ?_)
    | apply Within.ite | apply WithinOut.ite

theorem execEthLinkChange_within {P : Part → Bool} (n : Fin 2) (up : Bool) (sqi : Fin 8) (s : State) (h_j3 : P .j3 = true)
    (h_regs : P .regs = true) (h_cad : P .cad = true) (h_safe : P .safe = true) (h_net : P .net = true) :
    WithinOut P s (execEthLinkChange n up sqi s) := by
  unfold execEthLinkChange
  with_reducible repeat' first
    | assumption | exact Within.refl _ _ | apply WithinOut.next | apply Within.trans ?_ (State.ethLink_within _ _ _ ?_ ?_ ?_ ?_ ?_)
    | apply Within.trans ?_ (State.setFld_within _ _ _ ?_)

theorem State.eptHand_within {P : Part → Bool} (s : State) (e : Nat) (pathB : Bool) (p : List Byte) (h_free : P .free = true)
    (h_regs : P .regs = true) (h_canRam : P .canRam = true) (h_safe : P .safe = true) (h_net : P .net = true) :
    Within P s (State.eptHand s e pathB p) := by
  unfold State.eptHand
  with_reducible repeat' first
    | assumption | exact Within.refl _ _ | exact Within.id_ _ _ | apply Within.trans ?_ (State.updEpt_within _ _ _ ?_)
    | apply Within.trans ?_ (State.ethFlush_within _ _ ?_ ?_) | apply Within.trans ?_ (State.updEth_within _ _ _ ?_)
    | apply Within.trans ?_ (State.tookFree_within _ ?_) | apply Within.trans ?_ (State.setCanS_within _ _ _ _ _ ?_)
    | apply Within.each (fun _ _ => ?_) _ ?_ | apply Within.trans ?_ (State.canAccept_within _ _ _ ?_ ?_ ?_) | apply Within.ite

theorem State.eptSend_within {P : Part → Bool} (s : State) (m : Master) (e : Nat) (epoch : Nat) (h_free : P .free = true)
    (h_resp : P .resp = true) (h_j3 : P .j3 = true) (h_regs : P .regs = true) (h_canRam : P .canRam = true) (h_cad : P .cad = true)
    (h_safe : P .safe = true) (h_net : P .net = true) :
    Within P s (State.eptSend s m e epoch) := by
  unfold State.eptSend
  with_reducible repeat' first
    | assumption | exact Within.refl _ _ | exact Within.id_ _ _
    | apply Within.trans ?_ (State.write_within _ _ _ _ _ ?_ ?_ ?_ ?_ ?_ (fun _ => ?_))
    | apply Within.trans ?_ (State.stale_within _ _ _ ?_) | apply Within.trans ?_ (State.setFld_within _ _ _ ?_)
    | apply Within.trans ?_ (State.eptHand_within _ _ _ _ ?_ ?_ ?_ ?_ ?_) | apply Within.ite

theorem execEptalSend_within {P : Part → Bool} (m : Master) (k : Fin 16) (epoch : Fin 256) (s : State) (h_free : P .free = true)
    (h_resp : P .resp = true) (h_j3 : P .j3 = true) (h_regs : P .regs = true) (h_canRam : P .canRam = true) (h_cad : P .cad = true)
    (h_safe : P .safe = true) (h_net : P .net = true) :
    WithinOut P s (execEptalSend m k epoch s) := by
  unfold execEptalSend
  with_reducible repeat' first
    | assumption | exact Within.refl _ _ | apply WithinOut.next
    | apply Within.trans ?_ (State.eptSend_within _ _ _ _ ?_ ?_ ?_ ?_ ?_ ?_ ?_ ?_)

theorem execAuxlCommandFrame_within {P : Part → Bool} (bytes : List Byte) (framing : Bool) (s : State) (h_j3 : P .j3 = true)
    (h_regs : P .regs = true) (h_cad : P .cad = true) :
    WithinOut P s (execAuxlCommandFrame bytes framing s) := by
  unfold execAuxlCommandFrame
  with_reducible repeat' first
    | assumption | exact Within.refl _ _ | apply WithinOut.next | apply Within.trans ?_ (State.inc_within _ _ ?_)
    | apply Within.trans ?_ (State.wr_within _ _ _ ?_) | apply Within.trans ?_ (State.evt_within _ _ _ _ ?_)
    | apply Within.trans ?_ (State.setFld_within _ _ _ ?_) | apply Within.trans ?_ (State.post_within _ _ _ _ ?_ ?_ ?_)
    | apply Within.ite | apply WithinOut.ite

theorem execAuxlRxRead_within {P : Part → Bool} (m : Master) (s : State) (h_resp : P .resp = true) (h_regs : P .regs = true) :
    WithinOut P s (execAuxlRxRead m s) := by
  unfold execAuxlRxRead
  with_reducible repeat' first
    | assumption | exact Within.refl _ _ | apply WithinOut.next | apply Within.trans ?_ (State.okResp_within _ _ ?_)
    | apply Within.trans ?_ (State.setFld_within _ _ _ ?_) | apply Within.ite | apply WithinOut.ite

theorem execAuxlLinkTimeout_within {P : Part → Bool} (s : State) (h_j3 : P .j3 = true) (h_regs : P .regs = true) (h_cad : P .cad = true) :
    WithinOut P s (execAuxlLinkTimeout s) := by
  unfold execAuxlLinkTimeout
  with_reducible repeat' first
    | assumption | exact Within.refl _ _ | apply WithinOut.next | apply Within.trans ?_ (State.post_within _ _ _ _ ?_ ?_ ?_)
    | apply Within.trans ?_ (State.inc_within _ _ ?_) | apply Within.trans ?_ (State.evt_within _ _ _ _ ?_)
    | apply Within.trans ?_ (State.setFld_within _ _ _ ?_) | apply Within.trans ?_ (State.opTo_within _ _ _ ?_) | apply Within.ite
    | apply WithinOut.ite

theorem execAuxlAckSend_within {P : Part → Bool} (m : Master) (s : State) (h_free : P .free = true) (h_resp : P .resp = true)
    (h_j3 : P .j3 = true) (h_regs : P .regs = true) (h_cad : P .cad = true) (h_net : P .net = true) :
    WithinOut P s (execAuxlAckSend m s) := by
  unfold execAuxlAckSend
  with_reducible repeat' first
    | assumption | exact Within.refl _ _ | exact Within.id_ _ _ | apply WithinOut.next
    | apply Within.trans ?_ (State.write_within _ _ _ _ _ ?_ ?_ ?_ ?_ ?_ (fun _ => ?_))
    | apply Within.trans ?_ (State.updNet_within _ _ ?_) | apply Within.trans ?_ (State.setFld_within _ _ _ ?_) | apply Within.ite
    | apply WithinOut.ite

theorem execAuxlTxDone_within {P : Part → Bool} (s : State) (h_regs : P .regs = true) :
    WithinOut P s (execAuxlTxDone s) := by
  unfold execAuxlTxDone
  with_reducible repeat' first
    | assumption | exact Within.refl _ _ | apply WithinOut.next | apply Within.trans ?_ (State.evt_within _ _ _ _ ?_)
    | apply Within.trans ?_ (State.setFld_within _ _ _ ?_) | apply Within.ite | apply WithinOut.ite

theorem State.updRec_within {P : Part → Bool} (s : State) (f : Rec → Rec) (h_rcd : P .rcd = true) :
    Within P s (State.updRec s f) := by
  unfold State.updRec
  with_reducible repeat' first
    | assumption | exact Within.refl _ _ | apply Within.rcd ?_ ?_ _

theorem State.putBytes_within {P : Part → Bool} (s : State) (a : Nat) (l : List Byte) (h_bytes : P .bytes = true) :
    Within P s (State.putBytes s a l) := by
  unfold State.putBytes
  with_reducible repeat' first
    | assumption | exact Within.refl _ _ | apply Within.trans ?_ (State.setByte_within _ _ _ ?_)
    | apply Within.foldl (fun _ _ => ?_) ?_ _

theorem State.recTakeSeq_within {P : Part → Bool} (s : State) (h_regs : P .regs = true) :
    Within P s (State.recTakeSeq s) := by
  unfold State.recTakeSeq
  with_reducible repeat' first
    | assumption | exact Within.refl _ _ | apply Within.trans ?_ (State.setFld_within _ _ _ ?_)

theorem State.recPut_within {P : Part → Bool} (s : State) (p : Post) (h_regs : P .regs = true) (h_bytes : P .bytes = true)
    (h_rcd : P .rcd = true) :
    Within P s (State.recPut s p) := by
  unfold State.recPut
  with_reducible repeat' first
    | assumption | exact Within.refl _ _ | apply Within.trans ?_ (State.putBytes_within _ _ _ ?_)
    | apply Within.trans ?_ (State.recTakeSeq_within _ ?_) | apply Within.trans ?_ (State.setFld_within _ _ _ ?_)
    | apply Within.trans ?_ (State.updRec_within _ _ ?_) | apply Within.trans ?_ (State.evt_within _ _ _ _ ?_)
    | apply Within.trans ?_ (State.inc_within _ _ ?_) | apply Within.ite

theorem State.recOwn_within {P : Part → Bool} (s : State) (code : Nat) (data : Nat) (h_regs : P .regs = true) (h_bytes : P .bytes = true)
    (h_rcd : P .rcd = true) :
    Within P s (State.recOwn s code data) := by
  unfold State.recOwn
  with_reducible repeat' first
    | assumption | exact Within.refl _ _ | apply Within.trans ?_ (State.recPut_within _ _ ?_ ?_ ?_)

theorem State.rateEnd_within {P : Part → Bool} (s : State) (h_regs : P .regs = true) (h_bytes : P .bytes = true) (h_rcd : P .rcd = true) :
    Within P s (State.rateEnd s) := by
  unfold State.rateEnd
  with_reducible repeat' first
    | assumption | exact Within.refl _ _ | apply Within.trans ?_ (State.updRec_within _ _ ?_)
    | apply Within.trans ?_ (State.recPut_within _ _ ?_ ?_ ?_) | apply Within.foldl (fun _ _ => ?_) ?_ _

theorem State.recSync_within {P : Part → Bool} (s : State) (h_regs : P .regs = true) (h_bytes : P .bytes = true) (h_rcd : P .rcd = true) :
    Within P s (State.recSync s) := by
  unfold State.recSync
  with_reducible repeat' first
    | assumption | exact Within.refl _ _ | apply Within.trans ?_ (State.setFld_within _ _ _ ?_)
    | apply Within.trans ?_ (State.updRec_within _ _ ?_) | apply Within.trans ?_ (State.rateEnd_within _ ?_ ?_ ?_)
    | apply Within.ite

theorem State.recMerge_within {P : Part → Bool} (s : State) (h_bytes : P .bytes = true) :
    Within P s (State.recMerge s) := by
  unfold State.recMerge
  with_reducible repeat' first
    | assumption | exact Within.refl _ _ | apply Within.trans ?_ (State.setByte_within _ _ _ ?_)
    | apply Within.trans ?_ (State.putBytes_within _ _ _ ?_)

theorem State.recLimited_within {P : Part → Bool} (s : State) (p : Post) (h_regs : P .regs = true) (h_bytes : P .bytes = true)
    (h_rcd : P .rcd = true) :
    Within P s (State.recLimited s p) := by
  unfold State.recLimited
  with_reducible repeat' first
    | assumption | exact Within.refl _ _ | apply Within.trans ?_ (State.recPut_within _ _ ?_ ?_ ?_)
    | apply Within.trans ?_ (State.updRec_within _ _ ?_) | apply Within.trans ?_ (State.evt_within _ _ _ _ ?_)
    | apply Within.trans ?_ (State.inc_within _ _ ?_) | apply Within.trans ?_ (State.recTakeSeq_within _ ?_) | apply Within.ite
    | split | (dsimp only; split)

theorem State.recCapture_within {P : Part → Bool} (a0 : State) (h_j3 : P .j3 = true) (h_regs : P .regs = true) (h_bytes : P .bytes = true)
    (h_rcd : P .rcd = true) :
    Within P a0 (State.recCapture a0) := by
  unfold State.recCapture
  with_reducible repeat' first
    | exact Within.j3Rest h_j3 (by assumption) | assumption | exact Within.refl _ _
    | apply Within.trans ?_ (State.recSync_within _ ?_ ?_ ?_) | apply Within.trans ?_ (State.recLimited_within _ _ ?_ ?_ ?_)
    | apply Within.trans ?_ (State.recPut_within _ _ ?_ ?_ ?_) | apply Within.trans ?_ (State.recMerge_within _ ?_)
    | apply Within.ite | split | (dsimp only; split)

theorem State.histZero_within {P : Part → Bool} (s : State) (k : Nat) (h_bytes : P .bytes = true) :
    Within P s (State.histZero s k) := by
  unfold State.histZero
  with_reducible repeat' first
    | assumption | exact Within.refl _ _ | apply Within.trans ?_ (State.clearMem_within _ _ _ ?_)

theorem State.trackZero_within {P : Part → Bool} (s : State) (k : Nat) (h_bytes : P .bytes = true) :
    Within P s (State.trackZero s k) := by
  unfold State.trackZero
  with_reducible repeat' first
    | assumption | exact Within.refl _ _ | apply Within.trans ?_ (State.setLe_within _ _ _ _ ?_)
    | apply Within.trans ?_ (State.clearMem_within _ _ _ ?_)

theorem State.histCount_within {P : Part → Bool} (s : State) (k : Nat) (v : Word) (h_free : P .free = true) (h_bytes : P .bytes = true) :
    Within P s (State.histCount s k v) := by
  unfold State.histCount
  with_reducible repeat' first
    | assumption | exact Within.refl _ _ | apply Within.trans ?_ (State.tookFree_within _ ?_)
    | apply Within.trans ?_ (State.setLe_within _ _ _ _ ?_) | apply Within.ite

theorem State.trackCount_within {P : Part → Bool} (s : State) (k : Nat) (v : Word) (h_bytes : P .bytes = true) :
    Within P s (State.trackCount s k v) := by
  unfold State.trackCount
  with_reducible repeat' first
    | assumption | exact Within.refl _ _ | apply Within.trans ?_ (State.setLe_within _ _ _ _ ?_) | apply Within.ite

theorem State.histSample_within {P : Part → Bool} (s : State) (h_free : P .free = true) (h_regs : P .regs = true)
    (h_bytes : P .bytes = true) :
    Within P s (State.histSample s) := by
  unfold State.histSample
  with_reducible repeat' first
    | assumption | exact Within.refl _ _ | exact Within.id_ _ _ | apply Within.trans ?_ (State.evt_within _ _ _ _ ?_)
    | apply Within.trans ?_ (State.inc_within _ _ ?_) | apply Within.each (fun _ _ => ?_) _ ?_
    | apply Within.trans ?_ (State.histCount_within _ _ _ ?_ ?_) | apply Within.trans ?_ (State.trackCount_within _ _ _ ?_)
    | apply Within.ite | split | (dsimp only; split)

theorem State.logReserve_within {P : Part → Bool} (s : State) (h_regs : P .regs = true) (h_bytes : P .bytes = true) :
    Within P s (State.logReserve s) := by
  unfold State.logReserve
  with_reducible repeat' first
    | assumption | exact Within.refl _ _ | apply Within.trans ?_ (State.clearMem_within _ _ _ ?_)
    | apply Within.trans ?_ (State.incBy_within _ _ _ ?_) | apply Within.trans ?_ (State.setFld_within _ _ _ ?_) | apply Within.ite

theorem State.logRecord_within {P : Part → Bool} (s : State) (h_regs : P .regs = true) (h_bytes : P .bytes = true) :
    Within P s (State.logRecord s) := by
  unfold State.logRecord
  with_reducible repeat' first
    | assumption | exact Within.refl _ _ | apply Within.trans ?_ (State.putBytes_within _ _ _ ?_)
    | apply Within.trans ?_ (State.setFld_within _ _ _ ?_) | apply Within.trans ?_ (State.logReserve_within _ ?_ ?_)
    | apply Within.ite

theorem State.logRecords_within {P : Part → Bool} (s : State) (n : Nat) (h_regs : P .regs = true) (h_bytes : P .bytes = true) :
    Within P s (State.logRecords s n) := by
  unfold State.logRecords
  with_reducible repeat' first
    | assumption | exact Within.refl _ _ | exact Within.id_ _ _ | apply Within.each (fun _ _ => ?_) _ ?_
    | apply Within.trans ?_ (State.logRecord_within _ ?_ ?_)

theorem State.recSnapshot_within {P : Part → Bool} (s : State) (h_bytes : P .bytes = true) (h_rcd : P .rcd = true) :
    Within P s (State.recSnapshot s) := by
  unfold State.recSnapshot
  with_reducible repeat' first
    | assumption | exact Within.refl _ _ | apply Within.trans ?_ (State.updRec_within _ _ ?_)
    | apply Within.trans ?_ (State.forget_within _ _ _ ?_)

theorem State.norDone_within {P : Part → Bool} (s : State) (page : Option (List Byte)) (h_regs : P .regs = true)
    (h_bytes : P .bytes = true) (h_rcd : P .rcd = true) :
    Within P s (State.norDone s page) := by
  unfold State.norDone
  with_reducible repeat' first
    | assumption | exact Within.refl _ _ | apply Within.trans ?_ (State.updRec_within _ _ ?_)
    | apply Within.trans ?_ (State.putBytes_within _ _ _ ?_) | apply Within.trans ?_ (State.inc_within _ _ ?_)
    | apply Within.trans ?_ (State.flt_within _ _ _ _ ?_) | apply Within.trans ?_ (State.clearMem_within _ _ _ ?_)
    | apply Within.trans ?_ (State.evt_within _ _ _ _ ?_) | apply Within.trans ?_ (State.setFld_within _ _ _ ?_) | apply Within.ite
    | split | (dsimp only; split)

theorem State.norCut_within {P : Part → Bool} (s : State) (h_regs : P .regs = true) (h_bytes : P .bytes = true) (h_rcd : P .rcd = true) :
    Within P s (State.norCut s) := by
  unfold State.norCut
  with_reducible repeat' first
    | assumption | exact Within.refl _ _ | apply Within.trans ?_ (State.setFld_within _ _ _ ?_)
    | apply Within.trans ?_ (State.updRec_within _ _ ?_) | apply Within.trans ?_ (State.forget_within _ _ _ ?_)
    | apply Within.trans ?_ (State.norDone_within _ _ ?_ ?_ ?_) | split | (dsimp only; split)

theorem State.norGo_within {P : Part → Bool} (s : State) (m : Master) (op : Nat) (h_free : P .free = true) (h_resp : P .resp = true)
    (h_j3 : P .j3 = true) (h_regs : P .regs = true) (h_cad : P .cad = true) (h_rcd : P .rcd = true) :
    Within P s (State.norGo s m op) := by
  unfold State.norGo
  with_reducible repeat' first
    | assumption | exact Within.refl _ _ | exact Within.id_ _ _
    | apply Within.trans ?_ (State.write_within _ _ _ _ _ ?_ ?_ ?_ ?_ ?_ (fun _ => ?_))
    | apply Within.trans ?_ (State.updRec_within _ _ ?_) | apply Within.trans ?_ (State.setFld_within _ _ _ ?_) | apply Within.ite

theorem State.bistAbort_within {P : Part → Bool} (s : State) (h_j3 : P .j3 = true) (h_regs : P .regs = true) (h_bytes : P .bytes = true)
    (h_cad : P .cad = true) (h_rcd : P .rcd = true) :
    Within P s (State.bistAbort s) := by
  unfold State.bistAbort
  with_reducible repeat' first
    | assumption | exact Within.refl _ _ | apply Within.trans ?_ (State.evt_within _ _ _ _ ?_)
    | apply Within.trans ?_ (State.setFld_within _ _ _ ?_) | apply Within.trans ?_ (State.recSync_within _ ?_ ?_ ?_)
    | apply Within.trans ?_ (State.post_within _ _ _ _ ?_ ?_ ?_) | apply Within.ite

theorem State.recTrigger_within {P : Part → Bool} (s : State) (cause : Nat) (h_j3 : P .j3 = true) (h_regs : P .regs = true)
    (h_bytes : P .bytes = true) (h_cad : P .cad = true) (h_rcd : P .rcd = true) :
    Within P s (State.recTrigger s cause) := by
  unfold State.recTrigger
  with_reducible repeat' first
    | assumption | exact Within.refl _ _ | apply Within.trans ?_ (State.norCut_within _ ?_ ?_ ?_)
    | apply Within.trans ?_ (State.bistAbort_within _ ?_ ?_ ?_ ?_ ?_) | apply Within.trans ?_ (State.updRec_within _ _ ?_)
    | apply Within.trans ?_ (State.setFld_within _ _ _ ?_) | apply Within.ite

theorem State.recClear_within {P : Part → Bool} (s : State) (cred : Nat) (scope : Nat) (h_j3 : P .j3 = true) (h_regs : P .regs = true)
    (h_bytes : P .bytes = true) (h_cad : P .cad = true) (h_rcd : P .rcd = true) :
    Within P s (State.recClear s cred scope) := by
  unfold State.recClear
  with_reducible repeat' first
    | assumption | exact Within.refl _ _ | exact Within.id_ _ _ | apply Within.trans ?_ (State.recOwn_within _ _ _ ?_ ?_ ?_)
    | apply Within.each (fun _ _ => ?_) _ ?_ | apply Within.trans ?_ (State.histZero_within _ _ ?_)
    | apply Within.trans ?_ (State.trackZero_within _ _ ?_) | apply Within.trans ?_ (State.recTrigger_within _ _ ?_ ?_ ?_ ?_ ?_)
    | apply Within.trans ?_ (State.updRec_within _ _ ?_) | apply Within.ite

theorem State.recClearAccept_within {P : Part → Bool} (s : State) (cred : Nat) (scope : Nat) (h_j3 : P .j3 = true)
    (h_regs : P .regs = true) (h_bytes : P .bytes = true) (h_cad : P .cad = true) (h_rcd : P .rcd = true) :
    Within P s (State.recClearAccept s cred scope) := by
  unfold State.recClearAccept
  with_reducible repeat' first
    | assumption | exact Within.refl _ _ | apply Within.trans ?_ (State.updRec_within _ _ ?_)
    | apply Within.trans ?_ (State.recClear_within _ _ _ ?_ ?_ ?_ ?_ ?_) | apply Within.ite

theorem State.recClearEffect_within {P : Part → Bool} (s : State) (n : Nat) (h_regs : P .regs = true) (h_rcd : P .rcd = true) :
    Within P s (State.recClearEffect s n) := by
  unfold State.recClearEffect
  with_reducible repeat' first
    | assumption | exact Within.refl _ _ | apply Within.trans ?_ (State.evt_within _ _ _ _ ?_)
    | apply Within.trans ?_ (State.updRec_within _ _ ?_) | apply Within.trans ?_ (State.setFld_within _ _ _ ?_) | apply Within.ite
    | split | (dsimp only; split)

theorem State.clearGo_within {P : Part → Bool} (s : State) (h_j3 : P .j3 = true) (h_regs : P .regs = true) (h_bytes : P .bytes = true)
    (h_cad : P .cad = true) (h_rcd : P .rcd = true) :
    Within P s (State.clearGo s) := by
  unfold State.clearGo
  with_reducible repeat' first
    | assumption | exact Within.refl _ _ | apply Within.trans ?_ (State.recClear_within _ _ _ ?_ ?_ ?_ ?_ ?_)
    | apply Within.trans ?_ (State.updRec_within _ _ ?_) | split | (dsimp only; split)

theorem State.drainNets_within {P : Part → Bool} (s : State) (h_j3 : P .j3 = true) (h_regs : P .regs = true) (h_cad : P .cad = true)
    (h_safe : P .safe = true) (h_net : P .net = true) (h_pwr : P .pwr = true) :
    Within P s (State.drainNets s) := by
  unfold State.drainNets
  with_reducible repeat' first
    | assumption | exact Within.refl _ _ | apply Within.trans ?_ (State.netsDown_within _ ?_ ?_ ?_ ?_ ?_ ?_) | apply Within.ite

theorem State.flushDone_within {P : Part → Bool} (s : State) (ok : Bool) (h_j3 : P .j3 = true) (h_regs : P .regs = true)
    (h_bytes : P .bytes = true) (h_cad : P .cad = true) (h_safe : P .safe = true) (h_net : P .net = true) (h_rcd : P .rcd = true)
    (h_pwr : P .pwr = true) :
    Within P s (State.flushDone s ok) := by
  unfold State.flushDone
  with_reducible repeat' first
    | assumption | exact Within.refl _ _ | apply Within.trans ?_ (State.setFld_within _ _ _ ?_)
    | apply Within.trans ?_ (State.post_within _ _ _ _ ?_ ?_ ?_) | apply Within.trans ?_ (State.flt_within _ _ _ _ ?_)
    | apply Within.trans ?_ (State.opTo_within _ _ _ ?_) | apply Within.trans ?_ (State.clearGo_within _ ?_ ?_ ?_ ?_ ?_)
    | apply Within.trans ?_ (State.drainNets_within _ ?_ ?_ ?_ ?_ ?_ ?_) | apply Within.trans ?_ (State.logRecords_within _ _ ?_ ?_)
    | apply Within.trans ?_ (State.recSnapshot_within _ ?_ ?_) | apply Within.trans ?_ (State.evt_within _ _ _ _ ?_)
    | apply Within.trans ?_ (State.recClearEffect_within _ _ ?_ ?_) | apply Within.trans ?_ (State.updRec_within _ _ ?_)
    | apply Within.ite

theorem State.flushStep4_within {P : Part → Bool} (s : State) (n : Nat) (h_regs : P .regs = true) (h_bytes : P .bytes = true)
    (h_rcd : P .rcd = true) :
    Within P s (State.flushStep4 s n) := by
  unfold State.flushStep4
  with_reducible repeat' first
    | assumption | exact Within.refl _ _ | apply Within.trans ?_ (State.recClearEffect_within _ _ ?_ ?_)
    | apply Within.trans ?_ (State.updRec_within _ _ ?_) | apply Within.trans ?_ (State.logRecords_within _ _ ?_ ?_)
    | apply Within.ite

theorem State.recClock_within {P : Part → Bool} (s : State) (h_j3 : P .j3 = true) (h_regs : P .regs = true) (h_bytes : P .bytes = true)
    (h_cad : P .cad = true) (h_safe : P .safe = true) (h_rcd : P .rcd = true) :
    Within P s (State.recClock s) := by
  unfold State.recClock
  with_reducible repeat' first
    | assumption | exact Within.refl _ _ | apply Within.trans ?_ (State.recSync_within _ ?_ ?_ ?_)
    | apply Within.trans ?_ (State.recTrigger_within _ _ ?_ ?_ ?_ ?_ ?_) | apply Within.trans ?_ (State.updSafe_within _ _ ?_)
    | apply Within.ite

theorem State.recSecond_within {P : Part → Bool} (s : State) (h_regs : P .regs = true) :
    Within P s (State.recSecond s) := by
  unfold State.recSecond
  with_reducible repeat' first
    | assumption | exact Within.refl _ _ | apply Within.trans ?_ (State.setFld_within _ _ _ ?_)

theorem execRecordCapture_within {P : Part → Bool} (s : State) (h_j3 : P .j3 = true) (h_regs : P .regs = true) (h_bytes : P .bytes = true)
    (h_rcd : P .rcd = true) :
    WithinOut P s (execRecordCapture s) := by
  unfold execRecordCapture
  with_reducible repeat' first
    | assumption | exact Within.refl _ _ | apply WithinOut.next | apply Within.trans ?_ (State.recCapture_within _ ?_ ?_ ?_ ?_)

theorem execRingRoomRecord_within {P : Part → Bool} (s : State) (h_regs : P .regs = true) (h_bytes : P .bytes = true)
    (h_rcd : P .rcd = true) :
    WithinOut P s (execRingRoomRecord s) := by
  unfold execRingRoomRecord
  with_reducible repeat' first
    | assumption | exact Within.refl _ _ | apply WithinOut.next | apply Within.trans ?_ (State.updRec_within _ _ ?_)
    | apply Within.trans ?_ (State.recOwn_within _ _ _ ?_ ?_ ?_) | apply Within.ite | apply WithinOut.ite

theorem execRateWindowEnd_within {P : Part → Bool} (s : State) (h_regs : P .regs = true) (h_bytes : P .bytes = true)
    (h_rcd : P .rcd = true) :
    WithinOut P s (execRateWindowEnd s) := by
  unfold execRateWindowEnd
  with_reducible repeat' first
    | assumption | exact Within.refl _ _ | apply WithinOut.next | apply Within.trans ?_ (State.rateEnd_within _ ?_ ?_ ?_)

theorem execStartFlush_within {P : Part → Bool} (s : State) (h_j3 : P .j3 = true) (h_regs : P .regs = true) (h_bytes : P .bytes = true)
    (h_cad : P .cad = true) (h_rcd : P .rcd = true) :
    WithinOut P s (execStartFlush s) := by
  unfold execStartFlush
  with_reducible repeat' first
    | assumption | exact Within.refl _ _ | apply WithinOut.next | apply Within.trans ?_ (State.recTrigger_within _ _ ?_ ?_ ?_ ?_ ?_)

theorem execFlushPeriodic_within {P : Part → Bool} (s : State) (h_j3 : P .j3 = true) (h_regs : P .regs = true) (h_bytes : P .bytes = true)
    (h_cad : P .cad = true) (h_rcd : P .rcd = true) :
    WithinOut P s (execFlushPeriodic s) := by
  unfold execFlushPeriodic
  with_reducible repeat' first
    | assumption | exact Within.refl _ _ | apply WithinOut.next | apply Within.trans ?_ (State.recTrigger_within _ _ ?_ ?_ ?_ ?_ ?_)

theorem execFlushBacklog_within {P : Part → Bool} (s : State) (h_j3 : P .j3 = true) (h_regs : P .regs = true) (h_bytes : P .bytes = true)
    (h_cad : P .cad = true) (h_rcd : P .rcd = true) :
    WithinOut P s (execFlushBacklog s) := by
  unfold execFlushBacklog
  with_reducible repeat' first
    | assumption | exact Within.refl _ _ | apply WithinOut.next | apply Within.trans ?_ (State.recTrigger_within _ _ ?_ ?_ ?_ ?_ ?_)
    | apply Within.ite | apply WithinOut.ite

theorem execFlushRequest_within {P : Part → Bool} (m : Master) (s : State) (h_free : P .free = true) (h_resp : P .resp = true)
    (h_j3 : P .j3 = true) (h_regs : P .regs = true) (h_bytes : P .bytes = true) (h_cad : P .cad = true) (h_rcd : P .rcd = true) :
    WithinOut P s (execFlushRequest m s) := by
  unfold execFlushRequest
  with_reducible repeat' first
    | assumption | exact Within.refl _ _ | exact Within.id_ _ _ | apply WithinOut.next
    | apply Within.trans ?_ (State.write_within _ _ _ _ _ ?_ ?_ ?_ ?_ ?_ (fun _ => ?_))
    | apply Within.trans ?_ (State.recTrigger_within _ _ ?_ ?_ ?_ ?_ ?_)

theorem execFlushDone_within {P : Part → Bool} (ok : Bool) (s : State) (h_j3 : P .j3 = true) (h_regs : P .regs = true)
    (h_bytes : P .bytes = true) (h_cad : P .cad = true) (h_safe : P .safe = true) (h_net : P .net = true) (h_rcd : P .rcd = true)
    (h_pwr : P .pwr = true) :
    WithinOut P s (execFlushDone ok s) := by
  unfold execFlushDone
  with_reducible repeat' first
    | assumption | exact Within.refl _ _ | apply WithinOut.next
    | apply Within.trans ?_ (State.flushDone_within _ _ ?_ ?_ ?_ ?_ ?_ ?_ ?_ ?_)

theorem execPfFlushEnd_within {P : Part → Bool} (s : State) (h_j3 : P .j3 = true) (h_regs : P .regs = true) (h_bytes : P .bytes = true)
    (h_cad : P .cad = true) (h_rcd : P .rcd = true) :
    WithinOut P s (execPfFlushEnd s) := by
  unfold execPfFlushEnd
  with_reducible repeat' first
    | assumption | exact Within.refl _ _ | apply WithinOut.next | apply Within.trans ?_ (State.flushStep4_within _ _ ?_ ?_ ?_)
    | apply Within.trans ?_ (State.updRec_within _ _ ?_) | apply Within.trans ?_ (State.setFld_within _ _ _ ?_)
    | apply Within.trans ?_ (State.clearGo_within _ ?_ ?_ ?_ ?_ ?_) | apply Within.ite | apply WithinOut.ite

theorem execClearEraseDone_within {P : Part → Bool} (s : State) (h_regs : P .regs = true) (h_bytes : P .bytes = true) :
    WithinOut P s (execClearEraseDone s) := by
  unfold execClearEraseDone
  with_reducible repeat' first
    | assumption | exact Within.refl _ _ | exact Within.id_ _ _ | apply WithinOut.next
    | apply Within.trans ?_ (State.setFld_within _ _ _ ?_) | apply Within.each (fun _ _ => ?_) _ ?_
    | apply Within.trans ?_ (State.clearMem_within _ _ _ ?_) | apply Within.ite | apply WithinOut.ite

theorem execNorProgramPage_within {P : Part → Bool} (m : Master) (s : State) (h_free : P .free = true) (h_resp : P .resp = true)
    (h_j3 : P .j3 = true) (h_regs : P .regs = true) (h_cad : P .cad = true) (h_rcd : P .rcd = true) :
    WithinOut P s (execNorProgramPage m s) := by
  unfold execNorProgramPage
  with_reducible repeat' first
    | assumption | exact Within.refl _ _ | apply WithinOut.next | apply Within.trans ?_ (State.norGo_within _ _ _ ?_ ?_ ?_ ?_ ?_ ?_)

theorem execNorEraseSector_within {P : Part → Bool} (m : Master) (s : State) (h_free : P .free = true) (h_resp : P .resp = true)
    (h_j3 : P .j3 = true) (h_regs : P .regs = true) (h_cad : P .cad = true) (h_rcd : P .rcd = true) :
    WithinOut P s (execNorEraseSector m s) := by
  unfold execNorEraseSector
  with_reducible repeat' first
    | assumption | exact Within.refl _ _ | apply WithinOut.next | apply Within.trans ?_ (State.norGo_within _ _ _ ?_ ?_ ?_ ?_ ?_ ?_)

theorem execNorResetDie_within {P : Part → Bool} (m : Master) (s : State) (h_free : P .free = true) (h_resp : P .resp = true)
    (h_j3 : P .j3 = true) (h_regs : P .regs = true) (h_cad : P .cad = true) (h_rcd : P .rcd = true) :
    WithinOut P s (execNorResetDie m s) := by
  unfold execNorResetDie
  with_reducible repeat' first
    | assumption | exact Within.refl _ _ | apply WithinOut.next | apply Within.trans ?_ (State.norGo_within _ _ _ ?_ ?_ ?_ ?_ ?_ ?_)

theorem execNorOpDone_within {P : Part → Bool} (page : Option (List Byte)) (s : State) (h_regs : P .regs = true)
    (h_bytes : P .bytes = true) (h_rcd : P .rcd = true) :
    WithinOut P s (execNorOpDone page s) := by
  unfold execNorOpDone
  with_reducible repeat' first
    | assumption | exact Within.refl _ _ | apply WithinOut.next | apply Within.trans ?_ (State.norDone_within _ _ ?_ ?_ ?_)

theorem execNorOpTimeout_within {P : Part → Bool} (s : State) (h_j3 : P .j3 = true) (h_regs : P .regs = true) (h_bytes : P .bytes = true)
    (h_cad : P .cad = true) (h_rcd : P .rcd = true) :
    WithinOut P s (execNorOpTimeout s) := by
  unfold execNorOpTimeout
  with_reducible repeat' first
    | assumption | exact Within.refl _ _ | apply WithinOut.next | apply Within.trans ?_ (State.forget_within _ _ _ ?_)
    | apply Within.trans ?_ (State.updRec_within _ _ ?_) | apply Within.trans ?_ (State.inc_within _ _ ?_)
    | apply Within.trans ?_ (State.setFld_within _ _ _ ?_) | apply Within.trans ?_ (State.post_within _ _ _ _ ?_ ?_ ?_)
    | apply Within.trans ?_ (State.flt_within _ _ _ _ ?_) | apply Within.trans ?_ (State.opTo_within _ _ _ ?_) | apply Within.ite
    | apply WithinOut.ite | split | (dsimp only; split)

theorem State.tmpShow_within {P : Part → Bool} (s : State) (addr : Nat) (l : List Nat) (h_free : P .free = true) (h_regs : P .regs = true) :
    Within P s (State.tmpShow s addr l) := by
  unfold State.tmpShow
  with_reducible repeat' first
    | assumption | exact Within.refl _ _ | apply Within.trans ?_ (State.setFld_within _ _ _ ?_)
    | apply Within.trans ?_ (State.setNear_within _ _ _ _ _ ?_ ?_) | split | (dsimp only; split)

theorem State.tmpThreshold_within {P : Part → Bool} (s : State) (h_j3 : P .j3 = true) (h_regs : P .regs = true) (h_cad : P .cad = true)
    (h_rcd : P .rcd = true) :
    Within P s (State.tmpThreshold s) := by
  unfold State.tmpThreshold
  with_reducible repeat' first
    | assumption | exact Within.refl _ _ | apply Within.trans ?_ (State.updRec_within _ _ ?_)
    | apply Within.trans ?_ (State.post_within _ _ _ _ ?_ ?_ ?_) | apply Within.trans ?_ (State.evt_within _ _ _ _ ?_)
    | apply Within.trans ?_ (State.setFld_within _ _ _ ?_) | apply Within.trans ?_ (State.flt_within _ _ _ _ ?_) | apply Within.ite
    | split | (dsimp only; split)

theorem State.drtCompute_within {P : Part → Bool} (s : State) (k : Nat) (h_free : P .free = true) (h_j3 : P .j3 = true)
    (h_regs : P .regs = true) (h_cad : P .cad = true) :
    Within P s (State.drtCompute s k) := by
  unfold State.drtCompute
  with_reducible repeat' first
    | assumption | exact Within.refl _ _ | exact Within.id_ _ _ | apply Within.trans ?_ (State.tookFree_within _ ?_)
    | apply Within.when (fun _ => ?_) ?_ | apply Within.trans ?_ (State.post_within _ _ _ _ ?_ ?_ ?_)
    | apply Within.trans ?_ (State.evt_within _ _ _ _ ?_) | apply Within.trans ?_ (State.wr_within _ _ _ ?_)
    | apply Within.trans ?_ (State.setFld_within _ _ _ ?_) | apply Within.ite | split | (dsimp only; split)

theorem State.postLimit_within {P : Part → Bool} (s : State) (c : Nat) (lim : Nat) (w : Word) (epoch : Nat) (h_eng : P .eng = true) :
    Within P s (State.postLimit s c lim w epoch) := by
  unfold State.postLimit
  with_reducible repeat' first
    | assumption | exact Within.refl _ _ | apply Within.trans ?_ (State.updCtx_within _ _ _ ?_)

theorem State.tmpRound_within {P : Part → Bool} (s : State) (h_free : P .free = true) (h_j3 : P .j3 = true) (h_regs : P .regs = true)
    (h_cad : P .cad = true) (h_eng : P .eng = true) (h_rcd : P .rcd = true) :
    Within P s (State.tmpRound s) := by
  unfold State.tmpRound
  with_reducible repeat' first
    | assumption | exact Within.refl _ _ | exact Within.id_ _ _ | apply Within.trans ?_ (State.setFld_within _ _ _ ?_)
    | apply Within.trans ?_ (State.tmpShow_within _ _ _ ?_ ?_) | apply Within.each (fun _ _ => ?_) _ ?_
    | apply Within.trans ?_ (State.tmpThreshold_within _ ?_ ?_ ?_ ?_)
    | apply Within.trans ?_ (State.drtCompute_within _ _ ?_ ?_ ?_ ?_) | apply Within.trans ?_ (State.postLimit_within _ _ _ _ _ ?_)
    | apply Within.ite | apply Within.foldl (fun _ _ => ?_) ?_ _

theorem State.drtConfig_within {P : Part → Bool} (s : State) (m : Master) (k : Nat) (v : Word) (h_free : P .free = true)
    (h_resp : P .resp = true) (h_j3 : P .j3 = true) (h_regs : P .regs = true) (h_cad : P .cad = true) (h_eng : P .eng = true) :
    Within P s (State.drtConfig s m k v) := by
  unfold State.drtConfig
  with_reducible repeat' first
    | assumption | exact Within.refl _ _ | exact Within.id_ _ _
    | apply Within.trans ?_ (State.write_within _ _ _ _ _ ?_ ?_ ?_ ?_ ?_ (fun _ => ?_))
    | apply Within.trans ?_ (State.postLimit_within _ _ _ _ _ ?_) | apply Within.trans ?_ (State.wr_within _ _ _ ?_)
    | apply Within.trans ?_ (State.setFld_within _ _ _ ?_) | apply Within.ite

theorem State.drtStale_within {P : Part → Bool} (s : State) (c : Nat) (p : J4Post) (h_regs : P .regs = true) :
    Within P s (State.drtStale s c p) := by
  unfold State.drtStale
  with_reducible repeat' first
    | assumption | exact Within.refl _ _ | exact Within.id_ _ _ | apply Within.each (fun _ _ => ?_) _ ?_
    | apply Within.trans ?_ (State.evt_within _ _ _ _ ?_) | apply Within.trans ?_ (State.setFld_within _ _ _ ?_)

theorem State.bistGo_within {P : Part → Bool} (s : State) (m : Master) (t : Nat) (alg : Nat) (h_free : P .free = true)
    (h_resp : P .resp = true) (h_j3 : P .j3 = true) (h_regs : P .regs = true) (h_bytes : P .bytes = true) (h_cad : P .cad = true)
    (h_rcd : P .rcd = true) :
    Within P s (State.bistGo s m t alg) := by
  unfold State.bistGo
  with_reducible repeat' first
    | assumption | exact Within.refl _ _ | exact Within.id_ _ _
    | apply Within.trans ?_ (State.write_within _ _ _ _ _ ?_ ?_ ?_ ?_ ?_ (fun _ => ?_))
    | apply Within.trans ?_ (State.setFld_within _ _ _ ?_) | apply Within.trans ?_ (State.recSync_within _ ?_ ?_ ?_)

theorem State.bistFail_within {P : Part → Bool} (s : State) (t : Nat) (f : BistFail) (h_free : P .free = true) (h_j3 : P .j3 = true)
    (h_regs : P .regs = true) (h_cad : P .cad = true) :
    Within P s (State.bistFail s t f) := by
  unfold State.bistFail
  with_reducible repeat' first
    | assumption | exact Within.refl _ _ | exact Within.id_ _ _ | apply Within.trans ?_ (State.wr_within _ _ _ ?_)
    | apply Within.when (fun _ => ?_) ?_ | apply Within.trans ?_ (State.post_within _ _ _ _ ?_ ?_ ?_)
    | apply Within.trans ?_ (State.inc_within _ _ ?_) | apply Within.trans ?_ (State.tookFree_within _ ?_) | apply Within.ite

theorem execDerateChannelWrite_within {P : Part → Bool} (m : Master) (k : Fin 8) (v : Word) (s : State) (h_free : P .free = true)
    (h_resp : P .resp = true) (h_j3 : P .j3 = true) (h_regs : P .regs = true) (h_cad : P .cad = true) (h_eng : P .eng = true) :
    WithinOut P s (execDerateChannelWrite m k v s) := by
  unfold execDerateChannelWrite
  with_reducible repeat' first
    | assumption | exact Within.refl _ _ | apply WithinOut.next
    | apply Within.trans ?_ (State.drtConfig_within _ _ _ _ ?_ ?_ ?_ ?_ ?_ ?_)

theorem execBistRequest_within {P : Part → Bool} (m : Master) (target : Fin 16) (alg : Fin 4) (s : State) (h_free : P .free = true)
    (h_resp : P .resp = true) (h_j3 : P .j3 = true) (h_regs : P .regs = true) (h_bytes : P .bytes = true) (h_cad : P .cad = true)
    (h_rcd : P .rcd = true) :
    WithinOut P s (execBistRequest m target alg s) := by
  unfold execBistRequest
  with_reducible repeat' first
    | assumption | exact Within.refl _ _ | apply WithinOut.next
    | apply Within.trans ?_ (State.bistGo_within _ _ _ _ ?_ ?_ ?_ ?_ ?_ ?_ ?_)

theorem execBistDone_within {P : Part → Bool} (fails : List BistFail) (s : State) (h_free : P .free = true) (h_j3 : P .j3 = true)
    (h_regs : P .regs = true) (h_bytes : P .bytes = true) (h_cad : P .cad = true) (h_rcd : P .rcd = true) :
    WithinOut P s (execBistDone fails s) := by
  unfold execBistDone
  with_reducible repeat' first
    | assumption | exact Within.refl _ _ | exact Within.id_ _ _ | apply WithinOut.next
    | apply Within.trans ?_ (State.setFld_within _ _ _ ?_) | apply Within.trans ?_ (State.bistFail_within _ _ _ ?_ ?_ ?_ ?_)
    | apply Within.when (fun _ => ?_) ?_ | apply Within.trans ?_ (State.flt_within _ _ _ _ ?_)
    | apply Within.trans ?_ (State.recSync_within _ ?_ ?_ ?_) | apply Within.trans ?_ (State.post_within _ _ _ _ ?_ ?_ ?_)
    | apply Within.trans ?_ (State.evt_within _ _ _ _ ?_) | apply Within.ite | apply WithinOut.ite
    | apply Within.foldl (fun _ _ => ?_) ?_ _

theorem execBistAbort_within {P : Part → Bool} (m : Master) (s : State) (h_free : P .free = true) (h_resp : P .resp = true)
    (h_j3 : P .j3 = true) (h_regs : P .regs = true) (h_bytes : P .bytes = true) (h_cad : P .cad = true) (h_rcd : P .rcd = true) :
    WithinOut P s (execBistAbort m s) := by
  unfold execBistAbort
  with_reducible repeat' first
    | assumption | exact Within.refl _ _ | exact Within.id_ _ _ | apply WithinOut.next
    | apply Within.trans ?_ (State.write_within _ _ _ _ _ ?_ ?_ ?_ ?_ ?_ (fun _ => ?_))
    | apply Within.trans ?_ (State.bistAbort_within _ ?_ ?_ ?_ ?_ ?_)

theorem execBistRepair_within {P : Part → Bool} (m : Master) (s : State) (h_free : P .free = true) (h_resp : P .resp = true)
    (h_j3 : P .j3 = true) (h_regs : P .regs = true) (h_cad : P .cad = true) (h_rcd : P .rcd = true) :
    WithinOut P s (execBistRepair m s) := by
  unfold execBistRepair
  with_reducible repeat' first
    | assumption | exact Within.refl _ _ | exact Within.id_ _ _ | apply WithinOut.next
    | apply Within.trans ?_ (State.write_within _ _ _ _ _ ?_ ?_ ?_ ?_ ?_ (fun _ => ?_))
    | apply Within.trans ?_ (State.updRec_within _ _ ?_) | apply Within.trans ?_ (State.inc_within _ _ ?_)
    | apply Within.trans ?_ (State.post_within _ _ _ _ ?_ ?_ ?_) | apply Within.trans ?_ (State.evt_within _ _ _ _ ?_)
    | apply Within.ite | apply WithinOut.ite | split | (dsimp only; split)

theorem State.updPwr_within {P : Part → Bool} (s : State) (f : Pwr → Pwr) (h_pwr : P .pwr = true) :
    Within P s (State.updPwr s f) := by
  unfold State.updPwr
  with_reducible repeat' first
    | assumption | exact Within.refl _ _ | apply Within.pwr ?_ ?_ _

theorem State.postOpen_within {P : Part → Bool} (s : State) (code : Nat) (l : Nat) (h_free : P .free = true) (h_j3 : P .j3 = true)
    (h_regs : P .regs = true) (h_cad : P .cad = true) :
    Within P s (State.postOpen s code l) := by
  unfold State.postOpen
  with_reducible repeat' first
    | assumption | exact Within.refl _ _ | apply Within.trans ?_ (State.tookFree_within _ ?_)
    | apply Within.trans ?_ (State.post_within _ _ _ _ ?_ ?_ ?_)

theorem State.sensShow_within {P : Part → Bool} (s : State) (h_regs : P .regs = true) :
    Within P s (State.sensShow s) := by
  unfold State.sensShow
  with_reducible repeat' first
    | assumption | exact Within.refl _ _ | apply Within.trans ?_ (State.setFld_within _ _ _ ?_) | apply Within.ite

theorem State.detachShow_within {P : Part → Bool} (s : State) (h_regs : P .regs = true) (h_safe : P .safe = true) :
    Within P s (State.detachShow s) := by
  unfold State.detachShow
  with_reducible repeat' first
    | assumption | exact Within.refl _ _ | exact Within.id_ _ _ | apply Within.trans ?_ (State.sensShow_within _ ?_)
    | apply Within.each (fun _ _ => ?_) _ ?_ | apply Within.trans ?_ (State.soShow_within _ _ ?_)
    | apply Within.trans ?_ (State.soUpdate_within _ _ ?_ ?_)

theorem State.detachEnd_within {P : Part → Bool} (s : State) (data : Nat) (h_j3 : P .j3 = true) (h_regs : P .regs = true)
    (h_cad : P .cad = true) (h_safe : P .safe = true) (h_pwr : P .pwr = true) :
    Within P s (State.detachEnd s data) := by
  unfold State.detachEnd
  with_reducible repeat' first
    | assumption | exact Within.refl _ _ | apply Within.trans ?_ (State.updPwr_within _ _ ?_)
    | apply Within.trans ?_ (State.detachShow_within _ ?_ ?_) | apply Within.trans ?_ (State.setFld_within _ _ _ ?_)
    | apply Within.trans ?_ (State.post_within _ _ _ _ ?_ ?_ ?_) | apply Within.trans ?_ (State.evt_within _ _ _ _ ?_)

theorem State.pwrSecond_within {P : Part → Bool} (s : State) (h_regs : P .regs = true) :
    Within P s (State.pwrSecond s) := by
  unfold State.pwrSecond
  with_reducible repeat' first
    | assumption | exact Within.refl _ _ | apply Within.trans ?_ (State.setFld_within _ _ _ ?_) | apply Within.ite

theorem State.detachRequest_within {P : Part → Bool} (s : State) (m : Master) (x2 : Bool) (h_free : P .free = true)
    (h_resp : P .resp = true) (h_j3 : P .j3 = true) (h_regs : P .regs = true) (h_bytes : P .bytes = true) (h_cad : P .cad = true)
    (h_safe : P .safe = true) (h_rcd : P .rcd = true) :
    Within P s (State.detachRequest s m x2) := by
  unfold State.detachRequest
  with_reducible repeat' first
    | assumption | exact Within.refl _ _ | exact Within.id_ _ _
    | apply Within.trans ?_ (State.write_within _ _ _ _ _ ?_ ?_ ?_ ?_ ?_ (fun _ => ?_))
    | apply Within.trans ?_ (State.setFld_within _ _ _ ?_) | apply Within.trans ?_ (State.detachShow_within _ ?_ ?_)
    | apply Within.trans ?_ (State.recTrigger_within _ _ ?_ ?_ ?_ ?_ ?_) | apply Within.ite

theorem State.detachCancel_within {P : Part → Bool} (s : State) (m : Master) (h_free : P .free = true) (h_resp : P .resp = true)
    (h_j3 : P .j3 = true) (h_regs : P .regs = true) (h_cad : P .cad = true) (h_safe : P .safe = true) (h_pwr : P .pwr = true) :
    Within P s (State.detachCancel s m) := by
  unfold State.detachCancel
  with_reducible repeat' first
    | assumption | exact Within.refl _ _ | exact Within.id_ _ _
    | apply Within.trans ?_ (State.write_within _ _ _ _ _ ?_ ?_ ?_ ?_ ?_ (fun _ => ?_))
    | apply Within.trans ?_ (State.detachEnd_within _ _ ?_ ?_ ?_ ?_ ?_) | apply Within.ite

theorem State.loopOpen_within {P : Part → Bool} (a0 : State) (x2 : Bool) (lost : State → State) (h_regs : P .regs = true)
    (h2 : ∀ s, Within P s (lost s)) :
    Within P a0 (State.loopOpen a0 x2 lost) := by
  unfold State.loopOpen
  with_reducible repeat' first
    | assumption | exact Within.refl _ _ | apply Within.trans ?_ (State.setFld_within _ _ _ ?_) | apply Within.trans ?_ (h2 _)
    | apply Within.ite

theorem execPfWarnFalling_within {P : Part → Bool} (s : State) (h_free : P .free = true) (h_j3 : P .j3 = true) (h_regs : P .regs = true)
    (h_bytes : P .bytes = true) (h_cad : P .cad = true) (h_rcd : P .rcd = true) :
    WithinOut P s (execPfWarnFalling s) := by
  unfold execPfWarnFalling
  with_reducible repeat' first
    | assumption | exact Within.refl _ _ | apply WithinOut.next | apply Within.trans ?_ (State.setFld_within _ _ _ ?_)
    | apply Within.trans ?_ (State.recTrigger_within _ _ ?_ ?_ ?_ ?_ ?_)
    | apply Within.trans ?_ (State.postOpen_within _ _ _ ?_ ?_ ?_ ?_) | apply Within.trans ?_ (State.evt_within _ _ _ _ ?_)
    | apply Within.ite | apply WithinOut.ite

theorem execPfWarnCleared_within {P : Part → Bool} (s : State) (h_regs : P .regs = true) :
    WithinOut P s (execPfWarnCleared s) := by
  unfold execPfWarnCleared
  with_reducible repeat' first
    | assumption | exact Within.refl _ _ | apply WithinOut.next | apply Within.trans ?_ (State.setFld_within _ _ _ ?_)

theorem State.shedAll_within {P : Part → Bool} (s : State) (h_j3 : P .j3 = true) (h_regs : P .regs = true) (h_cad : P .cad = true)
    (h_eng : P .eng = true) (h_safe : P .safe = true) (h_net : P .net = true) :
    Within P s (State.shedAll s) := by
  unfold State.shedAll
  with_reducible repeat' first
    | assumption | exact Within.refl _ _ | exact Within.id_ _ _ | apply Within.each (fun _ _ => ?_) _ ?_
    | apply Within.trans ?_ (State.showLane_within _ _ ?_) | apply Within.trans ?_ (State.updLane_within _ _ _ ?_)
    | apply Within.trans ?_ (State.netsShed_within _ ?_ ?_ ?_ ?_ ?_) | apply Within.trans ?_ (State.setFld_within _ _ _ ?_)

theorem execUvOff_within {P : Part → Bool} (s : State) (h_free : P .free = true) (h_j3 : P .j3 = true) (h_regs : P .regs = true)
    (h_bytes : P .bytes = true) (h_cad : P .cad = true) (h_eng : P .eng = true) (h_pwm : P .pwm = true) (h_safe : P .safe = true)
    (h_net : P .net = true) (h_rcd : P .rcd = true) :
    WithinOut P s (execUvOff s) := by
  unfold execUvOff
  with_reducible repeat' first
    | assumption | exact Within.refl _ _ | apply WithinOut.next | apply Within.trans ?_ (State.setFld_within _ _ _ ?_)
    | apply Within.trans ?_ (State.recTrigger_within _ _ ?_ ?_ ?_ ?_ ?_)
    | apply Within.trans ?_ (State.shedAll_within _ ?_ ?_ ?_ ?_ ?_ ?_)
    | apply Within.trans ?_ (State.raise_within _ _ _ ?_ ?_ ?_ ?_ ?_)
    | apply Within.trans ?_ (State.postOpen_within _ _ _ ?_ ?_ ?_ ?_) | apply Within.trans ?_ (State.flt_within _ _ _ _ ?_)
    | apply Within.ite | apply WithinOut.ite

theorem execVlvHigh_within {P : Part → Bool} (s : State) (h_free : P .free = true) (h_j3 : P .j3 = true) (h_regs : P .regs = true)
    (h_cad : P .cad = true) :
    WithinOut P s (execVlvHigh s) := by
  unfold execVlvHigh
  with_reducible repeat' first
    | assumption | exact Within.refl _ _ | apply WithinOut.next | apply Within.trans ?_ (State.postOpen_within _ _ _ ?_ ?_ ?_ ?_)
    | apply Within.trans ?_ (State.evt_within _ _ _ _ ?_)

theorem execHoldupCharged_within {P : Part → Bool} (s : State) (h_regs : P .regs = true) :
    WithinOut P s (execHoldupCharged s) := by
  unfold execHoldupCharged
  with_reducible repeat' first
    | assumption | exact Within.refl _ _ | apply WithinOut.next | apply Within.trans ?_ (State.setFld_within _ _ _ ?_)

theorem execHoldupMeasured_within {P : Part → Bool} (cap : Fin 4096) (s : State) (h_free : P .free = true) (h_j3 : P .j3 = true)
    (h_regs : P .regs = true) (h_cad : P .cad = true) :
    WithinOut P s (execHoldupMeasured cap s) := by
  unfold execHoldupMeasured
  with_reducible repeat' first
    | assumption | exact Within.refl _ _ | apply WithinOut.next | apply Within.trans ?_ (State.setFld_within _ _ _ ?_)
    | apply Within.trans ?_ (State.postOpen_within _ _ _ ?_ ?_ ?_ ?_) | apply Within.trans ?_ (State.evt_within _ _ _ _ ?_)
    | apply Within.ite | apply WithinOut.ite

theorem execBackupSupplyChange_within {P : Part → Bool} (active : Bool) (s : State) (h_regs : P .regs = true) (h_pwr : P .pwr = true) :
    WithinOut P s (execBackupSupplyChange active s) := by
  unfold execBackupSupplyChange
  with_reducible repeat' first
    | assumption | exact Within.refl _ _ | apply WithinOut.next | apply Within.trans ?_ (State.updPwr_within _ _ ?_)
    | apply Within.trans ?_ (State.setFld_within _ _ _ ?_)

theorem execBackupFail_within {P : Part → Bool} (s : State) (h_free : P .free = true) (h_j3 : P .j3 = true) (h_regs : P .regs = true)
    (h_cad : P .cad = true) (h_pwr : P .pwr = true) :
    WithinOut P s (execBackupFail s) := by
  unfold execBackupFail
  with_reducible repeat' first
    | assumption | exact Within.refl _ _ | apply WithinOut.next | apply Within.trans ?_ (State.postOpen_within _ _ _ ?_ ?_ ?_ ?_)
    | apply Within.trans ?_ (State.flt_within _ _ _ _ ?_) | apply Within.trans ?_ (State.updPwr_within _ _ ?_) | apply Within.ite
    | apply WithinOut.ite

theorem execGatePwrHigh_within {P : Part → Bool} (avg : Fin 1024) (s : State) (h_free : P .free = true) (h_j3 : P .j3 = true)
    (h_regs : P .regs = true) (h_cad : P .cad = true) (h_pwr : P .pwr = true) :
    WithinOut P s (execGatePwrHigh avg s) := by
  unfold execGatePwrHigh
  with_reducible repeat' first
    | assumption | exact Within.refl _ _ | apply WithinOut.next | apply Within.trans ?_ (State.setFld_within _ _ _ ?_)
    | apply Within.trans ?_ (State.updPwr_within _ _ ?_) | apply Within.trans ?_ (State.postOpen_within _ _ _ ?_ ?_ ?_ ?_)
    | apply Within.trans ?_ (State.evt_within _ _ _ _ ?_) | apply Within.ite | apply WithinOut.ite

theorem execGateOverload_within {P : Part → Bool} (s : State) (h_free : P .free = true) (h_j3 : P .j3 = true) (h_regs : P .regs = true)
    (h_cad : P .cad = true) (h_pwm : P .pwm = true) (h_safe : P .safe = true) (h_pwr : P .pwr = true) :
    WithinOut P s (execGateOverload s) := by
  unfold execGateOverload
  with_reducible repeat' first
    | assumption | exact Within.refl _ _ | apply WithinOut.next | apply Within.trans ?_ (State.raise_within _ _ _ ?_ ?_ ?_ ?_ ?_)
    | apply Within.trans ?_ (State.postOpen_within _ _ _ ?_ ?_ ?_ ?_) | apply Within.trans ?_ (State.flt_within _ _ _ _ ?_)
    | apply Within.trans ?_ (State.updPwr_within _ _ ?_) | apply Within.ite | apply WithinOut.ite

theorem execSensOc_within {P : Part → Bool} (k : Fin 4) (s : State) (h_free : P .free = true) (h_j3 : P .j3 = true)
    (h_regs : P .regs = true) (h_cad : P .cad = true) :
    WithinOut P s (execSensOc k s) := by
  unfold execSensOc
  with_reducible repeat' first
    | assumption | exact Within.refl _ _ | apply WithinOut.next | apply Within.trans ?_ (State.postOpen_within _ _ _ ?_ ?_ ?_ ?_)
    | apply Within.trans ?_ (State.evt_within _ _ _ _ ?_) | apply Within.trans ?_ (State.setFld_within _ _ _ ?_) | apply Within.ite
    | apply WithinOut.ite

theorem execX2Attach_within {P : Part → Bool} (s : State) (h_free : P .free = true) (h_j3 : P .j3 = true) (h_regs : P .regs = true)
    (h_cad : P .cad = true) (h_pwr : P .pwr = true) :
    WithinOut P s (execX2Attach s) := by
  unfold execX2Attach
  with_reducible repeat' first
    | assumption | exact Within.refl _ _ | apply WithinOut.next | apply Within.trans ?_ (State.sensShow_within _ ?_)
    | apply Within.trans ?_ (State.updPwr_within _ _ ?_) | apply Within.trans ?_ (State.setFld_within _ _ _ ?_)
    | apply Within.trans ?_ (State.postOpen_within _ _ _ ?_ ?_ ?_ ?_) | apply Within.trans ?_ (State.evt_within _ _ _ _ ?_)
    | apply Within.ite | apply WithinOut.ite

theorem execX1LoopOpen_within {P : Part → Bool} (s : State) (h_free : P .free = true) (h_j3 : P .j3 = true) (h_regs : P .regs = true)
    (h_bytes : P .bytes = true) (h_cad : P .cad = true) (h_pwm : P .pwm = true) (h_safe : P .safe = true) (h_rcd : P .rcd = true)
    (h_pwr : P .pwr = true) :
    WithinOut P s (execX1LoopOpen s) := by
  unfold execX1LoopOpen
  with_reducible repeat' first
    | assumption | exact Within.refl _ _ | exact Within.id_ _ _ | apply WithinOut.next
    | apply Within.trans ?_ (State.loopOpen_within _ _ _ ?_ (fun _ => ?_)) | apply Within.trans ?_ (State.setFld_within _ _ _ ?_)
    | apply Within.trans ?_ (State.flt_within _ _ _ _ ?_) | apply Within.trans ?_ (State.updPwr_within _ _ ?_)
    | apply Within.trans ?_ (State.recTrigger_within _ _ ?_ ?_ ?_ ?_ ?_)
    | apply Within.trans ?_ (State.raise_within _ _ _ ?_ ?_ ?_ ?_ ?_)
    | apply Within.trans ?_ (State.postOpen_within _ _ _ ?_ ?_ ?_ ?_) | apply Within.ite | apply WithinOut.ite

theorem execX2LoopOpen_within {P : Part → Bool} (s : State) (h_free : P .free = true) (h_j3 : P .j3 = true) (h_regs : P .regs = true)
    (h_cad : P .cad = true) (h_pwm : P .pwm = true) (h_safe : P .safe = true) (h_pos : P .pos = true) (h_pwr : P .pwr = true) :
    WithinOut P s (execX2LoopOpen s) := by
  unfold execX2LoopOpen
  with_reducible repeat' first
    | assumption | exact Within.refl _ _ | exact Within.id_ _ _ | apply WithinOut.next
    | apply Within.trans ?_ (State.loopOpen_within _ _ _ ?_ (fun _ => ?_))
    | apply Within.trans ?_ (State.posFreeze_within _ ?_ ?_ ?_ ?_) | apply Within.trans ?_ (State.sensShow_within _ ?_)
    | apply Within.trans ?_ (State.setFld_within _ _ _ ?_) | apply Within.trans ?_ (State.flt_within _ _ _ _ ?_)
    | apply Within.trans ?_ (State.updPwr_within _ _ ?_) | apply Within.trans ?_ (State.raise_within _ _ _ ?_ ?_ ?_ ?_ ?_)
    | apply Within.trans ?_ (State.postOpen_within _ _ _ ?_ ?_ ?_ ?_) | apply Within.ite | apply WithinOut.ite

theorem execDetachRequest_within {P : Part → Bool} (m : Master) (x2 : Bool) (s : State) (h_free : P .free = true)
    (h_resp : P .resp = true) (h_j3 : P .j3 = true) (h_regs : P .regs = true) (h_bytes : P .bytes = true) (h_cad : P .cad = true)
    (h_safe : P .safe = true) (h_rcd : P .rcd = true) :
    WithinOut P s (execDetachRequest m x2 s) := by
  unfold execDetachRequest
  with_reducible repeat' first
    | assumption | exact Within.refl _ _ | apply WithinOut.next
    | apply Within.trans ?_ (State.detachRequest_within _ _ _ ?_ ?_ ?_ ?_ ?_ ?_ ?_ ?_)

theorem execDetachReady_within {P : Part → Bool} (s : State) (h_free : P .free = true) (h_j3 : P .j3 = true) (h_regs : P .regs = true)
    (h_cad : P .cad = true) (h_safe : P .safe = true) (h_net : P .net = true) (h_pwr : P .pwr = true) :
    WithinOut P s (execDetachReady s) := by
  unfold execDetachReady
  with_reducible repeat' first
    | assumption | exact Within.refl _ _ | apply WithinOut.next | apply Within.trans ?_ (State.netsDown_within _ ?_ ?_ ?_ ?_ ?_ ?_)
    | apply Within.trans ?_ (State.setFld_within _ _ _ ?_) | apply Within.trans ?_ (State.evt_within _ _ _ _ ?_)
    | apply Within.trans ?_ (State.postOpen_within _ _ _ ?_ ?_ ?_ ?_) | apply Within.ite | apply WithinOut.ite

theorem execDetachCancel_within {P : Part → Bool} (m : Master) (s : State) (h_free : P .free = true) (h_resp : P .resp = true)
    (h_j3 : P .j3 = true) (h_regs : P .regs = true) (h_cad : P .cad = true) (h_safe : P .safe = true) (h_pwr : P .pwr = true) :
    WithinOut P s (execDetachCancel m s) := by
  unfold execDetachCancel
  with_reducible repeat' first
    | assumption | exact Within.refl _ _ | apply WithinOut.next
    | apply Within.trans ?_ (State.detachCancel_within _ _ ?_ ?_ ?_ ?_ ?_ ?_ ?_)

theorem execDetachTimeout_within {P : Part → Bool} (s : State) (h_j3 : P .j3 = true) (h_regs : P .regs = true) (h_cad : P .cad = true)
    (h_safe : P .safe = true) (h_pwr : P .pwr = true) :
    WithinOut P s (execDetachTimeout s) := by
  unfold execDetachTimeout
  with_reducible repeat' first
    | assumption | exact Within.refl _ _ | apply WithinOut.next | apply Within.trans ?_ (State.detachEnd_within _ _ ?_ ?_ ?_ ?_ ?_)
    | apply Within.trans ?_ (State.opTo_within _ _ _ ?_) | apply Within.ite | apply WithinOut.ite

end Sys2Proof.Machine
end

