-- ==== Sys2Proof/Laws/FrameRoles.lean ====
section
/-!
SUPPORT. Frames, one lemma for each function that gives a state, a command's outcome or an optional state: which parts of the state it may
change at all, and that it leaves the queue and the canonical form alone. This file: roles, images and debug, boot and reset, the cadence and what joins the units.
-/
namespace Sys2Proof.Machine

theorem State.updSec_within {P : Part → Bool} (s : State) (f : Sec → Sec) (h_sec : P .sec = true) :
    Within P s (State.updSec s f) := by
  unfold State.updSec
  with_reducible repeat' first
    | assumption | exact Within.refl _ _ | apply Within.sec ?_ ?_ _

theorem State.keysWritten_within {P : Part → Bool} (s : State) (h_bytes : P .bytes = true) :
    Within P s (State.keysWritten s) := by
  unfold State.keysWritten
  with_reducible repeat' first
    | assumption | exact Within.refl _ _ | apply Within.trans ?_ (State.forget_within _ _ _ ?_)

theorem State.debugClose_within {P : Part → Bool} (s : State) (h_j3 : P .j3 = true) (h_regs : P .regs = true) (h_cad : P .cad = true)
    (h_pwm : P .pwm = true) (h_safe : P .safe = true) (h_tnd : P .tnd = true) :
    Within P s (State.debugClose s) := by
  unfold State.debugClose
  with_reducible repeat' first
    | assumption | exact Within.refl _ _ | exact Within.id_ _ _ | apply Within.trans ?_ (State.setFld_within _ _ _ ?_)
    | apply Within.each (fun _ _ => ?_) _ ?_ | apply Within.trans ?_ (State.resumePair_within _ _ _ ?_ ?_ ?_ ?_ ?_ ?_)
    | apply Within.trans ?_ (State.post_within _ _ _ _ ?_ ?_ ?_) | apply Within.ite

theorem State.sessEnd_within {P : Part → Bool} (s : State) (h_j3 : P .j3 = true) (h_regs : P .regs = true) (h_cad : P .cad = true)
    (h_pwm : P .pwm = true) (h_safe : P .safe = true) (h_tnd : P .tnd = true) :
    Within P s (State.sessEnd s) := by
  unfold State.sessEnd
  with_reducible repeat' first
    | assumption | exact Within.refl _ _ | apply Within.trans ?_ (State.debugClose_within _ ?_ ?_ ?_ ?_ ?_ ?_)
    | apply Within.trans ?_ (State.evt_within _ _ _ _ ?_) | apply Within.trans ?_ (State.setFld_within _ _ _ ?_)
    | apply Within.trans ?_ (State.wr_within _ _ _ ?_) | apply Within.ite

theorem State.stmtEnd_within {P : Part → Bool} (a0 : State) (kind : Nat) (accept : State → State) (refuse : State → State)
    (h_j3 : P .j3 = true) (h_regs : P .regs = true) (h_cad : P .cad = true) (h_sec : P .sec = true) (h2 : ∀ s, Within P s (accept s))
    (h3 : ∀ s, Within P s (refuse s)) :
    Within P a0 (State.stmtEnd a0 kind accept refuse) := by
  unfold State.stmtEnd
  with_reducible repeat' first
    | assumption | exact Within.refl _ _ | apply Within.trans ?_ (State.updSec_within _ _ ?_)
    | apply Within.trans ?_ (State.wr_within _ _ _ ?_) | apply Within.trans ?_ (State.post_within _ _ _ _ ?_ ?_ ?_)
    | apply Within.trans ?_ (State.evt_within _ _ _ _ ?_) | apply Within.trans ?_ (h2 _) | apply Within.trans ?_ (h3 _)
    | apply Within.ite

theorem State.chgTo__within {P : Part → Bool} (s : State) (st : Nat) (h_regs : P .regs = true) :
    Within P s (State.chgTo_ s st) := by
  unfold State.chgTo_
  with_reducible repeat' first
    | assumption | exact Within.refl _ _ | apply Within.trans ?_ (State.evt_within _ _ _ _ ?_)
    | apply Within.trans ?_ (State.setFld_within _ _ _ ?_)

theorem State.chgClear_within {P : Part → Bool} (s : State) (h_regs : P .regs = true) (h_staged : P .staged = true)
    (h_sec : P .sec = true) :
    Within P s (State.chgClear s) := by
  unfold State.chgClear
  with_reducible repeat' first
    | assumption | exact Within.refl _ _ | apply Within.trans ?_ (State.setFld_within _ _ _ ?_)
    | apply Within.trans ?_ (State.updSec_within _ _ ?_) | apply Within.foldl (fun _ _ => ?_) ?_ _ | apply Within.staged ?_ ?_ _ _ _
    | apply Within.noStaged ?_ ?_

theorem State.chgDiscard_within {P : Part → Bool} (s : State) (reason : Nat) (h_j3 : P .j3 = true) (h_regs : P .regs = true)
    (h_staged : P .staged = true) (h_cad : P .cad = true) (h_sec : P .sec = true) :
    Within P s (State.chgDiscard s reason) := by
  unfold State.chgDiscard
  with_reducible repeat' first
    | assumption | exact Within.refl _ _ | apply Within.trans ?_ (State.setFld_within _ _ _ ?_)
    | apply Within.trans ?_ (State.chgTo__within _ _ ?_) | apply Within.trans ?_ (State.chgClear_within _ ?_ ?_ ?_)
    | apply Within.trans ?_ (State.post_within _ _ _ _ ?_ ?_ ?_)

theorem State.chgApply_within {P : Part → Bool} (s : State) (h_j3 : P .j3 = true) (h_regs : P .regs = true) (h_staged : P .staged = true)
    (h_cad : P .cad = true) (h_pwm : P .pwm = true) (h_safe : P .safe = true) (h_sec : P .sec = true) :
    Within P s (State.chgApply s) := by
  unfold State.chgApply
  with_reducible repeat' first
    | assumption | exact Within.refl _ _ | exact Within.id_ _ _ | apply Within.trans ?_ (State.wr_within _ _ _ ?_)
    | apply Within.trans ?_ (State.chgTo__within _ _ ?_) | apply Within.trans ?_ (State.chgClear_within _ ?_ ?_ ?_)
    | apply Within.trans ?_ (State.syncLines_within _ ?_ ?_ ?_ ?_ ?_) | apply Within.each (fun _ _ => ?_) _ ?_
    | apply Within.trans ?_ (State.siUpdate_within _ _ ?_ ?_ ?_ ?_ ?_) | apply Within.ite | apply Within.foldl (fun _ _ => ?_) ?_ _

theorem State.chgCommitted_within {P : Part → Bool} (s : State) (h_j3 : P .j3 = true) (h_regs : P .regs = true)
    (h_bytes : P .bytes = true) (h_cad : P .cad = true) (h_sec : P .sec = true) :
    Within P s (State.chgCommitted s) := by
  unfold State.chgCommitted
  with_reducible repeat' first
    | assumption | exact Within.refl _ _ | apply Within.trans ?_ (State.updSec_within _ _ ?_)
    | apply Within.trans ?_ (State.keysWritten_within _ ?_) | apply Within.trans ?_ (State.post_within _ _ _ _ ?_ ?_ ?_)
    | apply Within.foldl (fun _ _ => ?_) ?_ _

theorem State.chgSigned_within {P : Part → Bool} (s : State) (h_regs : P .regs = true) (h_sec : P .sec = true) :
    Within P s (State.chgSigned s) := by
  unfold State.chgSigned
  with_reducible repeat' first
    | assumption | exact Within.refl _ _ | apply Within.trans ?_ (State.chgTo__within _ _ ?_)
    | apply Within.trans ?_ (State.setFld_within _ _ _ ?_) | apply Within.trans ?_ (State.updSec_within _ _ ?_) | apply Within.ite

theorem State.chgRefused_within {P : Part → Bool} (s : State) (h_j3 : P .j3 = true) (h_regs : P .regs = true)
    (h_staged : P .staged = true) (h_cad : P .cad = true) (h_sec : P .sec = true) :
    Within P s (State.chgRefused s) := by
  unfold State.chgRefused
  with_reducible repeat' first
    | assumption | exact Within.refl _ _ | apply Within.trans ?_ (State.inc_within _ _ ?_)
    | apply Within.trans ?_ (State.chgDiscard_within _ _ ?_ ?_ ?_ ?_ ?_) | apply Within.ite

theorem State.postSlot_within {P : Part → Bool} (s : State) (slot : Nat) (res : Nat) (h_j3 : P .j3 = true) (h_regs : P .regs = true)
    (h_cad : P .cad = true) :
    Within P s (State.postSlot s slot res) := by
  unfold State.postSlot
  with_reducible repeat' first
    | assumption | exact Within.refl _ _ | apply Within.trans ?_ (State.post_within _ _ _ _ ?_ ?_ ?_) | apply Within.ite

theorem State.setStage_within {P : Part → Bool} (s : State) (st : Nat) (h_regs : P .regs = true) (h_bytes : P .bytes = true)
    (h_rcd : P .rcd = true) :
    Within P s (State.setStage s st) := by
  unfold State.setStage
  with_reducible repeat' first
    | assumption | exact Within.refl _ _ | apply Within.trans ?_ (State.recSync_within _ ?_ ?_ ?_)
    | apply Within.trans ?_ (State.evt_within _ _ _ _ ?_) | apply Within.trans ?_ (State.setFld_within _ _ _ ?_)

theorem State.lcBurn_within {P : Part → Bool} (s : State) (target : Nat) (h_regs : P .regs = true) (h_sec : P .sec = true) :
    Within P s (State.lcBurn s target) := by
  unfold State.lcBurn
  with_reducible repeat' first
    | assumption | exact Within.refl _ _ | apply Within.trans ?_ (State.updSec_within _ _ ?_)
    | apply Within.trans ?_ (State.setFld_within _ _ _ ?_)

theorem State.secSecond_within {P : Part → Bool} (s : State) (h_regs : P .regs = true) :
    Within P s (State.secSecond s) := by
  unfold State.secSecond
  with_reducible repeat' first
    | assumption | exact Within.refl _ _ | apply Within.trans ?_ (State.setFld_within _ _ _ ?_)

theorem openBytes_within {P : Part → Bool} (h_free : P .free = true) : ∀ (n : Nat) (s : State), Within P s (State.openBytes n s).2
  | 0, s => .refl P s
  | n + 1, s => (State.tookFree_within s h_free).trans (openBytes_within h_free n _)

theorem State.attReport_within {P : Part → Bool} (a0 : State) (h_free : P .free = true) (h_bytes : P .bytes = true) :
    Within P a0 (State.attReport a0) := by
  unfold State.attReport
  exact ((openBytes_within h_free 12 a0).trans (openBytes_within h_free 24 _)).trans (State.putBytes_within _ _ _ h_bytes)

theorem execImageConfirm_within {P : Part → Bool} (m : Master) (s : State) (h_free : P .free = true) (h_resp : P .resp = true)
    (h_j3 : P .j3 = true) (h_regs : P .regs = true) (h_bytes : P .bytes = true) (h_cad : P .cad = true) (h_sec : P .sec = true) :
    WithinOut P s (execImageConfirm m s) := by
  unfold execImageConfirm
  with_reducible repeat' first
    | assumption | exact Within.refl _ _ | exact Within.id_ _ _ | apply WithinOut.next
    | apply Within.trans ?_ (State.write_within _ _ _ _ _ ?_ ?_ ?_ ?_ ?_ (fun _ => ?_))
    | apply Within.trans ?_ (State.updSec_within _ _ ?_) | apply Within.trans ?_ (State.keysWritten_within _ ?_)
    | apply Within.trans ?_ (State.setFld_within _ _ _ ?_) | apply Within.ite | apply WithinOut.ite

theorem execRollbackAdvance_within {P : Part → Bool} (m : Master) (key : Fin 256) (s : State) (h_free : P .free = true)
    (h_resp : P .resp = true) (h_j3 : P .j3 = true) (h_regs : P .regs = true) (h_cad : P .cad = true) :
    WithinOut P s (execRollbackAdvance m key s) := by
  unfold execRollbackAdvance
  with_reducible repeat' first
    | assumption | exact Within.refl _ _ | exact Within.id_ _ _ | apply WithinOut.next
    | apply Within.trans ?_ (State.write_within _ _ _ _ _ ?_ ?_ ?_ ?_ ?_ (fun _ => ?_))
    | apply Within.trans ?_ (State.post_within _ _ _ _ ?_ ?_ ?_) | apply Within.trans ?_ (State.setFld_within _ _ _ ?_)

theorem execSlotOpen_within {P : Part → Bool} (m : Master) (slot : Fin 2) (s : State) (h_free : P .free = true) (h_resp : P .resp = true)
    (h_j3 : P .j3 = true) (h_regs : P .regs = true) (h_cad : P .cad = true) :
    WithinOut P s (execSlotOpen m slot s) := by
  unfold execSlotOpen
  with_reducible repeat' first
    | assumption | exact Within.refl _ _ | exact Within.id_ _ _ | apply WithinOut.next
    | apply Within.trans ?_ (State.write_within _ _ _ _ _ ?_ ?_ ?_ ?_ ?_ (fun _ => ?_))
    | apply Within.trans ?_ (State.setFld_within _ _ _ ?_)

theorem execSlotClose_within {P : Part → Bool} (m : Master) (s : State) (h_free : P .free = true) (h_resp : P .resp = true)
    (h_j3 : P .j3 = true) (h_regs : P .regs = true) (h_cad : P .cad = true) :
    WithinOut P s (execSlotClose m s) := by
  unfold execSlotClose
  with_reducible repeat' first
    | assumption | exact Within.refl _ _ | exact Within.id_ _ _ | apply WithinOut.next
    | apply Within.trans ?_ (State.write_within _ _ _ _ _ ?_ ?_ ?_ ?_ ?_ (fun _ => ?_))
    | apply Within.trans ?_ (State.setFld_within _ _ _ ?_)

theorem execSlotActivate_within {P : Part → Bool} (m : Master) (slot : Fin 2) (s : State) (h_free : P .free = true)
    (h_resp : P .resp = true) (h_j3 : P .j3 = true) (h_regs : P .regs = true) (h_cad : P .cad = true) (h_sec : P .sec = true) :
    WithinOut P s (execSlotActivate m slot s) := by
  unfold execSlotActivate
  with_reducible repeat' first
    | assumption | exact Within.refl _ _ | exact Within.id_ _ _ | apply WithinOut.next
    | apply Within.trans ?_ (State.write_within _ _ _ _ _ ?_ ?_ ?_ ?_ ?_ (fun _ => ?_))
    | apply Within.trans ?_ (State.updSec_within _ _ ?_) | apply Within.trans ?_ (State.setFld_within _ _ _ ?_)

theorem execActivationDone_within {P : Part → Bool} (ecdsa : Bool) (lms : Bool) (s : State) (h_j3 : P .j3 = true)
    (h_regs : P .regs = true) (h_bytes : P .bytes = true) (h_cad : P .cad = true) (h_sec : P .sec = true) :
    WithinOut P s (execActivationDone ecdsa lms s) := by
  unfold execActivationDone
  with_reducible repeat' first
    | assumption | exact Within.refl _ _ | apply WithinOut.next | apply Within.trans ?_ (State.updSec_within _ _ ?_)
    | apply Within.trans ?_ (State.setFld_within _ _ _ ?_) | apply Within.trans ?_ (State.keysWritten_within _ ?_)
    | apply Within.trans ?_ (State.postSlot_within _ _ _ ?_ ?_ ?_) | apply Within.trans ?_ (State.evt_within _ _ _ _ ?_)
    | apply Within.ite | apply WithinOut.ite | split | (dsimp only; split)

theorem execAttestationRequest_within {P : Part → Bool} (m : Master) (s : State) (h_free : P .free = true) (h_resp : P .resp = true)
    (h_j3 : P .j3 = true) (h_regs : P .regs = true) (h_cad : P .cad = true) (h_sec : P .sec = true) :
    WithinOut P s (execAttestationRequest m s) := by
  unfold execAttestationRequest
  with_reducible repeat' first
    | assumption | exact Within.refl _ _ | exact Within.id_ _ _ | apply WithinOut.next
    | apply Within.trans ?_ (State.write_within _ _ _ _ _ ?_ ?_ ?_ ?_ ?_ (fun _ => ?_))
    | apply Within.trans ?_ (State.updSec_within _ _ ?_) | apply Within.trans ?_ (State.setFld_within _ _ _ ?_)

theorem execAttestationDone_within {P : Part → Bool} (s : State) (h_free : P .free = true) (h_j3 : P .j3 = true) (h_regs : P .regs = true)
    (h_bytes : P .bytes = true) (h_cad : P .cad = true) :
    WithinOut P s (execAttestationDone s) := by
  unfold execAttestationDone
  with_reducible repeat' first
    | assumption | exact Within.refl _ _ | apply WithinOut.next | apply Within.trans ?_ (State.post_within _ _ _ _ ?_ ?_ ?_)
    | apply Within.trans ?_ (State.evt_within _ _ _ _ ?_) | apply Within.trans ?_ (State.setFld_within _ _ _ ?_)
    | apply Within.trans ?_ (State.attReport_within _ ?_ ?_) | apply Within.ite | apply WithinOut.ite

theorem execNonceDraw_within {P : Part → Bool} (m : Master) (s : State) (h_free : P .free = true) (h_resp : P .resp = true)
    (h_j3 : P .j3 = true) (h_regs : P .regs = true) (h_cad : P .cad = true) (h_sec : P .sec = true) :
    WithinOut P s (execNonceDraw m s) := by
  unfold execNonceDraw
  with_reducible repeat' first
    | assumption | exact Within.refl _ _ | exact Within.id_ _ _ | apply WithinOut.next
    | apply Within.trans ?_ (State.write_within _ _ _ _ _ ?_ ?_ ?_ ?_ ?_ (fun _ => ?_))
    | apply Within.trans ?_ (State.updSec_within _ _ ?_) | apply Within.each (fun _ _ => ?_) _ ?_
    | apply Within.trans ?_ (State.tookFree_within _ ?_) | apply Within.trans ?_ (State.wr_within _ _ _ ?_)

theorem execStatementSubmit_within {P : Part → Bool} (m : Master) (s : State) (h_free : P .free = true) (h_resp : P .resp = true)
    (h_j3 : P .j3 = true) (h_regs : P .regs = true) (h_cad : P .cad = true) :
    WithinOut P s (execStatementSubmit m s) := by
  unfold execStatementSubmit
  with_reducible repeat' first
    | assumption | exact Within.refl _ _ | exact Within.id_ _ _ | apply WithinOut.next
    | apply Within.trans ?_ (State.write_within _ _ _ _ _ ?_ ?_ ?_ ?_ ?_ (fun _ => ?_))
    | apply Within.trans ?_ (State.setFld_within _ _ _ ?_)

theorem execAuthStatement_within {P : Part → Bool} (s : State) (h_j3 : P .j3 = true) (h_regs : P .regs = true) (h_cad : P .cad = true)
    (h_pwm : P .pwm = true) (h_safe : P .safe = true) (h_tnd : P .tnd = true) (h_sec : P .sec = true) :
    WithinOut P s (execAuthStatement s) := by
  unfold execAuthStatement
  with_reducible repeat' first
    | assumption | exact Within.refl _ _ | exact Within.id_ _ _ | apply WithinOut.next
    | apply Within.trans ?_ (State.stmtEnd_within _ _ _ _ ?_ ?_ ?_ ?_ (fun _ => ?_) (fun _ => ?_))
    | apply Within.trans ?_ (State.wr_within _ _ _ ?_) | apply Within.trans ?_ (State.sessEnd_within _ ?_ ?_ ?_ ?_ ?_ ?_)

theorem execChangeStatement_within {P : Part → Bool} (s : State) (h_j3 : P .j3 = true) (h_regs : P .regs = true)
    (h_staged : P .staged = true) (h_cad : P .cad = true) (h_sec : P .sec = true) :
    WithinOut P s (execChangeStatement s) := by
  unfold execChangeStatement
  with_reducible repeat' first
    | assumption | exact Within.refl _ _ | exact Within.id_ _ _ | apply WithinOut.next
    | apply Within.trans ?_ (State.stmtEnd_within _ _ _ _ ?_ ?_ ?_ ?_ (fun _ => ?_) (fun _ => ?_))
    | apply Within.trans ?_ (State.chgSigned_within _ ?_ ?_) | apply Within.trans ?_ (State.chgRefused_within _ ?_ ?_ ?_ ?_ ?_)

theorem execLifecycleStatement_within {P : Part → Bool} (s : State) (h_j3 : P .j3 = true) (h_regs : P .regs = true)
    (h_cad : P .cad = true) (h_sec : P .sec = true) :
    WithinOut P s (execLifecycleStatement s) := by
  unfold execLifecycleStatement
  with_reducible repeat' first
    | assumption | exact Within.refl _ _ | exact Within.id_ _ _ | apply WithinOut.next
    | apply Within.trans ?_ (State.stmtEnd_within _ _ _ _ ?_ ?_ ?_ ?_ (fun _ => ?_) (fun _ => ?_))
    | apply Within.trans ?_ (State.updSec_within _ _ ?_) | apply Within.trans ?_ (State.setFld_within _ _ _ ?_)
    | apply Within.trans ?_ (State.lcBurn_within _ _ ?_ ?_) | apply Within.trans ?_ (State.post_within _ _ _ _ ?_ ?_ ?_)
    | apply Within.ite | apply WithinOut.ite

theorem execClearStatement_within {P : Part → Bool} (s : State) (h_j3 : P .j3 = true) (h_regs : P .regs = true)
    (h_bytes : P .bytes = true) (h_cad : P .cad = true) (h_rcd : P .rcd = true) (h_sec : P .sec = true) :
    WithinOut P s (execClearStatement s) := by
  unfold execClearStatement
  with_reducible repeat' first
    | assumption | exact Within.refl _ _ | exact Within.id_ _ _ | apply WithinOut.next
    | apply Within.trans ?_ (State.stmtEnd_within _ _ _ _ ?_ ?_ ?_ ?_ (fun _ => ?_) (fun _ => ?_))
    | apply Within.trans ?_ (State.recClearAccept_within _ _ _ ?_ ?_ ?_ ?_ ?_)

theorem execRevokeStatement_within {P : Part → Bool} (s : State) (h_j3 : P .j3 = true) (h_regs : P .regs = true) (h_cad : P .cad = true)
    (h_sec : P .sec = true) :
    WithinOut P s (execRevokeStatement s) := by
  unfold execRevokeStatement
  with_reducible repeat' first
    | assumption | exact Within.refl _ _ | exact Within.id_ _ _ | apply WithinOut.next
    | apply Within.trans ?_ (State.stmtEnd_within _ _ _ _ ?_ ?_ ?_ ?_ (fun _ => ?_) (fun _ => ?_))
    | apply Within.trans ?_ (State.setFld_within _ _ _ ?_) | apply Within.ite | apply WithinOut.ite

theorem execLifecycleHoldExpiry_within {P : Part → Bool} (s : State) (h_regs : P .regs = true) (h_sec : P .sec = true) :
    WithinOut P s (execLifecycleHoldExpiry s) := by
  unfold execLifecycleHoldExpiry
  with_reducible repeat' first
    | assumption | exact Within.refl _ _ | apply WithinOut.next | apply Within.trans ?_ (State.updSec_within _ _ ?_)
    | apply Within.trans ?_ (State.setFld_within _ _ _ ?_)

theorem execAuthLogout_within {P : Part → Bool} (m : Master) (s : State) (h_free : P .free = true) (h_resp : P .resp = true)
    (h_j3 : P .j3 = true) (h_regs : P .regs = true) (h_cad : P .cad = true) (h_pwm : P .pwm = true) (h_safe : P .safe = true)
    (h_tnd : P .tnd = true) :
    WithinOut P s (execAuthLogout m s) := by
  unfold execAuthLogout
  with_reducible repeat' first
    | assumption | exact Within.refl _ _ | exact Within.id_ _ _ | apply WithinOut.next
    | apply Within.trans ?_ (State.write_within _ _ _ _ _ ?_ ?_ ?_ ?_ ?_ (fun _ => ?_))
    | apply Within.trans ?_ (State.sessEnd_within _ ?_ ?_ ?_ ?_ ?_ ?_)

theorem execAuthSessionExpiry_within {P : Part → Bool} (s : State) (h_j3 : P .j3 = true) (h_regs : P .regs = true) (h_cad : P .cad = true)
    (h_pwm : P .pwm = true) (h_safe : P .safe = true) (h_tnd : P .tnd = true) :
    WithinOut P s (execAuthSessionExpiry s) := by
  unfold execAuthSessionExpiry
  with_reducible repeat' first
    | assumption | exact Within.refl _ _ | apply WithinOut.next | apply Within.trans ?_ (State.sessEnd_within _ ?_ ?_ ?_ ?_ ?_ ?_)

theorem execChangeOpen_within {P : Part → Bool} (m : Master) (pages : Fin 64) (s : State) (h_free : P .free = true)
    (h_resp : P .resp = true) (h_j3 : P .j3 = true) (h_regs : P .regs = true) (h_cad : P .cad = true) :
    WithinOut P s (execChangeOpen m pages s) := by
  unfold execChangeOpen
  with_reducible repeat' first
    | assumption | exact Within.refl _ _ | exact Within.id_ _ _ | apply WithinOut.next
    | apply Within.trans ?_ (State.write_within _ _ _ _ _ ?_ ?_ ?_ ?_ ?_ (fun _ => ?_))
    | apply Within.trans ?_ (State.setFld_within _ _ _ ?_) | apply Within.trans ?_ (State.post_within _ _ _ _ ?_ ?_ ?_)
    | apply Within.trans ?_ (State.chgTo__within _ _ ?_) | apply Within.ite | apply WithinOut.ite
    | apply Within.foldl (fun _ _ => ?_) ?_ _

theorem execChangeSeal_within {P : Part → Bool} (m : Master) (s : State) (h_free : P .free = true) (h_resp : P .resp = true)
    (h_j3 : P .j3 = true) (h_regs : P .regs = true) (h_cad : P .cad = true) (h_sec : P .sec = true) :
    WithinOut P s (execChangeSeal m s) := by
  unfold execChangeSeal
  with_reducible repeat' first
    | assumption | exact Within.refl _ _ | exact Within.id_ _ _ | apply WithinOut.next
    | apply Within.trans ?_ (State.write_within _ _ _ _ _ ?_ ?_ ?_ ?_ ?_ (fun _ => ?_))
    | apply Within.trans ?_ (State.updSec_within _ _ ?_) | apply Within.trans ?_ (State.setFld_within _ _ _ ?_) | apply Within.ite
    | apply WithinOut.ite

theorem execChangeDigestDone_within {P : Part → Bool} (s : State) (h_regs : P .regs = true) (h_sec : P .sec = true) :
    WithinOut P s (execChangeDigestDone s) := by
  unfold execChangeDigestDone
  with_reducible repeat' first
    | assumption | exact Within.refl _ _ | exact Within.id_ _ _ | apply WithinOut.next | apply Within.each (fun _ _ => ?_) _ ?_
    | apply Within.trans ?_ (State.wr_within _ _ _ ?_) | apply Within.trans ?_ (State.chgTo__within _ _ ?_)
    | apply Within.trans ?_ (State.updSec_within _ _ ?_) | apply Within.ite | apply WithinOut.ite

theorem execChangeCommit_within {P : Part → Bool} (ok : Bool) (s : State) (h_j3 : P .j3 = true) (h_regs : P .regs = true)
    (h_staged : P .staged = true) (h_bytes : P .bytes = true) (h_cad : P .cad = true) (h_sec : P .sec = true) :
    WithinOut P s (execChangeCommit ok s) := by
  unfold execChangeCommit
  with_reducible repeat' first
    | assumption | exact Within.refl _ _ | apply WithinOut.next | apply Within.trans ?_ (State.chgCommitted_within _ ?_ ?_ ?_ ?_ ?_)
    | apply Within.trans ?_ (State.chgDiscard_within _ _ ?_ ?_ ?_ ?_ ?_) | apply Within.ite | apply WithinOut.ite

theorem execChangeWindowExpiry_within {P : Part → Bool} (s : State) (h_j3 : P .j3 = true) (h_regs : P .regs = true)
    (h_staged : P .staged = true) (h_cad : P .cad = true) (h_sec : P .sec = true) :
    WithinOut P s (execChangeWindowExpiry s) := by
  unfold execChangeWindowExpiry
  with_reducible repeat' first
    | assumption | exact Within.refl _ _ | apply WithinOut.next | apply Within.trans ?_ (State.chgDiscard_within _ _ ?_ ?_ ?_ ?_ ?_)
    | apply Within.trans ?_ (State.opTo_within _ _ _ ?_) | apply Within.ite | apply WithinOut.ite

theorem execChangeAbort_within {P : Part → Bool} (m : Master) (s : State) (h_free : P .free = true) (h_resp : P .resp = true)
    (h_j3 : P .j3 = true) (h_regs : P .regs = true) (h_staged : P .staged = true) (h_cad : P .cad = true) (h_sec : P .sec = true) :
    WithinOut P s (execChangeAbort m s) := by
  unfold execChangeAbort
  with_reducible repeat' first
    | assumption | exact Within.refl _ _ | exact Within.id_ _ _ | apply WithinOut.next
    | apply Within.trans ?_ (State.write_within _ _ _ _ _ ?_ ?_ ?_ ?_ ?_ (fun _ => ?_))
    | apply Within.trans ?_ (State.chgDiscard_within _ _ ?_ ?_ ?_ ?_ ?_) | apply Within.ite | apply WithinOut.ite

theorem execDebugOpen_within {P : Part → Bool} (m : Master) (s : State) (h_free : P .free = true) (h_resp : P .resp = true)
    (h_j3 : P .j3 = true) (h_regs : P .regs = true) (h_cad : P .cad = true) :
    WithinOut P s (execDebugOpen m s) := by
  unfold execDebugOpen
  with_reducible repeat' first
    | assumption | exact Within.refl _ _ | exact Within.id_ _ _ | apply WithinOut.next
    | apply Within.trans ?_ (State.write_within _ _ _ _ _ ?_ ?_ ?_ ?_ ?_ (fun _ => ?_))
    | apply Within.trans ?_ (State.post_within _ _ _ _ ?_ ?_ ?_) | apply Within.trans ?_ (State.setFld_within _ _ _ ?_)
    | apply Within.ite | apply WithinOut.ite

theorem execDebugClose_within {P : Part → Bool} (m : Master) (s : State) (h_free : P .free = true) (h_resp : P .resp = true)
    (h_j3 : P .j3 = true) (h_regs : P .regs = true) (h_cad : P .cad = true) (h_pwm : P .pwm = true) (h_safe : P .safe = true)
    (h_tnd : P .tnd = true) :
    WithinOut P s (execDebugClose m s) := by
  unfold execDebugClose
  with_reducible repeat' first
    | assumption | exact Within.refl _ _ | exact Within.id_ _ _ | apply WithinOut.next
    | apply Within.trans ?_ (State.write_within _ _ _ _ _ ?_ ?_ ?_ ?_ ?_ (fun _ => ?_))
    | apply Within.trans ?_ (State.debugClose_within _ ?_ ?_ ?_ ?_ ?_ ?_)

theorem State.resetRegs_within {P : Part → Bool} (s : State) (t : State) (cause : Nat) (dies : Bool) (h_regs : P .regs = true) :
    Within P { t with regs := if dies = true then s.regs.filter fun e => dieRegister e.1 else [] } (State.resetRegs s t cause dies) := by
  unfold State.resetRegs
  with_reducible repeat' first
    | assumption | exact Within.refl _ _ | exact Within.id_ _ _ | apply Within.trans ?_ (State.wr_within _ _ _ ?_)
    | apply Within.trans ?_ (State.setFld_within _ _ _ ?_) | apply Within.each (fun _ _ => ?_) _ ?_ | apply Within.ite
    | apply Within.foldl (fun _ _ => ?_) ?_ _

theorem State.resetState_within {P : Part → Bool} (a0 : State) (a1 : Nat) (a2 : Bool) (h_clock : P .clock = true)
    (h_resp : P .resp = true) (h_j3 : P .j3 = true) (h_regs : P .regs = true) (h_live : P .live = true) (h_staged : P .staged = true)
    (h_bytes : P .bytes = true) (h_engineMem : P .engineMem = true) (h_canRam : P .canRam = true) (h_cad : P .cad = true)
    (h_eng : P .eng = true) (h_sens : P .sens = true) (h_pwm : P .pwm = true) (h_safe : P .safe = true) (h_pos : P .pos = true)
    (h_trac : P .trac = true) (h_conv : P .conv = true) (h_act : P .act = true) (h_drl : P .drl = true) (h_tnd : P .tnd = true)
    (h_net : P .net = true) (h_rcd : P .rcd = true) (h_pwr : P .pwr = true) (h_sec : P .sec = true) :
    Within P a0 (State.resetState a0 a1 a2) := by
  have key : ∀ t : State, t.pending = a0.pending → t.free = a0.free → t.live = [] → t.staged = [] → t.j3 = [] → t.srstEnds = [] →
      (a0.Canonical → Memory.wf t.undef t.mem ∧ Store.wf (fun _ => 0) t.bad = true ∧ Store.wf (fun _ => 0) t.prog = true ∧ Store.wf
        (fun _ => 0) t.tab = true ∧
        Store.wf (fun _ => 0) t.canAct = true ∧ Store.wf (fun _ => 0) t.canShadow = true) → Within P a0 (a0.resetRegs t a1 a2) := by
    intro t hp hf hl hg hj hr hc
    refine Within.trans (t := { t with regs := if a2 = true then a0.regs.filter fun e => dieRegister e.1 else [] }) ⟨hp, fun c =>
      ?_, fun p k => ?_⟩
      (State.resetRegs_within (P := P) a0 t a1 a2 h_regs)
    · obtain ⟨c1, cb, c2, c3, c4, c5⟩ := hc c
      refine ⟨c1, cb,
        ?_, by simp only [hr]; rfl, by simp only [hl]; rfl, by simp only [hg]; rfl, c2, c3, c4, c5, by simp only [hj]; exact Nat.zero_le _⟩
      show Store.wf resetWord (if a2 then _ else _) = true
      split
      · exact Store.wf_filter _ c.regs
      · rfl
    · cases p <;> first | exact hf | exact absurd k (by simp [*])
  unfold State.resetState
  extract_lets por k words t t1 t2 t3
  have h : ∀ u : State, u.undef = t2.undef → u.mem = t2.mem → u.pending = t2.pending → u.free = t2.free → u.live = t2.live → u.staged = t2.staged →
      u.j3 = t2.j3 → u.srstEnds = t2.srstEnds → u.bad = t2.bad → u.prog = t2.prog → u.tab = t2.tab → u.canAct = t2.canAct → u.canShadow = t2.canShadow → Within P a0
        (a0.resetRegs u a1 a2) := by
    intro u e1 e2 e3 e4 e5 e6 e7 er eb e8 e9 e10 e11
    refine key u ?_ ?_ ?_ ?_ ?_ ?_ fun c => ?_
    · rw [e3]; unfold t2; split <;> rfl
    · rw [e4]; unfold t2; split <;> rfl
    · rw [e5]; unfold t2; split <;> rfl
    · rw [e6]; unfold t2; split <;> rfl
    · rw [e7]; unfold t2; split <;> rfl
    · rw [er]; unfold t2; split <;> rfl
    · rw [e1, e2, eb, e8, e9, e10, e11]
      unfold t2
      split
      · have c0 : t.Canonical := ⟨c.mem, rfl, rfl, rfl, rfl, rfl, rfl, rfl, rfl, rfl, Nat.zero_le _⟩
        have c1 := ((State.clearMem_within (P := fun _ => true) t 0x20000000 0x3C0000 rfl).trans
          (State.forget_within (P := fun _ => true) (t.clearMem 0x20000000 0x3C0000) 0x203C0000 0x40000 rfl)).canonical c0
        exact ⟨c1.mem, c1.bad, c1.prog, c1.tab, c1.canAct, c1.canShadow⟩
      · exact ⟨c.mem, c.bad, c.prog, c.tab, Store.wf_rebuild _ rfl, c.canShadow⟩
  unfold t3
  split
  · exact h _ rfl rfl rfl rfl rfl rfl rfl rfl rfl rfl rfl rfl rfl
  · exact h _ rfl rfl rfl rfl rfl rfl rfl rfl rfl rfl rfl rfl rfl

theorem State.startBist_within {P : Part → Bool} (s : State) (fails : List (Nat × BistFail)) (h_free : P .free = true)
    (h_j3 : P .j3 = true) (h_regs : P .regs = true) (h_bytes : P .bytes = true) (h_cad : P .cad = true) (h_rcd : P .rcd = true) :
    Within P s (State.startBist s fails) := by
  unfold State.startBist
  with_reducible repeat' first
    | assumption | exact Within.refl _ _ | apply Within.trans ?_ (State.clearMem_within _ _ _ ?_)
    | apply Within.trans ?_ (State.updRec_within _ _ ?_) | apply Within.trans ?_ (State.setFld_within _ _ _ ?_)
    | apply Within.trans ?_ (State.bistFail_within _ _ _ ?_ ?_ ?_ ?_) | apply Within.trans ?_ (State.flt_within _ _ _ _ ?_)
    | apply Within.ite | apply Within.foldl (fun _ _ => ?_) ?_ _

theorem State.ringKeep_within {P : Part → Bool} (s : State) (h_regs : P .regs = true) (h_bytes : P .bytes = true) :
    Within P s (State.ringKeep s) := by
  unfold State.ringKeep
  with_reducible repeat' first
    | assumption | exact Within.refl _ _ | apply Within.trans ?_ (State.setFld_within _ _ _ ?_)
    | apply Within.trans ?_ (State.putBytes_within _ _ _ ?_) | apply Within.ite | apply Within.foldl (fun _ _ => ?_) ?_ _ | split
    | (dsimp only; split)

theorem State.recStart_within {P : Part → Bool} (s : State) (ctlOk : Bool) (h_regs : P .regs = true) (h_bytes : P .bytes = true)
    (h_rcd : P .rcd = true) :
    Within P s (State.recStart s ctlOk) := by
  unfold State.recStart
  with_reducible repeat' first
    | assumption | exact Within.refl _ _ | exact Within.id_ _ _ | apply Within.trans ?_ (State.setFld_within _ _ _ ?_)
    | apply Within.trans ?_ (State.ringKeep_within _ ?_ ?_) | apply Within.trans ?_ (State.clearMem_within _ _ _ ?_)
    | apply Within.trans ?_ (State.recOwn_within _ _ _ ?_ ?_ ?_) | apply Within.each (fun _ _ => ?_) _ ?_
    | apply Within.trans ?_ (State.trackZero_within _ _ ?_) | apply Within.trans ?_ (State.updRec_within _ _ ?_) | apply Within.ite

theorem State.startPosts_within {P : Part → Bool} (s : State) (h_j3 : P .j3 = true) (h_regs : P .regs = true) (h_cad : P .cad = true)
    (h_sec : P .sec = true) :
    Within P s (State.startPosts s) := by
  unfold State.startPosts
  with_reducible repeat' first
    | assumption | exact Within.refl _ _ | apply Within.trans ?_ (State.post_within _ _ _ _ ?_ ?_ ?_)
    | apply Within.trans ?_ (State.setFld_within _ _ _ ?_) | apply Within.trans ?_ (State.updSec_within _ _ ?_) | apply Within.ite
    | split | (dsimp only; split)

theorem State.loadCfg_within {P : Part → Bool} (s : State) (valid : Bool) (h_j3 : P .j3 = true) (h_regs : P .regs = true)
    (h_cad : P .cad = true) :
    Within P s (State.loadCfg s valid) := by
  unfold State.loadCfg
  with_reducible repeat' first
    | assumption | exact Within.refl _ _ | apply Within.trans ?_ (State.wr_within _ _ _ ?_)
    | apply Within.trans ?_ (State.post_within _ _ _ _ ?_ ?_ ?_) | apply Within.trans ?_ (State.setFld_within _ _ _ ?_)
    | apply Within.ite | apply Within.foldl (fun _ _ => ?_) ?_ _

theorem State.assignLegs_within {P : Part → Bool} (s : State) (h_regs : P .regs = true) (h_live : P .live = true) :
    Within P s (State.assignLegs s) := by
  unfold State.assignLegs
  with_reducible repeat' first
    | assumption | exact Within.refl _ _ | exact Within.id_ _ _ | apply Within.trans ?_ (State.setFld_within _ _ _ ?_)
    | apply Within.each (fun _ _ => ?_) _ ?_ | apply Within.trans ?_ (State.wrLive_within _ _ _ ?_)
    | apply Within.foldl (fun _ _ => ?_) ?_ _ | split | (dsimp only; split)

theorem State.startLinks_within {P : Part → Bool} (s : State) (h_regs : P .regs = true) (h_pwm : P .pwm = true) :
    Within P s (State.startLinks s) := by
  unfold State.startLinks
  with_reducible repeat' first
    | assumption | exact Within.refl _ _ | exact Within.id_ _ _ | apply Within.each (fun _ _ => ?_) _ ?_
    | apply Within.trans ?_ (State.updLink_within _ _ _ ?_) | apply Within.trans ?_ (State.setFld_within _ _ _ ?_)
    | apply Within.trans ?_ (State.restartLink_within _ _ ?_ ?_) | apply Within.ite

theorem State.calShot_within {P : Part → Bool} (s : State) (h_sec : P .sec = true) :
    Within P s (State.calShot s) := by
  unfold State.calShot
  with_reducible repeat' first
    | assumption | exact Within.refl _ _ | apply Within.trans ?_ (State.updSec_within _ _ ?_)

theorem State.trySlot_within {P : Part → Bool} (s : State) (slot : Nat) (ecdsa : Bool) (lms : Bool) (h_j3 : P .j3 = true)
    (h_regs : P .regs = true) (h_bytes : P .bytes = true) (h_cad : P .cad = true) (h_sec : P .sec = true) :
    Within P s (State.trySlot s slot ecdsa lms) := by
  unfold State.trySlot
  with_reducible repeat' first
    | assumption | exact Within.refl _ _ | apply Within.trans ?_ (State.setFld_within _ _ _ ?_)
    | apply Within.trans ?_ (State.postSlot_within _ _ _ ?_ ?_ ?_) | apply Within.trans ?_ (State.updSec_within _ _ ?_)
    | apply Within.trans ?_ (State.keysWritten_within _ ?_) | apply Within.ite

theorem State.romStage_within {P : Part → Bool} (s : State) (cfgValid : Bool) (h_j3 : P .j3 = true) (h_regs : P .regs = true)
    (h_live : P .live = true) (h_bytes : P .bytes = true) (h_cad : P .cad = true) (h_eng : P .eng = true) (h_pwm : P .pwm = true)
    (h_safe : P .safe = true) (h_rcd : P .rcd = true) (h_sec : P .sec = true) :
    Within P s (State.romStage s cfgValid) := by
  unfold State.romStage
  with_reducible repeat' first
    | assumption | exact Within.refl _ _ | exact Within.id_ _ _ | apply Within.trans ?_ (State.loadCfg_within _ _ ?_ ?_ ?_)
    | apply Within.trans ?_ (State.updSec_within _ _ ?_) | apply Within.trans ?_ (State.assignLegs_within _ ?_ ?_)
    | apply Within.trans ?_ (State.updEng_within _ _ ?_) | apply Within.trans ?_ (State.syncLines_within _ ?_ ?_ ?_ ?_ ?_)
    | apply Within.each (fun _ _ => ?_) _ ?_ | apply Within.trans ?_ (State.siUpdate_within _ _ ?_ ?_ ?_ ?_ ?_)
    | apply Within.trans ?_ (State.calShot_within _ ?_) | apply Within.trans ?_ (State.startLinks_within _ ?_ ?_)
    | apply Within.trans ?_ (State.setStage_within _ _ ?_ ?_ ?_) | apply Within.ite

theorem State.fullService_within {P : Part → Bool} (s : State) (slot : Nat) (h_j3 : P .j3 = true) (h_regs : P .regs = true)
    (h_bytes : P .bytes = true) (h_cad : P .cad = true) (h_rcd : P .rcd = true) (h_sec : P .sec = true) :
    Within P s (State.fullService s slot) := by
  unfold State.fullService
  with_reducible repeat' first
    | assumption | exact Within.refl _ _ | apply Within.trans ?_ (State.setFld_within _ _ _ ?_)
    | apply Within.trans ?_ (State.setStage_within _ _ ?_ ?_ ?_) | apply Within.trans ?_ (State.updSec_within _ _ ?_)
    | apply Within.trans ?_ (State.post_within _ _ _ _ ?_ ?_ ?_) | apply Within.ite

theorem execPowerOnReset_within {P : Part → Bool} (dies : Bool) (s : State) (h_clock : P .clock = true) (h_resp : P .resp = true)
    (h_j3 : P .j3 = true) (h_regs : P .regs = true) (h_live : P .live = true) (h_staged : P .staged = true) (h_bytes : P .bytes = true)
    (h_engineMem : P .engineMem = true) (h_canRam : P .canRam = true) (h_cad : P .cad = true) (h_eng : P .eng = true)
    (h_sens : P .sens = true) (h_pwm : P .pwm = true) (h_safe : P .safe = true) (h_pos : P .pos = true) (h_trac : P .trac = true)
    (h_conv : P .conv = true) (h_act : P .act = true) (h_drl : P .drl = true) (h_tnd : P .tnd = true) (h_net : P .net = true)
    (h_rcd : P .rcd = true) (h_pwr : P .pwr = true) (h_sec : P .sec = true) :
    WithinOut P s (execPowerOnReset dies s) := by
  unfold execPowerOnReset
  with_reducible repeat' first
    | assumption | exact Within.refl _ _ | apply WithinOut.next
    | apply Within.trans ?_ (State.resetState_within _ _ _ ?_ ?_ ?_ ?_ ?_ ?_ ?_ ?_ ?_ ?_ ?_ ?_ ?_ ?_ ?_ ?_ ?_ ?_ ?_ ?_ ?_ ?_ ?_ ?_)

theorem execResetRelease_within {P : Part → Bool} (ctlOk : Bool) (fails : List (Fin 7 × BistFail)) (s : State) (h_free : P .free = true)
    (h_j3 : P .j3 = true) (h_regs : P .regs = true) (h_bytes : P .bytes = true) (h_cad : P .cad = true) (h_rcd : P .rcd = true)
    (h_sec : P .sec = true) :
    WithinOut P s (execResetRelease ctlOk fails s) := by
  unfold execResetRelease
  with_reducible repeat' first
    | assumption | exact Within.refl _ _ | apply WithinOut.next | apply Within.trans ?_ (State.setFld_within _ _ _ ?_)
    | apply Within.trans ?_ (State.updSec_within _ _ ?_) | apply Within.trans ?_ (State.startBist_within _ _ ?_ ?_ ?_ ?_ ?_ ?_)
    | apply Within.trans ?_ (State.startPosts_within _ ?_ ?_ ?_ ?_) | apply Within.trans ?_ (State.recStart_within _ _ ?_ ?_ ?_)
    | apply Within.ite | apply WithinOut.ite

theorem execWake_within {P : Part → Bool} (s : State) (h_regs : P .regs = true) :
    WithinOut P s (execWake s) := by
  unfold execWake
  with_reducible repeat' first
    | assumption | exact Within.refl _ _ | apply WithinOut.next | apply Within.trans ?_ (State.wr_within _ _ _ ?_)
    | apply Within.ite | apply WithinOut.ite

theorem execWarmReset_within {P : Part → Bool} (m : Master) (key : Fin 256) (s : State) (h_clock : P .clock = true)
    (h_free : P .free = true) (h_resp : P .resp = true) (h_j3 : P .j3 = true) (h_regs : P .regs = true) (h_live : P .live = true)
    (h_staged : P .staged = true) (h_bytes : P .bytes = true) (h_engineMem : P .engineMem = true) (h_canRam : P .canRam = true)
    (h_cad : P .cad = true) (h_eng : P .eng = true) (h_sens : P .sens = true) (h_pwm : P .pwm = true) (h_safe : P .safe = true)
    (h_pos : P .pos = true) (h_trac : P .trac = true) (h_conv : P .conv = true) (h_act : P .act = true) (h_drl : P .drl = true)
    (h_tnd : P .tnd = true) (h_net : P .net = true) (h_rcd : P .rcd = true) (h_pwr : P .pwr = true) (h_sec : P .sec = true) :
    WithinOut P s (execWarmReset m key s) := by
  unfold execWarmReset
  with_reducible repeat' first
    | assumption | exact Within.refl _ _ | exact Within.id_ _ _ | apply WithinOut.next
    | apply Within.trans ?_ (State.write_within _ _ _ _ _ ?_ ?_ ?_ ?_ ?_ (fun _ => ?_))
    | apply Within.trans ?_ (State.resetState_within _ _ _ ?_ ?_ ?_ ?_ ?_ ?_ ?_ ?_ ?_ ?_ ?_ ?_ ?_ ?_ ?_ ?_ ?_ ?_ ?_ ?_ ?_ ?_ ?_ ?_)

theorem execFlushRestart_within {P : Part → Bool} (s : State) (h_clock : P .clock = true) (h_resp : P .resp = true) (h_j3 : P .j3 = true)
    (h_regs : P .regs = true) (h_live : P .live = true) (h_staged : P .staged = true) (h_bytes : P .bytes = true)
    (h_engineMem : P .engineMem = true) (h_canRam : P .canRam = true) (h_cad : P .cad = true) (h_eng : P .eng = true)
    (h_sens : P .sens = true) (h_pwm : P .pwm = true) (h_safe : P .safe = true) (h_pos : P .pos = true) (h_trac : P .trac = true)
    (h_conv : P .conv = true) (h_act : P .act = true) (h_drl : P .drl = true) (h_tnd : P .tnd = true) (h_net : P .net = true)
    (h_rcd : P .rcd = true) (h_pwr : P .pwr = true) (h_sec : P .sec = true) :
    WithinOut P s (execFlushRestart s) := by
  unfold execFlushRestart
  with_reducible repeat' first
    | assumption | exact Within.refl _ _ | apply WithinOut.next
    | apply Within.trans ?_ (State.resetState_within _ _ _ ?_ ?_ ?_ ?_ ?_ ?_ ?_ ?_ ?_ ?_ ?_ ?_ ?_ ?_ ?_ ?_ ?_ ?_ ?_ ?_ ?_ ?_ ?_ ?_)
    | apply Within.ite | apply WithinOut.ite

theorem execHoldupCutoff_within {P : Part → Bool} (written : Fin 7681) (s : State) (h_clock : P .clock = true) (h_resp : P .resp = true)
    (h_j3 : P .j3 = true) (h_regs : P .regs = true) (h_live : P .live = true) (h_staged : P .staged = true) (h_bytes : P .bytes = true)
    (h_engineMem : P .engineMem = true) (h_canRam : P .canRam = true) (h_cad : P .cad = true) (h_eng : P .eng = true)
    (h_sens : P .sens = true) (h_pwm : P .pwm = true) (h_safe : P .safe = true) (h_pos : P .pos = true) (h_trac : P .trac = true)
    (h_conv : P .conv = true) (h_act : P .act = true) (h_drl : P .drl = true) (h_tnd : P .tnd = true) (h_net : P .net = true)
    (h_rcd : P .rcd = true) (h_pwr : P .pwr = true) (h_sec : P .sec = true) :
    WithinOut P s (execHoldupCutoff written s) := by
  unfold execHoldupCutoff
  with_reducible repeat' first
    | assumption | exact Within.refl _ _ | apply WithinOut.next | apply Within.trans ?_ (State.flushStep4_within _ _ ?_ ?_ ?_)
    | apply Within.trans ?_ (State.resetState_within _ _ _ ?_ ?_ ?_ ?_ ?_ ?_ ?_ ?_ ?_ ?_ ?_ ?_ ?_ ?_ ?_ ?_ ?_ ?_ ?_ ?_ ?_ ?_ ?_ ?_)
    | apply Within.ite | apply WithinOut.ite

theorem execRomStageDone_within {P : Part → Bool} (cfgValid : Bool) (s : State) (h_j3 : P .j3 = true) (h_regs : P .regs = true)
    (h_live : P .live = true) (h_bytes : P .bytes = true) (h_cad : P .cad = true) (h_eng : P .eng = true) (h_pwm : P .pwm = true)
    (h_safe : P .safe = true) (h_rcd : P .rcd = true) (h_sec : P .sec = true) :
    WithinOut P s (execRomStageDone cfgValid s) := by
  unfold execRomStageDone
  with_reducible repeat' first
    | assumption | exact Within.refl _ _ | apply WithinOut.next
    | apply Within.trans ?_ (State.romStage_within _ _ ?_ ?_ ?_ ?_ ?_ ?_ ?_ ?_ ?_ ?_) | apply Within.ite | apply WithinOut.ite

theorem execEarlyServiceReady_within {P : Part → Bool} (s : State) (h_free : P .free = true) (h_j3 : P .j3 = true)
    (h_regs : P .regs = true) (h_bytes : P .bytes = true) (h_cad : P .cad = true) (h_pwm : P .pwm = true) (h_act : P .act = true)
    (h_rcd : P .rcd = true) :
    WithinOut P s (execEarlyServiceReady s) := by
  unfold execEarlyServiceReady
  with_reducible repeat' first
    | assumption | exact Within.refl _ _ | apply WithinOut.next | apply Within.trans ?_ (State.setStage_within _ _ ?_ ?_ ?_)
    | apply Within.trans ?_ (State.setFld_within _ _ _ ?_) | apply Within.trans ?_ (State.post_within _ _ _ _ ?_ ?_ ?_)
    | apply Within.trans ?_ (State.actShow_within _ _ ?_) | apply Within.trans ?_ (State.actEval_within _ _ ?_ ?_ ?_ ?_ ?_ ?_)
    | apply Within.ite | apply WithinOut.ite

theorem execHallmarkSlotVerified_within {P : Part → Bool} (slot : Fin 2) (ecdsa : Bool) (lms : Bool) (s : State) (h_j3 : P .j3 = true)
    (h_regs : P .regs = true) (h_bytes : P .bytes = true) (h_cad : P .cad = true) (h_sec : P .sec = true) :
    WithinOut P s (execHallmarkSlotVerified slot ecdsa lms s) := by
  unfold execHallmarkSlotVerified
  with_reducible repeat' first
    | assumption | exact Within.refl _ _ | apply WithinOut.next
    | apply Within.trans ?_ (State.trySlot_within _ _ _ _ ?_ ?_ ?_ ?_ ?_) | apply Within.ite | apply WithinOut.ite

theorem execFullServiceStart_within {P : Part → Bool} (s : State) (h_j3 : P .j3 = true) (h_regs : P .regs = true)
    (h_bytes : P .bytes = true) (h_cad : P .cad = true) (h_rcd : P .rcd = true) (h_sec : P .sec = true) :
    WithinOut P s (execFullServiceStart s) := by
  unfold execFullServiceStart
  with_reducible repeat' first
    | assumption | exact Within.refl _ _ | apply WithinOut.next
    | apply Within.trans ?_ (State.fullService_within _ _ ?_ ?_ ?_ ?_ ?_ ?_) | apply Within.ite | apply WithinOut.ite

theorem execEarlyMaxExpiry_within {P : Part → Bool} (s : State) (h_j3 : P .j3 = true) (h_regs : P .regs = true)
    (h_bytes : P .bytes = true) (h_cad : P .cad = true) (h_eng : P .eng = true) (h_pwm : P .pwm = true) (h_safe : P .safe = true)
    (h_rcd : P .rcd = true) :
    WithinOut P s (execEarlyMaxExpiry s) := by
  unfold execEarlyMaxExpiry
  with_reducible repeat' first
    | assumption | exact Within.refl _ _ | exact Within.id_ _ _ | apply WithinOut.next
    | apply Within.trans ?_ (State.post_within _ _ _ _ ?_ ?_ ?_) | apply Within.each (fun _ _ => ?_) _ ?_
    | apply Within.trans ?_ (State.tripCtx_within _ _ ?_ ?_ ?_ ?_ ?_ ?_)
    | apply Within.trans ?_ (State.setStage_within _ _ ?_ ?_ ?_) | apply Within.ite | apply WithinOut.ite

theorem execEarlyOverspeed_within {P : Part → Bool} (i : Fin 2) (s : State) (h_j3 : P .j3 = true) (h_regs : P .regs = true)
    (h_cad : P .cad = true) (h_eng : P .eng = true) (h_pwm : P .pwm = true) (h_safe : P .safe = true) :
    WithinOut P s (execEarlyOverspeed i s) := by
  unfold execEarlyOverspeed
  with_reducible repeat' first
    | assumption | exact Within.refl _ _ | apply WithinOut.next | apply Within.trans ?_ (State.tripCtx_within _ _ ?_ ?_ ?_ ?_ ?_ ?_)
    | apply Within.ite | apply WithinOut.ite

theorem execEarlyDemandTimeout_within {P : Part → Bool} (i : Fin 2) (s : State) (h_free : P .free = true) (h_resp : P .resp = true)
    (h_j3 : P .j3 = true) (h_regs : P .regs = true) (h_cad : P .cad = true) (h_drl : P .drl = true) :
    WithinOut P s (execEarlyDemandTimeout i s) := by
  unfold execEarlyDemandTimeout
  with_reducible repeat' first
    | assumption | exact Within.refl _ _ | apply WithinOut.next | apply Within.trans ?_ (State.mbxCommit_within _ _ _ ?_)
    | apply Within.trans ?_ (State.mbxWrite_within _ _ _ _ _ ?_ ?_ ?_ ?_ ?_ ?_) | apply Within.ite | apply WithinOut.ite

theorem State.updCad_within {P : Part → Bool} (s : State) (f : Cad → Cad) (h_cad : P .cad = true) :
    Within P s (State.updCad s f) := by
  unfold State.updCad
  with_reducible repeat' first
    | assumption | exact Within.refl _ _ | apply Within.cad ?_ ?_ _

theorem State.admDone_within {P : Part → Bool} (s : State) (h_j3 : P .j3 = true) (h_regs : P .regs = true) (h_cad : P .cad = true)
    (h_eng : P .eng = true) :
    Within P s (State.admDone s) := by
  unfold State.admDone
  with_reducible repeat' first
    | assumption | exact Within.refl _ _ | apply Within.trans ?_ (State.engineReads_within _ _ ?_ ?_ ?_ ?_)
    | apply Within.trans ?_ (State.setFld_within _ _ _ ?_) | apply Within.trans ?_ (State.evt_within _ _ _ _ ?_)
    | apply Within.trans ?_ (State.updCad_within _ _ ?_) | apply Within.trans ?_ (State.wr_within _ _ _ ?_) | apply Within.ite
    | apply Within.foldl (fun _ _ => ?_) ?_ _ | split | (dsimp only; split)

theorem State.clearScratch_within {P : Part → Bool} (s : State) (c : Nat) (h_eng : P .eng = true) :
    Within P s (State.clearScratch s c) := by
  unfold State.clearScratch
  with_reducible repeat' first
    | assumption | exact Within.refl _ _ | apply Within.trans ?_ (State.clearErr_within _ _ ?_)
    | apply Within.trans ?_ (State.updCtx_within _ _ _ ?_)

theorem State.ctxEnter_within {P : Part → Bool} (s : State) (c : Nat) (new : Nat) (h_j3 : P .j3 = true) (h_regs : P .regs = true)
    (h_cad : P .cad = true) (h_eng : P .eng = true) :
    Within P s (State.ctxEnter s c new) := by
  unfold State.ctxEnter
  with_reducible repeat' first
    | assumption | exact Within.refl _ _ | exact Within.id_ _ _ | apply Within.when (fun _ => ?_) ?_
    | apply Within.trans ?_ (State.ctxMove_within _ _ _ ?_ ?_ ?_) | apply Within.trans ?_ (State.setFld_within _ _ _ ?_)
    | apply Within.trans ?_ (State.updCtx_within _ _ _ ?_) | apply Within.trans ?_ (State.clearScratch_within _ _ ?_)
    | apply Within.ite

theorem State.applyCtx_within {P : Part → Bool} (s : State) (c : Nat) (h_j3 : P .j3 = true) (h_regs : P .regs = true)
    (h_live : P .live = true) (h_cad : P .cad = true) (h_eng : P .eng = true) :
    Within P s (State.applyCtx s c) := by
  unfold State.applyCtx
  with_reducible repeat' first
    | assumption | exact Within.refl _ _ | apply Within.trans ?_ (State.setFld_within _ _ _ ?_)
    | apply Within.trans ?_ (State.wrLive_within _ _ _ ?_) | apply Within.trans ?_ (State.updCtx_within _ _ _ ?_)
    | apply Within.trans ?_ (State.wr_within _ _ _ ?_) | apply Within.trans ?_ (State.ctxEnter_within _ _ _ ?_ ?_ ?_ ?_)
    | apply Within.ite | apply Within.foldl (fun _ _ => ?_) ?_ _ | split | (dsimp only; split)

theorem State.carrierSwitch_within {P : Part → Bool} (s : State) (g : Nat) (h_regs : P .regs = true) (h_sens : P .sens = true)
    (h_pwm : P .pwm = true) :
    Within P s (State.carrierSwitch s g) := by
  unfold State.carrierSwitch
  with_reducible repeat' first
    | assumption | exact Within.refl _ _ | exact Within.id_ _ _ | apply Within.trans ?_ (State.setFld_within _ _ _ ?_)
    | apply Within.trans ?_ (State.updSrc_within _ _ _ ?_) | apply Within.each (fun _ _ => ?_) _ ?_
    | apply Within.trans ?_ (State.clearFast_within _ _ ?_) | apply Within.trans ?_ (State.showCnt_within _ _ ?_)
    | apply Within.trans ?_ (State.updGrp_within _ _ _ ?_) | apply Within.ite

theorem State.applyGroup_within {P : Part → Bool} (s : State) (g : Nat) (h_regs : P .regs = true) (h_live : P .live = true)
    (h_sens : P .sens = true) (h_pwm : P .pwm = true) :
    Within P s (State.applyGroup s g) := by
  unfold State.applyGroup
  with_reducible repeat' first
    | assumption | exact Within.refl _ _ | apply Within.trans ?_ (State.wrLive_within _ _ _ ?_)
    | apply Within.trans ?_ (State.setFld_within _ _ _ ?_) | apply Within.trans ?_ (State.carrierSwitch_within _ _ ?_ ?_ ?_)
    | apply Within.ite | apply Within.foldl (fun _ _ => ?_) ?_ _

theorem State.applyConfig_within {P : Part → Bool} (s : State) (h_j3 : P .j3 = true) (h_regs : P .regs = true) (h_live : P .live = true)
    (h_cad : P .cad = true) (h_eng : P .eng = true) (h_sens : P .sens = true) (h_pwm : P .pwm = true) :
    Within P s (State.applyConfig s) := by
  unfold State.applyConfig
  with_reducible repeat' first
    | assumption | exact Within.refl _ _ | exact Within.id_ _ _ | apply Within.trans ?_ (State.evt_within _ _ _ _ ?_)
    | apply Within.trans ?_ (State.setFld_within _ _ _ ?_) | apply Within.each (fun _ _ => ?_) _ ?_
    | apply Within.trans ?_ (State.applyCtx_within _ _ ?_ ?_ ?_ ?_ ?_)
    | apply Within.trans ?_ (State.applyGroup_within _ _ ?_ ?_ ?_ ?_) | apply Within.trans ?_ (State.wr_within _ _ _ ?_)
    | apply Within.trans ?_ (State.updCad_within _ _ ?_) | apply Within.ite

theorem State.boundaryLate_within {P : Part → Bool} (s : State) (l : Nat) (h_j3 : P .j3 = true) (h_regs : P .regs = true)
    (h_cad : P .cad = true) (h_eng : P .eng = true) :
    Within P s (State.boundaryLate s l) := by
  unfold State.boundaryLate
  with_reducible repeat' first
    | assumption | exact Within.refl _ _ | exact Within.id_ _ _ | apply Within.trans ?_ (State.setFld_within _ _ _ ?_)
    | apply Within.trans ?_ (State.abortLate_within _ _ _ ?_ ?_ ?_ ?_) | apply Within.each (fun _ _ => ?_) _ ?_
    | apply Within.trans ?_ (State.updCtx_within _ _ _ ?_) | apply Within.trans ?_ (State.late_within _ _ ?_ ?_ ?_ ?_)
    | apply Within.trans ?_ (State.showLane_within _ _ ?_) | apply Within.trans ?_ (State.updLane_within _ _ _ ?_)
    | apply Within.foldl (fun _ _ => ?_) ?_ _

theorem State.latchJ4_within {P : Part → Bool} (s : State) (c : Nat) (h_regs : P .regs = true) (h_eng : P .eng = true) :
    Within P s (State.latchJ4 s c) := by
  unfold State.latchJ4
  with_reducible repeat' first
    | assumption | exact Within.refl _ _ | apply Within.trans ?_ (State.updCtx_within _ _ _ ?_)
    | apply Within.trans ?_ (State.drtStale_within _ _ _ ?_) | apply Within.trans ?_ (State.stale_within _ _ _ ?_)
    | apply Within.ite | apply Within.foldl (fun _ _ => ?_) ?_ _

theorem State.dropFault_within {P : Part → Bool} (s : State) (c : Nat) (h_j3 : P .j3 = true) (h_regs : P .regs = true)
    (h_cad : P .cad = true) (h_pwm : P .pwm = true) (h_safe : P .safe = true) :
    Within P s (State.dropFault s c) := by
  unfold State.dropFault
  with_reducible repeat' first
    | assumption | exact Within.refl _ _ | apply Within.trans ?_ (State.raise_within _ _ _ ?_ ?_ ?_ ?_ ?_)
    | apply Within.trans ?_ (State.post_within _ _ _ _ ?_ ?_ ?_) | apply Within.trans ?_ (State.flt_within _ _ _ _ ?_)

theorem State.unitCause_within {P : Part → Bool} (s : State) (c : Nat) (code : Nat) (h_j3 : P .j3 = true) (h_regs : P .regs = true)
    (h_cad : P .cad = true) (h_pwm : P .pwm = true) (h_safe : P .safe = true) :
    Within P s (State.unitCause s c code) := by
  unfold State.unitCause
  with_reducible repeat' first
    | assumption | exact Within.refl _ _ | apply Within.trans ?_ (State.raise_within _ _ _ ?_ ?_ ?_ ?_ ?_)
    | apply Within.trans ?_ (State.post_within _ _ _ _ ?_ ?_ ?_) | apply Within.trans ?_ (State.flt_within _ _ _ _ ?_)

theorem State.ctxCauses_within {P : Part → Bool} (s : State) (c : Nat) (trip : Bool) (num : Bool) (fe : Bool) (drop : Bool)
    (h_j3 : P .j3 = true) (h_regs : P .regs = true) (h_cad : P .cad = true) (h_pwm : P .pwm = true) (h_safe : P .safe = true) :
    Within P s (State.ctxCauses s c trip num fe drop) := by
  unfold State.ctxCauses
  with_reducible repeat' first
    | assumption | exact Within.refl _ _ | exact Within.id_ _ _ | apply Within.when (fun _ => ?_) ?_
    | apply Within.trans ?_ (State.ctxFault_within _ _ _ ?_ ?_ ?_) | apply Within.trans ?_ (State.setFld_within _ _ _ ?_)
    | apply Within.trans ?_ (State.flt_within _ _ _ _ ?_) | apply Within.trans ?_ (State.unitCause_within _ _ _ ?_ ?_ ?_ ?_ ?_)
    | apply Within.trans ?_ (State.dropFault_within _ _ ?_ ?_ ?_ ?_ ?_) | apply Within.ite

theorem State.ctxBoundary_within {P : Part → Bool} (s : State) (c : Nat) (h_j3 : P .j3 = true) (h_regs : P .regs = true)
    (h_cad : P .cad = true) (h_eng : P .eng = true) (h_pwm : P .pwm = true) (h_safe : P .safe = true) :
    Within P s (State.ctxBoundary s c) := by
  unfold State.ctxBoundary
  with_reducible repeat' first
    | assumption | exact Within.refl _ _ | apply Within.trans ?_ (State.clearScratch_within _ _ ?_)
    | apply Within.trans ?_ (State.updCtx_within _ _ _ ?_) | apply Within.trans ?_ (State.setFld_within _ _ _ ?_)
    | apply Within.trans ?_ (State.ctxCauses_within _ _ _ _ _ _ ?_ ?_ ?_ ?_ ?_)
    | apply Within.trans ?_ (State.ctxEnter_within _ _ _ ?_ ?_ ?_ ?_) | apply Within.ite | split | (dsimp only; split)

theorem State.boundaryBlocks_within {P : Part → Bool} (s : State) (h_free : P .free = true) (h_j3 : P .j3 = true)
    (h_regs : P .regs = true) (h_bytes : P .bytes = true) (h_cad : P .cad = true) (h_eng : P .eng = true) (h_pwm : P .pwm = true)
    (h_safe : P .safe = true) (h_pos : P .pos = true) (h_trac : P .trac = true) (h_conv : P .conv = true) (h_act : P .act = true)
    (h_drl : P .drl = true) :
    Within P s (State.boundaryBlocks s) := by
  unfold State.boundaryBlocks
  with_reducible repeat' first
    | assumption | exact Within.refl _ _ | exact Within.id_ _ _ | apply Within.trans ?_ (State.soReq_within _ ?_ ?_)
    | apply Within.trans ?_ (State.auxTick_within _ ?_ ?_) | apply Within.trans ?_ (State.chgTick_within _ ?_ ?_)
    | apply Within.trans ?_ (State.serialTrigger_within _ _ ?_ ?_) | apply Within.each (fun _ _ => ?_) _ ?_
    | apply Within.trans ?_ (State.posTick_within _ _ ?_ ?_) | apply Within.trans ?_ (State.keMark_within _ _ ?_)
    | apply Within.trans ?_ (State.updCtx_within _ _ _ ?_) | apply Within.trans ?_ (State.updDrl_within _ _ ?_)
    | apply Within.trans ?_ (State.actTick_within _ _ ?_ ?_ ?_ ?_ ?_ ?_ ?_)
    | apply Within.trans ?_ (State.histSample_within _ ?_ ?_ ?_) | apply Within.ite

theorem State.tickBoundary_within {P : Part → Bool} (s : State) (h_free : P .free = true) (h_j3 : P .j3 = true) (h_regs : P .regs = true)
    (h_live : P .live = true) (h_staged : P .staged = true) (h_bytes : P .bytes = true) (h_cad : P .cad = true) (h_eng : P .eng = true)
    (h_sens : P .sens = true) (h_pwm : P .pwm = true) (h_safe : P .safe = true) (h_pos : P .pos = true) (h_trac : P .trac = true)
    (h_conv : P .conv = true) (h_act : P .act = true) (h_drl : P .drl = true) (h_sec : P .sec = true) :
    Within P s (State.tickBoundary s) := by
  unfold State.tickBoundary
  with_reducible repeat' first
    | assumption | exact Within.refl _ _ | exact Within.id_ _ _ | apply Within.trans ?_ (State.setFld_within _ _ _ ?_)
    | apply Within.each (fun _ _ => ?_) _ ?_ | apply Within.trans ?_ (State.boundaryLate_within _ _ ?_ ?_ ?_ ?_)
    | apply Within.trans ?_ (State.chgApply_within _ ?_ ?_ ?_ ?_ ?_ ?_ ?_)
    | apply Within.trans ?_ (State.applyConfig_within _ ?_ ?_ ?_ ?_ ?_ ?_ ?_) | apply Within.trans ?_ (State.updEng_within _ _ ?_)
    | apply Within.trans ?_ (State.latchJ4_within _ _ ?_ ?_) | apply Within.trans ?_ (State.mbxSwap_within _ _ ?_)
    | apply Within.trans ?_ (State.ctxBoundary_within _ _ ?_ ?_ ?_ ?_ ?_ ?_) | apply Within.trans ?_ (State.updLane_within _ _ _ ?_)
    | apply Within.trans ?_ (State.boundaryBlocks_within _ ?_ ?_ ?_ ?_ ?_ ?_ ?_ ?_ ?_ ?_ ?_ ?_ ?_) | apply Within.ite
    | apply Within.foldl (fun _ _ => ?_) ?_ _

theorem execTickBoundary_within {P : Part → Bool} (s : State) (h_free : P .free = true) (h_j3 : P .j3 = true) (h_regs : P .regs = true)
    (h_live : P .live = true) (h_staged : P .staged = true) (h_bytes : P .bytes = true) (h_cad : P .cad = true) (h_eng : P .eng = true)
    (h_sens : P .sens = true) (h_pwm : P .pwm = true) (h_safe : P .safe = true) (h_pos : P .pos = true) (h_trac : P .trac = true)
    (h_conv : P .conv = true) (h_act : P .act = true) (h_drl : P .drl = true) (h_sec : P .sec = true) :
    WithinOut P s (execTickBoundary s) := by
  unfold execTickBoundary
  with_reducible repeat' first
    | assumption | exact Within.refl _ _ | exact Within.id_ _ _ | apply WithinOut.next | apply Within.each (fun _ _ => ?_) _ ?_
    | apply Within.trans ?_ (State.posTick_within _ _ ?_ ?_)
    | apply Within.trans ?_ (State.tickBoundary_within _ ?_ ?_ ?_ ?_ ?_ ?_ ?_ ?_ ?_ ?_ ?_ ?_ ?_ ?_ ?_ ?_ ?_) | apply Within.ite
    | apply WithinOut.ite

theorem execTickMismatch_within {P : Part → Bool} (s : State) (h_free : P .free = true) (h_j3 : P .j3 = true) (h_regs : P .regs = true)
    (h_cad : P .cad = true) (h_pwm : P .pwm = true) (h_safe : P .safe = true) :
    WithinOut P s (execTickMismatch s) := by
  unfold execTickMismatch
  with_reducible repeat' first
    | assumption | exact Within.refl _ _ | apply WithinOut.next | apply Within.trans ?_ (State.flt_within _ _ _ _ ?_)
    | apply Within.trans ?_ (State.updCad_within _ _ ?_) | apply Within.trans ?_ (State.raise_within _ _ _ ?_ ?_ ?_ ?_ ?_)
    | apply Within.trans ?_ (State.postOpen_within _ _ _ ?_ ?_ ?_ ?_) | apply Within.ite | apply WithinOut.ite

theorem execAdmissionRequest_within {P : Part → Bool} (m : Master) (s : State) (h_free : P .free = true) (h_resp : P .resp = true)
    (h_j3 : P .j3 = true) (h_regs : P .regs = true) (h_cad : P .cad = true) :
    WithinOut P s (execAdmissionRequest m s) := by
  unfold execAdmissionRequest
  with_reducible repeat' first
    | assumption | exact Within.refl _ _ | exact Within.id_ _ _ | apply WithinOut.next
    | apply Within.trans ?_ (State.write_within _ _ _ _ _ ?_ ?_ ?_ ?_ ?_ (fun _ => ?_))
    | apply Within.trans ?_ (State.setFld_within _ _ _ ?_) | apply Within.trans ?_ (State.wr_within _ _ _ ?_)
    | apply Within.trans ?_ (State.updCad_within _ _ ?_)

theorem execAdmissionCheckDone_within {P : Part → Bool} (s : State) (h_j3 : P .j3 = true) (h_regs : P .regs = true)
    (h_cad : P .cad = true) (h_eng : P .eng = true) :
    WithinOut P s (execAdmissionCheckDone s) := by
  unfold execAdmissionCheckDone
  with_reducible repeat' first
    | assumption | exact Within.refl _ _ | apply WithinOut.next | apply Within.trans ?_ (State.admDone_within _ ?_ ?_ ?_ ?_)
    | apply Within.ite | apply WithinOut.ite

theorem execContextDropFault_within {P : Part → Bool} (c : Fin 160) (s : State) (h_j3 : P .j3 = true) (h_regs : P .regs = true)
    (h_cad : P .cad = true) (h_eng : P .eng = true) (h_pwm : P .pwm = true) (h_safe : P .safe = true) :
    WithinOut P s (execContextDropFault c s) := by
  unfold execContextDropFault
  with_reducible repeat' first
    | assumption | exact Within.refl _ _ | apply WithinOut.next
    | apply Within.trans ?_ (State.ctxCauses_within _ _ _ _ _ _ ?_ ?_ ?_ ?_ ?_)
    | apply Within.trans ?_ (State.updCtx_within _ _ _ ?_) | apply Within.ite | apply WithinOut.ite

theorem execJ3LostReport_within {P : Part → Bool} (s : State) (h_j3 : P .j3 = true) (h_regs : P .regs = true) (h_cad : P .cad = true) :
    WithinOut P s (execJ3LostReport s) := by
  unfold execJ3LostReport
  with_reducible repeat' first
    | assumption | exact Within.refl _ _ | apply WithinOut.next | apply Within.trans ?_ (State.post_within _ _ _ _ ?_ ?_ ?_)
    | apply Within.trans ?_ (State.updCad_within _ _ ?_) | apply Within.ite | apply WithinOut.ite

theorem execFollowingErrorTrip_within {P : Part → Bool} (c : Fin 160) (s : State) (h_j3 : P .j3 = true) (h_regs : P .regs = true)
    (h_cad : P .cad = true) (h_pwm : P .pwm = true) (h_safe : P .safe = true) :
    WithinOut P s (execFollowingErrorTrip c s) := by
  unfold execFollowingErrorTrip
  with_reducible repeat' first
    | assumption | exact Within.refl _ _ | apply WithinOut.next
    | apply Within.trans ?_ (State.ctxCauses_within _ _ _ _ _ _ ?_ ?_ ?_ ?_ ?_)
    | apply Within.trans ?_ (State.setFld_within _ _ _ ?_) | apply Within.ite | apply WithinOut.ite

theorem State.windowDelivered_within {P : Part → Bool} (s : State) (g : Nat) (w : Closed) (ecc : Ecc) (h_free : P .free = true)
    (h_j3 : P .j3 = true) (h_regs : P .regs = true) (h_engineMem : P .engineMem = true) (h_cad : P .cad = true) (h_eng : P .eng = true)
    (h_pwm : P .pwm = true) (h_safe : P .safe = true) (h_pos : P .pos = true) (h_trac : P .trac = true) (h_conv : P .conv = true) :
    Within P s (State.windowDelivered s g w ecc) := by
  unfold State.windowDelivered
  with_reducible repeat' first
    | assumption | exact Within.refl _ _ | exact Within.id_ _ _ | apply Within.each (fun _ _ => ?_) _ ?_
    | apply Within.trans ?_ (State.trcWindow_within _ _ _ ?_ ?_) | apply Within.trans ?_ (State.gridWindow_within _ ?_ ?_ ?_)
    | apply Within.trans ?_ (State.auxWindow_within _ _ ?_ ?_) | apply Within.trans ?_ (State.serialTrigger_within _ _ ?_ ?_)
    | apply Within.trans ?_ (State.trigger_within _ _ ?_ ?_ ?_ ?_ ?_ ?_ ?_)
    | apply Within.trans ?_ (State.strikeEngine_within _ _ ?_ ?_ ?_) | apply Within.ite

theorem State.tempWindows_within {P : Part → Bool} (s : State) (h_regs : P .regs = true) :
    Within P s (State.tempWindows s) := by
  unfold State.tempWindows
  with_reducible repeat' first
    | assumption | exact Within.refl _ _ | apply Within.trans ?_ (State.setFld_within _ _ _ ?_)

theorem State.pwrMeas_within {P : Part → Bool} (s : State) (n : Nat) (h_free : P .free = true) (h_regs : P .regs = true) :
    Within P s (State.pwrMeas s n) := by
  unfold State.pwrMeas
  with_reducible repeat' first
    | assumption | exact Within.refl _ _ | apply Within.trans ?_ (State.setNear_within _ _ _ _ _ ?_ ?_) | apply Within.ite

theorem State.hkRoundEnd_within {P : Part → Bool} (s : State) (h_free : P .free = true) (h_j3 : P .j3 = true) (h_regs : P .regs = true)
    (h_cad : P .cad = true) (h_eng : P .eng = true) (h_sens : P .sens = true) (h_conv : P .conv = true) (h_rcd : P .rcd = true) :
    Within P s (State.hkRoundEnd s) := by
  unfold State.hkRoundEnd
  with_reducible repeat' first
    | assumption | exact Within.refl _ _ | apply Within.trans ?_ (State.setFld_within _ _ _ ?_)
    | apply Within.trans ?_ (State.updSens_within _ _ ?_) | apply Within.trans ?_ (State.tmpRound_within _ ?_ ?_ ?_ ?_ ?_ ?_)
    | apply Within.trans ?_ (State.chgRound_within _ ?_ ?_ ?_ ?_ ?_) | apply Within.trans ?_ (State.evt_within _ _ _ _ ?_)

theorem execCarrierPeriodStart_within {P : Part → Bool} (g : Fin 12) (s : State) (h_free : P .free = true) (h_j3 : P .j3 = true)
    (h_regs : P .regs = true) (h_cad : P .cad = true) (h_sens : P .sens = true) (h_pwm : P .pwm = true) (h_conv : P .conv = true) :
    WithinOut P s (execCarrierPeriodStart g s) := by
  unfold execCarrierPeriodStart
  with_reducible repeat' first
    | assumption | exact Within.refl _ _ | exact Within.id_ _ _ | apply WithinOut.next
    | apply Within.trans ?_ (State.periodStart_within _ _ _ ?_ ?_ ?_ ?_) | apply Within.each (fun _ _ => ?_) _ ?_
    | apply Within.trans ?_ (State.convStart_within _ _ ?_ ?_ ?_ ?_ ?_) | apply Within.ite | apply WithinOut.ite

theorem execArmingComplete_within {P : Part → Bool} (g : Fin 12) (s : State) (h_free : P .free = true) (h_j3 : P .j3 = true)
    (h_regs : P .regs = true) (h_cad : P .cad = true) (h_pwm : P .pwm = true) (h_trac : P .trac = true) (h_act : P .act = true) :
    WithinOut P s (execArmingComplete g s) := by
  unfold execArmingComplete
  with_reducible repeat' first
    | assumption | exact Within.refl _ _ | exact Within.id_ _ _ | apply WithinOut.next | apply Within.each (fun _ _ => ?_) _ ?_
    | apply Within.trans ?_ (State.trcArmed_within _ _ ?_ ?_) | apply Within.trans ?_ (State.armComplete_within _ _ ?_ ?_ ?_ ?_ ?_)
    | apply Within.trans ?_ (State.actEval_within _ _ ?_ ?_ ?_ ?_ ?_ ?_) | apply Within.ite | apply WithinOut.ite

theorem execDisarmTakeEffect_within {P : Part → Bool} (g : Fin 12) (s : State) (h_j3 : P .j3 = true) (h_regs : P .regs = true)
    (h_cad : P .cad = true) (h_pwm : P .pwm = true) (h_safe : P .safe = true) :
    WithinOut P s (execDisarmTakeEffect g s) := by
  unfold execDisarmTakeEffect
  with_reducible repeat' first
    | assumption | exact Within.refl _ _ | apply WithinOut.next | apply Within.trans ?_ (State.disarmed_within _ _ _ ?_ ?_ ?_ ?_ ?_)
    | apply Within.ite | apply WithinOut.ite

theorem State.deliverWindow_within {P : Part → Bool} (s : State) (g : Nat) (h_j3 : P .j3 = true) (h_regs : P .regs = true)
    (h_cad : P .cad = true) (h_sens : P .sens = true) : Within P s (s.deliverWindow g).1 := by
  unfold State.deliverWindow
  dsimp only
  split
  · exact ((State.closeWindow_within _ _ _ h_sens).trans (State.updSrc_within _ _ _ h_sens)).ite (.refl _ _)
  repeat' (first
    | with_reducible assumption
    | with_reducible exact Within.refl _ _
    | with_reducible apply Within.trans ?_ (State.faqEntries_within _ _ ?_ ?_ ?_ ?_)
    | with_reducible apply Within.trans ?_ (State.deliverCh_within _ _ _ _ ?_ ?_)
    | with_reducible apply Within.trans ?_ (State.updSrc_within _ _ _ ?_)
    | with_reducible apply Within.trans ?_ (State.closeWindow_within _ _ _ ?_)
    | with_reducible apply Within.foldl (fun _ _ => ?_) ?_ _
    | with_reducible apply Within.ite
    )

theorem execWindowAverageDelivery_within {P : Part → Bool} (a0 : Fin 16) (a1 : Ecc) (a2 : State) (h_free : P .free = true)
    (h_j3 : P .j3 = true) (h_regs : P .regs = true) (h_engineMem : P .engineMem = true) (h_cad : P .cad = true) (h_eng : P .eng = true)
    (h_sens : P .sens = true) (h_pwm : P .pwm = true) (h_safe : P .safe = true) (h_pos : P .pos = true) (h_trac : P .trac = true)
    (h_conv : P .conv = true) :
    WithinOut P a2 (execWindowAverageDelivery a0 a1 a2) := by
  unfold execWindowAverageDelivery
  have h := State.deliverWindow_within (P := P) a2 a0 h_j3 h_regs h_cad h_sens
  apply WithinOut.next
  split
  · rename_i e; rw [e] at h; exact h.trans (State.windowDelivered_within _ _ _ _ h_free h_j3 h_regs h_engineMem h_cad h_eng h_pwm h_safe
    h_pos h_trac h_conv)
  · rename_i e; rw [e] at h; exact h

theorem execHkSlotEnd_within {P : Part → Bool} (code0 : Fin 65536) (code1 : Fin 65536) (s : State) (h_free : P .free = true)
    (h_j3 : P .j3 = true) (h_regs : P .regs = true) (h_cad : P .cad = true) (h_eng : P .eng = true) (h_sens : P .sens = true)
    (h_conv : P .conv = true) (h_rcd : P .rcd = true) :
    WithinOut P s (execHkSlotEnd code0 code1 s) := by
  unfold execHkSlotEnd
  with_reducible repeat' first
    | assumption | exact Within.refl _ _ | apply WithinOut.next | apply Within.trans ?_ (State.cpSettle_within _ ?_)
    | apply Within.trans ?_ (State.hkStore_within _ _ _ ?_ ?_ ?_ ?_) | apply Within.trans ?_ (State.pwrMeas_within _ _ ?_ ?_)
    | apply Within.trans ?_ (State.updSens_within _ _ ?_) | apply Within.trans ?_ (State.tempWindows_within _ ?_)
    | apply Within.trans ?_ (State.hkRoundEnd_within _ ?_ ?_ ?_ ?_ ?_ ?_ ?_ ?_) | apply Within.ite | apply WithinOut.ite

theorem execStatusFrame_within {P : Part → Bool} (k : Fin 15) (sel : Fin 3) (v : Fin 4096) (meas : List Nat) (s : State)
    (h_j3 : P .j3 = true) (h_regs : P .regs = true) (h_cad : P .cad = true) (h_pwm : P .pwm = true) (h_safe : P .safe = true) :
    WithinOut P s (execStatusFrame k sel v meas s) := by
  unfold execStatusFrame
  with_reducible repeat' first
    | assumption | exact Within.refl _ _ | apply WithinOut.next
    | apply Within.trans ?_ (State.statusFrame_within _ _ _ _ _ ?_ ?_ ?_ ?_ ?_) | apply Within.ite | apply WithinOut.ite

theorem execConversionEnd_within {P : Part → Bool} (codes : List Int) (s : State) (h_j3 : P .j3 = true) (h_regs : P .regs = true)
    (h_cad : P .cad = true) (h_sens : P .sens = true) (h_pos : P .pos = true) :
    WithinOut P s (execConversionEnd codes s) := by
  unfold execConversionEnd
  with_reducible repeat' first
    | assumption | exact Within.refl _ _ | exact Within.id_ _ _ | apply WithinOut.next
    | apply Within.trans ?_ (State.updSens_within _ _ ?_) | apply Within.each (fun _ _ => ?_) _ ?_
    | apply Within.trans ?_ (State.convert_within _ _ _ ?_ ?_ ?_ ?_) | apply Within.trans ?_ (State.resolverSample_within _ _ ?_)
    | apply Within.trans ?_ (State.closeWindow_within _ _ _ ?_) | apply Within.trans ?_ (State.updSrc_within _ _ _ ?_)
    | apply Within.ite | apply WithinOut.ite

end Sys2Proof.Machine
end

