-- ==== Sys2Proof/Laws/FrameBus.lean ====
section
/-!
SUPPORT. Frames, one lemma for each function that gives a state, a command's outcome or an optional state: which parts of the state it may
change at all, and that it leaves the queue and the canonical form alone. This file: the bus, the ports and the idle clock.
-/
namespace Sys2Proof.Machine

theorem State.run_within {P : Part → Bool} (a0 : State) (a1 : State → Out) (h1 : ∀ s, WithinOut P s (a1 s)) :
    Within P a0 (State.run a0 a1) := by
  unfold State.run
  split
  · rename_i e; exact (h1 _).next_ _ e
  · exact .refl _ _

theorem State.storeRow_within {P : Part → Bool} (s : State) (r : RegRow) (ack : Bool) (a : Nat) (v : Word) (h_regs : P .regs = true) :
    Within P s (State.storeRow s r ack a v) := by
  unfold State.storeRow
  with_reducible repeat' first
    | assumption | exact Within.refl _ _ | apply Within.trans ?_ (State.wr_within _ _ _ ?_)

theorem State.stage_within {P : Part → Bool} (s : State) (k : PageKind) (a : Nat) (v : Word) (h_regs : P .regs = true)
    (h_staged : P .staged = true) :
    Within P s (State.stage s k a v) := by
  unfold State.stage
  with_reducible repeat' first
    | assumption | exact Within.refl _ _ | apply Within.trans ?_ (State.setFld_within _ _ _ ?_) | apply Within.staged ?_ ?_ _ _ _
    | apply Within.noStaged ?_ ?_

theorem State.regWrite_within {P : Part → Bool} (a0 : State) (w : BusWrite) (a2 : RegRow) (errs : List (Bool × ErrKind))
    (act : State → State → State) (h_free : P .free = true) (h_resp : P .resp = true) (h_j3 : P .j3 = true) (h_regs : P .regs = true)
    (h_staged : P .staged = true) (h_cad : P .cad = true) (h4 : ∀ r s, Within P r s → Within P r (act r s)) :
    Within P a0 (State.regWrite a0 w a2 errs act) := by
  unfold State.regWrite
  with_reducible repeat' first
    | assumption | exact Within.refl _ _ | apply Within.trans ?_ (State.accTimeout_within _ _ _ _ _ _ ?_ ?_ ?_ ?_)
    | apply Within.trans ?_ (State.okResp_within _ _ ?_) | apply Within.trans ?_ (State.stage_within _ _ _ _ ?_ ?_)
    | apply Within.trans ?_ (State.storeRow_within _ _ _ _ _ ?_)
    | apply Within.trans ?_ (State.errResp_within _ _ _ _ _ ?_ ?_ ?_ ?_)
    | apply Within.trans ?_ (State.errOneOf_within _ _ _ _ _ ?_ ?_ ?_ ?_ ?_) | apply h4 | apply Within.ite | split
    | (dsimp only; split)

theorem BusWrite.actFad_within {P : Part → Bool} (w : BusWrite) (s0 : State) (s : State) (h_sens : P .sens = true) (h0 : Within P s0 s) :
    Within P s0 (BusWrite.actFad w s0 s) := by
  unfold BusWrite.actFad
  with_reducible repeat' first
    | assumption | exact Within.refl _ _ | apply Within.trans ?_ (State.clearFast_within _ _ ?_) | apply Within.ite

theorem BusWrite.actFaq_within {P : Part → Bool} (w : BusWrite) (s0 : State) (s : State) (h_free : P .free = true)
    (h_resp : P .resp = true) (h_j3 : P .j3 = true) (h_regs : P .regs = true) (h_cad : P .cad = true) (h_sens : P .sens = true)
    (h0 : Within P s0 s) :
    Within P s0 (BusWrite.actFaq w s0 s) := by
  unfold BusWrite.actFaq
  with_reducible repeat' first
    | assumption | exact Within.refl _ _ | exact Within.id_ _ _ | apply Within.trans ?_ (State.updSens_within _ _ ?_)
    | apply Within.trans ?_ (State.setFld_within _ _ _ ?_) | apply Within.trans ?_ (State.run_within _ _ (fun _ => ?_))
    | apply WithinOut.trans ?_ (execFaqDiscard_within _ _ ?_ ?_ ?_ ?_ ?_ ?_) | apply Within.ite

theorem BusWrite.ackWma_within {P : Part → Bool} (w : BusWrite) (s0 : State) (s : State) (h_regs : P .regs = true) :
    Within P s (BusWrite.ackWma w s0 s) := by
  unfold BusWrite.ackWma
  with_reducible repeat' first
    | assumption | exact Within.refl _ _ | exact Within.id_ _ _ | apply Within.trans ?_ (State.showPt_within _ ?_)
    | apply Within.each (fun _ _ => ?_) _ ?_ | apply Within.trans ?_ (State.setFld_within _ _ _ ?_) | apply Within.ite

theorem BusWrite.actWma_within {P : Part → Bool} (w : BusWrite) (s0 : State) (s : State) (h_free : P .free = true)
    (h_resp : P .resp = true) (h_j3 : P .j3 = true) (h_regs : P .regs = true) (h_cad : P .cad = true) (h_sens : P .sens = true)
    (h0 : Within P s0 s) :
    Within P s0 (BusWrite.actWma w s0 s) := by
  unfold BusWrite.actWma
  with_reducible repeat' first
    | assumption | exact Within.refl _ _ | exact Within.id_ _ _ | apply Within.trans ?_ (State.setFld_within _ _ _ ?_)
    | apply Within.trans ?_ (State.updMon_within _ _ _ ?_) | apply Within.trans ?_ (State.monUnresolve_within _ _ ?_)
    | apply Within.each (fun _ _ => ?_) _ ?_ | apply Within.trans ?_ (BusWrite.ackWma_within _ _ _ ?_)
    | apply Within.trans ?_ (State.run_within _ _ (fun _ => ?_))
    | apply WithinOut.trans ?_ (execMonitorSwapCheck_within _ _ _ ?_ ?_ ?_ ?_ ?_ ?_)
    | apply WithinOut.trans ?_ (execMonitorTieCheck_within _ _ _ ?_ ?_ ?_ ?_ ?_ ?_) | apply Within.ite

theorem BusWrite.actNl_within {P : Part → Bool} (w : BusWrite) (s0 : State) (s : State) (h_free : P .free = true)
    (h_resp : P .resp = true) (h_j3 : P .j3 = true) (h_regs : P .regs = true) (h_cad : P .cad = true) (h_pwm : P .pwm = true)
    (h0 : Within P s0 s) :
    Within P s0 (BusWrite.actNl w s0 s) := by
  unfold BusWrite.actNl
  with_reducible repeat' first
    | assumption | exact Within.refl _ _ | exact Within.id_ _ _ | apply Within.trans ?_ (State.setFld_within _ _ _ ?_)
    | apply Within.trans ?_ (State.run_within _ _ (fun _ => ?_))
    | apply WithinOut.trans ?_ (execLinkRestart_within _ _ _ ?_ ?_ ?_ ?_ ?_ ?_) | apply Within.ite

theorem BusWrite.actGhd_within {P : Part → Bool} (w : BusWrite) (s0 : State) (s : State) (h_regs : P .regs = true) (h_pwm : P .pwm = true)
    (h0 : Within P s0 s) :
    Within P s0 (BusWrite.actGhd w s0 s) := by
  unfold BusWrite.actGhd
  with_reducible repeat' first
    | assumption | exact Within.refl _ _ | apply Within.trans ?_ (State.supplyChanged_within _ _ ?_ ?_)
    | apply Within.trans ?_ (State.directOff_within _ _ ?_) | apply Within.trans ?_ (State.setFld_within _ _ _ ?_)
    | apply Within.ite

theorem BusWrite.two_within {P : Part → Bool} (a0 : Bool) (a1 : Bool) (a2 : State → Out) (a3 : State → Out) (a4 : State)
    (h2 : ∀ s, WithinOut P s (a2 s)) (h3 : ∀ s, WithinOut P s (a3 s)) :
    Within P a4 (BusWrite.two a0 a1 a2 a3 a4) := by
  have r : ∀ s f, (∀ s, WithinOut P s (f s)) → Within P s (State.run s f) := fun s f h => State.run_within s f  h
  unfold BusWrite.two
  dsimp only
  split
  · split
    · exact (r _ _ ‹_›).trans (r _ _ ‹_›)
    · exact r _ _ ‹_›
  · split
    · exact r _ _ ‹_›
    · exact .refl _ _

theorem BusWrite.directControl_within {P : Part → Bool} (w : BusWrite) (s : State) (h_free : P .free = true) (h_resp : P .resp = true)
    (h_j3 : P .j3 = true) (h_regs : P .regs = true) (h_cad : P .cad = true) (h_eng : P .eng = true) (h_sens : P .sens = true)
    (h_pwm : P .pwm = true) (h_safe : P .safe = true) (h_drl : P .drl = true) :
    WithinOpt P s (BusWrite.directControl w s) := by
  unfold BusWrite.directControl
  with_reducible repeat' first
    | assumption | exact Within.refl _ _ | exact Within.id_ _ _ | apply WithinOpt.some | exact WithinOpt.none _ _
    | apply WithinOpt.orElse | apply Within.trans ?_ (State.run_within _ _ (fun _ => ?_))
    | apply WithinOut.trans ?_ (execAdmissionRequest_within _ _ ?_ ?_ ?_ ?_ ?_)
    | apply WithinOut.trans ?_ (execLaneCheck_within _ _ _ ?_ ?_ ?_ ?_ ?_)
    | apply WithinOut.trans ?_ (execValidationStart_within _ _ _ _ ?_ ?_ ?_ ?_ ?_)
    | apply WithinOut.trans ?_ (execStateRequest_within _ _ _ _ ?_ ?_ ?_ ?_ ?_)
    | apply WithinOut.trans ?_ (execContextWordWrite_within _ _ _ _ ?_ ?_ ?_ ?_ ?_ ?_)
    | apply WithinOut.trans ?_ (execMailboxCommit_within _ _ _ _ ?_ ?_ ?_ ?_ ?_)
    | apply Within.trans ?_ (State.mbxCheck_within _ _ _ _ _ _ ?_ ?_ ?_ ?_ ?_ (fun _ => ?_))
    | apply WithinOut.trans ?_ (execMailboxWordWrite_within _ _ _ _ _ ?_ ?_ ?_ ?_ ?_ ?_)
    | apply WithinOut.trans ?_ (execReferenceSelect_within _ _ _ ?_ ?_ ?_ ?_ ?_ ?_)
    | apply Within.trans ?_ (BusWrite.two_within _ _ _ _ _ (fun _ => ?_) (fun _ => ?_))
    | apply WithinOut.trans ?_ (execArm_within _ _ _ ?_ ?_ ?_ ?_ ?_)
    | apply WithinOut.trans ?_ (execDisarm_within _ _ _ ?_ ?_ ?_ ?_ ?_ ?_ ?_)
    | apply WithinOut.trans ?_ (execTripLatchClear_within _ _ _ _ _ ?_ ?_ ?_ ?_ ?_ ?_) | apply Within.ite | apply WithinOpt.ite
    | split | (dsimp only; split)

theorem BusWrite.actPos_within {P : Part → Bool} (w : BusWrite) (s0 : State) (s : State) (h_free : P .free = true)
    (h_resp : P .resp = true) (h_j3 : P .j3 = true) (h_regs : P .regs = true) (h_cad : P .cad = true) (h_pos : P .pos = true)
    (h0 : Within P s0 s) :
    Within P s0 (BusWrite.actPos w s0 s) := by
  unfold BusWrite.actPos
  with_reducible repeat' first
    | assumption | exact Within.refl _ _ | exact Within.id_ _ _ | apply Within.trans ?_ (State.posReconfig_within _ _ _ ?_ ?_ ?_ ?_)
    | apply Within.trans ?_ (State.posSetMode_within _ _ _ ?_ ?_ ?_ ?_) | apply Within.trans ?_ (State.tookFree_within _ ?_)
    | apply Within.trans ?_ (State.run_within _ _ (fun _ => ?_))
    | apply WithinOut.trans ?_ (execPosRestart_within _ _ _ _ ?_ ?_ ?_ ?_ ?_ ?_) | apply Within.ite

theorem BusWrite.actTrc_within {P : Part → Bool} (w : BusWrite) (a1 : State) (s : State) (h_j3 : P .j3 = true) (h_regs : P .regs = true)
    (h_cad : P .cad = true) (h_pwm : P .pwm = true) (h0 : Within P a1 s) :
    Within P a1 (BusWrite.actTrc w a1 s) := by
  unfold BusWrite.actTrc
  with_reducible repeat' first
    | assumption | exact Within.refl _ _ | apply Within.trans ?_ (State.trcDropTo_within _ _ _ ?_ ?_ ?_ ?_) | apply Within.ite

theorem BusWrite.actAct_within {P : Part → Bool} (w : BusWrite) (a1 : State) (s : State) (h_regs : P .regs = true) (h0 : Within P a1 s) :
    Within P a1 (BusWrite.actAct w a1 s) := by
  unfold BusWrite.actAct
  with_reducible repeat' first
    | assumption | exact Within.refl _ _ | apply Within.trans ?_ (State.actShow_within _ _ ?_)

theorem BusWrite.actDrl_within {P : Part → Bool} (w : BusWrite) (a1 : State) (s : State) (h_free : P .free = true)
    (h_resp : P .resp = true) (h_j3 : P .j3 = true) (h_regs : P .regs = true) (h_cad : P .cad = true) (h_drl : P .drl = true)
    (h0 : Within P a1 s) :
    Within P a1 (BusWrite.actDrl w a1 s) := by
  unfold BusWrite.actDrl
  with_reducible repeat' first
    | assumption | exact Within.refl _ _ | exact Within.id_ _ _
    | apply Within.trans ?_ (BusWrite.two_within _ _ _ _ _ (fun _ => ?_) (fun _ => ?_))
    | apply WithinOut.trans ?_ (execShiftGo_within _ _ _ ?_ ?_ ?_ ?_ ?_ ?_)
    | apply WithinOut.trans ?_ (execShiftAbort_within _ _ ?_ ?_ ?_ ?_ ?_ ?_)

theorem BusWrite.directDrive_within {P : Part → Bool} (w : BusWrite) (s : State) (h_free : P .free = true) (h_resp : P .resp = true)
    (h_j3 : P .j3 = true) (h_regs : P .regs = true) (h_cad : P .cad = true) (h_pwm : P .pwm = true) (h_pos : P .pos = true)
    (h_trac : P .trac = true) (h_conv : P .conv = true) (h_act : P .act = true) :
    WithinOpt P s (BusWrite.directDrive w s) := by
  unfold BusWrite.directDrive
  with_reducible repeat' first
    | assumption | exact Within.refl _ _ | exact Within.id_ _ _ | apply WithinOpt.some | exact WithinOpt.none _ _
    | apply WithinOpt.orElse | apply Within.trans ?_ (State.run_within _ _ (fun _ => ?_))
    | apply WithinOut.trans ?_ (execEmuEnable_within _ _ _ _ ?_ ?_ ?_ ?_ ?_ ?_)
    | apply Within.trans ?_ (BusWrite.two_within _ _ _ _ _ (fun _ => ?_) (fun _ => ?_))
    | apply WithinOut.trans ?_ (execTrcClear_within _ _ _ ?_ ?_ ?_ ?_ ?_ ?_)
    | apply WithinOut.trans ?_ (execKeRestart_within _ _ _ ?_ ?_ ?_ ?_ ?_ ?_)
    | apply WithinOut.trans ?_ (execChgEnable_within _ _ _ ?_ ?_ ?_ ?_ ?_ ?_)
    | apply WithinOut.trans ?_ (execAuxEnable_within _ _ _ ?_ ?_ ?_ ?_ ?_)
    | apply WithinOut.trans ?_ (execActEnable_within _ _ _ _ ?_ ?_ ?_ ?_ ?_ ?_ ?_)
    | apply WithinOut.trans ?_ (execActZero_within _ _ _ ?_ ?_ ?_ ?_ ?_) | apply Within.ite | apply WithinOpt.ite | split
    | (dsimp only; split)

theorem BusWrite.actSaf_within {P : Part → Bool} (w : BusWrite) (a1 : State) (s : State) (h_free : P .free = true)
    (h_resp : P .resp = true) (h_j3 : P .j3 = true) (h_regs : P .regs = true) (h_cad : P .cad = true) (h_pwm : P .pwm = true)
    (h_safe : P .safe = true) (h0 : Within P a1 s) :
    Within P a1 (BusWrite.actSaf w a1 s) := by
  unfold BusWrite.actSaf
  with_reducible repeat' first
    | assumption | exact Within.refl _ _ | exact Within.id_ _ _ | apply Within.trans ?_ (State.run_within _ _ (fun _ => ?_))
    | apply WithinOut.trans ?_ (execFaultInject_within _ _ _ _ ?_ ?_ ?_ ?_ ?_ ?_ ?_) | apply Within.ite

theorem BusWrite.actEpt_within {P : Part → Bool} (w : BusWrite) (s0 : State) (s : State) (h_j3 : P .j3 = true) (h_regs : P .regs = true)
    (h_cad : P .cad = true) (h_pwm : P .pwm = true) (h_safe : P .safe = true) (h0 : Within P s0 s) :
    Within P s0 (BusWrite.actEpt w s0 s) := by
  unfold BusWrite.actEpt
  with_reducible repeat' first
    | assumption | exact Within.refl _ _ | apply Within.trans ?_ (State.eptReassign_within _ _ _ ?_)
    | apply Within.trans ?_ (State.eptBegin_within _ _ ?_ ?_ ?_ ?_ ?_) | apply Within.trans ?_ (State.wr_within _ _ _ ?_)
    | apply Within.ite

theorem BusWrite.actTnd_within {P : Part → Bool} (w : BusWrite) (a1 : State) (s : State) (h_free : P .free = true)
    (h_resp : P .resp = true) (h_j3 : P .j3 = true) (h_regs : P .regs = true) (h_cad : P .cad = true) (h_tnd : P .tnd = true)
    (h0 : Within P a1 s) :
    Within P a1 (BusWrite.actTnd w a1 s) := by
  unfold BusWrite.actTnd
  with_reducible repeat' first
    | assumption | exact Within.refl _ _ | exact Within.id_ _ _
    | apply Within.trans ?_ (BusWrite.two_within _ _ _ _ _ (fun _ => ?_) (fun _ => ?_))
    | apply WithinOut.trans ?_ (execSplitRequest_within _ _ _ ?_ ?_ ?_ ?_ ?_)
    | apply WithinOut.trans ?_ (execRejoinRequest_within _ _ _ ?_ ?_ ?_ ?_ ?_)
    | apply WithinOut.trans ?_ (execAssayRequest_within _ _ _ ?_ ?_ ?_ ?_ ?_ ?_)
    | apply WithinOut.trans ?_ (execFoldRequest_within _ _ _ ?_ ?_ ?_ ?_ ?_ ?_) | apply Within.ite

theorem BusWrite.actEth_within {P : Part → Bool} (w : BusWrite) (a1 : State) (s : State) (h_net : P .net = true) (h0 : Within P a1 s) :
    Within P a1 (BusWrite.actEth w a1 s) := by
  unfold BusWrite.actEth
  with_reducible repeat' first
    | assumption | exact Within.refl _ _ | apply Within.trans ?_ (State.updEth_within _ _ _ ?_) | apply Within.ite

theorem BusWrite.actPwr_within {P : Part → Bool} (w : BusWrite) (a1 : State) (s : State) (h_free : P .free = true)
    (h_resp : P .resp = true) (h_j3 : P .j3 = true) (h_regs : P .regs = true) (h_bytes : P .bytes = true) (h_cad : P .cad = true)
    (h_safe : P .safe = true) (h_rcd : P .rcd = true) (h_pwr : P .pwr = true) (h0 : Within P a1 s) :
    Within P a1 (BusWrite.actPwr w a1 s) := by
  unfold BusWrite.actPwr
  with_reducible repeat' first
    | assumption | exact Within.refl _ _ | exact Within.id_ _ _ | apply Within.trans ?_ (State.sensShow_within _ ?_)
    | apply Within.trans ?_ (BusWrite.two_within _ _ _ _ _ (fun _ => ?_) (fun _ => ?_))
    | apply WithinOut.trans ?_ (execDetachRequest_within _ _ _ ?_ ?_ ?_ ?_ ?_ ?_ ?_ ?_)
    | apply WithinOut.trans ?_ (execDetachCancel_within _ _ ?_ ?_ ?_ ?_ ?_ ?_ ?_) | apply Within.ite

theorem BusWrite.several_within {P : Part → Bool} (a0 : List (Bool × (State → Out))) (a1 : State) (h0 : ∀ e ∈ a0, ∀ s, WithinOut P s
    (e.2 s)) :
    Within P a1 (BusWrite.several a0 a1) := by
  unfold BusWrite.several
  induction a0 generalizing a1 with
  | nil => exact .refl _ _
  | cons e l ih =>
    have hl := fun x hx => h0 x (List.mem_cons_of_mem e hx)
    rw [List.foldl_cons]
    split
    · exact (State.run_within _ _ (h0 e List.mem_cons_self)).trans (ih _ hl)
    · exact ih _ hl

theorem BusWrite.actSec_within {P : Part → Bool} (w : BusWrite) (a1 : State) (s : State) (h_free : P .free = true)
    (h_resp : P .resp = true) (h_j3 : P .j3 = true) (h_regs : P .regs = true) (h_bytes : P .bytes = true) (h_cad : P .cad = true)
    (h_pwm : P .pwm = true) (h_safe : P .safe = true) (h_tnd : P .tnd = true) (h_sec : P .sec = true) (h0 : Within P a1 s) :
    Within P a1 (BusWrite.actSec w a1 s) := by
  unfold BusWrite.actSec
  with_reducible repeat' first
    | assumption | exact Within.refl _ _ | exact Within.id_ _ _ | apply Within.trans ?_ (BusWrite.several_within _ _ ?_)
    | apply WithinOut.trans ?_ (execImageConfirm_within _ _ ?_ ?_ ?_ ?_ ?_ ?_ ?_)
    | apply WithinOut.trans ?_ (execRollbackAdvance_within _ _ _ ?_ ?_ ?_ ?_ ?_)
    | apply WithinOut.trans ?_ (execSlotOpen_within _ _ _ ?_ ?_ ?_ ?_ ?_)
    | apply WithinOut.trans ?_ (execSlotClose_within _ _ ?_ ?_ ?_ ?_ ?_)
    | apply WithinOut.trans ?_ (execSlotActivate_within _ _ _ ?_ ?_ ?_ ?_ ?_ ?_)
    | apply Within.trans ?_ (State.run_within _ _ (fun _ => ?_))
    | apply WithinOut.trans ?_ (execAttestationRequest_within _ _ ?_ ?_ ?_ ?_ ?_ ?_)
    | apply WithinOut.trans ?_ (execDebugOpen_within _ _ ?_ ?_ ?_ ?_ ?_)
    | apply WithinOut.trans ?_ (execDebugClose_within _ _ ?_ ?_ ?_ ?_ ?_ ?_ ?_ ?_)
    | apply WithinOut.trans ?_ (execDebugHalt_within _ _ _ _ ?_ ?_ ?_ ?_ ?_ ?_ ?_ ?_)
    | apply WithinOut.trans ?_ (execDebugResume_within _ _ _ _ ?_ ?_ ?_ ?_ ?_ ?_ ?_ ?_)
    | apply WithinOut.trans ?_ (execDebugStep_within _ _ _ _ ?_ ?_ ?_ ?_ ?_ ?_ ?_ ?_)
    | apply Within.trans ?_ (State.tookFree_within _ ?_) | apply Within.ite | refine Within.all_cons (fun _ => ?_) ?_
    | exact Within.all_nil

theorem BusWrite.actRol_within {P : Part → Bool} (w : BusWrite) (a1 : State) (s : State) (h_free : P .free = true)
    (h_resp : P .resp = true) (h_j3 : P .j3 = true) (h_regs : P .regs = true) (h_staged : P .staged = true) (h_cad : P .cad = true)
    (h_pwm : P .pwm = true) (h_safe : P .safe = true) (h_tnd : P .tnd = true) (h_sec : P .sec = true) (h0 : Within P a1 s) :
    Within P a1 (BusWrite.actRol w a1 s) := by
  unfold BusWrite.actRol
  with_reducible repeat' first
    | assumption | exact Within.refl _ _ | exact Within.id_ _ _ | apply Within.trans ?_ (BusWrite.several_within _ _ ?_)
    | apply WithinOut.trans ?_ (execNonceDraw_within _ _ ?_ ?_ ?_ ?_ ?_ ?_)
    | apply WithinOut.trans ?_ (execStatementSubmit_within _ _ ?_ ?_ ?_ ?_ ?_)
    | apply WithinOut.trans ?_ (execAuthLogout_within _ _ ?_ ?_ ?_ ?_ ?_ ?_ ?_ ?_)
    | apply WithinOut.trans ?_ (execChangeOpen_within _ _ _ ?_ ?_ ?_ ?_ ?_)
    | apply WithinOut.trans ?_ (execChangeSeal_within _ _ ?_ ?_ ?_ ?_ ?_ ?_)
    | apply WithinOut.trans ?_ (execChangeAbort_within _ _ ?_ ?_ ?_ ?_ ?_ ?_ ?_) | apply Within.ite
    | refine Within.all_cons (fun _ => ?_) ?_ | exact Within.all_nil

theorem BusWrite.actBst_within {P : Part → Bool} (w : BusWrite) (s0 : State) (s : State) (h_free : P .free = true)
    (h_resp : P .resp = true) (h_j3 : P .j3 = true) (h_regs : P .regs = true) (h_bytes : P .bytes = true) (h_cad : P .cad = true)
    (h_rcd : P .rcd = true) (h0 : Within P s0 s) :
    Within P s0 (BusWrite.actBst w s0 s) := by
  unfold BusWrite.actBst
  with_reducible repeat' first
    | assumption | exact Within.refl _ _ | exact Within.id_ _ _ | apply Within.trans ?_ (BusWrite.several_within _ _ ?_)
    | apply WithinOut.trans ?_ (execBistAbort_within _ _ ?_ ?_ ?_ ?_ ?_ ?_ ?_)
    | apply WithinOut.trans ?_ (execBistRepair_within _ _ ?_ ?_ ?_ ?_ ?_ ?_) | apply Within.trans ?_ (State.okResp_within _ _ ?_)
    | apply Within.trans ?_ (State.setFld_within _ _ _ ?_)
    | apply WithinOut.trans ?_ (execBistRequest_within _ _ _ _ ?_ ?_ ?_ ?_ ?_ ?_ ?_) | apply Within.ite
    | refine Within.all_cons (fun _ => ?_) ?_ | exact Within.all_nil

theorem BusWrite.actRec_within {P : Part → Bool} (w : BusWrite) (a1 : State) (s : State) (h_free : P .free = true)
    (h_resp : P .resp = true) (h_j3 : P .j3 = true) (h_regs : P .regs = true) (h_bytes : P .bytes = true) (h_cad : P .cad = true)
    (h_rcd : P .rcd = true) (h0 : Within P a1 s) :
    Within P a1 (BusWrite.actRec w a1 s) := by
  unfold BusWrite.actRec
  with_reducible repeat' first
    | assumption | exact Within.refl _ _ | exact Within.id_ _ _ | apply Within.trans ?_ (State.run_within _ _ (fun _ => ?_))
    | apply WithinOut.trans ?_ (execFlushRequest_within _ _ ?_ ?_ ?_ ?_ ?_ ?_ ?_)
    | apply Within.trans ?_ (State.histZero_within _ _ ?_) | apply Within.trans ?_ (State.trackZero_within _ _ ?_)
    | apply Within.ite

theorem BusWrite.actNor_within {P : Part → Bool} (w : BusWrite) (a1 : State) (s : State) (h_free : P .free = true)
    (h_resp : P .resp = true) (h_j3 : P .j3 = true) (h_regs : P .regs = true) (h_cad : P .cad = true) (h_rcd : P .rcd = true)
    (h0 : Within P a1 s) :
    Within P a1 (BusWrite.actNor w a1 s) := by
  unfold BusWrite.actNor
  with_reducible repeat' first
    | assumption | exact Within.refl _ _ | exact Within.id_ _ _ | apply Within.trans ?_ (State.run_within _ _ (fun _ => ?_))
    | apply WithinOut.trans ?_ (execNorProgramPage_within _ _ ?_ ?_ ?_ ?_ ?_ ?_)
    | apply WithinOut.trans ?_ (execNorEraseSector_within _ _ ?_ ?_ ?_ ?_ ?_ ?_)
    | apply WithinOut.trans ?_ (execNorResetDie_within _ _ ?_ ?_ ?_ ?_ ?_ ?_) | apply Within.ite | split | (dsimp only; split)

theorem BusWrite.canBufCmd_within {P : Part → Bool} (w : BusWrite) (s : State) (h_free : P .free = true) (h_resp : P .resp = true)
    (h_j3 : P .j3 = true) (h_regs : P .regs = true) (h_canRam : P .canRam = true) (h_cad : P .cad = true) (h_net : P .net = true) :
    Within P s (BusWrite.canBufCmd w s) := by
  unfold BusWrite.canBufCmd
  with_reducible repeat' first
    | assumption | exact Within.refl _ _ | exact Within.id_ _ _ | apply Within.trans ?_ (State.run_within _ _ (fun _ => ?_))
    | apply WithinOut.trans ?_ (execCanCommit_within _ _ _ _ _ ?_ ?_ ?_ ?_ ?_ ?_ ?_)
    | apply Within.trans ?_ (State.tookFree_within _ ?_)
    | apply WithinOut.trans ?_ (execCanCancel_within _ _ _ _ _ ?_ ?_ ?_ ?_ ?_ ?_ ?_)
    | apply WithinOut.trans ?_ (execCanLock_within _ _ _ _ ?_ ?_ ?_ ?_ ?_ ?_)
    | apply WithinOut.trans ?_ (execCanRelease_within _ _ _ _ ?_ ?_ ?_ ?_ ?_ ?_ ?_) | split | (dsimp only; split)

theorem BusWrite.directPlanes_within {P : Part → Bool} (w : BusWrite) (s : State) (h_clock : P .clock = true) (h_free : P .free = true)
    (h_resp : P .resp = true) (h_j3 : P .j3 = true) (h_regs : P .regs = true) (h_live : P .live = true) (h_staged : P .staged = true)
    (h_bytes : P .bytes = true) (h_engineMem : P .engineMem = true) (h_canRam : P .canRam = true) (h_cad : P .cad = true)
    (h_eng : P .eng = true) (h_sens : P .sens = true) (h_pwm : P .pwm = true) (h_safe : P .safe = true) (h_pos : P .pos = true)
    (h_trac : P .trac = true) (h_conv : P .conv = true) (h_act : P .act = true) (h_drl : P .drl = true) (h_tnd : P .tnd = true)
    (h_net : P .net = true) (h_rcd : P .rcd = true) (h_pwr : P .pwr = true) (h_sec : P .sec = true) :
    WithinOpt P s (BusWrite.directPlanes w s) := by
  unfold BusWrite.directPlanes
  with_reducible repeat' first
    | assumption | exact Within.refl _ _ | exact Within.id_ _ _ | apply WithinOpt.some | exact WithinOpt.none _ _
    | apply WithinOpt.orElse | apply Within.trans ?_ (State.run_within _ _ (fun _ => ?_))
    | apply WithinOut.trans ?_ (execRelease_within _ _ _ ?_ ?_ ?_ ?_ ?_ ?_ ?_)
    | apply WithinOut.trans ?_ (execPendingClear_within _ _ _ _ ?_ ?_ ?_ ?_ ?_ ?_ ?_)
    | apply WithinOut.trans ?_ (execSiReset_within _ _ _ ?_ ?_ ?_ ?_ ?_ ?_ ?_)
    | apply WithinOut.trans ?_ (execSoReset_within _ _ _ ?_ ?_ ?_ ?_ ?_ ?_ ?_)
    | apply Within.trans ?_ (BusWrite.two_within _ _ _ _ _ (fun _ => ?_) (fun _ => ?_))
    | apply WithinOut.trans ?_ (execEptalSend_within _ _ _ _ ?_ ?_ ?_ ?_ ?_ ?_ ?_ ?_)
    | apply WithinOut.trans ?_ (execEptalReset_within _ _ _ ?_ ?_ ?_ ?_ ?_ ?_ ?_)
    | apply Within.trans ?_ (State.canCtl_within _ _ _ _ ?_ ?_ ?_ ?_ ?_)
    | apply Within.trans ?_ (BusWrite.canBufCmd_within _ _ ?_ ?_ ?_ ?_ ?_ ?_ ?_)
    | apply Within.trans ?_ (State.tookFree_within _ ?_)
    | apply WithinOut.trans ?_ (execCanBufferConfig_within _ _ _ _ _ _ ?_ ?_ ?_ ?_ ?_ ?_)
    | apply Within.trans ?_ (State.ethCtl_within _ _ _ _ ?_ ?_ ?_ ?_ ?_ ?_)
    | apply WithinOut.trans ?_ (execEthTxKick_within _ _ _ _ ?_ ?_ ?_ ?_ ?_ ?_ ?_ ?_ ?_)
    | apply WithinOut.trans ?_ (execAuxlAckSend_within _ _ ?_ ?_ ?_ ?_ ?_ ?_)
    | apply WithinOut.trans ?_ (execWarmReset_within _ _ _ ?_ ?_ ?_ ?_ ?_ ?_ ?_ ?_ ?_ ?_ ?_ ?_ ?_ ?_ ?_ ?_ ?_ ?_ ?_ ?_ ?_ ?_ ?_ ?_ ?_)
    | apply WithinOut.trans ?_ (execDerateChannelWrite_within _ _ _ _ ?_ ?_ ?_ ?_ ?_ ?_) | apply Within.ite | apply WithinOpt.ite
    | split | (dsimp only; split)

theorem BusWrite.showPend_within {P : Part → Bool} (w : BusWrite) (s : State) (h_regs : P .regs = true) :
    Within P s (BusWrite.showPend w s) := by
  unfold BusWrite.showPend
  with_reducible repeat' first
    | assumption | exact Within.refl _ _ | apply Within.trans ?_ (State.setFld_within _ _ _ ?_) | apply Within.ite

theorem BusWrite.act_within {P : Part → Bool} (w : BusWrite) (s0 : State) (s : State) (h_free : P .free = true) (h_resp : P .resp = true)
    (h_j3 : P .j3 = true) (h_regs : P .regs = true) (h_staged : P .staged = true) (h_bytes : P .bytes = true) (h_cad : P .cad = true)
    (h_sens : P .sens = true) (h_pwm : P .pwm = true) (h_safe : P .safe = true) (h_pos : P .pos = true) (h_drl : P .drl = true)
    (h_tnd : P .tnd = true) (h_net : P .net = true) (h_rcd : P .rcd = true) (h_pwr : P .pwr = true) (h_sec : P .sec = true)
    (h0 : Within P s0 s) :
    Within P s0 (BusWrite.act w s0 s) := by
  unfold BusWrite.act
  with_reducible repeat' first
    | assumption | exact Within.refl _ _ | apply Within.trans ?_ (BusWrite.showPend_within _ _ ?_)
    | apply BusWrite.actFad_within _ _ _ ?_ ?_ | apply BusWrite.actFaq_within _ _ _ ?_ ?_ ?_ ?_ ?_ ?_ ?_
    | apply BusWrite.actTrc_within _ _ _ ?_ ?_ ?_ ?_ ?_ | apply BusWrite.actWma_within _ _ _ ?_ ?_ ?_ ?_ ?_ ?_ ?_
    | apply BusWrite.actNl_within _ _ _ ?_ ?_ ?_ ?_ ?_ ?_ ?_ | apply BusWrite.actGhd_within _ _ _ ?_ ?_ ?_
    | apply BusWrite.actPos_within _ _ _ ?_ ?_ ?_ ?_ ?_ ?_ ?_ | apply BusWrite.actAct_within _ _ _ ?_ ?_
    | apply BusWrite.actDrl_within _ _ _ ?_ ?_ ?_ ?_ ?_ ?_ ?_ | apply BusWrite.actSaf_within _ _ _ ?_ ?_ ?_ ?_ ?_ ?_ ?_ ?_
    | apply BusWrite.actEpt_within _ _ _ ?_ ?_ ?_ ?_ ?_ ?_ | apply BusWrite.actTnd_within _ _ _ ?_ ?_ ?_ ?_ ?_ ?_ ?_
    | apply BusWrite.actEth_within _ _ _ ?_ ?_ | apply BusWrite.actPwr_within _ _ _ ?_ ?_ ?_ ?_ ?_ ?_ ?_ ?_ ?_ ?_
    | apply BusWrite.actSec_within _ _ _ ?_ ?_ ?_ ?_ ?_ ?_ ?_ ?_ ?_ ?_ ?_
    | apply BusWrite.actRol_within _ _ _ ?_ ?_ ?_ ?_ ?_ ?_ ?_ ?_ ?_ ?_ ?_
    | apply BusWrite.actBst_within _ _ _ ?_ ?_ ?_ ?_ ?_ ?_ ?_ ?_ | apply BusWrite.actRec_within _ _ _ ?_ ?_ ?_ ?_ ?_ ?_ ?_ ?_
    | apply BusWrite.actNor_within _ _ _ ?_ ?_ ?_ ?_ ?_ ?_ ?_ | split | (dsimp only; split)

theorem BusWrite.direct_within {P : Part → Bool} (w : BusWrite) (s : State) (h_clock : P .clock = true) (h_free : P .free = true)
    (h_resp : P .resp = true) (h_j3 : P .j3 = true) (h_regs : P .regs = true) (h_live : P .live = true) (h_staged : P .staged = true)
    (h_bytes : P .bytes = true) (h_engineMem : P .engineMem = true) (h_canRam : P .canRam = true) (h_cad : P .cad = true)
    (h_eng : P .eng = true) (h_sens : P .sens = true) (h_pwm : P .pwm = true) (h_safe : P .safe = true) (h_pos : P .pos = true)
    (h_trac : P .trac = true) (h_conv : P .conv = true) (h_act : P .act = true) (h_drl : P .drl = true) (h_tnd : P .tnd = true)
    (h_net : P .net = true) (h_rcd : P .rcd = true) (h_pwr : P .pwr = true) (h_sec : P .sec = true) :
    WithinOpt P s (BusWrite.direct w s) := by
  unfold BusWrite.direct
  with_reducible repeat' first
    | assumption | exact Within.refl _ _ | apply WithinOpt.some | exact WithinOpt.none _ _ | apply WithinOpt.orElse
    | apply BusWrite.directControl_within _ _ ?_ ?_ ?_ ?_ ?_ ?_ ?_ ?_ ?_ ?_
    | apply BusWrite.directDrive_within _ _ ?_ ?_ ?_ ?_ ?_ ?_ ?_ ?_ ?_ ?_
    | apply BusWrite.directPlanes_within _ _ ?_ ?_ ?_ ?_ ?_ ?_ ?_ ?_ ?_ ?_ ?_ ?_ ?_ ?_ ?_ ?_ ?_ ?_ ?_ ?_ ?_ ?_ ?_ ?_ ?_

theorem State.srst_within {P : Part → Bool} (s : State) (k : PageKind) (n : Nat) (h_free : P .free = true) (h_j3 : P .j3 = true)
    (h_regs : P .regs = true) (h_bytes : P .bytes = true) (h_canRam : P .canRam = true) (h_cad : P .cad = true) (h_sens : P .sens = true)
    (h_pwm : P .pwm = true) (h_safe : P .safe = true) (h_pos : P .pos = true) (h_trac : P .trac = true) (h_conv : P .conv = true)
    (h_act : P .act = true) (h_drl : P .drl = true) (h_net : P .net = true) :
    Within P s (State.srst s k n) := by
  unfold State.srst
  with_reducible repeat' first
    | assumption | exact Within.refl _ _ | exact Within.id_ _ _ | apply Within.each (fun _ _ => ?_) _ ?_
    | apply Within.trans ?_ (State.wr_within _ _ _ ?_) | apply Within.trans ?_ (State.setFld_within _ _ _ ?_)
    | apply Within.trans ?_ (State.tookFree_within _ ?_) | apply Within.trans ?_ (State.updSens_within _ _ ?_)
    | apply Within.trans ?_ (State.clearFast_within _ _ ?_) | apply Within.trans ?_ (State.showFaq_within _ ?_)
    | apply Within.trans ?_ (State.showPt_within _ ?_) | apply Within.trans ?_ (State.canReassign_within _ _ _ _ _ ?_)
    | apply Within.trans ?_ (State.updTrac_within _ _ _ ?_) | apply Within.trans ?_ (State.updChg_within _ _ ?_)
    | apply Within.trans ?_ (State.updAux_within _ _ ?_) | apply Within.trans ?_ (State.actShow_within _ _ ?_)
    | apply Within.trans ?_ (State.actEval_within _ _ ?_ ?_ ?_ ?_ ?_ ?_) | apply Within.trans ?_ (State.updAct_within _ _ _ ?_)
    | apply Within.trans ?_ (State.updDrl_within _ _ ?_) | apply Within.trans ?_ (State.eptShow_within _ _ ?_ ?_ ?_ ?_ ?_)
    | apply Within.trans ?_ (State.eptReassign_within _ _ _ ?_) | apply Within.trans ?_ (State.updEpt_within _ _ _ ?_)
    | apply Within.trans ?_ (State.showEmus_within _ ?_ ?_ ?_ ?_) | apply Within.trans ?_ (State.sensShow_within _ ?_)
    | apply Within.trans ?_ (State.updEth_within _ _ _ ?_) | apply Within.trans ?_ (State.histZero_within _ _ ?_)
    | apply Within.trans ?_ (State.trackZero_within _ _ ?_) | apply Within.ite | apply Within.foldl (fun _ _ => ?_) ?_ _ | split
    | (dsimp only; split) | apply Within.srstWrite ?_ ?_ _ _ | apply Within.srstFilter ?_ ?_ _

theorem State.writePageCtl_within {P : Part → Bool} (s : State) (m : Master) (k : PageKind) (n : Nat) (v : Word) (h_free : P .free = true)
    (h_resp : P .resp = true) (h_j3 : P .j3 = true) (h_regs : P .regs = true) (h_bytes : P .bytes = true) (h_canRam : P .canRam = true)
    (h_cad : P .cad = true) (h_sens : P .sens = true) (h_pwm : P .pwm = true) (h_safe : P .safe = true) (h_pos : P .pos = true)
    (h_trac : P .trac = true) (h_conv : P .conv = true) (h_act : P .act = true) (h_drl : P .drl = true) (h_net : P .net = true) :
    Within P s (State.writePageCtl s m k n v) := by
  unfold State.writePageCtl
  with_reducible repeat' first
    | assumption | exact Within.refl _ _ | exact Within.id_ _ _
    | apply Within.trans ?_ (State.checked_within _ _ _ _ _ _ _ ?_ ?_ ?_ ?_ ?_ (fun _ => ?_))
    | apply Within.trans ?_ (State.setFld_within _ _ _ ?_)
    | apply Within.trans ?_ (State.srst_within _ _ _ ?_ ?_ ?_ ?_ ?_ ?_ ?_ ?_ ?_ ?_ ?_ ?_ ?_ ?_ ?_)
    | apply Within.trans ?_ (State.ackPage_within _ _ _ _ _ _ _ ?_ ?_ ?_ ?_ ?_ (fun _ => ?_)) | apply Within.ite

theorem State.writePageLock_within {P : Part → Bool} (s : State) (m : Master) (k : PageKind) (n : Nat) (v : Word)
    (h_free : P .free = true) (h_resp : P .resp = true) (h_j3 : P .j3 = true) (h_regs : P .regs = true) (h_cad : P .cad = true) :
    Within P s (State.writePageLock s m k n v) := by
  unfold State.writePageLock
  with_reducible repeat' first
    | assumption | exact Within.refl _ _ | exact Within.id_ _ _ | apply Within.trans ?_ (State.errResp_within _ _ _ _ _ ?_ ?_ ?_ ?_)
    | apply Within.trans ?_ (State.checked_within _ _ _ _ _ _ _ ?_ ?_ ?_ ?_ ?_ (fun _ => ?_))
    | apply Within.trans ?_ (State.setFld_within _ _ _ ?_) | apply Within.ite

theorem State.writeHeader_within {P : Part → Bool} (s : State) (m : Master) (k : PageKind) (n : Nat) (a : Nat) (v : Word)
    (h_free : P .free = true) (h_resp : P .resp = true) (h_j3 : P .j3 = true) (h_regs : P .regs = true) (h_bytes : P .bytes = true)
    (h_canRam : P .canRam = true) (h_cad : P .cad = true) (h_sens : P .sens = true) (h_pwm : P .pwm = true) (h_safe : P .safe = true)
    (h_pos : P .pos = true) (h_trac : P .trac = true) (h_conv : P .conv = true) (h_act : P .act = true) (h_drl : P .drl = true)
    (h_net : P .net = true) :
    Within P s (State.writeHeader s m k n a v) := by
  unfold State.writeHeader
  with_reducible repeat' first
    | assumption | exact Within.refl _ _ | exact Within.id_ _ _
    | apply Within.trans ?_ (State.writePageCtl_within _ _ _ _ _ ?_ ?_ ?_ ?_ ?_ ?_ ?_ ?_ ?_ ?_ ?_ ?_ ?_ ?_ ?_ ?_)
    | apply Within.trans ?_ (State.writePageLock_within _ _ _ _ _ ?_ ?_ ?_ ?_ ?_)
    | apply Within.trans ?_ (State.ackPage_within _ _ _ _ _ _ _ ?_ ?_ ?_ ?_ ?_ (fun _ => ?_))
    | apply Within.trans ?_ (State.wr_within _ _ _ ?_)
    | apply Within.trans ?_ (State.writePage_within _ _ _ _ _ _ _ ?_ ?_ ?_ ?_ ?_ (fun _ => ?_)) | split | (dsimp only; split)

theorem State.writeBlock_within {P : Part → Bool} (a0 : State) (a1 : Master) (a2 : PageKind) (a3 : Nat) (a4 : Nat) (a5 : Word)
    (h_clock : P .clock = true) (h_free : P .free = true) (h_resp : P .resp = true) (h_j3 : P .j3 = true) (h_regs : P .regs = true)
    (h_live : P .live = true) (h_staged : P .staged = true) (h_bytes : P .bytes = true) (h_engineMem : P .engineMem = true)
    (h_canRam : P .canRam = true) (h_cad : P .cad = true) (h_eng : P .eng = true) (h_sens : P .sens = true) (h_pwm : P .pwm = true)
    (h_safe : P .safe = true) (h_pos : P .pos = true) (h_trac : P .trac = true) (h_conv : P .conv = true) (h_act : P .act = true)
    (h_drl : P .drl = true) (h_tnd : P .tnd = true) (h_net : P .net = true) (h_rcd : P .rcd = true) (h_pwr : P .pwr = true)
    (h_sec : P .sec = true) :
    Within P a0 (State.writeBlock a0 a1 a2 a3 a4 a5) := by
  unfold State.writeBlock
  with_reducible repeat' first
    | (rename_i e; exact (BusWrite.direct_within _ _ h_clock h_free h_resp h_j3 h_regs h_live h_staged h_bytes h_engineMem h_canRam h_cad
      h_eng h_sens h_pwm h_safe h_pos h_trac h_conv h_act h_drl h_tnd h_net h_rcd h_pwr h_sec).some_ _ e)
    | assumption | exact Within.refl _ _ | exact Within.id_ _ _
    | apply Within.trans ?_ (State.writePage_within _ _ _ _ _ _ _ ?_ ?_ ?_ ?_ ?_ (fun _ => ?_))
    | apply BusWrite.direct_within _ _ ?_ ?_ ?_ ?_ ?_ ?_ ?_ ?_ ?_ ?_ ?_ ?_ ?_ ?_ ?_ ?_ ?_ ?_ ?_ ?_ ?_ ?_ ?_ ?_ ?_
    | apply Within.trans ?_ (State.regWrite_within _ _ _ _ _ ?_ ?_ ?_ ?_ ?_ ?_ (fun _ _ _ => ?_))
    | apply BusWrite.act_within _ _ _ ?_ ?_ ?_ ?_ ?_ ?_ ?_ ?_ ?_ ?_ ?_ ?_ ?_ ?_ ?_ ?_ ?_ ?_
    | apply Within.trans ?_ (State.checked_within _ _ _ _ _ _ _ ?_ ?_ ?_ ?_ ?_ (fun _ => ?_))
    | apply Within.trans ?_ (State.storeRow_within _ _ _ _ _ ?_) | apply Within.trans ?_ (BusWrite.ackWma_within _ _ _ ?_)
    | apply Within.trans ?_ (State.errResp_within _ _ _ _ _ ?_ ?_ ?_ ?_) | apply Within.ite | split | (dsimp only; split)

theorem State.writeCanRam_within {P : Part → Bool} (s : State) (m : Master) (a : Nat) (v : Word) (h_resp : P .resp = true)
    (h_j3 : P .j3 = true) (h_regs : P .regs = true) (h_canRam : P .canRam = true) (h_cad : P .cad = true) :
    Within P s (State.writeCanRam s m a v) := by
  unfold State.writeCanRam
  with_reducible repeat' first
    | assumption | exact Within.refl _ _ | apply Within.trans ?_ (State.errResp_within _ _ _ _ _ ?_ ?_ ?_ ?_)
    | apply Within.trans ?_ (State.okResp_within _ _ ?_) | apply Within.trans ?_ (State.canRamWrite_within _ _ _ _ _ ?_)
    | apply Within.ite

theorem State.busWrite_within {P : Part → Bool} (s : State) (m : Master) (a : Nat) (wd : Width) (v : Word) (h_clock : P .clock = true)
    (h_free : P .free = true) (h_resp : P .resp = true) (h_j3 : P .j3 = true) (h_regs : P .regs = true) (h_live : P .live = true)
    (h_staged : P .staged = true) (h_bytes : P .bytes = true) (h_engineMem : P .engineMem = true) (h_canRam : P .canRam = true)
    (h_cad : P .cad = true) (h_eng : P .eng = true) (h_sens : P .sens = true) (h_pwm : P .pwm = true) (h_safe : P .safe = true)
    (h_pos : P .pos = true) (h_trac : P .trac = true) (h_conv : P .conv = true) (h_act : P .act = true) (h_drl : P .drl = true)
    (h_tnd : P .tnd = true) (h_net : P .net = true) (h_rcd : P .rcd = true) (h_pwr : P .pwr = true) (h_sec : P .sec = true) :
    Within P s (State.busWrite s m a wd v) := by
  unfold State.busWrite
  with_reducible repeat' first
    | assumption | exact Within.refl _ _ | apply Within.trans ?_ (State.errResp_within _ _ _ _ _ ?_ ?_ ?_ ?_)
    | apply Within.trans ?_ (State.sramWrite_within _ _ _ _ _ ?_ ?_ ?_ ?_ ?_)
    | apply Within.trans ?_ (State.progWrite_within _ _ _ _ ?_ ?_ ?_ ?_ ?_ ?_ ?_)
    | apply Within.trans ?_ (State.tabWrite_within _ _ _ _ ?_ ?_ ?_ ?_ ?_ ?_ ?_)
    | apply Within.trans ?_ (State.writeCanRam_within _ _ _ _ ?_ ?_ ?_ ?_ ?_)
    | apply Within.trans ?_ (State.writeHeader_within _ _ _ _ _ _ ?_ ?_ ?_ ?_ ?_ ?_ ?_ ?_ ?_ ?_ ?_ ?_ ?_ ?_ ?_ ?_)
    | apply Within.trans ?_ (State.writeBlock_within _ _ _ _ _ _ ?_ ?_ ?_ ?_ ?_ ?_ ?_ ?_ ?_ ?_ ?_ ?_ ?_ ?_ ?_ ?_ ?_ ?_ ?_ ?_ ?_ ?_ ?_ ?_ ?_)
    | apply Within.ite | split | (dsimp only; split)

theorem State.readEffect_within {P : Part → Bool} (s : State) (k : PageKind) (n : Nat) (a : Nat) (h_regs : P .regs = true) :
    Within P s (State.readEffect s k n a) := by
  unfold State.readEffect
  with_reducible repeat' first
    | assumption | exact Within.refl _ _ | apply Within.trans ?_ (State.wr_within _ _ _ ?_)
    | apply Within.trans ?_ (State.setFld_within _ _ _ ?_) | apply Within.ite | apply Within.foldl (fun _ _ => ?_) ?_ _ | split
    | (dsimp only; split)

theorem State.readPage_within {P : Part → Bool} (s : State) (m : Master) (k : PageKind) (n : Nat) (a : Nat) (h_resp : P .resp = true)
    (h_j3 : P .j3 = true) (h_regs : P .regs = true) (h_cad : P .cad = true) (h_eng : P .eng = true) (h_sens : P .sens = true) :
    Within P s (State.readPage s m k n a) := by
  unfold State.readPage
  with_reducible repeat' first
    | assumption | exact Within.refl _ _ | exact Within.id_ _ _ | apply Within.trans ?_ (State.errResp_within _ _ _ _ _ ?_ ?_ ?_ ?_)
    | apply Within.trans ?_ (State.accTimeout_within _ _ _ _ _ _ ?_ ?_ ?_ ?_) | apply Within.trans ?_ (State.okResp_within _ _ ?_)
    | apply Within.trans ?_ (State.setFld_within _ _ _ ?_) | apply Within.trans ?_ (State.faqPop_within _ _ ?_ ?_ ?_)
    | apply Within.trans ?_ (State.run_within _ _ (fun _ => ?_)) | apply WithinOut.trans ?_ (execAuxlRxRead_within _ _ ?_ ?_)
    | apply WithinOut.trans ?_ (execContextWordRead_within _ _ _ ?_ ?_ ?_ ?_ ?_)
    | apply WithinOut.trans ?_ (execLastRead_within _ _ _ ?_ ?_) | apply Within.trans ?_ (State.readEffect_within _ _ _ _ ?_)
    | apply Within.ite

theorem State.busRead_within {P : Part → Bool} (s : State) (m : Master) (a : Nat) (n : Nat) (h_resp : P .resp = true)
    (h_j3 : P .j3 = true) (h_regs : P .regs = true) (h_bytes : P .bytes = true) (h_cad : P .cad = true) (h_eng : P .eng = true)
    (h_sens : P .sens = true) (h_pwm : P .pwm = true) (h_safe : P .safe = true) :
    Within P s (State.busRead s m a n) := by
  unfold State.busRead
  with_reducible repeat' first
    | assumption | exact Within.refl _ _ | apply Within.trans ?_ (State.errResp_within _ _ _ _ _ ?_ ?_ ?_ ?_)
    | apply Within.trans ?_ (State.sramRead_within _ _ _ _ ?_ ?_ ?_ ?_ ?_ ?_ ?_)
    | apply Within.trans ?_ (State.okResp_within _ _ ?_) | apply Within.trans ?_ (State.norRead_within _ _ _ _ ?_ ?_ ?_ ?_)
    | apply Within.trans ?_ (State.engineReads_within _ _ ?_ ?_ ?_ ?_)
    | apply Within.trans ?_ (State.readPage_within _ _ _ _ _ ?_ ?_ ?_ ?_ ?_ ?_) | apply Within.ite | split | (dsimp only; split)

theorem State.debugAccess_within {P : Part → Bool} (s : State) (p : Nat) (op : Nat) (h_clock : P .clock = true) (h_free : P .free = true)
    (h_resp : P .resp = true) (h_j3 : P .j3 = true) (h_regs : P .regs = true) (h_live : P .live = true) (h_staged : P .staged = true)
    (h_bytes : P .bytes = true) (h_engineMem : P .engineMem = true) (h_canRam : P .canRam = true) (h_cad : P .cad = true)
    (h_eng : P .eng = true) (h_sens : P .sens = true) (h_pwm : P .pwm = true) (h_safe : P .safe = true) (h_pos : P .pos = true)
    (h_trac : P .trac = true) (h_conv : P .conv = true) (h_act : P .act = true) (h_drl : P .drl = true) (h_tnd : P .tnd = true)
    (h_net : P .net = true) (h_rcd : P .rcd = true) (h_pwr : P .pwr = true) (h_sec : P .sec = true) :
    Within P s (State.debugAccess s p op) := by
  unfold State.debugAccess
  with_reducible repeat' first
    | assumption | exact Within.refl _ _ | apply Within.trans ?_ (State.busRead_within _ _ _ _ ?_ ?_ ?_ ?_ ?_ ?_ ?_ ?_ ?_)
    | apply Within.trans ?_ (State.busWrite_within _ _ _ _ _ ?_ ?_ ?_ ?_ ?_ ?_ ?_ ?_ ?_ ?_ ?_ ?_ ?_ ?_ ?_ ?_ ?_ ?_ ?_ ?_ ?_ ?_ ?_ ?_ ?_)
    | apply Within.trans ?_ (State.okResp_within _ _ ?_) | apply Within.trans ?_ (State.tookFree_within _ ?_)
    | apply Within.trans ?_ (State.dbgWrite_within _ _ _ _ ?_ ?_ ?_) | apply Within.trans ?_ (State.wr_within _ _ _ ?_)
    | apply Within.trans ?_ (State.setFld_within _ _ _ ?_) | apply Within.ite | split | (dsimp only; split)

theorem State.debugGo_within {P : Part → Bool} (s : State) (m : Master) (p : Nat) (op : Nat) (h_clock : P .clock = true)
    (h_free : P .free = true) (h_resp : P .resp = true) (h_j3 : P .j3 = true) (h_regs : P .regs = true) (h_live : P .live = true)
    (h_staged : P .staged = true) (h_bytes : P .bytes = true) (h_engineMem : P .engineMem = true) (h_canRam : P .canRam = true)
    (h_cad : P .cad = true) (h_eng : P .eng = true) (h_sens : P .sens = true) (h_pwm : P .pwm = true) (h_safe : P .safe = true)
    (h_pos : P .pos = true) (h_trac : P .trac = true) (h_conv : P .conv = true) (h_act : P .act = true) (h_drl : P .drl = true)
    (h_tnd : P .tnd = true) (h_net : P .net = true) (h_rcd : P .rcd = true) (h_pwr : P .pwr = true) (h_sec : P .sec = true) :
    Within P s (State.debugGo s m p op) := by
  unfold State.debugGo
  with_reducible repeat' first
    | assumption | exact Within.refl _ _ | exact Within.id_ _ _
    | apply Within.trans ?_ (State.write_within _ _ _ _ _ ?_ ?_ ?_ ?_ ?_ (fun _ => ?_))
    | apply Within.trans ?_ (State.setFld_within _ _ _ ?_)
    | apply Within.trans ?_ (State.debugAccess_within _ _ _ ?_ ?_ ?_ ?_ ?_ ?_ ?_ ?_ ?_ ?_ ?_ ?_ ?_ ?_ ?_ ?_ ?_ ?_ ?_ ?_ ?_ ?_ ?_ ?_ ?_)
    | apply Within.ite

theorem State.access_within {P : Part → Bool} (s : State) (m : Master) (a : Nat) (wd : Width) (v : Word) (h_clock : P .clock = true)
    (h_free : P .free = true) (h_resp : P .resp = true) (h_j3 : P .j3 = true) (h_regs : P .regs = true) (h_live : P .live = true)
    (h_staged : P .staged = true) (h_bytes : P .bytes = true) (h_engineMem : P .engineMem = true) (h_canRam : P .canRam = true)
    (h_cad : P .cad = true) (h_eng : P .eng = true) (h_sens : P .sens = true) (h_pwm : P .pwm = true) (h_safe : P .safe = true)
    (h_pos : P .pos = true) (h_trac : P .trac = true) (h_conv : P .conv = true) (h_act : P .act = true) (h_drl : P .drl = true)
    (h_tnd : P .tnd = true) (h_net : P .net = true) (h_rcd : P .rcd = true) (h_pwr : P .pwr = true) (h_sec : P .sec = true) :
    Within P s (State.access s m a wd v) := by
  unfold State.access
  with_reducible repeat' first
    | assumption | exact Within.refl _ _
    | apply Within.trans ?_ (State.busWrite_within _ _ _ _ _ ?_ ?_ ?_ ?_ ?_ ?_ ?_ ?_ ?_ ?_ ?_ ?_ ?_ ?_ ?_ ?_ ?_ ?_ ?_ ?_ ?_ ?_ ?_ ?_ ?_)
    | apply Within.trans ?_ (State.debugGo_within _ _ _ _ ?_ ?_ ?_ ?_ ?_ ?_ ?_ ?_ ?_ ?_ ?_ ?_ ?_ ?_ ?_ ?_ ?_ ?_ ?_ ?_ ?_ ?_ ?_ ?_ ?_)
    | apply Within.trans ?_ (State.errResp_within _ _ _ _ _ ?_ ?_ ?_ ?_) | apply Within.ite | split | (dsimp only; split)

theorem execRegisterWrite_within {P : Part → Bool} (m : Master) (addr : Word) (width : Width) (v : Word) (s : State)
    (h_clock : P .clock = true) (h_free : P .free = true) (h_resp : P .resp = true) (h_j3 : P .j3 = true) (h_regs : P .regs = true)
    (h_live : P .live = true) (h_staged : P .staged = true) (h_bytes : P .bytes = true) (h_engineMem : P .engineMem = true)
    (h_canRam : P .canRam = true) (h_cad : P .cad = true) (h_eng : P .eng = true) (h_sens : P .sens = true) (h_pwm : P .pwm = true)
    (h_safe : P .safe = true) (h_pos : P .pos = true) (h_trac : P .trac = true) (h_conv : P .conv = true) (h_act : P .act = true)
    (h_drl : P .drl = true) (h_tnd : P .tnd = true) (h_net : P .net = true) (h_rcd : P .rcd = true) (h_pwr : P .pwr = true)
    (h_sec : P .sec = true) :
    WithinOut P s (execRegisterWrite m addr width v s) := by
  unfold execRegisterWrite
  with_reducible repeat' first
    | assumption | exact Within.refl _ _ | apply WithinOut.next
    | apply Within.trans ?_ (State.access_within _ _ _ _ _ ?_ ?_ ?_ ?_ ?_ ?_ ?_ ?_ ?_ ?_ ?_ ?_ ?_ ?_ ?_ ?_ ?_ ?_ ?_ ?_ ?_ ?_ ?_ ?_ ?_)

theorem execAccessTimeout_within {P : Part → Bool} (m : Master) (addr : Word) (wr : Option Word) (took : Bool) (s : State)
    (h_clock : P .clock = true) (h_free : P .free = true) (h_resp : P .resp = true) (h_j3 : P .j3 = true) (h_regs : P .regs = true)
    (h_live : P .live = true) (h_staged : P .staged = true) (h_bytes : P .bytes = true) (h_engineMem : P .engineMem = true)
    (h_canRam : P .canRam = true) (h_cad : P .cad = true) (h_eng : P .eng = true) (h_sens : P .sens = true) (h_pwm : P .pwm = true)
    (h_safe : P .safe = true) (h_pos : P .pos = true) (h_trac : P .trac = true) (h_conv : P .conv = true) (h_act : P .act = true)
    (h_drl : P .drl = true) (h_tnd : P .tnd = true) (h_net : P .net = true) (h_rcd : P .rcd = true) (h_pwr : P .pwr = true)
    (h_sec : P .sec = true) :
    WithinOut P s (execAccessTimeout m addr wr took s) := by
  unfold execAccessTimeout
  with_reducible repeat' first
    | assumption | exact Within.refl _ _ | apply WithinOut.next | apply Within.trans ?_ (State.errResp_within _ _ _ _ _ ?_ ?_ ?_ ?_)
    | apply Within.trans ?_ (State.accTimeout_within _ _ _ _ _ _ ?_ ?_ ?_ ?_)
    | apply Within.trans ?_ (State.busWrite_within _ _ _ _ _ ?_ ?_ ?_ ?_ ?_ ?_ ?_ ?_ ?_ ?_ ?_ ?_ ?_ ?_ ?_ ?_ ?_ ?_ ?_ ?_ ?_ ?_ ?_ ?_ ?_)
    | apply Within.ite | apply WithinOut.ite | split | (dsimp only; split)

theorem execPageSrst_within {P : Part → Bool} (m : Master) (page : Word) (v : Word) (s : State) (h_free : P .free = true)
    (h_resp : P .resp = true) (h_j3 : P .j3 = true) (h_regs : P .regs = true) (h_bytes : P .bytes = true) (h_canRam : P .canRam = true)
    (h_cad : P .cad = true) (h_sens : P .sens = true) (h_pwm : P .pwm = true) (h_safe : P .safe = true) (h_pos : P .pos = true)
    (h_trac : P .trac = true) (h_conv : P .conv = true) (h_act : P .act = true) (h_drl : P .drl = true) (h_net : P .net = true) :
    WithinOut P s (execPageSrst m page v s) := by
  unfold execPageSrst
  with_reducible repeat' first
    | assumption | exact Within.refl _ _ | apply WithinOut.next | apply Within.trans ?_ (State.errResp_within _ _ _ _ _ ?_ ?_ ?_ ?_)
    | apply Within.trans ?_ (State.writePageCtl_within _ _ _ _ _ ?_ ?_ ?_ ?_ ?_ ?_ ?_ ?_ ?_ ?_ ?_ ?_ ?_ ?_ ?_ ?_) | split
    | (dsimp only; split)

theorem execPageLockWrite_within {P : Part → Bool} (m : Master) (page : Word) (v : Word) (s : State) (h_free : P .free = true)
    (h_resp : P .resp = true) (h_j3 : P .j3 = true) (h_regs : P .regs = true) (h_cad : P .cad = true) :
    WithinOut P s (execPageLockWrite m page v s) := by
  unfold execPageLockWrite
  with_reducible repeat' first
    | assumption | exact Within.refl _ _ | apply WithinOut.next | apply Within.trans ?_ (State.errResp_within _ _ _ _ _ ?_ ?_ ?_ ?_)
    | apply Within.trans ?_ (State.writePageLock_within _ _ _ _ _ ?_ ?_ ?_ ?_ ?_) | split | (dsimp only; split)

theorem execPageCommit_within {P : Part → Bool} (m : Master) (page : Word) (v : Word) (s : State) (h_free : P .free = true)
    (h_resp : P .resp = true) (h_j3 : P .j3 = true) (h_regs : P .regs = true) (h_cad : P .cad = true) :
    WithinOut P s (execPageCommit m page v s) := by
  unfold execPageCommit
  with_reducible repeat' first
    | assumption | exact Within.refl _ _ | apply WithinOut.next | apply Within.trans ?_ (State.errResp_within _ _ _ _ _ ?_ ?_ ?_ ?_)
    | apply Within.trans ?_ (State.writePageLock_within _ _ _ _ _ ?_ ?_ ?_ ?_ ?_) | split | (dsimp only; split)

theorem execEvtSetWrite_within {P : Part → Bool} (m : Master) (page : Word) (v : Word) (s : State) (h_free : P .free = true)
    (h_resp : P .resp = true) (h_j3 : P .j3 = true) (h_regs : P .regs = true) (h_bytes : P .bytes = true) (h_canRam : P .canRam = true)
    (h_cad : P .cad = true) (h_sens : P .sens = true) (h_pwm : P .pwm = true) (h_safe : P .safe = true) (h_pos : P .pos = true)
    (h_trac : P .trac = true) (h_conv : P .conv = true) (h_act : P .act = true) (h_drl : P .drl = true) (h_net : P .net = true) :
    WithinOut P s (execEvtSetWrite m page v s) := by
  unfold execEvtSetWrite
  with_reducible repeat' first
    | assumption | exact Within.refl _ _ | apply WithinOut.next | apply Within.trans ?_ (State.errResp_within _ _ _ _ _ ?_ ?_ ?_ ?_)
    | apply Within.trans ?_ (State.writeHeader_within _ _ _ _ _ _ ?_ ?_ ?_ ?_ ?_ ?_ ?_ ?_ ?_ ?_ ?_ ?_ ?_ ?_ ?_ ?_) | split
    | (dsimp only; split)

theorem execStagedWrite_within {P : Part → Bool} (m : Master) (addr : Word) (v : Word) (s : State) (h_clock : P .clock = true)
    (h_free : P .free = true) (h_resp : P .resp = true) (h_j3 : P .j3 = true) (h_regs : P .regs = true) (h_live : P .live = true)
    (h_staged : P .staged = true) (h_bytes : P .bytes = true) (h_engineMem : P .engineMem = true) (h_canRam : P .canRam = true)
    (h_cad : P .cad = true) (h_eng : P .eng = true) (h_sens : P .sens = true) (h_pwm : P .pwm = true) (h_safe : P .safe = true)
    (h_pos : P .pos = true) (h_trac : P .trac = true) (h_conv : P .conv = true) (h_act : P .act = true) (h_drl : P .drl = true)
    (h_tnd : P .tnd = true) (h_net : P .net = true) (h_rcd : P .rcd = true) (h_pwr : P .pwr = true) (h_sec : P .sec = true) :
    WithinOut P s (execStagedWrite m addr v s) := by
  unfold execStagedWrite
  with_reducible repeat' first
    | assumption | exact Within.refl _ _ | apply WithinOut.next
    | apply Within.trans ?_ (State.access_within _ _ _ _ _ ?_ ?_ ?_ ?_ ?_ ?_ ?_ ?_ ?_ ?_ ?_ ?_ ?_ ?_ ?_ ?_ ?_ ?_ ?_ ?_ ?_ ?_ ?_ ?_ ?_)

theorem execMemoryWrite_within {P : Part → Bool} (m : Master) (addr : Word) (bytes : Fin 3) (v : Word) (s : State)
    (h_clock : P .clock = true) (h_free : P .free = true) (h_resp : P .resp = true) (h_j3 : P .j3 = true) (h_regs : P .regs = true)
    (h_live : P .live = true) (h_staged : P .staged = true) (h_bytes : P .bytes = true) (h_engineMem : P .engineMem = true)
    (h_canRam : P .canRam = true) (h_cad : P .cad = true) (h_eng : P .eng = true) (h_sens : P .sens = true) (h_pwm : P .pwm = true)
    (h_safe : P .safe = true) (h_pos : P .pos = true) (h_trac : P .trac = true) (h_conv : P .conv = true) (h_act : P .act = true)
    (h_drl : P .drl = true) (h_tnd : P .tnd = true) (h_net : P .net = true) (h_rcd : P .rcd = true) (h_pwr : P .pwr = true)
    (h_sec : P .sec = true) :
    WithinOut P s (execMemoryWrite m addr bytes v s) := by
  unfold execMemoryWrite
  with_reducible repeat' first
    | assumption | exact Within.refl _ _ | apply WithinOut.next
    | apply Within.trans ?_ (State.sramWrite_within _ _ _ _ _ ?_ ?_ ?_ ?_ ?_)
    | apply Within.trans ?_ (State.errResp_within _ _ _ _ _ ?_ ?_ ?_ ?_)
    | apply Within.trans ?_ (State.access_within _ _ _ _ _ ?_ ?_ ?_ ?_ ?_ ?_ ?_ ?_ ?_ ?_ ?_ ?_ ?_ ?_ ?_ ?_ ?_ ?_ ?_ ?_ ?_ ?_ ?_ ?_ ?_)
    | apply Within.ite | apply WithinOut.ite

theorem execSramRead_within {P : Part → Bool} (m : Master) (addr : Word) (bytes : Fin 3) (ecc : Ecc) (s : State) (h_free : P .free = true)
    (h_resp : P .resp = true) (h_j3 : P .j3 = true) (h_regs : P .regs = true) (h_bytes : P .bytes = true) (h_cad : P .cad = true)
    (h_eng : P .eng = true) (h_sens : P .sens = true) (h_pwm : P .pwm = true) (h_safe : P .safe = true) :
    WithinOut P s (execSramRead m addr bytes ecc s) := by
  unfold execSramRead
  with_reducible repeat' first
    | assumption | exact Within.refl _ _ | apply WithinOut.next
    | apply Within.trans ?_ (State.busRead_within _ _ _ _ ?_ ?_ ?_ ?_ ?_ ?_ ?_ ?_ ?_)
    | apply Within.trans ?_ (State.strikeSram_within _ _ ?_ ?_)

theorem execNorWindowRead_within {P : Part → Bool} (m : Master) (addr : Word) (bytes : Fin 3) (s : State) (h_resp : P .resp = true)
    (h_j3 : P .j3 = true) (h_regs : P .regs = true) (h_bytes : P .bytes = true) (h_cad : P .cad = true) (h_eng : P .eng = true)
    (h_sens : P .sens = true) (h_pwm : P .pwm = true) (h_safe : P .safe = true) :
    WithinOut P s (execNorWindowRead m addr bytes s) := by
  unfold execNorWindowRead
  with_reducible repeat' first
    | assumption | exact Within.refl _ _ | apply WithinOut.next
    | apply Within.trans ?_ (State.busRead_within _ _ _ _ ?_ ?_ ?_ ?_ ?_ ?_ ?_ ?_ ?_)

theorem execDebugAccess_within {P : Part → Bool} (m : Master) (p : Fin 2) (op : Fin 4) (s : State) (h_clock : P .clock = true)
    (h_free : P .free = true) (h_resp : P .resp = true) (h_j3 : P .j3 = true) (h_regs : P .regs = true) (h_live : P .live = true)
    (h_staged : P .staged = true) (h_bytes : P .bytes = true) (h_engineMem : P .engineMem = true) (h_canRam : P .canRam = true)
    (h_cad : P .cad = true) (h_eng : P .eng = true) (h_sens : P .sens = true) (h_pwm : P .pwm = true) (h_safe : P .safe = true)
    (h_pos : P .pos = true) (h_trac : P .trac = true) (h_conv : P .conv = true) (h_act : P .act = true) (h_drl : P .drl = true)
    (h_tnd : P .tnd = true) (h_net : P .net = true) (h_rcd : P .rcd = true) (h_pwr : P .pwr = true) (h_sec : P .sec = true) :
    WithinOut P s (execDebugAccess m p op s) := by
  unfold execDebugAccess
  with_reducible repeat' first
    | assumption | exact Within.refl _ _ | apply WithinOut.next
    | apply Within.trans ?_ (State.debugGo_within _ _ _ _ ?_ ?_ ?_ ?_ ?_ ?_ ?_ ?_ ?_ ?_ ?_ ?_ ?_ ?_ ?_ ?_ ?_ ?_ ?_ ?_ ?_ ?_ ?_ ?_ ?_)

theorem State.updHsp_within {P : Part → Bool} (s : State) (f : HspRec → HspRec) (h_net : P .net = true) :
    Within P s (State.updHsp s f) := by
  unfold State.updHsp
  with_reducible repeat' first
    | assumption | exact Within.refl _ _ | apply Within.net ?_ ?_ _

theorem State.hspErr_within {P : Part → Bool} (s : State) (result : Nat) (h_free : P .free = true) (h_j3 : P .j3 = true)
    (h_regs : P .regs = true) (h_cad : P .cad = true) :
    Within P s (State.hspErr s result) := by
  unfold State.hspErr
  with_reducible repeat' first
    | assumption | exact Within.refl _ _ | apply Within.trans ?_ (State.postOpen_within _ _ _ ?_ ?_ ?_ ?_)
    | apply Within.trans ?_ (State.evt_within _ _ _ _ ?_) | apply Within.ite

theorem State.hspDue_within {P : Part → Bool} (s : State) (front : Bool) (a : HspAns) (h_free : P .free = true) (h_j3 : P .j3 = true)
    (h_regs : P .regs = true) (h_cad : P .cad = true) (h_net : P .net = true) :
    Within P s (State.hspDue s front a) := by
  unfold State.hspDue
  with_reducible repeat' first
    | assumption | exact Within.refl _ _ | apply Within.trans ?_ (State.hspErr_within _ _ ?_ ?_ ?_ ?_)
    | apply Within.trans ?_ (State.updHsp_within _ _ ?_) | apply Within.ite

theorem State.hspMiso_within {P : Part → Bool} (s : State) (pend : Bool) (h_regs : P .regs = true) (h_net : P .net = true) :
    Within P s (State.hspMiso s pend) := by
  unfold State.hspMiso
  with_reducible repeat' first
    | assumption | exact Within.refl _ _ | apply Within.trans ?_ (State.updHsp_within _ _ ?_)
    | apply Within.trans ?_ (State.setFld_within _ _ _ ?_) | apply Within.ite | split | (dsimp only; split)

theorem State.hspAnswer_within {P : Part → Bool} (s : State) (tag : Nat) (h_free : P .free = true) (h_j3 : P .j3 = true)
    (h_regs : P .regs = true) (h_cad : P .cad = true) (h_net : P .net = true) :
    Within P s (State.hspAnswer s tag) := by
  unfold State.hspAnswer
  with_reducible repeat' first
    | assumption | exact Within.refl _ _ | apply Within.trans ?_ (State.hspDue_within _ _ _ ?_ ?_ ?_ ?_ ?_) | apply Within.ite

theorem State.hspFrame_within {P : Part → Bool} (a0 : State) (f : HspFrame) (pend : Bool) (tag : Nat) (request : Bool)
    (acc : State → State) (h_free : P .free = true) (h_j3 : P .j3 = true) (h_regs : P .regs = true) (h_cad : P .cad = true)
    (h_net : P .net = true) (h5 : ∀ s, Within P s (acc s)) :
    Within P a0 (State.hspFrame a0 f pend tag request acc) := by
  unfold State.hspFrame
  with_reducible repeat' first
    | assumption | exact Within.refl _ _ | apply Within.trans ?_ (State.hspMiso_within _ _ ?_ ?_)
    | apply Within.trans ?_ (State.hspDue_within _ _ _ ?_ ?_ ?_ ?_ ?_) | apply Within.trans ?_ (State.inc_within _ _ ?_)
    | apply Within.trans ?_ (State.hspAnswer_within _ _ ?_ ?_ ?_ ?_ ?_) | apply Within.trans ?_ (h5 _) | apply Within.ite | split
    | (dsimp only; split)

theorem execHspRead_within {P : Part → Bool} (f : HspFrame) (pend : Bool) (tag : Fin 16) (addr : Word) (s : State)
    (h_free : P .free = true) (h_resp : P .resp = true) (h_j3 : P .j3 = true) (h_regs : P .regs = true) (h_bytes : P .bytes = true)
    (h_cad : P .cad = true) (h_eng : P .eng = true) (h_sens : P .sens = true) (h_pwm : P .pwm = true) (h_safe : P .safe = true)
    (h_net : P .net = true) :
    WithinOut P s (execHspRead f pend tag addr s) := by
  unfold execHspRead
  with_reducible repeat' first
    | assumption | exact Within.refl _ _ | exact Within.id_ _ _ | apply WithinOut.next
    | apply Within.trans ?_ (State.hspFrame_within _ _ _ _ _ _ ?_ ?_ ?_ ?_ ?_ (fun _ => ?_))
    | apply Within.trans ?_ (State.busRead_within _ _ _ _ ?_ ?_ ?_ ?_ ?_ ?_ ?_ ?_ ?_)

theorem execHspWrite_within {P : Part → Bool} (f : HspFrame) (pend : Bool) (tag : Fin 16) (addr : Word) (v : Word) (s : State)
    (h_clock : P .clock = true) (h_free : P .free = true) (h_resp : P .resp = true) (h_j3 : P .j3 = true) (h_regs : P .regs = true)
    (h_live : P .live = true) (h_staged : P .staged = true) (h_bytes : P .bytes = true) (h_engineMem : P .engineMem = true)
    (h_canRam : P .canRam = true) (h_cad : P .cad = true) (h_eng : P .eng = true) (h_sens : P .sens = true) (h_pwm : P .pwm = true)
    (h_safe : P .safe = true) (h_pos : P .pos = true) (h_trac : P .trac = true) (h_conv : P .conv = true) (h_act : P .act = true)
    (h_drl : P .drl = true) (h_tnd : P .tnd = true) (h_net : P .net = true) (h_rcd : P .rcd = true) (h_pwr : P .pwr = true)
    (h_sec : P .sec = true) :
    WithinOut P s (execHspWrite f pend tag addr v s) := by
  unfold execHspWrite
  with_reducible repeat' first
    | assumption | exact Within.refl _ _ | exact Within.id_ _ _ | apply WithinOut.next
    | apply Within.trans ?_ (State.hspFrame_within _ _ _ _ _ _ ?_ ?_ ?_ ?_ ?_ (fun _ => ?_))
    | apply Within.trans ?_ (State.access_within _ _ _ _ _ ?_ ?_ ?_ ?_ ?_ ?_ ?_ ?_ ?_ ?_ ?_ ?_ ?_ ?_ ?_ ?_ ?_ ?_ ?_ ?_ ?_ ?_ ?_ ?_ ?_)

theorem execHspNop_within {P : Part → Bool} (f : HspFrame) (pend : Bool) (tag : Fin 16) (s : State) (h_free : P .free = true)
    (h_j3 : P .j3 = true) (h_regs : P .regs = true) (h_cad : P .cad = true) (h_net : P .net = true) :
    WithinOut P s (execHspNop f pend tag s) := by
  unfold execHspNop
  with_reducible repeat' first
    | assumption | exact Within.refl _ _ | exact Within.id_ _ _ | apply WithinOut.next
    | apply Within.trans ?_ (State.hspFrame_within _ _ _ _ _ _ ?_ ?_ ?_ ?_ ?_ (fun _ => ?_))

theorem execHspTimeout_within {P : Part → Bool} (tag : Fin 16) (s : State) (h_free : P .free = true) (h_j3 : P .j3 = true)
    (h_regs : P .regs = true) (h_cad : P .cad = true) (h_net : P .net = true) :
    WithinOut P s (execHspTimeout tag s) := by
  unfold execHspTimeout
  with_reducible repeat' first
    | assumption | exact Within.refl _ _ | apply WithinOut.next | apply Within.trans ?_ (State.inc_within _ _ ?_)
    | apply Within.trans ?_ (State.opTo_within _ _ _ ?_) | apply Within.trans ?_ (State.hspDue_within _ _ _ ?_ ?_ ?_ ?_ ?_)
    | apply Within.trans ?_ (State.updHsp_within _ _ ?_) | apply Within.ite | apply WithinOut.ite | split | (dsimp only; split)

theorem State.showFault_within {P : Part → Bool} (s : State) (k : PageKind) (n : Nat) (bit : Nat) (present : Bool)
    (h_regs : P .regs = true) :
    Within P s (State.showFault s k n bit present) := by
  unfold State.showFault
  with_reducible repeat' first
    | assumption | exact Within.refl _ _ | apply Within.trans ?_ (State.flt_within _ _ _ _ ?_) | apply Within.ite

theorem State.showFaultsOf_within {P : Part → Bool} (s : State) (units : Nat) (f : Nat → PageKind × Nat × Nat) (present : Nat → Bool)
    (h_regs : P .regs = true) :
    Within P s (State.showFaultsOf s units f present) := by
  unfold State.showFaultsOf
  with_reducible repeat' first
    | assumption | exact Within.refl _ _ | exact Within.id_ _ _ | apply Within.each (fun _ _ => ?_) _ ?_
    | apply Within.trans ?_ (State.showFault_within _ _ _ _ _ ?_)

theorem State.showFaults_within {P : Part → Bool} (s : State) (h_regs : P .regs = true) :
    Within P s (State.showFaults s) := by
  unfold State.showFaults
  with_reducible repeat' first
    | assumption | exact Within.refl _ _ | apply Within.trans ?_ (State.showFault_within _ _ _ _ _ ?_)
    | apply Within.trans ?_ (State.showFaultsOf_within _ _ _ _ ?_)

theorem State.clockLevels_within {P : Part → Bool} (s : State) (h_free : P .free = true) (h_j3 : P .j3 = true) (h_regs : P .regs = true)
    (h_bytes : P .bytes = true) (h_cad : P .cad = true) (h_pwm : P .pwm = true) (h_safe : P .safe = true) (h_trac : P .trac = true)
    (h_conv : P .conv = true) (h_act : P .act = true) (h_drl : P .drl = true) (h_rcd : P .rcd = true) :
    Within P s (State.clockLevels s) := by
  unfold State.clockLevels
  with_reducible repeat' first
    | assumption | exact Within.refl _ _ | exact Within.id_ _ _ | apply Within.trans ?_ (State.showFaults_within _ ?_)
    | apply Within.trans ?_ (State.recClock_within _ ?_ ?_ ?_ ?_ ?_ ?_) | apply Within.each (fun _ _ => ?_) _ ?_
    | apply Within.trans ?_ (State.keClock_within _ _ ?_ ?_ ?_ ?_ ?_ ?_ ?_)
    | apply Within.trans ?_ (State.trcClock_within _ _ ?_ ?_) | apply Within.trans ?_ (State.gridClock_within _ ?_)
    | apply Within.trans ?_ (State.auxClock_within _ ?_ ?_ ?_ ?_ ?_)
    | apply Within.trans ?_ (State.sessClock_within _ ?_ ?_ ?_ ?_ ?_)
    | apply Within.trans ?_ (State.drlClock_within _ ?_ ?_ ?_ ?_ ?_ ?_)
    | apply Within.trans ?_ (State.actClock_within _ _ ?_ ?_ ?_ ?_ ?_ ?_)
    | apply Within.trans ?_ (State.tndClock_within _ _ ?_ ?_ ?_ ?_ ?_) | apply Within.ite

theorem State.clockCounts_within {P : Part → Bool} (s : State) (h_clock : P .clock = true) (h_regs : P .regs = true)
    (h_eng : P .eng = true) (h_sens : P .sens = true) (h_pwm : P .pwm = true) :
    Within P s (State.clockCounts s) := by
  unfold State.clockCounts
  with_reducible repeat' first
    | assumption | exact Within.refl _ _ | exact Within.id_ _ _ | apply Within.trans ?_ (State.setFld_within _ _ _ ?_)
    | apply Within.trans ?_ (State.updSens_within _ _ ?_) | apply Within.each (fun _ _ => ?_) _ ?_
    | apply Within.trans ?_ (State.carrierClock_within _ _ ?_ ?_) | apply Within.trans ?_ (State.schedBoundary_within _ _ ?_)
    | apply Within.trans ?_ (State.updLane_within _ _ _ ?_) | apply Within.trans ?_ (State.windowBoundary_within _ _ ?_)
    | apply Within.ite | apply Within.clock ?_ ?_ _

theorem State.clockSecond_within {P : Part → Bool} (s : State) (h_regs : P .regs = true) (h_safe : P .safe = true) :
    Within P s (State.clockSecond s) := by
  unfold State.clockSecond
  with_reducible repeat' first
    | assumption | exact Within.refl _ _ | exact Within.id_ _ _ | apply Within.each (fun _ _ => ?_) _ ?_
    | apply Within.trans ?_ (State.soSecond_within _ _ ?_ ?_) | apply Within.trans ?_ (State.eptSecond_within _ _ ?_)
    | apply Within.trans ?_ (State.tndSecond_within _ _ ?_) | apply Within.trans ?_ (State.secSecond_within _ ?_)
    | apply Within.trans ?_ (State.pwrSecond_within _ ?_) | apply Within.trans ?_ (State.recSecond_within _ ?_) | apply Within.ite

theorem State.srstClock_within {P : Part → Bool} (s : State) (h_regs : P .regs = true) :
    Within P s (State.srstClock s) := by
  unfold State.srstClock
  with_reducible repeat' first
    | assumption | exact Within.refl _ _ | apply Within.trans ?_ (State.setFld_within _ _ _ ?_)
    | apply Within.foldl (fun _ _ => ?_) ?_ _ | apply Within.srstWrite ?_ ?_ _ _ | apply Within.srstFilter ?_ ?_ _

theorem State.idle_within {P : Part → Bool} (s : State) (h_clock : P .clock = true) (h_free : P .free = true) (h_j3 : P .j3 = true)
    (h_regs : P .regs = true) (h_bytes : P .bytes = true) (h_cad : P .cad = true) (h_eng : P .eng = true) (h_sens : P .sens = true)
    (h_pwm : P .pwm = true) (h_safe : P .safe = true) (h_trac : P .trac = true) (h_conv : P .conv = true) (h_act : P .act = true)
    (h_drl : P .drl = true) (h_rcd : P .rcd = true) :
    Within P s (State.idle s) := by
  unfold State.idle
  with_reducible repeat' first
    | assumption | exact Within.refl _ _ | exact Within.id_ _ _ | apply Within.each (fun _ _ => ?_) _ ?_
    | apply Within.trans ?_ (State.clockCounts_within _ ?_ ?_ ?_ ?_ ?_)
    | apply Within.trans ?_ (State.clockLevels_within _ ?_ ?_ ?_ ?_ ?_ ?_ ?_ ?_ ?_ ?_ ?_ ?_)
    | apply Within.trans ?_ (State.showPos_within _ _ ?_) | apply Within.trans ?_ (State.clockSecond_within _ ?_ ?_)
    | apply Within.trans ?_ (State.srstClock_within _ ?_) | apply Within.ite

end Sys2Proof.Machine
end

