-- ==== Sys2Proof/Laws/Writes.lean ====
section
/-!
SUPPORT. Accesses: the page an address lies in, and what the shapes of a write command answer when the checks pass and when they do not.
-/
namespace Sys2Proof.Machine

/-- The pages of two types do not overlap (R107). -/
theorem pages_apart : ∀ k ∈ pageKinds, ∀ l ∈ pageKinds, k = l ∨ k.base + 0x1000 * k.count ≤ l.base ∨ l.base + 0x1000 * l.count ≤ k.base := by
  decide

theorem find?_unique {α : Type} {p : α → Bool} {x : α} (hx : p x = true) :
    ∀ {l : List α}, x ∈ l → (∀ y ∈ l, p y = true → y = x) → l.find? p = some x
  | [], h, _ => absurd h List.not_mem_nil
  | y :: l, h, hu => by
    rw [List.find?_cons]
    by_cases hy : p y = true
    · rw [hy, hu y List.mem_cons_self hy]
    · rw [Bool.not_eq_true] at hy
      rw [hy]
      refine find?_unique hx ?_ fun z hz => hu z (List.mem_cons_of_mem y hz)
      rcases List.mem_cons.mp h with rfl | h
      · rw [hx] at hy; cases hy
      · exact h

/-- Every address of page `n` of a type lies in that page. -/
theorem pageAt_page (k : PageKind) {n o : Nat} (hn : n < k.count) (ho : o < 0x1000) : pageAt (k.page n + o) = some (k, n) := by
  have hk : k ∈ pageKinds := by cases k <;> decide
  unfold pageAt PageKind.page
  rw [find?_unique (x := k) (by simp only [Bool.and_eq_true, decide_eq_true_eq]; omega) hk ?_]
  · simp only [Option.map_some, Option.some.injEq, Prod.mk.injEq, true_and]
    omega
  · intro l hl h
    simp only [Bool.and_eq_true, decide_eq_true_eq] at h
    rcases pages_apart k hk l hl with e | e | e
    · exact e.symm
    · omega
    · omega

theorem pageAt_of {k : PageKind} {n a : Nat} (hn : n < k.count) (h1 : k.page n ≤ a) (h2 : a < k.page n + 0x1000) : pageAt a = some (k, n) := by
  have h := pageAt_page k (o := a - k.page n) hn (by omega)
  rwa [show k.page n + (a - k.page n) = a by omega] at h

namespace State

/-- Only the pages of the driver dies lie behind a link (R121). -/
theorem remoteDown_false (s : State) {k : PageKind} (n : Nat) (h1 : k ≠ .ghd) (h2 : k ≠ .gld) : s.remoteDown k n = false := by
  unfold remoteDown remoteLink
  rw [if_neg h1, if_neg h2]
  rfl

/-- No register of a page is held while no software reset of it runs (R111). -/
theorem srstHeld_false {s : State} {k : PageKind} {n : Nat} (a : Nat) (h : s.on (hdr k n 0x08 0 1) = false) : s.srstHeld k n a = false := by
  unfold srstHeld
  rw [h]
  rfl

/-- What `opens` says. -/
theorem opens_iff {s : State} {m : Master} {k : PageKind} {n : Nat} :
    s.opens m k n = true ↔ s.mayWrite m k n = true ∧ s.on (hdr k n 0x08 0 1) = false := by
  unfold opens
  rw [Bool.and_eq_true, Bool.not_eq_true']

/-- A write whose rules refuse nothing, on a page that answers, has its effect and succeeds. -/
theorem checked_ok (s : State) (m : Master) {k : PageKind} {n : Nat} (a : Nat) {errs : List (Bool × ErrKind)} (eff : State → State)
    (hs : s.srstHeld k n a = false) (he : errs.filter Prod.fst = []) (hr : s.remoteDown k n = false) :
    s.checked m k n a errs eff = (eff s).okResp := by
  unfold checked
  rw [hs, he, hr]
  rfl

/-- A write that one rule refuses changes nothing but what the error response says. -/
theorem checked_refused (s : State) (m : Master) (k : PageKind) (n a : Nat) {errs : List (Bool × ErrKind)} (eff : State → State) {b : Bool}
    {e : ErrKind} (hs : s.srstHeld k n a = false) (he : errs.filter Prod.fst = [(b, e)]) : s.checked m k n a errs eff = s.errResp m true a e := by
  unfold checked
  rw [hs, he]
  rfl

theorem writePage_ok (s : State) (m : Master) {k : PageKind} {n : Nat} (a : Nat) {errs : List (Bool × ErrKind)} (eff : State → State)
    (hm : s.mayWrite m k n = true) (hs : s.srstHeld k n a = false) (he : errs.filter Prod.fst = []) (hr : s.remoteDown k n = false) :
    s.writePage m k n a errs eff = (eff s).okResp := by
  unfold writePage
  rw [if_pos hm]
  exact checked_ok s m a eff hs he hr

/-- A write without the right of R4 is refused with kind OWNER. -/
theorem writePage_owner (s : State) (m : Master) {k : PageKind} {n : Nat} (a : Nat) (errs : List (Bool × ErrKind)) (eff : State → State)
    (hm : s.mayWrite m k n = false) : s.writePage m k n a errs eff = s.errResp m true a .owner := by
  unfold writePage
  rw [hm]
  rfl

theorem ackPage_ok (s : State) (m : Master) {k : PageKind} {n : Nat} (a : Nat) {errs : List (Bool × ErrKind)} (eff : State → State)
    (hm : (s.mayWrite m k n || s.isAgent m k n) = true) (hs : s.srstHeld k n a = false) (he : errs.filter Prod.fst = [])
    (hr : s.remoteDown k n = false) :
    s.ackPage m k n a errs eff = (eff s).okResp := by
  unfold ackPage
  rw [if_pos hm]
  exact checked_ok s m a eff hs he hr

theorem write_ok (s : State) (m : Master) {a : Nat} {k : PageKind} {n : Nat} {errs : List (Bool × ErrKind)} (eff : State → State)
    (hp : pageAt a = some (k, n)) (hm : s.opens m k n = true) (he : errs.filter Prod.fst = []) (hr : s.remoteDown k n = false) :
    s.write m a errs eff = (eff s).okResp := by
  unfold write
  rw [hp]
  exact writePage_ok s m a eff (opens_iff.mp hm).1 (srstHeld_false a (opens_iff.mp hm).2) he hr

theorem write_owner (s : State) (m : Master) {a : Nat} {k : PageKind} {n : Nat} (errs : List (Bool × ErrKind)) (eff : State → State)
    (hp : pageAt a = some (k, n)) (hm : s.mayWrite m k n = false) : s.write m a errs eff = s.errResp m true a .owner := by
  unfold write
  rw [hp]
  exact writePage_owner s m a errs eff hm

end State
end Sys2Proof.Machine
end

