-- ==== Sys2Proof/WellFormed.lean ====
section
/-!
DEFINITION. Which commands are well formed: operands whose type is wider than what the part can meet. Every other operand is bounded by
its type.
-/
namespace Sys2Proof

/-- Data bytes that a data length code stands for, in classical and FD frames (ISO 11898-1, R445). -/
def CanFrame.dataLen (f : CanFrame) : Nat :=
  if f.rtr then 0
  else if f.dlc.val ≤ 8 then f.dlc.val
  else if f.fdf then [12, 16, 20, 24, 32, 48, 64].getD (f.dlc.val - 9) 64 else 8

/-- A frame of the bus: a base identifier has 11 bits, no FD frame is remote, and the data has the length its code gives. -/
def CanFrame.wf (f : CanFrame) : Bool :=
  (f.ide || f.id.toNat < 2 ^ 11) && !(f.fdf && f.rtr) && (f.fdf || !f.brs) && f.data.length == f.dataLen

/-- Channel numbers GH0–GH47 as 0–47 and GL0–GL23 as 64–87 (R2). -/
def chansWf (l : List Nat) : Bool := l.all fun c => c < 48 || (64 ≤ c && c < 88)

/-- A failing word of a self-test is a word (R538). -/
def BistFail.wf (f : BistFail) : Bool := f.addr.toNat % 4 == 0

/-- Samples of a channel's lines: as many as the longest filter looks at, at most (R273). -/
def linesWf (l : List (Fin 8)) : Bool := 1 ≤ l.length && l.length ≤ 8

/-- The well-formed commands. -/
def Instr.WellFormed (i : Instr) : Bool :=
  match i with
  | .conversionEnd codes => codes.length == 32
  | .idleFrame _ _ hot => chansWf hot
  | .edgeFrame _ _ _ _ hot => chansWf hot
  | .safeFrame _ _ hot => chansWf hot
  | .dieLinkLoss _ hot => chansWf hot
  | .statusFrame _ _ _ meas => meas.length ≤ 12
  | .canFrameReceived _ f => f.wf
  | .ethFrameReceived _ bytes _ _ => 14 ≤ bytes.length && bytes.length ≤ 1518
  | .norOpDone page => page.all fun l => l.length == 256
  | .bistDone fails => fails.all BistFail.wf
  | .resetRelease _ fails => fails.all fun e => e.2.wf
  | .quadratureEdge _ l => linesWf l
  | .illegalTransition _ l => linesWf l
  | .indexPulse _ l => linesWf l
  | .hallEdge _ l => linesWf l
  | .serialWord _ line => line.length ≤ 256 && line.all fun e => e.1 < 2 ^ 17
  | _ => true

end Sys2Proof
end

