-- ==== Sys2Proof/Tests/Slice0.lean ====
section
/-!
SUPPORT. Tests of the model, and for each statement that has hypotheses a witness: concrete states and operands that meet them, clause by
clause. The expected values are the manual's own worked examples and tables, or follow from its formulas by hand.
-/
open Sys2Proof Sys2Proof.Machine
namespace Sys2Proof.Tests
set_option maxRecDepth 100000

/-! ### Fixtures -/

/-- The state after reset with fields set. -/
def st (l : List (Fld × Nat)) : State := l.foldl (fun s p => s.setFld p.1 p.2) State.reset
/-- A run of context 0 over one instruction. -/
def run1 : Run := { ctx := 0, crit := false, base := 0, len := 1, start := 0, state := 1 }
/-- The two copies of an empty Eptal message. -/
def pdu : List Byte := eptPdu 0 1 0 0 false []
def pduB : List Byte := eptPdu 0 1 0 0 true []
/-- An empty classical frame. -/
def frame0 : CanFrame := ⟨0, false, false, false, false, false, 0, []⟩
/-- A state with one program word. -/
def withProg (s : State) (w : ProgWord) : State := { s with prog := [(0, w)] }

/-- Lane 0 about to issue an instruction of run `r` with operands d, a, b, c and IMM, over context words. Table 0 is the smallest. -/
def lane0 (op pred d a b c imm : Nat) (r : Run) (k : List (Nat × Word)) : State :=
  { st [(R.CAD_POS_CLK_IN_TICK, 100)] with
    prog := [(0, BitVec.ofNat 64 (op * 2 ^ 58 + pred * 2 ^ 56 + d * 2 ^ 48 + a * 2 ^ 40 + b * 2 ^ 32 + c * 2 ^ 24 + imm))],
    tab := [(4, 0x10102)],
    eng := { lane := [(0, { run := some r })], ctx := [(0, { words := k })] } }

/-- A word of context 0 after a command. -/
def wordAfter (c : Instr) (s : State) (o : Nat) : Word :=
  match exec c s with
  | .next t => (t.ctx 0).words.read (fun _ => 0) o
  | _ => 0
/-- A field of a register after a command. -/
def fldAfter (c : Instr) (s : State) (f : Fld) : Nat :=
  match exec c s with
  | .next t => t.fld f
  | _ => 0
/-- The answer to an access. -/
def respAfter (c : Instr) (s : State) : Option Resp :=
  match exec c s with
  | .next t => some t.resp
  | _ => none

/-! ### Statements with valid signatures (R491): R = G + Q, so that both scalars are 1 -/

/-- `n` words of a little-endian number, to the registers that `f` numbers. -/
def words (f : Nat → Nat) (n v : Nat) (s : State) : State :=
  (List.range n).foldl (fun s k => s.wr (f k) (BitVec.ofNat 32 (v / 2 ^ (32 * k)))) s

/-- A submitted statement under the key of credential 1, whose digest is enabled with role 3, and the nonce that was drawn. -/
def submitted (stmt key dig nonce : Nat) : State :=
  (words R.ROL_STMT 49 stmt (words R.ROL_KEY 25 key (words (R.ROL_CRED_DIG 1) 12 dig (words R.ROL_NONCE 8 nonce
    (st [(R.ROL_CRED_ROLE 1, 3), (R.ROL_CRED_EN 1, 1), (R.ROL_RESULT_BUSY, 1), (R.SEC_IMG_STAT_OTP_TEMP_OK, 1),
      (R.ROL_CHG_STAT_STATE, 2), (R.REC_STAT_FLUSHING, 1)]))))).updSec fun x => { x with nonce := true }
def statement1 : State := submitted
  0x42d91cea2e1056dc6dc254be80e1a99eac460871e600f1e1afb8cb41f014ef54294ebcd678e24b8646c9e5dea305d45542d91cea2e1056dc6dc254be80e1a99eac460871e600f1e1afb8cb41f014ef54294ebcd678e24b8646c9e5dea305d45500000000000000000000000000000000000000000000000000000000000000000000000000000000000000000000000000000000000000000000000000000000000000000000000000000000000000050000000000000000000000000000000000010001
  0x182b343087bcdea3dd940d4a5b9afea2f3fef7867c6d95a404b375508ecd3bfbc9d3c7bf2520280eef7953c7c0f2099b5ff12109d15effe9adefc97acaf61d7cac1c74468bf1684561cc601d5773eed1fd973fd3d3f68c745ff68749ccfb7efb04
  0xfc71dd272f98a73c86261c11e96f4aa0eec39a8c46d67f84dd9e71ac7e43111acc9b720f7a93d042ed098ebc4e313c7c 5
def statement2 : State := words R.ROL_DIGEST 1 1 <| submitted
  0xbf26cb23c7f581857bba9b9d1bfce69691392960c8b722ce30202b606d212ba3771a909c578313a68bcc83a05ea6e470bf26cb23c7f581857bba9b9d1bfce69691392960c8b722ce30202b606d212ba3771a909c578313a68bcc83a05ea6e4700000000000000000000000000000000000000000000000000000000000000000000000000000000000000000000000100000000000000000000000000000000000000000000000000000000000000000000000000000000000000000000000000010002
  0x20fb1f5a6e5d3035835584e6a5bcf73cb3d26e878048f83f7c022d9ddea8ccae3aa52eefbed8a27cf7ec450abcea39ff7c5b9bbee093b1bd4fb2fb04f6f286412d14cfd2c06ea9b37d45a4cbada58f085a8b492cdbdcc8f2cdadca8f1369740d04
  0x782368e512094e50a6f26c6ecc1cf831118b25447e30b40ac0e0866e7ddff21eedd878cf789d0e16122273035af61988 0
def statement3 : State := submitted
  0x7668419f0e1e7de0d6f940da89859ce52bf9298c25581d14cedb5dc3f8d67d36e49baf3d03cfadebb45a2ed6df0f06567668419f0e1e7de0d6f940da89859ce52bf9298c25581d14cedb5dc3f8d67d36e49baf3d03cfadebb45a2ed6df0f065600000000000000000000000000000000000000000000000000000000000000000000000000000000000000000000000400000000000000000000000000000000000000000000000000000000000000010000000000000000000000000000000000010003
  0xf7e17e4a33e93335b438ec4d4c52f0775ed271af050cfc69521a6945e32e9207445291037fb99528a4bc532c7f0afc206e5ead2305e78f900ac8d3f75c7166032cbe7da0b750db7b610cb03f3fd7f4c48ac93be0cffdd2eb32c18c61bf3f396b04
  0xe2630b1137155863fe2359d3b9415a457ebaae0200d9f96ec7119cefee58b7248a2a2071d4411ced34970bd055b7c46e 1
def statement4 : State := submitted
  0xc97347646bd491a8f047150c8d2b181aea166d2edecb311fa3ac7a86f7796cde49b39cbc2c0fa57f1e2edfd0ef2ad47ec97347646bd491a8f047150c8d2b181aea166d2edecb311fa3ac7a86f7796cde49b39cbc2c0fa57f1e2edfd0ef2ad47e00000000000000000000000000000000000000000000000000000000000000000000000000000000000000000000000700000000000000000000000000000000000000000000000000000000000000040000000000000000000000000000000000010004
  0xf310708505c3a9ea532afcef134c361f699e1d474fc99f0be1c60ef84dea75fd95d9493af50bab1383357aa2692e0aaa281434ea2aaa3ae7062df2e066173a84ebe3e0e42fe1cb95cae56274ed5e83d12ce1e4ab0ee21b57383f7932ed43542704
  0xa0dd5529ad8329aa31f398c64715db21afc26854be5944748206e9c7dd63fb6a41afabc578eb4e225c14f14b90565575 4
def statement5 : State := submitted
  0x2c90fc66820d2da930f60b2a2b87d65ae3ad69c601ee8ae1fee8d8b29cff1e98863fa38805f87c7599b2f9092ecf0d472c90fc66820d2da930f60b2a2b87d65ae3ad69c601ee8ae1fee8d8b29cff1e98863fa38805f87c7599b2f9092ecf0d4700000000000000000000000000000000000000000000000000000000000000000000000000000000000000000000030000000000000000000000000000000000000000000000000000000000000000030000000000000000000000000000000000010005
  0x10ecbf26f5190de73762686e52f741e42cf877cb00ef1ea27651a37480db44005732a28f126455b80e352b96fbd6e47dfb1a838d509b9465d99b1f43e4118e1c73f2ad3454ce83231094b1498b08640800cfdbf85aa1a4e7fb786a8fbb4ac74b04
  0x2b45c18d98c3a27af0ab19d2ab62515046458c0db51ea2825f69b6068890b07925ddb377b5432d8132cc2a51b8af84dd 3

/-! ### An image that passes (R482, R483) -/

/-- A stretch of zero bytes. -/
def zeros : Nat → Nat → List Host.Cell
  | _, 0 => []
  | a, n + 1 => (a, 0) :: zeros (a + 1) n

theorem zeros_read (d : Nat → Byte) (m : List Host.Cell) (n : Nat) : ∀ a i, i < n → Store.read d (zeros a n ++ m) (a + i) = 0 := by
  induction n with
  | zero => intro a i h; omega
  | succ n ih =>
    intro a i h
    simp only [zeros, List.cons_append, Store.read]
    by_cases e : a = a + i
    · rw [if_pos e]
    · rw [if_neg e, show a + i = a + 1 + (i - 1) by omega]
      exact ih (a + 1) (i - 1) (by omega)

theorem zeros_keys (n : Nat) : ∀ a, ∀ e ∈ zeros a n, e.1 < a + n := by
  induction n with
  | zero => intro a e h; cases h
  | succ n ih =>
    intro a e h
    rcases List.mem_cons.mp h with rfl | h
    · show a < a + (n + 1); omega
    · have := ih (a + 1) e h; omega

theorem read_skip (d : Nat → Byte) (l m : List Host.Cell) {b k : Nat} (h : ∀ e ∈ l, e.1 < b) (hk : b ≤ k) :
    Store.read d (l ++ m) k = Store.read d m k := by
  induction l with
  | nil => rfl
  | cons e l ih =>
    have := h e (List.mem_cons_self ..)
    simp only [List.cons_append, Store.read]
    rw [if_neg (by omega)]
    exact ih fun x hx => h x (List.mem_cons_of_mem _ hx)

/-- The header of an empty image in slot 0: the magic number, the format, the version, the entries, and the digest of no bytes. -/
def imageHead : List Host.Cell :=
  ([0x47, 0x4C, 0x58, 0x49, 1, 0, 0, 0, 63, 0, 0, 0, 0, 0, 0, 0, 0, 0, 0, 0, 0, 0, 0, 0x60, 0, 0, 0, 0x60, 0xFF, 0xFF, 0xFF] ++ [0x60] : List Byte).zipIdx.map
    fun e => (0x60000000 + e.2, e.1)
def imageDigest : List Host.Cell := (sha384 []).zipIdx.map fun e => (0x60000030 + e.2, e.1)

/-- That image in NOR, being activated. -/
def imageState : State :=
  { State.reset with
    mem := imageHead ++ (zeros 0x60000020 16 ++ (imageDigest ++ (zeros 0x60000060 160 ++ zeros 0x60000BCC 1076))), sec := { act := some 0 } }

theorem imageHead_keys : ∀ e ∈ imageHead, e.1 < 0x60000020 := by decide
theorem imageDigest_keys : ∀ e ∈ imageDigest, e.1 < 0x60000060 := by decide +kernel

theorem image_zero (i o n : Nat) (h : i < n) (hz : (o = 0x20 ∧ n = 16) ∨ (o = 0x60 ∧ n = 160) ∨ (o = 0xBCC ∧ n = 1076)) :
    imageState.byte (0x60000000 + o + i) = 0 := by
  unfold State.byte
  rw [if_neg (by omega)]
  show Store.read _ (imageHead ++ (zeros 0x60000020 16 ++ (imageDigest ++ (zeros 0x60000060 160 ++ zeros 0x60000BCC 1076)))) _ = 0
  rw [read_skip _ _ _ imageHead_keys (by omega)]
  rcases hz with ⟨rfl, rfl⟩ | ⟨rfl, rfl⟩ | ⟨rfl, rfl⟩
  · exact zeros_read _ _ 16 0x60000020 i h
  · rw [read_skip _ _ _ (zeros_keys 16 _) (by omega), read_skip _ _ _ imageDigest_keys (by omega)]
    exact zeros_read _ _ 160 0x60000060 i h
  · rw [read_skip _ _ _ (zeros_keys 16 _) (by omega), read_skip _ _ _ imageDigest_keys (by omega), read_skip _ _ _ (zeros_keys 160 _) (by omega)]
    have := zeros_read (memDefault imageState.undef) [] 1076 0x60000BCC i h
    rwa [List.append_nil] at this

theorem image_passes : imageState.hallmark 0 true true = 1 := by
  have z1 : ((List.range 16).all fun i => imageState.byte (0x60000000 + 0x20 + i) == 0) = true :=
    List.all_eq_true.mpr fun i hi => by rw [image_zero i 0x20 16 (List.mem_range.mp hi) (.inl ⟨rfl, rfl⟩)]; rfl
  have z2 : ((List.range 160).all fun i => imageState.byte (0x60000000 + 0x60 + i) == 0) = true :=
    List.all_eq_true.mpr fun i hi => by rw [image_zero i 0x60 160 (List.mem_range.mp hi) (.inr (.inl ⟨rfl, rfl⟩))]; rfl
  have z3 : ((List.range 1076).all fun i => imageState.byte (0x60000000 + 0xBCC + i) == 0) = true :=
    List.all_eq_true.mpr fun i hi => by rw [image_zero i 0xBCC 1076 (List.mem_range.mp hi) (.inr (.inr ⟨rfl, rfl⟩))]; rfl
  have w : [imageState.le (0x60000000 + 0) 4, imageState.le (0x60000000 + 4) 2, imageState.le (0x60000000 + 6) 2,
      imageState.le (0x60000000 + 8) 4, imageState.le (0x60000000 + 0x10) 4, imageState.le (0x60000000 + (0x14 + 4 * 0)) 4,
      imageState.le (0x60000000 + (0x14 + 4 * 1)) 4, imageState.le (0x60000000 + (0x14 + 4 * 2)) 4] =
      [0x49584C47, 1, 0, 63, 0, 0x60000000, 0x60000000, 0x60FFFFFF] := by decide +kernel
  have d : sha384 (imageState.getBytes (0x60000000 + 0x1000) 0) = imageState.getBytes (0x60000000 + 0x30) 48 := by decide +kernel
  simp only [List.cons.injEq] at w
  obtain ⟨w0, w1, w2, w3, w4, w5, w6, w7, -⟩ := w
  unfold State.hallmark
  simp only [State.slotBase, if_pos, w0, w1, w2, w3, w4, w5, w6, w7, z1, z2, z3, d]
  decide +kernel

/-! ### Witnesses: the hypotheses of each clause are met -/

theorem witness_ResetCommandsComplete :
    (∃ (s : State), s.on R.PWR_STAT_ON_HOLDUP = true) ∧
    (∃ (s : State), s.on R.PWR_STAT_ON_HOLDUP = true ∧ s.rcd.step4 = false) ∧
    (∃ (s : State), s.on R.PWR_STAT_ON_HOLDUP = true ∧ s.rcd.step4 = true) ∧
    (∃ (s : State) (m : Master), s.opens m .sys 0 = true ∧ ((List.range 12).any s.armed) = false) ∧
    (∃ (s : State), s.sec.released = false ∧ s.por = false) ∧
    (∃ (s : State), s.sec.released = false) :=
  ⟨⟨st [(R.PWR_STAT_ON_HOLDUP, 1)], by decide⟩,
   ⟨st [(R.PWR_STAT_ON_HOLDUP, 1)], by decide⟩,
   ⟨(st [(R.PWR_STAT_ON_HOLDUP, 1)]).updRec fun r => { r with step4 := true }, by decide⟩,
   ⟨State.reset, .core .mc, by decide⟩,
   ⟨State.reset.wr R.SYS_RST_CAUSE 4, by decide⟩,
   ⟨State.reset, by decide⟩⟩

theorem witness_BringUpCommandsComplete :
    (∃ (s : State), s.sec.released = true ∧ s.sec.romDone = false ∧ s.fld R.SEC_BOOT_STAGE = 0) ∧
    (∃ (s : State), s.sec.romDone = true ∧ s.fld R.SEC_BOOT_STAGE = 0 ∧ ((s.setFld R.SEC_BOOT_TIME_EARLY_MS (min (s.now / 4000) 0xFFFF)).setStage 1).on R.SEC_EARLY0_PARK_EN = false) ∧
    (∃ (s : State) (k : Fin 2), s.fld R.SEC_BOOT_STAGE = 1 ∧ s.slotTurn k = true) ∧
    (∃ (s : State), s.fld R.SEC_BOOT_STAGE = 1 ∧ s.slotPassed (s.fld R.SEC_BOOT_PREF) = true) ∧
    (∃ (s : State), s.fld R.SEC_BOOT_STAGE = 1 ∧ s.slotPassed (s.fld R.SEC_BOOT_PREF) = false ∧ s.slotPassed (1 - s.fld R.SEC_BOOT_PREF) = true) ∧
    (∃ (s : State), s.fld R.SEC_BOOT_STAGE = 1 ∧ s.slotPassed 0 = false ∧ s.slotPassed 1 = false ∧ s.cstate 0 ≠ 2 ∧ s.cstate 3 ≠ 2) ∧
    (∃ (s : State) (k : Fin 2), s.fld R.SEC_BOOT_STAGE = 1 ∧ s.cstate (3 * k) = 2 ∧ f32AbsGe (s.rd (R.POS_RPM k)) (s.fld R.SEC_EARLY3_EARLY_SPD) 1 = true ∧ f32Mag (s.rd (R.POS_RPM k)) ≠ s.fld R.SEC_EARLY3_EARLY_SPD * f32One) ∧
    (∃ (s : State), s.fld R.SEC_BOOT_STAGE = 1) :=
  ⟨⟨State.reset.updSec fun x => { x with released := true }, by decide⟩,
   ⟨(st [(R.SEC_EARLY0_PARK_EN, 0)]).updSec fun x => { x with romDone := true }, by decide⟩,
   ⟨st [(R.SEC_BOOT_STAGE, 1)], 0, by decide⟩,
   ⟨st [(R.SEC_BOOT_STAGE, 1), (R.SEC_BOOT_RES_A, 1)], by decide⟩,
   ⟨st [(R.SEC_BOOT_STAGE, 1), (R.SEC_BOOT_RES_B, 1)], by decide⟩,
   ⟨st [(R.SEC_BOOT_STAGE, 1)], by decide⟩,
   ⟨(st [(R.SEC_BOOT_STAGE, 1), (R.LPX_STATE_STATE 0, 2)]).wr (R.POS_RPM 0) 0x49742400, 0, by decide⟩,
   ⟨st [(R.SEC_BOOT_STAGE, 1)], by decide⟩⟩

theorem witness_CadenceCommandsComplete :
    (∃ (s : State), s.cad.tickMismatch = false) ∧
    (∃ (s : State) (m : Master), s.opens m .cad 0 = true ∧ s.frozen = false) ∧
    (∃ (s : State), s.cad.checking = true) ∧
    (∃ (s : State) (c : Fin 160), s.resting c.val = false ∧ (s.ctx c.val).dropPend = true) ∧
    (∃ (s : State) (c : Fin 160), s.cstate c = 2 ∧ s.fld (R.LPX_FE_TICKS_FE_TICKS c) ≠ 0 ∧ s.feAbove c = true ∧ s.fld (R.LPX_FE_TICKS_FE_TICKS c) ≤ s.fld (R.LPX_FE_TICKS_FE_CNT c) + 1) ∧
    (∃ (s : State) (m : Master) (c : Fin 160), isChecker m = false ∧ rights m = s.mbxWriter c ∧ s.on R.DRL_STAT_BUSY = false ∧ s.on (R.LPX_MBX_CMT_PEND c) = false) ∧
    (∃ (s : State) (m : Master) (c : Fin 160) (e : Fin 256), isChecker m = false ∧ rights m = s.mbxWriter c ∧ s.on R.DRL_STAT_BUSY = false ∧ e.val = s.fld (R.LPX_CFG_EPOCH c) ∧ e.val ≠ 0) ∧
    (∃ (s : State), s.cad.lostSince ≠ 0 ∧ s.j3.length < j3Depth) ∧
    (∃ (s : State) (m : Master) (c : Fin 160) (q : Fin 8), s.opens m .lpx (c / 16) = true ∧ q.val < 4 ∧ s.reqPermitted c q = true ∧ (s.frozen && s.resting c) = false) ∧
    (∃ (s : State) (m : Master) (c : Fin 160), s.opens m .lpx (c / 16) = true ∧ s.wordsOpen c = true) ∧
    (∃ (s : State) (c : Fin 160), s.on (hdr .lpx (c / 16) 0x08 0 1) = false ∧ s.eng.bad = []) :=
  ⟨⟨State.reset, by decide⟩,
   ⟨st [(hdr .cad 0 0x0C 0 1, 1)], .core .mc, by decide⟩,
   ⟨State.reset.updCad fun c => { c with checking := true }, by decide⟩,
   ⟨(st [(R.LPX_STATE_STATE 0, 1)]).updCtx 0 fun x => { x with dropPend := true }, 0, by decide⟩,
   ⟨((st [(R.LPX_STATE_STATE 0, 2), (R.LPX_FE_TICKS_FE_TICKS 0, 1)]).wr (R.LPX_FE_LIMIT 0) 0).updCtx 0 fun x => { x with fe := 0x7F7FFFFF }, 0, by decide⟩,
   ⟨State.reset, .core .ta, 0, by decide⟩,
   ⟨st [(R.LPX_CFG_EPOCH 0, 1)], .core .ta, 0, 1, by decide⟩,
   ⟨State.reset.updCad fun c => { c with lostSince := 1 }, by decide⟩,
   ⟨st [((hdr .lpx (0 / 16) 0x0C 0 1), 1)], .core .mc, 0, 0, by decide⟩,
   ⟨st [((hdr .lpx (0 / 16) 0x0C 0 1), 1), (R.LPX_STATE_STATE 0, 1)], .core .mc, 0, by decide⟩,
   ⟨State.reset, 0, by decide⟩⟩

theorem witness_EngineControlCommandsComplete :
    (∃ (s : State) (l : Fin 4) (r : _), ((s.laneRuns l).find? fun r => decide (r.len ≤ r.idx)) = some r) ∧
    (∃ (s : State) (l : Fin 4) (crit : _) (r : _), ((s.laneRuns l).find? fun r => r.crit == crit) = some r) ∧
    (∃ (s : State) (l : Fin 4) (r : _), (s.lane l).run = some r ∧ r.reissued = true) ∧
    (∃ (s : State) (l : Fin 4) (r : _), (s.lane l).run = some r ∧ r.reissued = false ∧ ((s.lane l).reissues.filter fun u => (s.fld R.CAD_TICK_COUNT + 2 ^ 32 - u) % 2 ^ 32 < 1024).length < s.fld R.LPE_CTL_RETRY_MAX) ∧
    (∃ (s : State) (l : Fin 4) (r : _), (s.lane l).run = some r ∧ r.reissued = true) ∧
    (∃ (s : State) (m : Master) (l : Fin 4), s.opens m .lpe 0 = true ∧ ((s.laneCtxs l).any fun c => !s.resting c) = false) ∧
    (∃ (s : State) (l : Fin 4), s.on (R.LPE_LANE_CMP_CHECK_BUSY l) = true) ∧
    (∃ (s : State) (l : Fin 4), s.on (R.LPE_LANE_CMP_CHECK_BUSY l) = true) ∧
    (∃ (s : State) (m : Master), s.opens m .lpe 0 = true) ∧
    (∃ (s : State) (m : Master) (k : Fin 8192), s.opens m .lpe 0 = true ∧ s.progProtected (k / 2) = false ∧ s.progValidating (k / 2) = false) ∧
    (∃ (s : State) (m : Master) (k : Fin 16384), s.opens m .lpe 0 = true ∧ 1024 < k.val) ∧
    (∃ (s : State) (m : Master) (st : Fin 4096) (n : Fin 8192), s.opens m .lpe 0 = true ∧ n.val ≠ 0 ∧ st.val + n.val ≤ 4096 ∧ s.on R.LPE_VAL_STAT_BUSY = false) ∧
    (∃ (s : State), s.on R.LPE_VAL_STAT_BUSY = true) ∧
    (∃ (s : State) (l : Fin 4) (r : _), (s.lane l).run = some r ∧ r.idx < r.len ∧ s.insErr (s.insAt (r.base + r.idx)) ≠ 0) :=
  ⟨⟨State.reset.updLane 0 fun L => { L with run := some { run1 with idx := 1 } }, 0, { run1 with idx := 1 }, by decide⟩,
   ⟨State.reset.updLane 0 fun L => { L with run := some run1 }, 0, false, run1, by decide⟩,
   ⟨State.reset.updLane 0 fun L => { L with run := some { run1 with reissued := true } }, 0, { run1 with reissued := true }, by decide⟩,
   ⟨(st [(R.LPE_CTL_RETRY_MAX, 1)]).updLane 0 fun L => { L with run := some run1 }, 0, run1, by decide⟩,
   ⟨State.reset.updLane 0 fun L => { L with run := some { run1 with reissued := true } }, 0, { run1 with reissued := true }, by decide⟩,
   ⟨st [(hdr .lpe 0 0x0C 0 1, 1)], .core .mc, 0, by decide⟩,
   ⟨st [(R.LPE_LANE_CMP_CHECK_BUSY 0, 1)], 0, by decide⟩,
   ⟨st [(R.LPE_LANE_CMP_CHECK_BUSY 0, 1)], 0, by decide⟩,
   ⟨st [(hdr .lpe 0 0x0C 0 1, 1)], .core .mc, by decide⟩,
   ⟨st [(hdr .lpe 0 0x0C 0 1, 1)], .core .mc, 0, by decide⟩,
   ⟨st [(hdr .lpe 0 0x0C 0 1, 1)], .core .mc, 1025, by decide⟩,
   ⟨st [(hdr .lpe 0 0x0C 0 1, 1)], .core .mc, 4095, 1, by decide⟩,
   ⟨st [(R.LPE_VAL_STAT_BUSY, 1)], by decide⟩,
   ⟨(State.reset.updLane 0 fun L => { L with run := some run1 }) |> (withProg · 0x0300000000000000), 0, run1, by decide⟩⟩

theorem witness_BusCommandsComplete :
    (∃ (s : State) (w : BusWrite) (r : _), BusWrite.Plain s w r ∧ State.isRw2 w.a = false ∧ (w.act s ((s.storeRow r false w.a w.v).okResp)).resp.kind = 0) ∧
    (∃ (s : State) (w : BusWrite) (r : _), BusWrite.Plain s w r ∧ State.isRw2 w.a = true ∧ s.stagesFor w.m w.k = true) ∧
    (∃ (a : Word) (k : _) (n : _), pageAt a.toNat = some (k, n) ∧ a.toNat % 4 = 0) ∧
    (∃ (s : State) (m : Master) (a : Word) (v : Word) (k : _) (n : _), pageAt a.toNat = some (k, n) ∧ rights m = .mc ∧ isChecker m = false ∧ s.remoteDown k n = false ∧ getBits v 0 1 = 0 ∧ getBits v 1 1 = 0) ∧
    (∃ (s : State) (m : Master) (a : Word) (v : Word) (k : _) (n : _), pageAt a.toNat = some (k, n) ∧ rights m = .mc ∧ isChecker m = false ∧ s.remoteDown k n = false ∧ getBits v 0 1 = 0) ∧
    (∃ (s : State) (m : Master) (a : Word) (k : _) (n : _), pageAt a.toNat = some (k, n) ∧ s.mayWrite m k n = true ∧ s.remoteDown k n = false) ∧
    (∃ (s : State) (m : Master) (a : Word) (v : Word) (n : _), pageAt a.toNat = some (.pos, n) ∧ s.opens m .pos n = true ∧ s.pageActive .pos n = false ∧ getBits v 3 2 ≠ 3) ∧
    (∃ (s : State) (a : Word) (n : Fin 3), inSram a.toNat = true ∧ inSram (a.toNat + 2 ^ n.val - 1) = true ∧ s.bad = []) ∧
    (∃ (m : Master) (a : Word) (n : Fin 3), inSram a.toNat = true ∧ isChecker m = false ∧ (∀ i < 2 ^ n.val, sramWriter m (a.toNat + i) = true) ∧ inSram (a.toNat + 2 ^ n.val - 1) = true) ∧
    (∃ (m : Master) (a : Word) (n : Fin 3), inNor a.toNat = true ∧ inNor (a.toNat + 2 ^ n.val - 1) = true ∧ (∀ i < 2 ^ n.val, norReader m (a.toNat + i) = true)) :=
  ⟨⟨State.reset, ⟨.core .mc, .nor, 0, R.NOR_ADDR, 0, 0x60000000⟩, _, by exact ⟨⟨by decide, by decide, by decide, by decide, by decide, rfl, by decide, by decide, by decide, rfl, by decide, by decide⟩, by decide, by decide⟩⟩,
   ⟨st [(State.sessionFld .rol, 1), (R.ROL_CHG_STAT_STATE, 1)], ⟨.core .mc, .rol, 0, R.ROL_CRED 1, 1, 6⟩, _, by exact ⟨⟨by decide, by decide, by decide, by decide, by decide, rfl, by decide, by decide, by decide, rfl, by decide, by decide⟩, by decide, by decide⟩⟩,
   ⟨0x40000040, .sys, 0, by decide⟩,
   ⟨State.reset, .core .mc, 0x40000000, 0, .sys, 0, by decide⟩,
   ⟨State.reset, .core .mc, 0x40000000, 0, .sys, 0, by decide⟩,
   ⟨State.reset, .core .mc, 0x40000000, .sys, 0, by decide⟩,
   ⟨st [(hdr .pos 0 0x0C 0 1, 1)], .core .mc, 0x40070000, 0, 0, by decide⟩,
   ⟨State.reset, 0x203FFFFF, 0, by decide⟩,
   ⟨.core .mc, 0x203FFFFF, 0, by decide⟩,
   ⟨.core .mc, 0x60000000, 0, by decide⟩⟩

theorem witness_SupplyCommandsComplete :
    (∃ (s : State), s.on R.PWR_STAT_PF_WARN = false ∧ s.fld R.SEC_BOOT_STAGE ≠ 2) ∧
    (∃ (s : State), s.on R.PWR_STAT_PF_WARN = false ∧ s.fld R.SEC_BOOT_STAGE = 2) ∧
    (∃ (s : State), s.on R.PWR_STAT_ON_HOLDUP = false) ∧
    (∃ (s : State), s.rcd.step4 = true ∧ s.on R.PWR_STAT_ON_HOLDUP = false ∧ (s.flushStep4 (s.fld R.REC_STAT_BACKLOG)).rcd.clearWait = none) ∧
    (∃ (s : State) (c : Fin 4096), s.on R.PWR_HOLDUP_CHARGED = true ∧ 150 ≤ c.val) ∧
    (∃ (s : State) (c : Fin 4096), s.on R.PWR_HOLDUP_CHARGED = true ∧ c.val < 150) ∧
    (∃ (s : State), s.on R.PWR_STAT_BACKUP_OK = false) ∧
    (∃ (v : Fin 1024), v.val < 600) ∧
    (∃ (v : Fin 1024), 600 ≤ v.val) ∧
    (∃ (s : State), 660 ≤ s.fld R.PWR_GATE_AVG) ∧
    (∃ (s : State) (k : Fin 4), bitAt (s.fld R.PWR_SENS_STAT_ON) k = true) :=
  ⟨⟨State.reset, by decide⟩,
   ⟨st [(R.SEC_BOOT_STAGE, 2)], by decide⟩,
   ⟨State.reset, by decide⟩,
   ⟨State.reset.updRec fun r => { r with step4 := true }, by decide⟩,
   ⟨st [(R.PWR_HOLDUP_CHARGED, 1)], 150, by decide⟩,
   ⟨st [(R.PWR_HOLDUP_CHARGED, 1)], 0, by decide⟩,
   ⟨State.reset, by decide⟩,
   ⟨0, by decide⟩,
   ⟨600, by decide⟩,
   ⟨st [(R.PWR_GATE_AVG, 660)], by decide⟩,
   ⟨st [(R.PWR_SENS_STAT_ON, 1)], 0, by decide⟩⟩

theorem witness_ConnectorCommandsComplete :
    (∃ (s : State), s.on R.PWR_STAT_X2_PRESENT = false) ∧
    (∃ (s : State), s.on R.PWR_STAT_X1_PRESENT = true ∧ s.fld R.PWR_DETACH_STAT_STATE = 0) ∧
    (∃ (s : State), s.on R.PWR_STAT_X2_PRESENT = true) ∧
    (∃ (s : State) (m : Master), s.opens m .pwr 0 = true ∧ s.fld R.PWR_DETACH_STAT_STATE = 0 ∧ s.anyArmed = false ∧ s.on R.PWR_STAT_X2_PRESENT = true) ∧
    (∃ (s : State), s.fld R.PWR_DETACH_STAT_STATE = 1) ∧
    (∃ (s : State) (m : Master), s.opens m .pwr 0 = true ∧ s.fld R.PWR_DETACH_STAT_STATE = 2) ∧
    (∃ (s : State), s.fld R.PWR_DETACH_STAT_STATE = 2) :=
  ⟨⟨State.reset, by decide⟩,
   ⟨st [(R.PWR_STAT_X1_PRESENT, 1)], by decide⟩,
   ⟨st [(R.PWR_STAT_X2_PRESENT, 1)], by decide⟩,
   ⟨st [(R.PWR_STAT_X2_PRESENT, 1)], .core .mc, by decide⟩,
   ⟨st [(R.PWR_DETACH_STAT_STATE, 1)], by decide⟩,
   ⟨st [(R.PWR_DETACH_STAT_STATE, 2)], .core .mc, by decide⟩,
   ⟨st [(R.PWR_DETACH_STAT_STATE, 2)], by decide⟩⟩

theorem witness_SensingCommandsComplete :
    (∃ (s : State), s.shed = false) ∧
    (∃ (s : State) (g : Fin 16), 8191 ≤ (s.winSrc g).n) ∧
    (∃ (s : State) (g : Fin 16) (t : _) (w : _), s.deliverWindow g = (t, some w)) ∧
    (∃ (s : State) (g : Fin 16) (t : _), s.deliverWindow g = (t, none)) ∧
    (∃ (s : State) (m : Master) (r : Fin 4), s.opens m .fad 0 = true ∧ r.val ≠ 3 ∧ s.anyArmed = false) ∧
    (∃ (s : State) (v : Fin 65536), s.on R.FAD_REF_REF_RDY = false ∧ s.refInside v = true) ∧
    (∃ (s : State) (v : Fin 65536), s.on R.FAD_REF_REF_RDY = true ∧ s.refInside v = false) ∧
    (∃ (s : State) (m : Master), s.isAgent m .fad 0 = true) ∧
    (∃ (s : State) (m : Master), s.opens m .faq 0 = true) ∧
    (∃ (s : State) (w0 : Word) (w1 : Word) (rest : _), s.sens.waits = (w0, w1) :: rest ∧ s.on R.FAQ_CTL_DMA_EN = true ∧ inSram (s.faqSlot (s.fld R.FAQ_DMA_WR_INDEX)) = true ∧ inSram (s.faqSlot (s.fld R.FAQ_DMA_WR_INDEX) + 7) = true ∧ sramWriter s.faqDma (s.faqSlot (s.fld R.FAQ_DMA_WR_INDEX)) = true ∧ bitAt (s.le (s.faqSlot (s.fld R.FAQ_DMA_WR_INDEX)) 4) 31 = true) ∧
    (∃ (s : State) (w0 : Word) (w1 : Word) (rest : _), s.sens.waits = (w0, w1) :: rest ∧ s.on R.FAQ_CTL_DMA_EN = true ∧ inSram (s.faqSlot (s.fld R.FAQ_DMA_WR_INDEX)) = true ∧ inSram (s.faqSlot (s.fld R.FAQ_DMA_WR_INDEX) + 7) = true ∧ sramWriter s.faqDma (s.faqSlot (s.fld R.FAQ_DMA_WR_INDEX)) = true ∧ bitAt (s.le (s.faqSlot (s.fld R.FAQ_DMA_WR_INDEX)) 4) 31 = false ∧ s.on R.FAQ_STAT_ON_DMA = true) ∧
    (∃ (s : State), s.on R.HKA_STAT_BUSY = false ∧ s.shed = false) ∧
    (∃ (s : State), s.on R.HKA_STAT_BUSY = true ∧ s.shed = false ∧ s.cpSettle.sens.hkSlot < 14) ∧
    (∃ (s : State), s.on R.HKA_STAT_BUSY = true ∧ s.shed = false) :=
  ⟨⟨State.reset, by decide⟩,
   ⟨State.reset.updSrc 0 fun w => { w with n := 8191 }, 0, by decide⟩,
   ⟨State.reset.updSrc 0 fun w => { w with closed := [⟨[], 0, false⟩] }, 0, _, _, by rfl⟩,
   ⟨State.reset, 0, _, by rfl⟩,
   ⟨st [(hdr .fad 0 0x0C 0 1, 1)], .core .mc, 0, by decide⟩,
   ⟨State.reset, 25000, by decide⟩,
   ⟨st [(R.FAD_REF_REF_RDY, 1)], 0, by decide⟩,
   ⟨st [(hdr .fad 0 0x08 3 2, 2)], .core .mc, by decide⟩,
   ⟨st [(hdr .faq 0 0x0C 0 1, 1)], .core .mc, by decide⟩,
   ⟨((st [(R.FAQ_CTL_DMA_EN, 1), (R.FAQ_DMA_BASE_ADDR, 0x20100000), (hdr .faq 0 0x08 3 2, 1)]).updSens fun x => { x with waits := [(0, 0)] }).setByte 0x20100003 0x80, 0, 0, [], by decide⟩,
   ⟨(st [(R.FAQ_CTL_DMA_EN, 1), (R.FAQ_STAT_ON_DMA, 1), (R.FAQ_DMA_BASE_ADDR, 0x20100000), (hdr .faq 0 0x08 3 2, 1)]).updSens fun x => { x with waits := [(0, 0)] }, 0, 0, [], by decide⟩,
   ⟨State.reset, by decide⟩,
   ⟨st [(R.HKA_STAT_BUSY, 1)], by decide⟩,
   ⟨st [(R.HKA_STAT_BUSY, 1)], by decide⟩⟩

theorem witness_MonitorCommandsComplete :
    (∃ (s : State) (k : Fin 32) (hi : _) (ch : Fin 32) (x : _), s.monLooks k hi ch x = some true ∧ s.monState k hi < 2) ∧
    (∃ (s : State) (k : Fin 32) (hi : _) (ch : Fin 32) (x : _), s.monLooks k hi ch x = some false ∧ s.monState k hi = 1) ∧
    (∃ (s : State) (k : Fin 32) (hi : _) (ch : Fin 32) (x : _), s.monLooks k hi ch x = some true ∧ (s.mon k).failed = false ∧ s.monState k hi = 2) ∧
    (∃ (s : State) (k : Fin 32) (hi : _) (ch : Fin 32) (x : _), s.monLooks k hi ch x = some false ∧ (s.mon k).failed = false ∧ s.monState k hi = 2) ∧
    (∃ (s : State) (k : Fin 32), (s.mon k).check = 2) :=
  ⟨⟨st [(R.WMA_CFG_EN 0, 1), (R.WMA_CFG_HI_EN 0, 1), (R.WMA_STAT_HI_STATE 0, 1)], 0, true, 0, 1000000000, by decide⟩,
   ⟨st [(R.WMA_CFG_EN 0, 1), (R.WMA_CFG_HI_EN 0, 1), (R.WMA_STAT_HI_STATE 0, 1)], 0, true, 0, -1000000000, by decide⟩,
   ⟨st [(R.WMA_CFG_EN 0, 1), (R.WMA_CFG_HI_EN 0, 1), (R.WMA_STAT_HI_STATE 0, 2)], 0, true, 0, 1000000000, by decide⟩,
   ⟨st [(R.WMA_CFG_EN 0, 1), (R.WMA_CFG_HI_EN 0, 1), (R.WMA_STAT_HI_STATE 0, 2)], 0, true, 0, -1000000000, by decide⟩,
   ⟨State.reset.updMon 0 fun x => { x with check := 2 }, 0, by decide⟩⟩

theorem witness_PwmCommandsComplete :
    (∃ (s : State) (g : Fin 12), s.on (R.PG_STAT_CAR_RUN g) = true) ∧
    (∃ (s : State) (g : Fin 12), s.on (R.PG_STAT_CAR_RUN g) = true ∧ (s.wmode g = 2 ∨ s.wmode g = 3)) ∧
    (∃ (s : State) (m : Master) (g : Fin 12), s.opens m .pg g = true) ∧
    (∃ (s : State) (g : Fin 12), s.gstate g = 1 ∧ (s.grp g).precharging = true) ∧
    (∃ (s : State) (g : Fin 12), s.gstate g = 1 ∧ (s.grp g).charged = true ∧ s.atPeriodStart g = true) ∧
    (∃ (s : State) (g : Fin 12) (p : _), s.gstate g = 1 ∧ ((s.armConds g).find? fun p => !p.2) = some p) ∧
    (∃ (s : State) (m : Master) (g : Fin 12), s.opens m .pg g = true ∧ s.gstate g = 2) ∧
    (∃ (s : State) (m : Master) (g : Fin 12), s.opens m .pg g = true ∧ s.gstate g = 1) ∧
    (∃ (s : State) (m : Master) (g : Fin 12), s.opens m .pg g = true ∧ s.gstate g = 0) ∧
    (∃ (s : State) (m : Master) (g : Fin 12), s.opens m .pg g = true ∧ s.gstate g = 3) ∧
    (∃ (s : State) (g : Fin 12), s.gstate g = 2 ∧ (s.grp g).disarmPend = true ∧ s.atPeriodStart g = true) :=
  ⟨⟨st [(R.PG_STAT_CAR_RUN 0, 1)], 0, by decide⟩,
   ⟨(st [(R.PG_STAT_CAR_RUN 0, 1)]).wrLive (R.PG_CAR 0) 0x10, 0, by decide⟩,
   ⟨st [(hdr .pg 0 0x0C 0 1, 1)], .core .mc, 0, by decide⟩,
   ⟨(st [(R.PG_STAT_STATE 0, 1)]).updGrp 0 fun r => { r with precharging := true }, 0, by decide⟩,
   ⟨(st [(R.PG_STAT_STATE 0, 1)]).updGrp 0 fun r => { r with charged := true, start := some 0 }, 0, by decide⟩,
   ⟨st [(R.PG_STAT_STATE 0, 1)], 0, (2, false), by decide⟩,
   ⟨st [(R.PG_STAT_STATE 0, 2), (hdr .pg 0 0x0C 0 1, 1)], .core .mc, 0, by decide⟩,
   ⟨st [(R.PG_STAT_STATE 0, 1), (hdr .pg 0 0x0C 0 1, 1)], .core .mc, 0, by decide⟩,
   ⟨st [(hdr .pg 0 0x0C 0 1, 1)], .core .mc, 0, by decide⟩,
   ⟨st [(R.PG_STAT_STATE 0, 3), (hdr .pg 0 0x0C 0 1, 1)], .core .mc, 0, by decide⟩,
   ⟨(st [(R.PG_STAT_STATE 0, 2)]).updGrp 0 fun r => { r with disarmPend := true, start := some 0 }, 0, by decide⟩⟩

theorem witness_LinkCommandsComplete :
    (∃ (s : State) (k : Fin 15), (s.link k).seq < 4) ∧
    (∃ (s : State) (k : Fin 15) (noise : _) (f : _), f = noisy noise (s.downFrame k 0 (wordBytes (s.now % 2 ^ 16) ++ [BitVec.ofNat 8 ((linkLegs k).foldl (fun m l => m + b2n (s.legLevel l) * 2 ^ legIdx l) 0 * 16 + s.fld (R.NL_CTL_FALLBACK k))])) ∧ (f.getLastD 0).toNat ≠ crc8 f.dropLast ∧ (f.getD 0 0).toNat % 2 ^ 5 / 2 ^ 2 ≠ 1) ∧
    (∃ (s : State) (k : Fin 15) (n : Fin 5) (i : _) (lv : _) (t0 : _) (rest : _), (s.nextEdges k).take n = .edge i lv t0 :: rest) ∧
    (∃ (s : State) (k : Fin 15) (t : _) (codes : _) (rest : _), (s.link k).seq < 4 ∧ codes < 256 ∧ ((s.link k).queue.filter (· ≠ .cfg)) = .safe t codes :: rest) ∧
    (∃ (s : State) (k : Fin 15), (s.link k).queue.contains .cfg = true) ∧
    (∃ (s : State) (k : Fin 15), s.fld (R.NL_STAT_STATE k) = 2) ∧
    (∃ (s : State) (k : Fin 15), (s.link k).fallback = false) ∧
    (∃ (s : State) (k : Fin 15), s.fld (R.NL_STAT_STATE k) = 2) ∧
    (∃ (s : State) (k : Fin 15), s.on (R.NL_CTL_EN k) = true ∧ s.fld (R.NL_STAT_STATE k) ≠ 2 ∧ s.fld (R.NL_STAT_STATE k) ≠ 4) ∧
    (∃ (s : State) (k : Fin 15), s.fld (R.NL_STAT_STATE k) = 2) ∧
    (∃ (s : State) (m : Master) (k : Fin 15), s.opens m .pg 0 = true ∧ s.dieActive k = false) ∧
    (∃ (s : State) (k : Fin 15), s.fld (R.NL_STAT_STATE k) = 2) :=
  ⟨⟨State.reset, 0, by decide⟩,
   ⟨State.reset, 0, [0, 1], _, by exact ⟨rfl, by decide, by decide⟩⟩,
   ⟨State.reset.updLink 0 fun r => { r with queue := [.edge 0 true 0] }, 0, 1, 0, true, 0, [], by decide⟩,
   ⟨State.reset.updLink 0 fun r => { r with queue := [.safe 0 0] }, 0, 0, 0, [], by decide⟩,
   ⟨State.reset.updLink 0 fun r => { r with queue := [.cfg] }, 0, by decide⟩,
   ⟨st [(R.NL_STAT_STATE 0, 2)], 0, by decide⟩,
   ⟨State.reset, 0, by decide⟩,
   ⟨st [(R.NL_STAT_STATE 0, 2)], 0, by decide⟩,
   ⟨st [(R.NL_CTL_EN 0, 1)], 0, by decide⟩,
   ⟨st [(R.NL_STAT_STATE 0, 2)], 0, by decide⟩,
   ⟨st [(hdr .pg 0 0x0C 0 1, 1)], .core .mc, 0, by decide⟩,
   ⟨st [(R.NL_STAT_STATE 0, 2)], 0, by decide⟩⟩

theorem witness_DieCommandsComplete :
    (∃ (s : State) (c : Fin 48), s.on (ghd R.GHD_DSAT_DSAT_EN c) = true ∧ s.on (chanOnFld c) = true) ∧
    (∃ (s : State) (c : Fin 48), s.on (ghd R.GHD_STAT_TWO_STEP c) = true) ∧
    (∃ (s : State) (c : Fin 48), s.on (ghd R.GHD_STAT_PUV c) = false ∧ s.on (ghd R.GHD_STAT_NUV c) = false) ∧
    (∃ (s : State) (c : Chan), isHv (chanNo c) = false ∧ s.on (R.GLD_SUP_VDD_UV ((chanNo c - 64) / 8)) = false) ∧
    (∃ (s : State) (c : Fin 48), s.on (ghd R.GHD_CLP_CLAMP_EN c) = true ∧ s.on (chanOnFld c) = false) ∧
    (∃ (v : Fin 256), v.val < 200) ∧
    (∃ (s : State) (c : Fin 48), 220 ≤ s.fld (ghd R.GHD_PWR_AVG c)) ∧
    (∃ (s : State) (m : Master) (c : Chan), isHv (chanNo c) = true ∧ (s.mayWrite m .ghd (chanNo c / 4) || s.isAgent m .ghd (chanNo c / 4)) = true ∧ s.on (hdr .ghd (chanNo c / 4) 0x08 0 1) = false ∧ s.remoteDown .ghd (chanNo c / 4) = false ∧ s.legActive (chanLeg (chanNo c)) = false) ∧
    (∃ (v : Fin 256), 75 ≤ v.val) ∧
    (∃ (s : State) (l : Fin 12), s.on (gld R.GLD_LEG_STAT_REFRESHING (0x20 + l.val)) = true) ∧
    (∃ (s : State) (l : Fin 12), s.on (gld R.GLD_LEG_CFG_REF_EN (0x20 + l.val)) = true ∧ (s.leg (0x20 + l.val)).configured = true ∧ (s.leg (0x20 + l.val)).use = 0 ∧ s.legCode (0x20 + l.val) = 3 ∧ (s.leg (0x20 + l.val)).level = true ∧ s.on (gld R.GLD_LEG_STAT_REFRESHING (0x20 + l.val)) = false) ∧
    (∃ (s : State) (l : PowerLeg), (s.leg (legNo l)).incoming = 2 ∧ s.chanOff (legLow (legNo l)) = true) ∧
    (∃ (s : State), s.on R.SAF_CHOP_EN = true ∧ s.slotLevel 7 0 = true ∧ s.monState (s.fld R.SAF_CHOP_MON) true ≠ 1) ∧
    (∃ (s : State), s.on R.SAF_CHOP_EN = true ∧ s.slotLevel 7 0 = false ∧ s.monState (s.fld R.SAF_CHOP_MON) true = 1) ∧
    (∃ (s : State) (g : Fin 12), s.gstate g = 3 ∧ (s.fld (R.PG_STAT_SAFE_KIND g) = 2 ∨ s.fld (R.PG_STAT_SAFE_KIND g) = 3) ∧ s.on (R.SAF_GRP_TRAC g) = true ∧ (s.on (R.POS_STAT_SENSOR_FAULT (s.fld (R.SAF_GRP_POS g))) = false ∨ s.on (R.POS_STAT_FROZEN (s.fld (R.SAF_GRP_POS g))) = true) ∧ f32AbsGe (s.rd (R.POS_RPM (s.fld (R.SAF_GRP_POS g)))) (s.fld (R.SAF_GRP_N_CROSS g) * 19) 20 = false) :=
  ⟨⟨st [(ghd R.GHD_DSAT_DSAT_EN 0, 1), (chanOnFld 0, 1)], 0, by decide⟩,
   ⟨st [(ghd R.GHD_STAT_TWO_STEP 0, 1)], 0, by decide⟩,
   ⟨State.reset, 0, by decide⟩,
   ⟨State.reset, .gl 0, by decide⟩,
   ⟨st [(ghd R.GHD_CLP_CLAMP_EN 0, 1)], 0, by decide⟩,
   ⟨0, by decide⟩,
   ⟨st [(ghd R.GHD_PWR_AVG 0, 220)], 0, by decide⟩,
   ⟨st [(hdr .ghd 0 0x0C 0 1, 1), (R.NL_STAT_STATE 0, 2)], .core .mc, .gh 0, by decide⟩,
   ⟨75, by decide⟩,
   ⟨st [((gld R.GLD_LEG_STAT_REFRESHING (0x20 + 0)), 1)], 0, by decide⟩,
   ⟨(st [((gld R.GLD_LEG_CFG_REF_EN (0x20 + 0)), 1)]).updLeg 0x20 fun r => { r with configured := true, use := 0, code := 3, level := true }, 0, by decide⟩,
   ⟨State.reset.updLeg 0 fun r => { r with incoming := 2 }, .hl 0, by decide⟩,
   ⟨st [(R.SAF_CHOP_EN, 1), (R.PG_LVL_LEVEL 7, 1)], by decide⟩,
   ⟨st [(R.SAF_CHOP_EN, 1), (R.WMA_STAT_HI_STATE 0, 1), (R.SAF_CHOP_MON, 0)], by decide⟩,
   ⟨st [(R.PG_STAT_STATE 0, 3), (R.PG_STAT_SAFE_KIND 0, 2), (R.PG_STAT_SAFE_KIND 0, 3), (R.SAF_GRP_TRAC 0, 1)], 0, by decide⟩⟩

theorem witness_PositionCommandsComplete :
    (∃ (s : State) (p : Fin 4) (l : List (Fin 8)) (new : _), new = s.filtered p (l.map Fin.val) ∧ s.posMode p = 2 ∧ (bitAt new 2 && !bitAt (s.posRec p).lines 2) = false ∧ (s.abStep p new + 4 - s.abStep p (s.posRec p).lines) % 4 = 1) ∧
    (∃ (s : State) (p : Fin 4) (l : List (Fin 8)) (new : _), new = s.filtered p (l.map Fin.val) ∧ s.posMode p = 2 ∧ (bitAt new 2 && !bitAt (s.posRec p).lines 2) = false ∧ (s.abStep p new + 4 - s.abStep p (s.posRec p).lines) % 4 = 3) ∧
    (∃ (s : State) (p : Fin 4) (l : List (Fin 8)) (new : _), new = s.filtered p (l.map Fin.val) ∧ s.posMode p = 2 ∧ (bitAt new 2 && !bitAt (s.posRec p).lines 2) = false ∧ (s.abStep p new + 4 - s.abStep p (s.posRec p).lines) % 4 = 2) ∧
    (∃ (s : State) (p : Fin 4) (l : List (Fin 8)) (new : _), new = s.filtered p (l.map Fin.val) ∧ s.posMode p = 3 ∧ new ≠ (s.posRec p).lines ∧ s.hallSector p new = 6) ∧
    (∃ (s : State) (p : Fin 4) (l : List (Fin 8)) (new : _) (t : _), new = s.filtered p (l.map Fin.val) ∧ s.posMode p = 2 ∧ s.abStep p new = s.abStep p (s.posRec p).lines ∧ bitAt new 2 = true ∧ bitAt (s.posRec p).lines 2 = false ∧ s.on (R.POS_QEI_Z_EN p) = true ∧ s.on (R.POS_STAT_HOMED p) = false ∧ t = ((((s.updPos p fun r => { r with lines := new }).addCount p (-s.indexErr p)).setFld (R.POS_STAT_HOMED p) 1).evt .pos p E.POS_HOMED).post 0x0070 (locPos p) p) ∧
    (∃ (s : State) (p : Fin 4) (l : List (Fin 8)) (new : _), new = s.filtered p (l.map Fin.val) ∧ s.posMode p = 3 ∧ new ≠ (s.posRec p).lines ∧ (s.posRec p).sector < 6 ∧ s.hallSector p new = ((s.posRec p).sector + 1) % 6) ∧
    (∃ (s : State) (p : Fin 4) (n : _) (l : _) (sn : _) (cs : _), s.posMode p = 1 ∧ n = s.fld (R.POS_RSLV0_EXC_DIV p) ∧ l = (s.posRec p).smp.take n ∧ n ≤ l.length ∧ State.demod (s.fld (R.POS_RSLV1_PHASE p)) n l = (sn, cs) ∧ ¬(sn = 0 ∧ cs = 0)) ∧
    (∃ (s : State) (p : Fin 4) (l : List (Nat × Bool)), s.posMode p = 4 ∧ (s.posRec p).busy = true ∧ s.serialStart p l = none) ∧
    (∃ (s : State) (p : Fin 4) (l : List (Nat × Bool)) (k : _), s.posMode p = 4 ∧ (s.posRec p).busy = true ∧ s.serialStart p l = some k) ∧
    (∃ (s : State) (p : Fin 4), s.posMode p = 4 ∧ (s.posRec p).busy = true) ∧
    (∃ (s : State) (p : Fin 4), (s.posMode p = 2 ∨ s.posMode p = 3) ∧ s.on (R.POS_STAT_STILL p) = false ∧ (s.posRec p).lastAt + 400000 * s.fld (R.POS_TIME_STILL_MS p) ≤ s.now) ∧
    (∃ (s : State) (m : Master) (p : Fin 4), s.opens m .pos p = true) ∧
    (∃ (s : State) (p : Fin 4), (s.posMode p = 2 ∨ s.posMode p = 4)) ∧
    (∃ (s : State) (e : Fin 2), s.on (R.EMU_CFG_EN e) = true ∧ s.on (R.EMU_CFG_MODE e) = true ∧ s.emuHeld e = false ∧ s.emuOut e < s.emuTarget e ∧ ((∀ t, (s.emuRec e).last = some t → t + 16 ≤ s.now))) ∧
    (∃ (s : State) (m : Master) (e : Fin 2) (v : _) (t : _) (u : _), s.opens m .emu 0 = true ∧ s.on (R.EMU_CFG_EN e) = false ∧ getBits v 0 1 = 1 ∧ getBits v 1 1 = 1 ∧ t = s.wr (R.EMU_CFG e) (BitVec.ofNat 32 (getBits v 0 6)) ∧ u = t.updEmu e (fun r => { r with count := t.emuTarget e, last := none })) :=
  ⟨⟨st [(R.POS_STAT_MODE 0, 2), (R.POS_CFG_FILT 0, 0)], 0, [1], 1, by decide⟩,
   ⟨st [(R.POS_STAT_MODE 0, 2), (R.POS_CFG_FILT 0, 0)], 0, [2], 2, by decide⟩,
   ⟨st [(R.POS_STAT_MODE 0, 2), (R.POS_CFG_FILT 0, 0)], 0, [3], 3, by decide⟩,
   ⟨(st [(R.POS_STAT_MODE 0, 3), (R.POS_CFG_FILT 0, 0)]).updPos 0 fun r => { r with sector := 0 }, 0, [7], 7, by decide⟩,
   ⟨st [(R.POS_STAT_MODE 0, 2), (R.POS_QEI_Z_EN 0, 1), (R.POS_CFG_FILT 0, 0)], 0, [4], 4, _, by exact ⟨rfl, by decide, by decide, by decide, by decide, by decide, by decide, rfl⟩⟩,
   ⟨((st [(R.POS_STAT_MODE 0, 3), (R.POS_CFG_FILT 0, 0)]).wr (R.POS_HALL 0) 0x8).updPos 0 fun r => { r with sector := 0 }, 0, [2], 2, by decide⟩,
   ⟨(st [(R.POS_STAT_MODE 0, 1), (R.POS_RSLV0_EXC_DIV 0, 4)]).updPos 0 fun r => { r with smp := [(0, 1, 1), (0, 2, 2), (0, 3, 3), (0, 5, 5)] }, 0, 4, [(0, 1, 1), (0, 2, 2), (0, 3, 3), (0, 5, 5)], _, _, by exact ⟨by decide, by decide, rfl, by decide, rfl, by decide⟩⟩,
   ⟨(st [(R.POS_STAT_MODE 0, 4)]).updPos 0 fun r => { r with busy := true }, 0, [], by decide⟩,
   ⟨(st [(R.POS_STAT_MODE 0, 4)]).updPos 0 fun r => { r with busy := true }, 0, [(0, true)], 0, by decide⟩,
   ⟨(st [(R.POS_STAT_MODE 0, 4)]).updPos 0 fun r => { r with busy := true }, 0, by decide⟩,
   ⟨{ st [(R.POS_STAT_MODE 0, 2)] with now := 10000000000 }, 0, by decide⟩,
   ⟨st [(hdr .pos 0 0x0C 0 1, 1)], .core .mc, 0, by decide⟩,
   ⟨st [(R.POS_STAT_MODE 0, 2)], 0, by decide⟩,
   ⟨st [(R.EMU_CFG_EN 0, 1), (R.EMU_CFG_MODE 0, 1), (R.POS_COUNT_COUNT 0, 1), (R.EMU_RATIO_N 0, 1), (R.EMU_RATIO_D 0, 1)], 0, by decide⟩,
   ⟨st [(hdr .emu 0 0x0C 0 1, 1)], .core .mc, 0, 3, _, _, by exact ⟨by decide, by decide, by decide, by decide, rfl, rfl⟩⟩⟩

theorem witness_TractionCommandsComplete :
    (∃ (s : State) (n : Fin 2), ((s.tracRec n).decl = 1 ∨ (s.tracRec n).decl = 2)) ∧
    (∃ (s : State) (n : Fin 2), (s.tracRec n).decl = 3) ∧
    (∃ (s : State) (n : Fin 2), s.fld (R.TRC_STAT_STATE n) ≠ 0 ∧ s.on (R.TRC_CFG_DROP_SPD n) = true ∧ s.on (R.TRC_STAT_DROP_SHORT n) = false ∧ s.trcFast n = true) ∧
    (∃ (s : State) (n : Fin 2), s.fld (R.TRC_STAT_STATE n) = 1 ∧ (s.fld (R.TRC_DEG_DEGRADE_MAX n) - s.fld (R.TRC_DEG_DEG_WARN n)) * 1000 ≤ s.fld (R.TRC_DEG_TIME_ELAPSED_MS n)) ∧
    (∃ (s : State) (n : Fin 2), s.fld (R.TRC_STAT_STATE n) = 1 ∧ s.fld (R.TRC_DEG_DEGRADE_MAX n) * 1000 ≤ s.fld (R.TRC_DEG_TIME_ELAPSED_MS n)) ∧
    (∃ (s : State) (m : Master) (n : Fin 2), s.opens m .trc n = true ∧ s.gstate (s.fld (R.TRC_CFG_GRP n)) = 0) ∧
    (∃ (s : State) (n : Fin 2), s.fld (R.TRC_KE_STAT_VERDICT n) = 0 ∧ 0 < s.fld (R.TRC_KE_STAT_ID_N n) ∧ s.fld (R.TRC_KE_TOL_N_ID n) ≤ s.fld (R.TRC_KE_STAT_ID_N n)) ∧
    (∃ (s : State) (m : Master) (n : Fin 2), s.opens m .trc n = true) :=
  ⟨⟨State.reset.updTrac 0 fun r => { r with decl := 1 }, 0, by decide⟩,
   ⟨State.reset.updTrac 0 fun r => { r with decl := 3 }, 0, by decide⟩,
   ⟨st [(R.TRC_STAT_STATE 0, 1), (R.TRC_CFG_DROP_SPD 0, 1), (R.POS_STAT_SENSOR_FAULT 0, 1)], 0, by decide⟩,
   ⟨(st [(R.TRC_STAT_STATE 0, 1)]).wr (R.TRC_DEG_TIME 0) 0xFFFFFFFF, 0, by decide⟩,
   ⟨(st [(R.TRC_STAT_STATE 0, 1)]).wr (R.TRC_DEG_TIME 0) 0xFFFFFFFF, 0, by decide⟩,
   ⟨st [(hdr .trc 0 0x0C 0 1, 1)], .core .mc, 0, by decide⟩,
   ⟨st [(R.TRC_KE_STAT_ID_N 0, 1), (R.TRC_KE_TOL_N_ID 0, 1)], 0, by decide⟩,
   ⟨st [(hdr .trc 0 0x0C 0 1, 1)], .core .mc, 0, by decide⟩⟩

theorem witness_ChargerCommandsComplete :
    (∃ (s : State) (m : Master) (v : _), s.opens m .chg 0 = true ∧ getBits v 8 8 ≤ 159 ∧ (s.fld R.CHG_STAT_SESS = 0 ∨ s.fld R.CHG_STAT_SESS = 6) ∧ ((bitAt v.toNat 0 = true → s.chgChansOk = true ∧ s.fld R.SEC_BOOT_STAGE = 2))) ∧
    (∃ (s : State), s.conv.chg.rise = none) ∧
    (∃ (s : State) (r : _) (u : _), s.conv.chg.rise = some r ∧ u = State.updChg (s.cpSettle.updChg fun c => { c with cap := none, widths := (c.widths.1, s.cpSettle.cpLevel.elim 0 fun e => s.now - e.2) }) (fun c => { c with rise := some s.now })) ∧
    (∃ (s : State), s.on R.CHG_STAT_CP_OSC = true) ∧
    (∃ (s : State), s.on R.CHG_STAT_CP_OSC = false) ∧
    (∃ (s : State), s.on R.CHG_STAT_CP_OSC = false) ∧
    (∃ (s : State) (h : _) (t : _), s.on R.CHG_STAT_CP_OSC = true ∧ s.cpLevel = some (h, t) ∧ t + max 2000 ((if h then s.conv.chg.widths.1 else s.conv.chg.widths.2) / 2) ≤ s.now) ∧
    (∃ (s : State), 3 ≤ s.conv.chg.cpRun ∧ s.conv.chg.cpCand ≠ s.fld R.CHG_STAT_CP_STATE ∧ s.conv.chg.dioRun < 3) ∧
    (∃ (s : State), 3 ≤ s.conv.chg.ppRun ∧ s.conv.chg.ppCand ≠ s.fld R.CHG_STAT_RATING) ∧
    (∃ (s : State) (t : Fin 4) (r : _), s.on R.CHG_CFG_EN = true ∧ s.timerReason t = some r) ∧
    (∃ (s : State), s.gridGood = true) ∧
    (∃ (s : State) (k : Fin 3), s.sessLive = true ∧ s.fld R.CHG_PROT0_VHI < s.fld (R.CHG_VRMS_VRMS k)) ∧
    (∃ (s : State) (k : Fin 3), s.sessLive = true ∧ s.fld (R.CHG_VRMS_VRMS k) < s.fld R.CHG_PROT0_VLO) ∧
    (∃ (s : State), s.sessLive = true ∧ s.fld R.CHG_FREQ_FREQ < s.fld R.CHG_PROT1_FLO) ∧
    (∃ (s : State), s.sessLive = true ∧ s.fld R.CHG_PROT1_FHI < s.fld R.CHG_FREQ_FREQ) ∧
    (∃ (s : State), s.sessLive = true ∧ Q.le (Q.ofWord (s.rd R.CHG_PWR)) ⟨105 * (s.fld R.CHG_PROT3_P_IMP_MAX : Int), 10⟩ = false) ∧
    (∃ (s : State) (g : Fin 2), s.on R.CHG_CFG_DRIVE_INTLK = true ∧ s.on R.CHG_STAT_RATING = true ∧ s.armed g = true) ∧
    (∃ (s : State) (r : _), s.shed = false ∧ s.on R.CHG_CFG_EN = true ∧ s.cableOk = true ∧ 3 ≤ s.fld R.CHG_STAT_SESS ∧ s.fld R.CHG_STAT_SESS ≤ 5 ∧ s.conv.chg.trip = some r) :=
  ⟨⟨st [(R.CHG_STAT_SESS, 6), (R.SEC_BOOT_STAGE, 2), (hdr .chg 0 0x0C 0 1, 1)], .core .mc, 0, by decide⟩,
   ⟨State.reset, by decide⟩,
   ⟨State.reset.updChg fun c => { c with rise := some 0 }, 0, _, by exact ⟨rfl, rfl⟩⟩,
   ⟨st [(R.CHG_STAT_CP_OSC, 1)], by decide⟩,
   ⟨State.reset, by decide⟩,
   ⟨State.reset, by decide⟩,
   ⟨{ st [(R.CHG_STAT_CP_OSC, 1)] with now := 4000, conv := { chg := { rise := some 0 } } }, true, 0, by decide⟩,
   ⟨State.reset.updChg fun c => { c with cpRun := 3, cpCand := 1 }, by decide⟩,
   ⟨State.reset.updChg fun c => { c with ppRun := 3, ppCand := 1 }, by decide⟩,
   ⟨st [(R.CHG_CFG_EN, 1), (R.CHG_STAT_SESS, 1)], 0, 1, by decide⟩,
   ⟨(st [(R.CHG_PROT0_VLO, 0), (R.CHG_PROT1_FLO, 0)]).updChg fun c => { c with cross := [⟨8000000, 1⟩, ⟨0, 1⟩] }, by decide⟩,
   ⟨st [(R.CHG_CFG_EN, 1), (R.CHG_STAT_SESS, 5), (R.CHG_VRMS_VRMS 0, 0xFFFF)], 0, by decide⟩,
   ⟨st [(R.CHG_CFG_EN, 1), (R.CHG_STAT_SESS, 3)], 0, by decide⟩,
   ⟨st [(R.CHG_CFG_EN, 1), (R.CHG_STAT_SESS, 3)], by decide⟩,
   ⟨st [(R.CHG_CFG_EN, 1), (R.CHG_STAT_SESS, 3), (R.CHG_FREQ_FREQ, 0xFFFF)], by decide⟩,
   ⟨(st [(R.CHG_CFG_EN, 1), (R.CHG_STAT_SESS, 3)]).wr R.CHG_PWR 0x4F000000, by decide⟩,
   ⟨st [(R.CHG_CFG_DRIVE_INTLK, 1), (R.CHG_STAT_RATING, 1), (R.PG_STAT_STATE 0, 2)], 0, by decide⟩,
   ⟨(st [(R.CHG_CFG_EN, 1), (R.CHG_STAT_SESS, 3), (R.CHG_STAT_RATING, 1), (R.CHG_STAT_SESS, 3)]).updChg fun c => { c with trip := some 1 }, 1, by decide⟩⟩

theorem witness_AuxiliaryCommandsComplete :
    (∃ (s : State) (m : Master) (v : _), s.opens m .aux 0 = true ∧ getBits v 6 8 ≤ 159 ∧ (s.fld R.AUX_STAT_STATE = 0 ∨ s.fld R.AUX_STAT_STATE = 5) ∧ ((bitAt v.toNat 0 = true → s.auxMonOk (getBits v 1 5) = true ∧ s.auxSlotsOk = true ∧ s.fld R.SEC_BOOT_STAGE = 2))) ∧
    (∃ (s : State), s.fld R.AUX_STAT_STATE = 1 ∧ s.conv.aux.phase = 1) ∧
    (∃ (s : State), s.fld R.AUX_STAT_STATE = 1 ∧ s.conv.aux.phase = 2) ∧
    (∃ (s : State), s.fld R.AUX_STAT_STATE = 1 ∧ s.conv.aux.phase = 3) ∧
    (∃ (s : State), s.fld R.AUX_STAT_STATE = 2 ∧ s.fld R.AUX_SS_N_SS ≤ s.fld R.AUX_STAT_CL_CNT) ∧
    (∃ (s : State), s.fld R.AUX_STAT_STATE = 2) ∧
    (∃ (s : State), s.fld R.AUX_STAT_STATE = 3 ∧ s.conv.aux.lastLimited = true ∧ s.voutAtLeast (s.fld R.AUX_VMON_UV_PCT) = false) ∧
    (∃ (s : State) (r : _), s.shed = false ∧ (s.fld R.AUX_STAT_STATE = 2 ∨ s.fld R.AUX_STAT_STATE = 3) ∧ s.on R.AUX_STAT_RUN_CMD = true ∧ s.gstate 8 = 2 ∧ s.conv.aux.hic = some r ∧ r < 8 ∧ s.fld R.AUX_STAT_HIC_CNT + 1 < s.fld R.AUX_HIC_HIC_MAX) ∧
    (∃ (s : State) (r : _), s.shed = false ∧ (s.fld R.AUX_STAT_STATE = 2 ∨ s.fld R.AUX_STAT_STATE = 3) ∧ s.on R.AUX_STAT_RUN_CMD = true ∧ s.gstate 8 = 2 ∧ s.conv.aux.hic = some r ∧ s.fld R.AUX_HIC_HIC_MAX ≤ s.fld R.AUX_STAT_HIC_CNT + 1) ∧
    (∃ (s : State), s.fld R.AUX_STAT_STATE = 4) ∧
    (∃ (s : State), s.fld R.AUX_STAT_STATE = 3) ∧
    (∃ (s : State) (l : List Byte), s.on R.AUXL_CTL_EN = true ∧ l.length ≠ 8) ∧
    (∃ (s : State) (l : List Byte), s.on R.AUXL_CTL_EN = true ∧ l.length = 8 ∧ l.getD 0 0 = 0xA7 ∧ (l.getD 7 0).toNat ≠ crc8 (l.take 7)) ∧
    (∃ (s : State) (l : List Byte), s.on R.AUXL_CTL_EN = true ∧ l.length = 8 ∧ l.getD 0 0 = 0xA7 ∧ (l.getD 7 0).toNat = crc8 (l.take 7)) ∧
    (∃ (s : State) (m : Master), s.isAgent m .hsp 0 = true) ∧
    (∃ (s : State), s.on R.AUXL_CTL_EN = true ∧ s.on R.AUXL_STAT_TO_FLAG = false) ∧
    (∃ (s : State) (m : Master), s.opens m .hsp 0 = true ∧ s.on R.AUXL_STAT_TX_BUSY = false ∧ s.on R.AUXL_CTL_EN = true ∧ s.ackIdle = false) ∧
    (∃ (s : State), s.on R.AUXL_STAT_TX_BUSY = true) :=
  ⟨⟨st [(R.AUX_STAT_STATE, 5), (R.SEC_BOOT_STAGE, 2), (hdr .aux 0 0x0C 0 1, 1)], .core .mc, 0, by decide⟩,
   ⟨(st [(R.AUX_STAT_STATE, 1)]).updAux fun x => { x with phase := 1 }, by decide⟩,
   ⟨(st [(R.AUX_STAT_STATE, 1)]).updAux fun x => { x with phase := 2 }, by decide⟩,
   ⟨(st [(R.AUX_STAT_STATE, 1)]).updAux fun x => { x with phase := 3 }, by decide⟩,
   ⟨st [(R.AUX_STAT_STATE, 2), (R.AUX_SS_N_SS, 1), (R.AUX_STAT_CL_CNT, 1), (R.AUX_HIC_HIC_MAX, 2)], by decide⟩,
   ⟨st [(R.AUX_STAT_STATE, 2), (R.AUX_HIC_HIC_MAX, 2)], by decide⟩,
   ⟨(st [(R.AUX_STAT_STATE, 3), (R.AUX_VMON_UV_PCT, 50)]).updAux fun x => { x with lastLimited := true, vset := 0x42000000 }, by decide⟩,
   ⟨(st [(R.AUX_STAT_STATE, 2), (R.AUX_STAT_STATE, 3), (R.AUX_STAT_RUN_CMD, 1), (R.PG_STAT_STATE 8, 2), (R.AUX_HIC_HIC_MAX, 2)]).updAux fun x => { x with hic := some 0 }, 0, by decide⟩,
   ⟨(st [(R.AUX_STAT_STATE, 2), (R.AUX_STAT_STATE, 3), (R.AUX_STAT_RUN_CMD, 1), (R.PG_STAT_STATE 8, 2), (R.AUX_HIC_HIC_MAX, 1)]).updAux fun x => { x with hic := some 0 }, 0, by decide⟩,
   ⟨st [(R.AUX_STAT_STATE, 4)], by decide⟩,
   ⟨st [(R.AUX_STAT_STATE, 3)], by decide⟩,
   ⟨st [(R.AUXL_CTL_EN, 1)], [], by decide⟩,
   ⟨st [(R.AUXL_CTL_EN, 1)], [0xA7, 0, 0, 0, 0, 0, 0, 0], by decide⟩,
   ⟨st [(R.AUXL_CTL_EN, 1)], [0xA7, 0, 0, 0, 0, 0, 0, BitVec.ofNat 8 (crc8 [0xA7, 0, 0, 0, 0, 0, 0])], by decide⟩,
   ⟨st [(hdr .hsp 0 0x08 3 2, 2)], .core .mc, by decide⟩,
   ⟨st [(R.AUXL_CTL_EN, 1)], by decide⟩,
   ⟨st [(R.AUXL_CTL_EN, 1), (hdr .hsp 0 0x0C 0 1, 1), (R.AUX_CFG_EN, 1)], .core .mc, by decide⟩,
   ⟨st [(R.AUXL_STAT_TX_BUSY, 1)], by decide⟩⟩

theorem witness_ActuatorCommandsComplete :
    (∃ (s : State) (m : Master) (n : Fin 3) (v : _), s.opens m .act n = true ∧ getBits v 2 4 ≤ 11 ∧ ((bitAt v.toNat 0 = true → s.actSlotsOk (getBits v 2 4) = true)) ∧ s.gactive (s.actGrp n) = false) ∧
    (∃ (s : State) (n : Fin 3) (h : Fin 8), s.on (R.ACT_CFG_SENSE n) = false ∧ s.shed = false ∧ s.actSector n h ≠ 6 ∧ (s.actRec n).sec < 6 ∧ h.val ≠ (s.actRec n).hall ∧ s.actSector n h = ((s.actRec n).sec + 1) % 6) ∧
    (∃ (s : State) (n : Fin 3) (h : Fin 8), s.on (R.ACT_CFG_SENSE n) = false ∧ s.shed = false ∧ s.actSector n h = 6 ∧ h.val ≠ (s.actRec n).hall) ∧
    (∃ (s : State) (n : Fin 3), s.on (R.ACT_CFG_SENSE n) = false ∧ (s.actRec n).sec = 6 ∧ s.actState n ≠ 0 ∧ s.actState n ≠ 8) ∧
    (∃ (s : State) (n : Fin 3), s.on (R.ACT_CFG_EN n) = true ∧ s.on (R.ACT_CFG_SENSE n) = true ∧ s.shed = false) ∧
    (∃ (s : State) (n : Fin 3), s.actState n = 7 ∧ s.on (R.ACT_CFG_SENSE n) = true ∧ s.now - max (s.actRec n).since ((s.actRec n).steps.headD 0) < s.fld (R.ACT_TIME_STALL_MS n) * 400000) ∧
    (∃ (s : State) (n : Fin 3), s.actState n ≠ 4) ∧
    (∃ (s : State) (n : Fin 3), ((s.actRec n).pre = 5 ∨ (s.actRec n).pre = 7)) ∧
    (∃ (s : State) (n : Fin 3), s.actState n = 3 ∧ (s.actRec n).pre = 0) ∧
    (∃ (s : State) (n : Fin 3), s.actState n = 4 ∧ s.on (R.ACT_CFG_SENSE n) = true) ∧
    (∃ (s : State) (n : Fin 3), (s.actState n = 3 ∨ s.actState n = 4) ∧ (s.actRec n).reached = false) ∧
    (∃ (s : State) (n : Fin 3), s.actState n = 5) ∧
    (∃ (s : State) (n : Fin 3), s.actState n = 6) ∧
    (∃ (s : State) (n : Fin 3), s.actState n = 1 ∧ (s.actRec n).retry = true) ∧
    (∃ (s : State) (n : Fin 3), s.actState n = 7) ∧
    (∃ (s : State) (n : Fin 3), s.actState n = 7) ∧
    (∃ (s : State) (n : Fin 3), s.on (R.ACT_CFG_EMF_EN n) = true ∧ s.on (R.ACT_STAT_SPD_VALID n) = true ∧ (s.actState n = 3 ∨ s.actState n = 7) ∧ Q.le ⟨s.fld (R.ACT_MEAS_EMF_PK n), 100⟩ (((s.actEmf n).mul ⟨1, 100⟩).mul ⟨100 + s.fld (R.ACT_EMF_EMF_TOL n), 1⟩) = false) ∧
    (∃ (s : State) (m : Master) (n : Fin 3), s.opens m .act n = true ∧ (s.actState n < 3 ∨ 7 < s.actState n) ∧ s.on (R.ACT_CFG_PARK_EN n) = true) ∧
    (∃ (s : State) (n : Fin 3), s.on (R.ACT_STAT_ENGAGED n) = true ∧ f32AbsGe (s.rd (R.POS_RPM (s.fld (R.ACT_PARK_SPD_PARK_POS n)))) (s.fld (R.ACT_PARK_SPD_SLIP_SPD n)) 1 = true ∧ f32Mag (s.rd (R.POS_RPM (s.fld (R.ACT_PARK_SPD_PARK_POS n)))) ≠ s.fld (R.ACT_PARK_SPD_SLIP_SPD n) * f32One) :=
  ⟨⟨st [(hdr .act 0 0x0C 0 1, 1)], .core .mc, 0, 0, by decide⟩,
   ⟨(State.reset.wr (R.ACT_HALL 0) 0x8).updAct 0 fun r => { r with sec := 0 }, 0, 2, by decide⟩,
   ⟨State.reset.updAct 0 fun r => { r with sec := 0 }, 0, 7, by decide⟩,
   ⟨st [(R.ACT_STAT_STATE 0, 3)], 0, by decide⟩,
   ⟨st [(R.ACT_CFG_EN 0, 1), (R.ACT_CFG_SENSE 0, 1)], 0, by decide⟩,
   ⟨st [(R.ACT_STAT_STATE 0, 7), (R.ACT_CFG_SENSE 0, 1)], 0, by decide⟩,
   ⟨State.reset, 0, by decide⟩,
   ⟨State.reset.updAct 0 fun r => { r with pre := 5 }, 0, by decide⟩,
   ⟨st [(R.ACT_STAT_STATE 0, 3)], 0, by decide⟩,
   ⟨st [(R.ACT_STAT_STATE 0, 4), (R.ACT_CFG_SENSE 0, 1)], 0, by decide⟩,
   ⟨st [(R.ACT_STAT_STATE 0, 3)], 0, by decide⟩,
   ⟨st [(R.ACT_STAT_STATE 0, 5)], 0, by decide⟩,
   ⟨st [(R.ACT_STAT_STATE 0, 6)], 0, by decide⟩,
   ⟨(st [(R.ACT_STAT_STATE 0, 1)]).updAct 0 fun r => { r with retry := true }, 0, by decide⟩,
   ⟨st [(R.ACT_STAT_STATE 0, 7)], 0, by decide⟩,
   ⟨st [(R.ACT_STAT_STATE 0, 7)], 0, by decide⟩,
   ⟨st [(R.ACT_CFG_EMF_EN 0, 1), (R.ACT_STAT_SPD_VALID 0, 1), (R.ACT_STAT_STATE 0, 3), (R.ACT_MEAS_EMF_PK 0, 1)], 0, by decide⟩,
   ⟨st [(R.ACT_CFG_PARK_EN 0, 1), (hdr .act 0 0x0C 0 1, 1)], .core .mc, 0, by decide⟩,
   ⟨(st [(R.ACT_STAT_ENGAGED 0, 1)]).wr (R.POS_RPM 0) 0x49742400, 0, by decide⟩⟩

theorem witness_ShiftCommandsComplete :
    (∃ (s : State) (m : Master) (k : Fin 8), s.opens m .drl 0 = true ∧ s.drlBusy = false ∧ s.fld R.SEC_BOOT_STAGE = 2 ∧ (∀ c ∈ s.actCtx s.drlAct :: s.drlCtxs, c ≤ 159 ∧ s.cstate c = 2) ∧ s.on (R.ACT_CFG_EN s.drlAct) = true ∧ s.fld (R.DRL_STEP_CTL_KIND k) ≠ 0) ∧
    (∃ (s : State) (m : Master), s.opens m .drl 0 = true ∧ s.drlBusy = true) ∧
    (∃ (s : State), s.drlBusy = true ∧ s.drl.restore ≠ 1 ∧ s.fld (R.DRL_STEP_CTL_TIMEOUT s.drlStep) * 4000000 ≤ s.drlElapsed) ∧
    (∃ (s : State), s.drlBusy = true ∧ s.drl.restore = 1 ∧ s.fld R.DRL_RST_RST_TO * 4000000 ≤ s.drlElapsed) :=
  ⟨⟨(st [(R.SEC_BOOT_STAGE, 2), (R.LPX_STATE_STATE 0, 2), (R.ACT_CFG_EN 0, 1), (R.DRL_STEP_CTL_KIND 0, 1), (R.ACT_CFG_GRP 0, 0), (R.DRL_CFG_ACT, 0), (R.DRL_CFG_TQ_CTX0, 0), (R.DRL_CFG_TQ_CTX1, 0xFF)]).wrLive (R.PG_SRC 0) 0, .core .ta, 0, by decide⟩,
   ⟨st [(R.DRL_STAT_BUSY, 1)], .core .ta, by decide⟩,
   ⟨{ st [(R.DRL_STAT_BUSY, 1)] with now := 1000000000000 }, by decide⟩,
   ⟨{ st [(R.DRL_STAT_BUSY, 1)] with now := 1000000000000, drl := { restore := 1 } }, by decide⟩⟩

theorem witness_SafetyManagerCommandsComplete :
    (∃ (s : State) (m : Master), s.isAgent m .saf 0 = true ∧ s.on (hdr .saf 0 0x08 0 1) = false) ∧
    (∃ (s : State) (g : Fin 12), s.gstate g = 3 ∧ s.fld (R.PG_STAT_SAFE_KIND g) = 4) ∧
    (∃ (s : State) (m : Master), s.isAgent m .saf 0 = true ∧ s.on (hdr .saf 0 0x08 0 1) = false) ∧
    (∃ (s : State) (m : Master) (l : Fin 128), s.opens m .saf 0 = true ∧ State.reservedLine l = false ∧ s.anyArmed = false) :=
  ⟨⟨st [(hdr .saf 0 0x08 3 2, 2)], .core .mc, by decide⟩,
   ⟨st [(R.PG_STAT_STATE 0, 3), (R.PG_STAT_SAFE_KIND 0, 4)], 0, by decide⟩,
   ⟨st [(hdr .saf 0 0x08 3 2, 2)], .core .mc, by decide⟩,
   ⟨st [(hdr .saf 0 0x0C 0 1, 1)], .core .mc, 0, by decide⟩⟩

theorem witness_SafetyIoCommandsComplete :
    (∃ (s : State) (n : Fin 8), s.on (R.SIO_SI_CFG_MODE n) = true ∧ s.runA n ≠ s.runB n) ∧
    (∃ (s : State) (n : Fin 8), s.on R.SIO_TP_TP_EN = true ∧ s.on (R.SIO_SI_CFG_MODE n) = true ∧ s.detachingX1 = false ∧ s.on (R.SIO_SI_CFG_TP_A n) = true) ∧
    (∃ (s : State) (m : Master) (n : Fin 8), s.opens m .sio 0 = true ∧ s.runA n = false ∧ s.runB n = false) ∧
    (∃ (s : State) (m : Fin 4), (s.so m).ls = true ∧ (s.so m).hs = false ∧ (s.so m).testing = 0 ∧ s.soWant m = true) ∧
    (∃ (s : State) (m : Fin 4), s.on (R.SIO_SO_CFG_TP_EN m) = true ∧ (s.so m).testing = 0 ∧ (s.so m).on = true) ∧
    (∃ (s : State) (m : Fin 4), s.on (R.SIO_SO_CFG_TP_EN m) = true ∧ (s.so m).testing = 0 ∧ (s.so m).on = true) ∧
    (∃ (s : State) (m : Fin 4), (s.so m).testing = 1 ∧ (s.so m).on = true) ∧
    (∃ (s : State) (m : Fin 4), (s.so m).on = true) ∧
    (∃ (s : State) (m : Fin 4), s.on (R.SIO_SO_STAT_DEGRADED m) = true) ∧
    (∃ (s : State) (m : Master) (k : Fin 4), s.opens m .sio 0 = true ∧ s.on (R.SIO_SO_STAT_REQ k) = false ∧ s.on (R.SIO_SO_STAT_FAULT k) = true ∧ s.soCausePresent k = false ∧ s.on (R.SIO_SO_STAT_DEGRADED k) = false) :=
  ⟨⟨st [(R.SIO_SI_CFG_MODE 0, 1), (R.SIO_SI_STAT_A 0, 1)], 0, by decide⟩,
   ⟨st [(R.SIO_TP_TP_EN, 1), (R.SIO_SI_CFG_MODE 0, 1), (R.SIO_SI_CFG_TP_A 0, 1)], 0, by decide⟩,
   ⟨st [(hdr .sio 0 0x0C 0 1, 1)], .core .mc, 0, by decide⟩,
   ⟨(st [(R.SIO_SO_CFG_EN 0, 1), (R.SIO_SO_STAT_REQ 0, 1)]).updSo 0 fun r => { r with ls := true }, 0, by decide⟩,
   ⟨(st [(R.SIO_SO_CFG_TP_EN 0, 1)]).updSo 0 fun r => { r with on := true }, 0, by decide⟩,
   ⟨(st [(R.SIO_SO_CFG_TP_EN 0, 1)]).updSo 0 fun r => { r with on := true }, 0, by decide⟩,
   ⟨State.reset.updSo 0 fun r => { r with on := true, testing := 1 }, 0, by decide⟩,
   ⟨State.reset.updSo 0 fun r => { r with on := true }, 0, by decide⟩,
   ⟨st [(R.SIO_SO_STAT_DEGRADED 0, 1)], 0, by decide⟩,
   ⟨st [(R.SIO_SO_STAT_FAULT 0, 1), (hdr .sio 0 0x0C 0 1, 1)], .core .mc, 0, by decide⟩⟩

theorem witness_EptalCommandsComplete :
    (∃ (s : State) (m : Master) (k : Fin 16) (e : Fin 256), s.opens m .ept 0 = true ∧ (s.ept k).unsentA = false ∧ (s.ept k).unsentB = false ∧ s.on (R.EPT_CFG_EN k) = true ∧ s.on (R.EPT_CFG_DIR k) = true ∧ s.fld (R.EPT_CFG_EPOCH k) = e.val ∧ e.val ≠ 0) ∧
    (∃ (s : State) (k : Fin 16), (s.ept k).unsentA = true ∧ s.fld (R.EPT_SID_NET_A k) < 4) ∧
    (∃ (s : State) (k : Fin 16), (s.ept k).unsentB = true ∧ s.fld (R.EPT_SID_NET_B k) < 4) ∧
    (∃ (s : State) (k : Fin 16) (b : _) (l : _), s.on (R.EPT_CFG_EN k) = true ∧ s.on (R.EPT_CFG_DIR k) = false ∧ s.eptValid k b l = false) ∧
    (∃ (s : State) (k : Fin 16) (b : _) (l : _), s.on (R.EPT_CFG_EN k) = true ∧ s.on (R.EPT_CFG_DIR k) = false ∧ s.eptValid k b l = true ∧ (s.ept k).got = false ∧ eptEpoch l ≠ 0 ∧ (s.ept k).held = none) ∧
    (∃ (s : State) (k : Fin 16) (b : _) (l : _) (q : _), s.on (R.EPT_CFG_EN k) = true ∧ s.on (R.EPT_CFG_DIR k) = false ∧ s.eptValid k b l = true ∧ (s.ept k).got = false ∧ eptEpoch l ≠ 0 ∧ (s.ept k).held = some (!b, q) ∧ eptSeq l = eptSeq q ∧ eptBody l = eptBody q) ∧
    (∃ (s : State) (k : Fin 16) (b : _) (l : _), (s.ept k).held = some (b, l)) ∧
    (∃ (s : State) (k : Fin 16), (s.fld (R.EPT_STAT_STATE k) = 3 ∨ s.fld (R.EPT_STAT_STATE k) = 4)) ∧
    (∃ (s : State) (k : Fin 16), s.on (R.EPT_CFG_EN k) = true ∧ s.on (R.EPT_CFG_DIR k) = false) ∧
    (∃ (s : State) (m : Master), s.opens m .ept 0 = true) :=
  ⟨⟨st [(R.EPT_CFG_EN 0, 1), (R.EPT_CFG_DIR 0, 1), (R.EPT_CFG_EPOCH 0, 255)], .core .tb, 0, 255, by decide⟩,
   ⟨State.reset.updEpt 0 fun r => { r with unsentA := true }, 0, by decide⟩,
   ⟨(st [(R.EPT_SID_NET_B 0, 0)]).updEpt 0 fun r => { r with unsentB := true }, 0, by decide⟩,
   ⟨st [(R.EPT_CFG_EN 0, 1)], 0, false, [], by decide⟩,
   ⟨st [(R.EPT_CFG_EN 0, 1), (R.EPT_SID_SID 0, 0), (R.EPT_CFG_LEN 0, 0)], 0, false, pdu, by decide⟩,
   ⟨(st [(R.EPT_CFG_EN 0, 1), (R.EPT_SID_SID 0, 0), (R.EPT_CFG_LEN 0, 0)]).updEpt 0 fun r => { r with held := some (true, pduB) }, 0, false, pdu, pduB, by decide⟩,
   ⟨State.reset.updEpt 0 fun r => { r with held := some (false, []) }, 0, false, [], by decide⟩,
   ⟨st [(R.EPT_STAT_STATE 0, 3), (R.EPT_STAT_STATE 0, 4)], 0, by decide⟩,
   ⟨st [(R.EPT_CFG_EN 0, 1)], 0, by decide⟩,
   ⟨State.reset, .core .tb, by decide⟩⟩

theorem witness_TandemCommandsComplete :
    (∃ (s : State) (p : Fin 2), s.joined p = true ∧ s.on (R.TND_STAT_HALTED p) = false) ∧
    (∃ (s : State) (p : Fin 2), s.joined p = true ∧ s.on (R.TND_STAT_HALTED p) = false) ∧
    (∃ (s : State) (p : Fin 2), s.joined p = true ∧ s.on (R.TND_STAT_HALTED p) = false) ∧
    (∃ (s : State) (m : Master) (p : Fin 2), s.opens m .tnd 0 = true ∧ s.pairState p = 0) ∧
    (∃ (s : State) (p : Fin 2), s.pairState p < 4) ∧
    (∃ (s : State) (p : Fin 2), s.joined p = true) ∧
    (∃ (s : State) (p : Fin 2), s.pairState p = 4) ∧
    (∃ (s : State) (p : Fin 2), s.pairState p = 4) ∧
    (∃ (s : State) (p : Fin 2), s.pairState p = 4) ∧
    (∃ (s : State) (p : Fin 2), s.pairState p = 4) ∧
    (∃ (s : State) (p : Fin 2), s.pairState p = 4) ∧
    (∃ (s : State) (p : Fin 2), s.pairState p = 5 ∧ (s.tndRec p).target < 16) ∧
    (∃ (s : State) (p : Fin 2), (s.pairState p = 6 ∨ s.pairState p = 7) ∧ s.fld (R.TND_STAT_SC_LEFT p) = 60) ∧
    (∃ (s : State) (p : Fin 2), (s.pairState p = 6 ∨ s.pairState p = 7) ∧ s.fld (R.TND_STAT_SC_LEFT p) = 0) ∧
    (∃ (s : State) (m : Master) (p : Fin 2), s.opens m .tnd 0 = true ∧ s.allOff = true ∧ s.pairState p = 0) ∧
    (∃ (s : State) (m : Master), s.opens m .tnd 0 = true ∧ s.lockOpen .tnd 0 = true ∧ s.allOff = true ∧ s.pairState 0 = 0) ∧
    (∃ (s : State) (p : Fin 2), s.pairState p = 1) ∧
    (∃ (s : State) (p : Fin 2), s.pairState p = 1) ∧
    (∃ (s : State) (m : Master) (p : Fin 2), s.opens m .tnd 0 = true ∧ s.pairState p = 2) ∧
    (∃ (s : State) (p : Fin 2), s.pairState p = 3) ∧
    (∃ (s : State) (p : Fin 2), s.pairState p = 3 ∧ (s.tndRec p).copying = true) ∧
    (∃ (s : State) (p : Fin 2), s.pairState p = 3) :=
  ⟨⟨State.reset, 0, by decide⟩,
   ⟨State.reset, 0, by decide⟩,
   ⟨State.reset, 0, by decide⟩,
   ⟨State.reset, .core .mc, 0, by decide⟩,
   ⟨State.reset, 0, by decide⟩,
   ⟨State.reset, 0, by decide⟩,
   ⟨st [(R.TND_STAT_STATE 0, 4)], 0, by decide⟩,
   ⟨st [(R.TND_STAT_STATE 0, 4)], 0, by decide⟩,
   ⟨st [(R.TND_STAT_STATE 0, 4)], 0, by decide⟩,
   ⟨st [(R.TND_STAT_STATE 0, 4)], 0, by decide⟩,
   ⟨st [(R.TND_STAT_STATE 0, 4)], 0, by decide⟩,
   ⟨st [(R.TND_STAT_STATE 0, 5)], 0, by decide⟩,
   ⟨st [(R.TND_STAT_STATE 0, 6), (R.TND_STAT_SC_LEFT 0, 60)], 0, by decide⟩,
   ⟨st [(R.TND_STAT_STATE 0, 6)], 0, by decide⟩,
   ⟨State.reset, .core .mc, 0, by decide⟩,
   ⟨st [(hdr .tnd 0 0x0C 0 1, 1)], .core .mc, by decide⟩,
   ⟨st [(R.TND_STAT_STATE 0, 1)], 0, by decide⟩,
   ⟨st [(R.TND_STAT_STATE 0, 1)], 0, by decide⟩,
   ⟨st [(R.TND_STAT_STATE 0, 2)], .core .mc, 0, by decide⟩,
   ⟨st [(R.TND_STAT_STATE 0, 3)], 0, by decide⟩,
   ⟨(st [(R.TND_STAT_STATE 0, 3)]).updTnd 0 fun r => { r with copying := true }, 0, by decide⟩,
   ⟨st [(R.TND_STAT_STATE 0, 3)], 0, by decide⟩⟩

theorem witness_DebugCommandsComplete :
    (∃ (s : State) (m : Master), s.opens m .sec 0 = true ∧ s.debugRight = true ∧ s.on R.SEC_DBG_CTL_OPENED = false) ∧
    (∃ (s : State) (m : Master), s.opens m .sec 0 = true ∧ s.debugRight = true ∧ s.on R.SEC_DBG_CTL_OPENED = true) ∧
    (∃ (s : State) (m : Master), s.opens m .sec 0 = true ∧ s.on R.SEC_DBG_CTL_OPENED = true) ∧
    (∃ (s : State) (m : Master), s.opens m .sec 0 = true ∧ s.on R.SEC_DBG_CTL_OPENED = false) ∧
    (∃ (s : State) (m : Master) (p : Fin 2), s.opens m .sec 0 = true ∧ s.on R.SEC_DBG_CTL_OPENED = true ∧ (s.pairState p ≤ 3 ∨ s.pairState p = 6 ∨ s.pairState p = 7) ∧ s.on (R.TND_STAT_HALTED p) = false ∧ (s.allOff = true ∨ (s.fld R.SEC_LC_STATE ≠ 2 ∧ s.fld R.SEC_LC_STATE ≠ 3))) ∧
    (∃ (s : State) (m : Master) (p : Fin 2), s.opens m .sec 0 = true ∧ s.on R.SEC_DBG_CTL_OPENED = true ∧ (s.pairState p ≤ 3 ∨ s.pairState p = 6 ∨ s.pairState p = 7) ∧ s.on (R.TND_STAT_HALTED p) = false ∧ (s.allOff = true ∨ (s.fld R.SEC_LC_STATE ≠ 2 ∧ s.fld R.SEC_LC_STATE ≠ 3))) ∧
    (∃ (s : State) (m : Master) (p : Fin 2), s.opens m .sec 0 = true ∧ s.on (R.TND_STAT_HALTED p) = true) ∧
    (∃ (s : State) (m : Master) (p : Fin 2), s.opens m .sec 0 = true ∧ s.on (R.TND_STAT_HALTED p) = true) ∧
    (∃ (s : State) (m : Master) (p : Fin 2), s.opens m .sec 0 = true ∧ s.on (R.TND_STAT_HALTED p) = true ∧ s.pairState p ≠ 0) ∧
    (∃ (s : State) (m : Master) (p : Fin 2), s.opens m .sec 0 = true ∧ s.on (R.TND_STAT_HALTED p) = true ∧ s.pairState p = 0) ∧
    (∃ (s : State) (p : Fin 2), s.on (R.TND_STAT_HALTED p) = true ∧ (s.tndRec p).replay.length < 32) ∧
    (∃ (s : State) (m : Master) (p : Fin 2), s.opens m .sec 0 = true ∧ s.on R.SEC_DBG_CTL_OPENED = true ∧ s.on (R.TND_STAT_HALTED p) = true) :=
  ⟨⟨st [(R.ROL_SESS_ROLE, 2)], .core .mc, by decide⟩,
   ⟨st [(R.SEC_DBG_CTL_OPENED, 1), (R.ROL_SESS_ROLE, 2)], .core .mc, by decide⟩,
   ⟨st [(R.SEC_DBG_CTL_OPENED, 1)], .core .mc, by decide⟩,
   ⟨State.reset, .core .mc, by decide⟩,
   ⟨st [(R.SEC_DBG_CTL_OPENED, 1), (R.TND_STAT_STATE 0, 6)], .core .mc, 0, by decide⟩,
   ⟨st [(R.SEC_DBG_CTL_OPENED, 1), (R.TND_STAT_STATE 0, 6)], .core .mc, 0, by decide⟩,
   ⟨st [(R.TND_STAT_HALTED 0, 1)], .core .mc, 0, by decide⟩,
   ⟨st [(R.TND_STAT_HALTED 0, 1)], .core .mc, 0, by decide⟩,
   ⟨st [(R.TND_STAT_HALTED 0, 1), (R.TND_STAT_STATE 0, 1)], .core .mc, 0, by decide⟩,
   ⟨st [(R.TND_STAT_HALTED 0, 1)], .core .mc, 0, by decide⟩,
   ⟨st [(R.TND_STAT_HALTED 0, 1)], 0, by decide⟩,
   ⟨st [(R.SEC_DBG_CTL_OPENED, 1), (R.TND_STAT_HALTED 0, 1)], .core .mc, 0, by decide⟩⟩

theorem witness_CanCommandsComplete :
    (∃ (s : State) (n : Fin 4), s.canOn n = true ∧ s.standby = false ∧ s.fld (R.CAN_CTL_MODE n) = 0 ∧ s.on (R.CAN_CTL_EN n) = true) ∧
    (∃ (s : State) (n : Fin 4) (f : CanFrame), s.canOn n = true ∧ s.standby = false ∧ ((f.fdf = true → s.on (R.CAN_CTL_FD_EN n) = true)) ∧ s.fld (R.CAN_CTL_MODE n) = 1) ∧
    (∃ (s : State) (n : Fin 4) (k : _), (s.can n).bus = some k ∧ (s.can n).late = false) ∧
    (∃ (s : State) (n : Fin 4) (k : _), (s.can n).bus = some k ∧ s.on (R.CAN_CTL_NO_RETX n) = false ∧ s.canOn n = true ∧ s.fld (R.CAN_CTL_MODE n) = 0) ∧
    (∃ (s : State) (n : Fin 4) (r : _), s.canOn n = true ∧ r = true ∧ s.on (R.CAN_CTL_RES_TOL n) = true) ∧
    (∃ (s : State) (n : Fin 4), s.canOn n = true ∧ s.on (R.CAN_CTL_EN n) = true ∧ s.on (R.CAN_CTL_AUTO_REC n) = false) ∧
    (∃ (s : State) (m : Master) (n : Fin 4), s.opens m .can n = true ∧ s.fld (R.CAN_STAT_STATE n) = 2) ∧
    (∃ (s : State) (n : Fin 4), s.on (R.CAN_STAT_RECOVERING n) = true) ∧
    (∃ (s : State) (m : Master) (n : Fin 4) (k : Fin 128) (e : Fin 256), s.opens m .can n = true ∧ s.canStream n k = none ∧ s.on (R.CAN_BUF_CFG_DIR n k) = true ∧ s.canEpoch n k = e.val ∧ e.val ≠ 0 ∧ s.canBadFormat n k = false) ∧
    (∃ (s : State) (m : Master) (n : Fin 4) (k : Fin 128), s.opens m .can n = true ∧ s.canStream n k = none ∧ s.on (R.CAN_BUF_CFG_DIR n k) = true ∧ s.canBit n k 16 = true ∧ (s.can n).bus ≠ some k.val) ∧
    (∃ (s : State) (m : Master) (n : Fin 4) (k : Fin 128), s.opens m .can n = true ∧ s.canStream n k = none ∧ s.on (R.CAN_BUF_CFG_DIR n k) = false) ∧
    (∃ (s : State) (m : Master) (n : Fin 4) (k : Fin 128), s.opens m .can n = true ∧ s.canStream n k = none ∧ s.on (R.CAN_BUF_CFG_DIR n k) = false ∧ (s.can n).waits.contains k.val = false) ∧
    (∃ (s : State) (m : Master) (n : Fin 4) (k : Fin 128) (v : _), s.opens m .can n = true ∧ ((getBits v 29 1 = 0 → getBits v 11 18 = 0)) ∧ getBits (s.rd (R.CAN_BUF_CFG n k)) 0 31 = getBits v 0 31) :=
  ⟨⟨st [(R.CAN_CTL_EN 0, 1), (R.CAN_STAT_STATE 0, 0)], 0, by decide⟩,
   ⟨st [(R.CAN_STAT_STATE 0, 0), (R.CAN_CTL_FD_EN 0, 1), (R.CAN_CTL_MODE 0, 1)], 0, frame0, by decide⟩,
   ⟨State.reset.updCan 0 fun c => { c with bus := some 0 }, 0, 0, by decide⟩,
   ⟨(st [(R.CAN_STAT_STATE 0, 0)]).updCan 0 fun c => { c with bus := some 0 }, 0, 0, by decide⟩,
   ⟨st [(R.CAN_CTL_RES_TOL 0, 1), (R.CAN_STAT_STATE 0, 0)], 0, true, by decide⟩,
   ⟨st [(R.CAN_CTL_EN 0, 1), (R.CAN_STAT_STATE 0, 0), (R.CAN_CTL_AUTO_REC 0, 0)], 0, by decide⟩,
   ⟨st [(R.CAN_STAT_STATE 0, 2)], .core .tb, 0, by decide⟩,
   ⟨st [(R.CAN_STAT_RECOVERING 0, 1)], 0, by decide⟩,
   ⟨(st [(R.CAN_BUF_CFG_DIR 0 0, 1)]).setCanA 0 0 1 0x100, .core .tb, 0, 0, 1, by decide⟩,
   ⟨(st [(R.CAN_BUF_CFG_DIR 0 0, 1)]).setCanA 0 0 1 0x10000, .core .tb, 0, 0, by decide⟩,
   ⟨State.reset, .core .tb, 0, 0, by decide⟩,
   ⟨State.reset, .core .tb, 0, 0, by decide⟩,
   ⟨State.reset, .core .tb, 0, 0, 0, by decide⟩⟩

theorem witness_EthernetAndHostCommandsComplete :
    (∃ (s : State) (n : Fin 2) (l : List Byte), s.shed = false ∧ s.on (R.ETH_CTL_EN n) = true ∧ s.on (R.ETH_STAT_LINK n) = true ∧ 60 ≤ l.length ∧ l.length ≤ 1518) ∧
    (∃ (s : State) (n : Fin 2) (l : List Byte), s.shed = false ∧ s.on (R.ETH_CTL_EN n) = true ∧ s.on (R.ETH_STAT_LINK n) = true ∧ 60 ≤ l.length ∧ l.length ≤ 1518) ∧
    (∃ (s : State) (m : Master) (n : Fin 2), s.opens m .eth n = true) ∧
    (∃ (s : State) (n : Fin 2), (s.eth n).sending = true ∧ s.on (R.ETH_CTL_EN n) = false) ∧
    (∃ (s : State), s.standby = false) ∧
    (∃ (s : State), s.shed = false ∧ s.on R.HSP_CTL_EN = true) ∧
    (∃ (s : State), s.shed = false ∧ s.on R.HSP_CTL_EN = true) ∧
    (∃ (s : State), s.shed = false ∧ s.on R.HSP_CTL_EN = true) ∧
    (∃ (s : State) (a : HspAns) (rest : _), s.on R.HSP_CTL_EN = true ∧ s.net.hsp.due = a :: rest) :=
  ⟨⟨st [(R.ETH_CTL_EN 0, 1), (R.ETH_STAT_LINK 0, 1)], 0, List.replicate 1518 0, by decide⟩,
   ⟨st [(R.ETH_CTL_EN 0, 1), (R.ETH_STAT_LINK 0, 1)], 0, List.replicate 60 0, by decide⟩,
   ⟨State.reset, .core .tb, 0, by decide⟩,
   ⟨State.reset.updEth 0 fun r => { r with sending := true }, 0, by decide⟩,
   ⟨State.reset, by decide⟩,
   ⟨st [(R.HSP_CTL_EN, 1)], by decide⟩,
   ⟨st [(R.HSP_CTL_EN, 1)], by decide⟩,
   ⟨st [(R.HSP_CTL_EN, 1)], by decide⟩,
   ⟨(st [(R.HSP_CTL_EN, 1)]).updHsp fun r => { r with due := [⟨0, 0, 0⟩] }, ⟨0, 0, 0⟩, [], by decide⟩⟩

theorem witness_ImageCommandsComplete :
    (∃ (s : State) (m : Master), s.opens m .sec 0 = true ∧ s.fld R.SEC_BOOT_STAGE = 2 ∧ s.onTrial = true) ∧
    (∃ (s : State) (m : Master), s.opens m .sec 0 = true ∧ s.fld R.SEC_BOOT_STAGE = 2 ∧ s.onTrial = false ∧ 2 ≤ s.role ∧ s.on R.SEC_IMG_STAT_OTP_TEMP_OK = true) ∧
    (∃ (s : State) (m : Master) (k : Fin 2), s.opens m .sec 0 = true ∧ s.fld R.SEC_BOOT_SLOT ≠ k.val ∧ s.fld R.SEC_IMG_STAT_OPENED = 3 ∧ 2 ≤ s.role ∧ s.on R.SEC_IMG_STAT_IMG_TEMP_OK = true) ∧
    (∃ (s : State) (m : Master), s.opens m .sec 0 = true) ∧
    (∃ (s : State) (m : Master) (k : Fin 2), s.opens m .sec 0 = true ∧ s.on R.SEC_IMG_STAT_IMG_BUSY = false ∧ s.fld R.SEC_IMG_STAT_OPENED ≠ k.val ∧ bitAt s.rcd.written k = true ∧ 2 ≤ s.role ∧ s.on R.SEC_IMG_STAT_IMG_TEMP_OK = true) ∧
    (∃ (s : State) (k : _) (a : _) (b : _), s.sec.act = some k ∧ s.hallmark k a b ≠ 1 ∧ s.hallmark k a b < 8) ∧
    (∃ (s : State) (k : _) (a : _) (b : _), s.sec.act = some k ∧ k < 2 ∧ s.hallmark k a b = 1) ∧
    (∃ (s : State) (m : Master), s.opens m .sec 0 = true) ∧
    (∃ (s : State), s.on R.SEC_ATT_CTL_GO = true) :=
  ⟨⟨st [(R.SEC_BOOT_STAGE, 2), (R.SEC_BOOT_TRIAL, 1), (R.SEC_BOOT_SLOT, 0)], .core .mc, by decide⟩,
   ⟨st [(R.SEC_BOOT_STAGE, 2), (R.SEC_IMG_STAT_OTP_TEMP_OK, 1), (R.ROL_SESS_ROLE, 2)], .core .mc, by decide⟩,
   ⟨st [(R.SEC_IMG_STAT_OPENED, 3), (R.SEC_IMG_STAT_IMG_TEMP_OK, 1), (R.ROL_SESS_ROLE, 2), (R.SEC_BOOT_SLOT, 1)], .core .mc, 0, by decide⟩,
   ⟨State.reset, .core .mc, by decide⟩,
   ⟨(st [(R.SEC_IMG_STAT_IMG_TEMP_OK, 1), (R.ROL_SESS_ROLE, 2), (R.SEC_IMG_STAT_OPENED, 3)]).updRec fun r => { r with written := 1 }, .core .mc, 0, by decide⟩,
   ⟨State.reset.updSec fun x => { x with act := some 0 }, 0, true, true, by decide⟩,
   ⟨imageState, 0, true, true, by exact ⟨rfl, by decide, image_passes⟩⟩,
   ⟨State.reset, .core .mc, by decide⟩,
   ⟨st [(R.SEC_ATT_CTL_GO, 1)], by decide⟩⟩

theorem witness_StatementCommandsComplete :
    (∃ (s : State) (m : Master), s.opens m .rol 0 = true) ∧
    (∃ (s : State) (m : Master), s.opens m .rol 0 = true ∧ s.on R.ROL_RESULT_BUSY = false) ∧
    (∃ (s : State), s.on R.ROL_RESULT_BUSY = true ∧ s.stmtKind = 1 ∧ s.stmtReason = 0) ∧
    (∃ (s : State), s.on R.ROL_RESULT_BUSY = true ∧ s.stmtKind = 2 ∧ s.stmtReason = 0 ∧ s.chgState = 2) ∧
    (∃ (s : State), s.on R.ROL_RESULT_BUSY = true ∧ s.stmtKind = 3 ∧ s.stmtReason = 0 ∧ s.lcRight (s.credRole s.stmtCred) (s.stmtBody 0) = some true) ∧
    (∃ (s : State), s.on R.ROL_RESULT_BUSY = true ∧ s.stmtKind = 4 ∧ s.stmtReason = 0 ∧ s.on R.REC_STAT_FLUSHING = true) ∧
    (∃ (s : State), s.on R.ROL_RESULT_BUSY = true ∧ s.stmtKind = 5 ∧ s.stmtReason = 0 ∧ s.stmtBody 0 = 0 ∧ s.stmtBody 1 < 4) ∧
    (∃ (s : State) (m : Master), s.opens m .rol 0 = true) ∧
    (∃ (s : State), s.role ≠ 0) :=
  ⟨⟨State.reset, .core .mc, by decide⟩,
   ⟨State.reset, .core .mc, by decide⟩,
   ⟨statement1, by decide +kernel⟩,
   ⟨statement2, by decide +kernel⟩,
   ⟨statement3, by decide +kernel⟩,
   ⟨statement4, by decide +kernel⟩,
   ⟨statement5, by decide +kernel⟩,
   ⟨State.reset, .core .mc, by decide⟩,
   ⟨st [(R.ROL_SESS_ROLE, 1)], by decide⟩⟩

theorem witness_ChangeCommandsComplete :
    (∃ (s : State) (m : Master), s.opens m .rol 0 = true ∧ s.chgState = 0) ∧
    (∃ (s : State) (m : Master), s.opens m .rol 0 = true ∧ s.chgState = 1 ∧ s.sec.sealing = false ∧ s.leavesInstaller = true) ∧
    (∃ (s : State), s.sec.sealing = true) ∧
    (∃ (s : State), s.chgState = 4 ∧ s.sec.apply = false) ∧
    (∃ (s : State), s.chgState = 4 ∧ s.sec.apply = false) ∧
    (∃ (s : State), 1 ≤ s.chgState ∧ s.chgState ≤ 3) ∧
    (∃ (s : State) (m : Master), s.opens m .rol 0 = true ∧ 1 ≤ s.chgState ∧ s.chgState ≤ 3) :=
  ⟨⟨State.reset, .core .mc, by decide⟩,
   ⟨(st [(R.ROL_CHG_STAT_STATE, 1)]).wr (R.ROL_CRED 1) 6, .core .mc, by decide⟩,
   ⟨State.reset.updSec fun x => { x with sealing := true }, by decide⟩,
   ⟨st [(R.ROL_CHG_STAT_STATE, 4)], by decide⟩,
   ⟨st [(R.ROL_CHG_STAT_STATE, 4)], by decide⟩,
   ⟨st [(R.ROL_CHG_STAT_STATE, 3)], by decide⟩,
   ⟨st [(R.ROL_CHG_STAT_STATE, 3)], .core .mc, by decide⟩⟩

theorem witness_RecorderCommandsComplete :
    (∃ (s : State) (p : _) (rest : _) (u : _), s.recPaused = false ∧ s.j3 = p :: rest ∧ u = State.recSync { s with j3 := rest } ∧ u.fld R.REC_STAT_PHASE = 1 ∧ p.code / 4096 < 4 ∧ p.code ≠ 0x1180) ∧
    (∃ (s : State) (p : _) (rest : _) (u : _), s.recPaused = false ∧ s.j3 = p :: rest ∧ u = State.recSync { s with j3 := rest } ∧ (4 ≤ p.code / 4096 ∨ (u.fld R.REC_STAT_PHASE = 1 ∧ p.code = 0x1180))) ∧
    (∃ (s : State) (p : _) (rest : _) (u : _) (o : _), s.recPaused = false ∧ s.j3 = p :: rest ∧ u = State.recSync { s with j3 := rest } ∧ u.fld R.REC_STAT_PHASE ≠ 1 ∧ p.code / 4096 < 4 ∧ u.rcd.open_ = some o ∧ o.code = p.code ∧ o.loc = p.loc ∧ o.data = p.data ∧ u.recRepeat < 255) ∧
    (∃ (s : State) (p : _) (rest : _) (u : _), s.recPaused = false ∧ s.j3 = p :: rest ∧ u = State.recSync { s with j3 := rest } ∧ u.fld R.REC_STAT_PHASE ≠ 1 ∧ u.rcd.open_ = none) ∧
    (∃ (s : State), s.rcd.lost ≠ 0 ∧ s.fld R.REC_STAT_BACKLOG < ringSlots) ∧
    (∃ (s : State), s.on R.REC_STAT_FLUSHING = false) ∧
    (∃ (s : State), s.on R.REC_STAT_FLUSHING = true ∧ s.rcd.step4 = false) ∧
    (∃ (s : State), s.on R.REC_STAT_FLUSHING = false) ∧
    (∃ (s : State), s.on R.REC_STAT_FLUSHING = true ∧ s.rcd.step4 = false) ∧
    (∃ (s : State), s.on R.REC_STAT_FLUSHING = false ∧ 1728 ≤ s.fld R.REC_STAT_BACKLOG) ∧
    (∃ (s : State), s.on R.REC_STAT_FLUSHING = true ∧ s.rcd.step4 = false ∧ 1728 ≤ s.fld R.REC_STAT_BACKLOG) ∧
    (∃ (s : State) (m : Master), s.opens m .recorder 0 = true ∧ s.on R.REC_STAT_FLUSHING = false) ∧
    (∃ (s : State) (m : Master), s.opens m .recorder 0 = true ∧ s.on R.REC_STAT_FLUSHING = true ∧ s.rcd.step4 = false) ∧
    (∃ (s : State), s.on R.REC_STAT_FLUSHING = true ∧ s.rcd.step4 = false ∧ s.on R.REC_STAT_PF = false ∧ s.rcd.clearWait = none ∧ s.fld R.PWR_DETACH_STAT_STATE = 0) ∧
    (∃ (s : State), s.on R.REC_STAT_FLUSHING = true ∧ s.rcd.step4 = false ∧ s.on R.REC_STAT_PF = true) ∧
    (∃ (s : State), s.on R.REC_STAT_FLUSHING = true ∧ s.rcd.step4 = false ∧ s.rcd.clearWait = none ∧ s.fld R.PWR_DETACH_STAT_STATE = 0) ∧
    (∃ (s : State), s.on R.REC_STAT_CLEARING = true) ∧
    (∃ (s : State) (m : Master) (a : _), s.opens m .nor 0 = true ∧ s.on R.NOR_STAT_BUSY = false ∧ s.on R.REC_STAT_PF = false ∧ a = s.fld R.NOR_ADDR_ADDR ∧ a % 256 = 0 ∧ ((0x60000000 ≤ a ∧ a < 0x61000000 ∧ s.fld R.SEC_IMG_STAT_OPENED = 0) ∨ (0x63000000 ≤ a ∧ a < 0x64000000 ∧ s.fld R.SEC_IMG_STAT_OPENED = 1) ∨ (0x61000000 ≤ a ∧ a < 0x61400000 ∧ 2 ≤ s.fld R.ROL_SESS_ROLE)) ∧ s.on R.SEC_IMG_STAT_IMG_TEMP_OK = true) ∧
    (∃ (s : State) (m : Master) (a : _), s.opens m .nor 0 = true ∧ s.on R.NOR_STAT_BUSY = false ∧ s.on R.REC_STAT_PF = false ∧ a = s.fld R.NOR_ADDR_ADDR ∧ a % 65536 = 0 ∧ ((0x60000000 ≤ a ∧ a < 0x61000000 ∧ s.fld R.SEC_IMG_STAT_OPENED = 0) ∨ (0x63000000 ≤ a ∧ a < 0x64000000 ∧ s.fld R.SEC_IMG_STAT_OPENED = 1) ∨ (0x61000000 ≤ a ∧ a < 0x61400000 ∧ 2 ≤ s.fld R.ROL_SESS_ROLE)) ∧ s.on R.SEC_IMG_STAT_IMG_TEMP_OK = true) ∧
    (∃ (s : State) (m : Master), s.opens m .nor 0 = true ∧ s.on R.NOR_STAT_BUSY = false ∧ s.on R.REC_STAT_PF = false) ∧
    (∃ (s : State) (op : _) (a : _), s.rcd.nor = some (op, a)) ∧
    (∃ (s : State) (op : _) (a : _), s.rcd.nor = some (op, a)) :=
  ⟨⟨{ st [(R.SEC_BOOT_STAGE, 2)] with j3 := [⟨0x1001, 0, 0, 0⟩] }, ⟨0x1001, 0, 0, 0⟩, [], _, by exact ⟨by decide, rfl, rfl, by decide, by decide, by decide⟩⟩,
   ⟨{ State.reset with j3 := [⟨0x4001, 0, 0, 0⟩] }, ⟨0x4001, 0, 0, 0⟩, [], _, by exact ⟨by decide, rfl, rfl, by decide⟩⟩,
   ⟨{ (State.reset.updRec fun r => { r with open_ := some ⟨0x1001, 0, 0, 0⟩ }) with mem := [(ringAddr 7679 + 3, 1)], j3 := [⟨0x1001, 0, 0, 0⟩] }, ⟨0x1001, 0, 0, 0⟩, [], _, ⟨0x1001, 0, 0, 0⟩, by exact ⟨by decide, rfl, rfl, by decide, by decide, rfl, rfl, rfl, rfl, by decide⟩⟩,
   ⟨{ State.reset with j3 := [⟨0x1001, 0, 0, 0⟩] }, ⟨0x1001, 0, 0, 0⟩, [], _, by exact ⟨by decide, rfl, rfl, by decide, rfl⟩⟩,
   ⟨State.reset.updRec fun r => { r with lost := 1 }, by decide⟩,
   ⟨State.reset, by decide⟩,
   ⟨st [(R.REC_STAT_FLUSHING, 1)], by decide⟩,
   ⟨State.reset, by decide⟩,
   ⟨st [(R.REC_STAT_FLUSHING, 1)], by decide⟩,
   ⟨st [(R.REC_STAT_BACKLOG, 1728)], by decide⟩,
   ⟨st [(R.REC_STAT_FLUSHING, 1), (R.REC_STAT_BACKLOG, 1728)], by decide⟩,
   ⟨State.reset, .core .mc, by decide⟩,
   ⟨st [(R.REC_STAT_FLUSHING, 1)], .core .mc, by decide⟩,
   ⟨st [(R.REC_STAT_FLUSHING, 1)], by decide⟩,
   ⟨st [(R.REC_STAT_FLUSHING, 1), (R.REC_STAT_PF, 1)], by decide⟩,
   ⟨st [(R.REC_STAT_FLUSHING, 1)], by decide⟩,
   ⟨st [(R.REC_STAT_CLEARING, 1)], by decide⟩,
   ⟨st [(R.SEC_IMG_STAT_OPENED, 1), (R.SEC_IMG_STAT_IMG_TEMP_OK, 1), (R.SEC_IMG_STAT_OPENED, 0)], .core .mc, 0x60000000, by decide⟩,
   ⟨st [(R.SEC_IMG_STAT_OPENED, 1), (R.SEC_IMG_STAT_IMG_TEMP_OK, 1), (R.SEC_IMG_STAT_OPENED, 0)], .core .mc, 0x60000000, by decide⟩,
   ⟨State.reset, .core .mc, by decide⟩,
   ⟨State.reset.updRec fun r => { r with nor := some (0, 0x60000000) }, 0, 0x60000000, by decide⟩,
   ⟨State.reset.updRec fun r => { r with nor := some (1, 0x60000000) }, 1, 0x60000000, by decide⟩⟩

theorem witness_ThermalCommandsComplete :
    (∃ (s : State) (m : Master) (k : Fin 8) (v : _), s.opens m .tmp 0 = true ∧ s.on (R.TMP_DRT_CFG_EN k) = false ∧ getBits v 8 8 ≤ 159 ∧ getBits v 0 1 = 1 ∧ s.rd (R.TMP_DRT_START k) ≠ s.rd (R.TMP_DRT_END k)) ∧
    (∃ (s : State) (m : Master) (a : Fin 4), s.opens m .bst 0 = true ∧ s.on R.BST_STAT_BUSY = false ∧ a.val ≠ 3 ∧ s.bistState = true) ∧
    (∃ (s : State), s.on R.BST_STAT_BUSY = true) ∧
    (∃ (s : State), s.on R.BST_STAT_BUSY = true) ∧
    (∃ (s : State) (m : Master), s.opens m .bst 0 = true ∧ s.on R.BST_STAT_BUSY = true) ∧
    (∃ (s : State) (m : Master) (b : _), s.opens m .bst 0 = true ∧ s.bistState = true ∧ s.on R.SEC_IMG_STAT_OTP_TEMP_OK = true ∧ s.fld R.BST_STAT_RESULT = 2 ∧ s.bistBank = some b ∧ s.spareUsed b < (if b < 16 then 4 else 2)) :=
  ⟨⟨State.reset.wr (R.TMP_DRT_END 0) 0x42C80000, .core .mc, 0, 1, by decide⟩,
   ⟨st [(R.SEC_LC_STATE, 1)], .core .mc, 0, by decide⟩,
   ⟨st [(R.BST_STAT_BUSY, 1)], by decide⟩,
   ⟨st [(R.BST_STAT_BUSY, 1)], by decide⟩,
   ⟨st [(R.BST_STAT_BUSY, 1)], .core .mc, by decide⟩,
   ⟨st [(R.SEC_IMG_STAT_OTP_TEMP_OK, 1), (R.BST_STAT_RESULT, 2), (R.SEC_LC_STATE, 4), (R.BST_FAIL_ADDR_ADDR, 0x20000000)], .core .mc, 0, by decide⟩⟩

theorem witness_StepRunsFront :
    (∃ (s : State) (c : _) (rest : _), s.pending = c :: rest) :=
  ⟨{ State.reset with pending := [.wake] }, .wake, [], by decide⟩

theorem witness_EmptyQueueIdles :
    (∃ (s : State), s.pending = []) :=
  ⟨State.reset, by decide⟩

theorem witness_StoredBytes :
    (∃ (s : State) (m : Master) (a : Word) (n : Fin 3) (v : _) (t : _) (b : _), inSram a.toNat = true ∧ exec (.memoryWrite m a n v) s = .next t ∧ (b < a.toNat ∨ a.toNat + 2 ^ n.val ≤ b)) ∧
    (∃ (s : State) (m : Master) (a : Word) (n : Fin 3) (v : _) (t : _), (inRom a.toNat = true ∨ inNor a.toNat = true) ∧ exec (.memoryWrite m a n v) s = .next t) ∧
    (∃ (s : State) (p : _) (t : _) (a : _) (b : _), s.rcd.nor = some (0, a) ∧ exec (.norOpDone p) s = .next t ∧ (b < a ∨ a + 256 ≤ b)) ∧
    (∃ (s : State) (p : _) (t : _) (a : _) (b : _), s.rcd.nor = some (1, a) ∧ exec (.norOpDone p) s = .next t ∧ (b < a ∨ a + 65536 ≤ b)) ∧
    (∃ (s : State) (t : _) (op : _) (a : _) (b : _), s.rcd.nor = some (op, a) ∧ exec .norOpTimeout s = .next t ∧ (b < a ∨ a + 65536 ≤ b)) :=
  ⟨⟨State.reset, .core .mc, 0x203FFFFF, 0, 0, _, 0x203FFFFE, by exact ⟨by decide, rfl, by decide⟩⟩,
   ⟨State.reset, .core .mc, 0x60000000, 0, 0, _, by exact ⟨by decide, rfl⟩⟩,
   ⟨State.reset.updRec fun r => { r with nor := some (0, 0x60000000) }, none, _, 0x60000000, 0x60000100, by exact ⟨rfl, rfl, by decide⟩⟩,
   ⟨State.reset.updRec fun r => { r with nor := some (1, 0x60000000) }, none, _, 0x60000000, 0x60010000, by exact ⟨rfl, rfl, by decide⟩⟩,
   ⟨State.reset.updRec fun r => { r with nor := some (0, 0x60000000) }, _, 0, 0x60000000, 0x60010000, by exact ⟨rfl, rfl, by decide⟩⟩⟩

theorem witness_StaleMailboxCommit :
    (∃ (s : State) (m : Master) (c : Fin 160), isChecker m = false ∧ rights m = s.mbxWriter c ∧ s.drlHolds c 0 = false) ∧
    (∃ (s : State) (c : Fin 160) (e : Fin 256), e.val ≠ s.fld (R.LPX_CFG_EPOCH c)) :=
  ⟨⟨State.reset, .core .ta, 0, by decide⟩,
   ⟨State.reset, 0, 1, by decide⟩⟩

theorem witness_NarrowAndUnaligned :
    (∃ (a : Word) (wd : Width) (k : _) (n : _), pageAt a.toNat = some (k, n) ∧ (wd = .narrow ∨ a.toNat % 4 ≠ 0)) ∧
    (∃ (a : Word) (w : _) (k : _) (n : _), pageAt a.toNat = some (k, n) ∧ (w ≠ 4 ∨ a.toNat % 4 ≠ 0)) :=
  ⟨⟨0x40000041, .word, .sys, 0, by decide⟩,
   ⟨0x40000040, 2, .sys, 0, by decide⟩⟩

theorem witness_DetachDenied :
    (∃ (s : State) (m : Master), s.opens m .pwr 0 = true ∧ s.fld R.PWR_DETACH_STAT_STATE = 0 ∧ s.anyArmed = true) ∧
    (∃ (s : State) (m : Master), s.opens m .pwr 0 = true ∧ s.fld R.PWR_DETACH_STAT_STATE = 0 ∧ s.anyArmed = false ∧ s.on R.PWR_STAT_X2_PRESENT = false) ∧
    (∃ (s : State) (m : Master) (b : _), s.opens m .pwr 0 = true ∧ s.fld R.PWR_DETACH_STAT_STATE = 0 ∧ s.anyArmed = false ∧ b = true ∧ s.on R.PWR_STAT_X2_PRESENT = true) ∧
    (∃ (s : State) (m : Master), s.opens m .pwr 0 = true ∧ s.fld R.PWR_DETACH_STAT_STATE = 0 ∧ s.anyArmed = false) :=
  ⟨⟨st [(R.PG_STAT_STATE 11, 1)], .core .mc, by decide⟩,
   ⟨State.reset, .core .mc, by decide⟩,
   ⟨st [(R.PWR_STAT_X2_PRESENT, 1)], .core .mc, true, by decide⟩,
   ⟨State.reset, .core .mc, by decide⟩⟩

theorem witness_J3Full :
    (∃ (s : State), j3Depth ≤ s.j3.length) ∧
    (∃ (s : State), s.cad.lostSince ≠ 0 ∧ s.j3.length < j3Depth ∧ s.on R.BST_STAT_BUSY = false) :=
  ⟨⟨{ State.reset with j3 := List.replicate 64 ⟨0x1001, 0, 0, 0⟩ }, by decide⟩,
   ⟨State.reset.updCad fun c => { c with lostSince := 1 }, by decide⟩⟩

theorem witness_TripLatchRefused :
    (∃ (s : State) (m : Master) (c : Chan) (d : _) (p : _), isHv (chanNo c) = true ∧ s.isAgent m .ghd (chanNo c / 4) = true ∧ s.legActive (chanLeg (chanNo c)) = true ∧ (d = true ∨ p = true)) ∧
    (∃ (s : State) (m : Master) (c : Chan), isHv (chanNo c) = true ∧ s.isAgent m .ghd (chanNo c / 4) = true ∧ s.legActive (chanLeg (chanNo c)) = false ∧ s.remoteDown .ghd (chanNo c / 4) = false) :=
  ⟨⟨(st [(hdr .ghd 0 0x08 3 2, 2), (R.PG_STAT_STATE 0, 3)]).wrLive (R.PG_SLOT0 0) 0x3F3F3F00, .core .mc, .gh 0, true, false, by decide⟩,
   ⟨st [(hdr .ghd 11 0x08 3 2, 2), (R.NL_STAT_STATE 11, 2)], .core .mc, .gh 47, by decide⟩⟩

theorem witness_CanCommit :
    (∃ (s : State) (m : Master) (n : Fin 4) (k : Fin 128) (e : Fin 256), s.opens m .can n = true ∧ s.canStream n k = none ∧ s.on (R.CAN_BUF_CFG_DIR n k) = true ∧ s.canEpoch n k ≠ e.val) ∧
    (∃ (s : State) (m : Master) (n : Fin 4) (k : Fin 128) (e : Fin 256), s.opens m .can n = true ∧ s.canStream n k = none ∧ s.on (R.CAN_BUF_CFG_DIR n k) = true ∧ s.canEpoch n k = e.val ∧ e.val ≠ 0 ∧ ((bitAt (s.canS n k 0).toNat 30 = true ∧ bitAt (s.canS n k 1).toNat 4 = true) ∨ (bitAt (s.canS n k 1).toNat 4 = true ∧ s.on (R.CAN_CTL_FD_EN n) = false) ∨ (bitAt (s.canS n k 1).toNat 5 = true ∧ bitAt (s.canS n k 1).toNat 4 = false))) ∧
    (∃ (s : State) (n : Fin 4) (k : Fin 128), s.on (R.CAN_BUF_CFG_DIR n k) = true ∧ (s.can n).bus ≠ some k.val) ∧
    (∃ (s : State) (n : Fin 4) (k : Fin 128), (s.can n).bus = some k.val) :=
  ⟨⟨st [(R.CAN_BUF_CFG_DIR 0 0, 1)], .core .tb, 0, 0, 1, by decide⟩,
   ⟨((st [(R.CAN_BUF_CFG_DIR 0 0, 1)]).setCanA 0 0 1 0x100).setCanS 0 0 1 0x20, .core .tb, 0, 0, 1, by decide⟩,
   ⟨st [(R.CAN_BUF_CFG_DIR 0 0, 1)], 0, 0, by decide⟩,
   ⟨State.reset.updCan 0 fun c => { c with bus := some 0 }, 0, 0, by decide⟩⟩

theorem witness_OwnershipRefusal :
    (∃ (s : State) (m : Master) (a : Word) (k : _) (n : _), pageAt a.toNat = some (k, n) ∧ a.toNat % 4 = 0 ∧ k ≠ .lpx ∧ s.mayWrite m k n = false ∧ s.isAgent m k n = false ∧ inHeader k a.toNat = false) :=
  ⟨State.reset, .core .ta, 0x40000040, .sys, 0, by decide⟩

theorem witness_PageLock :
    (∃ (m : Master) (a : Word) (k : _) (n : _), pageAt a.toNat = some (k, n) ∧ rights m ≠ .mc) ∧
    (∃ (a : Word) (v : Word) (k : _) (n : _), pageAt a.toNat = some (k, n) ∧ getBits v 0 1 = 1 ∧ getBits v 8 8 ≠ 0x5A) ∧
    (∃ (s : State) (a : Word) (v : Word) (k : _) (n : _), pageAt a.toNat = some (k, n) ∧ s.remoteDown k n = false ∧ getBits v 0 1 = 1 ∧ getBits v 8 8 = 0x5A) ∧
    (∃ (s : State) (a : Word) (v : Word) (k : _) (n : _), pageAt a.toNat = some (k, n) ∧ s.remoteDown k n = false ∧ getBits v 0 1 = 0) ∧
    (∃ (k : PageKind) (n : _), n < k.count) :=
  ⟨⟨.core .ta, 0x40000000, .sys, 0, by decide⟩,
   ⟨0x40000000, 0x101, .sys, 0, by decide⟩,
   ⟨State.reset, 0x40000000, 0x5A01, .sys, 0, by decide⟩,
   ⟨State.reset, 0x40000000, 0, .sys, 0, by decide⟩,
   ⟨.sys, 0, by decide⟩⟩

theorem witness_ResetCause :
    (∃ (s : State), s.on R.PWR_STAT_ON_HOLDUP = true) ∧
    (∃ (s : State) (m : Master), s.opens m .sys 0 = true ∧ s.anyArmed = false) ∧
    (∃ (s : State), s.sec.released = false ∧ s.por = false) ∧
    (∃ (s : State) (m : Master), s.opens m .sys 0 = true ∧ s.anyArmed = true) ∧
    (∃ (s : State) (m : Master) (k : Fin 256), s.opens m .sys 0 = true ∧ s.anyArmed = false ∧ k.val ≠ 0xC3) :=
  ⟨⟨st [(R.PWR_STAT_ON_HOLDUP, 1)], by decide⟩,
   ⟨State.reset, .core .mc, by decide⟩,
   ⟨State.reset.wr R.SYS_RST_CAUSE 4, by decide⟩,
   ⟨st [(R.PG_STAT_STATE 0, 2)], .core .mc, by decide⟩,
   ⟨State.reset, .core .mc, 0, by decide⟩⟩

theorem witness_ReplayQueueFull :
    (∃ (s : State) (p : Fin 2), s.on (R.TND_STAT_HALTED p) = true ∧ 32 ≤ (s.tndRec p).replay.length) :=
  ⟨(st [(R.TND_STAT_HALTED 0, 1)]).updTnd 0 fun r => { r with replay := List.replicate 32 (0, 0) }, 0, by decide⟩

/-! ### Witnesses of the statements about the engine, the frames and the whole machine -/

/-- Destination of the instruction that stands for an opcode: S0, or DUTY0 for SVM. -/
def dstOf (op : Nat) : Nat := if op = 0x37 then 0x80 else 0x30

/-- Every instruction of the engine is issued somewhere: by lane 0, unpredicated, from K0, K0 and X0. -/
theorem witness_issues : ∀ e ∈ engineTable 0, ∃ (s : State) (r : Run) (i : Ins), s.Issues 0 e.2 r i := by
  intro e he
  refine ⟨lane0 e.2 0 (dstOf e.2) 0 0 0x20 0 run1 [], run1, (lane0 e.2 0 (dstOf e.2) 0 0 0x20 0 run1 []).insAt 0, ?_⟩
  have : ∀ e ∈ engineTable 0, (((lane0 e.2 0 (dstOf e.2) 0 0 0x20 0 run1 []).lane 0).run = some run1 ∧
      ((lane0 e.2 0 (dstOf e.2) 0 0 0x20 0 run1 []).insAt 0).op = e.2 ∧
      (lane0 e.2 0 (dstOf e.2) 0 0 0x20 0 run1 []).insErr ((lane0 e.2 0 (dstOf e.2) 0 0 0x20 0 run1 []).insAt 0) = 0 ∧
      ((lane0 e.2 0 (dstOf e.2) 0 0 0x20 0 run1 []).insAt 0).pred = 0 ∧ (lane0 e.2 0 (dstOf e.2) 0 0 0x20 0 run1 []).tickHeld run1 = false) := by
    decide +kernel
  obtain ⟨h1, h2, h3, h4, h5⟩ := this e he
  exact ⟨h1, Nat.zero_lt_one, rfl, h2, h3, fun h => absurd h (by rw [h4]; decide), fun _ => rfl, rfl, h5⟩

/-- Each instruction's predicate is false somewhere, in both senses. -/
theorem witness_PredicateFalseOnlyGoesBy :
    ∀ e ∈ engineTable 0, ∀ p ∈ [(1, false), (2, true)], ∃ (s : State) (r : Run) (i : Ins), (s.lane 0).run = some r ∧ r.idx < r.len ∧ i = s.insAt (r.base + r.idx) ∧
      i.op = e.2 ∧ s.insErr i = 0 ∧ s.eng.bad = [] ∧ s.tickHeld r = false ∧
      ((i.pred = 1 ∧ r.pf = false) ∨ (i.pred = 2 ∧ r.pf = true)) := by
  intro e he p hp
  refine ⟨lane0 e.2 p.1 (dstOf e.2) 0 0 0x20 0 { run1 with pf := p.2 } [], { run1 with pf := p.2 },
    (lane0 e.2 p.1 (dstOf e.2) 0 0 0x20 0 { run1 with pf := p.2 } []).insAt 0, ?_⟩
  have : ∀ e ∈ engineTable 0, ∀ p ∈ [(1, false), (2, true)],
      (((lane0 e.2 p.1 (dstOf e.2) 0 0 0x20 0 { run1 with pf := p.2 } []).lane 0).run = some { run1 with pf := p.2 } ∧
      0 < 1 ∧ ((lane0 e.2 p.1 (dstOf e.2) 0 0 0x20 0 { run1 with pf := p.2 } []).insAt 0).op = e.2 ∧
      (lane0 e.2 p.1 (dstOf e.2) 0 0 0x20 0 { run1 with pf := p.2 } []).insErr
        ((lane0 e.2 p.1 (dstOf e.2) 0 0 0x20 0 { run1 with pf := p.2 } []).insAt 0) = 0 ∧
      (lane0 e.2 p.1 (dstOf e.2) 0 0 0x20 0 { run1 with pf := p.2 } []).tickHeld { run1 with pf := p.2 } = false ∧
      ((((lane0 e.2 p.1 (dstOf e.2) 0 0 0x20 0 { run1 with pf := p.2 } []).insAt 0).pred = 1 ∧ p.2 = false) ∨
        (((lane0 e.2 p.1 (dstOf e.2) 0 0 0x20 0 { run1 with pf := p.2 } []).insAt 0).pred = 2 ∧ p.2 = true))) := by decide +kernel
  obtain ⟨h1, h2, h3, h4, h5, h6⟩ := this e he p hp
  exact ⟨h1, h2, rfl, h3, h4, rfl, h5, h6⟩

theorem witness_StepKeepsCanonical : ∃ s t : State, s.Canonical ∧ step s = .next t :=
  ⟨State.reset, State.reset.idle, by constructor <;> decide, rfl⟩

theorem witness_aligned_register : ∃ k n r o, r ∈ pageRows k n ∧ (r.locate o).isSome = true :=
  ⟨.nor, 0, _, 0x40, List.mem_cons_self .., by decide⟩

/-- For each statement of frames, a command of its family that answers a next state. -/
theorem witness_frames : (∃ s t, exec (.mov 0) s = .next t) ∧ (∃ s t, exec (.longWindowClose 0) s = .next t) ∧ (∃ s t, exec (.halfPeriodPoint 0) s = .next t) ∧
    (∃ s t, exec (.mailboxCommit (.core .mc) 0 0) s = .next t) ∧ (∃ s t, exec (.faultLineRaise []) s = .next t) ∧ (∃ s t, exec (.canBusOff 0) s = .next t) ∧
    (∃ s t, exec .wake s = .next t) :=
  ⟨⟨State.reset, _, rfl⟩, ⟨State.reset, _, rfl⟩, ⟨State.reset, _, rfl⟩, ⟨State.reset, _, rfl⟩, ⟨State.reset, _, rfl⟩, ⟨State.reset, _, rfl⟩,
   ⟨State.reset, _, rfl⟩⟩

/-! ### Ill-formed commands are refused by the check, one for each condition -/

theorem test_illformed_conversionEnd : (Instr.conversionEnd []).WellFormed = false := by decide
theorem test_illformed_hot : (Instr.idleFrame 0 [] [48]).WellFormed = false ∧ (Instr.edgeFrame 0 0 0 [] [88]).WellFormed = false ∧
    (Instr.safeFrame 0 [] [63]).WellFormed = false ∧ (Instr.dieLinkLoss 0 [100]).WellFormed = false := by decide
theorem test_illformed_statusFrame : (Instr.statusFrame 0 0 0 (List.replicate 13 0)).WellFormed = false := by decide
theorem test_illformed_canFrame : (Instr.canFrameReceived 0 ⟨2048, false, false, false, false, false, 0, []⟩).WellFormed = false ∧
    (Instr.canFrameReceived 0 ⟨0, false, true, true, false, false, 0, []⟩).WellFormed = false ∧
    (Instr.canFrameReceived 0 ⟨0, false, false, false, true, false, 0, []⟩).WellFormed = false ∧
    (Instr.canFrameReceived 0 ⟨0, false, false, true, false, false, 9, List.replicate 11 0⟩).WellFormed = false := by decide
theorem test_wellformed_canFrame : (Instr.canFrameReceived 0 ⟨0, false, false, true, true, false, 15, List.replicate 64 0⟩).WellFormed = true := by
  decide
theorem test_illformed_ethFrame : (Instr.ethFrameReceived 0 (List.replicate 13 0) true .clean).WellFormed = false := by decide
theorem test_illformed_norPage : (Instr.norOpDone (some [0])).WellFormed = false := by decide
theorem test_illformed_serialWord : (Instr.serialWord 0 (List.replicate 257 (0, true))).WellFormed = false ∧
    (Instr.serialWord 0 [(131072, true)]).WellFormed = false := by decide
theorem test_illformed_lines : (Instr.quadratureEdge 0 []).WellFormed = false ∧ (Instr.illegalTransition 0 []).WellFormed = false ∧
    (Instr.indexPulse 0 []).WellFormed = false ∧ (Instr.hallEdge 0 []).WellFormed = false := by decide
theorem test_illformed_selfTest : (Instr.bistDone [⟨1, 0, 0, false⟩]).WellFormed = false ∧ (Instr.resetRelease true [(0, ⟨1, 0, 0, false⟩)]).WellFormed = false := by
  decide

/-! ### The manual's worked examples -/

/-- Chapter 0: a desaturation on GH17 is located at 0x1400_1FFF, and GH17 is the low-side channel of leg HL8. -/
theorem test_location_GH17 : locChan 17 0 0x3F = 0x14001FFF ∧ legLow 8 = 17 := by decide
/-- Chapter 3: the frame of context 37, the STALE of its page, and the page of channel GH17. -/
theorem test_addresses : R.LPX_CFG 37 = 0x40013540 ∧ (hdr .lpx (37 / 16) 0x2C 16 16).addr = 0x4001302C ∧ PageKind.ghd.page 4 = 0x40054000 ∧
    pageAt 0x40013500 = some (.lpx, 2) ∧ pageAt 0x40054000 = some (.ghd, 4) := by decide
/-- Chapter 3: the agent's read of CAD_LATE_TOTAL returns 3 and clears it; its write of 2 to EVT_STAT clears LATE. -/
theorem test_late_read_clears : ((st [(R.CAD_LATE_TOTAL_COUNT, 3)]).busRead (.core .mc) R.CAD_LATE_TOTAL 4).resp = ⟨0, 3⟩ ∧
    ((st [(R.CAD_LATE_TOTAL_COUNT, 3)]).busRead (.core .mc) R.CAD_LATE_TOTAL 4).fld R.CAD_LATE_TOTAL_COUNT = 0 := by decide
/-- R5, R112: the row by which a core reads reaches a page too. -/
theorem test_core_reads_page : respAfter (.sramRead (.core .mc) 0x40002070 2 .clean) (st [(R.CAD_LATE_TOTAL_COUNT, 3)]) = some ⟨0, 3⟩ ∧
    fldAfter (.sramRead (.core .mc) 0x40002070 2 .clean) (st [(R.CAD_LATE_TOTAL_COUNT, 3)]) R.CAD_LATE_TOTAL_COUNT = 0 := by decide
theorem test_late_acknowledged :
    fldAfter (.registerWrite (.core .mc) 0x40002010 .word 2) (st [(hdr .cad 0 0x10 1 1, 1)]) (hdr .cad 0 0x10 0 32) = 0 := by decide
/-- Chapter 5: ten codes of sum 13 011 average to 20 818 sixteenths, the tie S = 5, N = 32 to 2; and the port of FA20. -/
theorem test_window_average : State.average 13011 10 = 20818 ∧ State.average 5 32 = 2 ∧
    (State.reset.wr (R.FAD_CH_GAIN 20) 0x3C9C4000).portValue 20 20818 = 0x41C68932 := by decide
/-- Chapter 6: the compare values of the duties 0.6, 0.55, 0.02, 0.3 and 0.25 in centre mode at PRD = 640 000. -/
theorem test_compare_values : [0x3F19999A, 0x3F0CCCCD, 0x3CA3D70A, 0x3E99999A, 0x3E800000].map (State.compareOf 0 640000) =
    [128000, 144000, 313600, 224000, 240000] := by decide
/-- Chapter 16: the ends of the ramp, START 120 and END 145: LFULL 1900 at 120 °C, LMIN at 145 °C, LFULL again below. -/
theorem test_derating : [(119 : Int), 120, 145, 146].map (fun x => ((((State.reset.wr (R.TMP_DRT_START 0) 0x42F00000).wr (R.TMP_DRT_END 0)
    0x43110000).wr (R.TMP_DRT_LFULL 0) 0x44ED8000).wr (R.TMP_DRT_LMIN 0) 0x3F800000).drtWord 0 ⟨x, 1⟩) =
    [0x44ED8000, 0x44ED8000, 0x3F800000, 0x3F800000] := by decide

/-! ### Published check values of the codes that the manual names -/

theorem test_crc32c : crc32c [0x31, 0x32, 0x33, 0x34, 0x35, 0x36, 0x37, 0x38, 0x39] = 0xE3069283 := by decide
theorem test_crc8 : crc8 [0x31, 0x32, 0x33, 0x34, 0x35, 0x36, 0x37, 0x38, 0x39] = 0xF4 := by decide
theorem test_sha384 : (sha384 [0x61, 0x62, 0x63]).take 4 = [0xCB, 0x00, 0x75, 0x3F] := by decide +kernel

/-! ### Engine instructions on small operands (R142, R153, R158) -/

theorem test_add : wordAfter (.add 0) (lane0 2 0 0x30 0 1 0 0 run1 [(0, 0x3F800000), (1, 0x40000000)]) 0x30 = 0x40400000 := by decide
theorem test_add_overflow : wordAfter (.add 0) (lane0 2 0 0x30 0 0 0 0 run1 [(0, 0x7F7FFFFF)]) 0x30 = 0x7F7FFFFF ∧
    fldAfter (.add 0) (lane0 2 0 0x30 0 0 0 0 run1 [(0, 0x7F7FFFFF)]) (R.LPX_STAT_OVF 0) = 1 := by decide
theorem test_sub_order : wordAfter (.sub 0) (lane0 3 0 0x30 0 1 0 0 run1 [(0, 0x3F800000), (1, 0x40000000)]) 0x30 = 0xBF800000 := by decide
theorem test_mul_subnormal : wordAfter (.mul 0) (lane0 4 0 0x30 0 1 0 0 run1 [(0, 1), (1, 0x7F000000)]) 0x30 = 0 := by decide
theorem test_msb : wordAfter (.msb 0) (lane0 6 0 0x30 0 1 2 0 run1 [(0, 0x40000000), (1, 0x40400000), (2, 0x41200000)]) 0x30 = 0x40800000 := by decide
theorem test_div : wordAfter (.div 0) (lane0 0x11 0 0x30 0 1 0 0 run1 [(0, 0x3F800000), (1, 0x40400000)]) 0x30 = 0x3EAAAAAB := by decide
theorem test_div_by_zero : wordAfter (.div 0) (lane0 0x11 0 0x30 0 1 0 0 run1 [(0, 0xBF800000)]) 0x30 = 0xFF7FFFFF ∧
    fldAfter (.div 0) (lane0 0x11 0 0x30 0 1 0 0 run1 [(0, 0xBF800000)]) (R.LPX_STAT_DIVZ 0) = 1 := by decide
theorem test_sqrt : wordAfter (.sqrt 0) (lane0 0x12 0 0x30 0 0 0 0 run1 [(0, 0x40000000)]) 0x30 = 0x3FB504F3 := by decide +kernel
theorem test_sqrt_negative : fldAfter (.sqrt 0) (lane0 0x12 0 0x30 0 0 0 0 run1 [(0, 0xBF800000)]) (R.LPX_STAT_INVALID 0) = 1 := by decide
theorem test_neg_is_a_move : wordAfter (.neg 0) (lane0 7 0 0x30 0 0 0 0 run1 [(0, 0x7FC00001)]) 0x30 = 0xFFC00001 := by decide
theorem test_xor : wordAfter (.xor 0) (lane0 0x22 0 0x30 0 1 0 0 run1 [(0, 0xF0F0), (1, 0xFF00)]) 0x30 = 0x0FF0 := by decide
theorem test_cvtf : wordAfter (.cvtf 0) (lane0 0x17 0 0x30 0 0 0 0 run1 [(0, 7)]) 0x30 = 0x40E00000 := by decide

/-! ### Accesses -/

/-- R4, R11, R105, R12: who may write, how wide, where. -/
theorem test_owner : respAfter (.registerWrite (.core .ta) 0x40000100 .word 0) State.reset = some ⟨ErrKind.owner.code, 0⟩ := by decide
theorem test_width : respAfter (.registerWrite (.core .mc) 0x40000100 .narrow 0) State.reset = some ⟨ErrKind.width.code, 0⟩ := by decide
theorem test_unmapped : respAfter (.registerWrite (.core .mc) 0x50000000 .word 0) State.reset = some ⟨ErrKind.unmapped.code, 0⟩ := by decide
theorem test_nor_protected : respAfter (.memoryWrite (.core .mc) 0x60000000 2 0) State.reset = some ⟨ErrKind.prot.code, 0⟩ := by decide
/-- R101: a byte in TB's partition, little-endian within its word. -/
theorem test_sram_bytes : ((State.reset.sramWrite (.core .tb) 0x20100000 4 0x11223344).byte 0x20100000).toNat = 0x44 ∧
    ((State.reset.sramWrite (.core .tb) 0x20100000 4 0x11223344).byte 0x20100003).toNat = 0x11 := by decide
/-- R126: a warm reset needs its key. -/
theorem test_warm_reset : fldAfter (.warmReset (.core .mc) 0xC3) State.reset ⟨R.SYS_RST_CAUSE, 0, 4⟩ = 4 ∧
    respAfter (.warmReset (.core .mc) 0xC2) State.reset = some ⟨ErrKind.key.code, 0⟩ := by decide

/-- R16: an empty queue lets one clock pass; a command is taken from the front. -/
theorem test_idle : step State.reset = .next State.reset.idle := rfl
theorem test_first_in : step { State.reset with pending := [.vlvHigh, .wake] } = exec .vlvHigh { State.reset with pending := [.wake] } := rfl

end Sys2Proof.Tests
end

section
/-!
SUPPORT. Error responses: what a refused access leaves behind.
-/
namespace Sys2Proof.Machine
namespace State

@[simp] theorem post_resp (s : State) (code l d : Nat) : (s.post code l d).resp = s.resp := by
  unfold post
  split <;> rfl

/-- An error response answers its kind and no data (R122). -/
@[simp] theorem errResp_resp (s : State) (m : Master) (write : Bool) (addr : Nat) (e : ErrKind) :
    (s.errResp m write addr e).resp = ⟨e.code, 0⟩ := by
  unfold errResp
  split
  · exact post_resp ..
  · refine (post_resp ..).trans ?_
    split <;> rfl

/-- The registers an error response may touch: those that report the error, and those that report the loss of its event. -/
theorem errResp_rd_ne (s : State) (m : Master) (write : Bool) (addr : Nat) (e : ErrKind) {a : Nat}
    (h : a ∉ [R.SYS_ERR_ADDR, R.SYS_ERR_INFO, R.SYS_ERR_CNT, PageKind.sys.page 0 + 0x10, R.CAD_J3_LOST, PageKind.cad.page 0 + 0x10,
      R.TND_CERR 0, R.TND_CERR 1]) : (s.errResp m write addr e).rd a = s.rd a := by
  simp only [List.mem_cons, List.not_mem_nil, or_false, not_or] at h
  obtain ⟨hAddr, hInfo, hCnt, hSysEvt, hLost, hCadEvt, hCerr0, hCerr1⟩ := h
  have hCerr : ∀ p, a ≠ (R.TND_CERR (pairOf p)) := by
    intro p
    cases p
    · exact hCerr0
    · exact hCerr1
    · exact hCerr1
  unfold errResp
  split
  · rw [rd_post _ _ _ _ hLost hCadEvt, evt_rd_ne _ _ _ _ hSysEvt, inc_rd_ne _ hCnt, rd_setFld_ne _ _ (hCerr _), inc_rd_ne _ (hCerr _)]
    rfl
  · rw [rd_post _ _ _ _ hLost hCadEvt, evt_rd_ne _ _ _ _ hSysEvt, inc_rd_ne _ hCnt]
    split
    · rfl
    · rw [rd_setFld_ne _ _ hInfo, rd_setFld_ne _ _ hInfo, rd_setFld_ne _ _ hInfo, rd_setFld_ne _ _ hInfo, rd_setFld_ne _ _ hAddr]
      rfl

/-- An error response changes nothing but the answer and the registers that report the error. -/
theorem refused_errResp (s : State) (m : Master) (write : Bool) (addr : Nat) (e : ErrKind) :
    s.Refused (s.errResp m write addr e) e :=
  ⟨errResp_resp .., errResp_within _ _ _ _ _ rfl rfl rfl rfl, fun _ h => errResp_rd_ne _ _ _ _ _ h⟩

/-- A free value taken besides leaves a refusal a refusal. -/
theorem Refused.tookFree {s t : State} {e : ErrKind} (h : s.Refused t e) : s.Refused t.tookFree e := by
  obtain ⟨hresp, hwithin, hrd⟩ := h
  exact ⟨hresp, hwithin.trans (tookFree_within _ rfl), hrd⟩

/-- The answer to a refused access names an error. -/
theorem Refused.kind_ne {s t : State} {e : ErrKind} (h : s.Refused t e) : t.resp.kind ≠ 0 := by
  obtain ⟨hresp, -, -⟩ := h
  rw [hresp]
  cases e <;> decide

end State
end Sys2Proof.Machine
end

section
/-!
SUPPORT. Accesses to a page: where an address that lies in one stands, and how such an access reaches it.
-/
namespace Sys2Proof.Machine

/-- An offset that a row locates is the register's of the units it gives. -/
theorem RegRow.off_of_locate {r : RegRow} {o i j : Nat} (h : r.locate o = some (i, j)) :
    o = r.off + r.stride * i + r.stride2 * j ∧ (i = 0 ∨ i < r.count) := by
  unfold locate at h
  have hd := Nat.div_add_mod (o - r.off) r.stride
  have he := Nat.div_add_mod ((o - r.off) % r.stride) r.stride2
  split at h
  · cases h
  dsimp only at h
  split at h
  · split at h <;> cases h
    exact ⟨by simp only [Nat.mul_zero]; omega, .inl rfl⟩
  split at h
  · cases h
  split at h
  · split at h <;> cases h
    exact ⟨by simp only [Nat.mul_zero]; omega, .inr (by omega)⟩
  · split at h <;> cases h
    exact ⟨by omega, .inr (by omega)⟩

/-- The registers of every row are words apart and start at a word. -/
theorem pageRows_aligned (k : PageKind) (n : Nat) : ∀ r ∈ pageRows k n, r.off % 4 = 0 ∧ r.stride % 4 = 0 ∧ r.stride2 % 4 = 0 := by
  unfold pageRows
  split
  · decide
  · cases k <;> decide

/-- Where a page's address stands: in the 4 KB of a page that exists (R107). -/
theorem pageAt_some {a : Nat} {k : PageKind} {n : Nat} (h : pageAt a = some (k, n)) :
    n < k.count ∧ k.page n ≤ a ∧ a < k.page n + 0x1000 := by
  unfold pageAt at h
  obtain ⟨k', hk', he⟩ := Option.map_eq_some_iff.mp h
  cases he
  have hb := List.find?_some hk'
  simp only [Bool.and_eq_true, decide_eq_true_eq] at hb
  unfold PageKind.page
  omega

theorem pageAt_canBufCfg (c : Fin 4) (b : Fin 128) : pageAt (R.CAN_BUF_CFG c b) = some (.can, c.val) := by
  have h : R.CAN_BUF_CFG c b = PageKind.can.page c + (0x200 + 4 * b) := by
    simp only [R.CAN_BUF_CFG, PageKind.page, PageKind.base]
    omega
  rw [h]
  exact pageAt_page .can c.isLt (by omega)

/-- The pages lie apart from the memories and from the windows (R100, R108). -/
theorem pages_outside_memory (k : PageKind) : 0x40000000 ≤ k.base ∧ k.base + 0x1000 * k.count ≤ 0x60000000 ∧
    ∀ w ∈ [(0x40020000, 0x40028000), (0x40030000, 0x40040000), (0x400B0000, 0x400C0000)],
      k.base + 0x1000 * k.count ≤ w.1 ∨ w.2 ≤ k.base := by
  cases k <;> decide

/-- An address of a page is no address of a memory or of a window. -/
theorem page_not_memory {a : Nat} {k : PageKind} {n : Nat} (h : pageAt a = some (k, n)) :
    inSram a = false ∧ inRom a = false ∧ inNor a = false ∧ State.inProg a = false ∧ State.inTab a = false ∧ State.inCanRam a = false := by
  obtain ⟨hn, hlo, hhi⟩ := pageAt_some h
  obtain ⟨hbase, hend, hwin⟩ := pages_outside_memory k
  simp only [List.mem_cons, List.not_mem_nil, or_false, forall_eq_or_imp, forall_eq] at hwin
  unfold PageKind.page at hlo hhi
  simp only [inSram, inRom, inNor, State.inProg, State.inTab, State.inCanRam, Bool.and_eq_false_iff, decide_eq_false_iff_not]
  omega

namespace State

/-- A write to a page: an aligned word goes to its header or block registers, any other is refused with WIDTH (R11). -/
theorem busWrite_page (s : State) (m : Master) {a : Nat} {k : PageKind} {n : Nat} (wd : Width) (v : Word) (h : pageAt a = some (k, n)) :
    s.busWrite m a wd v = if wd = .narrow ∨ a % 4 ≠ 0 then s.errResp m true a .width
      else if inHeader k a then s.writeHeader m k n a v else s.writeBlock m k n a v := by
  obtain ⟨hSram, hRom, hNor, hProg, hTab, hCan⟩ := page_not_memory h
  simp only [busWrite, hSram, hRom, hNor, hProg, hTab, hCan, h]
  rfl

/-- A read of a page: an aligned word reads a register, any other is refused with WIDTH (R11). -/
theorem busRead_page (s : State) (m : Master) {a : Nat} {k : PageKind} {n : Nat} (w : Nat) (h : pageAt a = some (k, n)) :
    s.busRead m a w = if w ≠ 4 ∨ a % 4 ≠ 0 then s.errResp m false a .width else s.readPage m k n a := by
  obtain ⟨hSram, hRom, hNor, hProg, hTab, hCan⟩ := page_not_memory h
  simp only [busRead, spans, hSram, hRom, hNor, hProg, hTab, hCan, h, Bool.false_and, Bool.or_self]
  rfl

/-- A write that the bus refuses starts no debugger access. -/
theorem access_of_refused {s : State} {m : Master} {a : Nat} {wd : Width} {v : Word} {e : ErrKind}
    (h : s.Refused (s.busWrite m a wd v) e) : s.Refused (s.access m a wd v) e := by
  unfold access
  rw [if_neg fun ⟨_, _, _, h0⟩ => h.kind_ne h0]
  exact h

end State
end Sys2Proof.Machine
end

section
/-!
Registers are aligned words (R11).
-/
open Sys2Proof Sys2Proof.Machine

/-- Settles O51: every row's offset and strides are multiples of 4, and an access to a page passes the test of R11 first. -/
theorem narrowAndUnaligned : Obligations.NarrowAndUnaligned := by
  unfold Obligations.NarrowAndUnaligned
  refine ⟨fun k n r hr o ho => ?_, fun s m a wd v k n hp hw => ?_, fun s m a w k n hp hw => ?_⟩
  · obtain ⟨⟨i, j⟩, hij⟩ := Option.isSome_iff_exists.mp ho
    obtain ⟨hoff, hstride, hstride2⟩ := pageRows_aligned k n r hr
    obtain ⟨rfl, -⟩ := RegRow.off_of_locate hij
    simp [Nat.add_mod, Nat.mul_mod, hoff, hstride, hstride2]
  · refine ⟨_, exec_registerWrite m a wd v s, State.access_of_refused ?_⟩
    rw [State.busWrite_page s m wd v hp, if_pos hw]
    exact State.refused_errResp ..
  · rw [State.busRead_page s m w hp, if_pos hw]
    exact State.refused_errResp ..

end

section
/-!
SUPPORT. Writes by a party with no right on the page (R4, R112): every register, also one whose write is a command of its own, refuses them.
-/
namespace Sys2Proof.Machine

/-- The sender has no right on a page: it is not the owner, nor MC with the lock open, nor the page's agent (R4, R112). -/
structure State.Barred (s : State) (m : Master) (k : PageKind) (n : Nat) : Prop where
  mayWrite : s.mayWrite m k n = false
  isAgent : s.isAgent m k n = false

/-- What an optional answer is, if there is one: a refusal. -/
structure State.RefusedOpt (s : State) (o : Option State) (e : ErrKind) : Prop where
  some_ : ∀ t, o = some t → s.Refused t e

namespace State.RefusedOpt

theorem some {s t : State} {e : ErrKind} (h : s.Refused t e) : s.RefusedOpt (some t) e := ⟨fun _ ht => Option.some.inj ht ▸ h⟩

theorem none (s : State) (e : ErrKind) : s.RefusedOpt none e := ⟨fun _ h => nomatch h⟩

theorem ite {s : State} {c : Prop} [Decidable c] {o p : Option State} {e : ErrKind} (ho : c → s.RefusedOpt o e) (hp : s.RefusedOpt p e) :
    s.RefusedOpt (if c then o else p) e := by
  split
  · next h => exact ho h
  · exact hp

theorem orElse {s : State} {o : Option State} {p : Unit → Option State} {e : ErrKind} (ho : s.RefusedOpt o e)
    (hp : s.RefusedOpt (p ()) e) : s.RefusedOpt (o.orElse p) e := by
  cases o with
  | none => exact hp
  | some t => exact ho

end State.RefusedOpt

namespace State

theorem writePage_barred {s : State} {m : Master} {k : PageKind} {n : Nat} (a : Nat) (errs : List (Bool × ErrKind)) (eff : State → State)
    (hb : s.Barred m k n) : s.Refused (s.writePage m k n a errs eff) .owner := by
  rw [writePage_owner s m a errs eff hb.mayWrite]
  exact refused_errResp ..

theorem ackPage_barred {s : State} {m : Master} {k : PageKind} {n : Nat} (a : Nat) (errs : List (Bool × ErrKind)) (eff : State → State)
    (hb : s.Barred m k n) : s.Refused (s.ackPage m k n a errs eff) .owner := by
  unfold ackPage
  rw [hb.mayWrite, hb.isAgent]
  exact refused_errResp ..

theorem write_barred {s : State} {m : Master} {k : PageKind} {n a : Nat} {errs : List (Bool × ErrKind)} {eff : State → State}
    (hp : pageAt a = some (k, n)) (hb : s.Barred m k n) : s.Refused (s.write m a errs eff) .owner := by
  rw [write_owner s m errs eff hp hb.mayWrite]
  exact refused_errResp ..

/-- The same for a register of a type that has one page only. -/
theorem write_barred_single {s : State} {m : Master} {k : PageKind} {n a : Nat} {errs : List (Bool × ErrKind)} {eff : State → State}
    (hn : n < 1) (hp : pageAt a = some (k, 0)) (hb : s.Barred m k n) : s.Refused (s.write m a errs eff) .owner := by
  obtain rfl := Nat.lt_one_iff.mp hn
  exact write_barred hp hb

end State

/-! ### Commands that a register write may be -/

theorem arm_barred {s : State} {m : Master} (g : Fin 12) (hb : s.Barred m .pg g) : s.Refused (s.run (execArm m g)) .owner := by
  have h : s.run (execArm m g) = if s.mayWrite m .pg g then s.armGroup m g else s.errResp m true (R.PG_ARM g) .owner := rfl
  rw [h, hb.mayWrite]
  exact State.refused_errResp ..

theorem tripLatchClear_gh_barred {s : State} {m : Master} (c : Fin 48) (d p : Bool) (hb : s.Barred m .ghd (c / 4)) :
    s.Refused (s.run (execTripLatchClear m (.gh c) d p)) .owner := by
  have hv : isHv (chanNo (.gh c)) = true := decide_eq_true (show c.val < 64 by omega)
  unfold State.run execTripLatchClear
  simp only [hv, if_true]
  exact State.ackPage_barred _ _ _ hb

theorem tripLatchClear_gl_barred {s : State} {m : Master} (c : Fin 24) (d p : Bool) (hb : s.Barred m .gld (c / 8)) :
    s.Refused (s.run (execTripLatchClear m (.gl c) d p)) .owner := by
  have hv : isHv (chanNo (.gl c)) = false := decide_eq_false (show ¬ 64 + c.val < 64 by omega)
  have hl : (chanLeg (chanNo (.gl c)) - 0x20) / 4 = c / 8 := by
    rw [show chanNo (.gl c) = 64 + c.val from rfl, chanLeg, if_neg (by omega)]
    omega
  unfold State.run execTripLatchClear
  simp only [hv, hl]
  exact State.ackPage_barred _ _ _ hb

/-- Of two commands in one write, each refused, the first that runs refuses the write. -/
theorem BusWrite.two_refused {s : State} {a b : Bool} {f g : State → Out} {e : ErrKind} (hab : (a || b) = true) (hf : s.Refused (s.run f) e)
    (hg : s.Refused (s.run g) e) : s.Refused (BusWrite.two a b f g s) e := by
  unfold two
  cases a with
  | false => rwa [show b = true from hab]
  | true => simpa [hf.kind_ne] using hf

/-! ### Writes whose whole effect is a command of the table -/

namespace BusWrite

theorem directControl_barred {s : State} {w : BusWrite} (hk : w.k ≠ .lpx) (hn : w.n < w.k.count) (hi : w.k = .ghd ∨ w.k = .gld → w.i < 4)
    (hb : s.Barred w.m w.k w.n) : s.RefusedOpt (w.directControl s) .owner := by
  obtain ⟨m, k, n, a, i, v⟩ := w
  cases k
  case lpx => exact absurd rfl hk
  case cad => exact .ite (fun _ => .some (State.write_barred_single (a := R.CAD_ADM_CTL) hn rfl hb)) (.none ..)
  case lpe =>
    have hlane : ∀ l : Fin 4, pageAt (R.LPE_LANE_CTL l) = some (.lpe, 0) := by decide
    exact .ite (fun _ => .some (State.write_barred_single hn (hlane _) hb))
      (.ite (fun _ => .some (State.write_barred_single (a := R.LPE_VAL_CTL) hn rfl hb)) (.none ..))
  case fad => exact .ite (fun _ => .some (State.write_barred_single (a := R.FAD_REF) hn rfl hb)) (.none ..)
  case pg =>
    have hg : (Fin.ofNat 12 n).val = n := Nat.mod_eq_of_lt hn
    have harm : ∀ g : Fin 12, pageAt (R.PG_ARM g) = some (.pg, g.val) := by decide
    have hb' : s.Barred m .pg (Fin.ofNat 12 n).val := by rwa [hg]
    exact .ite (fun h => .some (two_refused h (arm_barred _ hb') (State.write_barred (harm _) hb'))) (.none ..)
  case ghd =>
    have hc : (Fin.ofNat 48 (4 * n + i)).val / 4 = n := by
      have h4 : i < 4 := hi (.inl rfl)
      have h12 : n < 12 := hn
      rw [Fin.val_ofNat]
      omega
    exact .ite (fun _ => .some (tripLatchClear_gh_barred _ _ _ (by rwa [hc]))) (.none ..)
  case gld =>
    have hc : (Fin.ofNat 24 (2 * (4 * n + i))).val / 8 = n := by
      have h4 : i < 4 := hi (.inr rfl)
      have h3 : n < 3 := hn
      rw [Fin.val_ofNat]
      omega
    exact .ite (fun _ => .some (tripLatchClear_gl_barred _ _ _ (by rwa [hc]))) (.none ..)
  all_goals exact .none ..

theorem directDrive_barred {s : State} {w : BusWrite} (hn : w.n < w.k.count) (hb : s.Barred w.m w.k w.n) :
    s.RefusedOpt (w.directDrive s) .owner := by
  obtain ⟨m, k, n, a, i, v⟩ := w
  cases k
  case emu =>
    have hcfg : ∀ e : Fin 2, pageAt (R.EMU_CFG e) = some (.emu, 0) := by decide
    exact .ite (fun _ => .some (State.write_barred_single hn (hcfg _) hb)) (.none ..)
  case trc =>
    have hv : (Fin.ofNat 2 n).val = n := Nat.mod_eq_of_lt hn
    have hctl : ∀ c : Fin 2, pageAt (R.TRC_CTL c) = some (.trc, c.val) := by decide
    have hb' : s.Barred m .trc (Fin.ofNat 2 n).val := by rwa [hv]
    exact .ite (fun h => .some (two_refused h (State.write_barred (hctl _) hb') (State.write_barred (hctl _) hb'))) (.none ..)
  case chg => exact .ite (fun _ => .some (State.write_barred_single (a := R.CHG_CFG) hn rfl hb)) (.none ..)
  case aux => exact .ite (fun _ => .some (State.write_barred_single (a := R.AUX_CFG) hn rfl hb)) (.none ..)
  case act =>
    have hv : (Fin.ofNat 3 n).val = n := Nat.mod_eq_of_lt hn
    have hreg : ∀ c : Fin 3, pageAt (R.ACT_CFG c) = some (.act, c.val) ∧ pageAt (R.ACT_CTL c) = some (.act, c.val) := by decide
    have hb' : s.Barred m .act (Fin.ofNat 3 n).val := by rwa [hv]
    exact .ite (fun _ => .some (State.write_barred (hreg _).1 hb')) (.ite (fun _ => .some (State.write_barred (hreg _).2 hb')) (.none ..))
  all_goals exact .none ..

/-- Every command of CAN_BUFCMD is a write of that register. -/
theorem canBufCmd_barred {s : State} {w : BusWrite} (hn : w.n < 4) (hb : s.Barred w.m .can w.n) : s.Refused (w.canBufCmd s) .owner := by
  have hv : (Fin.ofNat 4 w.n).val = w.n := Nat.mod_eq_of_lt hn
  have hreg : ∀ c : Fin 4, pageAt (R.CAN_BUFCMD c) = some (.can, c.val) := by decide
  rw [← hv] at hb
  unfold canBufCmd
  dsimp only
  split
  · exact State.write_barred (hreg _) hb
  · exact (State.write_barred (hreg _) hb).tookFree
  · exact State.write_barred (hreg _) hb
  · exact State.write_barred (hreg _) hb

theorem directPlanes_barred {s : State} {w : BusWrite} (hn : w.n < w.k.count) (hb : s.Barred w.m w.k w.n) :
    s.RefusedOpt (w.directPlanes s) .owner := by
  obtain ⟨m, k, n, a, i, v⟩ := w
  cases k
  case saf =>
    obtain rfl : n = 0 := Nat.lt_one_iff.mp hn
    exact .ite (fun _ => .some (State.ackPage_barred _ _ _ hb)) (.ite (fun _ => .some (State.ackPage_barred _ _ _ hb)) (.none ..))
  case sio =>
    have hsi : ∀ c : Fin 8, pageAt (R.SIO_SI_CTL c) = some (.sio, 0) := by decide
    have hso : ∀ c : Fin 4, pageAt (R.SIO_SO_CTL c) = some (.sio, 0) := by decide
    exact .ite (fun _ => .some (State.write_barred_single hn (hsi _) hb))
      (.ite (fun _ => .some (State.write_barred_single hn (hso _) hb)) (.none ..))
  case ept =>
    have hctl : ∀ c : Fin 16, pageAt (R.EPT_CTL c) = some (.ept, 0) := by decide
    exact .ite (fun h => .some (two_refused (Bool.and_eq_true_iff.mp h).2 (State.write_barred_single hn (hctl _) hb)
      (State.write_barred_single hn (hctl _) hb)))
      (.none ..)
  case can =>
    have hv : (Fin.ofNat 4 n).val = n := Nat.mod_eq_of_lt hn
    have hctl : ∀ c < 4, pageAt (R.CAN_CTL c) = some (.can, c) := by decide
    exact .ite (fun _ => .some (State.write_barred (hctl n hn) hb)) (.ite (fun _ => .some (canBufCmd_barred hn hb))
      (.ite (fun _ => .some (State.write_barred (pageAt_canBufCfg _ _) (by rwa [hv])).tookFree) (.none ..)))
  case eth =>
    have hv : (Fin.ofNat 2 n).val = n := Nat.mod_eq_of_lt hn
    have hctl : ∀ c < 2, pageAt (R.ETH_CTL c) = some (.eth, c) := by decide
    have hkick : ∀ c : Fin 2, pageAt (R.ETH_TXKICK c) = some (.eth, c.val) := by decide
    exact .ite (fun _ => .some (State.write_barred (hctl n hn) hb))
      (.ite (fun _ => .some (State.write_barred (hkick _) (by rwa [hv]))) (.none ..))
  case hsp => exact .ite (fun _ => .some (State.write_barred_single (a := R.AUXL_TXCTL) hn rfl hb)) (.none ..)
  case sys => exact .ite (fun _ => .some (State.write_barred_single (a := R.SYS_RST_CTL) hn rfl hb)) (.none ..)
  case tmp =>
    have hcfg : ∀ c : Fin 8, pageAt (R.TMP_DRT_CFG c) = some (.tmp, 0) := by decide
    exact .ite (fun _ => .some (State.write_barred_single hn (hcfg _) hb)) (.none ..)
  all_goals exact .none ..

theorem direct_barred {s : State} {w : BusWrite} (hk : w.k ≠ .lpx) (hn : w.n < w.k.count) (hi : w.k = .ghd ∨ w.k = .gld → w.i < 4)
    (hb : s.Barred w.m w.k w.n) : s.RefusedOpt (w.direct s) .owner :=
  .orElse (.orElse (directControl_barred hk hn hi hb) (directDrive_barred hn hb)) (directPlanes_barred hn hb)

end BusWrite

/-- A driver die's registers come by channel or leg, and there are four of them. -/
theorem die_unit_lt {k : PageKind} {n o i j : Nat} {r : RegRow} (hk : k = .ghd ∨ k = .gld) (hr : r ∈ pageRows k n)
    (hl : r.locate o = some (i, j)) : i < 4 := by
  have hcount : ∀ r ∈ rowsGhd ++ rowsGld, r.count ≤ 4 := by decide
  have hc : r.count ≤ 4 := hcount r (List.mem_append.mpr (hk.imp (fun e => by subst e; exact hr) fun e => by subst e; exact hr))
  rcases (RegRow.off_of_locate hl).2 with h | h <;> omega

namespace State

/-- A block register of a page outside the engine's contexts refuses a sender with no right on the page. -/
theorem writeBlock_barred {s : State} {m : Master} {k : PageKind} {n : Nat} (a : Nat) (v : Word) (hk : k ≠ .lpx) (hn : n < k.count)
    (hb : s.Barred m k n) : s.Refused (s.writeBlock m k n a v) .owner := by
  unfold writeBlock
  split
  · exact writePage_barred _ _ _ hb
  next r hr =>
    have hloc := List.find?_some hr
    obtain ⟨⟨i, j⟩, hij⟩ := Option.isSome_iff_exists.mp hloc
    have hi : k = .ghd ∨ k = .gld → i < 4 := fun h => die_unit_lt h (List.mem_of_find?_eq_some hr) hij
    rw [hij]
    dsimp only [Option.getD_some]
    split
    next t ht => exact (BusWrite.direct_barred (w := ⟨m, k, n, a, i, v⟩) hk hn hi hb).some_ t ht
    · rw [hb.mayWrite, hb.isAgent]
      exact refused_errResp ..

end State
end Sys2Proof.Machine
end

section
/-!
The right to write a page (R4, R112, R122).
-/
open Sys2Proof Sys2Proof.Machine

/-- Settles O56: the block registers refuse a sender with no right on the page, those included whose write is a command of its own. -/
theorem ownershipRefusal : Obligations.OwnershipRefusal := by
  unfold Obligations.OwnershipRefusal
  intro s m a v k n hp ha hk hw hg hh
  obtain ⟨hn, -, -⟩ := pageAt_some hp
  refine ⟨_, exec_registerWrite m a .word v s, State.access_of_refused ?_⟩
  rw [State.busWrite_page s m .word v hp, if_neg (by simp [ha]), hh]
  exact State.writeBlock_barred a.toNat v hk hn ⟨hw, hg⟩

end

section
/-!
SUPPORT. Frames of commands, from the frames of their meanings.
-/
namespace Sys2Proof.Machine

theorem touches_of_within {c : Instr} {l : List Part} (h : ∀ s, WithinOut l.contains s (exec c s)) : Touches c l :=
  fun s t e => (h s).next_ t e

/-- An instruction command that issues its lane's next instruction touches what an issue touches, whatever the instruction's function. -/
theorem touches_of_insOut {c : Instr} {lane : Fin 4} {op : Nat} {f : State → Run → Ins → Eff} (h : ∀ s, exec c s = insOut lane op f s) :
    Touches c [.free, .j3, .regs, .cad, .eng, .pwm, .safe] :=
  touches_of_within fun s => h s ▸ insOut_within lane op f s rfl rfl rfl rfl rfl rfl rfl

end Sys2Proof.Machine
end

section
/-!
What the commands of the engine and of the tick leave alone.
-/
open Sys2Proof Sys2Proof.Machine

/-- Settles O35: each command of the tick, the lanes and the contexts by the frame of its meaning, and the 46 instructions by that of an
issue. -/
theorem engineFrames : Obligations.EngineFrames := by
  unfold Obligations.EngineFrames
  refine ⟨
    touches_of_within fun s => execTickBoundary_within s rfl rfl rfl rfl rfl rfl rfl rfl rfl rfl rfl rfl rfl rfl rfl rfl rfl,
    touches_of_within fun s => execTickMismatch_within s rfl rfl rfl rfl rfl rfl,
    fun m => touches_of_within fun s => execAdmissionRequest_within m s rfl rfl rfl rfl rfl,
    touches_of_within fun s => execAdmissionCheckDone_within s rfl rfl rfl rfl,
    fun lane ecc => touches_of_within fun s => execTickRunDispatch_within lane ecc s rfl rfl rfl rfl rfl rfl rfl rfl,
    fun lane => touches_of_within fun s => execRunComplete_within lane s rfl rfl rfl rfl rfl rfl rfl,
    fun lane crit => touches_of_within fun s => execRunDeadlineAbort_within lane crit s rfl rfl rfl rfl,
    fun c => touches_of_within fun s => execContextDropFault_within c s rfl rfl rfl rfl rfl rfl,
    touches_of_within fun s => execJ3LostReport_within s rfl rfl rfl,
    fun lane => touches_of_within fun s => execReissue_within lane s rfl rfl rfl rfl rfl rfl,
    fun lane => touches_of_within fun s => execLaneFault_within lane s rfl rfl rfl rfl rfl rfl,
    fun m lane => touches_of_within fun s => execLaneCheck_within m lane s rfl rfl rfl rfl rfl,
    fun lane pass => touches_of_within fun s => execLaneCheckDone_within lane pass s rfl rfl,
    fun m c req => touches_of_within fun s => execStateRequest_within m c req s rfl rfl rfl rfl rfl,
    fun c => touches_of_within fun s => execFollowingErrorTrip_within c s rfl rfl rfl rfl rfl,
    fun m c v => touches_of_within fun s => execContextWordWrite_within m c v s rfl rfl rfl rfl rfl rfl,
    fun m c => touches_of_within fun s => execContextWordRead_within m c s rfl rfl rfl rfl rfl,
    fun m k v => touches_of_within fun s => execEngineConstantWrite_within m k v s rfl rfl rfl rfl rfl,
    fun m k v => touches_of_within fun s => execProgramMemoryWrite_within m k v s rfl rfl rfl rfl rfl rfl rfl,
    fun m k v => touches_of_within fun s => execTableMemoryWrite_within m k v s rfl rfl rfl rfl rfl rfl rfl,
    fun m start len => touches_of_within fun s => execValidationStart_within m start len s rfl rfl rfl rfl rfl,
    touches_of_within fun s => execValidationDone_within s rfl rfl rfl rfl,
    fun lane => touches_of_within fun s => execDutyPortApply_within lane s rfl rfl rfl rfl rfl rfl rfl,
    fun lane => touches_of_within fun s => execUndefinedInstruction_within lane s rfl rfl rfl rfl rfl rfl, ?_⟩
  and_intros <;> exact fun _ => touches_of_insOut fun _ => rfl

end

section
/-!
SUPPORT. Every command at once: what `exec` answers, whatever the command, and what it keeps.
-/
namespace Sys2Proof.Machine

/-- No meaning branches on the kind of its answer: each is a next state, whose branches are within (log entry 7). -/
theorem exec_next (c : Instr) (s : State) : ∃ t, exec c s = .next t := by
  cases c <;> exact ⟨_, rfl⟩

/-- Every command leaves the queue of waiting commands and keeps a canonical state canonical: each by the frame of its meaning, and the
instructions by that of an issue. -/
theorem exec_within (c : Instr) (s : State) : WithinOut (fun _ => true) s (exec c s) := by
  cases c with
  | powerOnReset => apply execPowerOnReset_within <;> rfl
  | resetRelease => apply execResetRelease_within <;> rfl
  | wake => exact execWake_within s rfl
  | warmReset => apply execWarmReset_within <;> rfl
  | tickBoundary => apply execTickBoundary_within <;> rfl
  | tickMismatch => apply execTickMismatch_within <;> rfl
  | admissionRequest => apply execAdmissionRequest_within <;> rfl
  | admissionCheckDone => apply execAdmissionCheckDone_within <;> rfl
  | tickRunDispatch => apply execTickRunDispatch_within <;> rfl
  | runComplete => apply execRunComplete_within <;> rfl
  | runDeadlineAbort => apply execRunDeadlineAbort_within <;> rfl
  | contextDropFault => apply execContextDropFault_within <;> rfl
  | mailboxWordWrite => apply execMailboxWordWrite_within <;> rfl
  | mailboxCommit => apply execMailboxCommit_within <;> rfl
  | j3LostReport => apply execJ3LostReport_within <;> rfl
  | registerWrite => apply execRegisterWrite_within <;> rfl
  | accessTimeout => apply execAccessTimeout_within <;> rfl
  | pageSrst => apply execPageSrst_within <;> rfl
  | pageLockWrite => apply execPageLockWrite_within <;> rfl
  | pageCommit => apply execPageCommit_within <;> rfl
  | evtSetWrite => apply execEvtSetWrite_within <;> rfl
  | stagedWrite => apply execStagedWrite_within <;> rfl
  | sramRead => apply execSramRead_within <;> rfl
  | memoryWrite => apply execMemoryWrite_within <;> rfl
  | norWindowRead => apply execNorWindowRead_within <;> rfl
  | pfWarnFalling => apply execPfWarnFalling_within <;> rfl
  | pfWarnCleared => exact execPfWarnCleared_within s rfl
  | uvOff => apply execUvOff_within <;> rfl
  | pfFlushEnd => apply execPfFlushEnd_within <;> rfl
  | flushRestart => apply execFlushRestart_within <;> rfl
  | holdupCutoff => apply execHoldupCutoff_within <;> rfl
  | vlvHigh => apply execVlvHigh_within <;> rfl
  | holdupCharged => exact execHoldupCharged_within s rfl
  | holdupMeasured => apply execHoldupMeasured_within <;> rfl
  | backupFail => apply execBackupFail_within <;> rfl
  | gatePwrHigh => apply execGatePwrHigh_within <;> rfl
  | gateOverload => apply execGateOverload_within <;> rfl
  | sensOc => apply execSensOc_within <;> rfl
  | x2Attach => apply execX2Attach_within <;> rfl
  | x1LoopOpen => apply execX1LoopOpen_within <;> rfl
  | x2LoopOpen => apply execX2LoopOpen_within <;> rfl
  | detachRequest => apply execDetachRequest_within <;> rfl
  | detachReady => apply execDetachReady_within <;> rfl
  | detachCancel => apply execDetachCancel_within <;> rfl
  | detachTimeout => apply execDetachTimeout_within <;> rfl
  | reissue => apply execReissue_within <;> rfl
  | laneFault => apply execLaneFault_within <;> rfl
  | laneCheck => apply execLaneCheck_within <;> rfl
  | laneCheckDone => apply execLaneCheckDone_within <;> rfl
  | stateRequest => apply execStateRequest_within <;> rfl
  | followingErrorTrip => apply execFollowingErrorTrip_within <;> rfl
  | contextWordWrite => apply execContextWordWrite_within <;> rfl
  | contextWordRead => apply execContextWordRead_within <;> rfl
  | engineConstantWrite => apply execEngineConstantWrite_within <;> rfl
  | programMemoryWrite => apply execProgramMemoryWrite_within <;> rfl
  | tableMemoryWrite => apply execTableMemoryWrite_within <;> rfl
  | validationStart => apply execValidationStart_within <;> rfl
  | validationDone => apply execValidationDone_within <;> rfl
  | dutyPortApply => apply execDutyPortApply_within <;> rfl
  | undefinedInstruction => apply execUndefinedInstruction_within <;> rfl
  | conversionEnd => apply execConversionEnd_within <;> rfl
  | longWindowClose src => exact execLongWindowClose_within src s rfl
  | windowAverageDelivery => apply execWindowAverageDelivery_within <;> rfl
  | referenceSelect => apply execReferenceSelect_within <;> rfl
  | referenceReady => apply execReferenceReady_within <;> rfl
  | refFail => apply execRefFail_within <;> rfl
  | lastRead => apply execLastRead_within <;> rfl
  | faqPop => apply execFaqPop_within <;> rfl
  | faqDiscard => apply execFaqDiscard_within <;> rfl
  | faqFallbackWrite => apply execFaqFallbackWrite_within <;> rfl
  | hkRoundStart => apply execHkRoundStart_within <;> rfl
  | hkSlotEnd => apply execHkSlotEnd_within <;> rfl
  | hkStall => apply execHkStall_within <;> rfl
  | monitorTrip => apply execMonitorTrip_within <;> rfl
  | monitorRelease => apply execMonitorRelease_within <;> rfl
  | monitorResolve => apply execMonitorResolve_within <;> rfl
  | monitorSwapCheck => apply execMonitorSwapCheck_within <;> rfl
  | monitorTieCheck => apply execMonitorTieCheck_within <;> rfl
  | monitorCheckDone => apply execMonitorCheckDone_within <;> rfl
  | carrierPeriodStart => apply execCarrierPeriodStart_within <;> rfl
  | halfPeriodPoint g => exact execHalfPeriodPoint_within g s rfl
  | cntMismatch => apply execCntMismatch_within <;> rfl
  | edgeDue => apply execEdgeDue_within <;> rfl
  | arm => apply execArm_within <;> rfl
  | armingComplete => apply execArmingComplete_within <;> rfl
  | armingAbort => apply execArmingAbort_within <;> rfl
  | disarm => apply execDisarm_within <;> rfl
  | disarmTakeEffect => apply execDisarmTakeEffect_within <;> rfl
  | idleFrame => apply execIdleFrame_within <;> rfl
  | edgeFrame => apply execEdgeFrame_within <;> rfl
  | safeFrame => apply execSafeFrame_within <;> rfl
  | regFrame => apply execRegFrame_within <;> rfl
  | cfgFrame => apply execCfgFrame_within <;> rfl
  | statusFrame => apply execStatusFrame_within <;> rfl
  | dieLinkLoss => apply execDieLinkLoss_within <;> rfl
  | controllerLinkLoss => apply execControllerLinkLoss_within <;> rfl
  | linkTrained k => exact execLinkTrained_within k s rfl
  | linkCalDone k trim => exact execLinkCalDone_within k trim s rfl
  | linkRestart => apply execLinkRestart_within <;> rfl
  | regionMismatch => apply execRegionMismatch_within <;> rfl
  | dsatTrip => apply execDsatTrip_within <;> rfl
  | twoStepHoldEnd c => exact execTwoStepHoldEnd_within c s rfl
  | supplyUvlo => apply execSupplyUvlo_within <;> rfl
  | readySet => apply execReadySet_within <;> rfl
  | clampOn c => exact execClampOn_within c s rfl
  | channelPwrHigh => apply execChannelPwrHigh_within <;> rfl
  | channelPwrTrip => apply execChannelPwrTrip_within <;> rfl
  | tripLatchClear => apply execTripLatchClear_within <;> rfl
  | bootstrapUvlo => apply execBootstrapUvlo_within <;> rfl
  | lvDieSupplyFault => apply execLvDieSupplyFault_within <;> rfl
  | refreshPulse => apply execRefreshPulse_within <;> rfl
  | refreshPulseEnd => apply execRefreshPulseEnd_within <;> rfl
  | chopperSample => exact execChopperSample_within s rfl
  | chopperFault => apply execChopperFault_within <;> rfl
  | speedFreewheelChange => apply execSpeedFreewheelChange_within <;> rfl
  | quadratureEdge => apply execQuadratureEdge_within <;> rfl
  | illegalTransition => apply execIllegalTransition_within <;> rfl
  | illWindowEnd p => exact execIllWindowEnd_within p s rfl
  | indexPulse => apply execIndexPulse_within <;> rfl
  | hallEdge => apply execHallEdge_within <;> rfl
  | resolverResult => apply execResolverResult_within <;> rfl
  | serialWord => apply execSerialWord_within <;> rfl
  | serialWordTimeout => apply execSerialWordTimeout_within <;> rfl
  | standstill => apply execStandstill_within <;> rfl
  | posRestart => apply execPosRestart_within <;> rfl
  | sensorFault => apply execSensorFault_within <;> rfl
  | emuStep => apply execEmuStep_within <;> rfl
  | emuEnable => apply execEmuEnable_within <;> rfl
  | trcDeclaration => apply execTrcDeclaration_within <;> rfl
  | dropModeChange => apply execDropModeChange_within <;> rfl
  | degradeWarning => apply execDegradeWarning_within <;> rfl
  | degradeExpiry => apply execDegradeExpiry_within <;> rfl
  | trcClear => apply execTrcClear_within <;> rfl
  | keIdentification => apply execKeIdentification_within <;> rfl
  | keRestart => apply execKeRestart_within <;> rfl
  | chgEnable => apply execChgEnable_within <;> rfl
  | cpEdge => apply execCpEdge_within <;> rfl
  | cpOscTimeout => apply execCpOscTimeout_within <;> rfl
  | cpCapture high code => exact execCpCapture_within high code s rfl
  | cpStateChange => apply execCpStateChange_within <;> rfl
  | ppRatingChange => apply execPpRatingChange_within <;> rfl
  | handshakeTimeout => apply execHandshakeTimeout_within <;> rfl
  | gridZeroCrossing => apply execGridZeroCrossing_within <;> rfl
  | gridOkSet => exact execGridOkSet_within s rfl
  | gridVoltageTrip => apply execGridVoltageTrip_within <;> rfl
  | gridFrequencyTrip => apply execGridFrequencyTrip_within <;> rfl
  | powerLimitTrip => apply execPowerLimitTrip_within <;> rfl
  | driveInterlock => apply execDriveInterlock_within <;> rfl
  | auxEnable => apply execAuxEnable_within <;> rfl
  | auxTestPulseEnd => apply execAuxTestPulseEnd_within <;> rfl
  | auxSoftStartLimit => exact execAuxSoftStartLimit_within s rfl
  | auxSoftStartTimeout => apply execAuxSoftStartTimeout_within <;> rfl
  | auxOverload => exact execAuxOverload_within s rfl
  | auxHiccupEnd => exact execAuxHiccupEnd_within s rfl
  | auxRunStable => exact execAuxRunStable_within s rfl
  | auxlCommandFrame => apply execAuxlCommandFrame_within <;> rfl
  | auxlRxRead => apply execAuxlRxRead_within <;> rfl
  | auxlLinkTimeout => apply execAuxlLinkTimeout_within <;> rfl
  | auxlAckSend => apply execAuxlAckSend_within <;> rfl
  | auxlTxDone => exact execAuxlTxDone_within s rfl
  | actEnable => apply execActEnable_within <;> rfl
  | actHallEdge => apply execActHallEdge_within <;> rfl
  | actHallFault => apply execActHallFault_within <;> rfl
  | actSwSample => apply execActSwSample_within <;> rfl
  | actDesync => apply execActDesync_within <;> rfl
  | actSpeedTimeout => apply execActSpeedTimeout_within <;> rfl
  | actPrechargeEnd => apply execActPrechargeEnd_within <;> rfl
  | actObserveEnd => apply execActObserveEnd_within <;> rfl
  | actRevbrakeEnd => apply execActRevbrakeEnd_within <;> rfl
  | actCatchTimeout => apply execActCatchTimeout_within <;> rfl
  | actAlignEnd => apply execActAlignEnd_within <;> rfl
  | actRampEnd => apply execActRampEnd_within <;> rfl
  | actRetryEnd => apply execActRetryEnd_within <;> rfl
  | actRunStable => apply execActRunStable_within <;> rfl
  | actStall => apply execActStall_within <;> rfl
  | actEmfFault => apply execActEmfFault_within <;> rfl
  | actZero => apply execActZero_within <;> rfl
  | parkSlip => apply execParkSlip_within <;> rfl
  | shiftGo => apply execShiftGo_within <;> rfl
  | shiftAbort => apply execShiftAbort_within <;> rfl
  | shiftStepTimeout => apply execShiftStepTimeout_within <;> rfl
  | faultLineRaise => apply execFaultLineRaise_within <;> rfl
  | pendingClear => apply execPendingClear_within <;> rfl
  | holdMaxExpiry => apply execHoldMaxExpiry_within <;> rfl
  | release => apply execRelease_within <;> rfl
  | faultInject => apply execFaultInject_within <;> rfl
  | safetyInputChange => apply execSafetyInputChange_within <;> rfl
  | siDiscrepancy => apply execSiDiscrepancy_within <;> rfl
  | siTestPulse => apply execSiTestPulse_within <;> rfl
  | siReset => apply execSiReset_within <;> rfl
  | soHighSideClose => apply execSoHighSideClose_within <;> rfl
  | soSwitchTest => apply execSoSwitchTest_within <;> rfl
  | soTestEnd => apply execSoTestEnd_within <;> rfl
  | soOvercurrent => apply execSoOvercurrent_within <;> rfl
  | soDegradeExpiry => apply execSoDegradeExpiry_within <;> rfl
  | soReset => apply execSoReset_within <;> rfl
  | eptalSend => apply execEptalSend_within <;> rfl
  | eptalSendMiss => apply execEptalSendMiss_within <;> rfl
  | eptalCopy => apply execEptalCopy_within <;> rfl
  | eptalWindowExpiry => apply execEptalWindowExpiry_within <;> rfl
  | eptalSingleExpiry => apply execEptalSingleExpiry_within <;> rfl
  | eptalDeliveryTimeout => apply execEptalDeliveryTimeout_within <;> rfl
  | eptalReset => apply execEptalReset_within <;> rfl
  | gateMismatch => apply execGateMismatch_within <;> rfl
  | stateFold => apply execStateFold_within <;> rfl
  | foldRequest => apply execFoldRequest_within <;> rfl
  | cacheEccError => apply execCacheEccError_within <;> rfl
  | assayVerdict => apply execAssayVerdict_within <;> rfl
  | assayTimeout => apply execAssayTimeout_within <;> rfl
  | restartFetch => apply execRestartFetch_within <;> rfl
  | scWarning => apply execScWarning_within <;> rfl
  | scExpiry => apply execScExpiry_within <;> rfl
  | assayRequest => apply execAssayRequest_within <;> rfl
  | splitRequest => apply execSplitRequest_within <;> rfl
  | splitSync => apply execSplitSync_within <;> rfl
  | splitTimeout => apply execSplitTimeout_within <;> rfl
  | rejoinRequest => apply execRejoinRequest_within <;> rfl
  | rejoinSync p => exact execRejoinSync_within p s rfl
  | rejoinCopyDone => apply execRejoinCopyDone_within <;> rfl
  | rejoinTimeout => apply execRejoinTimeout_within <;> rfl
  | debugHalt => apply execDebugHalt_within <;> rfl
  | debugResume => apply execDebugResume_within <;> rfl
  | debugStep => apply execDebugStep_within <;> rfl
  | debugStateWrite => apply execDebugStateWrite_within <;> rfl
  | canStartOfFrame => apply execCanStartOfFrame_within <;> rfl
  | canFrameReceived => apply execCanFrameReceived_within <;> rfl
  | canTxDone => apply execCanTxDone_within <;> rfl
  | canTxError => apply execCanTxError_within <;> rfl
  | canBusOff => apply execCanBusOff_within <;> rfl
  | canRecover => apply execCanRecover_within <;> rfl
  | canRecoveryDone => apply execCanRecoveryDone_within <;> rfl
  | canCommit => apply execCanCommit_within <;> rfl
  | canCancel => apply execCanCancel_within <;> rfl
  | canLock => apply execCanLock_within <;> rfl
  | canRelease => apply execCanRelease_within <;> rfl
  | canBufferConfig => apply execCanBufferConfig_within <;> rfl
  | canDominantTimeout n => exact execCanDominantTimeout_within n s rfl
  | ethFrameReceived => apply execEthFrameReceived_within <;> rfl
  | ethTxKick => apply execEthTxKick_within <;> rfl
  | ethTxDone => apply execEthTxDone_within <;> rfl
  | ethLinkChange => apply execEthLinkChange_within <;> rfl
  | hspRead => apply execHspRead_within <;> rfl
  | hspWrite => apply execHspWrite_within <;> rfl
  | hspNop => apply execHspNop_within <;> rfl
  | hspTimeout => apply execHspTimeout_within <;> rfl
  | romStageDone => apply execRomStageDone_within <;> rfl
  | earlyServiceReady => apply execEarlyServiceReady_within <;> rfl
  | hallmarkSlotVerified => apply execHallmarkSlotVerified_within <;> rfl
  | fullServiceStart => apply execFullServiceStart_within <;> rfl
  | earlyMaxExpiry => apply execEarlyMaxExpiry_within <;> rfl
  | earlyOverspeed => apply execEarlyOverspeed_within <;> rfl
  | earlyDemandTimeout => apply execEarlyDemandTimeout_within <;> rfl
  | imageConfirm => apply execImageConfirm_within <;> rfl
  | rollbackAdvance => apply execRollbackAdvance_within <;> rfl
  | slotOpen => apply execSlotOpen_within <;> rfl
  | slotClose => apply execSlotClose_within <;> rfl
  | slotActivate => apply execSlotActivate_within <;> rfl
  | activationDone => apply execActivationDone_within <;> rfl
  | attestationRequest => apply execAttestationRequest_within <;> rfl
  | attestationDone => apply execAttestationDone_within <;> rfl
  | nonceDraw => apply execNonceDraw_within <;> rfl
  | statementSubmit => apply execStatementSubmit_within <;> rfl
  | authStatement => apply execAuthStatement_within <;> rfl
  | changeStatement => apply execChangeStatement_within <;> rfl
  | lifecycleStatement => apply execLifecycleStatement_within <;> rfl
  | clearStatement => apply execClearStatement_within <;> rfl
  | revokeStatement => apply execRevokeStatement_within <;> rfl
  | lifecycleHoldExpiry => apply execLifecycleHoldExpiry_within <;> rfl
  | authLogout => apply execAuthLogout_within <;> rfl
  | authSessionExpiry => apply execAuthSessionExpiry_within <;> rfl
  | changeOpen => apply execChangeOpen_within <;> rfl
  | changeSeal => apply execChangeSeal_within <;> rfl
  | changeDigestDone => apply execChangeDigestDone_within <;> rfl
  | changeCommit => apply execChangeCommit_within <;> rfl
  | changeWindowExpiry => apply execChangeWindowExpiry_within <;> rfl
  | changeAbort => apply execChangeAbort_within <;> rfl
  | debugOpen => apply execDebugOpen_within <;> rfl
  | debugClose => apply execDebugClose_within <;> rfl
  | debugAccess => apply execDebugAccess_within <;> rfl
  | recordCapture => apply execRecordCapture_within <;> rfl
  | ringRoomRecord => apply execRingRoomRecord_within <;> rfl
  | rateWindowEnd => apply execRateWindowEnd_within <;> rfl
  | startFlush => apply execStartFlush_within <;> rfl
  | flushPeriodic => apply execFlushPeriodic_within <;> rfl
  | flushBacklog => apply execFlushBacklog_within <;> rfl
  | flushRequest => apply execFlushRequest_within <;> rfl
  | flushDone => apply execFlushDone_within <;> rfl
  | clearEraseDone => apply execClearEraseDone_within <;> rfl
  | norProgramPage => apply execNorProgramPage_within <;> rfl
  | norEraseSector => apply execNorEraseSector_within <;> rfl
  | norResetDie => apply execNorResetDie_within <;> rfl
  | norOpDone => apply execNorOpDone_within <;> rfl
  | norOpTimeout => apply execNorOpTimeout_within <;> rfl
  | derateChannelWrite => apply execDerateChannelWrite_within <;> rfl
  | bistRequest => apply execBistRequest_within <;> rfl
  | bistDone => apply execBistDone_within <;> rfl
  | bistAbort => apply execBistAbort_within <;> rfl
  | bistRepair => apply execBistRepair_within <;> rfl
  | prechargeEnd => apply execPrechargeEnd_within <;> rfl
  | deadTimeEnd => apply execDeadTimeEnd_within <;> rfl
  | lvSoftTurnOffEnd l => exact execLvSoftTurnOffEnd_within l s rfl
  | canReceiveError => apply execCanReceiveError_within <;> rfl
  | backupSupplyChange => apply execBackupSupplyChange_within <;> rfl
  | hl21TestStart => apply execHl21TestStart_within <;> rfl
  | nop l | mov l | add l | sub l | mul l | mac l | msb l | neg l | abs l | min l | max l | clamp l | lerp l | rate l | wrap l | rcp l
  | rsq l | div l | sqrt l | hyp l | atan2 l | sincos l | cvti l | cvtf l | cmplt l | cmple l | cmpeq l | cmpag l | pandlt l | porlt l
  | sel l | btst l | and l | or l | xor l | shr l | clk3 l | vsd6 l | park l | ipark l | parksc l | iparksc l | pic l | svm l | lut1 l
  | lut2 l =>
    exact insOut_within l _ _ s rfl rfl rfl rfl rfl rfl rfl

end Sys2Proof.Machine
end

section
/-!
SUPPORT. A step: a command with the rest of the queue, or one clock, which the time counts (R16).
-/
namespace Sys2Proof.Machine

theorem step_cons {s : State} {c : Instr} {rest : List Instr} (h : s.pending = c :: rest) : step s = exec c { s with pending := rest } := by
  unfold step
  rw [h]

theorem step_nil {s : State} (h : s.pending = []) : step s = .next s.idle := by
  unfold step
  rw [h]

namespace State

/-- The canonical form says nothing of the queue of waiting commands. -/
theorem Canonical.withPending {s : State} (h : s.Canonical) (l : List Instr) : ({ s with pending := l } : State).Canonical :=
  ⟨h.mem, h.bad, h.regs, h.srst, h.live, h.staged, h.prog, h.tab, h.canAct, h.canShadow, h.j3⟩

theorem idle_keeps (s : State) : Within (fun _ => true) s s.idle := by
  apply idle_within <;> rfl

/-- Every part of the state but the time. -/
def notClock (p : Part) : Bool := p != .clock

theorem clockLevels_now (s : State) : s.clockLevels.now = s.now :=
  (clockLevels_within (P := notClock) s rfl rfl rfl rfl rfl rfl rfl rfl rfl rfl rfl rfl).same .clock rfl

theorem clockSecond_now (s : State) : s.clockSecond.now = s.now := (clockSecond_within (P := notClock) s rfl rfl).same .clock rfl

theorem srstClock_now (s : State) : s.srstClock.now = s.now := (srstClock_within (P := notClock) s rfl).same .clock rfl

theorem carrierClock_now (s : State) (g : Nat) : (s.carrierClock g).now = s.now :=
  (carrierClock_within (P := notClock) s g rfl rfl).same .clock rfl

theorem schedBoundary_now (s : State) (g : Nat) : (s.schedBoundary g).now = s.now :=
  (schedBoundary_within (P := notClock) s g rfl).same .clock rfl

theorem windowBoundary_now (s : State) (g : Nat) : (s.windowBoundary g).now = s.now :=
  (windowBoundary_within (P := notClock) s g rfl).same .clock rfl

theorem showPos_now (s : State) (p : Nat) : (s.showPos p).now = s.now := (showPos_within (P := notClock) s p rfl).same .clock rfl

theorem each_now {f : State → Nat → State} (s : State) (l : List Nat) (h : ∀ s i, (f s i).now = s.now) : (s.each l f).now = s.now := by
  unfold each
  induction l generalizing s with
  | nil => rfl
  | cons i l ih => exact (ih (f s i)).trans (h s i)

/-- The counters of the clock count it once. -/
theorem clockCounts_now (s : State) : s.clockCounts.now = s.now + 1 := by
  unfold clockCounts
  simp only [apply_ite State.now, windowBoundary_now, ite_self]
  rw [each_now _ _ fun s l => by split <;> rfl, each_now _ _ schedBoundary_now, each_now _ _ carrierClock_now]
  split <;> rfl

theorem idle_now (s : State) : s.idle.now = s.now + 1 := by
  unfold idle
  simp only [srstClock_now, apply_ite State.now, clockSecond_now, ite_self]
  rw [each_now _ _ showPos_now, clockCounts_now, clockLevels_now]

end State
end Sys2Proof.Machine
end

section
/-!
What a step runs, and what every step keeps.
-/
open Sys2Proof Sys2Proof.Machine

/-- Settles O45: a clock by the frame of `idle`, a command by that of `exec`. -/
theorem stepKeepsCanonical : Obligations.StepKeepsCanonical := by
  unfold Obligations.StepKeepsCanonical
  intro s t hs ht
  cases hq : s.pending with
  | nil =>
    rw [step_nil hq] at ht
    cases ht
    exact s.idle_keeps.canonical hs
  | cons c rest =>
    rw [step_cons hq] at ht
    exact ((exec_within c _).next_ t ht).canonical (hs.withPending rest)

/-- Settles O46: the answer is a next state by the form of every meaning, and the queue stays by the frame of `exec`. -/
theorem everyCommandAnswers : Obligations.EveryCommandAnswers := by
  unfold Obligations.EveryCommandAnswers
  intro c s
  obtain ⟨t, ht⟩ := exec_next c s
  exact ⟨t, ht, ((exec_within c s).next_ t ht).pending⟩

/-- Settles O42: the first equation of `step`. -/
theorem stepRunsFront : Obligations.StepRunsFront := by
  unfold Obligations.StepRunsFront
  exact fun s c rest hq => step_cons hq

/-- Settles O43: the second equation of `step`; of the clock's parts only its counters touch the time. -/
theorem emptyQueueIdles : Obligations.EmptyQueueIdles := by
  unfold Obligations.EmptyQueueIdles
  exact fun s hq => ⟨s.idle, step_nil hq, rfl, s.idle_now, s.idle_keeps.pending.trans hq⟩

end

section
/-!
SUPPORT. The values of registers after reset (R13, R107, R126).
-/
namespace Sys2Proof.Machine

/-- A register of a context's frame has the reset value that its row gives, the same for every context (R109, R169). -/
theorem resetWord_lpxFrame (c : Fin 160) {o : Nat} (h1 : 0x40 ≤ o) (h2 : o < 0x100) : resetWord (0x40011000 + 0x100 * c + o) =
    (PageKind.lpx.rows.find? fun r => (r.locate o).isSome).elim 0 fun r =>
      BitVec.ofNat 32 (r.fields.foldl (fun x f => x + f.reset * 2 ^ f.lo) 0) := by
  have hc := c.isLt
  have hbase : PageKind.lpx.base = 0x40011000 := rfl
  have hpage : pageAt (0x40011000 + 0x100 * c + o) = some (PageKind.lpx, c.val / 16) :=
    pageAt_of (k := .lpx) (n := c.val / 16) (show c.val / 16 < 10 by omega) (by rw [PageKind.page, hbase]; omega)
      (by rw [PageKind.page, hbase]; omega)
  have hblock : inHeader .lpx (0x40011000 + 0x100 * c + o) = false := by
    rw [inHeader, hbase, decide_eq_false_iff_not]
    omega
  have hoff : offsetIn .lpx (0x40011000 + 0x100 * c + o) = o := by
    rw [offsetIn, if_pos rfl, hbase]
    omega
  have hrows : pageRows .lpx (c.val / 16) = PageKind.lpx.rows := rfl
  simp only [resetWord, rowAt, hpage, hblock, hoff, hrows, if_false, Bool.false_eq_true]
  cases PageKind.lpx.rows.find? fun r => (r.locate o).isSome <;> rfl

theorem reset_cstate (c : Fin 160) : State.reset.cstate c = 0 := by
  have haddr : R.LPX_STATE c = 0x40011000 + 0x100 * c + 0x4C := by
    rw [R.LPX_STATE]
    omega
  have hzero : State.reset.rd (R.LPX_STATE c) = 0 := by
    rw [haddr]
    exact (resetWord_lpxFrame c (by decide) (by decide)).trans (by decide)
  unfold State.cstate State.fld
  rw [show (R.LPX_STATE_STATE c).addr = R.LPX_STATE c from rfl, hzero]
  exact show getBits 0 4 3 = 0 by decide

end Sys2Proof.Machine
end

section
/-!
The state after reset.
-/
open Sys2Proof Sys2Proof.Machine

/-- Settles O44: the state after reset lists nothing. -/
theorem resetCanonical : Obligations.ResetCanonical := by
  unfold Obligations.ResetCanonical
  exact ⟨⟨rfl, rfl, rfl, rfl, rfl, rfl, rfl, rfl, rfl, rfl, Nat.zero_le _⟩, rfl, rfl⟩

/-- Settles O59: every register has its page's reset value; the contexts' states by the one frame that they share. -/
theorem resetValues : Obligations.ResetValues := by
  unfold Obligations.ResetValues
  exact ⟨by decide, by decide, by decide, by decide, by decide, reset_cstate, by decide, by decide⟩

end

section
/-!
SUPPORT. Counters and posts: what a field reads after a counter, an event flag or a post, and a post that finds the J3 queue full (R48,
R49).
-/
namespace Sys2Proof.Machine
namespace State

/-- A counter just incremented, saturating (R118). -/
theorem fld_inc (s : State) {f : Fld} (h : f.lo + f.w ≤ 32) : (s.inc f).fld f = min (s.fld f + 1) (2 ^ f.w - 1) := by
  unfold inc incBy
  rw [fld_setFld _ _ h]
  exact Nat.mod_eq_of_lt (Nat.lt_of_le_of_lt (Nat.min_le_right ..) (Nat.sub_lt (Nat.two_pow_pos _) Nat.one_pos))

theorem fld_inc_ne (s : State) {f g : Fld} (h : g.addr ≠ f.addr) : (s.inc f).fld g = s.fld g := by
  unfold fld
  rw [inc_rd_ne _ h]

theorem fld_evt_ne (s : State) (k : PageKind) (n b : Nat) {f : Fld} (h : f.addr ≠ k.page n + 0x10) : (s.evt k n b).fld f = s.fld f := by
  unfold fld
  rw [evt_rd_ne _ _ _ _ h]

@[simp] theorem inc_eng (s : State) (f : Fld) : (s.inc f).eng = s.eng := rfl
@[simp] theorem evt_eng (s : State) (k : PageKind) (n b : Nat) : (s.evt k n b).eng = s.eng := rfl

@[simp] theorem post_eng (s : State) (code l d : Nat) : (s.post code l d).eng = s.eng := by
  unfold post
  split <;> rfl

@[simp] theorem post_rcd (s : State) (code l d : Nat) : (s.post code l d).rcd = s.rcd := by
  unfold post
  split <;> rfl

/-- A post that a full queue turns away is counted, and is nothing else (R49). -/
theorem post_eq_of_full (s : State) (code l d : Nat) (h : j3Depth ≤ s.j3.length) :
    s.post code l d = ((s.inc R.CAD_J3_LOST_COUNT).evt .cad 0 E.CAD_J3_LOST).updCad fun c => { c with lostSince := c.lostSince + 1 } := by
  unfold post
  rw [if_neg fun hroom => Nat.not_lt.mpr h hroom.1]
  rfl

theorem post_full_count (s : State) (code l d : Nat) (h : j3Depth ≤ s.j3.length) :
    (s.post code l d).fld R.CAD_J3_LOST_COUNT = min (s.fld R.CAD_J3_LOST_COUNT + 1) 0xFFFF := by
  rw [post_eq_of_full s code l d h, updCad_fld, fld_evt_ne _ _ _ _ (by decide), fld_inc _ (by decide)]
  rfl

theorem post_full_lostSince (s : State) (code l d : Nat) (h : j3Depth ≤ s.j3.length) :
    (s.post code l d).cad.lostSince = s.cad.lostSince + 1 := by
  rw [post_eq_of_full s code l d h]
  rfl

end State

/-- The report of lost posts enters the queue where there is room, and the count starts anew (R49). -/
theorem execJ3LostReport_room {s : State} (hl : s.cad.lostSince ≠ 0) (hr : s.j3.length < j3Depth) (hb : s.on R.BST_STAT_BUSY = false) :
    execJ3LostReport s = .next { s with
      cad := { s.cad with lostSince := 0 },
      j3 := s.j3 ++ [⟨0x1011, loc 0x0 0x0 0x7 0x03 0x3F, s.cad.lostSince % 2 ^ 32, s.now⟩] } := by
  unfold execJ3LostReport
  rw [if_pos ⟨hl, hr⟩]
  exact congrArg Host.Outcome.next (State.post_room _ _ _ _ hr hb)

end Sys2Proof.Machine
end

section
/-!
The J3 queue when it is full (R49).
-/
open Sys2Proof Sys2Proof.Machine

/-- Settles O53: a post that a full queue turns away is only counted, and the report enters a queue that has room. -/
theorem j3Full : Obligations.J3Full := by
  unfold Obligations.J3Full
  refine ⟨fun s code l d hfull => ?_, fun s hlost hroom hbusy => ⟨_, execJ3LostReport_room hlost hroom hbusy, rfl, rfl⟩⟩
  exact ⟨_, rfl, State.post_full s code l d hfull, State.post_full_count s code l d hfull, State.post_full_lostSince s code l d hfull,
    State.post_rcd .., State.fld_post s code l d (by decide) (by decide)⟩

end

section
/-!
SUPPORT. The commands of the loop engine around its runs: what each answers when its condition holds.
-/
namespace Sys2Proof.Machine

/-! ### Runs and lanes -/

theorem execRunComplete_ran {s : State} {l : Fin 4} {r : Run} (h : ((s.laneRuns l).find? fun r => decide (r.len ≤ r.idx)) = some r) :
    execRunComplete l s = .next (s.completeRun l r) := by
  unfold execRunComplete
  rw [h]

theorem execRunDeadlineAbort_late {s : State} {l : Fin 4} {crit : Bool} {r : Run}
    (h : ((s.laneRuns l).find? fun r => r.crit == crit) = some r) :
    execRunDeadlineAbort l crit s = .next (((s.abortLate l r).resume l).showLane l) := by
  unfold execRunDeadlineAbort
  rw [h]

theorem execLaneFault_again {s : State} {l : Fin 4} {r : Run} (h : (s.lane l).run = some r) (hr : r.reissued = true) :
    execLaneFault l s = .next (s.laneFault l) := by
  unfold execLaneFault
  rw [h]
  exact congrArg Host.Outcome.next (if_pos hr)

theorem execReissue_again {s : State} {l : Fin 4} {r : Run} (h : (s.lane l).run = some r) (hr : r.reissued = true) :
    execReissue l s = .next (s.laneFault l) := by
  unfold execReissue
  rw [h]
  exact congrArg Host.Outcome.next (if_pos hr)

theorem execUndefinedInstruction_runs {s : State} {l : Fin 4} {r : Run} (h : (s.lane l).run = some r) (hr : r.idx < r.len)
    (hu : s.insErr (s.insAt (r.base + r.idx)) ≠ 0) : execUndefinedInstruction l s = .next (s.undefinedIns l r) := by
  unfold execUndefinedInstruction
  rw [h]
  exact congrArg Host.Outcome.next (if_pos (by simp [hr, hu]))

namespace State

@[simp] theorem lane_updLane (s : State) (l : Nat) (f : Lane → Lane) : (s.updLane l f).lane l = f (s.lane l) := Store.read_write_same ..
@[simp] theorem updLane_eng_ctx (s : State) (l : Nat) (f : Lane → Lane) : (s.updLane l f).eng.ctx = s.eng.ctx := rfl

theorem lane_congr {s t : State} (h : t.eng = s.eng) (l : Nat) : t.lane l = s.lane l := by
  unfold lane
  rw [h]

/-- The ticks of a lane's reissues in the last 1024 ticks (R130). -/
def recentReissues (s : State) (l : Nat) : List Nat :=
  (s.lane l).reissues.filter fun u => (s.fld R.CAD_TICK_COUNT + 2 ^ 32 - u) % 2 ^ 32 < 1024

/-- A disagreement of the copies is counted and posted (R129). -/
def countReissue (s : State) (l : Nat) (r : Run) : State :=
  ((s.inc (R.LPE_LANE_CMP_REISSUE l)).evt .lpe 0 E.LPE_REISSUE).post 0x1013 (loc 0 0 0 l 0x02) (r.ctx + l * 2 ^ 8)

theorem countReissue_eng (s : State) (l : Nat) (r : Run) : (s.countReissue l r).eng = s.eng := by
  unfold countReissue
  simp only [post_eng, evt_eng, inc_eng]

theorem countReissue_retryMax (s : State) (l : Fin 4) (r : Run) :
    (s.countReissue l r).fld R.LPE_CTL_RETRY_MAX = s.fld R.LPE_CTL_RETRY_MAX := by
  have hcmp : R.LPE_CTL_RETRY_MAX.addr ≠ (R.LPE_LANE_CMP_REISSUE l).addr := by
    simp only [R.LPE_CTL_RETRY_MAX, R.LPE_CTL, R.LPE_LANE_CMP_REISSUE, R.LPE_LANE_CMP]
    omega
  unfold countReissue
  rw [fld_post _ _ _ _ (by decide) (by decide), fld_evt_ne _ _ _ _ (by decide), fld_inc_ne _ hcmp]

/-- The lane issues its instruction once more, and keeps the tick of it among its recent reissues (R130). -/
def reissueOnce (s : State) (l : Nat) (r : Run) : State :=
  (s.countReissue l r).updLane l fun L =>
    { L with run := some { r with reissued := true },
             reissues := (L.reissues.filter fun u => (s.fld R.CAD_TICK_COUNT + 2 ^ 32 - u) % 2 ^ 32 < 1024) ++ [s.fld R.CAD_TICK_COUNT] }

theorem reissueOnce_run (s : State) (l : Nat) (r : Run) : ((s.reissueOnce l r).lane l).run = some { r with reissued := true } := by
  unfold reissueOnce
  rw [lane_updLane]

theorem reissueOnce_reissues (s : State) (l : Nat) (r : Run) :
    ((s.reissueOnce l r).lane l).reissues = s.recentReissues l ++ [s.fld R.CAD_TICK_COUNT] := by
  unfold reissueOnce
  rw [lane_updLane, lane_congr (s.countReissue_eng l r)]
  rfl

theorem reissueOnce_ctx (s : State) (l : Nat) (r : Run) : (s.reissueOnce l r).eng.ctx = s.eng.ctx := by
  unfold reissueOnce
  rw [updLane_eng_ctx, countReissue_eng]

theorem reissueOnce_retryMax (s : State) (l : Fin 4) (r : Run) :
    (s.reissueOnce l r).fld R.LPE_CTL_RETRY_MAX = s.fld R.LPE_CTL_RETRY_MAX := by
  unfold reissueOnce
  rw [updLane_fld, countReissue_retryMax]

end State

/-- A first disagreement reissues the instruction, while the reissues of the last 1024 ticks do not exceed RETRY_MAX (R130). -/
theorem execReissue_first {s : State} {l : Fin 4} {r : Run} (h : (s.lane l).run = some r) (hr : r.reissued = false)
    (hn : (s.recentReissues l).length < s.fld R.LPE_CTL_RETRY_MAX) : execReissue l s = .next (s.reissueOnce l r) := by
  have hmax : ¬ (s.reissueOnce l r).fld R.LPE_CTL_RETRY_MAX < ((s.reissueOnce l r).lane l).reissues.length := by
    rw [State.reissueOnce_retryMax, State.reissueOnce_reissues, List.length_append]
    exact Nat.not_lt.mpr hn
  unfold execReissue
  rw [h]
  exact congrArg Host.Outcome.next ((if_neg (by simp [hr])).trans (if_neg hmax))

theorem execLaneCheckDone_busy {s : State} {l : Fin 4} (pass : Bool) (h : s.on (R.LPE_LANE_CMP_CHECK_BUSY l) = true) :
    execLaneCheckDone l pass s = .next (
      let t := ((s.setFld (R.LPE_LANE_CTL_CHECK l) 0).setFld (R.LPE_LANE_CMP_CHECK_BUSY l) 0).setFld (R.LPE_LANE_CMP_CHECK_PASS l) (b2n pass)
      if pass then ((t.setFld (R.LPE_LANE_CMP_FAULTED l) 0).updLane l fun L => { L with reissues := [] }).showLane l else t) := by
  unfold execLaneCheckDone
  rw [if_pos h]

/-! ### Writes to the LPE page and its memories -/

namespace State

/-- A write to the LPE page that its sender may make and no rule refuses (R4, R122). -/
theorem writePage_lpe {s : State} {m : Master} {a : Nat} {errs : List (Bool × ErrKind)} {eff : State → State}
    (ho : s.opens m .lpe 0 = true) (he : errs.filter Prod.fst = []) : s.writePage m .lpe 0 a errs eff = (eff s).okResp := by
  obtain ⟨hm, hs⟩ := opens_iff.mp ho
  exact writePage_ok s m a eff hm (srstHeld_false a hs) he (remoteDown_false s 0 (by decide) (by decide))

theorem write_lpe {s : State} {m : Master} {a : Nat} {errs : List (Bool × ErrKind)} {eff : State → State}
    (hp : pageAt a = some (.lpe, 0)) (ho : s.opens m .lpe 0 = true) (he : errs.filter Prod.fst = []) :
    s.write m a errs eff = (eff s).okResp :=
  write_ok s m eff hp ho he (remoteDown_false s 0 (by decide) (by decide))

end State

theorem execLaneCheck_starts {s : State} {m : Master} {l : Fin 4} (ho : s.opens m .lpe 0 = true)
    (hc : ((s.laneCtxs l).any fun c => !s.resting c) = false) : execLaneCheck m l s =
    .next (((s.setFld (R.LPE_LANE_CTL_CHECK l) 1).setFld (R.LPE_LANE_CMP_CHECK_BUSY l) 1).okResp) := by
  have hp : ∀ l : Fin 4, pageAt (R.LPE_LANE_CTL l) = some (.lpe, 0) := by decide
  exact congrArg Host.Outcome.next (State.write_lpe (hp l) ho (by rw [hc]; rfl))

theorem execEngineConstantWrite_opens {s : State} {m : Master} (k : Fin 31) (v : Word) (ho : s.opens m .lpe 0 = true) :
    execEngineConstantWrite m k v s = .next (s.wr (R.LPE_CONST k) v).okResp := by
  have hp : ∀ k : Fin 31, pageAt (R.LPE_CONST k) = some (.lpe, 0) := by decide
  exact congrArg Host.Outcome.next (State.write_lpe (hp k) ho rfl)

theorem execProgramMemoryWrite_opens {s : State} {m : Master} {k : Fin 8192} (v : Word) (ho : s.opens m .lpe 0 = true)
    (hp : s.progProtected (k / 2) = false) (hv : s.progValidating (k / 2) = false) : execProgramMemoryWrite m k v s =
    .next (((s.setEngineWord (progBase + 4 * k) v).clearErr (· == progBase + 4 * k)).okResp) :=
  congrArg Host.Outcome.next (State.writePage_lpe ho (by rw [hp, hv]; rfl))

theorem execTableMemoryWrite_opens {s : State} {m : Master} {k : Fin 16384} (v : Word) (ho : s.opens m .lpe 0 = true) (hk : 1024 < k.val) :
    execTableMemoryWrite m k v s =
    .next ((({ s with tab := s.tab.write (fun _ => 0) k v } : State).clearErr (· == tabBase + 4 * k.val)).okResp) :=
  congrArg Host.Outcome.next ((if_neg (Nat.not_le.mpr hk)).trans (State.writePage_lpe ho rfl))

/-- An instruction word with the half written that word `i` of program memory is (R145). -/
def progHalf (w : ProgWord) (i : Nat) (v : Word) : ProgWord :=
  BitVec.ofNat 64 (if i % 2 = 0 then w.toNat / 2 ^ 32 * 2 ^ 32 + v.toNat else v.toNat * 2 ^ 32 + w.toNat % 2 ^ 32)

theorem progHalf_reads (w : ProgWord) (i : Nat) (v : Word) : (progHalf w i v).toNat / 2 ^ (32 * (i % 2)) % 2 ^ 32 = v.toNat := by
  have hv := v.isLt
  have hw := w.isLt
  unfold progHalf
  rw [BitVec.toNat_ofNat]
  rcases Nat.mod_two_eq_zero_or_one i with h | h
  · rw [if_pos h, h]
    omega
  · rw [if_neg (by omega), h]
    omega

namespace State

@[simp] theorem setEngineWord_regs (s : State) (k : Nat) (v : Word) : (s.setEngineWord k v).regs = s.regs := by
  unfold setEngineWord
  split
  · rfl
  · split <;> rfl

theorem setEngineWord_prog (s : State) (k : Fin 8192) (v : Word) : (s.setEngineWord (progBase + 4 * k) v).prog =
    s.prog.write (fun _ => 0) (k / 2) (progHalf (s.prog.read (fun _ => 0) (k / 2)) k v) := by
  have hk := k.isLt
  have hi : (progBase + 4 * k.val - progBase) / 4 = k.val := by omega
  unfold setEngineWord
  rw [if_neg (by unfold progBase; omega), if_pos (by unfold progBase tabBase; omega)]
  dsimp only
  rw [hi]
  rfl

/-- A word of program memory just written reads back. -/
theorem setEngineWord_progWord (s : State) (k : Fin 8192) (v : Word) :
    ((s.setEngineWord (progBase + 4 * k) v).prog.read (fun _ => 0) (k / 2)).toNat / 2 ^ (32 * (k.val % 2)) % 2 ^ 32 = v.toNat := by
  rw [setEngineWord_prog, Store.read_write_same, progHalf_reads]

end State

/-! ### Validation (R165) -/

theorem execValidationStart_inRange {s : State} {m : Master} {st : Fin 4096} {n : Fin 8192} (ho : s.opens m .lpe 0 = true) (hn : n.val ≠ 0)
    (hr : st.val + n.val ≤ 4096) (hb : s.on R.LPE_VAL_STAT_BUSY = false) : execValidationStart m st n s =
    .next (((((s.setFld R.LPE_VAL_CTL_START st).setFld R.LPE_VAL_CTL_LEN n).setFld R.LPE_VAL_CTL_GO 1).setFld R.LPE_VAL_STAT_BUSY 1).okResp) := by
  have hlen : (decide (n.val = 0) || decide (4096 < n.val)) = false := by
    simp only [Bool.or_eq_false_iff, decide_eq_false_iff_not]
    omega
  unfold execValidationStart
  rw [State.write_lpe rfl ho (by rw [hlen, hb]; rfl), if_neg (Nat.not_lt.mpr hr)]

theorem State.valEnd_fields (s : State) (err idx : Nat) : (s.valEnd err idx).fld R.LPE_VAL_STAT_BUSY = 0 ∧
    (s.valEnd err idx).fld R.LPE_VAL_CTL_GO = 0 ∧ (s.valEnd err idx).fld R.LPE_VAL_CNT_INSTR = s.fld R.LPE_VAL_CNT_INSTR := by
  unfold valEnd evt
  simp (disch := decide) only [fld_post, fld_setFld_apart, fld_setFld]
  decide

/-- A validation that runs ends, with its range's length among its figures. -/
theorem execValidationDone_busy {s : State} (h : s.on R.LPE_VAL_STAT_BUSY = true) :
    ∃ (t : State) (err idx : Nat), execValidationDone s = .next (t.valEnd err idx) ∧
      t.fld R.LPE_VAL_CNT_INSTR = s.fld R.LPE_VAL_CTL_LEN % 2 ^ R.LPE_VAL_CNT_INSTR.w := by
  unfold execValidationDone
  rw [if_pos h]
  dsimp only
  split <;> exact ⟨_, _, _, rfl, State.fld_setFld _ _ (by decide)⟩

end Sys2Proof.Machine
end

section
/-!
Lanes, runs, validation and the engine's memories: the commands complete.
-/
open Sys2Proof Sys2Proof.Machine

/-- Settles O4: each command by the lemma that says what it answers when its condition holds. -/
theorem engineControlCommandsComplete : Obligations.EngineControlCommandsComplete := by
  unfold Obligations.EngineControlCommandsComplete
  refine ⟨fun s l ecc => exec_tickRunDispatch l ecc s, fun s l r h => execRunComplete_ran h, fun s l crit r h => execRunDeadlineAbort_late h,
    fun s l r h hr => execReissue_again h hr,
    fun s l r h hr hn => ⟨_, execReissue_first h hr hn, s.reissueOnce_run l r, s.reissueOnce_ctx l r⟩,
    fun s l r h hr => execLaneFault_again h hr, fun s m l ho hc => execLaneCheck_starts ho hc,
    fun s l h => execLaneCheckDone_busy false h, fun s l h => execLaneCheckDone_busy true h,
    fun s m k v ho => execEngineConstantWrite_opens k v ho,
    fun s m k v ho hp hv => ⟨_, execProgramMemoryWrite_opens v ho hp hv, rfl, s.setEngineWord_regs _ v, s.setEngineWord_progWord k v⟩,
    fun s m k v ho hk => execTableMemoryWrite_opens v ho hk, fun s m st n ho hn hr hb => execValidationStart_inRange ho hn hr hb,
    fun s h => ?_, fun s l => exec_dutyPortApply l s, fun s l r h hr hu => execUndefinedInstruction_runs h hr hu⟩
  obtain ⟨t, err, idx, hx, hlen⟩ := execValidationDone_busy h
  obtain ⟨hbusy, hgo, hinstr⟩ := t.valEnd_fields err idx
  exact ⟨_, hx, hbusy, hgo, hinstr.trans hlen⟩

end

section
/-!
SUPPORT. The frame of a command that may change every part: it still keeps the queue and the canonical form.
-/
namespace Sys2Proof.Machine

/-- Where a frame names every part, what any command keeps is all that it says. -/
theorem touches_all (c : Instr) : Touches c [.clock, .free, .resp, .j3, .regs, .live, .staged, .bytes, .engineMem, .canRam, .cad, .eng,
    .sens, .pwm, .safe, .pos, .trac, .conv, .act, .drl, .tnd, .net, .rcd, .pwr, .sec] :=
  touches_of_within fun s => ⟨fun t e => ((exec_within c s).next_ t e).mono fun p _ => by cases p <;> rfl⟩

end Sys2Proof.Machine
end

section
/-!
What the commands of the module's management leave alone.
-/
open Sys2Proof Sys2Proof.Machine

/-- Settles O41: each command by the frame of its meaning; those whose frame names every part by what every command keeps. -/
theorem moduleFrames : Obligations.ModuleFrames := by
  unfold Obligations.ModuleFrames
  exact ⟨
    fun dies => touches_of_within fun s => by apply execPowerOnReset_within <;> rfl,
    fun ctlOk fails => touches_of_within fun s => execResetRelease_within ctlOk fails s rfl rfl rfl rfl rfl rfl rfl,
    touches_of_within fun s => execWake_within s rfl,
    fun m key => touches_all _,
    fun m addr width v => touches_all _,
    fun m addr wr took => touches_all _,
    fun m page v => touches_of_within fun s => by apply execPageSrst_within <;> rfl,
    fun m page v => touches_of_within fun s => execPageLockWrite_within m page v s rfl rfl rfl rfl rfl,
    fun m page v => touches_of_within fun s => execPageCommit_within m page v s rfl rfl rfl rfl rfl,
    fun m page v => touches_of_within fun s => by apply execEvtSetWrite_within <;> rfl,
    fun m addr v => touches_all _,
    fun m addr bytes ecc => touches_of_within fun s => execSramRead_within m addr bytes ecc s rfl rfl rfl rfl rfl rfl rfl rfl rfl rfl,
    fun m addr bytes v => touches_all _,
    fun m addr bytes => touches_of_within fun s => execNorWindowRead_within m addr bytes s rfl rfl rfl rfl rfl rfl rfl rfl rfl,
    touches_of_within fun s => execPfWarnFalling_within s rfl rfl rfl rfl rfl rfl,
    touches_of_within fun s => execPfWarnCleared_within s rfl,
    touches_of_within fun s => execUvOff_within s rfl rfl rfl rfl rfl rfl rfl rfl rfl rfl,
    touches_of_within fun s => execPfFlushEnd_within s rfl rfl rfl rfl rfl,
    touches_of_within fun s => by apply execFlushRestart_within <;> rfl,
    fun written => touches_of_within fun s => by apply execHoldupCutoff_within <;> rfl,
    touches_of_within fun s => execVlvHigh_within s rfl rfl rfl rfl,
    touches_of_within fun s => execHoldupCharged_within s rfl,
    fun cap => touches_of_within fun s => execHoldupMeasured_within cap s rfl rfl rfl rfl,
    touches_of_within fun s => execBackupFail_within s rfl rfl rfl rfl rfl,
    fun avg => touches_of_within fun s => execGatePwrHigh_within avg s rfl rfl rfl rfl rfl,
    touches_of_within fun s => execGateOverload_within s rfl rfl rfl rfl rfl rfl rfl,
    fun k => touches_of_within fun s => execSensOc_within k s rfl rfl rfl rfl,
    touches_of_within fun s => execX2Attach_within s rfl rfl rfl rfl rfl,
    touches_of_within fun s => execX1LoopOpen_within s rfl rfl rfl rfl rfl rfl rfl rfl rfl,
    touches_of_within fun s => execX2LoopOpen_within s rfl rfl rfl rfl rfl rfl rfl rfl,
    fun m x2 => touches_of_within fun s => execDetachRequest_within m x2 s rfl rfl rfl rfl rfl rfl rfl rfl,
    touches_of_within fun s => execDetachReady_within s rfl rfl rfl rfl rfl rfl rfl,
    fun m => touches_of_within fun s => execDetachCancel_within m s rfl rfl rfl rfl rfl rfl rfl,
    touches_of_within fun s => execDetachTimeout_within s rfl rfl rfl rfl rfl,
    fun codes => touches_of_within fun s => execConversionEnd_within codes s rfl rfl rfl rfl rfl,
    fun src ecc => touches_of_within fun s => execWindowAverageDelivery_within src ecc s rfl rfl rfl rfl rfl rfl rfl rfl rfl rfl rfl rfl,
    fun code0 code1 => touches_of_within fun s => execHkSlotEnd_within code0 code1 s rfl rfl rfl rfl rfl rfl rfl rfl,
    fun g => touches_of_within fun s => execCarrierPeriodStart_within g s rfl rfl rfl rfl rfl rfl rfl,
    fun g => touches_of_within fun s => execArmingComplete_within g s rfl rfl rfl rfl rfl rfl rfl,
    fun g => touches_of_within fun s => execDisarmTakeEffect_within g s rfl rfl rfl rfl rfl,
    fun k sel v meas => touches_of_within fun s => execStatusFrame_within k sel v meas s rfl rfl rfl rfl rfl,
    fun cfgValid => touches_of_within fun s => execRomStageDone_within cfgValid s rfl rfl rfl rfl rfl rfl rfl rfl rfl rfl,
    touches_of_within fun s => execEarlyServiceReady_within s rfl rfl rfl rfl rfl rfl rfl rfl,
    fun slot ecdsa lms => touches_of_within fun s => execHallmarkSlotVerified_within slot ecdsa lms s rfl rfl rfl rfl rfl,
    touches_of_within fun s => execFullServiceStart_within s rfl rfl rfl rfl rfl rfl,
    touches_of_within fun s => execEarlyMaxExpiry_within s rfl rfl rfl rfl rfl rfl rfl rfl,
    fun mac => touches_of_within fun s => execEarlyOverspeed_within mac s rfl rfl rfl rfl rfl rfl,
    fun mac => touches_of_within fun s => execEarlyDemandTimeout_within mac s rfl rfl rfl rfl rfl rfl,
    fun m => touches_of_within fun s => execImageConfirm_within m s rfl rfl rfl rfl rfl rfl rfl,
    fun m key => touches_of_within fun s => execRollbackAdvance_within m key s rfl rfl rfl rfl rfl,
    fun m slot => touches_of_within fun s => execSlotOpen_within m slot s rfl rfl rfl rfl rfl,
    fun m => touches_of_within fun s => execSlotClose_within m s rfl rfl rfl rfl rfl,
    fun m slot => touches_of_within fun s => execSlotActivate_within m slot s rfl rfl rfl rfl rfl rfl,
    fun ecdsa lms => touches_of_within fun s => execActivationDone_within ecdsa lms s rfl rfl rfl rfl rfl,
    fun m => touches_of_within fun s => execAttestationRequest_within m s rfl rfl rfl rfl rfl rfl,
    touches_of_within fun s => execAttestationDone_within s rfl rfl rfl rfl rfl,
    fun m => touches_of_within fun s => execNonceDraw_within m s rfl rfl rfl rfl rfl rfl,
    fun m => touches_of_within fun s => execStatementSubmit_within m s rfl rfl rfl rfl rfl,
    touches_of_within fun s => execAuthStatement_within s rfl rfl rfl rfl rfl rfl rfl,
    touches_of_within fun s => execChangeStatement_within s rfl rfl rfl rfl rfl,
    touches_of_within fun s => execLifecycleStatement_within s rfl rfl rfl rfl,
    touches_of_within fun s => execClearStatement_within s rfl rfl rfl rfl rfl rfl,
    touches_of_within fun s => execRevokeStatement_within s rfl rfl rfl rfl,
    touches_of_within fun s => execLifecycleHoldExpiry_within s rfl rfl,
    fun m => touches_of_within fun s => execAuthLogout_within m s rfl rfl rfl rfl rfl rfl rfl rfl,
    touches_of_within fun s => execAuthSessionExpiry_within s rfl rfl rfl rfl rfl rfl,
    fun m pages => touches_of_within fun s => execChangeOpen_within m pages s rfl rfl rfl rfl rfl,
    fun m => touches_of_within fun s => execChangeSeal_within m s rfl rfl rfl rfl rfl rfl,
    touches_of_within fun s => execChangeDigestDone_within s rfl rfl,
    fun ok => touches_of_within fun s => execChangeCommit_within ok s rfl rfl rfl rfl rfl rfl,
    touches_of_within fun s => execChangeWindowExpiry_within s rfl rfl rfl rfl rfl,
    fun m => touches_of_within fun s => execChangeAbort_within m s rfl rfl rfl rfl rfl rfl rfl,
    fun m => touches_of_within fun s => execDebugOpen_within m s rfl rfl rfl rfl rfl,
    fun m => touches_of_within fun s => execDebugClose_within m s rfl rfl rfl rfl rfl rfl rfl rfl,
    fun m p op => touches_all _,
    touches_of_within fun s => execRecordCapture_within s rfl rfl rfl rfl,
    touches_of_within fun s => execRingRoomRecord_within s rfl rfl rfl,
    touches_of_within fun s => execRateWindowEnd_within s rfl rfl rfl,
    touches_of_within fun s => execStartFlush_within s rfl rfl rfl rfl rfl,
    touches_of_within fun s => execFlushPeriodic_within s rfl rfl rfl rfl rfl,
    touches_of_within fun s => execFlushBacklog_within s rfl rfl rfl rfl rfl,
    fun m => touches_of_within fun s => execFlushRequest_within m s rfl rfl rfl rfl rfl rfl rfl,
    fun ok => touches_of_within fun s => execFlushDone_within ok s rfl rfl rfl rfl rfl rfl rfl rfl,
    touches_of_within fun s => execClearEraseDone_within s rfl rfl,
    fun m => touches_of_within fun s => execNorProgramPage_within m s rfl rfl rfl rfl rfl rfl,
    fun m => touches_of_within fun s => execNorEraseSector_within m s rfl rfl rfl rfl rfl rfl,
    fun m => touches_of_within fun s => execNorResetDie_within m s rfl rfl rfl rfl rfl rfl,
    fun page => touches_of_within fun s => execNorOpDone_within page s rfl rfl rfl,
    touches_of_within fun s => execNorOpTimeout_within s rfl rfl rfl rfl rfl,
    fun m k v => touches_of_within fun s => execDerateChannelWrite_within m k v s rfl rfl rfl rfl rfl rfl,
    fun m target alg => touches_of_within fun s => execBistRequest_within m target alg s rfl rfl rfl rfl rfl rfl rfl,
    fun fails => touches_of_within fun s => execBistDone_within fails s rfl rfl rfl rfl rfl rfl,
    fun m => touches_of_within fun s => execBistAbort_within m s rfl rfl rfl rfl rfl rfl rfl,
    fun m => touches_of_within fun s => execBistRepair_within m s rfl rfl rfl rfl rfl rfl,
    fun active => touches_of_within fun s => execBackupSupplyChange_within active s rfl rfl⟩

end

section
/-!
SUPPORT. Registers through folds, refused writes, and the cause that a reset shows (R82, R126).
-/
namespace Sys2Proof.Machine

/-- The COMMITTED field of no page lies in the register of the reset cause. -/
theorem committed_addr_ne_rstCause (k : PageKind) (n : Nat) : R.SYS_RST_CAUSE ≠ (hdr k n 0x0C 2 1).addr := by
  have hbase : k.base % 0x1000 = 0 := by cases k <;> rfl
  simp only [hdr, PageKind.page, R.SYS_RST_CAUSE]
  omega

namespace State

/-- A register that no step of a fold touches stays. -/
theorem foldl_rd {α : Type} {f : State → α → State} {a : Nat} (s : State) (l : List α) (h : ∀ t, ∀ x ∈ l, (f t x).rd a = t.rd a) :
    (l.foldl f s).rd a = s.rd a :=
  List.foldlRecOn l f (motive := fun t => t.rd a = s.rd a) rfl fun t ht x hx => (h t x hx).trans ht

theorem each_rd {f : State → Nat → State} {a : Nat} (s : State) (l : List Nat) (h : ∀ t, ∀ i ∈ l, (f t i).rd a = t.rd a) :
    (s.each l f).rd a = s.rd a := foldl_rd s l h

/-- A field is a function of its register's word. -/
theorem fld_of_rd {s t : State} {f : Fld} (h : t.rd f.addr = s.rd f.addr) : t.fld f = s.fld f := by
  unfold fld
  rw [h]

/-- A write that its sender may make, with one rule against it, is refused with that rule's kind (R122). -/
theorem writePage_refused {s : State} {m : Master} {k : PageKind} {n a : Nat} {errs : List (Bool × ErrKind)} {eff : State → State}
    {b : Bool} {e : ErrKind} (ho : s.opens m k n = true) (he : errs.filter Prod.fst = [(b, e)]) :
    s.Refused (s.writePage m k n a errs eff) e := by
  obtain ⟨hm, hs⟩ := opens_iff.mp ho
  unfold writePage
  rw [if_pos hm, checked_refused s m k n a eff (srstHeld_false a hs) he]
  exact refused_errResp ..

theorem write_refused {s : State} {m : Master} {k : PageKind} {n a : Nat} {errs : List (Bool × ErrKind)} {eff : State → State} {b : Bool}
    {e : ErrKind} (hp : pageAt a = some (k, n)) (ho : s.opens m k n = true) (he : errs.filter Prod.fst = [(b, e)]) :
    s.Refused (s.write m a errs eff) e := by
  unfold write
  rw [hp]
  exact writePage_refused ho he

/-- After any reset SYS_RST_CAUSE holds the cause and nothing else: what is restored after it lies in other registers. -/
theorem resetRegs_rstCause (s t : State) (cause : Nat) (dies : Bool) :
    (s.resetRegs t cause dies).rd R.SYS_RST_CAUSE = BitVec.ofNat 32 cause := by
  have hcommitted : ∀ u : State, (pageKinds.foldl (fun t k => t.each (List.range k.count) fun t n =>
      t.setFld (hdr k n 0x0C 2 1) (s.fld (hdr k n 0x0C 2 1))) u).rd R.SYS_RST_CAUSE = u.rd R.SYS_RST_CAUSE := fun u =>
    foldl_rd u pageKinds fun u k _ => each_rd u _ fun u n _ => rd_setFld_ne u _ (committed_addr_ne_rstCause k n)
  have hvectors : ∀ u : State, (u.each (List.range 2) fun t p => t.wr (R.TND_RVEC p) (s.rd (R.TND_RVEC p))).rd R.SYS_RST_CAUSE =
      u.rd R.SYS_RST_CAUSE := fun u => each_rd u _ fun u p _ => rd_wr_ne u _ (by simp only [R.SYS_RST_CAUSE, R.TND_RVEC]; omega)
  unfold resetRegs
  dsimp only
  split
  · exact rd_wr ..
  · split
    · rw [hvectors, hcommitted, rd_setFld_ne _ _ (by decide), rd_setFld_ne _ _ (by decide), rd_wr]
    · rw [hcommitted, rd_setFld_ne _ _ (by decide), rd_setFld_ne _ _ (by decide), rd_wr]

theorem resetState_rstCause (s : State) (cause : Nat) (dies : Bool) :
    (s.resetState cause dies).rd R.SYS_RST_CAUSE = BitVec.ofNat 32 cause := resetRegs_rstCause ..

end State

/-! ### Resets, reset release and WAKE (R73, R76, R78, R126) -/

theorem execFlushRestart_onHoldup {s : State} (h : s.on R.PWR_STAT_ON_HOLDUP = true) : execFlushRestart s = .next (s.resetState 2 true) :=
  congrArg Host.Outcome.next (if_pos h)

/-- At the cut-off a flush in step 4 has written `n` more records; then the controller die starts anew. -/
theorem execHoldupCutoff_onHoldup {s : State} (n : Fin 7681) (h : s.on R.PWR_STAT_ON_HOLDUP = true) : execHoldupCutoff n s =
    .next ((if s.rcd.step4 then s.flushStep4 n else s).resetState 1 ((if s.rcd.step4 then s.flushStep4 n else s).on R.PWR_STAT_BACKUP_OK)) :=
  congrArg Host.Outcome.next (if_pos h)

theorem execWarmReset_resets {s : State} {m : Master} (ho : s.opens m .sys 0 = true) (ha : s.anyArmed = false) :
    execWarmReset m 0xC3 s = .next (s.resetState 4 true).okResp := by
  have ha : (List.range 12).any s.armed = false := ha
  exact congrArg Host.Outcome.next (State.write_ok s m _ rfl ho (by rw [ha]; rfl) (State.remoteDown_false s 0 (by decide) (by decide)))

/-- The right key with a group armed: the kind is STATE. -/
theorem execWarmReset_armed {s : State} {m : Master} (ho : s.opens m .sys 0 = true) (ha : s.anyArmed = true) :
    ∃ t, execWarmReset m 0xC3 s = .next t ∧ s.Refused t .state := by
  have ha : (List.range 12).any s.armed = true := ha
  exact ⟨_, rfl, State.write_refused rfl ho (b := true) (by rw [ha]; rfl)⟩

/-- Another key with no group armed: the kind is KEY. -/
theorem execWarmReset_key {s : State} {m : Master} {k : Fin 256} (ho : s.opens m .sys 0 = true) (ha : s.anyArmed = false)
    (hk : k.val ≠ 0xC3) : ∃ t, execWarmReset m k s = .next t ∧ s.Refused t .key := by
  have ha : (List.range 12).any s.armed = false := ha
  exact ⟨_, rfl, State.write_refused rfl ho (b := true) (by rw [ha, bne_iff_ne.mpr hk]; rfl)⟩

theorem execWake_notes {s : State} (hr : s.sec.released = false) (hp : s.por = false) : execWake s = .next (s.wr R.SYS_RST_CAUSE 8) := by
  unfold execWake
  rw [hr, hp]
  rfl

theorem execResetRelease_releases {s : State} (ok : Bool) (fails : List (Fin 7 × BistFail)) (h : s.sec.released = false) :
    execResetRelease ok fails s = .next (((((s.updSec fun x => { x with released := true }).setFld R.PWR_STAT_VLV_OK 1).setFld
      R.PWR_STAT_X1_PRESENT 1).startBist (fails.map fun f => (f.1.val, f.2))).recStart ok).startPosts := by
  unfold execResetRelease
  rw [h]
  rfl

end Sys2Proof.Machine
end

section
/-!
The resets, reset release and the wake request: the commands complete, and each start shows its cause.
-/
open Sys2Proof Sys2Proof.Machine

/-- Settles O1: each command by the lemma that says what it answers when its condition holds. -/
theorem resetCommandsComplete : Obligations.ResetCommandsComplete := by
  unfold Obligations.ResetCommandsComplete
  refine ⟨fun s dies => exec_powerOnReset dies s, fun s h => execFlushRestart_onHoldup h, fun s n h hq => ?_, fun s n h hq => ?_,
    fun s m ho ha => execWarmReset_resets ho ha, fun s hr hp => execWake_notes hr hp,
    fun s ok fails h => execResetRelease_releases ok fails h⟩
  all_goals
    have hx := execHoldupCutoff_onHoldup n h
    rw [hq] at hx
    exact hx

/-- Settles O58: after each reset the cause register holds the cause alone; a refused warm reset is an error response. -/
theorem resetCause : Obligations.ResetCause := by
  unfold Obligations.ResetCause
  exact ⟨fun s d => ⟨_, exec_powerOnReset d s, s.resetState_rstCause 1 d⟩,
    fun s h => ⟨_, execFlushRestart_onHoldup h, s.resetState_rstCause 2 true⟩,
    fun s m ho ha => ⟨_, execWarmReset_resets ho ha, s.resetState_rstCause 4 true⟩,
    fun s hr hp => ⟨_, execWake_notes hr hp, s.rd_wr _ _⟩,
    fun s m ho ha => execWarmReset_armed ho ha, fun s m k ho ha hk => execWarmReset_key ho ha hk⟩

end

section
/-!
SUPPORT. Connectors and planned detach (R91 to R97): what each command answers when its condition holds.
-/
namespace Sys2Proof.Machine
namespace State

theorem soUpdate_rd_ne (s : State) (m : Nat) {a : Nat} (h : a ≠ R.SIO_SO_STAT m) : (s.soUpdate m).rd a = s.rd a := by
  unfold soUpdate
  dsimp only
  split
  · split <;> rfl
  · split
    · exact rd_setFld_ne _ _ h
    · rfl

theorem soShow_rd_ne (s : State) (m : Nat) {a : Nat} (h : a ≠ R.SIO_SO_STAT m) : (s.soShow m).rd a = s.rd a := rd_setFld_ne _ _ h

/-- The outputs that follow the detach state leave PWR_DETACH_STAT alone. -/
theorem detachShow_rd_stat (s : State) : s.detachShow.rd R.PWR_DETACH_STAT = s.rd R.PWR_DETACH_STAT := by
  have hso : ∀ m, R.PWR_DETACH_STAT ≠ R.SIO_SO_STAT m := fun m => by simp only [R.PWR_DETACH_STAT, R.SIO_SO_STAT]; omega
  unfold detachShow sensShow
  rw [rd_setFld_ne _ _ (by decide), each_rd _ _ fun t m _ => (soShow_rd_ne _ m (hso m)).trans (soUpdate_rd_ne t m (hso m))]

/-- A flush trigger other than a power fail touches two registers of the recorder only. -/
theorem recTrigger_rd_ne (s : State) {cause a : Nat} (hc : cause ≠ 2) (h1 : a ≠ R.REC_STAT) (h2 : a ≠ R.REC_FLUSH) :
    (s.recTrigger cause).rd a = s.rd a := by
  unfold recTrigger
  simp only [hc, if_false]
  split
  · split <;> rfl
  · rw [updRec_rd, rd_setFld_ne _ _ h2, rd_setFld_ne _ _ h1]

theorem anyArmed_setFld_scope (s : State) (v : Nat) : (s.setFld R.PWR_DETACH_CTL_SCOPE v).anyArmed = s.anyArmed := by
  have h : (s.setFld R.PWR_DETACH_CTL_SCOPE v).gstate = s.gstate := funext fun g =>
    fld_setFld_apart s v (by decide) (.inl (by simp only [R.PG_STAT_STATE, R.PG_STAT, R.PWR_DETACH_CTL_SCOPE, R.PWR_DETACH_CTL]; omega))
  unfold anyArmed armed
  rw [h]

/-- The registers of a detach that is granted: in DRAINING, with its scope (R95). -/
def detachGrant (s : State) (x2 : Bool) : State :=
  ((((s.setFld R.PWR_DETACH_CTL_SCOPE (b2n x2)).setFld R.PWR_DETACH_STAT_STATE 1).setFld R.PWR_DETACH_STAT_SCOPE_ACT (b2n x2)).setFld
    R.PWR_DETACH_STAT_FLUSH_OK (b2n x2)).setFld R.PWR_DETACH_CTL_REQ 1

theorem detachGrant_fields (s : State) (x2 : Bool) :
    (s.detachGrant x2).fld R.PWR_DETACH_STAT_STATE = 1 ∧ (s.detachGrant x2).fld R.PWR_DETACH_STAT_SCOPE_ACT = b2n x2 := by
  unfold detachGrant
  simp (disch := decide) only [fld_setFld_apart, fld_setFld]
  cases x2 <;> decide

/-- Steps 1 and 2 of a planned detach that is granted, and the start of step 3 (R95). -/
def detachBegin (s : State) (x2 : Bool) : State :=
  if x2 then (s.detachGrant x2).detachShow else (s.detachGrant x2).detachShow.recTrigger 5

theorem detachBegin_rd_stat (s : State) (x2 : Bool) :
    (s.detachBegin x2).rd R.PWR_DETACH_STAT = (s.detachGrant x2).rd R.PWR_DETACH_STAT := by
  cases x2
  · exact (recTrigger_rd_ne _ (by decide) (by decide) (by decide)).trans (detachShow_rd_stat _)
  · exact detachShow_rd_stat _

/-- A detach that begins is in DRAINING, with the scope asked for. -/
theorem detachBegin_fields (s : State) (x2 : Bool) :
    (s.detachBegin x2).fld R.PWR_DETACH_STAT_STATE = 1 ∧ (s.detachBegin x2).fld R.PWR_DETACH_STAT_SCOPE_ACT = b2n x2 := by
  have h := s.detachBegin_rd_stat x2
  rw [fld_of_rd (f := R.PWR_DETACH_STAT_STATE) h, fld_of_rd (f := R.PWR_DETACH_STAT_SCOPE_ACT) h]
  exact s.detachGrant_fields x2

/-- A detach request that is denied, with its cause (R94). -/
def detachDeny (s : State) (x2 : Bool) (cause : Nat) : State :=
  (s.setFld R.PWR_DETACH_CTL_SCOPE (b2n x2)).setFld R.PWR_DETACH_STAT_DENY cause

/-- A denial leaves STATE as it was and names its cause in DENY. -/
theorem detachDeny_fields (s : State) (x2 : Bool) {cause : Nat} (hc : cause < 4) :
    (s.detachDeny x2 cause).fld R.PWR_DETACH_STAT_STATE = s.fld R.PWR_DETACH_STAT_STATE ∧
    (s.detachDeny x2 cause).fld R.PWR_DETACH_STAT_DENY = cause := by
  unfold detachDeny
  simp (disch := decide) only [fld_setFld_apart, fld_setFld, true_and]
  exact Nat.mod_eq_of_lt hc

/-- A detach request in SERVICE is denied while a group is armed, or for an absent X2, and else begins (R94). -/
theorem detachRequest_service {s : State} {m : Master} (x2 : Bool) (ho : s.opens m .pwr 0 = true)
    (hst : s.fld R.PWR_DETACH_STAT_STATE = 0) : s.detachRequest m x2 =
    (if s.anyArmed then s.detachDeny x2 1
      else if x2 && !s.on R.PWR_STAT_X2_PRESENT then s.detachDeny x2 2 else s.detachBegin x2).okResp := by
  have hon : (s.setFld R.PWR_DETACH_CTL_SCOPE (b2n x2)).on R.PWR_STAT_X2_PRESENT = s.on R.PWR_STAT_X2_PRESENT := by
    unfold on
    rw [fld_setFld_apart _ _ (by decide) (by decide)]
  unfold detachRequest
  dsimp only
  rw [hst, write_ok s m _ rfl ho rfl (remoteDown_false s 0 (by decide) (by decide)), if_neg (by decide), anyArmed_setFld_scope, hon]
  rfl

theorem detachRequest_armed {s : State} {m : Master} (x2 : Bool) (ho : s.opens m .pwr 0 = true)
    (hst : s.fld R.PWR_DETACH_STAT_STATE = 0) (ha : s.anyArmed = true) : s.detachRequest m x2 = (s.detachDeny x2 1).okResp := by
  rw [detachRequest_service x2 ho hst, if_pos ha]

theorem detachRequest_absent {s : State} {m : Master} (ho : s.opens m .pwr 0 = true) (hst : s.fld R.PWR_DETACH_STAT_STATE = 0)
    (ha : s.anyArmed = false) (hp : s.on R.PWR_STAT_X2_PRESENT = false) : s.detachRequest m true = (s.detachDeny true 2).okResp := by
  rw [detachRequest_service true ho hst, if_neg (ne_true_of_eq_false ha), if_pos (by rw [hp]; rfl)]

theorem detachRequest_begins {s : State} {m : Master} {x2 : Bool} (ho : s.opens m .pwr 0 = true)
    (hst : s.fld R.PWR_DETACH_STAT_STATE = 0) (ha : s.anyArmed = false) (hp : x2 = true → s.on R.PWR_STAT_X2_PRESENT = true) :
    s.detachRequest m x2 = (s.detachBegin x2).okResp := by
  have hdeny : ¬ (x2 && !s.on R.PWR_STAT_X2_PRESENT) = true := by
    rw [Bool.and_eq_true, Bool.not_eq_true']
    exact fun h => absurd (hp h.1) (ne_true_of_eq_false h.2)
  rw [detachRequest_service x2 ho hst, if_neg (ne_true_of_eq_false ha), if_neg hdeny]

/-- A presence loop that opens in SERVICE is an unplanned withdrawal (R93). -/
theorem loopOpen_service {s : State} (x2 : Bool) (lost : State → State) (h : s.fld R.PWR_DETACH_STAT_STATE = 0) :
    s.loopOpen x2 lost = lost s := by
  unfold loopOpen
  rw [h]
  rfl

end State

theorem execX2Attach_absent {s : State} (h : s.on R.PWR_STAT_X2_PRESENT = false) : execX2Attach s =
    .next ((((((s.setFld R.PWR_STAT_X2_PRESENT 1).updPwr fun p => { p with x2Lost := false }).sensShow).evt .pwr 0 E.PWR_X2_ATTACH).postOpen
      0x7005 (locPwr 2))) :=
  congrArg Host.Outcome.next (if_neg (ne_true_of_eq_false h))

theorem execX1LoopOpen_service {s : State} (hp : s.on R.PWR_STAT_X1_PRESENT = true) (hst : s.fld R.PWR_DETACH_STAT_STATE = 0) :
    execX1LoopOpen s = .next ((((((s.setFld R.PWR_STAT_X1_PRESENT 0).updPwr fun p => { p with x1Lost := true }).flt .pwr 0
      F.PWR_X1_WITHDRAWN).postOpen 0x7003 (locPwr 1)).raise 23 State.allGroups).recTrigger 2) := by
  have hst : (s.setFld R.PWR_STAT_X1_PRESENT 0).fld R.PWR_DETACH_STAT_STATE = 0 :=
    (State.fld_setFld_apart s 0 (by decide) (by decide)).trans hst
  unfold execX1LoopOpen
  rw [if_neg (by rw [hp]; decide), State.loopOpen_service _ _ hst]

theorem execX2LoopOpen_present {s : State} (h : s.on R.PWR_STAT_X2_PRESENT = true) : execX2LoopOpen s =
    .next ((((s.setFld R.PWR_STAT_X2_PRESENT 0).sensShow).posFreeze).loopOpen true fun s =>
      (((s.updPwr fun p => { p with x2Lost := true }).flt .pwr 0 F.PWR_X2_WITHDRAWN).postOpen 0x7004 (locPwr 2)).raise 24
        State.allGroups) :=
  congrArg Host.Outcome.next (if_neg (by rw [h]; decide))

/-- The end of DRAINING: READY, with the request bit clear again (R95). -/
theorem execDetachReady_draining {s : State} (h : s.fld R.PWR_DETACH_STAT_STATE = 1) : ∃ t, execDetachReady s = .next t ∧
    t.fld R.PWR_DETACH_STAT_STATE = 2 ∧ t.fld R.PWR_DETACH_CTL_REQ = 0 := by
  unfold execDetachReady
  rw [if_pos h]
  refine ⟨_, rfl, ?_, ?_⟩ <;>
  · unfold State.postOpen
    rw [State.tookFree_fld, State.fld_post _ _ _ _ (by decide) (by decide), State.fld_evt_ne _ _ _ _ (by decide)]
    simp (disch := decide) only [State.fld_setFld_apart, State.fld_setFld]
    rfl

theorem execDetachCancel_ready {s : State} {m : Master} (ho : s.opens m .pwr 0 = true) (h : s.fld R.PWR_DETACH_STAT_STATE = 2) :
    execDetachCancel m s = .next (s.detachEnd 0).okResp := by
  unfold execDetachCancel State.detachCancel
  rw [State.write_ok s m _ rfl ho rfl (State.remoteDown_false s 0 (by decide) (by decide)), if_pos h]

theorem execDetachTimeout_ready {s : State} (h : s.fld R.PWR_DETACH_STAT_STATE = 2) :
    execDetachTimeout s = .next ((s.opTo .pwr 0).detachEnd 1) := congrArg Host.Outcome.next (if_pos h)

end Sys2Proof.Machine
end

section
/-!
Connectors and planned detach: the commands complete, and when a request is denied.
-/
open Sys2Proof Sys2Proof.Machine

/-- Settles O7: each command by the lemma that says what it answers when its condition holds. -/
theorem connectorCommandsComplete : Obligations.ConnectorCommandsComplete := by
  unfold Obligations.ConnectorCommandsComplete
  exact ⟨fun s h => execX2Attach_absent h, fun s hp hst => execX1LoopOpen_service hp hst, fun s h => execX2LoopOpen_present h,
    fun s m ho hst ha hp => congrArg Host.Outcome.next (State.detachRequest_begins ho hst ha fun _ => hp),
    fun s h => execDetachReady_draining h, fun s m ho h => execDetachCancel_ready ho h, fun s h => execDetachTimeout_ready h⟩

/-- Settles O52: a request in SERVICE is one of two denials or the start of the detach. -/
theorem detachDenied : Obligations.DetachDenied := by
  unfold Obligations.DetachDenied
  refine ⟨fun s m b ho hst ha => ?_, fun s m ho hst ha hp => ?_, fun s m b ho hst ha hb hp => ?_, fun s m ho hst ha => ?_⟩
  · obtain ⟨hstate, hdeny⟩ := s.detachDeny_fields b (cause := 1) (by decide)
    exact ⟨_, congrArg Host.Outcome.next (State.detachRequest_armed b ho hst ha), rfl, hstate.trans hst, hdeny⟩
  · obtain ⟨hstate, hdeny⟩ := s.detachDeny_fields true (cause := 2) (by decide)
    exact ⟨_, congrArg Host.Outcome.next (State.detachRequest_absent ho hst ha hp), rfl, hstate.trans hst, hdeny⟩
  · subst hb
    exact ⟨_, congrArg Host.Outcome.next (State.detachRequest_begins ho hst ha fun _ => hp), rfl, s.detachBegin_fields true⟩
  · exact ⟨_, congrArg Host.Outcome.next (State.detachRequest_begins ho hst ha nofun), rfl, s.detachBegin_fields false⟩

end

section
/-!
SUPPORT. PAGE_LOCK: who may write it and with which key (R114), what other writes leave of OPEN, and its state after a reset.
-/
namespace Sys2Proof.Machine

/-- A read of a store filtered by its keys: a key that the filter keeps as before, every other as if it were unlisted. -/
theorem Store.read_filter {α : Type} (d : Nat → α) (p : Nat → Bool) (m : Store α) (j : Nat) :
    Store.read d (m.filter fun e => p e.1) j = if p j then Store.read d m j else d j := by
  induction m with
  | nil => simp only [List.filter_nil, Store.read, ite_self]
  | cons e m ih =>
    obtain ⟨a, w⟩ := e
    rw [List.filter_cons]
    split <;> simp only [Store.read, ih] <;> grind

/-- A header register lies at its offset within 4 KB (R107, R110). -/
theorem hdr_addr_mod (k : PageKind) (n : Nat) {off : Nat} (lo w : Nat) (ho : off < 0x1000) : (hdr k n off lo w).addr % 0x1000 = off := by
  have hbase : k.base % 0x1000 = 0 := by cases k <;> rfl
  simp only [hdr, PageKind.page]
  omega

theorem inHeader_page (k : PageKind) (n : Nat) {off : Nat} (ho : off < 0x40) : inHeader k (k.page n + off) = true := by
  rw [inHeader, PageKind.page, decide_eq_true_eq]
  omega

/-- Every lock resets to 0: neither open nor committed (R113). -/
theorem resetWord_pageLock (k : PageKind) {n : Nat} (hn : n < k.count) : resetWord (k.page n + 0x0C) = 0 := by
  have hoff : (k.page n + 0x0C - k.base) % 0x1000 = 0x0C := by
    rw [PageKind.page]
    omega
  unfold resetWord
  rw [pageAt_page k hn (by decide)]
  dsimp only
  rw [if_pos (inHeader_page k n (by decide)), hoff]
  rfl

namespace State

/-- No software reset holds the header of its page (R111). -/
theorem srstHeld_header (s : State) (k : PageKind) (n : Nat) {off : Nat} (ho : off < 0x40) : s.srstHeld k n (k.page n + off) = false := by
  rw [srstHeld, inHeader_page k n ho, Bool.not_true, Bool.and_false]

/-! ### What leaves OPEN as it was -/

theorem lockOpen_wr (s : State) (k : PageKind) (n : Nat) {a : Nat} (v : Word) (h : a % 0x1000 ≠ 0x0C) :
    (s.wr a v).lockOpen k n = s.lockOpen k n := by
  have hne : (hdr k n 0x0C 0 1).addr ≠ a := fun e => h (e ▸ hdr_addr_mod k n 0 1 (by decide))
  unfold lockOpen on
  rw [fld_of_rd (rd_wr_ne s v hne)]

/-- A write to a field of no PAGE_LOCK, or to one above OPEN. -/
theorem lockOpen_setFld (s : State) (k : PageKind) (n : Nat) {f : Fld} (v : Nat) (hw : f.lo + f.w ≤ 32)
    (h : f.addr % 0x1000 ≠ 0x0C ∨ 1 ≤ f.lo) : (s.setFld f v).lockOpen k n = s.lockOpen k n := by
  have hapart : (hdr k n 0x0C 0 1).addr ≠ f.addr ∨ f.lo + f.w ≤ 0 ∨ 0 + 1 ≤ f.lo :=
    h.imp (fun h e => h (e ▸ hdr_addr_mod k n 0 1 (by decide))) .inr
  unfold lockOpen on
  rw [fld_setFld_apart s v hw hapart]

theorem foldl_lockOpen {α : Type} {f : State → α → State} {k : PageKind} {n : Nat} (s : State) (l : List α)
    (h : ∀ t, ∀ x ∈ l, (f t x).lockOpen k n = t.lockOpen k n) : (l.foldl f s).lockOpen k n = s.lockOpen k n :=
  List.foldlRecOn l f (motive := fun t => t.lockOpen k n = s.lockOpen k n) rfl fun t ht x hx => (h t x hx).trans ht

/-! ### A write of PAGE_LOCK (R114) -/

/-- MC alone writes PAGE_LOCK, and its checker core does not (R436). -/
theorem writePageLock_owner (s : State) {m : Master} (k : PageKind) (n : Nat) (v : Word) (h : rights m ≠ .mc ∨ isChecker m = true) :
    s.writePageLock m k n v = s.errResp m true (k.page n + 0x0C) .owner :=
  if_pos h

/-- MC does not open a lock with another key. -/
theorem writePageLock_key (s : State) (k : PageKind) (n : Nat) {v : Word} (hopen : getBits v 0 1 = 1) (hkey : getBits v 8 8 ≠ 0x5A) :
    s.writePageLock (.core .mc) k n v = s.errResp (.core .mc) true (k.page n + 0x0C) .key := by
  unfold writePageLock
  rw [if_neg (by decide)]
  exact checked_refused s _ k n _ _ (b := true) (s.srstHeld_header k n (by decide)) (by rw [hopen, bne_iff_ne.mpr hkey]; rfl)

/-- Where the key lets it, MC's write succeeds and leaves the lock open exactly if it writes OPEN = 1. -/
theorem writePageLock_mc {s : State} {k : PageKind} {n : Nat} {v : Word} (hr : s.remoteDown k n = false)
    (hkey : getBits v 0 1 = 1 → getBits v 8 8 = 0x5A) : (s.writePageLock (.core .mc) k n v).resp = ⟨0, 0⟩ ∧
    (s.writePageLock (.core .mc) k n v).lockOpen k n = (getBits v 0 1 != 0) := by
  have hrule : (getBits v 0 1 == 1 && getBits v 8 8 != 0x5A) = false := by
    rw [Bool.and_eq_false_imp]
    intro hopen
    rw [hkey (beq_iff_eq.mp hopen)]
    rfl
  have hlock : ((s.setFld (hdr k n 0x0C 0 1) (getBits v 0 1)).setFld (hdr k n 0x0C 3 1) (getBits v 3 1)).lockOpen k n =
      (getBits v 0 1 != 0) := by
    rw [lockOpen_setFld _ k n _ (by decide : 3 + 1 ≤ 32) (.inr (by decide : 1 ≤ 3)), lockOpen, on,
      fld_setFld _ _ (by decide : 0 + 1 ≤ 32)]
    exact congrArg (· != 0) (Nat.mod_eq_of_lt (getBits_lt v 0 1))
  unfold writePageLock
  rw [if_neg (by decide), checked_ok _ _ _ _ (s.srstHeld_header k n (by decide)) (by rw [hrule]; rfl) hr]
  refine ⟨rfl, ?_⟩
  dsimp only
  split
  · exact (lockOpen_setFld _ k n 1 (by decide : 2 + 1 ≤ 32) (.inr (by decide : 1 ≤ 2))).trans hlock
  · exact hlock

/-! ### After a reset (R114) -/

/-- The registers that a reset starts from are those of the driver dies at most, and no header is among them. -/
theorem lockOpen_resetStart (s t : State) {k : PageKind} {n : Nat} (dies : Bool) (hn : n < k.count) :
    ({ t with regs := if dies then s.regs.filter fun e => dieRegister e.1 else [] } : State).lockOpen k n = false := by
  have hheader : dieRegister (k.page n + 0x0C) = false := by
    have hmod : (k.page n + 0x0C) % 0x1000 = 0x0C := hdr_addr_mod k n 0 1 (by decide)
    rw [dieRegister, hmod]
    exact Bool.and_false _
  have hrd : Store.read resetWord (if dies then s.regs.filter fun e => dieRegister e.1 else []) (k.page n + 0x0C) = 0 := by
    rw [← resetWord_pageLock k hn]
    cases dies
    · rfl
    · exact (Store.read_filter resetWord dieRegister s.regs _).trans (if_neg (ne_true_of_eq_false hheader))
  unfold lockOpen on fld rd
  simp only [hdr, hrd]
  decide

/-- A reset opens no lock: what it keeps or sets are other registers, and of PAGE_LOCK the field COMMITTED alone. -/
theorem lockOpen_resetRegs (s t : State) {k : PageKind} {n : Nat} (cause : Nat) (dies : Bool) (hn : n < k.count) :
    (s.resetRegs t cause dies).lockOpen k n = false := by
  have hkept : ∀ u : State, (nvRegs.foldl (fun u a => u.wr a (s.rd a)) u).lockOpen k n = u.lockOpen k n := fun u =>
    foldl_lockOpen u nvRegs fun u a ha => lockOpen_wr u k n _ ((by decide : ∀ a ∈ nvRegs, a % 0x1000 ≠ 0x0C) a ha)
  have hcommitted : ∀ u : State, (pageKinds.foldl (fun t k => t.each (List.range k.count) fun t n =>
      t.setFld (hdr k n 0x0C 2 1) (s.fld (hdr k n 0x0C 2 1))) u).lockOpen k n = u.lockOpen k n := fun u =>
    foldl_lockOpen u pageKinds fun u _ _ => foldl_lockOpen u _ fun u _ _ =>
      lockOpen_setFld u k n _ (by decide : 2 + 1 ≤ 32) (.inr (by decide : 1 ≤ 2))
  have hvectors : ∀ u : State, (u.each (List.range 2) fun t p => t.wr (R.TND_RVEC p) (s.rd (R.TND_RVEC p))).lockOpen k n =
      u.lockOpen k n := fun u => foldl_lockOpen u _ fun u p hp =>
    lockOpen_wr u k n _ ((by decide : ∀ p ∈ List.range 2, R.TND_RVEC p % 0x1000 ≠ 0x0C) p hp)
  have hfld : ∀ (u : State) (f : Fld) (v : Nat), f.lo + f.w ≤ 32 → f.addr % 0x1000 ≠ 0x0C → (u.setFld f v).lockOpen k n = u.lockOpen k n :=
    fun u f v hw ha => lockOpen_setFld u k n v hw (.inl ha)
  have hcause : ∀ u : State, (u.wr R.SYS_RST_CAUSE (BitVec.ofNat 32 cause)).lockOpen k n = u.lockOpen k n := fun u =>
    lockOpen_wr u k n _ (by decide)
  unfold resetRegs
  simp (disch := decide) only [apply_ite (fun u : State => u.lockOpen k n), hvectors, hcommitted, hcause, hfld, hkept,
    lockOpen_resetStart s t dies hn, ite_self]

theorem lockOpen_resetState (s : State) {k : PageKind} {n : Nat} (cause : Nat) (dies : Bool) (hn : n < k.count) :
    (s.resetState cause dies).lockOpen k n = false := lockOpen_resetRegs _ _ cause dies hn

end State

theorem execPageLockWrite_page (m : Master) {a : Word} (v : Word) (s : State) {k : PageKind} {n : Nat} (h : pageAt a.toNat = some (k, n)) :
    execPageLockWrite m a v s = .next (s.writePageLock m k n v) := by
  unfold execPageLockWrite
  rw [h]

end Sys2Proof.Machine
end

section
/-!
PAGE_LOCK opens only to MC with its key.
-/
open Sys2Proof Sys2Proof.Machine

/-- Settles O57: the three answers to a write of PAGE_LOCK, and OPEN after a power-on reset as after any other (R114). -/
theorem pageLock : Obligations.PageLock := by
  unfold Obligations.PageLock
  refine ⟨fun s m a v k n hp hm => ?_, fun s a v k n hp hopen hkey => ?_, fun s a v k n hp hr hopen hkey => ?_,
    fun s a v k n hp hr hclose => ?_, fun s d k n hn => ⟨_, exec_powerOnReset d s, s.lockOpen_resetState 1 d hn⟩⟩
  · refine ⟨_, execPageLockWrite_page m v s hp, ?_⟩
    rw [State.writePageLock_owner s k n v (.inl hm)]
    exact State.refused_errResp ..
  · refine ⟨_, execPageLockWrite_page _ v s hp, ?_⟩
    rw [State.writePageLock_key s k n hopen hkey]
    exact State.refused_errResp ..
  · obtain ⟨hresp, hlock⟩ := State.writePageLock_mc hr fun _ => hkey
    rw [hopen] at hlock
    exact ⟨_, execPageLockWrite_page _ v s hp, hresp, hlock⟩
  · obtain ⟨hresp, hlock⟩ := State.writePageLock_mc (v := v) hr (by omega)
    rw [hclose] at hlock
    exact ⟨_, execPageLockWrite_page _ v s hp, hresp, hlock⟩

end

section
/-!
SUPPORT. The engine's instructions as commands: which instruction each of them is, what the effect of an issued instruction makes of the
run, and what that effect leaves alone.
-/
namespace Sys2Proof.Machine

/-! ### Instruction commands -/

/-- Each row of the engine's table is the command that issues the instruction of its opcode. -/
theorem engineTable_insOut {l : Fin 4} {e : Instr × Nat} (he : e ∈ engineTable l) : ∃ f, ∀ s, exec e.1 s = insOut l e.2 f s := by
  revert e
  simp only [engineTable, List.cons_append, List.nil_append, List.forall_mem_cons, List.not_mem_nil, false_implies, implies_true,
    and_true]
  and_intros
  all_goals exact ⟨_, fun _ => rfl⟩

/-- The command of an instruction that the lane issues has the effect of the instruction's function (R146, R153). -/
theorem State.Issues.exec_next {s : State} {l : Fin 4} {op : Nat} {r : Run} {i : Ins} (h : s.Issues l op r i) {c : Instr}
    {f : State → Run → Ins → Eff} {e : Eff} (hc : exec c s = insOut l op f s) (he : f s r i = e) :
    exec c s = .next (s.applyEff l r e) := by
  obtain ⟨hrun, hlen, hi, hop, herr, hp1, hp2, hbad, hheld⟩ := h
  rw [hc, insOut, issue_runs f hrun hlen hi hop herr hp1 hp2 hbad hheld, he]

/-! ### The run after an instruction -/

/-- The run with words it has written: its X words held back, its output ports pending (R140, R150). -/
def Run.wrote (r : Run) (w : List (Nat × Word)) : Run :=
  let put (m : Store Word) (l : List (Nat × Word)) : Store Word := l.foldl (fun m p => m.insert p.1 p.2) m
  let outs := w.filter fun p => 0x80 ≤ p.1
  { r with xs := put r.xs (w.filter fun p => 0x20 ≤ p.1 && p.1 < 0x30), outs := put r.outs outs,
           drain := if outs.isEmpty then r.drain else r.drain ++ [outs] }

/-- The run at its next instruction, with the flags of an effect taken in (R142, R146). -/
def Run.advanced (r : Run) (e : Eff) : Run :=
  { r with idx := r.idx + 1, reissued := false, invalid := r.invalid || e.inv, pf := e.pf.getD r.pf }

namespace State

/-! ### One lane's and one context's update -/

theorem lane_updLane_ne (s : State) {l k : Nat} (f : Lane → Lane) (h : k ≠ l) : (s.updLane l f).lane k = s.lane k :=
  Store.read_write_ne _ _ h _

theorem ctx_updCtx (s : State) (c : Nat) (f : Ctx → Ctx) : (s.updCtx c f).ctx c = f (s.ctx c) := Store.read_write_same ..

theorem ctx_updCtx_ne (s : State) {c d : Nat} (f : Ctx → Ctx) (h : d ≠ c) : (s.updCtx c f).ctx d = s.ctx d :=
  Store.read_write_ne _ _ h _

/-- An update that keeps the context's record keeps every context. -/
theorem ctx_updCtx_id (s : State) (c d : Nat) : (s.updCtx c id).ctx d = s.ctx d := by
  by_cases h : d = c
  · rw [h, ctx_updCtx]
    rfl
  · exact ctx_updCtx_ne s id h

@[simp] theorem ctx_updLane (s : State) (l : Nat) (f : Lane → Lane) (c : Nat) : (s.updLane l f).ctx c = s.ctx c := rfl
@[simp] theorem lane_updCtx (s : State) (c : Nat) (f : Ctx → Ctx) (l : Nat) : (s.updCtx c f).lane l = s.lane l := rfl
@[simp] theorem clearErr_lane (s : State) (p : Nat → Bool) (l : Nat) : (s.clearErr p).lane l = s.lane l := rfl
@[simp] theorem clearErr_ctx (s : State) (p : Nat → Bool) (c : Nat) : (s.clearErr p).ctx c = s.ctx c := rfl
@[simp] theorem clearErr_rd (s : State) (p : Nat → Bool) (a : Nat) : (s.clearErr p).rd a = s.rd a := rfl

theorem ctx_congr {s t : State} (h : t.eng = s.eng) (c : Nat) : t.ctx c = s.ctx c := by
  unfold ctx
  rw [h]

/-! ### The words that a run writes -/

theorem writeOps_run (s : State) (l : Nat) (r : Run) (w : List (Nat × Word)) : ((s.writeOps l r w).lane l).run = some (r.wrote w) := by
  unfold writeOps
  rw [lane_updLane]
  rfl

theorem writeOps_lane_ne (s : State) {l k : Nat} (r : Run) (w : List (Nat × Word)) (h : k ≠ l) :
    (s.writeOps l r w).lane k = s.lane k := by
  unfold writeOps
  rw [lane_updLane_ne _ _ h, clearErr_lane, lane_updCtx]

theorem writeOps_ctx_ne (s : State) (l : Nat) {r : Run} {c : Nat} (w : List (Nat × Word)) (h : c ≠ r.ctx) :
    (s.writeOps l r w).ctx c = s.ctx c := by
  unfold writeOps
  rw [ctx_updLane, clearErr_ctx, ctx_updCtx_ne _ _ h]

theorem writeOps_nil_ctx (s : State) (l : Nat) (r : Run) (c : Nat) : (s.writeOps l r []).ctx c = s.ctx c := by
  unfold writeOps
  rw [ctx_updLane, clearErr_ctx]
  exact s.ctx_updCtx_id r.ctx c

theorem writeOps_rd (s : State) (l : Nat) (r : Run) (w : List (Nat × Word)) (a : Nat) : (s.writeOps l r w).rd a = s.rd a := by
  unfold writeOps
  rw [updLane_rd, clearErr_rd, updCtx_rd]

/-! ### Flags of a context -/

theorem ctxFlag_eng (s : State) (c : Nat) (f : Nat → Fld) : (s.ctxFlag c f).eng = s.eng := by
  unfold ctxFlag
  split <;> rfl

theorem ctxFlag_rd_ne (s : State) {c a : Nat} {f : Nat → Fld} (hf : a ≠ (f c).addr) (he : a ≠ PageKind.lpx.page (c / 16) + 0x10) :
    (s.ctxFlag c f).rd a = s.rd a := by
  unfold ctxFlag
  split
  · rfl
  · rw [evt_rd_ne _ _ _ _ he, rd_setFld_ne _ _ hf]

/-- The flags of an effect set in the run's context (R142). -/
def effFlags (s : State) (c : Nat) (e : Eff) : State :=
  let s := s.when e.inv (·.ctxFlag c R.LPX_STAT_INVALID)
  let s := s.when e.ovf (·.ctxFlag c R.LPX_STAT_OVF)
  s.when e.dz (·.ctxFlag c R.LPX_STAT_DIVZ)

theorem when_ctxFlag_eng (s : State) (b : Bool) (c : Nat) (f : Nat → Fld) : (s.when b (·.ctxFlag c f)).eng = s.eng := by
  cases b
  · rfl
  · exact s.ctxFlag_eng c f

theorem when_ctxFlag_rd_ne (s : State) (b : Bool) {c a : Nat} {f : Nat → Fld} (hf : a ≠ (f c).addr)
    (he : a ≠ PageKind.lpx.page (c / 16) + 0x10) : (s.when b (·.ctxFlag c f)).rd a = s.rd a := by
  cases b
  · rfl
  · exact s.ctxFlag_rd_ne hf he

theorem effFlags_eng (s : State) (c : Nat) (e : Eff) : (s.effFlags c e).eng = s.eng := by
  simp only [effFlags, when_ctxFlag_eng]

/-- INVALID, OVF and DIVZ stand in LPX_STAT, and where one becomes set so does UNIT_EVT (R142, R168). -/
theorem effFlags_rd_ne (s : State) {c a : Nat} (e : Eff) (hs : a ≠ R.LPX_STAT c) (he : a ≠ PageKind.lpx.page (c / 16) + 0x10) :
    (s.effFlags c e).rd a = s.rd a := by
  unfold effFlags
  rw [when_ctxFlag_rd_ne _ _ (f := R.LPX_STAT_DIVZ) hs he, when_ctxFlag_rd_ne _ _ (f := R.LPX_STAT_OVF) hs he,
    when_ctxFlag_rd_ne _ _ (f := R.LPX_STAT_INVALID) hs he]

/-- The run's bumpless mark used up, if the effect says so (R137). -/
def effMark (s : State) (r : Run) (e : Eff) : State :=
  if e.unmark then s.updCtx r.ctx fun x => { x with picMarks := x.picMarks.filter (· ≠ r.idx) } else s

theorem effMark_lane (s : State) (r : Run) (e : Eff) (k : Nat) : (s.effMark r e).lane k = s.lane k := by
  unfold effMark
  split
  · rw [lane_updCtx]
  · rfl

theorem effMark_ctx_ne (s : State) {r : Run} {c : Nat} (e : Eff) (h : c ≠ r.ctx) : (s.effMark r e).ctx c = s.ctx c := by
  unfold effMark
  split
  · rw [ctx_updCtx_ne _ _ h]
  · rfl

theorem effMark_rd (s : State) (r : Run) (e : Eff) (a : Nat) : (s.effMark r e).rd a = s.rd a := by
  unfold effMark
  split
  · rw [updCtx_rd]
  · rfl

/-! ### The effect of an instruction -/

/-- An effect sets its flags, uses up the mark, writes its words and takes its free values. -/
theorem applyEff_eq (s : State) (l : Nat) (r : Run) (e : Eff) : s.applyEff l r e =
    { ((s.effFlags r.ctx e).effMark r e).writeOps l (r.advanced e) e.writes with
      free := ((s.effFlags r.ctx e).effMark r e).free + e.taken } := rfl

@[simp] theorem withFree_lane (s : State) (n l : Nat) : ({ s with free := n } : State).lane l = s.lane l := rfl
@[simp] theorem withFree_ctx (s : State) (n c : Nat) : ({ s with free := n } : State).ctx c = s.ctx c := rfl
@[simp] theorem withFree_rd (s : State) (n a : Nat) : ({ s with free := n } : State).rd a = s.rd a := rfl

theorem applyEff_run (s : State) (l : Nat) (r : Run) (e : Eff) :
    ((s.applyEff l r e).lane l).run = some ((r.advanced e).wrote e.writes) := by
  rw [applyEff_eq, withFree_lane, writeOps_run]

theorem applyEff_lane_ne (s : State) {l k : Nat} (r : Run) (e : Eff) (h : k ≠ l) : (s.applyEff l r e).lane k = s.lane k := by
  rw [applyEff_eq, withFree_lane, writeOps_lane_ne _ _ _ h, effMark_lane, lane_congr (s.effFlags_eng r.ctx e)]

theorem applyEff_ctx_ne (s : State) (l : Nat) {r : Run} {c : Nat} (e : Eff) (h : c ≠ r.ctx) : (s.applyEff l r e).ctx c = s.ctx c := by
  rw [applyEff_eq, withFree_ctx, writeOps_ctx_ne _ l (r := r.advanced e) _ h, effMark_ctx_ne _ e h, ctx_congr (s.effFlags_eng r.ctx e)]

theorem applyEff_rd_ne (s : State) (l : Nat) {r : Run} {a : Nat} (e : Eff) (hs : a ≠ R.LPX_STAT r.ctx)
    (he : a ≠ PageKind.lpx.page (r.ctx / 16) + 0x10) : (s.applyEff l r e).rd a = s.rd a := by
  rw [applyEff_eq, withFree_rd, writeOps_rd, effMark_rd, s.effFlags_rd_ne e hs he]

/-- An instruction that only goes by advances the run and writes nothing (R146). -/
theorem applyEff_none (s : State) (l : Nat) (r : Run) :
    s.applyEff l r {} = s.writeOps l { r with idx := r.idx + 1, reissued := false } [] := by
  have hadv : r.advanced {} = { r with idx := r.idx + 1, reissued := false } := by simp [Run.advanced]
  rw [applyEff_eq, hadv]
  rfl

end State
end Sys2Proof.Machine
end

section
/-!
The engine's instructions: each completes with its effect, an issued one stays in its run, and one whose predicate is false only goes by.
-/
open Sys2Proof Sys2Proof.Machine

/-- Settles O47: each command issues an instruction, and the effect of any instruction keeps to the run, its lane and its context. -/
theorem issuedInstructionsStayInTheirRun : Obligations.IssuedInstructionsStayInTheirRun := by
  unfold Obligations.IssuedInstructionsStayInTheirRun
  intro l e he s r i h
  obtain ⟨f, hf⟩ := engineTable_insOut he
  exact ⟨s.applyEff l r (f s r i), _, h.exec_next (hf s) rfl, s.applyEff_run l r _, rfl, rfl, rfl, rfl, rfl, rfl, rfl,
    fun k hk => s.applyEff_lane_ne r _ hk, fun c hc => s.applyEff_ctx_ne l _ hc, fun a hs he => s.applyEff_rd_ne l _ hs he,
    s.applyEff_within l r _ rfl rfl rfl⟩

/-- Settles O48: the instruction goes by with the empty effect, which writes no word to any part but the engine's. -/
theorem predicateFalseOnlyGoesBy : Obligations.PredicateFalseOnlyGoesBy := by
  unfold Obligations.PredicateFalseOnlyGoesBy
  intro l e he s r i hrun hlen hi hop herr hbad hheld hpred
  obtain ⟨f, hf⟩ := engineTable_insOut he
  have hgo : exec e.1 s = .next (s.writeOps l { r with idx := r.idx + 1, reissued := false } []) := by
    rw [hf, insOut, State.issue_skips f hrun hlen hi hop herr hpred hbad hheld, State.applyEff_none]
  have hin : Within [Part.eng].contains s (s.writeOps l { r with idx := r.idx + 1, reissued := false } []) :=
    s.writeOps_within l _ [] rfl
  exact ⟨_, hgo, s.writeOps_run l _ [], (hin.same .regs rfl).1, fun k hk => s.writeOps_lane_ne _ [] hk,
    fun c => s.writeOps_nil_ctx l _ c, hin⟩

/-- Settles O13: each command is the instruction whose effect the statement names (R153). -/
theorem arithmeticInstructionsComplete : Obligations.ArithmeticInstructionsComplete := by
  unfold Obligations.ArithmeticInstructionsComplete
  exact ⟨fun s l _ _ h => h.exec_next (exec_nop l s) rfl, fun s l _ _ h => h.exec_next (exec_mov l s) rfl,
    fun s l _ _ h => h.exec_next (exec_add l s) rfl, fun s l _ _ h => h.exec_next (exec_sub l s) rfl,
    fun s l _ _ h => h.exec_next (exec_mul l s) rfl, fun s l _ _ h => h.exec_next (exec_mac l s) rfl,
    fun s l _ _ h => h.exec_next (exec_msb l s) rfl, fun s l _ _ h => h.exec_next (exec_neg l s) rfl,
    fun s l _ _ h => h.exec_next (exec_abs l s) rfl, fun s l _ _ h => h.exec_next (exec_min l s) rfl,
    fun s l _ _ h => h.exec_next (exec_max l s) rfl, fun s l _ _ h => h.exec_next (exec_clamp l s) rfl,
    fun s l _ _ h => h.exec_next (exec_lerp l s) rfl⟩

/-- Settles O14: each command is the instruction whose effect the statement names, free within its bound where only that is known (R153). -/
theorem functionInstructionsComplete : Obligations.FunctionInstructionsComplete := by
  unfold Obligations.FunctionInstructionsComplete
  exact ⟨fun s l _ _ h => h.exec_next (exec_rate l s) rfl, fun s l _ _ h => h.exec_next (exec_wrap l s) rfl,
    fun s l _ _ h => h.exec_next (exec_rcp l s) rfl, fun s l _ _ h => h.exec_next (exec_rsq l s) rfl,
    fun s l _ _ h => h.exec_next (exec_div l s) rfl, fun s l _ _ h => h.exec_next (exec_sqrt l s) rfl,
    fun s l _ _ h => h.exec_next (exec_hyp l s) rfl, fun s l _ _ h => h.exec_next (exec_atan2 l s) rfl,
    fun s l _ _ h => h.exec_next (exec_sincos l s) rfl, fun s l _ _ h => h.exec_next (exec_cvti l s) rfl,
    fun s l _ _ h => h.exec_next (exec_cvtf l s) rfl⟩

/-- Settles O15: a comparison writes the predicate, an integer instruction its raw word (R144, R153). -/
theorem logicInstructionsComplete : Obligations.LogicInstructionsComplete := by
  unfold Obligations.LogicInstructionsComplete
  exact ⟨fun s l _ _ h => h.exec_next (exec_cmplt l s) rfl, fun s l _ _ h => h.exec_next (exec_cmple l s) rfl,
    fun s l _ _ h => h.exec_next (exec_cmpeq l s) rfl, fun s l _ _ h => h.exec_next (exec_cmpag l s) rfl,
    fun s l _ _ h => h.exec_next (exec_pandlt l s) rfl, fun s l _ _ h => h.exec_next (exec_porlt l s) rfl,
    fun s l _ _ h => h.exec_next (exec_sel l s) rfl, fun s l _ _ h => h.exec_next (exec_btst l s) rfl,
    fun s l _ _ h => h.exec_next (exec_and l s) rfl, fun s l _ _ h => h.exec_next (exec_or l s) rfl,
    fun s l _ _ h => h.exec_next (exec_xor l s) rfl, fun s l _ _ h => h.exec_next (exec_shr l s) rfl⟩

/-- Settles O16: a transform, the controller, the modulator or a table look-up writes the words of its effect (R155 to R159). -/
theorem blockInstructionsComplete : Obligations.BlockInstructionsComplete := by
  unfold Obligations.BlockInstructionsComplete
  exact ⟨fun s l _ _ h => h.exec_next (exec_clk3 l s) rfl, fun s l _ _ h => h.exec_next (exec_vsd6 l s) rfl,
    fun s l _ _ h => h.exec_next (exec_park l s) rfl, fun s l _ _ h => h.exec_next (exec_ipark l s) rfl,
    fun s l _ _ h => h.exec_next (exec_parksc l s) rfl, fun s l _ _ h => h.exec_next (exec_iparksc l s) rfl,
    fun s l _ _ h => h.exec_next (exec_pic l s) rfl, fun s l _ _ h => h.exec_next (exec_svm l s) rfl,
    fun s l _ _ h => h.exec_next (exec_lut1 l s) rfl, fun s l _ _ h => h.exec_next (exec_lut2 l s) rfl⟩

end

section
/-!
SUPPORT. The window monitors: what their commands answer when their condition holds, and the record that a self-check leaves (R192, R193,
R200).
-/
namespace Sys2Proof.Machine

/-! ### Trips, releases and resolutions -/

theorem execMonitorTrip_beyond {s : State} {k : Fin 32} {hi : Bool} {ch : Fin 32} {x : Int} (hx : s.monLooks k hi ch x = some true)
    (hs : s.monState k hi < 2) : execMonitorTrip k hi ch x s = .next (s.monTripped k hi).tookFree :=
  congrArg Host.Outcome.next (if_pos ⟨hx, hs⟩)

theorem execMonitorRelease_back {s : State} {k : Fin 32} {hi : Bool} {ch : Fin 32} {x : Int} (hx : s.monLooks k hi ch x = some false)
    (hs : s.monState k hi = 1) : execMonitorRelease k hi ch x s = .next ((s.setFld (State.monStateFld k hi) 0).showPt).tookFree :=
  congrArg Host.Outcome.next (if_pos ⟨hx, hs⟩)

/-- An UNRESOLVED comparator with no failed check behind it resolves on an input outside its band: beyond the threshold it trips, back by the
hysteresis it is CLEAR (R193). -/
theorem execMonitorResolve_outside {s : State} {k : Fin 32} {hi : Bool} {ch : Fin 32} {x : Int} {beyond : Bool}
    (hx : s.monLooks k hi ch x = some beyond) (hf : (s.mon k).failed = false) (hs : s.monState k hi = 2) : execMonitorResolve k hi ch x s =
    .next (if beyond then s.monTripped k hi else (s.setFld (State.monStateFld k hi) 0).showPt).tookFree := by
  unfold execMonitorResolve
  rw [if_pos ⟨by rw [hf]; rfl, hs⟩, hx]
  cases beyond <;> rfl

/-! ### A self-check's end -/

/-- The result of a self-check whose comparators showed `pass`: 1 passed, 2 failed, 3 a swap check that is INCONCLUSIVE (R200). -/
def Mon.checkResult (r : Mon) (pass : Bool) : Nat := if r.check = 1 && r.unres then 3 else if pass then 1 else 2

/-- The monitor's record after a self-check: none runs, and a failure stays until a check passes (R200). -/
def Mon.checked (r : Mon) (pass : Bool) : Mon :=
  { r with check := 0, failed := if r.checkResult pass = 1 then false else r.failed || r.checkResult pass = 2 }

/-- A tie-off check is never INCONCLUSIVE: it failed unless it passed (R200). -/
theorem Mon.checked_tie {r : Mon} (h : r.check = 2) (pass : Bool) : (r.checked pass).failed = !pass := by
  unfold checked checkResult
  rw [h]
  cases pass <;> simp

namespace State

@[simp] theorem mon_updMon (s : State) (k : Nat) (f : Mon → Mon) : (s.updMon k f).mon k = f (s.mon k) := Store.read_write_same ..

theorem mon_congr {s t : State} (h : t.sens = s.sens) (k : Nat) : t.mon k = s.mon k := by
  unfold mon
  rw [h]

/-- Every part of the state but that of the converters, queue and monitors. -/
def notSens (p : Part) : Bool := p != .sens

theorem post_sens (s : State) (code l d : Nat) : (s.post code l d).sens = s.sens :=
  (s.post_within (P := notSens) code l d rfl rfl rfl).same .sens rfl

theorem ite_post_sens {c : Prop} [Decidable c] (s : State) (code l d : Nat) : (if c then s.post code l d else s).sens = s.sens := by
  split
  · exact s.post_sens code l d
  · rfl

theorem monUnresolve_showPt_sens (s : State) (k : Nat) : (s.monUnresolve k).showPt.sens = s.sens :=
  ((s.monUnresolve_within (P := notSens) k rfl).trans (showPt_within _ rfl)).same .sens rfl

end State

/-- The end of a self-check leaves its record in the monitor: the event, the comparators' states and the pulse-terminate requests that follow
are none of the monitors' records. -/
theorem execMonitorCheckDone_checked {s : State} {k : Fin 32} (pass : Bool) (h : (s.mon k).check ≠ 0) :
    ∃ t, execMonitorCheckDone k pass s = .next t ∧ t.mon k = (s.mon k).checked pass := by
  refine ⟨_, congrArg Host.Outcome.next (if_neg h), ?_⟩
  rw [State.mon_congr (State.monUnresolve_showPt_sens ..), State.mon_congr (State.ite_post_sens ..), State.mon_updMon]
  rfl

end Sys2Proof.Machine
end

section
/-!
Sensing and the window monitors: their frames, and the monitors' commands.
-/
open Sys2Proof Sys2Proof.Machine

/-- Settles O36: each command by the frame of its meaning. -/
theorem sensingFrames : Obligations.SensingFrames := by
  unfold Obligations.SensingFrames
  exact ⟨
    fun src => touches_of_within fun s => execLongWindowClose_within src s rfl,
    fun m sel => touches_of_within fun s => execReferenceSelect_within m sel s rfl rfl rfl rfl rfl rfl,
    fun meas => touches_of_within fun s => execReferenceReady_within meas s rfl rfl rfl rfl,
    fun meas => touches_of_within fun s => execRefFail_within meas s rfl rfl rfl rfl rfl rfl,
    fun m ch => touches_of_within fun s => execLastRead_within m ch s rfl rfl,
    fun m => touches_of_within fun s => execFaqPop_within m s rfl rfl rfl,
    fun m => touches_of_within fun s => execFaqDiscard_within m s rfl rfl rfl rfl rfl rfl,
    touches_of_within fun s => execFaqFallbackWrite_within s rfl rfl rfl rfl rfl rfl,
    touches_of_within fun s => execHkRoundStart_within s rfl rfl,
    fun conv => touches_of_within fun s => execHkStall_within conv s rfl rfl rfl rfl rfl rfl,
    fun k hi ch x => touches_of_within fun s => execMonitorTrip_within k hi ch x s rfl rfl rfl rfl rfl rfl rfl,
    fun k hi ch x => touches_of_within fun s => execMonitorRelease_within k hi ch x s rfl rfl,
    fun k hi ch x => touches_of_within fun s => execMonitorResolve_within k hi ch x s rfl rfl rfl rfl rfl rfl rfl,
    fun m k => touches_of_within fun s => execMonitorSwapCheck_within m k s rfl rfl rfl rfl rfl rfl,
    fun m k => touches_of_within fun s => execMonitorTieCheck_within m k s rfl rfl rfl rfl rfl rfl,
    fun k pass => touches_of_within fun s => execMonitorCheckDone_within k pass s rfl rfl rfl rfl⟩

/-- Settles O9: a comparator acts by its side of the threshold and its state; a check's end is read from the record it leaves, and by its
frame it stores no byte. -/
theorem monitorCommandsComplete : Obligations.MonitorCommandsComplete := by
  unfold Obligations.MonitorCommandsComplete
  refine ⟨fun s k hi ch x hx hs => execMonitorTrip_beyond hx hs, fun s k hi ch x hx hs => execMonitorRelease_back hx hs,
    fun s k hi ch x hx hf hs => (execMonitorResolve_outside hx hf hs :), fun s k hi ch x hx hf hs => (execMonitorResolve_outside hx hf hs :),
    fun s m k => exec_monitorSwapCheck m k s, fun s m k => exec_monitorTieCheck m k s, fun s k pass htie => ?_⟩
  have hruns : (s.mon k).check ≠ 0 := by rw [htie]; decide
  obtain ⟨t, ht, hmon⟩ := execMonitorCheckDone_checked pass hruns
  obtain ⟨hmem, -⟩ := ((execMonitorCheckDone_within (P := fun p => p != .bytes) k pass s rfl rfl rfl rfl).next_ t ht).same .bytes rfl
  refine ⟨t, (exec_monitorCheckDone k pass s).trans ht, ?_, ?_, hmem⟩
  · rw [hmon]
    rfl
  · rw [hmon]
    exact Mon.checked_tie htie pass

end

section
/-!
SUPPORT. Carriers and arming: what the commands of a power group answer when their condition holds (R213–R217, R227–R229).
-/
namespace Sys2Proof.Machine

theorem execCarrierPeriodStart_running {s : State} {g : Fin 12} (hr : s.on (R.PG_STAT_CAR_RUN g) = true) : execCarrierPeriodStart g s =
    .next ((s.periodStart 11 g).each ((List.range 12).filter (s.periodStart 11 g).atPeriodStart) State.convStart) :=
  congrArg Host.Outcome.next (if_pos hr)

theorem execHalfPeriodPoint_boundary {s : State} {g : Fin 12} (hr : s.on (R.PG_STAT_CAR_RUN g) = true)
    (hw : s.wmode g = 2 ∨ s.wmode g = 3) : execHalfPeriodPoint g s = .next (s.windowBoundary g) :=
  congrArg Host.Outcome.next (if_pos (by simpa [hr] using hw))

/-! ### Arming -/

theorem execArm_opens {s : State} {m : Master} {g : Fin 12} (ho : s.opens m .pg g = true) : execArm m g s = .next (s.armGroup m g) :=
  congrArg Host.Outcome.next (if_pos (State.opens_iff.mp ho).1)

theorem execPrechargeEnd_precharging {s : State} {g : Fin 12} (hs : s.gstate g = 1) (hp : (s.grp g).precharging = true) :
    execPrechargeEnd g s =
    .next ((s.each (s.prechargeChans g) fun s c => (s.updLeg (chanLeg c) fun r => { r with code := 0 }).directOff c).updGrp g fun r =>
      { r with precharging := false, charged := true }) :=
  congrArg Host.Outcome.next (if_pos (by simp [hs, hp]))

theorem execArmingComplete_charged {s : State} {g : Fin 12} (hs : s.gstate g = 1) (hc : (s.grp g).charged = true)
    (hp : s.atPeriodStart g = true) : execArmingComplete g s = .next (((s.armComplete g).trcArmed g).each [0, 1, 2] State.actEval) :=
  congrArg Host.Outcome.next (if_pos ⟨hs, hc, hp⟩)

/-- The first condition of R227 that fails gives its DENY code to the abort (R228). -/
theorem execArmingAbort_failed {s : State} {g : Fin 12} {p : Nat × Bool} (hs : s.gstate g = 1)
    (hp : ((s.armConds g).find? fun p => !p.2) = some p) : execArmingAbort g s = .next (s.disarmed g p.1) := by
  unfold execArmingAbort
  rw [hp]
  exact congrArg Host.Outcome.next (if_pos hs)

/-! ### Disarming -/

/-- A write to a page of a power group that its sender may make and no rule refuses: no such page lies behind a link (R121). -/
theorem State.write_pg {s : State} {m : Master} {a n : Nat} {errs : List (Bool × ErrKind)} {eff : State → State}
    (hp : pageAt a = some (.pg, n)) (ho : s.opens m .pg n = true) (he : errs.filter Prod.fst = []) :
    s.write m a errs eff = (eff s).okResp :=
  write_ok s m eff hp ho he (remoteDown_false s n (by decide) (by decide))

/-- What an admitted DISARM does, by the group's state (R229). -/
theorem execDisarm_opens {s : State} {m : Master} {g : Fin 12} (ho : s.opens m .pg g = true) : execDisarm m g s =
    .next (if s.gstate g = 2 then s.updGrp g fun r => { r with disarmPend := true }
      else if s.gstate g = 1 then s.disarmed g 0 else s).okResp := by
  have hp : ∀ g : Fin 12, pageAt (R.PG_ARM g) = some (.pg, g.val) := by decide
  exact congrArg Host.Outcome.next (State.write_pg (hp g) ho rfl)

theorem execDisarm_armed {s : State} {m : Master} {g : Fin 12} (ho : s.opens m .pg g = true) (hs : s.gstate g = 2) :
    execDisarm m g s = .next (s.updGrp g fun r => { r with disarmPend := true }).okResp := by
  rw [execDisarm_opens ho, if_pos hs]

theorem execDisarm_arming {s : State} {m : Master} {g : Fin 12} (ho : s.opens m .pg g = true) (hs : s.gstate g = 1) :
    execDisarm m g s = .next (s.disarmed g 0).okResp := by
  rw [execDisarm_opens ho, if_neg (by omega), if_pos hs]

/-- A group that is neither ARMING nor ARMED takes no notice of DISARM. -/
theorem execDisarm_inert {s : State} {m : Master} {g : Fin 12} (ho : s.opens m .pg g = true) (h1 : s.gstate g ≠ 1) (h2 : s.gstate g ≠ 2) :
    execDisarm m g s = .next s.okResp := by
  rw [execDisarm_opens ho, if_neg h2, if_neg h1]

theorem execDisarmTakeEffect_pending {s : State} {g : Fin 12} (hs : s.gstate g = 2) (hd : (s.grp g).disarmPend = true)
    (hp : s.atPeriodStart g = true) : execDisarmTakeEffect g s = .next (s.disarmed g 0) :=
  congrArg Host.Outcome.next (if_pos ⟨hs, hd, hp⟩)

end Sys2Proof.Machine
end

section
/-!
SUPPORT. Nolil frames: what a die makes of a frame as it was sent, and of one whose CRC fails (R233–R236).
-/
namespace Sys2Proof.Machine

/-! ### The frame on the line -/

theorem crc8Bit_lt {c : Nat} (h : c < 256) : crc8Bit c < 256 := by
  unfold crc8Bit
  split
  · exact Nat.xor_lt_two_pow (n := 8) (Nat.mod_lt _ (by decide)) (by decide)
  · omega

/-- The CRC-8 of any bytes is a byte. -/
theorem crc8_lt (bs : List Byte) : crc8 bs < 256 := by
  unfold crc8
  refine List.foldlRecOn bs _ (motive := (· < 256)) (by decide) fun c hc b _ => ?_
  exact List.foldlRecOn _ _ (motive := (· < 256)) (Nat.xor_lt_two_pow (n := 8) hc b.isLt) fun c hc _ _ => crc8Bit_lt hc

/-- Without noise the bytes arrive as they were sent. -/
theorem noisy_nil (f : List Byte) : noisy [] f = f := by
  unfold noisy
  simp

/-- The last byte of a frame is the CRC-8 of those before it (R233). -/
def crcGood (f : List Byte) : Prop := (f.getLastD 0).toNat = crc8 f.dropLast

namespace State

theorem downFrame_crcGood (s : State) (k type : Nat) (body : List Byte) : crcGood (s.downFrame k type body) := by
  unfold crcGood downFrame
  dsimp only
  rw [List.dropLast_concat, List.getLastD_concat, BitVec.toNat_ofNat]
  exact Nat.mod_eq_of_lt (crc8_lt _)

theorem downFrame_body (s : State) (k type : Nat) (body : List Byte) : ((s.downFrame k type body).drop 1).dropLast = body := by
  unfold downFrame
  exact List.dropLast_concat

/-- The header holds SYNC, the type and SEQ (R233). -/
theorem downFrame_header {s : State} {k type : Nat} (body : List Byte) (ht : type < 8) (hs : (s.link k).seq < 4) :
    ((s.downFrame k type body).getD 0 0).toNat = 5 * 2 ^ 5 + type * 2 ^ 2 + (s.link k).seq := by
  unfold downFrame
  exact (BitVec.toNat_ofNat ..).trans (Nat.mod_eq_of_lt (by omega))

theorem downFrame_sync {s : State} {k type : Nat} (body : List Byte) (ht : type < 8) (hs : (s.link k).seq < 4) :
    ((s.downFrame k type body).getD 0 0).toNat / 2 ^ 5 = 5 := by
  rw [downFrame_header body ht hs]
  omega

theorem downFrame_type {s : State} {k type : Nat} (body : List Byte) (ht : type < 8) (hs : (s.link k).seq < 4) :
    ((s.downFrame k type body).getD 0 0).toNat % 2 ^ 5 / 2 ^ 2 = type := by
  rw [downFrame_header body ht hs]
  omega

/-! ### The frame at the die -/

/-- A frame of another type than EDGE whose CRC fails is counted, and is nothing else (R233). -/
theorem dieReceive_crcBad {s : State} {k t : Nat} {f : List Byte} {hot : List Nat} (hc : ¬ crcGood f)
    (ht : (f.getD 0 0).toNat % 2 ^ 5 / 2 ^ 2 ≠ 1) : s.dieReceive k t f hot = s.crcError k := by
  have hok : ((f.getLastD 0).toNat == crc8 f.dropLast) = false := beq_false_of_ne hc
  unfold dieReceive
  simp only [hok, Bool.and_false, Bool.false_eq_true, if_false, Bool.false_and]
  split
  · rfl
  · next h => exact absurd h ht
  · rfl
  · rfl

theorem dieReceive_idle {s : State} {k t : Nat} {f : List Byte} {hot : List Nat} (hc : crcGood f)
    (hh : (f.getD 0 0).toNat / 2 ^ 5 = 5) (ht : (f.getD 0 0).toNat % 2 ^ 5 / 2 ^ 2 = 0) :
    s.dieReceive k t f hot = s.idleLevels k ((((f.drop 1).dropLast).getD 2 0).toNat / 16) hot := by
  have hok : ((f.getLastD 0).toNat == crc8 f.dropLast) = true := beq_iff_eq.mpr hc
  unfold dieReceive
  simp only [hok, hh, ht, -Nat.reducePow]
  rfl

theorem dieReceive_safe {s : State} {k t : Nat} {f : List Byte} {hot : List Nat} (hc : crcGood f)
    (hh : (f.getD 0 0).toNat / 2 ^ 5 = 5) (ht : (f.getD 0 0).toNat % 2 ^ 5 / 2 ^ 2 = 2) :
    s.dieReceive k t f hot = s.safeFrame k t (((f.drop 1).dropLast).getD 0 0).toNat hot := by
  have hok : ((f.getLastD 0).toNat == crc8 f.dropLast) = true := beq_iff_eq.mpr hc
  unfold dieReceive
  simp only [hok, hh, ht, -Nat.reducePow]
  rfl

/-- An IDLE frame reaches its die as it was sent. -/
theorem dieReceive_downFrame_idle {s u : State} {k t : Nat} {body : List Byte} {hot : List Nat} (hs : (u.link k).seq < 4) :
    s.dieReceive k t (u.downFrame k 0 body) hot = s.idleLevels k ((body.getD 2 0).toNat / 16) hot := by
  rw [dieReceive_idle (u.downFrame_crcGood ..) (downFrame_sync _ (by decide) hs) (downFrame_type _ (by decide) hs), downFrame_body]

/-- A SAFE frame reaches its die as it was sent. -/
theorem dieReceive_downFrame_safe {s u : State} {k t : Nat} {body : List Byte} {hot : List Nat} (hs : (u.link k).seq < 4) :
    s.dieReceive k t (u.downFrame k 2 body) hot = s.safeFrame k t (body.getD 0 0).toNat hot := by
  rw [dieReceive_safe (u.downFrame_crcGood ..) (downFrame_sync _ (by decide) hs) (downFrame_type _ (by decide) hs), downFrame_body]

end State

/-! ### LEVELS of an IDLE frame -/

theorem legIdx_linkLeg {k i : Nat} (h : i < if k < 12 then 2 else 4) : legIdx (linkLeg k i) = i := by
  unfold legIdx linkLeg
  by_cases hk : k < 12
  · rw [if_pos hk] at h ⊢
    split <;> omega
  · rw [if_neg hk] at h ⊢
    split <;> omega

/-- A number written bit by bit, each value at its own place, has no bit above the last. -/
theorem foldl_bits_lt (f : Nat → Bool) {g : Nat → Nat} {n : Nat} (hg : ∀ i < n, g i = i) :
    (List.range n).foldl (fun m i => m + b2n (f i) * 2 ^ g i) 0 < 2 ^ n := by
  induction n with
  | zero => exact Nat.one_pos
  | succ n ih =>
    have hlow := ih fun i hi => hg i (Nat.lt_succ_of_lt hi)
    have hb : b2n (f n) * 2 ^ n ≤ 1 * 2 ^ n := Nat.mul_le_mul_right _ (by cases f n <;> decide)
    rw [List.range_succ, List.foldl_append, Nat.pow_succ]
    rw [List.foldl_cons, List.foldl_nil, hg n (Nat.lt_succ_self n)]
    omega

/-- The levels of a link's legs, each at its leg's index, as an IDLE frame carries them (R233). -/
def State.linkLevels (s : State) (k : Nat) : Nat := (linkLegs k).foldl (fun m l => m + b2n (s.legLevel l) * 2 ^ legIdx l) 0

/-- A die carries at most four legs, so LEVELS has four bits. -/
theorem State.linkLevels_lt (s : State) (k : Nat) : s.linkLevels k < 16 := by
  unfold linkLevels linkLegs
  rw [List.foldl_map]
  refine Nat.lt_of_lt_of_le (foldl_bits_lt (fun i => s.legLevel (linkLeg k i)) fun i hi => legIdx_linkLeg hi) ?_
  split <;> decide

/-- The IDLE frame of a link (R233): TIME, LEVELS and the fallback choice. -/
def State.idleFrame (s : State) (k : Nat) : List Byte :=
  s.downFrame k 0 (wordBytes (s.now % 2 ^ 16) ++ [BitVec.ofNat 8 (s.linkLevels k * 16 + s.fld (R.NL_CTL_FALLBACK k))])

/-! ### The frames' commands -/

theorem execIdleFrame_eq (k : Fin 15) (noise : List Byte) (hot : List Nat) (s : State) :
    execIdleFrame k noise hot s = .next ((s.sent k).dieReceive k 0 (noisy noise (s.idleFrame k)) hot) := rfl

theorem execIdleFrame_clean {s : State} {k : Fin 15} (hot : List Nat) (hs : (s.link k).seq < 4) :
    execIdleFrame k [] hot s = .next ((s.sent k).idleLevels k (s.linkLevels k) hot) := by
  have hl := s.linkLevels_lt k
  have hf : s.fld (R.NL_CTL_FALLBACK k) < 2 := getBits_lt _ _ 1
  have hbyte : (BitVec.ofNat 8 (s.linkLevels k * 16 + s.fld (R.NL_CTL_FALLBACK k))).toNat / 16 = s.linkLevels k := by
    rw [BitVec.toNat_ofNat]
    omega
  rw [execIdleFrame_eq, noisy_nil]
  exact congrArg Host.Outcome.next ((State.dieReceive_downFrame_idle hs).trans
    (congrArg (fun l => (s.sent k).idleLevels k l hot) hbyte))

theorem execIdleFrame_crcBad {s : State} {k : Fin 15} {noise : List Byte} (hot : List Nat) (hc : ¬ crcGood (noisy noise (s.idleFrame k)))
    (ht : ((noisy noise (s.idleFrame k)).getD 0 0).toNat % 2 ^ 5 / 2 ^ 2 ≠ 1) :
    execIdleFrame k noise hot s = .next ((s.sent k).crcError k) := by
  rw [execIdleFrame_eq, State.dieReceive_crcBad hc ht]

/-- The field of the edge at a place of an EDGE frame (R234): MORE before the place `last`; AGE as the field starts, the first at `t0`. -/
def edgeFieldBytes (last t0 : Nat) (e : LinkItem × Nat) : List Byte :=
  match e.1 with
  | .edge i lv t => wordBytes (edgeWord (e.2 < last) i lv (t0 + 2048 * e.2 / 5 - t))
  | _ => []

/-- The edges that an EDGE frame carries leave the queue as its fields reach the die (R233, R234). -/
theorem execEdgeFrame_edges {s : State} {k : Fin 15} {n : Fin 5} (lag : Fin 65536) (noise : List Byte) (hot : List Nat) {i : Nat} {lv : Bool}
    {t0 : Nat} {rest : List LinkItem} (h : (s.nextEdges k).take n = .edge i lv t0 :: rest) : execEdgeFrame k n lag noise hot s =
    .next (((s.sent k).updLink k fun r => { r with queue := (LinkItem.edge i lv t0 :: rest).foldl (fun q e => q.erase e) r.queue }).dieReceive
      k 0 (noisy noise (s.downFrame k 1 ((LinkItem.edge i lv t0 :: rest).zipIdx.flatMap (edgeFieldBytes rest.length (t0 + lag))))) hot) := by
  unfold execEdgeFrame
  simp only [h, List.length_cons, Nat.add_lt_add_iff_right]
  rfl

/-- The SAFE frame next in order leaves the queue and acts on the die. -/
theorem execSafeFrame_clean {s : State} {k : Fin 15} (hot : List Nat) {t codes : Nat} {rest : List LinkItem} (hs : (s.link k).seq < 4)
    (hc : codes < 256) (hq : (s.link k).queue.filter (· ≠ .cfg) = .safe t codes :: rest) : execSafeFrame k [] hot s =
    .next (((s.sent k).updLink k fun r => { r with queue := r.queue.erase (.safe t codes) }).safeFrame k t codes hot) := by
  have hbyte : (BitVec.ofNat 8 codes).toNat = codes := by
    rw [BitVec.toNat_ofNat]
    exact Nat.mod_eq_of_lt hc
  unfold execSafeFrame
  rw [hq]
  dsimp only
  rw [noisy_nil, State.dieReceive_downFrame_safe hs, List.getD_cons_zero, hbyte]

theorem execCfgFrame_waiting {s : State} {k : Fin 15} (hq : (s.link k).queue.contains .cfg = true) : execCfgFrame k true s =
    .next (((s.sent k).updLink k fun r => { r with queue := r.queue.erase .cfg }).cfgFrame k) :=
  congrArg Host.Outcome.next (if_pos hq)

theorem execStatusFrame_up {s : State} {k : Fin 15} (sel : Fin 3) (v : Fin 4096) (meas : List Nat) (hu : s.fld (R.NL_STAT_STATE k) = 2) :
    execStatusFrame k sel v meas s = .next (s.statusFrame k sel v meas) :=
  congrArg Host.Outcome.next (if_pos (.inl hu))

end Sys2Proof.Machine
end

section
/-!
SUPPORT. The state of a Nolil link: loss at both ends, training, calibration, restart and region mismatch (R237–R240).
-/
namespace Sys2Proof.Machine

theorem execDieLinkLoss_falls {s : State} {k : Fin 15} (hot : List Nat) (hf : (s.link k).fallback = false) : execDieLinkLoss k hot s =
    .next (((s.updLink k fun r => { r with fallback := true, cfgd := false, queue := [] }).each (linkLegs k) fun s l =>
      (s.endRefresh l).applyLeg l true hot).each (linkChans k) State.updReady) :=
  congrArg Host.Outcome.next (if_neg (by rw [hf]; decide))

theorem execControllerLinkLoss_up {s : State} {k : Fin 15} (hu : s.fld (R.NL_STAT_STATE k) = 2) : execControllerLinkLoss k s =
    .next (((((((s.setFld (R.NL_STAT_STATE k) 3).setFld (R.NL_STAT_CAL_DONE k) 0).inc (R.NL_ERR_LOSS k)).linkFault k).each
      ((List.range 12).filter (bitAt (s.dieGroups k))) fun s g => s.flt .pg g F.PG_LINK_LOST).post 0x3051 (locLink k) k).raise 8
      (s.dieGroups k)) :=
  congrArg Host.Outcome.next (if_pos (.inl hu))

theorem execLinkTrained_enabled {s : State} {k : Fin 15} (he : s.on (R.NL_CTL_EN k) = true) (h2 : s.fld (R.NL_STAT_STATE k) ≠ 2)
    (h4 : s.fld (R.NL_STAT_STATE k) ≠ 4) : execLinkTrained k s =
    .next ((s.setFld (R.NL_STAT_STATE k) 2).setFld ⟨R.NL_REG k, 28, 3⟩ 0) :=
  congrArg Host.Outcome.next (if_pos (by simp [he, h2, h4]))

theorem execLinkCalDone_up {s : State} {k : Fin 15} (v : Fin 256) (hu : s.fld (R.NL_STAT_STATE k) = 2) : execLinkCalDone k v s =
    .next ((s.setFld (R.NL_STAT_CAL_DONE k) 1).setFld (R.NL_STAT_TRIM k) v) :=
  congrArg Host.Outcome.next (if_pos (.inl hu))

/-- A RESTART is admitted while none of the die's groups is ARMING, ARMED or SAFE (R239). -/
theorem execLinkRestart_admitted {s : State} {m : Master} {k : Fin 15} (ho : s.opens m .pg 0 = true) (hd : s.dieActive k = false) :
    execLinkRestart m k s = .next (s.restartLink k).okResp := by
  have hp : ∀ k : Fin 15, pageAt (R.NL_CTL k) = some (.pg, 0) := by decide
  exact congrArg Host.Outcome.next (State.write_pg (hp k) ho (by rw [hd]; rfl))

/-- The link of a die with a region quantity out of its limit goes to REGION, and its groups' line is raised (R240). -/
theorem execRegionMismatch_up {s : State} {k : Fin 15} (q : Fin 3) (hu : s.fld (R.NL_STAT_STATE k) = 2) : execRegionMismatch k q s =
    .next ((((((s.setFld (State.regionFld k q) 1).setFld (R.NL_STAT_STATE k) 4).linkFault k).post 0x3052 (locLink k) (k + q * 16))).raise 8
      ((((s.setFld (State.regionFld k q) 1).setFld (R.NL_STAT_STATE k) 4).linkFault k).dieGroups k)) :=
  congrArg Host.Outcome.next (if_pos (.inl hu))

end Sys2Proof.Machine
end

section
/-!
Power groups and Nolil links: their frames, and the commands complete.
-/
open Sys2Proof Sys2Proof.Machine

/-- Settles O37: each command by the frame of its meaning. -/
theorem driveFrames : Obligations.DriveFrames := by
  unfold Obligations.DriveFrames
  exact ⟨
    fun g => touches_of_within fun s => execHalfPeriodPoint_within g s rfl,
    fun g => touches_of_within fun s => execCntMismatch_within g s rfl rfl rfl rfl rfl,
    fun g slot => touches_of_within fun s => execEdgeDue_within g slot s rfl rfl,
    fun m g => touches_of_within fun s => execArm_within m g s rfl rfl rfl rfl rfl,
    fun g => touches_of_within fun s => execArmingAbort_within g s rfl rfl rfl rfl rfl,
    fun m g => touches_of_within fun s => execDisarm_within m g s rfl rfl rfl rfl rfl rfl rfl,
    fun k noise hot => touches_of_within fun s => execIdleFrame_within k noise hot s rfl rfl,
    fun k n lag noise hot => touches_of_within fun s => execEdgeFrame_within k n lag noise hot s rfl rfl,
    fun k noise hot => touches_of_within fun s => execSafeFrame_within k noise hot s rfl rfl,
    fun k crcOk => touches_of_within fun s => execRegFrame_within k crcOk s rfl rfl,
    fun k crcOk => touches_of_within fun s => execCfgFrame_within k crcOk s rfl rfl,
    fun k hot => touches_of_within fun s => execDieLinkLoss_within k hot s rfl rfl,
    fun k => touches_of_within fun s => execControllerLinkLoss_within k s rfl rfl rfl rfl rfl,
    fun k => touches_of_within fun s => execLinkTrained_within k s rfl,
    fun k trim => touches_of_within fun s => execLinkCalDone_within k trim s rfl,
    fun m k => touches_of_within fun s => execLinkRestart_within m k s rfl rfl rfl rfl rfl rfl,
    fun k q => touches_of_within fun s => execRegionMismatch_within k q s rfl rfl rfl rfl rfl,
    fun c => touches_of_within fun s => execDsatTrip_within c s rfl rfl,
    fun c => touches_of_within fun s => execTwoStepHoldEnd_within c s rfl,
    fun c pos low => touches_of_within fun s => execSupplyUvlo_within c pos low s rfl rfl,
    fun c => touches_of_within fun s => execReadySet_within c s rfl rfl,
    fun c => touches_of_within fun s => execClampOn_within c s rfl,
    fun c avg => touches_of_within fun s => execChannelPwrHigh_within c avg s rfl rfl rfl,
    fun c => touches_of_within fun s => execChannelPwrTrip_within c s rfl rfl,
    fun m c dsat pwr => touches_of_within fun s => execTripLatchClear_within m c dsat pwr s rfl rfl rfl rfl rfl rfl,
    fun l vbst => touches_of_within fun s => execBootstrapUvlo_within l vbst s rfl rfl,
    fun k vbr bad => touches_of_within fun s => execLvDieSupplyFault_within k vbr bad s rfl rfl,
    fun l => touches_of_within fun s => execRefreshPulse_within l s rfl rfl,
    fun l => touches_of_within fun s => execRefreshPulseEnd_within l s rfl rfl,
    touches_of_within fun s => execChopperSample_within s rfl,
    fun whileOff => touches_of_within fun s => execChopperFault_within whileOff s rfl rfl rfl rfl rfl,
    fun g => touches_of_within fun s => execSpeedFreewheelChange_within g s rfl rfl rfl rfl,
    fun g => touches_of_within fun s => execPrechargeEnd_within g s rfl rfl,
    fun l => touches_of_within fun s => execDeadTimeEnd_within l s rfl rfl,
    fun l => touches_of_within fun s => execLvSoftTurnOffEnd_within l s rfl⟩

/-- Settles O10: each command by the lemma that says what it answers when its condition holds. -/
theorem pwmCommandsComplete : Obligations.PwmCommandsComplete := by
  unfold Obligations.PwmCommandsComplete
  exact ⟨fun s g hr => execCarrierPeriodStart_running hr, fun s g hr hw => execHalfPeriodPoint_boundary hr hw,
    fun s g => exec_cntMismatch g s, fun s g k => exec_edgeDue g k s, fun s m g ho => execArm_opens ho,
    fun s g hs hp => execPrechargeEnd_precharging hs hp, fun s g hs hc hp => execArmingComplete_charged hs hc hp,
    fun s g p hs hp => execArmingAbort_failed hs hp, fun s m g ho hs => execDisarm_armed ho hs,
    fun s m g ho hs => execDisarm_arming ho hs, fun s m g ho hs => execDisarm_inert ho (by omega) (by omega),
    fun s m g ho hs => execDisarm_inert ho (by omega) (by omega), fun s g hs hd hp => execDisarmTakeEffect_pending hs hd hp⟩

/-- Settles O11: a frame without noise carries a good CRC, so the die acts on it as it was sent; the states of a link by the lemma that says
what each command answers when its condition holds. -/
theorem linkCommandsComplete : Obligations.LinkCommandsComplete := by
  unfold Obligations.LinkCommandsComplete
  refine ⟨fun s k hot hs => execIdleFrame_clean hot hs, fun s k noise hot f hf hc ht => ?_,
    fun s k n lag noise hot i lv t0 rest h => execEdgeFrame_edges lag noise hot h,
    fun s k hot t codes rest hs hc hq => execSafeFrame_clean hot hs hc hq, fun s k => exec_regFrame k true s,
    fun s k => exec_regFrame k false s, fun s k hq => execCfgFrame_waiting hq, fun s k q v meas hu => execStatusFrame_up q v meas hu,
    fun s k hot hf => execDieLinkLoss_falls hot hf, fun s k hu => execControllerLinkLoss_up hu,
    fun s k he h2 h4 => execLinkTrained_enabled he h2 h4, fun s k v hu => execLinkCalDone_up v hu,
    fun s m k ho hd => execLinkRestart_admitted ho hd, fun s k q hu => execRegionMismatch_up q hu⟩
  subst hf
  exact execIdleFrame_crcBad hot hc ht

end

section
/-!
SUPPORT. Driver dies: what the commands of their channels and legs, of the chopper and of the speed-dependent safe state answer when their
condition holds (R246–R264).
-/
namespace Sys2Proof.Machine
namespace State

/-- Computing READY anew writes no register field but READY itself and, for READY_ALL, the page's event flags (R248, R265). -/
theorem fld_updReady_apart (s : State) {c : Nat} {f : Fld}
    (hr : f.addr ≠ (chanReadyFld c).addr ∨ (chanReadyFld c).lo + (chanReadyFld c).w ≤ f.lo ∨ f.lo + f.w ≤ (chanReadyFld c).lo)
    (he : f.addr ≠ PageKind.ghd.page (c / 4) + 0x10) : (s.updReady c).fld f = s.fld f := by
  have hbits : (chanReadyFld c).lo + (chanReadyFld c).w ≤ 32 := by
    unfold chanReadyFld
    split
    · exact Nat.le_of_ble_eq_true rfl
    · dsimp only
      omega
  have hready : ∀ v, (s.setFld (chanReadyFld c) v).fld f = s.fld f := fun v => fld_setFld_apart s v hbits hr
  unfold updReady
  simp only [apply_ite (fun t : State => t.fld f), fld_evt_ne _ _ _ _ he, updChan_fld, hready, ite_self]

/-- An HV channel whose positive supply falls below its threshold (R253): counted, off directly, out of any two-step turn-off, and held off
until READY returns. -/
def posLockOut (s : State) (c : Nat) : State :=
  (((((s.setFld (ghd R.GHD_STAT_PUV c) 1).inc (ghd R.GHD_CNT_UV_CNT c)).directOff c).setFld (ghd R.GHD_STAT_TWO_STEP c) 0).updChan c
    fun r => { r with supOk := false, uvHold := true }).updReady c

/-- The lock-out of the positive supply says nothing of the negative one. -/
theorem posLockOut_nuv (s : State) {c : Nat} (hc : c < 64) :
    (s.posLockOut c).on (ghd R.GHD_STAT_NUV c) = s.on (ghd R.GHD_STAT_NUV c) := by
  have hon : chanOnFld c = ghd R.GHD_STAT_ON c := if_pos hc
  have hready : chanReadyFld c = ghd R.GHD_STAT_READY c := if_pos hc
  have hflag : (ghd R.GHD_STAT_NUV c).addr ≠ PageKind.ghd.page (c / 4) + 0x10 := by
    simp only [ghd, R.GHD_STAT_NUV, R.GHD_STAT, PageKind.page, PageKind.base]
    omega
  have hcount : (ghd R.GHD_STAT_NUV c).addr ≠ (ghd R.GHD_CNT_UV_CNT c).addr := by
    simp only [ghd, R.GHD_STAT_NUV, R.GHD_STAT, R.GHD_CNT_UV_CNT, R.GHD_CNT]
    omega
  have hbelow : ∀ (t : State) {f : Fld} (v : Nat), f.lo + f.w ≤ 5 →
      (t.setFld f v).fld (ghd R.GHD_STAT_NUV c) = t.fld (ghd R.GHD_STAT_NUV c) :=
    fun t f v h => fld_setFld_apart t v (by omega) (.inr (.inl h))
  have hfld : (s.posLockOut c).fld (ghd R.GHD_STAT_NUV c) = s.fld (ghd R.GHD_STAT_NUV c) := by
    unfold posLockOut directOff
    rw [fld_updReady_apart _ (by rw [hready]; exact .inr (.inl (Nat.le_of_ble_eq_true rfl))) hflag, updChan_fld, hon,
      hbelow _ _ (Nat.le_of_ble_eq_true rfl), hbelow _ _ (Nat.le_of_ble_eq_true rfl), fld_inc_ne _ hcount,
      hbelow _ _ (Nat.le_of_ble_eq_true rfl)]
  unfold on
  rw [hfld]

end State

/-! ### Channels of an HV die -/

theorem execDsatTrip_enabled {s : State} {c : Fin 48} (he : s.on (ghd R.GHD_DSAT_DSAT_EN c) = true) (ho : s.on (chanOnFld c) = true) :
    execDsatTrip c s = .next (s.dsatTrip c) :=
  congrArg Host.Outcome.next (if_pos (by rw [he, ho]; rfl))

theorem execTwoStepHoldEnd_turningOff {s : State} {c : Fin 48} (ht : s.on (ghd R.GHD_STAT_TWO_STEP c) = true) :
    execTwoStepHoldEnd c s = .next (s.setFld (ghd R.GHD_STAT_TWO_STEP c) 0) :=
  congrArg Host.Outcome.next (if_pos ht)

/-- The positive supply is supervised whatever NUV_EN says (R253). -/
theorem execSupplyUvlo_posBack (s : State) (c : Fin 48) : execSupplyUvlo c true false s = .next (s.setFld (ghd R.GHD_STAT_PUV c) 0) := rfl

/-- The negative supply is good, so the clamp stays as it is (R254). -/
theorem execSupplyUvlo_posFalls {s : State} {c : Fin 48} (hp : s.on (ghd R.GHD_STAT_PUV c) = false)
    (hn : s.on (ghd R.GHD_STAT_NUV c) = false) : execSupplyUvlo c true true s = .next (s.posLockOut c) := by
  have hclamp : ((s.posLockOut c).on (ghd R.GHD_STAT_PUV c) && (s.posLockOut c).on (ghd R.GHD_STAT_NUV c)) = false := by
    rw [State.posLockOut_nuv s (by omega), hn, Bool.and_false]
  calc execSupplyUvlo c true true s
    _ = .next (if s.on (ghd R.GHD_STAT_PUV c) then s
        else if (s.posLockOut c).on (ghd R.GHD_STAT_PUV c) && (s.posLockOut c).on (ghd R.GHD_STAT_NUV c) then
          (s.posLockOut c).setFld (ghd R.GHD_STAT_CLAMP_ON c) 0
        else s.posLockOut c) := rfl
    _ = .next (s.posLockOut c) := by
      rw [hp, hclamp]
      rfl

/-- An LV channel is good once its die's VDD is out of lock-out (R248, R258). -/
theorem execReadySet_lv {s : State} {c : Chan} (hc : isHv (chanNo c) = false) (hv : s.on (R.GLD_SUP_VDD_UV ((chanNo c - 64) / 8)) = false) :
    execReadySet c s = .next ((s.updChan (chanNo c) fun r => { r with supOk := true }).updReady (chanNo c)) := by
  unfold execReadySet
  simp only [hc, hv, Bool.false_and, Bool.and_false, Bool.false_eq_true, if_false]

theorem execClampOn_off {s : State} {c : Fin 48} (he : s.on (ghd R.GHD_CLP_CLAMP_EN c) = true) (ho : s.on (chanOnFld c) = false) :
    execClampOn c s = .next (s.setFld (ghd R.GHD_STAT_CLAMP_ON c) 1) :=
  congrArg Host.Outcome.next (if_pos (by rw [he, ho]; rfl))

theorem execChannelPwrHigh_below (s : State) (c : Fin 48) {v : Fin 256} (hv : v.val < 200) : execChannelPwrHigh c v s =
    .next (((s.setFld (ghd R.GHD_PWR_AVG c) v).setFld (ghd R.GHD_PWR_PEAK c)
      (max ((s.setFld (ghd R.GHD_PWR_AVG c) v).fld (ghd R.GHD_PWR_PEAK c)) v)).setFld (ghd R.GHD_STAT_PWR_HIGH c) 0) := by
  rw [State.fld_setFld_apart s v (f := ghd R.GHD_PWR_AVG c) (g := ghd R.GHD_PWR_PEAK c) (Nat.le_of_ble_eq_true rfl)
    (.inr (.inl (Nat.le_of_ble_eq_true rfl)))]
  exact congrArg Host.Outcome.next (if_pos hv)

theorem execChannelPwrTrip_reached {s : State} {c : Fin 48} (hp : 220 ≤ s.fld (ghd R.GHD_PWR_AVG c)) : execChannelPwrTrip c s =
    .next (((s.setFld (ghd R.GHD_STAT_PWR_LATCH c) 1).directOff c).updReady c) :=
  congrArg Host.Outcome.next (if_pos hp)

/-- A write of 1 to a latched trip of an HV channel is admitted while no group that holds its leg is ARMING, ARMED or SAFE (R252). -/
theorem execTripLatchClear_hv {s : State} {m : Master} {c : Chan} (dsat pwr : Bool) (hc : isHv (chanNo c) = true)
    (hm : (s.mayWrite m .ghd (chanNo c / 4) || s.isAgent m .ghd (chanNo c / 4)) = true)
    (hs : s.on (hdr .ghd (chanNo c / 4) 0x08 0 1) = false) (hr : s.remoteDown .ghd (chanNo c / 4) = false)
    (ha : s.legActive (chanLeg (chanNo c)) = false) : execTripLatchClear m c dsat pwr s =
    .next (((s.when dsat fun s => s.setFld (ghd R.GHD_STAT_DSAT_LATCH (chanNo c)) 0).when pwr fun s =>
      s.setFld (ghd R.GHD_STAT_PWR_LATCH (chanNo c)) 0).updReady (chanNo c)).okResp := by
  unfold execTripLatchClear
  dsimp only
  rw [if_pos hc, State.ackPage_ok s m _ _ hm (State.srstHeld_false _ hs) (by rw [ha]; rfl) hr]
  rfl

/-! ### Legs of an LV die -/

theorem execBootstrapUvlo_above (s : State) (l : Fin 12) {v : Fin 256} (hv : 75 ≤ v.val) : execBootstrapUvlo l v s =
    .next ((s.setFld (gld R.GLD_LEG_BST_VBST (0x20 + l.val)) v).setFld (gld R.GLD_LEG_STAT_BST_LOW (0x20 + l.val)) (b2n (v.val < 80))) :=
  congrArg Host.Outcome.next (if_neg (by simp [Nat.not_lt.mpr hv]))

theorem execLvDieSupplyFault_vddLow (s : State) (k : Fin 3) : execLvDieSupplyFault k false true s =
    .next ((((s.setFld (R.GLD_SUP_VDD_UV k) 1).each (linkChans (12 + k)) State.directOff).each (linkChans (12 + k)) fun s c =>
      s.updChan c fun r => { r with supOk := false }).each (linkChans (12 + k)) State.updReady) := rfl

theorem execRefreshPulse_due {s : State} {l : Fin 12} (he : s.on (gld R.GLD_LEG_CFG_REF_EN (0x20 + l.val)) = true)
    (hc : (s.leg (0x20 + l.val)).configured = true) (hu : (s.leg (0x20 + l.val)).use = 0) (h3 : s.legCode (0x20 + l.val) = 3)
    (hl : (s.leg (0x20 + l.val)).level = true) (hr : s.on (gld R.GLD_LEG_STAT_REFRESHING (0x20 + l.val)) = false) :
    execRefreshPulse l s =
    .next ((((s.setFld (gld R.GLD_LEG_STAT_REFRESHING (0x20 + l.val)) 1).inc (gld R.GLD_LEG_CNT_REFRESH_CNT (0x20 + l.val))).evt .gld (l / 4)
      (E.GLD_REFRESH + l % 4)).applyLeg (0x20 + l.val) false []) :=
  congrArg Host.Outcome.next (if_pos (by rw [he, hc, hu, h3, hl, hr]; rfl))

theorem execRefreshPulseEnd_refreshing {s : State} {l : Fin 12} (hr : s.on (gld R.GLD_LEG_STAT_REFRESHING (0x20 + l.val)) = true) :
    execRefreshPulseEnd l s = .next ((s.endRefresh (0x20 + l.val)).applyLeg (0x20 + l.val) false []) :=
  congrArg Host.Outcome.next (if_pos hr)

/-- The high side comes in once the low side is wholly off (R221, R247). -/
theorem execDeadTimeEnd_high {s : State} {l : PowerLeg} (hi : (s.leg (legNo l)).incoming = 2) (ho : s.chanOff (legLow (legNo l)) = true) :
    execDeadTimeEnd l s = .next ((s.updLeg (legNo l) fun r => { r with incoming := 0 }).turnOn (legHigh (legNo l))) := by
  unfold execDeadTimeEnd
  simp [hi, ho]

/-! ### Chopper and speed-dependent safe state -/

theorem execChopperSample_miss {s : State} (he : s.on R.SAF_CHOP_EN = true) (hl : s.slotLevel 7 0 = true)
    (hm : s.monState (s.fld R.SAF_CHOP_MON) true ≠ 1) : execChopperSample s = .next (s.inc R.SAF_CHOPSTAT_MISS) := by
  unfold execChopperSample
  rw [he, hl, if_neg hm]
  rfl

/-- Current with the chopper's level low is its fault at once, whatever CHOP_N says (R262). -/
theorem execChopperFault_whileOff {s : State} (he : s.on R.SAF_CHOP_EN = true) (hl : s.slotLevel 7 0 = false)
    (hm : s.monState (s.fld R.SAF_CHOP_MON) true = 1) : execChopperFault true s = .next (s.chopFault true) :=
  congrArg Host.Outcome.next (if_pos (by rw [he, hl, hm]; rfl))

theorem execSpeedFreewheelChange_slow {s : State} {g : Fin 12} (hs : s.gstate g = 3)
    (hk : s.fld (R.PG_STAT_SAFE_KIND g) = 2 ∨ s.fld (R.PG_STAT_SAFE_KIND g) = 3) (ht : s.on (R.SAF_GRP_TRAC g) = true)
    (hv : s.on (R.POS_STAT_SENSOR_FAULT (s.fld (R.SAF_GRP_POS g))) = false ∨ s.on (R.POS_STAT_FROZEN (s.fld (R.SAF_GRP_POS g))) = true)
    (hn : f32AbsGe (s.rd (R.POS_RPM (s.fld (R.SAF_GRP_POS g)))) (s.fld (R.SAF_GRP_N_CROSS g) * 19) 20 = false) :
    execSpeedFreewheelChange g s = .next ((s.commandGroup g 1).updSafeReg) :=
  congrArg Host.Outcome.next (if_pos (by simp [hs, hk, ht, hv, hn]))

end Sys2Proof.Machine
end

section
/-!
Gate channels and protection: the commands of the driver dies complete.
-/
open Sys2Proof Sys2Proof.Machine

/-- Settles O12: each command by the lemma that says what it answers when its condition holds; the lock-out of a positive supply keeps the
clamp, since the lock-out of the negative supply is as it was. -/
theorem dieCommandsComplete : Obligations.DieCommandsComplete := by
  unfold Obligations.DieCommandsComplete
  exact ⟨fun s c he ho => execDsatTrip_enabled he ho, fun s c ht => execTwoStepHoldEnd_turningOff ht,
    fun s c => execSupplyUvlo_posBack s c, fun s c hp hn => execSupplyUvlo_posFalls hp hn, fun s c hc hv => execReadySet_lv hc hv,
    fun s c he ho => execClampOn_off he ho, fun s c v hv => execChannelPwrHigh_below s c hv, fun s c hp => execChannelPwrTrip_reached hp,
    fun s m c hc hm hs hr ha => execTripLatchClear_hv true false hc hm hs hr ha, fun s l v hv => execBootstrapUvlo_above s l hv,
    fun s k => execLvDieSupplyFault_vddLow s k, fun s l hr => execRefreshPulseEnd_refreshing hr,
    fun s l he hc hu h3 hl hr => execRefreshPulse_due he hc hu h3 hl hr, fun s l hi ho => execDeadTimeEnd_high hi ho,
    fun s l => exec_lvSoftTurnOffEnd l s, fun s he hl hm => execChopperSample_miss he hl hm,
    fun s he hl hm => execChopperFault_whileOff he hl hm, fun s g hs hk ht hv hn => execSpeedFreewheelChange_slow hs hk ht hv hn⟩

end

section
/-!
What the commands of the machine blocks leave alone.
-/
open Sys2Proof Sys2Proof.Machine

/-- Settles O38: each command by the frame of its meaning. -/
theorem machineFrames : Obligations.MachineFrames := by
  unfold Obligations.MachineFrames
  exact ⟨
    fun m c k v => touches_of_within fun s => execMailboxWordWrite_within m c k v s rfl rfl rfl rfl rfl rfl,
    fun m c epoch => touches_of_within fun s => execMailboxCommit_within m c epoch s rfl rfl rfl rfl rfl,
    fun p l => touches_of_within fun s => execQuadratureEdge_within p l s rfl rfl rfl rfl rfl rfl,
    fun p l => touches_of_within fun s => execIllegalTransition_within p l s rfl rfl rfl rfl rfl rfl,
    fun p => touches_of_within fun s => execIllWindowEnd_within p s rfl,
    fun p l => touches_of_within fun s => execIndexPulse_within p l s rfl rfl rfl rfl rfl rfl,
    fun p l => touches_of_within fun s => execHallEdge_within p l s rfl rfl rfl rfl rfl rfl,
    fun p cur => touches_of_within fun s => execResolverResult_within p cur s rfl rfl rfl rfl rfl rfl rfl,
    fun p line => touches_of_within fun s => execSerialWord_within p line s rfl rfl rfl rfl rfl rfl,
    fun p => touches_of_within fun s => execSerialWordTimeout_within p s rfl rfl rfl rfl rfl rfl,
    fun p => touches_of_within fun s => execStandstill_within p s rfl rfl,
    fun m p wireOk => touches_of_within fun s => execPosRestart_within m p wireOk s rfl rfl rfl rfl rfl rfl,
    fun p cause => touches_of_within fun s => execSensorFault_within p cause s rfl rfl rfl rfl rfl rfl,
    fun e => touches_of_within fun s => execEmuStep_within e s rfl rfl rfl rfl,
    fun m e v => touches_of_within fun s => execEmuEnable_within m e v s rfl rfl rfl rfl rfl rfl,
    fun n => touches_of_within fun s => execTrcDeclaration_within n s rfl rfl rfl rfl rfl rfl,
    fun n => touches_of_within fun s => execDropModeChange_within n s rfl rfl rfl rfl,
    fun n => touches_of_within fun s => execDegradeWarning_within n s rfl rfl rfl,
    fun n => touches_of_within fun s => execDegradeExpiry_within n s rfl rfl rfl rfl rfl,
    fun m n => touches_of_within fun s => execTrcClear_within m n s rfl rfl rfl rfl rfl rfl,
    fun n => touches_of_within fun s => execKeIdentification_within n s rfl rfl rfl rfl rfl,
    fun m n => touches_of_within fun s => execKeRestart_within m n s rfl rfl rfl rfl rfl rfl,
    fun m v => touches_of_within fun s => execChgEnable_within m v s rfl rfl rfl rfl rfl rfl,
    fun rising => touches_of_within fun s => execCpEdge_within rising s rfl rfl rfl,
    touches_of_within fun s => execCpOscTimeout_within s rfl rfl rfl,
    fun high code => touches_of_within fun s => execCpCapture_within high code s rfl,
    touches_of_within fun s => execCpStateChange_within s rfl rfl rfl rfl,
    touches_of_within fun s => execPpRatingChange_within s rfl rfl,
    fun t => touches_of_within fun s => execHandshakeTimeout_within t s rfl rfl rfl rfl,
    touches_of_within fun s => execGridZeroCrossing_within s rfl rfl rfl,
    touches_of_within fun s => execGridOkSet_within s rfl,
    fun phase high => touches_of_within fun s => execGridVoltageTrip_within phase high s rfl rfl rfl rfl,
    fun kind => touches_of_within fun s => execGridFrequencyTrip_within kind s rfl rfl rfl rfl,
    fun direction => touches_of_within fun s => execPowerLimitTrip_within direction s rfl rfl rfl rfl,
    fun g => touches_of_within fun s => execDriveInterlock_within g s rfl rfl rfl rfl rfl,
    fun m v => touches_of_within fun s => execAuxEnable_within m v s rfl rfl rfl rfl rfl,
    touches_of_within fun s => execAuxTestPulseEnd_within s rfl rfl,
    touches_of_within fun s => execAuxSoftStartLimit_within s rfl,
    touches_of_within fun s => execAuxSoftStartTimeout_within s rfl rfl,
    touches_of_within fun s => execAuxOverload_within s rfl,
    touches_of_within fun s => execAuxHiccupEnd_within s rfl,
    touches_of_within fun s => execAuxRunStable_within s rfl,
    fun m n v => touches_of_within fun s => execActEnable_within m n v s rfl rfl rfl rfl rfl rfl rfl,
    fun n hall => touches_of_within fun s => execActHallEdge_within n hall s rfl rfl rfl rfl rfl rfl,
    fun n => touches_of_within fun s => execActHallFault_within n s rfl rfl rfl rfl rfl rfl rfl,
    fun n a b c => touches_of_within fun s => execActSwSample_within n a b c s rfl rfl rfl rfl rfl rfl rfl,
    fun n => touches_of_within fun s => execActDesync_within n s rfl rfl rfl rfl rfl rfl rfl,
    fun n => touches_of_within fun s => execActSpeedTimeout_within n s rfl rfl rfl rfl rfl rfl,
    fun n => touches_of_within fun s => execActPrechargeEnd_within n s rfl rfl rfl rfl rfl rfl,
    fun n => touches_of_within fun s => execActObserveEnd_within n s rfl rfl rfl rfl rfl rfl,
    fun n => touches_of_within fun s => execActRevbrakeEnd_within n s rfl rfl rfl rfl rfl rfl,
    fun n => touches_of_within fun s => execActCatchTimeout_within n s rfl rfl rfl rfl rfl rfl rfl,
    fun n => touches_of_within fun s => execActAlignEnd_within n s rfl rfl rfl rfl rfl rfl,
    fun n => touches_of_within fun s => execActRampEnd_within n s rfl rfl rfl rfl rfl rfl rfl,
    fun n => touches_of_within fun s => execActRetryEnd_within n s rfl rfl rfl rfl rfl rfl,
    fun n => touches_of_within fun s => execActRunStable_within n s rfl rfl,
    fun n => touches_of_within fun s => execActStall_within n s rfl rfl rfl rfl rfl rfl,
    fun n => touches_of_within fun s => execActEmfFault_within n s rfl rfl rfl rfl rfl rfl rfl,
    fun m n => touches_of_within fun s => execActZero_within m n s rfl rfl rfl rfl rfl,
    fun n => touches_of_within fun s => execParkSlip_within n s rfl rfl rfl rfl rfl,
    fun m start => touches_of_within fun s => execShiftGo_within m start s rfl rfl rfl rfl rfl rfl,
    fun m => touches_of_within fun s => execShiftAbort_within m s rfl rfl rfl rfl rfl rfl,
    touches_of_within fun s => execShiftStepTimeout_within s rfl rfl,
    touches_of_within fun s => execHl21TestStart_within s rfl rfl⟩

end

section
/-!
SUPPORT. Position channels and emulators: how a channel decodes its lines, what an operation leaves of a channel's record, and what the
commands answer when their condition holds (R273–R291).
-/
namespace Sys2Proof.Machine

/-- Whether a serial transaction runs on a channel, and when the gap after it ends (R280). -/
def PosRec.transaction (r : PosRec) : Bool × Nat := (r.busy, r.gapEnd)

namespace State

/-! ### A channel's record -/

@[simp] theorem posRec_updPos (s : State) (p : Nat) (f : PosRec → PosRec) : (s.updPos p f).posRec p = f (s.posRec p) :=
  Store.read_write_same ..

theorem updPos_congr (s : State) (p : Nat) {f g : PosRec → PosRec} (h : f (s.posRec p) = g (s.posRec p)) :
    s.updPos p f = s.updPos p g := by
  unfold updPos
  rw [h]

theorem posRec_congr {s t : State} (h : t.pos = s.pos) (p : Nat) : t.posRec p = s.posRec p := by
  unfold posRec
  rw [h]

/-- Every part of the state but that of the position channels and emulators. -/
def notPos (p : Part) : Bool := p != .pos

@[simp] theorem wr_posRec (s : State) (a : Nat) (v : Word) (p : Nat) : (s.wr a v).posRec p = s.posRec p := rfl
@[simp] theorem setFld_posRec (s : State) (f : Fld) (v p : Nat) : (s.setFld f v).posRec p = s.posRec p := rfl
@[simp] theorem inc_posRec (s : State) (f : Fld) (p : Nat) : (s.inc f).posRec p = s.posRec p := rfl
@[simp] theorem evt_posRec (s : State) (k : PageKind) (n b p : Nat) : (s.evt k n b).posRec p = s.posRec p := rfl
@[simp] theorem flt_posRec (s : State) (k : PageKind) (n b p : Nat) : (s.flt k n b).posRec p = s.posRec p := rfl
@[simp] theorem updEmu_posRec (s : State) (e : Nat) (f : EmuRec → EmuRec) (p : Nat) : (s.updEmu e f).posRec p = s.posRec p := rfl

@[simp] theorem post_posRec (s : State) (code l d p : Nat) : (s.post code l d).posRec p = s.posRec p :=
  posRec_congr ((s.post_within (P := notPos) code l d rfl rfl rfl).same .pos rfl) p

@[simp] theorem raise_posRec (s : State) (k own p : Nat) : (s.raise k own).posRec p = s.posRec p :=
  posRec_congr ((s.raise_within (P := notPos) k own rfl rfl rfl rfl rfl).same .pos rfl) p

@[simp] theorem showPos_posRec (s : State) (q p : Nat) : (s.showPos q).posRec p = s.posRec p :=
  posRec_congr ((s.showPos_within (P := notPos) q rfl).same .pos rfl) p

theorem ite_posRec {c : Prop} [Decidable c] {t u : State} {p : Nat} {r : PosRec} (ht : t.posRec p = r) (hu : u.posRec p = r) :
    (if c then t else u).posRec p = r := by
  split
  · exact ht
  · exact hu

@[simp] theorem showEmu_posRec (s : State) (e p : Nat) : (s.showEmu e).posRec p = s.posRec p := by
  unfold showEmu
  refine ite_posRec (ite_posRec ?_ ?_) ?_
  · rw [post_posRec, evt_posRec, setFld_posRec, setFld_posRec]
    exact ite_posRec ((updEmu_posRec ..).trans (setFld_posRec ..)) (setFld_posRec ..)
  · rw [setFld_posRec]
    exact ite_posRec ((updEmu_posRec ..).trans (setFld_posRec ..)) (setFld_posRec ..)
  · rw [setFld_posRec]
    exact ite_posRec ((updEmu_posRec ..).trans (setFld_posRec ..)) (setFld_posRec ..)

@[simp] theorem showEmus_posRec (s : State) (p : Nat) : s.showEmus.posRec p = s.posRec p := by
  unfold showEmus
  rw [showEmu_posRec, showEmu_posRec]

/-- The measurement that `f` makes of a channel's present one, with the machine's pole pairs as they stand. -/
def nextMeas (s : State) (p : Nat) (f : Meas → Meas) : Meas := { f (s.posRec p).meas with pp := s.fld (R.POS_CFG_MACH_PP p) }

theorem posRec_setMeas (s : State) (p : Nat) (f : Meas → Meas) : (s.setMeas p f).posRec p =
    { s.posRec p with meas := s.nextMeas p f, hist := (s.now, s.nextMeas p f) :: pruneHist s.now (s.posRec p).hist } := by
  unfold setMeas
  rw [showPos_posRec, posRec_updPos]
  rfl

/-- The registers that show a measurement lie from ANG to RPM. -/
theorem showPos_fld_apart (s : State) {p : Nat} {f : Fld} (h : f.addr < R.POS_ANG p ∨ R.POS_RPM p < f.addr) :
    (s.showPos p).fld f = s.fld f := by
  have ha : f.addr ≠ R.POS_ANG p ∧ f.addr ≠ R.POS_SPD p ∧ f.addr ≠ R.POS_RPM p := by
    simp only [R.POS_ANG, R.POS_SPD, R.POS_RPM] at h ⊢
    omega
  obtain ⟨hang, hspd, hrpm⟩ := ha
  refine fld_of_rd ?_
  unfold showPos
  split
  · rfl
  · rw [rd_wr_ne _ _ hrpm, rd_wr_ne _ _ hspd, rd_wr_ne _ _ hang]

theorem setMeas_fld_apart (s : State) {p : Nat} (g : Meas → Meas) {f : Fld} (h : f.addr < R.POS_ANG p ∨ R.POS_RPM p < f.addr) :
    (s.setMeas p g).fld f = s.fld f := by
  unfold setMeas
  rw [showPos_fld_apart _ h, updPos_fld]

/-! ### Filtered lines (R273–R276) -/

/-- The state as a channel has taken its filtered lines and not yet decoded them. -/
def linesTaken (s : State) (p new : Nat) : State := s.updPos p fun r => { r with lines := new }

/-- In quadrature mode A and B are decoded first and a rise of Z after them. -/
theorem posLines_quadrature {s : State} {p new : Nat} {l : List Nat} (hn : new = s.filtered p l) (hm : s.posMode p = 2)
    (hc : new ≠ (s.posRec p).lines) : s.posLines p l = showEmus
      (if bitAt new 2 && !bitAt (s.posRec p).lines 2 then ((s.linesTaken p new).quadState p (s.posRec p).lines new).index p
      else (s.linesTaken p new).quadState p (s.posRec p).lines new) := by
  subst hn
  have hm : (s.linesTaken p (s.filtered p l)).posMode p = 2 := hm
  unfold linesTaken at hm ⊢
  unfold posLines
  rw [if_neg hc]
  dsimp only
  rw [hm]
  rfl

theorem posLines_hall {s : State} {p new : Nat} {l : List Nat} (hn : new = s.filtered p l) (hm : s.posMode p = 3)
    (hc : new ≠ (s.posRec p).lines) : s.posLines p l = ((s.linesTaken p new).hallState p new).showEmus := by
  subst hn
  have hm : (s.linesTaken p (s.filtered p l)).posMode p = 3 := hm
  unfold linesTaken at hm ⊢
  unfold posLines
  rw [if_neg hc]
  dsimp only
  rw [hm]
  rfl

/-- The steps of the forward sequence 00, 10, 11, 01 from one state of A and B to another (R273). -/
def abSteps (s : State) (p old new : Nat) : Nat := (s.abStep p new + 4 - s.abStep p old) % 4

theorem linesTaken_abSteps (s : State) (p n q old new : Nat) : (s.linesTaken p n).abSteps q old new = s.abSteps q old new := rfl

theorem quadState_stay {s : State} {p old new : Nat} (h : s.abSteps p old new = 0) : s.quadState p old new = s := if_pos h

theorem quadState_forward {s : State} {p old new : Nat} (h : s.abSteps p old new = 1) :
    s.quadState p old new = (s.addCount p 1).legalEdge p false (s.lineStamp p) := by
  unfold abSteps at h
  unfold quadState
  dsimp only
  rw [h, if_neg (by decide), if_neg (by decide), if_pos rfl]
  rfl

theorem quadState_back {s : State} {p old new : Nat} (h : s.abSteps p old new = 3) :
    s.quadState p old new = (s.addCount p (-1)).legalEdge p true (s.lineStamp p) := by
  unfold abSteps at h
  unfold quadState
  dsimp only
  rw [h, if_neg (by decide), if_neg (by decide), if_neg (by decide)]
  rfl

theorem quadState_illegal {s : State} {p old new : Nat} (h : s.abSteps p old new = 2) : s.quadState p old new = s.illegal p := by
  unfold abSteps at h
  unfold quadState
  dsimp only
  rw [h, if_neg (by decide), if_pos rfl]

/-- Lines that take a step of A and B are not the lines as they were. -/
theorem ne_of_abSteps {s : State} {p old new : Nat} (h : s.abSteps p old new ≠ 0) : new ≠ old := by
  rintro rfl
  unfold abSteps at h
  omega

theorem abSteps_of_eq {s : State} {p old new : Nat} (h : s.abStep p new = s.abStep p old) : s.abSteps p old new = 0 := by
  unfold abSteps
  omega

/-- A step of A and B without a rise of Z is decoded alone. -/
theorem posLines_step {s : State} {p new : Nat} {l : List Nat} (hn : new = s.filtered p l) (hm : s.posMode p = 2)
    (hz : (bitAt new 2 && !bitAt (s.posRec p).lines 2) = false) (hd : s.abSteps p (s.posRec p).lines new ≠ 0) :
    s.posLines p l = ((s.linesTaken p new).quadState p (s.posRec p).lines new).showEmus := by
  rw [posLines_quadrature hn hm (ne_of_abSteps hd), hz, if_neg (by decide)]

/-- A rise of Z with A and B as they were is an index alone (R275). -/
theorem posLines_index {s : State} {p new : Nat} {l : List Nat} (hn : new = s.filtered p l) (hm : s.posMode p = 2)
    (hd : s.abStep p new = s.abStep p (s.posRec p).lines) (hz : bitAt new 2 = true) (ho : bitAt (s.posRec p).lines 2 = false) :
    s.posLines p l = ((s.linesTaken p new).index p).showEmus := by
  have hc : new ≠ (s.posRec p).lines := fun h => by
    rw [h, ho] at hz
    cases hz
  rw [posLines_quadrature hn hm hc, hz, ho, if_pos (by decide), quadState_stay ((linesTaken_abSteps ..).trans (abSteps_of_eq hd))]

/-- The first index homes the channel: COUNT goes to the index (R275). -/
theorem index_homes {s : State} {p : Nat} (hz : s.on (R.POS_QEI_Z_EN p) = true) (hh : s.on (R.POS_STAT_HOMED p) = false) {t : State}
    (ht : t = (((s.addCount p (-s.indexErr p)).setFld (R.POS_STAT_HOMED p) 1).evt .pos p E.POS_HOMED).post 0x0070 (locPos p) p) :
    s.index p = t.setMeas p fun m => { m with ang := t.edgeAngle p false } := by
  subst ht
  unfold index
  rw [if_neg (by rw [hz]; decide), if_pos (by rw [hh]; rfl)]

theorem hallState_noSector {s : State} {p h : Nat} (hx : s.hallSector p h = 6) : s.hallState p h =
    (s.updPos p fun r => { r with sector := 6, was := if (s.posRec p).sector < 6 then (s.posRec p).sector else r.was }).illegal p := by
  unfold hallState
  rw [hx]
  exact if_pos rfl

/-- The next sector of the forward sequence is a legal edge. -/
theorem hallState_forward {s : State} {p h : Nat} (ho : (s.posRec p).sector < 6)
    (hx : s.hallSector p h = ((s.posRec p).sector + 1) % 6) : s.hallState p h =
    ((s.updPos p fun r => { r with sector := s.hallSector p h, was := (s.posRec p).sector }).addCount p 1).legalEdge p false
      (s.lineStamp p) := by
  unfold hallState
  dsimp only
  rw [if_neg (by omega), if_neg (by omega), if_neg (by omega), if_pos hx]
  simp only [ho, if_true]
  rfl

/-! ### Serial word (R280–R282) -/

theorem serialEnd_transaction (s : State) (p : Nat) :
    ((s.serialEnd p).posRec p).transaction = (false, s.now + 400 * s.fld (R.POS_SER2_GAP p)) := by
  unfold serialEnd
  rw [posRec_updPos]
  rfl

/-- A change of a channel's record that leaves the transaction of it. -/
theorem updPos_transaction (s : State) (p : Nat) {f : PosRec → PosRec} (h : ∀ r, (f r).transaction = r.transaction) :
    ((s.updPos p f).posRec p).transaction = (s.posRec p).transaction := by
  rw [posRec_updPos]
  exact h _

theorem setMeas_transaction (s : State) (p : Nat) (f : Meas → Meas) :
    ((s.setMeas p f).posRec p).transaction = (s.posRec p).transaction := by
  rw [posRec_setMeas]
  rfl

theorem posFault_transaction (s : State) (p cause : Nat) : ((s.posFault p cause).posRec p).transaction = (s.posRec p).transaction := by
  unfold posFault
  split
  · rfl
  · rw [showEmus_posRec, raise_posRec, post_posRec, flt_posRec, updPos_transaction, setFld_posRec, setFld_posRec, setFld_posRec]
    exact fun _ => rfl

theorem badWord_transaction (s : State) (p kind : Nat) : ((s.badWord p kind).posRec p).transaction = (s.posRec p).transaction := by
  have hword : ∀ t : State, ((t.updPos p fun r => { r with prev := none, badRun := r.badRun + 1 }).posRec p).transaction =
      (t.posRec p).transaction := fun t => t.updPos_transaction p fun _ => rfl
  unfold badWord
  dsimp only
  split
  · rw [posFault_transaction, hword, setMeas_transaction, setFld_posRec, post_posRec, evt_posRec, inc_posRec]
  · rw [hword, setMeas_transaction, setFld_posRec, post_posRec, evt_posRec, inc_posRec]

theorem newAngle_transaction (s : State) (p : Nat) (sig : Q) (t pp : Nat) :
    ((s.newAngle p sig t pp).posRec p).transaction = (s.posRec p).transaction := by
  unfold newAngle
  dsimp only
  rw [showEmus_posRec, setMeas_transaction, setFld_posRec, setFld_posRec, updPos_transaction]
  exact fun _ => rfl

/-- Once a start bit has come, the transaction ends, whatever the word. -/
theorem serialWord_transaction {s : State} {p k : Nat} {l : List (Nat × Bool)} (hm : s.posMode p = 4) (hb : (s.posRec p).busy = true)
    (hk : s.serialStart p l = some k) :
    ((s.serialWord p l).posRec p).transaction = (false, s.now + 400 * s.fld (R.POS_SER2_GAP p)) := by
  unfold serialWord
  rw [if_neg (by simp [hm, hb]), hk]
  dsimp only
  split
  · rw [badWord_transaction, wr_posRec, wr_posRec, serialEnd_transaction]
  · rw [newAngle_transaction, updPos_transaction, setFld_posRec, setFld_posRec, wr_posRec, wr_posRec, serialEnd_transaction]
    exact fun _ => rfl

/-! ### Resolver (R278, R288) -/

/-- Periods in a row whose amplitude is out of its range, with one of amplitude `amp` (R288). -/
def ampPeriods (s : State) (p amp : Nat) : Nat :=
  if amp < 64 * s.fld (R.POS_RSLV1_AMP_LO p) || 64 * s.fld (R.POS_RSLV1_AMP_HI p) < amp then (s.posRec p).ampBad + 1 else 0

/-- Periods in a row whose excitation current is out of its range, with one of peak `cur` (R288). -/
def excPeriods (s : State) (p cur : Nat) : Nat :=
  if 100000 < cur || (cur < 2000 && s.on (R.POS_RSLV0_EXC_EN p)) then (s.posRec p).excBad + 1 else 0

/-- The sensor's pole pairs stand in another register than the amplitude. -/
theorem setAmp_sensPp (s : State) (p v : Nat) :
    (s.setFld (R.POS_AMP_AMP p) v).fld (R.POS_CFG_SENS_PP p) = s.fld (R.POS_CFG_SENS_PP p) := by
  have ha : (R.POS_CFG_SENS_PP p).addr ≠ (R.POS_AMP_AMP p).addr := by
    simp only [R.POS_CFG_SENS_PP, R.POS_CFG, R.POS_AMP_AMP, R.POS_AMP]
    omega
  exact fld_setFld_apart s v (Nat.le_of_ble_eq_true rfl) (.inl ha)

/-! ### Standstill (R286) -/

/-- The flags that a standstill raises: STILL, its event and OP_TO. -/
def stillFlags (s : State) (p : Nat) : State := ((s.setFld (R.POS_STAT_STILL p) 1).evt .pos p E.POS_STILL).opTo .pos p

theorem stillFlags_still (s : State) (p : Nat) : (s.stillFlags p).fld (R.POS_STAT_STILL p) = 1 := by
  have ho : (R.POS_STAT_STILL p).addr ≠ (hdr .pos p 0x28 1 1).addr := by
    simp only [R.POS_STAT_STILL, R.POS_STAT, hdr, PageKind.page, PageKind.base]
    omega
  have he : (R.POS_STAT_STILL p).addr ≠ PageKind.pos.page p + 0x10 := by
    simp only [R.POS_STAT_STILL, R.POS_STAT, PageKind.page, PageKind.base]
    omega
  unfold stillFlags opTo
  rw [fld_setFld_apart _ _ (Nat.le_of_ble_eq_true rfl) (.inl ho), fld_evt_ne _ _ _ _ he, fld_setFld _ _ (Nat.le_of_ble_eq_true rfl)]
  rfl

theorem stillFlags_opTo (s : State) (p : Nat) : (s.stillFlags p).fld (hdr .pos p 0x28 1 1) = 1 := fld_setFld _ _ (Nat.le_of_ble_eq_true rfl)

theorem stillFlags_count (s : State) (p : Nat) : (s.stillFlags p).fld (R.POS_COUNT_COUNT p) = s.fld (R.POS_COUNT_COUNT p) := by
  have ho : (R.POS_COUNT_COUNT p).addr ≠ (hdr .pos p 0x28 1 1).addr := by
    simp only [R.POS_COUNT_COUNT, R.POS_COUNT, hdr, PageKind.page, PageKind.base]
    omega
  have he : (R.POS_COUNT_COUNT p).addr ≠ PageKind.pos.page p + 0x10 := by
    simp only [R.POS_COUNT_COUNT, R.POS_COUNT, PageKind.page, PageKind.base]
    omega
  have hs : (R.POS_COUNT_COUNT p).addr ≠ (R.POS_STAT_STILL p).addr := by
    simp only [R.POS_COUNT_COUNT, R.POS_COUNT, R.POS_STAT_STILL, R.POS_STAT]
    omega
  unfold stillFlags opTo
  rw [fld_setFld_apart _ _ (Nat.le_of_ble_eq_true rfl) (.inl ho), fld_evt_ne _ _ _ _ he,
    fld_setFld_apart _ _ (Nat.le_of_ble_eq_true rfl) (.inl hs)]

/-- What a standstill saves for an edge that falls on its clock. -/
def stillUndo (s : State) (p : Nat) : StillUndo :=
  { clock := s.now, restart := (s.posRec p).restart, meas := (s.posRec p).meas, evt := s.on (hdr .pos p 0x10 E.POS_STILL 1),
    opTo := s.on (hdr .pos p 0x28 1 1) }

/-- A channel at standstill: its flags, a restart pending, and speed 0. -/
def stoodStill (s : State) (p : Nat) : State :=
  ((s.stillFlags p).updPos p fun r => { r with restart := 1, still := some (s.stillUndo p) }).setMeas p fun m =>
    { m with spd := {}, decay := none }

theorem stoodStill_restart (s : State) (p : Nat) : ((s.stoodStill p).posRec p).restart = 1 := by
  unfold stoodStill
  rw [posRec_setMeas]
  dsimp only
  rw [posRec_updPos]

theorem stoodStill_spd (s : State) (p : Nat) : ((s.stoodStill p).posRec p).meas.spd = {} := by
  unfold stoodStill
  rw [posRec_setMeas]
  rfl

/-- The registers of a channel at standstill: its flags, and COUNT as it was. -/
theorem stoodStill_fields (s : State) (p : Nat) : (s.stoodStill p).on (R.POS_STAT_STILL p) = true ∧
    (s.stoodStill p).on (hdr .pos p 0x28 1 1) = true ∧ (s.stoodStill p).fld (R.POS_COUNT_COUNT p) = s.fld (R.POS_COUNT_COUNT p) := by
  have hflags : ∀ f : Fld, f.addr < R.POS_ANG p ∨ R.POS_RPM p < f.addr →
      (s.stoodStill p).fld f = (s.stillFlags p).fld f := fun f h => by
    unfold stoodStill
    rw [setMeas_fld_apart _ _ h, updPos_fld]
  have hstill : (R.POS_STAT_STILL p).addr < R.POS_ANG p := by
    simp only [R.POS_STAT_STILL, R.POS_STAT, R.POS_ANG]
    omega
  have hopTo : (hdr .pos p 0x28 1 1).addr < R.POS_ANG p := by
    simp only [hdr, PageKind.page, PageKind.base, R.POS_ANG]
    omega
  have hcount : R.POS_RPM p < (R.POS_COUNT_COUNT p).addr := by
    simp only [R.POS_RPM, R.POS_COUNT_COUNT, R.POS_COUNT]
    omega
  unfold on
  rw [hflags _ (.inl hstill), hflags _ (.inl hopTo), hflags _ (.inr hcount), stillFlags_still, stillFlags_opTo, stillFlags_count]
  exact ⟨rfl, rfl, rfl⟩

end State

/-! ### The commands -/

section Lines

variable {s : State} {p : Fin 4} {new : Nat} {l : List (Fin 8)}

theorem execQuadratureEdge_forward (hn : new = s.filtered p (l.map Fin.val)) (hm : s.posMode p = 2)
    (hz : (bitAt new 2 && !bitAt (s.posRec p).lines 2) = false) (hd : s.abSteps p (s.posRec p).lines new = 1) :
    execQuadratureEdge p l s = .next (((s.linesTaken p new).addCount p 1).legalEdge p false (s.lineStamp p)).showEmus := by
  unfold execQuadratureEdge
  rw [State.posLines_step hn hm hz (by omega), State.quadState_forward ((State.linesTaken_abSteps ..).trans hd)]
  rfl

theorem execQuadratureEdge_back (hn : new = s.filtered p (l.map Fin.val)) (hm : s.posMode p = 2)
    (hz : (bitAt new 2 && !bitAt (s.posRec p).lines 2) = false) (hd : s.abSteps p (s.posRec p).lines new = 3) :
    execQuadratureEdge p l s = .next (((s.linesTaken p new).addCount p (-1)).legalEdge p true (s.lineStamp p)).showEmus := by
  unfold execQuadratureEdge
  rw [State.posLines_step hn hm hz (by omega), State.quadState_back ((State.linesTaken_abSteps ..).trans hd)]
  rfl

theorem execIllegalTransition_twoSteps (hn : new = s.filtered p (l.map Fin.val)) (hm : s.posMode p = 2)
    (hz : (bitAt new 2 && !bitAt (s.posRec p).lines 2) = false) (hd : s.abSteps p (s.posRec p).lines new = 2) :
    execIllegalTransition p l s = .next ((s.linesTaken p new).illegal p).showEmus := by
  unfold execIllegalTransition
  rw [State.posLines_step hn hm hz (by omega), State.quadState_illegal ((State.linesTaken_abSteps ..).trans hd)]

theorem execIllegalTransition_noSector (hn : new = s.filtered p (l.map Fin.val)) (hm : s.posMode p = 3) (hc : new ≠ (s.posRec p).lines)
    (hx : s.hallSector p new = 6) : execIllegalTransition p l s =
    .next (((s.linesTaken p new).updPos p fun r =>
      { r with sector := 6, was := if (s.posRec p).sector < 6 then (s.posRec p).sector else r.was }).illegal p).showEmus := by
  unfold execIllegalTransition
  rw [State.posLines_hall hn hm hc, State.hallState_noSector (s := s.linesTaken p _) hx]
  unfold State.linesTaken
  rw [State.posRec_updPos]

theorem execIndexPulse_homes (hn : new = s.filtered p (l.map Fin.val)) (hm : s.posMode p = 2)
    (hd : s.abStep p new = s.abStep p (s.posRec p).lines) (hz : bitAt new 2 = true) (ho : bitAt (s.posRec p).lines 2 = false)
    (he : s.on (R.POS_QEI_Z_EN p) = true) (hh : s.on (R.POS_STAT_HOMED p) = false) {t : State}
    (ht : t = ((((s.linesTaken p new).addCount p (-s.indexErr p)).setFld (R.POS_STAT_HOMED p) 1).evt .pos p E.POS_HOMED).post 0x0070
      (locPos p) p) :
    execIndexPulse p l s = .next (t.setMeas p fun m => { m with ang := t.edgeAngle p false }).showEmus := by
  unfold execIndexPulse
  rw [State.posLines_index hn hm hd hz ho, State.index_homes (s := s.linesTaken p _) he hh ht]

theorem execHallEdge_forward (hn : new = s.filtered p (l.map Fin.val)) (hm : s.posMode p = 3) (hc : new ≠ (s.posRec p).lines)
    (ho : (s.posRec p).sector < 6) (hx : s.hallSector p new = ((s.posRec p).sector + 1) % 6) : execHallEdge p l s =
    .next ((((s.linesTaken p new).updPos p fun r =>
      { r with sector := s.hallSector p new, was := (s.posRec p).sector }).addCount p 1).legalEdge p false (s.lineStamp p)).showEmus := by
  have hr : ((s.linesTaken p new).posRec p).sector = (s.posRec p).sector := by
    unfold State.linesTaken
    rw [State.posRec_updPos]
  unfold execHallEdge
  rw [State.posLines_hall hn hm hc, State.hallState_forward (s := s.linesTaken p _) (by rw [hr]; exact ho) (by rw [hr]; exact hx), hr]
  rfl

end Lines

/-- A full excitation period with an angle in it: how many periods in a row were out of range is kept beside it (R278, R288). -/
theorem execResolverResult_angle {s : State} {p : Fin 4} (cur : Fin 1048576) {n : Nat} {l : List (Nat × Int × Int)} {sn cs : Int}
    (hm : s.posMode p = 1) (hn : n = s.fld (R.POS_RSLV0_EXC_DIV p)) (hl : l = (s.posRec p).smp.take n) (hf : n ≤ l.length)
    (hd : State.demod (s.fld (R.POS_RSLV1_PHASE p)) n l = (sn, cs)) (h0 : ¬(sn = 0 ∧ cs = 0)) :
    ∃ x y u, u = ((s.setFld (R.POS_AMP_AMP p) (isqrt (4 * (sn * sn + cs * cs).toNat / (n * n)) / 2 ^ 128)).updPos p fun r =>
        { r with smp := r.smp.drop n, ampBad := x, excBad := y }).newAngle p ⟨atan2Turns sn cs, 2 ^ 64⟩
        ((l.getD (n / 2) (s.now, 0, 0)).1) (s.fld (R.POS_CFG_SENS_PP p)) ∧
      execResolverResult p cur s =
        .next (if 4 ≤ (u.posRec p).ampBad then u.posFault p 3 else if 4 ≤ (u.posRec p).excBad then u.posFault p 4 else u) := by
  obtain ⟨amp, hamp⟩ : ∃ a, isqrt (4 * (sn * sn + cs * cs).toNat / (n * n)) / 2 ^ 128 = a := ⟨_, rfl⟩
  rw [hamp]
  refine ⟨(s.setFld (R.POS_AMP_AMP p) amp).ampPeriods p amp, (s.setFld (R.POS_AMP_AMP p) amp).excPeriods p cur, _, rfl, ?_⟩
  unfold execResolverResult
  dsimp only
  rw [← hn, ← hl, if_neg (by omega), hd]
  dsimp only
  rw [if_neg h0, hamp]
  dsimp only
  rw [State.updPos_fld, State.setAmp_sensPp, State.updPos_congr]
  · rfl
  · rfl

theorem execSerialWord_noStart {s : State} {p : Fin 4} {l : List (Nat × Bool)} (hm : s.posMode p = 4) (hb : (s.posRec p).busy = true)
    (hk : s.serialStart p l = none) : execSerialWord p l s = .next ((s.serialEnd p).badWord p 2) := by
  unfold execSerialWord State.serialWord
  rw [if_neg (by simp [hm, hb]), hk]

theorem execSerialWordTimeout_busy {s : State} {p : Fin 4} (hm : s.posMode p = 4) (hb : (s.posRec p).busy = true) :
    execSerialWordTimeout p s = .next (((s.opTo .pos p).serialEnd p).badWord p 3) :=
  congrArg Host.Outcome.next (if_pos ⟨hm, hb⟩)

theorem execStandstill_due {s : State} {p : Fin 4} (hm : s.posMode p = 2 ∨ s.posMode p = 3) (hs : s.on (R.POS_STAT_STILL p) = false)
    (ht : (s.posRec p).lastAt + 400000 * s.fld (R.POS_TIME_STILL_MS p) ≤ s.now) : execStandstill p s = .next (s.stoodStill p) :=
  congrArg Host.Outcome.next (if_pos ⟨hm, ne_true_of_eq_false hs, ht⟩)

theorem execPosRestart_opens {s : State} {m : Master} {p : Fin 4} (wireOk : Bool) (ho : s.opens m .pos p = true) :
    execPosRestart m p wireOk s = .next (s.posRestart p wireOk).okResp := by
  have hp : ∀ p : Fin 4, pageAt (R.POS_CTL p) = some (.pos, p.val) := by decide
  exact congrArg Host.Outcome.next (State.write_ok s m _ (hp p) ho rfl (State.remoteDown_false s p (by decide) (by decide)))

/-- A broken wire is a fault in quadrature and in serial mode (R288). -/
theorem execSensorFault_wire {s : State} {p : Fin 4} (hm : s.posMode p = 2 ∨ s.posMode p = 4) :
    execSensorFault p 2 s = .next (s.posFault p 2).showEmus :=
  congrArg Host.Outcome.next (if_pos (by simpa using hm))

/-- An emulator behind its target steps up, 16 clocks after its last step or later (R290). -/
theorem execEmuStep_up {s : State} {e : Fin 2} (he : s.on (R.EMU_CFG_EN e) = true) (hm : s.on (R.EMU_CFG_MODE e) = true)
    (hh : s.emuHeld e = false) (ht : s.emuOut e < s.emuTarget e) (hl : ∀ t, (s.emuRec e).last = some t → t + 16 ≤ s.now) :
    execEmuStep e s = .next ((s.updEmu e fun r => { r with count := r.count + 1, last := some s.now }).showEmu e) := by
  have hlast : ((s.emuRec e).last.all fun t => t + 16 ≤ s.now) = true := by
    cases h : (s.emuRec e).last with
    | none => rfl
    | some t => exact decide_eq_true (hl t h)
  have hne : (s.emuTarget e != s.emuOut e) = true := bne_iff_ne.mpr (by omega)
  unfold execEmuStep
  rw [he, hm, hh, hlast, hne, if_pos (by decide)]
  dsimp only
  rw [if_pos ht]

/-- Enabling an emulator in divide mode starts its output at its target (R291). -/
theorem execEmuEnable_divide {s : State} {m : Master} {e : Fin 2} {v : Word} {t u : State} (ho : s.opens m .emu 0 = true)
    (he : s.on (R.EMU_CFG_EN e) = false) (hv : getBits v 0 1 = 1) (hd : getBits v 1 1 = 1)
    (ht : t = s.wr (R.EMU_CFG e) (BitVec.ofNat 32 (getBits v 0 6)))
    (hu : u = t.updEmu e (fun r => { r with count := t.emuTarget e, last := none })) :
    execEmuEnable m e v s = .next (((u.updEmu e fun r => { r with pins := u.emuPins e }).showEmu e).okResp) := by
  have hp : ∀ e : Fin 2, pageAt (R.EMU_CFG e) = some (.emu, 0) := by decide
  subst hu ht
  unfold execEmuEnable State.emuCfg
  dsimp only
  rw [State.write_ok s m _ (hp e) ho (by rw [he, hv, hd]; rfl) (State.remoteDown_false s 0 (by decide) (by decide)),
    if_pos ⟨hv, ne_true_of_eq_false he⟩]

end Sys2Proof.Machine
end

section
/-!
Position channels and emulators: the commands complete.
-/
open Sys2Proof Sys2Proof.Machine

/-- Settles O17: each command by the lemma that says what it answers when its condition holds; a word's end by what it leaves of the
transaction, a standstill by the registers and the record that it leaves. -/
theorem positionCommandsComplete : Obligations.PositionCommandsComplete := by
  unfold Obligations.PositionCommandsComplete
  refine ⟨fun s p l new hn hm hz hd => execQuadratureEdge_forward hn hm hz hd,
    fun s p l new hn hm hz hd => execQuadratureEdge_back hn hm hz hd,
    fun s p l new hn hm hz hd => execIllegalTransition_twoSteps hn hm hz hd,
    fun s p l new hn hm hc hx => execIllegalTransition_noSector hn hm hc hx, fun s p => rfl,
    fun s p l new t hn hm hd hz ho he hh ht => execIndexPulse_homes hn hm hd hz ho he hh ht,
    fun s p l new hn hm hc ho hx => execHallEdge_forward hn hm hc ho hx,
    fun s p cur n l sn cs hm hn hl hf hd h0 => execResolverResult_angle cur hm hn hl hf hd h0,
    fun s p l hm hb hk => execSerialWord_noStart hm hb hk, fun s p l k hm hb hk => ⟨_, rfl, ?_⟩,
    fun s p hm hb => execSerialWordTimeout_busy hm hb, fun s p hm hs ht => ⟨_, execStandstill_due hm hs ht, ?_⟩,
    fun s m p w ho => execPosRestart_opens w ho, fun s p hm => execSensorFault_wire hm,
    fun s e he hm hh ht hl => execEmuStep_up he hm hh ht hl, fun s m e v t u ho he hv hd ht hu => execEmuEnable_divide ho he hv hd ht hu⟩
  · exact Prod.mk.inj (State.serialWord_transaction hm hb hk)
  · obtain ⟨hstill, hopTo, hcount⟩ := s.stoodStill_fields p
    exact ⟨hstill, hopTo, s.stoodStill_restart p, s.stoodStill_spd p, hcount⟩

end

section
/-!
SUPPORT. The registers that an evaluation of J2 and a post write lie in the pages of PG, SAF, SIO and CAD; those of the pages GHD to DRL,
which lie between PG and SAF (R107), stay (R223, R389–R405).
-/
namespace Sys2Proof.Machine

/-- A register of the pages GHD to DRL. -/
def UnitReg (a : Nat) : Prop := PageKind.ghd.base ≤ a ∧ a < PageKind.saf.base

theorem UnitReg.ne_of_lt {a b : Nat} (h : UnitReg a) (hb : b < PageKind.ghd.base) : a ≠ b := by
  obtain ⟨hlo, -⟩ := h
  omega

theorem UnitReg.ne_of_ge {a b : Nat} (h : UnitReg a) (hb : PageKind.saf.base ≤ b) : a ≠ b := by
  obtain ⟨-, hhi⟩ := h
  omega

namespace State

@[simp] theorem sendSafeTo_rd (s : State) (ks : List Nat) (a : Nat) : (s.sendSafeTo ks).rd a = s.rd a := by
  have hregs : (s.sendSafeTo ks).regs = s.regs := ((s.sendSafeTo_within (P := (· == .pwm)) ks rfl).same .regs rfl).1
  unfold rd
  rw [hregs]

@[simp] theorem holdDue_rd (s : State) (a : Nat) : s.holdDue.rd a = s.rd a := by
  unfold holdDue
  exact updSafe_rd ..

section UnitReg

variable {a : Nat} (h : UnitReg a)
include h

theorem post_rd_unit (s : State) (code l d : Nat) : (s.post code l d).rd a = s.rd a :=
  rd_post s code l d (h.ne_of_lt (by decide)) (h.ne_of_lt (by decide))

theorem commandGroup_rd_unit (s : State) {g : Nat} (kind : Nat) (hg : g < 12) : (s.commandGroup g kind).rd a = s.rd a := by
  have hevt : PageKind.pg.page g + 0x10 < PageKind.ghd.base := by
    simp only [PageKind.page, PageKind.base]
    omega
  have hstat : R.PG_STAT g < PageKind.ghd.base := by
    simp only [R.PG_STAT, PageKind.base]
    omega
  unfold commandGroup sendSafe
  dsimp only
  rw [post_rd_unit h, evt_rd_ne _ _ _ _ (h.ne_of_ge (by decide)), inc_rd_ne _ (h.ne_of_ge (by decide)), sendSafeTo_rd, updGrp_rd,
    rd_setFld_ne _ _ (h.ne_of_lt hstat), rd_setFld_ne _ _ (h.ne_of_lt hstat)]
  split
  · rfl
  · exact evt_rd_ne _ _ _ _ (h.ne_of_lt hevt)

theorem evalGroup_rd_unit (s : State) {g : Nat} (hg : g < 12) : (s.evalGroup g).rd a = s.rd a := by
  unfold evalGroup
  dsimp only
  split
  · split
    · exact commandGroup_rd_unit h s _ hg
    · rfl
  · rfl

theorem updSafeReg_rd_unit (s : State) : s.updSafeReg.rd a = s.rd a := by
  unfold updSafeReg
  exact (rd_setFld_ne _ _ (h.ne_of_ge (by decide))).trans (rd_setFld_ne _ _ (h.ne_of_ge (by decide)))

theorem evalJ2_rd_unit (s : State) (p : Nat → Bool) : (s.evalJ2 p).rd a = s.rd a := by
  have hso : ∀ m, PageKind.saf.base ≤ R.SIO_SO_STAT m := fun m => by
    simp only [R.SIO_SO_STAT, PageKind.base]
    omega
  unfold evalJ2
  rw [each_rd _ _ fun t m _ => soUpdate_rd_ne t m (h.ne_of_ge (hso m)), updSafeReg_rd_unit h,
    each_rd _ _ fun t g hg => evalGroup_rd_unit h t (List.mem_range.mp (List.mem_filter.mp hg).1)]

theorem pend_rd_unit (s : State) (k own : Nat) : (s.pend k own).rd a = s.rd a := by
  have hpend : PageKind.saf.base ≤ (pendFld k).addr := by
    simp only [pendFld, R.SAF_PEND, PageKind.base]
    omega
  unfold pend
  dsimp only
  rw [rd_setFld_ne _ _ (h.ne_of_ge (by decide)), rd_setFld_ne _ _ (h.ne_of_ge (by decide)),
    rd_setFld_ne _ _ (h.ne_of_ge (by decide)), updSafe_rd, rd_setFld_ne _ _ (h.ne_of_ge hpend)]

theorem pends_rd_unit (s : State) (l : List (Nat × Nat)) : (l.foldl (fun t p => t.pend p.1 p.2) s).rd a = s.rd a := by
  have hstep : ∀ (t : State) (p : Nat × Nat), p ∈ l → (t.pend p.1 p.2).rd a = t.rd a := fun t p _ => pend_rd_unit h t p.1 p.2
  exact foldl_rd s l hstep

theorem raiseAll_rd_unit (s : State) (l : List (Nat × Nat)) : (s.raiseAll l).rd a = s.rd a := by
  unfold raiseAll
  dsimp only
  split
  · rfl
  · rw [evalJ2_rd_unit h, pends_rd_unit h, updSafe_rd, holdDue_rd]

theorem raise_rd_unit (s : State) (k own : Nat) : (s.raise k own).rd a = s.rd a := raiseAll_rd_unit h s _

end UnitReg
end State
end Sys2Proof.Machine
end

section
/-!
SUPPORT. Traction supervision: what an event, a fault flag, a post and a raised line leave of the block registers of a TRC page, and what
the commands answer when their condition holds (R304–R319).
-/
namespace Sys2Proof.Machine

/-- A block register of TRC page `n`: one after the page's header (R107). -/
def TrcReg (n : Fin 2) (a : Nat) : Prop := PageKind.trc.page n + 0x40 ≤ a ∧ a < PageKind.trc.page n + 0x1000

theorem TrcReg.unitReg {n : Fin 2} {a : Nat} (h : TrcReg n a) : UnitReg a := by
  simp only [TrcReg, UnitReg, PageKind.page, PageKind.base] at h ⊢
  omega

theorem TrcReg.ne_header {n : Fin 2} {a off : Nat} (h : TrcReg n a) (ho : off < 0x40) : a ≠ PageKind.trc.page n + off := by
  obtain ⟨hlo, -⟩ := h
  omega

theorem trcReg_offset (n : Fin 2) {off : Nat} (hlo : 0x40 ≤ off) (hhi : off < 0x1000) :
    TrcReg n (0x40080000 + off + 0x1000 * n) := by
  simp only [TrcReg, PageKind.page, PageKind.base]
  omega

theorem trcReg_stat (n : Fin 2) : TrcReg n (R.TRC_STAT n) := trcReg_offset n (off := 0x60) (by decide) (by decide)
theorem trcReg_degTime (n : Fin 2) : TrcReg n (R.TRC_DEG_TIME n) := trcReg_offset n (off := 0x64) (by decide) (by decide)
theorem trcReg_cnt (n : Fin 2) : TrcReg n (R.TRC_CNT n) := trcReg_offset n (off := 0x68) (by decide) (by decide)
theorem trcReg_keRatio (n : Fin 2) : TrcReg n (R.TRC_KE_RATIO n) := trcReg_offset n (off := 0x94) (by decide) (by decide)
theorem trcReg_keStat (n : Fin 2) : TrcReg n (R.TRC_KE_STAT n) := trcReg_offset n (off := 0x9C) (by decide) (by decide)

namespace State

section TrcReg

variable {n : Fin 2} {a : Nat} (h : TrcReg n a)
include h

theorem evt_rd_trc (s : State) (b : Nat) : (s.evt .trc n b).rd a = s.rd a := evt_rd_ne s _ _ _ (h.ne_header (by decide))

theorem flt_rd_trc (s : State) (b : Nat) : (s.flt .trc n b).rd a = s.rd a := flt_rd_ne s _ _ _ (h.ne_header (by decide))

theorem post_rd_trc (s : State) (code l d : Nat) : (s.post code l d).rd a = s.rd a := post_rd_unit h.unitReg s code l d

theorem raise_rd_trc (s : State) (k own : Nat) : (s.raise k own).rd a = s.rd a := raise_rd_unit h.unitReg s k own

end TrcReg

/-! ### The record of a TRC page -/

@[simp] theorem setFld_tracRec (s : State) (f : Fld) (v n : Nat) : (s.setFld f v).tracRec n = s.tracRec n := rfl
@[simp] theorem evt_tracRec (s : State) (k : PageKind) (m b n : Nat) : (s.evt k m b).tracRec n = s.tracRec n := rfl
@[simp] theorem flt_tracRec (s : State) (k : PageKind) (m b n : Nat) : (s.flt k m b).tracRec n = s.tracRec n := rfl

@[simp] theorem tracRec_updTrac (s : State) (n : Nat) (f : TracRec → TracRec) : (s.updTrac n f).tracRec n = f (s.tracRec n) :=
  Store.read_write_same ..

/-- Every part of the state but the records of traction supervision. -/
def notTrac (p : Part) : Bool := p != .trac

theorem tracRec_within {s t : State} (h : Within notTrac s t) (n : Nat) : t.tracRec n = s.tracRec n := by
  have htrac : t.trac = s.trac := h.same .trac rfl
  unfold tracRec
  rw [htrac]

@[simp] theorem post_tracRec (s : State) (code l d n : Nat) : (s.post code l d).tracRec n = s.tracRec n :=
  tracRec_within (s.post_within code l d rfl rfl rfl) n

@[simp] theorem sendSafeTo_tracRec (s : State) (ks : List Nat) (n : Nat) : (s.sendSafeTo ks).tracRec n = s.tracRec n :=
  tracRec_within (s.sendSafeTo_within ks rfl) n

/-! ### A set is dropped (R306, R309, R310) -/

/-- TRC_STAT and TRC_CNT as declaration `d`, 1 or 2, drops set `d - 1`. -/
def setDropped (s : State) (n d cause phase : Nat) : State :=
  (((((s.setFld (R.TRC_STAT_STATE n) 1).setFld (R.TRC_STAT_SET n) (d - 1)).setFld (R.TRC_STAT_CAUSE n) cause).setFld
    (R.TRC_STAT_PHASE n) phase).setFld (oCnt n (2 - d)) 0).trcDropBySpeed n

theorem oCnt_addr (n k : Nat) : (oCnt n k).addr = R.TRC_CNT n := by
  unfold oCnt
  split <;> rfl

theorem oCnt_rd_stat (s : State) (n k v : Nat) : (s.setFld (oCnt n k) v).rd (R.TRC_STAT n) = s.rd (R.TRC_STAT n) := by
  have haddr : R.TRC_STAT n ≠ (oCnt n k).addr := by
    rw [oCnt_addr]
    simp only [R.TRC_STAT, R.TRC_CNT]
    omega
  exact rd_setFld_ne s v haddr

theorem setDropped_fields (s : State) (n cause phase : Nat) {d : Nat} (hd : d = 1 ∨ d = 2) :
    (s.setDropped n d cause phase).fld (R.TRC_STAT_STATE n) = 1 ∧ (s.setDropped n d cause phase).fld (R.TRC_STAT_SET n) = d - 1 := by
  have hcnt : ∀ (t : State) (f : Fld), f.addr = R.TRC_STAT n → (t.setFld (oCnt n (2 - d)) 0).fld f = t.fld f := fun t f hf =>
    fld_of_rd (hf ▸ oCnt_rd_stat t n (2 - d) 0)
  have hstate : ∀ (t : State) {f : Fld} (v : Nat), f.lo + f.w ≤ 32 → 2 ≤ f.lo →
      (t.setFld f v).fld (R.TRC_STAT_STATE n) = t.fld (R.TRC_STAT_STATE n) := fun t f v hw hlo =>
    fld_setFld_apart t v hw (.inr (.inr hlo))
  have hset : ∀ (t : State) {f : Fld} (v : Nat), f.lo + f.w ≤ 32 → 3 ≤ f.lo →
      (t.setFld f v).fld (R.TRC_STAT_SET n) = t.fld (R.TRC_STAT_SET n) := fun t f v hw hlo =>
    fld_setFld_apart t v hw (.inr (.inr hlo))
  unfold setDropped trcDropBySpeed
  constructor
  · simp (disch := exact Nat.le_of_ble_eq_true rfl) only [hstate]
    rw [hcnt _ _ rfl]
    simp (disch := exact Nat.le_of_ble_eq_true rfl) only [hstate, fld_setFld]
    rfl
  · simp (disch := exact Nat.le_of_ble_eq_true rfl) only [hset]
    rw [hcnt _ _ rfl]
    simp (disch := exact Nat.le_of_ble_eq_true rfl) only [hset, fld_setFld]
    rcases hd with rfl | rfl <;> rfl

theorem setDropped_tracRec (s : State) (n d cause phase k : Nat) : (s.setDropped n d cause phase).tracRec k = s.tracRec k := by
  unfold setDropped trcDropBySpeed
  simp only [setFld_tracRec]

/-- A dropped set is told: event, fault flag and post. -/
def tellDropped (s : State) (n d cause phase : Nat) : State :=
  ((s.evt .trc n E.TRC_DEGRADED).flt .trc n F.TRC_DEGRADE).post 0x2080 (locTrc n 0) (d - 1 + cause * 2 + phase * 16 + n * 2 ^ 15)

/-- The declaration of a set: it is dropped and told, and its legs' dies get their codes. -/
def declareSet (s : State) (n d cause phase : Nat) : State :=
  ((s.setDropped n d cause phase).tellDropped n d cause phase).sendSafeTo
    (((s.setDropped n d cause phase).tellDropped n d cause phase).trcLinks n)

/-- What tells of the drop leaves TRC_STAT as the drop has written it. -/
theorem declareSet_rd_stat (s : State) (n : Fin 2) (d cause phase : Nat) :
    (s.declareSet n d cause phase).rd (R.TRC_STAT n) = (s.setDropped n d cause phase).rd (R.TRC_STAT n) := by
  have hstat := trcReg_stat n
  unfold declareSet tellDropped
  rw [sendSafeTo_rd, post_rd_trc hstat, flt_rd_trc hstat, evt_rd_trc hstat]

theorem declareSet_fields (s : State) (n : Fin 2) (cause phase : Nat) {d : Nat} (hd : d = 1 ∨ d = 2) :
    (s.declareSet n d cause phase).fld (R.TRC_STAT_STATE n) = 1 ∧ (s.declareSet n d cause phase).fld (R.TRC_STAT_SET n) = d - 1 := by
  have hstat := s.declareSet_rd_stat n d cause phase
  rw [fld_of_rd (f := R.TRC_STAT_STATE n) hstat, fld_of_rd (f := R.TRC_STAT_SET n) hstat]
  exact s.setDropped_fields n cause phase hd

theorem declareSet_tracRec (s : State) (n d cause phase k : Nat) : (s.declareSet n d cause phase).tracRec k = s.tracRec k := by
  unfold declareSet tellDropped
  simp only [sendSafeTo_tracRec, post_tracRec, flt_tracRec, evt_tracRec, setDropped_tracRec]

/-- A declaration that has been carried out is gone from the page's record. -/
def clearDecl (s : State) (n : Nat) : State := s.updTrac n fun t => { t with decl := 0 }

theorem clearDecl_declareSet_decl (s : State) (n d cause phase : Nat) :
    (((s.clearDecl n).declareSet n d cause phase).tracRec n).decl = 0 := by
  unfold clearDecl
  rw [declareSet_tracRec, tracRec_updTrac]

theorem trcDeclare_set {s : State} {n : Nat} (hd : (s.tracRec n).decl = 1 ∨ (s.tracRec n).decl = 2) : s.trcDeclare n =
    (s.clearDecl n).declareSet n (s.tracRec n).decl (s.tracRec n).declCause (s.tracRec n).declPhase := by
  unfold trcDeclare
  dsimp only
  rcases hd with h | h <;> rw [h] <;> rfl

theorem trcDeclare_both {s : State} {n : Nat} (hd : (s.tracRec n).decl = 3) :
    s.trcDeclare n = (s.clearDecl n).trcSetFault n 3 := by
  unfold trcDeclare
  dsimp only
  rw [hd]
  rfl

theorem trcDropTo_dropShort (s : State) (n : Fin 2) (short : Bool) : (s.trcDropTo n short).on (R.TRC_STAT_DROP_SHORT n) = short := by
  have hstat := trcReg_stat n
  have hrd : (s.trcDropTo n short).rd (R.TRC_STAT n) = (s.setFld (R.TRC_STAT_DROP_SHORT n) (b2n short)).rd (R.TRC_STAT n) := by
    unfold trcDropTo
    dsimp only
    split
    · rw [sendSafeTo_rd, post_rd_trc hstat, evt_rd_trc hstat]
    · rw [post_rd_trc hstat, evt_rd_trc hstat]
  unfold on
  rw [fld_of_rd (f := R.TRC_STAT_DROP_SHORT n) hrd, fld_setFld _ _ (Nat.le_of_ble_eq_true rfl)]
  cases short <;> rfl

/-! ### The degrade timer's end (R313) -/

/-- The registers as the degrade timer expires: OP_TO, the state with its cause, and the fault flag. -/
def degradeStopped (s : State) (n : Nat) : State :=
  (((s.opTo .trc n).setFld (R.TRC_STAT_STATE n) 2).setFld (R.TRC_STAT_FCAUSE n) 1).flt .trc n F.TRC_EXPIRED

theorem degradeStopped_fields (s : State) (n : Fin 2) :
    (s.degradeStopped n).fld (R.TRC_STAT_STATE n) = 2 ∧ (s.degradeStopped n).fld (R.TRC_STAT_FCAUSE n) = 1 := by
  have hflt : ∀ (t : State) {f : Fld}, f.addr = R.TRC_STAT n → (t.flt .trc n F.TRC_EXPIRED).fld f = t.fld f := fun t f hf =>
    fld_of_rd (flt_rd_trc (hf ▸ trcReg_stat n) t F.TRC_EXPIRED)
  unfold degradeStopped
  constructor
  · rw [hflt _ rfl, fld_setFld_apart _ _ (Nat.le_of_ble_eq_true rfl) (.inr (.inr (Nat.le_of_ble_eq_true rfl))),
      fld_setFld _ _ (Nat.le_of_ble_eq_true rfl)]
    rfl
  · rw [hflt _ rfl, fld_setFld _ _ (Nat.le_of_ble_eq_true rfl)]
    rfl

/-- The degrade timer has expired: its post, and its line at the machine's group. -/
def degradeExpired (s : State) (n : Nat) : State :=
  ((s.degradeStopped n).post 0x3080 (locTrc n 1) (n * 2 ^ 15)).raise 15 (2 ^ (s.degradeStopped n).fld (R.TRC_CFG_GRP n))

theorem degradeExpired_fields (s : State) (n : Fin 2) :
    (s.degradeExpired n).fld (R.TRC_STAT_STATE n) = 2 ∧ (s.degradeExpired n).fld (R.TRC_STAT_FCAUSE n) = 1 := by
  have hstat : (s.degradeExpired n).rd (R.TRC_STAT n) = (s.degradeStopped n).rd (R.TRC_STAT n) :=
    (raise_rd_trc (trcReg_stat n) _ _ _).trans (post_rd_trc (trcReg_stat n) _ _ _ _)
  rw [fld_of_rd (f := R.TRC_STAT_STATE n) hstat, fld_of_rd (f := R.TRC_STAT_FCAUSE n) hstat]
  exact s.degradeStopped_fields n

/-! ### CLEAR (R314) -/

/-- The registers as CLEAR leaves them: TRC_STAT in its normal state with no phase named, and the counters and the degrade timer at 0. -/
def clearedRegs (s : State) (n : Nat) : State :=
  ((s.wr (R.TRC_STAT n) (BitVec.ofNat 32 (7 * 32))).wr (R.TRC_CNT n) 0).wr (R.TRC_DEG_TIME n) 0

/-- A page that CLEAR has returned, with the dropped set that stays as it is, if one does. -/
def trcCleared (s : State) (n : Nat) (kept : Option (Nat × Bool)) : State :=
  (((s.clearedRegs n).updTrac n fun t => { t with decl := 0, degClk := 0, kept := kept }).evt .trc n E.TRC_CLEARED).post 0x0081 (locTrc n 0)
    (n * 2 ^ 15)

theorem clearedRegs_rd (s : State) (n : Nat) : (s.clearedRegs n).rd (R.TRC_STAT n) = BitVec.ofNat 32 (7 * 32) ∧
    (s.clearedRegs n).rd (R.TRC_CNT n) = 0 ∧ (s.clearedRegs n).rd (R.TRC_DEG_TIME n) = 0 := by
  have haddr : R.TRC_STAT n ≠ R.TRC_CNT n ∧ R.TRC_STAT n ≠ R.TRC_DEG_TIME n ∧ R.TRC_CNT n ≠ R.TRC_DEG_TIME n := by
    simp only [R.TRC_STAT, R.TRC_CNT, R.TRC_DEG_TIME]
    omega
  obtain ⟨hcnt, htime, hcntTime⟩ := haddr
  unfold clearedRegs
  rw [rd_wr_ne _ _ htime, rd_wr_ne _ _ hcnt, rd_wr_ne _ _ hcntTime]
  simp only [rd_wr, and_self]

theorem trcCleared_rd (s : State) {n : Fin 2} (kept : Option (Nat × Bool)) {a : Nat} (h : TrcReg n a) :
    (s.trcCleared n kept).rd a = (s.clearedRegs n).rd a := by
  unfold trcCleared
  rw [post_rd_trc h, evt_rd_trc h, updTrac_rd]

/-- What a page shows once CLEAR has returned it. -/
theorem trcCleared_fields (s : State) (n : Fin 2) (kept : Option (Nat × Bool)) :
    (s.trcCleared n kept).fld (R.TRC_STAT_STATE n) = 0 ∧ (s.trcCleared n kept).fld (R.TRC_STAT_PHASE n) = 7 ∧
    (s.trcCleared n kept).rd (R.TRC_CNT n) = 0 ∧ (s.trcCleared n kept).rd (R.TRC_DEG_TIME n) = 0 := by
  obtain ⟨hstat, hcnt, htime⟩ := s.clearedRegs_rd n
  have hstat : (s.trcCleared n kept).rd (R.TRC_STAT n) = BitVec.ofNat 32 (7 * 32) :=
    (s.trcCleared_rd kept (trcReg_stat n)).trans hstat
  refine ⟨?_, ?_, (s.trcCleared_rd kept (trcReg_cnt n)).trans hcnt, (s.trcCleared_rd kept (trcReg_degTime n)).trans htime⟩
  · exact (congrArg (getBits · 0 2) hstat).trans (by decide)
  · exact (congrArg (getBits · 5 3) hstat).trans (by decide)

/-! ### Identification (R318, R319) -/

/-- A verdict that is new is written to KE_STAT; no other block register of the page changes. -/
theorem keVerdict_rd (s : State) {n : Fin 2} {v : Nat} (hv : s.fld (R.TRC_KE_STAT_VERDICT n) ≠ v) {a : Nat} (h : TrcReg n a) :
    (s.keVerdict n v).rd a = (s.setFld (R.TRC_KE_STAT_VERDICT n) v).rd a := by
  unfold keVerdict
  rw [if_neg hv]
  dsimp only
  split <;> simp only [raise_rd_trc h, post_rd_trc h, flt_rd_trc h, evt_rd_trc h]

theorem keVerdict_verdict (s : State) {n : Fin 2} {v : Nat} (hv : s.fld (R.TRC_KE_STAT_VERDICT n) ≠ v) (h8 : v < 8) :
    (s.keVerdict n v).fld (R.TRC_KE_STAT_VERDICT n) = v := by
  rw [fld_of_rd (f := R.TRC_KE_STAT_VERDICT n) (s.keVerdict_rd hv (trcReg_keStat n)), fld_setFld _ _ (Nat.le_of_ble_eq_true rfl)]
  exact Nat.mod_eq_of_lt h8

/-- The mean of the samples that identification has summed. -/
def keMean (s : State) (n : Nat) : Q := (s.tracRec n).keSum.mul ⟨1, s.fld (R.TRC_KE_STAT_ID_N n)⟩

/-- The registers that take the mean as identification completes. -/
def keMeanShown (s : State) (n : Nat) : State := (s.wr (R.TRC_KE_IDR n) (s.keMean n).word).wr (R.TRC_KE_RATIO n) (s.keMean n).word

theorem keMeanShown_verdict (s : State) (n : Nat) :
    (s.keMeanShown n).fld (R.TRC_KE_STAT_VERDICT n) = s.fld (R.TRC_KE_STAT_VERDICT n) := by
  have haddr : R.TRC_KE_STAT n ≠ R.TRC_KE_IDR n ∧ R.TRC_KE_STAT n ≠ R.TRC_KE_RATIO n := by
    simp only [R.TRC_KE_STAT, R.TRC_KE_IDR, R.TRC_KE_RATIO]
    omega
  exact fld_of_rd ((rd_wr_ne _ _ haddr.2).trans (rd_wr_ne _ _ haddr.1))

/-- The verdict that identification gives: the first of three tests that is met, else OK. -/
def firstVerdict (wrong demag high : Bool) : Nat := if wrong then 2 else if demag then 3 else if high then 4 else 1

theorem firstVerdict_ne_zero : ∀ wrong demag high, firstVerdict wrong demag high ≠ 0 := by decide

theorem firstVerdict_lt : ∀ wrong demag high, firstVerdict wrong demag high < 8 := by decide

/-- With N_ID samples and no verdict yet, identification shows the mean and gives one of the four verdicts. -/
theorem keIdentify_complete {s : State} {n : Nat} (hv : s.fld (R.TRC_KE_STAT_VERDICT n) = 0) (h0 : 0 < s.fld (R.TRC_KE_STAT_ID_N n))
    (hn : s.fld (R.TRC_KE_TOL_N_ID n) ≤ s.fld (R.TRC_KE_STAT_ID_N n)) :
    ∃ v, v ≠ 0 ∧ v < 8 ∧ s.keIdentify n = (s.keMeanShown n).keVerdict n v := by
  unfold keIdentify
  dsimp only
  rw [if_neg (by omega)]
  exact ⟨_, firstVerdict_ne_zero _ _ _, firstVerdict_lt _ _ _, rfl⟩

theorem keIdentify_fields {s : State} {n : Fin 2} (hv : s.fld (R.TRC_KE_STAT_VERDICT n) = 0) (h0 : 0 < s.fld (R.TRC_KE_STAT_ID_N n))
    (hn : s.fld (R.TRC_KE_TOL_N_ID n) ≤ s.fld (R.TRC_KE_STAT_ID_N n)) : (s.keIdentify n).fld (R.TRC_KE_STAT_VERDICT n) ≠ 0 ∧
    (s.keIdentify n).rd (R.TRC_KE_RATIO n) = (s.keMean n).word := by
  obtain ⟨v, hne, h8, heq⟩ := keIdentify_complete hv h0 hn
  have hnew : (s.keMeanShown n).fld (R.TRC_KE_STAT_VERDICT n) ≠ v := by
    rw [keMeanShown_verdict, hv]
    exact hne.symm
  have haddr : R.TRC_KE_RATIO n ≠ R.TRC_KE_STAT n := by
    simp only [R.TRC_KE_RATIO, R.TRC_KE_STAT]
    omega
  rw [heq]
  constructor
  · rw [keVerdict_verdict _ hnew h8]
    exact hne
  · exact (keVerdict_rd _ hnew (trcReg_keRatio n)).trans ((rd_setFld_ne _ _ haddr).trans (rd_wr ..))

/-- A page whose identification starts anew: no verdict, no sample, and none due. -/
def keRestarted (s : State) (n : Nat) : State :=
  ((s.setFld (R.TRC_KE_STAT_VERDICT n) 0).setFld (R.TRC_KE_STAT_ID_N n) 0).updTrac n fun t =>
    { t with keSum := {}, keDue := false, keAt := some s.now }

end State

/-! ### The commands -/

theorem execDropModeChange_fast {s : State} {n : Fin 2} (hs : s.fld (R.TRC_STAT_STATE n) ≠ 0)
    (hd : s.on (R.TRC_CFG_DROP_SPD n) = true) (hm : s.on (R.TRC_STAT_DROP_SHORT n) = false) (hf : s.trcFast n = true) :
    execDropModeChange n s = .next (s.trcDropTo n true) := by
  unfold execDropModeChange
  dsimp only
  rw [if_neg (by simp [hs, hd]), hm, hf, if_pos (by simp)]
  rfl

theorem execDegradeWarning_due {s : State} {n : Fin 2} (hs : s.fld (R.TRC_STAT_STATE n) = 1)
    (ht : (s.fld (R.TRC_DEG_DEGRADE_MAX n) - s.fld (R.TRC_DEG_DEG_WARN n)) * 1000 ≤ s.fld (R.TRC_DEG_TIME_ELAPSED_MS n)) :
    execDegradeWarning n s =
    .next ((s.evt .trc n E.TRC_DEG_WARN).post 0x1080 (locTrc n 1) (s.fld (R.TRC_DEG_DEG_WARN n) + n * 2 ^ 15)) :=
  congrArg Host.Outcome.next (if_pos ⟨hs, ht⟩)

theorem execDegradeExpiry_due {s : State} {n : Fin 2} (hs : s.fld (R.TRC_STAT_STATE n) = 1)
    (ht : s.fld (R.TRC_DEG_DEGRADE_MAX n) * 1000 ≤ s.fld (R.TRC_DEG_TIME_ELAPSED_MS n)) :
    execDegradeExpiry n s = .next (s.degradeExpired n) :=
  congrArg Host.Outcome.next (if_pos ⟨hs, ht⟩)

theorem trcCtl_pageAt : ∀ n : Fin 2, pageAt (R.TRC_CTL n) = some (.trc, n.val) := by decide

/-- In a group that is OFF nothing of the dropped set is kept anew (R314). -/
theorem execTrcClear_off {s : State} {m : Master} {n : Fin 2} (ho : s.opens m .trc n = true)
    (hg : s.gstate (s.fld (R.TRC_CFG_GRP n)) = 0) : execTrcClear m n s = .next (s.trcCleared n (s.tracRec n).kept).okResp := by
  unfold execTrcClear
  dsimp only
  rw [State.write_ok s m _ (trcCtl_pageAt n) ho (by rw [hg]; rfl) (State.remoteDown_false s n (by decide) (by decide)), if_neg (by omega)]
  rfl

theorem execKeRestart_opens {s : State} {m : Master} {n : Fin 2} (ho : s.opens m .trc n = true) :
    execKeRestart m n s = .next (s.keRestarted n).okResp :=
  congrArg Host.Outcome.next (State.write_ok s m _ (trcCtl_pageAt n) ho rfl (State.remoteDown_false s n (by decide) (by decide)))

end Sys2Proof.Machine
end

section
/-!
Traction supervision: the commands complete.
-/
open Sys2Proof Sys2Proof.Machine

/-- Settles O18: each command by the lemma that says what it answers when its condition holds, and by the registers and the record that it
leaves; J2 and the frames to the dies leave the page's block registers. -/
theorem tractionCommandsComplete : Obligations.TractionCommandsComplete := by
  unfold Obligations.TractionCommandsComplete
  refine ⟨fun s n hd => ⟨_, congrArg Host.Outcome.next (State.trcDeclare_set hd), ?_⟩,
    fun s n hd => congrArg Host.Outcome.next (State.trcDeclare_both hd),
    fun s n hs hd hm hf => ⟨_, execDropModeChange_fast hs hd hm hf, s.trcDropTo_dropShort n true⟩,
    fun s n hs ht => execDegradeWarning_due hs ht, fun s n hs ht => ⟨_, execDegradeExpiry_due hs ht, s.degradeExpired_fields n⟩,
    fun s m n ho hg => ⟨_, execTrcClear_off ho hg, rfl, s.trcCleared_fields n _⟩,
    fun s n hv h0 hn => ⟨_, rfl, State.keIdentify_fields hv h0 hn⟩, fun s m n ho => execKeRestart_opens ho⟩
  exact ⟨State.clearDecl_declareSet_decl .., State.declareSet_fields _ n _ _ hd⟩

end

section
/-!
SUPPORT. Charger: what a write of CHG_CFG leaves in it, the edges and the captures of the pilot, and what the commands answer when their
condition holds (R325–R341).
-/
namespace Sys2Proof.Machine
namespace State

/-! ### CHG_CFG (R325) -/

/-- CHG_CFG with its three fields as a write gives them. -/
def chgCfgSet (s : State) (v : Word) : State :=
  ((s.setFld R.CHG_CFG_EN (getBits v 0 1)).setFld R.CHG_CFG_DRIVE_INTLK (getBits v 1 1)).setFld R.CHG_CFG_CMD_CTX (getBits v 8 8)

/-- The effect of a write of CHG_CFG: setting EN starts undecided (R330). -/
def chgConfigured (s : State) (v : Word) : State :=
  if bitAt v.toNat 0 && !s.on R.CHG_CFG_EN then
    ((s.chgCfgSet v).setFld R.CHG_STAT_CP_STATE 7).updChg fun c => { c with cpCand := 7, cpRun := 0, dioRun := 0, diode := false }
  else s.chgCfgSet v

theorem chgCfgSet_fields (s : State) (v : Word) : (s.chgCfgSet v).fld R.CHG_CFG_EN = getBits v 0 1 ∧
    (s.chgCfgSet v).fld R.CHG_CFG_DRIVE_INTLK = getBits v 1 1 ∧ (s.chgCfgSet v).fld R.CHG_CFG_CMD_CTX = getBits v 8 8 := by
  unfold chgCfgSet
  refine ⟨?_, ?_, ?_⟩
  · rw [fld_setFld_apart _ _ (by decide) (by decide), fld_setFld_apart _ _ (by decide) (by decide), fld_setFld _ _ (by decide)]
    exact Nat.mod_mod ..
  · rw [fld_setFld_apart _ _ (by decide) (by decide), fld_setFld _ _ (by decide)]
    exact Nat.mod_mod ..
  · rw [fld_setFld _ _ (by decide)]
    exact Nat.mod_mod ..

theorem chgConfigured_rd_cfg (s : State) (v : Word) : (s.chgConfigured v).rd R.CHG_CFG = (s.chgCfgSet v).rd R.CHG_CFG := by
  unfold chgConfigured
  split
  · rw [updChg_rd, rd_setFld_ne _ _ (by decide)]
  · rfl

theorem chgConfigured_fields (s : State) (v : Word) : (s.chgConfigured v).fld R.CHG_CFG_EN = getBits v 0 1 ∧
    (s.chgConfigured v).fld R.CHG_CFG_DRIVE_INTLK = getBits v 1 1 ∧ (s.chgConfigured v).fld R.CHG_CFG_CMD_CTX = getBits v 8 8 := by
  have hcfg := s.chgConfigured_rd_cfg v
  rw [fld_of_rd (f := R.CHG_CFG_EN) hcfg, fld_of_rd (f := R.CHG_CFG_DRIVE_INTLK) hcfg, fld_of_rd (f := R.CHG_CFG_CMD_CTX) hcfg]
  exact s.chgCfgSet_fields v

/-! ### Edges of the pilot (R328, R329) -/

/-- A capture that has lasted changes the held levels and no edge. -/
theorem cpSettle_edges (s : State) : s.cpSettle.conv.chg.rise = s.conv.chg.rise ∧ s.cpSettle.conv.chg.fall = s.conv.chg.fall := by
  unfold cpSettle
  split
  · split
    · dsimp only [updChg]
      split <;> exact ⟨rfl, rfl⟩
    · exact ⟨rfl, rfl⟩
  · exact ⟨rfl, rfl⟩

@[simp] theorem updChg_now (s : State) (f : Chg → Chg) : (s.updChg f).now = s.now := rfl

@[simp] theorem cpSettle_now (s : State) : s.cpSettle.now = s.now :=
  (s.cpSettle_within (P := (· == .conv)) rfl).same .clock rfl

theorem cpSettle_regs (s : State) : s.cpSettle.regs = s.regs :=
  ((s.cpSettle_within (P := (· == .conv)) rfl).same .regs rfl).1

/-- The level that an edge ends: it lasted since the last edge, and a capture of it that has not settled is dropped. -/
def cpLevelEnds (s : State) (rising : Bool) : State :=
  s.cpSettle.updChg fun c => { c with
    cap := none
    widths := if rising then (c.widths.1, s.cpSettle.cpLevel.elim 0 fun e => s.now - e.2)
      else (s.cpSettle.cpLevel.elim 0 fun e => s.now - e.2, c.widths.2) }

theorem cpLevelEnds_chg (s : State) (rising : Bool) : (s.cpLevelEnds rising).conv.chg.cap = none ∧
    (s.cpLevelEnds rising).conv.chg.rise = s.conv.chg.rise ∧ (s.cpLevelEnds rising).conv.chg.fall = s.conv.chg.fall :=
  ⟨rfl, s.cpSettle_edges⟩

theorem cpLevelEnds_regs (s : State) (rising : Bool) : (s.cpLevelEnds rising).regs = s.regs := s.cpSettle_regs

/-! ### A trip's end (R336, R338) -/

/-- In a live session with a cable that it may use, a trip of the clock ends the session before anything else does. -/
theorem sessStep_trip {s : State} {r : Nat} (timer : Option Nat) (bnd : Bool) (hs : s.shed = false) (he : s.on R.CHG_CFG_EN = true)
    (hc : s.cableOk = true) (h3 : 3 ≤ s.fld R.CHG_STAT_SESS) (h5 : s.fld R.CHG_STAT_SESS ≤ 5) (ht : s.conv.chg.trip = some r) :
    s.sessStep timer bnd = s.chgTo 6 r := by
  have hlive : (decide (3 ≤ s.fld R.CHG_STAT_SESS) && decide (s.fld R.CHG_STAT_SESS ≤ 5)) = true := by simp [h3, h5]
  have hcause : s.chgCause = some r := by
    unfold chgCause
    rw [ht]
    rfl
  unfold sessStep
  dsimp only
  rw [if_neg (ne_true_of_eq_false hs), he, if_neg (by decide), if_neg (by simp [hc]), hlive, if_pos rfl, hcause]

theorem sessClock_trip {s : State} {r : Nat} (hs : s.shed = false) (he : s.on R.CHG_CFG_EN = true) (hc : s.cableOk = true)
    (h3 : 3 ≤ s.fld R.CHG_STAT_SESS) (h5 : s.fld R.CHG_STAT_SESS ≤ 5) (ht : s.conv.chg.trip = some r) :
    s.sessClock = (s.chgTo 6 r).updChg fun c => { c with trip := none, timer := none, bnd := false } := by
  unfold sessClock
  dsimp only
  rw [sessStep_trip _ _ hs he hc h3 h5 ht, ht]
  rfl

end State

/-! ### The commands -/

theorem chgCfg_pageAt : pageAt R.CHG_CFG = some (.chg, 0) := by decide

theorem execChgEnable_admitted {s : State} {m : Master} {v : Word} (ho : s.opens m .chg 0 = true) (hx : getBits v 8 8 ≤ 159)
    (hst : s.fld R.CHG_STAT_SESS = 0 ∨ s.fld R.CHG_STAT_SESS = 6)
    (hen : bitAt v.toNat 0 = true → s.chgChansOk = true ∧ s.fld R.SEC_BOOT_STAGE = 2) :
    execChgEnable m v s = .next (s.chgConfigured v).okResp := by
  have hctx : decide (159 < getBits v 8 8) = false := decide_eq_false (by omega)
  have hidle : (s.fld R.CHG_STAT_SESS != 0 && s.fld R.CHG_STAT_SESS != 6) = false := by
    rcases hst with h | h <;> rw [h] <;> rfl
  have henable : (bitAt v.toNat 0 && !s.chgChansOk) = false ∧ (bitAt v.toNat 0 && s.fld R.SEC_BOOT_STAGE != 2) = false := by
    cases hb : bitAt v.toNat 0 with
    | false => exact ⟨rfl, rfl⟩
    | true =>
      obtain ⟨hc, hs⟩ := hen hb
      rw [hc, hs]
      decide
  obtain ⟨hchans, hstage⟩ := henable
  exact congrArg Host.Outcome.next
    (State.write_ok s m _ chgCfg_pageAt ho (by rw [hctx, hidle, hchans, hstage]; rfl) (State.remoteDown_false s 0 (by decide) (by decide)))

theorem execCpEdge_falling (s : State) :
    execCpEdge false s = .next ((s.cpLevelEnds false).updChg fun c => { c with fall := some s.now }) := by
  unfold execCpEdge State.cpLevelEnds
  simp only [State.updChg_now, State.cpSettle_now]
  rfl

/-- The first rising edge starts a period and ends none. -/
theorem execCpEdge_firstRising {s : State} (hr : s.conv.chg.rise = none) :
    execCpEdge true s = .next ((s.cpLevelEnds true).updChg fun c => { c with rise := some s.now }) := by
  obtain ⟨hrise, -⟩ := s.cpSettle_edges
  unfold execCpEdge State.cpLevelEnds
  dsimp only
  rw [hrise, hr]
  simp only [State.updChg_now, State.cpSettle_now]
  rfl

/-- A further rising edge ends a period, whose length and high level give CP_OSC and the duty. -/
theorem execCpEdge_period {s u : State} {r : Nat} (hr : s.conv.chg.rise = some r)
    (hu : u = (s.cpLevelEnds true).updChg fun c => { c with rise := some s.now }) : execCpEdge true s =
    .next (((u.setNear R.CHG_CP_DUTY 0 1000 ⟨1000 * ((s.conv.chg.fall.getD r - r : Nat) : Int), s.now - r⟩).setFld R.CHG_STAT_CP_OSC
      (b2n (392000 ≤ s.now - r && s.now - r ≤ 408000))).showAllow) := by
  obtain ⟨hrise, hfall⟩ := s.cpSettle_edges
  subst hu
  unfold execCpEdge State.cpLevelEnds
  dsimp only
  rw [hrise, hfall, hr, if_neg (by decide)]
  simp only [State.updChg_now, State.cpSettle_now]

theorem execCpOscTimeout_oscillating {s : State} (h : s.on R.CHG_STAT_CP_OSC = true) : execCpOscTimeout s =
    .next (((s.updChg fun c => { c with rise := none, fall := none, widths := (0, 0), cap := none }).setFld R.CHG_STAT_CP_OSC 0).showAllow) :=
  congrArg Host.Outcome.next (if_pos h)

/-- Without oscillation a captured level is held at once. -/
theorem execCpCapture_steady {s : State} (high : Bool) (c : Fin 65536) (h : s.on R.CHG_STAT_CP_OSC = false) :
    execCpCapture high c s = .next (s.updChg fun x => if high then { x with cpHigh := c } else { x with cpLow := c }) := by
  unfold execCpCapture
  rw [h]
  rfl

/-- With the pilot oscillating a level is captured within it, once it is old enough (R329). -/
theorem execCpCapture_oscillating {s : State} {high : Bool} (c : Fin 65536) {t : Nat} (h : s.on R.CHG_STAT_CP_OSC = true)
    (hl : s.cpLevel = some (high, t)) (ht : t + max 2000 ((if high then s.conv.chg.widths.1 else s.conv.chg.widths.2) / 2) ≤ s.now) :
    execCpCapture high c s = .next (s.updChg fun x => { x with cap := some (high, c.val) }).cpSettle := by
  unfold execCpCapture
  dsimp only
  rw [h, if_neg (by decide), hl]
  exact congrArg Host.Outcome.next (if_pos ⟨rfl, ht⟩)

theorem execCpStateChange_agreed {s : State} (hr : 3 ≤ s.conv.chg.cpRun) (hc : s.conv.chg.cpCand ≠ s.fld R.CHG_STAT_CP_STATE)
    (hd : s.conv.chg.dioRun < 3) : execCpStateChange s =
    .next (((s.setFld R.CHG_STAT_CP_STATE s.conv.chg.cpCand).evt .chg 0 E.CHG_CP_CHG).post 0x0091 (locChg 1)
      (s.conv.chg.cpCand + s.fld R.CHG_STAT_CP_STATE * 16)) := by
  unfold execCpStateChange
  dsimp only
  rw [if_neg fun ⟨h, _⟩ => absurd hd (Nat.not_lt.mpr h), if_pos ⟨hr, hc⟩]

theorem execPpRatingChange_agreed {s : State} (hr : 3 ≤ s.conv.chg.ppRun) (hc : s.conv.chg.ppCand ≠ s.fld R.CHG_STAT_RATING) :
    execPpRatingChange s = .next (((s.setFld R.CHG_STAT_RATING s.conv.chg.ppCand).evt .chg 0 E.CHG_PP_CHG).showAllow) :=
  congrArg Host.Outcome.next (if_pos ⟨hr, hc⟩)

theorem execHandshakeTimeout_running {s : State} {t : Fin 4} {r : Nat} (he : s.on R.CHG_CFG_EN = true) (ht : s.timerReason t = some r) :
    execHandshakeTimeout t s =
    .next ((((s.opTo .chg 0).evt .chg 0 E.CHG_HS_TO).post 0x1090 (locChg 0) t).updChg fun c => { c with timer := some r }) := by
  unfold execHandshakeTimeout
  rw [if_pos he, ht]

theorem execGridOkSet_good {s : State} (h : s.gridGood = true) : execGridOkSet s = .next (s.setFld R.CHG_STAT_GRID_OK 1) :=
  congrArg Host.Outcome.next (if_pos h)

theorem execGridVoltageTrip_high {s : State} {k : Fin 3} (hl : s.sessLive = true) (hv : s.fld R.CHG_PROT0_VHI < s.fld (R.CHG_VRMS_VRMS k)) :
    execGridVoltageTrip k true s = .next (s.gridTrip 1 k) :=
  congrArg Host.Outcome.next (if_pos (by simp [hl, hv]))

theorem execGridVoltageTrip_low {s : State} {k : Fin 3} (hl : s.sessLive = true) (hv : s.fld (R.CHG_VRMS_VRMS k) < s.fld R.CHG_PROT0_VLO) :
    execGridVoltageTrip k false s = .next (s.gridTrip 0 k) :=
  congrArg Host.Outcome.next (if_pos (by simp [hl, hv]))

theorem execGridFrequencyTrip_low {s : State} (hl : s.sessLive = true) (hf : s.fld R.CHG_FREQ_FREQ < s.fld R.CHG_PROT1_FLO) :
    execGridFrequencyTrip 0 s = .next (s.gridTrip 2 0) :=
  congrArg Host.Outcome.next (if_pos (by simp [hl, hf]))

theorem execGridFrequencyTrip_high {s : State} (hl : s.sessLive = true) (hf : s.fld R.CHG_PROT1_FHI < s.fld R.CHG_FREQ_FREQ) :
    execGridFrequencyTrip 1 s = .next (s.gridTrip 3 0) :=
  congrArg Host.Outcome.next (if_pos (by simp [hl, hf]))

/-- The power imported is beyond its limit. -/
theorem execPowerLimitTrip_import {s : State} (hl : s.sessLive = true)
    (hp : Q.le (Q.ofWord (s.rd R.CHG_PWR)) ⟨105 * (s.fld R.CHG_PROT3_P_IMP_MAX : Int), 10⟩ = false) :
    execPowerLimitTrip false s = .next (((s.flt .chg 0 F.CHG_LIMIT).post 0x2091 (locChg 2) 9).tripMark 9) :=
  congrArg Host.Outcome.next (if_pos (by rw [hl, hp]; rfl))

theorem execDriveInterlock_armed {s : State} {g : Fin 2} (hi : s.on R.CHG_CFG_DRIVE_INTLK = true) (hc : s.on R.CHG_STAT_RATING = true)
    (ha : s.armed g = true) : execDriveInterlock g s =
    .next (((s.flt .chg 0 F.CHG_DRIVE_INTLK).post 0x3090 (locChg 0) g).raise 18 (2 ^ g.val)) :=
  congrArg Host.Outcome.next (if_pos (by rw [hi, hc, ha]; rfl))

end Sys2Proof.Machine
end

section
/-!
Charger: the commands complete.
-/
open Sys2Proof Sys2Proof.Machine

/-- Settles O19: each command by the lemma that says what it answers when its condition holds; the write of CHG_CFG by the fields that it
leaves, an edge by the level that it ends, and a marked trip by the session's first cause of an end. -/
theorem chargerCommandsComplete : Obligations.ChargerCommandsComplete := by
  unfold Obligations.ChargerCommandsComplete
  refine ⟨fun s m v ho hx hst hen => ⟨_, execChgEnable_admitted ho hx hst hen, rfl, s.chgConfigured_fields v⟩,
    fun s => ⟨_, execCpEdge_falling s, rfl, ?_⟩, fun s hr => ⟨_, execCpEdge_firstRising hr, rfl, ?_⟩,
    fun s r u hr hu => execCpEdge_period hr hu, fun s h => execCpOscTimeout_oscillating h,
    fun s c h => execCpCapture_steady true c h, fun s c h => execCpCapture_steady false c h,
    fun s h c t ho hl ht => execCpCapture_oscillating c ho hl ht, fun s hr hc hd => execCpStateChange_agreed hr hc hd,
    fun s hr hc => execPpRatingChange_agreed hr hc, fun s t r he ht => execHandshakeTimeout_running he ht, fun s => rfl,
    fun s h => execGridOkSet_good h, fun s k hl hv => execGridVoltageTrip_high hl hv, fun s k hl hv => ?_,
    fun s hl hf => execGridFrequencyTrip_low hl hf, fun s hl hf => execGridFrequencyTrip_high hl hf,
    fun s hl hp => execPowerLimitTrip_import hl hp, fun s g hi hc ha => execDriveInterlock_armed hi hc ha,
    fun s r hs he hc h3 h5 ht => State.sessClock_trip hs he hc h3 h5 ht⟩
  · obtain ⟨hcap, hrise, -⟩ := s.cpLevelEnds_chg false
    exact ⟨hcap, hrise, s.cpLevelEnds_regs false⟩
  · obtain ⟨hcap, -, hfall⟩ := s.cpLevelEnds_chg true
    exact ⟨hcap, hfall, s.cpLevelEnds_regs true⟩
  · rw [exec_gridVoltageTrip, execGridVoltageTrip_low hl hv, State.gridTrip, Nat.zero_add]

end

section
/-!
What the commands of the safety functions and of the networks leave alone.
-/
open Sys2Proof Sys2Proof.Machine

/-- Settles O39: each command by the frame of its meaning. -/
theorem safetyFrames : Obligations.SafetyFrames := by
  unfold Obligations.SafetyFrames
  exact ⟨
    fun lines => touches_of_within fun s => execFaultLineRaise_within lines s rfl rfl rfl rfl rfl,
    fun m k v => touches_of_within fun s => execPendingClear_within m k v s rfl rfl rfl rfl rfl rfl rfl,
    fun g => touches_of_within fun s => execHoldMaxExpiry_within g s rfl rfl rfl rfl rfl,
    fun m groups => touches_of_within fun s => execRelease_within m groups s rfl rfl rfl rfl rfl rfl rfl,
    fun m line key => touches_of_within fun s => execFaultInject_within m line key s rfl rfl rfl rfl rfl rfl rfl,
    fun n a b together => touches_of_within fun s => execSafetyInputChange_within n a b together s rfl rfl rfl rfl rfl,
    fun n => touches_of_within fun s => execSiDiscrepancy_within n s rfl rfl rfl rfl rfl,
    fun n srcB aLow bLow => touches_of_within fun s => execSiTestPulse_within n srcB aLow bLow s rfl rfl rfl rfl rfl,
    fun m n => touches_of_within fun s => execSiReset_within m n s rfl rfl rfl rfl rfl rfl rfl,
    fun m => touches_of_within fun s => execSoHighSideClose_within m s rfl rfl,
    fun m low hsNode lsNode => touches_of_within fun s => execSoSwitchTest_within m low hsNode lsNode s rfl rfl rfl rfl rfl,
    fun m hsNode lsNode => touches_of_within fun s => execSoTestEnd_within m hsNode lsNode s rfl rfl rfl rfl rfl,
    fun m => touches_of_within fun s => execSoOvercurrent_within m s rfl rfl rfl rfl rfl,
    fun m => touches_of_within fun s => execSoDegradeExpiry_within m s rfl rfl rfl rfl rfl,
    fun m k => touches_of_within fun s => execSoReset_within m k s rfl rfl rfl rfl rfl rfl rfl,
    fun k pathB => touches_of_within fun s => execEptalSendMiss_within k pathB s rfl rfl,
    fun k pathB bytes => touches_of_within fun s => execEptalCopy_within k pathB bytes s rfl rfl rfl rfl rfl,
    fun k => touches_of_within fun s => execEptalWindowExpiry_within k s rfl rfl rfl rfl rfl,
    fun k => touches_of_within fun s => execEptalSingleExpiry_within k s rfl rfl rfl rfl rfl,
    fun k => touches_of_within fun s => execEptalDeliveryTimeout_within k s rfl rfl rfl rfl rfl,
    fun m k => touches_of_within fun s => execEptalReset_within m k s rfl rfl rfl rfl rfl rfl rfl,
    fun p addr write fold => touches_of_within fun s => execGateMismatch_within p addr write fold s rfl rfl rfl rfl rfl rfl,
    fun p diff => touches_of_within fun s => execStateFold_within p diff s rfl rfl rfl rfl rfl rfl,
    fun m p => touches_of_within fun s => execFoldRequest_within m p s rfl rfl rfl rfl rfl rfl,
    fun p chk data double => touches_of_within fun s => execCacheEccError_within p chk data double s rfl rfl rfl rfl rfl rfl,
    fun p main chk => touches_of_within fun s => execAssayVerdict_within p main chk s rfl rfl rfl rfl rfl rfl,
    fun p => touches_of_within fun s => execAssayTimeout_within p s rfl rfl rfl rfl rfl rfl,
    fun p => touches_of_within fun s => execRestartFetch_within p s rfl rfl,
    fun p => touches_of_within fun s => execScWarning_within p s rfl rfl rfl,
    fun p => touches_of_within fun s => execScExpiry_within p s rfl rfl rfl rfl rfl,
    fun m p => touches_of_within fun s => execAssayRequest_within m p s rfl rfl rfl rfl rfl rfl,
    fun m p => touches_of_within fun s => execSplitRequest_within m p s rfl rfl rfl rfl rfl,
    fun p diff => touches_of_within fun s => execSplitSync_within p diff s rfl rfl rfl rfl rfl rfl,
    fun p => touches_of_within fun s => execSplitTimeout_within p s rfl rfl rfl,
    fun m p => touches_of_within fun s => execRejoinRequest_within m p s rfl rfl rfl rfl rfl,
    fun p => touches_of_within fun s => execRejoinSync_within p s rfl,
    fun p diff => touches_of_within fun s => execRejoinCopyDone_within p diff s rfl rfl rfl rfl,
    fun p => touches_of_within fun s => execRejoinTimeout_within p s rfl rfl rfl rfl,
    fun m p diff => touches_of_within fun s => execDebugHalt_within m p diff s rfl rfl rfl rfl rfl rfl rfl rfl,
    fun m p diff => touches_of_within fun s => execDebugResume_within m p diff s rfl rfl rfl rfl rfl rfl rfl rfl,
    fun m p diff => touches_of_within fun s => execDebugStep_within m p diff s rfl rfl rfl rfl rfl rfl rfl rfl,
    fun p reg v => touches_of_within fun s => execDebugStateWrite_within p reg v s rfl rfl rfl⟩

/-- Settles O40: each command by the frame of its meaning; a host write, whose frame names every part, by what every command keeps. -/
theorem networkFrames : Obligations.NetworkFrames := by
  unfold Obligations.NetworkFrames
  exact ⟨
    fun bytes framing => touches_of_within fun s => execAuxlCommandFrame_within bytes framing s rfl rfl rfl,
    fun m => touches_of_within fun s => execAuxlRxRead_within m s rfl rfl,
    touches_of_within fun s => execAuxlLinkTimeout_within s rfl rfl rfl,
    fun m => touches_of_within fun s => execAuxlAckSend_within m s rfl rfl rfl rfl rfl rfl,
    touches_of_within fun s => execAuxlTxDone_within s rfl,
    fun m k epoch => touches_of_within fun s => execEptalSend_within m k epoch s rfl rfl rfl rfl rfl rfl rfl rfl,
    fun n => touches_of_within fun s => execCanStartOfFrame_within n s rfl rfl,
    fun n f => touches_of_within fun s => execCanFrameReceived_within n f s rfl rfl rfl rfl rfl rfl rfl rfl,
    fun n dly => touches_of_within fun s => execCanTxDone_within n dly s rfl rfl rfl rfl rfl rfl,
    fun n lost err dphase collision counted dly => touches_of_within fun s =>
      execCanTxError_within n lost err dphase collision counted dly s rfl rfl rfl rfl rfl,
    fun n => touches_of_within fun s => execCanBusOff_within n s rfl rfl rfl rfl rfl,
    fun m n => touches_of_within fun s => execCanRecover_within m n s rfl rfl rfl rfl rfl,
    fun n => touches_of_within fun s => execCanRecoveryDone_within n s rfl rfl rfl rfl,
    fun m n k epoch => touches_of_within fun s => execCanCommit_within m n k epoch s rfl rfl rfl rfl rfl rfl rfl,
    fun m n k won => touches_of_within fun s => execCanCancel_within m n k won s rfl rfl rfl rfl rfl rfl rfl,
    fun m n k => touches_of_within fun s => execCanLock_within m n k s rfl rfl rfl rfl rfl rfl,
    fun m n k => touches_of_within fun s => execCanRelease_within m n k s rfl rfl rfl rfl rfl rfl rfl,
    fun m n k v receiving => touches_of_within fun s => execCanBufferConfig_within m n k v receiving s rfl rfl rfl rfl rfl rfl,
    fun n => touches_of_within fun s => execCanDominantTimeout_within n s rfl,
    fun n bytes fcsOk ecc => touches_of_within fun s => execEthFrameReceived_within n bytes fcsOk ecc s rfl rfl rfl rfl rfl rfl rfl rfl rfl,
    fun m n ecc => touches_of_within fun s => execEthTxKick_within m n ecc s rfl rfl rfl rfl rfl rfl rfl rfl rfl,
    fun n ecc => touches_of_within fun s => execEthTxDone_within n ecc s rfl rfl rfl rfl rfl rfl rfl rfl rfl,
    fun n up sqi => touches_of_within fun s => execEthLinkChange_within n up sqi s rfl rfl rfl rfl rfl,
    fun f pend tag addr => touches_of_within fun s => execHspRead_within f pend tag addr s rfl rfl rfl rfl rfl rfl rfl rfl rfl rfl rfl,
    fun f pend tag addr v => touches_all _,
    fun f pend tag => touches_of_within fun s => execHspNop_within f pend tag s rfl rfl rfl rfl rfl,
    fun tag => touches_of_within fun s => execHspTimeout_within tag s rfl rfl rfl rfl rfl,
    fun n res err dphase eight => touches_of_within fun s => execCanReceiveError_within n res err dphase eight s rfl rfl rfl rfl rfl⟩

end

section
/-!
SUPPORT. Commutators in flush mode: all but the safety manager and what it needs is shed (R75), so no state begins.
-/
namespace Sys2Proof.Machine
namespace State

theorem actTo_shed {s : State} (n new : Nat) (h : s.shed = true) : s.actTo n new = s := if_pos h

@[simp] theorem actSense_fld (s : State) (n : Nat) (f : Fld) : (s.actSense n).fld f = s.fld f := updAct_fld ..

/-- ALIGN of commutator 0 in flush mode: the registers as they stand when the hold-up supply took over during a start (R75, R370). -/
def alignInFlush : State := (reset.setFld R.PWR_STAT_ON_HOLDUP 1).setFld (R.ACT_STAT_STATE 0) 5

theorem alignInFlush_shed : alignInFlush.shed = true := by decide

theorem alignInFlush_actState : alignInFlush.actState 0 = 5 := by decide

end State

/-- In flush mode the end of ALIGN begins no ramp: sensing alone starts anew. -/
theorem execActAlignEnd_shed {s : State} {n : Fin 3} (h : s.actState n = 5) (hs : s.shed = true) :
    execActAlignEnd n s = .next (s.actSense n) := by
  have hshed : (s.actSense n).shed = true := hs
  unfold execActAlignEnd
  rw [if_pos h, State.actTo_shed _ _ hshed]

end Sys2Proof.Machine
end

section
/-!
Actuators: in flush mode a timed end of a state moves no commutator.
-/
open Sys2Proof Sys2Proof.Machine

/-- Refutes O21: the end of ALIGN is stated for every state, and in flush mode, where R75 sheds the commutators, RAMP does not begin. -/
theorem not_actuatorCommandsComplete : ¬ Obligations.ActuatorCommandsComplete := by
  unfold Obligations.ActuatorCommandsComplete
  rintro ⟨-, -, -, -, -, -, -, -, -, -, -, hAlignEnd, -⟩
  obtain ⟨t, ht, hRamp⟩ := hAlignEnd State.alignInFlush 0 State.alignInFlush_actState
  rw [exec_actAlignEnd, execActAlignEnd_shed State.alignInFlush_actState State.alignInFlush_shed] at ht
  cases ht
  have hAlign : (State.alignInFlush.actSense (0 : Fin 3)).actState (0 : Fin 3) = 5 :=
    (State.actSense_fld ..).trans State.alignInFlush_actState
  rw [hAlign] at hRamp
  exact absurd hRamp (by decide)

end

section
/-!
SUPPORT. The Derailleur: what the entry to a step shows, and what the commands answer when their condition holds (R378–R383).
-/
namespace Sys2Proof.Machine
namespace State

theorem post_drl (s : State) (code l d : Nat) : (s.post code l d).drl = s.drl :=
  (s.post_within (P := (· != .drl)) code l d rfl rfl rfl).same .drl rfl

/-- The step shown and timed from now on, and its event posted. -/
def drlStepBegins (s : State) (k : Nat) : State :=
  ((s.setFld R.DRL_STAT_STEP k).updDrl fun d => { d with stepAt := s.now, expired := false, inTol := none }).post 0x00C0 locDrl
    (k + s.fld (R.DRL_STEP_CTL_KIND k) * 16)

theorem drlStepBegins_drl (s : State) (k : Nat) :
    (s.drlStepBegins k).drl = { s.drl with stepAt := s.now, expired := false, inTol := none } := post_drl ..

theorem drlStepBegins_fields (s : State) {k : Nat} (hk : k < 8) :
    (s.drlStepBegins k).drlBusy = s.drlBusy ∧ (s.drlStepBegins k).drlStep = k := by
  unfold drlStepBegins drlBusy drlStep on
  rw [fld_post _ _ _ _ (by decide) (by decide), fld_post _ _ _ _ (by decide) (by decide), updDrl_fld, updDrl_fld,
    fld_setFld_apart _ _ (by decide) (by decide), fld_setFld _ _ (by decide)]
  exact ⟨rfl, Nat.mod_eq_of_lt hk⟩

/-- A step that is not the end of the sequence starts or stops the synchronisation, or leaves it (R380, R381). -/
theorem drlEnter_step {s : State} {k : Nat} (h : s.fld (R.DRL_STEP_CTL_KIND k) ≠ 0) : s.drlEnter k =
    if s.fld (R.DRL_STEP_CTL_KIND k) = 3 then ((s.drlStepBegins k).setFld R.DRL_STAT_SYNC_ON 1).updDrl fun d =>
      { d with ratio := (s.drlStepBegins k).rd (R.DRL_STEP_PAR k) }
    else if s.fld (R.DRL_STEP_CTL_KIND k) = 1 ∨ s.fld (R.DRL_STEP_CTL_KIND k) = 4 then (s.drlStepBegins k).setFld R.DRL_STAT_SYNC_ON 0
    else s.drlStepBegins k := by
  unfold drlEnter
  dsimp only
  rw [if_neg h]
  split
  · next h3 =>
    rw [if_neg (by omega)]
    rfl
  · rfl

/-- An entered step runs: the sequence stays busy, shows the step and times it from now. -/
theorem drlEnter_fields {s : State} {k : Nat} (hk : k < 8) (h : s.fld (R.DRL_STEP_CTL_KIND k) ≠ 0) :
    (s.drlEnter k).drlBusy = s.drlBusy ∧ (s.drlEnter k).drlStep = k ∧ (s.drlEnter k).drl.src = s.drl.src ∧
    (s.drlEnter k).drl.stepAt = s.now ∧ (s.drlEnter k).drl.restore = s.drl.restore := by
  obtain ⟨hbusy, hstep⟩ := s.drlStepBegins_fields hk
  have hdrl := s.drlStepBegins_drl k
  have hsync : ∀ v, ((s.drlStepBegins k).setFld R.DRL_STAT_SYNC_ON v).drlBusy = s.drlBusy ∧
      ((s.drlStepBegins k).setFld R.DRL_STAT_SYNC_ON v).drlStep = k := fun v => by
    rw [← hbusy]
    unfold drlBusy drlStep on
    rw [fld_setFld_apart _ _ (by decide) (by decide), fld_setFld_apart _ _ (by decide) (by decide)]
    exact ⟨rfl, hstep⟩
  rw [drlEnter_step h]
  split
  · obtain ⟨hb, hs⟩ := hsync 1
    refine ⟨hb, hs, ?_⟩
    simp only [updDrl, setFld_drl, hdrl, and_self]
  split
  · obtain ⟨hb, hs⟩ := hsync 0
    refine ⟨hb, hs, ?_⟩
    simp only [setFld_drl, hdrl, and_self]
  · refine ⟨hbusy, hstep, ?_⟩
    simp only [hdrl, and_self]

/-! ### GO (R378) -/

/-- The registers as GO clears them. -/
def drlCleared (s : State) (start : Nat) : State :=
  (((s.setFld R.DRL_CTL_START start).wr R.DRL_STAT 0).wr R.DRL_TIME 0).setFld R.DRL_STAT_BUSY 1

/-- What GO records of the contexts that the sequence writes and of the actuator, in state `t`. -/
def drlRecord (s t : State) : Drl where
  src := s.actCtx s.drlAct
  epochs := (s.actCtx s.drlAct :: s.drlCtxs).map fun c => (c, t.fld (R.LPX_CFG_EPOCH c))
  count := t.actCount s.drlAct
  goAt := t.now
  stepAt := t.now
  sp := s.drlCtxs.zipIdx.foldl (fun m p => [0, 1, 2].foldl
    (fun m k => Store.write (fun _ => 0) m (8 * p.2 + k) (t.rd (R.LPX_ACT p.1 k))) m) []

/-- The state that GO leaves before it enters the first step: with the active limits of the torque contexts saved. -/
def drlReady (s : State) (start : Nat) : State :=
  ((s.drlCleared start).updDrl fun _ => s.drlRecord (s.drlCleared start)).each [0, 1, 2, 3] fun t k =>
    t.wr (R.DRL_SAVE k) (if k / 2 < s.drlCtxs.length then t.rd (R.LPX_ACT (s.drlCtxs.getD (k / 2) 0) (1 + k % 2)) else 0)

theorem updDrl_now (s : State) (f : Drl → Drl) : (s.updDrl f).now = s.now := rfl

theorem drlReady_drl (s : State) (start : Nat) : (s.drlReady start).drl = s.drlRecord (s.drlCleared start) := rfl

theorem drlReady_now (s : State) (start : Nat) : (s.drlReady start).now = s.now := by
  unfold drlReady drlCleared
  rw [each_now _ _ fun t k => wr_now .., updDrl_now, setFld_now, wr_now, wr_now, setFld_now]

theorem drlReady_rd (s : State) (start : Nat) {a : Nat} (h : ∀ k < 4, a ≠ R.DRL_SAVE k) :
    (s.drlReady start).rd a = (s.drlCleared start).rd a := by
  refine (each_rd _ _ fun t k hk => rd_wr_ne _ _ (h k ?_)).trans (updDrl_rd ..)
  simp only [List.mem_cons, List.not_mem_nil, or_false] at hk
  omega

theorem drlReady_busy (s : State) (start : Nat) : (s.drlReady start).drlBusy = true := by
  unfold drlBusy on
  rw [fld_of_rd (s.drlReady_rd start (a := R.DRL_STAT) (by decide)), drlCleared, fld_setFld _ _ (by decide)]
  rfl

theorem drlReady_kind (s : State) (start : Nat) (k : Fin 8) :
    (s.drlReady start).fld (R.DRL_STEP_CTL_KIND k) = s.fld (R.DRL_STEP_CTL_KIND k) := by
  have hk : ∀ a < 0x40087090, (R.DRL_STEP_CTL_KIND k).addr ≠ a := fun a ha => by
    simp only [R.DRL_STEP_CTL_KIND, R.DRL_STEP_CTL]
    omega
  have hsave : ∀ j < 4, (R.DRL_STEP_CTL_KIND k).addr ≠ R.DRL_SAVE j := fun j hj => hk _ (by simp only [R.DRL_SAVE]; omega)
  refine fld_of_rd ((s.drlReady_rd start hsave).trans ?_)
  unfold drlCleared
  rw [rd_setFld_ne _ _ (hk _ (by decide)), rd_wr_ne _ _ (hk _ (by decide)), rd_wr_ne _ _ (hk _ (by decide)),
    rd_setFld_ne _ _ (hk _ (by decide))]

theorem drlGo_starts {s : State} {m : Master} {start : Nat} (ho : s.opens m .drl 0 = true) (hb : s.drlBusy = false)
    (hf : s.fld R.SEC_BOOT_STAGE = 2) (hc : ∀ c ∈ s.actCtx s.drlAct :: s.drlCtxs, c ≤ 159 ∧ s.cstate c = 2)
    (he : s.on (R.ACT_CFG_EN s.drlAct) = true) : s.drlGo m start = ((s.drlReady start).drlEnter start).okResp := by
  have hall : ((s.actCtx s.drlAct :: s.drlCtxs).any fun c => decide (159 < c) || s.cstate c != 2) = false := by
    rw [List.any_eq_false]
    intro c hm
    obtain ⟨hle, hcur⟩ := hc c hm
    rw [hcur, decide_eq_false (by omega)]
    decide
  unfold drlGo
  dsimp only
  rw [write_ok s m _ (by decide : pageAt R.DRL_CTL = some (.drl, 0)) ho (by rw [hb, hf, hall, he]; rfl)
    (s.remoteDown_false 0 (by decide) (by decide))]
  rfl

/-- After GO the sequence runs its first step, with the actuator's source context recorded and no fallback begun. -/
theorem drlGone_fields {s : State} {k : Fin 8} (hk : s.fld (R.DRL_STEP_CTL_KIND k) ≠ 0) :
    ((s.drlReady k).drlEnter k).drlBusy = true ∧ ((s.drlReady k).drlEnter k).drlStep = k ∧
    ((s.drlReady k).drlEnter k).drl.src = s.actCtx s.drlAct ∧ ((s.drlReady k).drlEnter k).drl.stepAt = s.now ∧
    ((s.drlReady k).drlEnter k).drl.restore = 0 := by
  obtain ⟨hbusy, hstep, hsrc, hat, hrestore⟩ := drlEnter_fields k.isLt fun h => hk ((s.drlReady_kind k k).symm.trans h)
  rw [drlReady_drl] at hsrc hrestore
  rw [hbusy, hstep, hsrc, hat, hrestore, drlReady_busy, drlReady_now]
  exact ⟨rfl, rfl, rfl, rfl, rfl⟩

@[simp] theorem okResp_drlBusy (s : State) : s.okResp.drlBusy = s.drlBusy := rfl
@[simp] theorem okResp_drlStep (s : State) : s.okResp.drlStep = s.drlStep := rfl

end State

theorem execShiftGo_starts {s : State} {m : Master} {k : Fin 8} (ho : s.opens m .drl 0 = true) (hb : s.drlBusy = false)
    (hf : s.fld R.SEC_BOOT_STAGE = 2) (hc : ∀ c ∈ s.actCtx s.drlAct :: s.drlCtxs, c ≤ 159 ∧ s.cstate c = 2)
    (he : s.on (R.ACT_CFG_EN s.drlAct) = true) : execShiftGo m k s = .next ((s.drlReady k).drlEnter k).okResp :=
  congrArg Host.Outcome.next (State.drlGo_starts ho hb hf hc he)

theorem execShiftAbort_busy {s : State} {m : Master} (ho : s.opens m .drl 0 = true) (hb : s.drlBusy = true) :
    execShiftAbort m s = .next ((s.updDrl fun d => { d with abort := true }).okResp) := by
  unfold execShiftAbort
  rw [State.write_ok s m _ (by decide : pageAt R.DRL_CTL = some (.drl, 0)) ho rfl (s.remoteDown_false 0 (by decide) (by decide)), if_pos hb]

/-- A shift's step, or the return of its torque limits, has run its time (R382, R383). -/
theorem execShiftStepTimeout_expires {s : State} (hb : s.drlBusy = true) (ht :
    (if s.drl.restore = 1 then s.fld R.DRL_RST_RST_TO else s.fld (R.DRL_STEP_CTL_TIMEOUT s.drlStep)) * 4000000 ≤ s.drlElapsed) :
    execShiftStepTimeout s = .next ((s.opTo .drl 0).updDrl fun d => { d with expired := true }) :=
  congrArg Host.Outcome.next (if_pos ⟨hb, ht⟩)

end Sys2Proof.Machine
end

section
/-!
Derailleur: the commands complete.
-/
open Sys2Proof Sys2Proof.Machine

/-- Settles O22: GO by the state that it leaves and the step that it enters; the other commands by the lemma that says what each answers
when its condition holds. -/
theorem shiftCommandsComplete : Obligations.ShiftCommandsComplete := by
  unfold Obligations.ShiftCommandsComplete
  refine ⟨fun s m k ho hb hf hc he hk => ⟨_, execShiftGo_starts ho hb hf hc he, rfl, ?_⟩, fun s m ho hb => execShiftAbort_busy ho hb,
    fun s hb hr ht => execShiftStepTimeout_expires hb (by rwa [if_neg hr]),
    fun s hb hr ht => execShiftStepTimeout_expires hb (by rwa [if_pos hr])⟩
  simpa only [State.okResp_drlBusy, State.okResp_drlStep, State.okResp_drl] using State.drlGone_fields hk

end

section
/-!
SUPPORT. Safety manager, safety inputs and outputs: what the commands answer when their condition holds (R389–R408).
-/
namespace Sys2Proof.Machine
namespace State

/-- A write that acknowledges, by the page's agent (R4, R112). -/
theorem ackPage_agent {s : State} {m : Master} {k : PageKind} {n : Nat} (a : Nat) (eff : State → State) (hg : s.isAgent m k n = true)
    (hr : s.on (hdr k n 0x08 0 1) = false) (h1 : k ≠ .ghd) (h2 : k ≠ .gld) : s.ackPage m k n a [] eff = (eff s).okResp :=
  ackPage_ok s m a eff (by rw [hg, Bool.or_true]) (srstHeld_false a hr) rfl (s.remoteDown_false n h1 h2)

/-- A block register of a page of which there is one, written with the right of R4 and against no rule. -/
theorem write_single {s : State} {m : Master} {k : PageKind} {a : Nat} {errs : List (Bool × ErrKind)} (eff : State → State)
    (hp : pageAt a = some (k, 0)) (ho : s.opens m k 0 = true) (he : errs.filter Prod.fst = []) (h1 : k ≠ .ghd := by decide)
    (h2 : k ≠ .gld := by decide) : s.write m a errs eff = (eff s).okResp :=
  write_ok s m eff hp ho he (s.remoteDown_false 0 h1 h2)

@[simp] theorem tookFree_opens (s : State) (m : Master) (k : PageKind) (n : Nat) : s.tookFree.opens m k n = s.opens m k n := rfl

end State

/-! ### Safety manager -/

theorem execHoldMaxExpiry_held {s : State} {g : Fin 12} (hs : s.gstate g = 3) (hk : s.fld (R.PG_STAT_SAFE_KIND g) = 4) :
    execHoldMaxExpiry g s = .next ((s.updSafe fun x => { x with speedAdded := bitSet x.speedAdded g }).evalJ2 (· == g.val)) :=
  congrArg Host.Outcome.next (if_pos (by rw [hs, hk]; rfl))

/-- An injection while no group is armed, so that none that it would reach is (R398). -/
theorem execFaultInject_unarmed {s : State} {m : Master} {l : Fin 128} (ho : s.opens m .saf 0 = true)
    (hr : State.reservedLine l = false) (ha : s.anyArmed = false) : execFaultInject m l 0x3C s =
    .next (((((s.tookFree.setFld R.SAF_INJ_LINE l).evt .saf 0 E.SAF_INJECTED).post 0x6100 locSaf l).raise l (s.injectGroups l)).okResp) := by
  have hnone : ∀ g ∈ List.range 12, s.armed g = false := by simpa [State.anyArmed] using ha
  have hit : ((List.range 12).any fun g => (s.pend l (s.injectGroups l)).affects l g && s.armed g) = false := by
    rw [List.any_eq_false]
    intro g hg
    rw [hnone g hg, Bool.and_false]
    decide
  unfold execFaultInject
  dsimp only
  rw [hr, hit, Bool.and_false, State.write_single (a := R.SAF_INJ) _ (by decide) ((s.tookFree_opens ..).trans ho) (by decide)]

/-! ### Safety inputs -/

theorem sioCtl_pageAt : (∀ n : Fin 8, pageAt (R.SIO_SI_CTL n) = some (.sio, 0)) ∧ ∀ k : Fin 4, pageAt (R.SIO_SO_CTL k) = some (.sio, 0) := by
  decide

theorem execSiDiscrepancy_differ {s : State} {n : Fin 8} (hm : s.on (R.SIO_SI_CFG_MODE n) = true) (hd : s.runA n ≠ s.runB n) :
    execSiDiscrepancy n s = .next ((s.opTo .sio 0).siFault n 1) :=
  congrArg Host.Outcome.next (if_pos (by rw [hm, bne_iff_ne.mpr hd]; rfl))

/-- The channel that source A feeds has not read LOW near the end of the pulse. -/
theorem execSiTestPulse_missedA {s : State} {n : Fin 8} (b : Bool) (ht : s.on R.SIO_TP_TP_EN = true)
    (hm : s.on (R.SIO_SI_CFG_MODE n) = true) (hd : s.detachingX1 = false) (ha : s.on (R.SIO_SI_CFG_TP_A n) = true) :
    execSiTestPulse n false false b s = .next (s.siFault n 2) := by
  unfold execSiTestPulse
  rw [ht, hm, hd, ha]
  rfl

theorem execSiReset_demand {s : State} {m : Master} {n : Fin 8} (ho : s.opens m .sio 0 = true) (ha : s.runA n = false)
    (hb : s.runB n = false) : execSiReset m n s =
    .next ((State.siUpdate (State.updSafe (((s.setFld (R.SIO_SI_STAT_FAULT n) 0).setFld (R.SIO_SI_STAT_CAUSE n) 0).setFld
      (R.SIO_SI_STAT_FIRST n) 0) fun x => { x with siDem := bitClr x.siDem n }) n).okResp) :=
  congrArg Host.Outcome.next (State.write_single _ (sioCtl_pageAt.1 n) ho (by rw [ha, hb]; rfl))

/-! ### Safety outputs -/

theorem execSoHighSideClose_wanted {s : State} {m : Fin 4} (hl : (s.so m).ls = true) (hh : (s.so m).hs = false)
    (ht : (s.so m).testing = 0) (hw : s.soWant m = true) :
    execSoHighSideClose m s = .next ((s.updSo m fun r => { r with hs := true, on := true }).soShow m) :=
  congrArg Host.Outcome.next (if_pos (by rw [hl, hh, ht, hw]; rfl))

/-- A test of an output that is on opens the tested switch (R406). -/
theorem execSoSwitchTest_on {s : State} {m : Fin 4} (low : Bool) (a b : Fin 3) (he : s.on (R.SIO_SO_CFG_TP_EN m) = true)
    (ht : (s.so m).testing = 0) (ho : (s.so m).on = true) : execSoSwitchTest m low a b s =
    .next ((s.updSo m fun r => { r with
      testing := if low then 2 else 1, hs := if low then r.hs else false, ls := if low then false else r.ls }).soShow m) := by
  unfold execSoSwitchTest
  dsimp only
  rw [he, ht, ho]
  rfl

/-- At the end of the test of the high side of an output that is on, the node must be at 0 V. -/
theorem execSoTestEnd_highOn {s : State} {m : Fin 4} (a b : Fin 3) (ht : (s.so m).testing = 1) (ho : (s.so m).on = true) :
    execSoTestEnd m a b s =
    .next ((((s.updSo m fun r => { r with testing := 0, hs := r.on, ls := r.on }).soShow m).soFound m 1 (a.val != 0) false).soUpdate m) := by
  unfold execSoTestEnd
  dsimp only
  rw [ht, ho, if_neg (by decide), if_pos rfl, if_pos rfl, Bool.and_true, Bool.not_true, Bool.and_false]
  rfl

theorem execSoOvercurrent_on {s : State} {m : Fin 4} (h : (s.so m).on = true) : execSoOvercurrent m s = .next (s.soFault m 6) :=
  congrArg Host.Outcome.next (if_pos h)

theorem execSoDegradeExpiry_degraded {s : State} {m : Fin 4} (h : s.on (R.SIO_SO_STAT_DEGRADED m) = true) :
    execSoDegradeExpiry m s = .next (s.soFault m 7) :=
  congrArg Host.Outcome.next (if_pos h)

theorem execSoReset_gone {s : State} {m : Master} {k : Fin 4} (ho : s.opens m .sio 0 = true) (hq : s.on (R.SIO_SO_STAT_REQ k) = false)
    (hc : s.soCausePresent k = false) (hd : s.on (R.SIO_SO_STAT_DEGRADED k) = false) : execSoReset m k s =
    .next ((((s.setFld (R.SIO_SO_STAT_FAULT k) 0).setFld (R.SIO_SO_STAT_CAUSE k) 0).soJudge k).soUpdate k).okResp := by
  unfold execSoReset
  rw [State.write_single _ (sioCtl_pageAt.2 k) ho (by rw [hq, hc, Bool.and_false]; rfl), hd, if_neg (by decide)]

end Sys2Proof.Machine
end

section
/-!
Safety manager, safety inputs and safety outputs: the commands complete.
-/
open Sys2Proof Sys2Proof.Machine

/-- Settles O23: each command by the lemma that says what it answers when its condition holds; the two acknowledging writes by the right of
the page's agent. -/
theorem safetyManagerCommandsComplete : Obligations.SafetyManagerCommandsComplete := by
  unfold Obligations.SafetyManagerCommandsComplete
  exact ⟨fun s l => exec_faultLineRaise l s,
    fun s m k v hg hr => congrArg Host.Outcome.next (State.ackPage_agent _ _ hg hr (by decide) (by decide)),
    fun s g hs hk => execHoldMaxExpiry_held hs hk,
    fun s m gs hg hr => congrArg Host.Outcome.next (State.ackPage_agent _ _ hg hr (by decide) (by decide)),
    fun s m l ho hr ha => execFaultInject_unarmed ho hr ha⟩

/-- Settles O24: each command by the lemma that says what it answers when its condition holds. -/
theorem safetyIoCommandsComplete : Obligations.SafetyIoCommandsComplete := by
  unfold Obligations.SafetyIoCommandsComplete
  exact ⟨fun s n a b => exec_safetyInputChange n a b false s, fun s n hm hd => execSiDiscrepancy_differ hm hd,
    fun s n b ht hm hd ha => execSiTestPulse_missedA b ht hm hd ha, fun s m n ho ha hb => execSiReset_demand ho ha hb,
    fun s m hl hh ht hw => execSoHighSideClose_wanted hl hh ht hw, fun s m a b he ht ho => execSoSwitchTest_on true a b he ht ho,
    fun s m a b he ht ho => execSoSwitchTest_on false a b he ht ho, fun s m a b ht ho => execSoTestEnd_highOn a b ht ho,
    fun s m ho => execSoOvercurrent_on ho, fun s m hd => execSoDegradeExpiry_degraded hd,
    fun s m k ho hq _ hc hd => execSoReset_gone ho hq hc hd⟩

end

section
/-!
SUPPORT. The registers that an evaluation of J2 and a post write lie in the pages of CAD, PG, SAF and SIO; every other register stays (R107,
R223, R389–R405).
-/
namespace Sys2Proof.Machine

/-- A register of none of the pages that J2 writes. -/
structure OffJ2 (a : Nat) : Prop where
  cad : a < PageKind.cad.base ∨ PageKind.tnd.base ≤ a
  pg : a < PageKind.pg.base ∨ PageKind.ghd.base ≤ a
  saf : a < PageKind.saf.base ∨ PageKind.ept.base ≤ a

namespace OffJ2

variable {a : Nat} (h : OffJ2 a)
include h

theorem ne_cad {b : Nat} (h1 : PageKind.cad.base ≤ b) (h2 : b < PageKind.tnd.base) : a ≠ b := by
  have := h.cad
  omega

theorem ne_pg {b : Nat} (h1 : PageKind.pg.base ≤ b) (h2 : b < PageKind.ghd.base) : a ≠ b := by
  have := h.pg
  omega

/-- The pages of SAF and SIO. -/
theorem ne_saf {b : Nat} (h1 : PageKind.saf.base ≤ b) (h2 : b < PageKind.ept.base) : a ≠ b := by
  have := h.saf
  omega

end OffJ2

namespace State

variable {a : Nat} (h : OffJ2 a)
include h

theorem post_rd_offJ2 (s : State) (code l d : Nat) : (s.post code l d).rd a = s.rd a :=
  rd_post s code l d (h.ne_cad (by decide) (by decide)) (h.ne_cad (by decide) (by decide))

theorem commandGroup_rd_offJ2 (s : State) {g : Nat} (kind : Nat) (hg : g < 12) : (s.commandGroup g kind).rd a = s.rd a := by
  have hevt : a ≠ PageKind.pg.page g + 0x10 := h.ne_pg (by simp only [PageKind.page, PageKind.base]; omega)
    (by simp only [PageKind.page, PageKind.base]; omega)
  have hstat : a ≠ R.PG_STAT g := h.ne_pg (by simp only [R.PG_STAT, PageKind.base]; omega)
    (by simp only [R.PG_STAT, PageKind.base]; omega)
  unfold commandGroup sendSafe
  dsimp only
  rw [post_rd_offJ2 h, evt_rd_ne _ _ _ _ (h.ne_saf (by decide) (by decide)), inc_rd_ne _ (h.ne_saf (by decide) (by decide)),
    sendSafeTo_rd, updGrp_rd, rd_setFld_ne _ _ hstat, rd_setFld_ne _ _ hstat]
  split
  · rfl
  · exact evt_rd_ne _ _ _ _ hevt

theorem evalGroup_rd_offJ2 (s : State) {g : Nat} (hg : g < 12) : (s.evalGroup g).rd a = s.rd a := by
  unfold evalGroup
  dsimp only
  split
  · split
    · exact commandGroup_rd_offJ2 h s _ hg
    · rfl
  · rfl

theorem evalJ2_rd_offJ2 (s : State) (p : Nat → Bool) : (s.evalJ2 p).rd a = s.rd a := by
  have hso : ∀ m ∈ List.range 4, a ≠ R.SIO_SO_STAT m := fun m hm => h.ne_saf
    ((by decide : ∀ m ∈ List.range 4, PageKind.saf.base ≤ R.SIO_SO_STAT m) m hm)
    ((by decide : ∀ m ∈ List.range 4, R.SIO_SO_STAT m < PageKind.ept.base) m hm)
  unfold evalJ2 updSafeReg
  rw [each_rd _ _ fun t m hm => soUpdate_rd_ne t m (hso m hm), rd_setFld_ne _ _ (h.ne_saf (by decide) (by decide)),
    rd_setFld_ne _ _ (h.ne_saf (by decide) (by decide)),
    each_rd _ _ fun t g hg => evalGroup_rd_offJ2 h t (List.mem_range.mp (List.mem_filter.mp hg).1)]

theorem pend_rd_offJ2 (s : State) {k : Nat} (own : Nat) (hk : k < 128) : (s.pend k own).rd a = s.rd a := by
  have hpend : a ≠ (pendFld k).addr := h.ne_saf (by simp only [pendFld, R.SAF_PEND, PageKind.base]; omega)
    (by simp only [pendFld, R.SAF_PEND, PageKind.base]; omega)
  have hlast : a ≠ R.SAF_LAST := h.ne_saf (by decide) (by decide)
  unfold pend
  dsimp only
  rw [rd_setFld_ne _ _ hlast, rd_setFld_ne _ _ hlast, rd_setFld_ne _ _ hlast, updSafe_rd, rd_setFld_ne _ _ hpend]

/-- There are 128 fault lines (R389). -/
theorem raiseAll_rd_offJ2 (s : State) {l : List (Nat × Nat)} (hl : ∀ p ∈ l, p.1 < 128) : (s.raiseAll l).rd a = s.rd a := by
  unfold raiseAll
  dsimp only
  split
  · rfl
  · rw [evalJ2_rd_offJ2 h, foldl_rd _ l fun t p hp => pend_rd_offJ2 h t p.2 (hl p hp), updSafe_rd, holdDue_rd]

theorem raise_rd_offJ2 (s : State) {k : Nat} (own : Nat) (hk : k < 128) : (s.raise k own).rd a = s.rd a :=
  raiseAll_rd_offJ2 h s (by simpa using hk)

end State
end Sys2Proof.Machine
end

section
/-!
SUPPORT. Fields by their bits: two fields that share no bit number never overlap, whatever their registers, and a field that fits its
register reads what was written. Both conditions are tests that compute, also for a unit that is a variable.
-/
namespace Sys2Proof.Machine

/-- The field lies within the 32 bits of a register. -/
def Fld.fits (f : Fld) : Bool := Nat.ble (f.lo + f.w) 32

/-- The field `f` fits its register and lies above or below the bits of `g`. -/
def Fld.apart (f g : Fld) : Bool := f.fits && (Nat.ble (f.lo + f.w) g.lo || Nat.ble (g.lo + g.w) f.lo)

namespace State

theorem fld_setFld_fits (s : State) {f : Fld} (v : Nat) (h : f.fits = true) : (s.setFld f v).fld f = v % 2 ^ f.w :=
  fld_setFld s v (Nat.le_of_ble_eq_true h)

theorem fld_setFld_bits (s : State) {f g : Fld} (v : Nat) (h : f.apart g = true) : (s.setFld f v).fld g = s.fld g := by
  simp only [Fld.apart, Fld.fits, Bool.and_eq_true, Bool.or_eq_true, Nat.ble_eq] at h
  obtain ⟨hfits, hbits⟩ := h
  exact fld_setFld_apart s v hfits (.inr hbits)

theorem fld_setFld_ne (s : State) {f g : Fld} (v : Nat) (h : g.addr ≠ f.addr) : (s.setFld f v).fld g = s.fld g :=
  fld_of_rd (rd_setFld_ne s v h)

theorem on_setFld_fits (s : State) {f : Fld} (v : Nat) (h : f.fits = true) : (s.setFld f v).on f = (v % 2 ^ f.w != 0) := by
  unfold on
  rw [fld_setFld_fits s v h]

theorem on_setFld_bits (s : State) {f g : Fld} (v : Nat) (h : f.apart g = true) : (s.setFld f v).on g = s.on g := by
  unfold on
  rw [fld_setFld_bits s v h]

theorem on_of_rd {s t : State} {f : Fld} (h : t.rd f.addr = s.rd f.addr) : t.on f = s.on f := by
  unfold on
  rw [fld_of_rd h]

/-- Any field is less than what its width can hold. -/
theorem fld_lt (s : State) (f : Fld) : s.fld f < 2 ^ f.w := getBits_lt ..

end State
end Sys2Proof.Machine
end

section
/-!
SUPPORT. The Tandem pairs: what events, posts and fault lines leave of the page's block registers, what an operation leaves of a pair's
registers and record, and what the commands answer when their condition holds (R424–R437).
-/
namespace Sys2Proof.Machine

/-- A register of the TND page other than its event and fault flags (R107, R110). -/
def TndReg (a : Nat) : Prop := PageKind.tnd.base ≤ a ∧ a < PageKind.tnd.base + 0x1000 ∧ a ≠ PageKind.tnd.page 0 + 0x10 ∧
  a ≠ PageKind.tnd.page 0 + 0x1C

theorem TndReg.offJ2 {a : Nat} (h : TndReg a) : OffJ2 a := by
  obtain ⟨hlo, hhi, -, -⟩ := h
  simp only [PageKind.base] at hlo hhi
  constructor <;> simp only [PageKind.base] <;> omega

theorem tndReg_stat (p : Fin 2) : TndReg (R.TND_STAT p) := by
  revert p
  unfold TndReg
  decide

theorem tndReg_mm (p : Fin 2) : TndReg (R.TND_MM p) := by
  revert p
  unfold TndReg
  decide

theorem tndReg_mmAddr (p : Fin 2) : TndReg (R.TND_MMADDR p) := by
  revert p
  unfold TndReg
  decide

theorem tndReg_opTo : TndReg (PageKind.tnd.page 0 + 0x28) := by
  unfold TndReg
  decide

/-- The registers that record a mismatch lie apart from each other, from the pairs' states and from TND_DBG. -/
theorem tndRegs_apart (p q : Fin 2) : R.TND_MM p ≠ R.TND_STAT q ∧ R.TND_MMADDR p ≠ R.TND_STAT q ∧ R.TND_MM p ≠ R.TND_MMADDR q ∧
    R.TND_MM p ≠ R.TND_DBG ∧ R.TND_MMADDR p ≠ R.TND_DBG := by
  revert p q
  decide

/-- A pair's state lies apart from TND_DBG and from the counters. -/
theorem tndStat_apart (p q : Fin 2) : R.TND_STAT p ≠ R.TND_DBG ∧ R.TND_STAT p ≠ R.TND_CNT q := by
  revert p q
  decide

theorem tndStat_apart_opTo (p : Fin 2) : PageKind.tnd.page 0 + 0x28 ≠ R.TND_STAT p := by
  revert p
  decide

theorem tndCtl_pageAt (p : Fin 2) : pageAt (R.TND_CTL p) = some (.tnd, 0) := by
  revert p
  decide

namespace State

/-! ### Registers -/

section TndReg

variable {a : Nat} (h : TndReg a)
include h

theorem evt_rd_tnd (s : State) (b : Nat) : (s.evt .tnd 0 b).rd a = s.rd a := evt_rd_ne s _ _ _ h.2.2.1

theorem post_rd_tnd (s : State) (code l d : Nat) : (s.post code l d).rd a = s.rd a := post_rd_offJ2 h.offJ2 s code l d

/-- The flag, the event and the line of a pair's cause. -/
theorem pairLine_rd_tnd (s : State) {p : Nat} (code l d : Nat) (hp : p < 2) :
    (((s.flt .tnd 0 (F.TND_PAIR_FAULT + p)).post code l d).raise (26 + p) allGroups).rd a = s.rd a := by
  rw [raise_rd_offJ2 h.offJ2 _ _ (by omega), post_rd_tnd h, flt_rd_ne _ _ _ _ h.2.2.2]

end TndReg

/-- A cause changes no register of the page but the field that names it. -/
theorem pairCause_fld (s : State) (p : Fin 2) (cause kind : Nat) {f : Fld} (h : TndReg f.addr)
    (ha : f.addr ≠ R.TND_STAT p ∨ 11 ≤ f.lo ∨ f.lo + f.w ≤ 8) : (s.pairCause p cause kind).fld f = s.fld f := by
  unfold pairCause
  rw [fld_of_rd (pairLine_rd_tnd h _ _ _ _ p.isLt), fld_setFld_apart s cause (by exact Nat.le_of_ble_eq_true rfl) (by exact ha)]

theorem showDbg_rd_ne (s : State) (p : Nat) {a : Nat} (h : a ≠ R.TND_DBG) : (s.showDbg p).rd a = s.rd a := by
  have hreplay : (if p = 0 then R.TND_DBG_REPLAY_TA else R.TND_DBG_REPLAY_TB).addr = R.TND_DBG := by
    split <;> rfl
  unfold showDbg
  dsimp only
  rw [rd_setFld_ne _ _ h, rd_setFld_ne _ _ (hreplay ▸ h)]

/-! ### A pair's record -/

@[simp] theorem tndRec_updTnd (s : State) (p : Nat) (f : TndRec → TndRec) : (s.updTnd p f).tndRec p = f (s.tndRec p) :=
  Store.read_write_same ..

theorem tndRec_congr {s t : State} (h : t.tnd = s.tnd) (p : Nat) : t.tndRec p = s.tndRec p := by
  unfold tndRec
  rw [h]

theorem post_tndRec (s : State) (code l d p : Nat) : (s.post code l d).tndRec p = s.tndRec p :=
  tndRec_congr ((s.post_within (P := (· != .tnd)) code l d rfl rfl rfl).same .tnd rfl) p

@[simp] theorem setFld_tndRec (s : State) (f : Fld) (v p : Nat) : (s.setFld f v).tndRec p = s.tndRec p := rfl

/-! ### A mismatch (R428) -/

/-- What a mismatch records before the pair goes to ASSAY. -/
def mismatchRecord (s : State) (p kind word : Nat) (addr : Word) (write : Bool) : State :=
  (((((s.setFld (R.TND_MM_KIND p) kind).setFld (R.TND_MM_WORD p) word).setFld (R.TND_MM_WRITE p) (b2n write)).wr (R.TND_MMADDR p)
    addr).setFld (R.TND_STAT_HALTED p) 0).updTnd p fun t => { t with requested := false, foldDue := false, copying := false, replay := [] }

theorem mismatch_eq (s : State) (p kind word : Nat) (addr : Word) (write : Bool) : s.mismatch p kind word addr write =
    (((s.mismatchRecord p kind word addr write).setPair p 4).showDbg p).pairCause p (if kind = 2 then 2 else 1) kind := rfl

theorem mismatchRecord_fields (s : State) (p : Fin 2) {kind : Nat} (word : Nat) (addr : Word) (write : Bool) (hk : kind < 4) :
    (s.mismatchRecord p kind word addr write).fld (R.TND_MM_KIND p) = kind ∧
    (s.mismatchRecord p kind word addr write).rd (R.TND_MMADDR p) = addr ∧
    (s.mismatchRecord p kind word addr write).fld (R.TND_MM_WRITE p) = b2n write := by
  obtain ⟨hmm, haddr, hmmAddr, -⟩ := tndRegs_apart p p
  have hrd : (s.mismatchRecord p kind word addr write).rd (R.TND_MM p) =
      (((s.setFld (R.TND_MM_KIND p) kind).setFld (R.TND_MM_WORD p) word).setFld (R.TND_MM_WRITE p) (b2n write)).rd (R.TND_MM p) := by
    unfold mismatchRecord
    rw [updTnd_rd, rd_setFld_ne _ _ hmm, rd_wr_ne _ _ hmmAddr]
  refine ⟨?_, ?_, ?_⟩
  · rw [fld_of_rd (f := R.TND_MM_KIND p) hrd]
    rw [fld_setFld_bits _ _ rfl, fld_setFld_bits _ _ rfl, fld_setFld_fits _ _ rfl]
    exact Nat.mod_eq_of_lt hk
  · unfold mismatchRecord
    rw [updTnd_rd, rd_setFld_ne _ _ haddr, rd_wr]
  · rw [fld_of_rd (f := R.TND_MM_WRITE p) hrd, fld_setFld_fits _ _ rfl]
    cases write <;> rfl

theorem setPair_pairState (s : State) (p : Fin 2) {v : Nat} (h : v < 16) : (s.setPair p v).pairState p = v := by
  unfold pairState setPair
  rw [fld_setFld_fits _ _ rfl]
  exact Nat.mod_eq_of_lt h

theorem showDbg_pairState (s : State) (p q : Fin 2) : (s.showDbg q).pairState p = s.pairState p :=
  fld_of_rd (s.showDbg_rd_ne q (tndStat_apart p p).1)

theorem pairCause_pairState (s : State) (p : Fin 2) (cause kind : Nat) : (s.pairCause p cause kind).pairState p = s.pairState p :=
  pairCause_fld s p cause kind (tndReg_stat p) (.inr (.inr (Nat.le_of_ble_eq_true rfl)))

theorem mismatch_fields (s : State) (p : Fin 2) {kind : Nat} (word : Nat) (addr : Word) (write : Bool) (hk : kind < 4) :
    (s.mismatch p kind word addr write).pairState p = 4 ∧ (s.mismatch p kind word addr write).fld (R.TND_MM_KIND p) = kind ∧
    (s.mismatch p kind word addr write).rd (R.TND_MMADDR p) = addr ∧
    (s.mismatch p kind word addr write).fld (R.TND_MM_WRITE p) = b2n write := by
  obtain ⟨hkind, haddr, hwrite⟩ := s.mismatchRecord_fields p word addr write hk
  obtain ⟨hmm, hmmAddr, -, hmmDbg, hmmAddrDbg⟩ := tndRegs_apart p p
  have hkept : ∀ {a : Nat}, TndReg a → a ≠ R.TND_STAT p → a ≠ R.TND_DBG →
      (s.mismatch p kind word addr write).rd a = (s.mismatchRecord p kind word addr write).rd a := fun h hs hd => by
    rw [mismatch_eq, pairCause, pairLine_rd_tnd h _ _ _ _ p.isLt, rd_setFld_ne _ _ hs, showDbg_rd_ne _ _ hd, setPair,
      rd_setFld_ne _ _ hs]
  refine ⟨?_, (fld_of_rd (hkept (tndReg_mm p) hmm hmmDbg)).trans hkind, (hkept (tndReg_mmAddr p) hmmAddr hmmAddrDbg).trans haddr,
    (fld_of_rd (hkept (tndReg_mm p) hmm hmmDbg)).trans hwrite⟩
  rw [mismatch_eq, pairCause_pairState, showDbg_pairState, setPair_pairState _ _ (by decide)]

/-! ### A verdict (R430) -/

/-- A verdict shown, flagged and posted. -/
def verdictShown (s : State) (p v blk mac : Nat) : State :=
  ((s.setFld (R.TND_STAT_VERDICT p) v).evt .tnd 0 (E.TND_VERDICT + p)).post 0x6110 (locTnd p blk mac) (p + v * 16)

theorem verdictShown_fields (s : State) (p : Fin 2) {v : Nat} (blk mac : Nat) (hv : v < 8) :
    (s.verdictShown p v blk mac).fld (R.TND_STAT_VERDICT p) = v ∧
    ∀ {a : Nat}, TndReg a → a ≠ R.TND_STAT p → (s.verdictShown p v blk mac).rd a = s.rd a := by
  have hrd : ∀ {a : Nat}, TndReg a → (s.verdictShown p v blk mac).rd a = (s.setFld (R.TND_STAT_VERDICT p) v).rd a := fun h => by
    unfold verdictShown
    rw [post_rd_tnd h, evt_rd_tnd h]
  refine ⟨?_, fun h hne => (hrd h).trans (rd_setFld_ne _ _ hne)⟩
  rw [fld_of_rd (f := R.TND_STAT_VERDICT p) (hrd (tndReg_stat p)), fld_setFld_fits _ _ rfl]
  exact Nat.mod_eq_of_lt hv

/-- Both cores fail, or Assay did not complete: the pair stays stopped. -/
theorem verdict_stops (s : State) (p blk mac : Nat) {v : Nat} (h : v = 4 ∨ v = 6) :
    s.verdict p v blk mac = (s.verdictShown p v blk mac).stopPair p := by
  rcases h with rfl | rfl <;> rfl

theorem restartPair_fields (s : State) (p : Fin 2) (target : Nat) : (s.restartPair p target).pairState p = 5 ∧
    ((s.restartPair p target).tndRec p).target = target ∧
    (s.restartPair p target).fld (R.TND_STAT_VERDICT p) = s.fld (R.TND_STAT_VERDICT p) := by
  unfold restartPair
  refine ⟨s.setPair_pairState p (by decide), ?_, ?_⟩
  · rw [tndRec_updTnd]
  · rw [updTnd_fld, setPair, fld_setFld_bits _ _ rfl]

theorem stopPair_fields (s : State) (p : Fin 2) : (s.stopPair p).pairState p = 8 ∧
    (s.stopPair p).fld (R.TND_STAT_VERDICT p) = s.fld (R.TND_STAT_VERDICT p) ∧
    ∀ {a : Nat}, TndReg a → a ≠ R.TND_STAT p → (s.stopPair p).rd a = s.rd a := by
  unfold stopPair
  refine ⟨?_, ?_, fun h hne => ?_⟩
  · rw [pairCause_pairState, setPair_pairState _ _ (by decide)]
  · rw [pairCause_fld _ _ _ _ (tndReg_stat p) (.inr (.inr (Nat.le_of_ble_eq_true rfl)))]
    exact fld_setFld_bits _ _ rfl
  · rw [pairCause, pairLine_rd_tnd h _ _ _ _ p.isLt, rd_setFld_ne _ _ hne, setPair, rd_setFld_ne _ _ hne]

/-! ### The ends of a restart, a split and a rejoin (R431, R435, R437) -/

/-- A restarted pair in its next state, COMPARE and FOLD being over as causes. -/
def restarted (s : State) (p t : Nat) : State :=
  (if (s.setPair p t).fld (R.TND_STAT_CAUSE p) < 3 then (s.setPair p t).setFld (R.TND_STAT_CAUSE p) 0 else s.setPair p t).updTnd p
    fun r => { r with requested := false }

theorem restarted_pairState (s : State) (p : Fin 2) {t : Nat} (ht : t < 16) : (s.restarted p t).pairState p = t := by
  refine Eq.trans ?_ (s.setPair_pairState p ht)
  unfold restarted pairState
  rw [updTnd_fld]
  split
  · exact fld_setFld_bits _ _ rfl
  · rfl

theorem setPair_kept (s : State) (p : Fin 2) {v : Nat} (hv : v < 16) {t : State}
    (h : t.rd (R.TND_STAT p) = (s.setPair p v).rd (R.TND_STAT p)) : t.pairState p = v :=
  (fld_of_rd (f := R.TND_STAT_STATE p) h).trans (s.setPair_pairState p hv)

end State

/-! ### The commands -/

section

variable {s : State} {m : Master} {p : Fin 2}

theorem execGateMismatch_compared (a : Word) (w : Bool) (hj : s.joined p = true) (hh : s.on (R.TND_STAT_HALTED p) = false) :
    execGateMismatch p a w none s = .next (s.mismatch p 1 0 a w) := congrArg Host.Outcome.next (if_pos (by rw [hj, hh]; rfl))

/-- A fold of a pair that compares and runs (R426). -/
theorem execStateFold_runs (d : Option (Fin 100)) (hj : s.joined p = true) (hh : s.on (R.TND_STAT_HALTED p) = false) :
    execStateFold p d s = .next (s.fold p d) := by
  unfold execStateFold
  rw [hj, hh]
  rfl

theorem execFoldRequest_joined (ho : s.opens m .tnd 0 = true) (hp : s.pairState p = 0) :
    execFoldRequest m p s = .next ((s.updTnd p fun t => { t with foldDue := true }).okResp) := by
  unfold execFoldRequest
  rw [State.write_single _ (tndCtl_pageAt p) ho rfl, if_pos hp]

/-- A wrong bit in a cache of a main core that runs: it is corrected and counted (R427). -/
theorem execCacheEccError_mainSingle (d : Bool) (hp : s.pairState p < 4) : execCacheEccError p false d false s =
    .next ((s.inc (R.TND_ECC_CE_MAIN p)).post 0x1113 (locTnd p 1 (1 + b2n d)) (p + b2n d * 32)) := by
  unfold execCacheEccError
  dsimp only
  rw [if_neg (by simp; omega)]
  simp [b2n]

/-- Two wrong bits in a cache of a pair that compares are a mismatch (R427). -/
theorem execCacheEccError_joinedDouble (d : Bool) (hj : s.joined p = true) :
    execCacheEccError p false d true s = .next (s.mismatch p 2 0x7F 0 false) := by
  have hp : s.pairState p < 2 := by simpa [State.joined] using hj
  unfold execCacheEccError
  dsimp only
  rw [if_neg (by simp; omega), if_neg (by decide), if_pos hj]

theorem execAssayTimeout_assay (hp : s.pairState p = 4) : execAssayTimeout p s = .next ((s.opTo .tnd 0).verdict p 6 3 0x3F) :=
  congrArg Host.Outcome.next (if_pos hp)

theorem execRestartFetch_restarting (hp : s.pairState p = 5) : execRestartFetch p s = .next (if (s.tndRec p).target = 0 then
      (s.restarted p (s.tndRec p).target).setFld (R.TND_STAT_CHK_PARKED p) 0
    else (s.restarted p (s.tndRec p).target).setFld (R.TND_STAT_SC_LEFT p)
      ((s.restarted p (s.tndRec p).target).fld (R.TND_CFG_SC_MAX p))) := congrArg Host.Outcome.next (if_pos hp)

theorem execAssayRequest_idle (ho : s.opens m .tnd 0 = true) (ha : s.allOff = true) (hp : s.pairState p = 0) : execAssayRequest m p s =
    .next (((s.setFld (R.TND_STAT_STATE p) 4).updTnd p fun t => { t with requested := true }).okResp) :=
  congrArg Host.Outcome.next (State.write_single _ (tndCtl_pageAt p) ho (by rw [ha, hp]; rfl))

/-- A split of the pair TA; that of TB has a further condition (R435). -/
theorem execSplitRequest_ta (ho : s.opens m .tnd 0 = true) (hl : s.lockOpen .tnd 0 = true) (ha : s.allOff = true) (hp : s.pairState 0 = 0) :
    execSplitRequest m 0 s = .next ((s.setFld (R.TND_STAT_STATE 0) 1).okResp) := by
  have hp : s.pairState (0 : Fin 2) = 0 := hp
  unfold execSplitRequest
  rw [hl, if_neg (by decide), State.write_single _ (tndCtl_pageAt 0) ho (by rw [hp, ha]; rfl)]
  rfl

/-- A split whose final fold agrees is complete. -/
theorem execSplitSync_agrees (hp : s.pairState p = 1) : ∃ t, execSplitSync p none s = .next t ∧ t.pairState p = 2 := by
  refine ⟨_, congrArg Host.Outcome.next (if_pos hp), (s.fold p none).setPair_kept p (by decide) ?_⟩
  dsimp only
  rw [State.post_rd_tnd (tndReg_stat p), State.evt_rd_tnd (tndReg_stat p), State.inc_rd_ne _ (tndStat_apart p p).2]

theorem execRejoinRequest_split (ho : s.opens m .tnd 0 = true) (hp : s.pairState p = 2) : execRejoinRequest m p s =
    .next (((s.setFld (R.TND_STAT_STATE p) 3).setFld (R.TND_STAT_CHK_PARKED p) 1).okResp) :=
  congrArg Host.Outcome.next (State.write_single _ (tndCtl_pageAt p) ho (by rw [hp]; rfl))

/-- A rejoin whose fold agrees ends with the pair joined and its checker running. -/
theorem execRejoinCopyDone_agrees (hp : s.pairState p = 3) (hc : (s.tndRec p).copying = true) :
    ∃ t, execRejoinCopyDone p none s = .next t ∧ t.pairState p = 0 ∧ t.on (R.TND_STAT_CHK_PARKED p) = false := by
  have hkept : ∀ (u : State) (code l d b : Nat), ((u.evt .tnd 0 b).post code l d).rd (R.TND_STAT p) = u.rd (R.TND_STAT p) :=
    fun u code l d b => (State.post_rd_tnd (tndReg_stat p) ..).trans (State.evt_rd_tnd (tndReg_stat p) ..)
  refine ⟨_, congrArg Host.Outcome.next (if_pos ⟨hp, hc⟩), ?_, ?_⟩
  · dsimp only
    unfold State.pairState
    rw [if_neg (by decide), State.fld_of_rd (f := R.TND_STAT_STATE p) (hkept ..), State.updTnd_fld, State.fld_setFld_bits _ _ rfl]
    exact State.setPair_pairState _ p (by decide)
  · dsimp only
    rw [if_neg (by decide), State.on_of_rd (f := R.TND_STAT_CHK_PARKED p) (hkept ..), State.updTnd_on, State.on_setFld_fits _ _ rfl]
    rfl

end

end Sys2Proof.Machine
end

section
/-!
Tandem pairs: the commands complete.
-/
open Sys2Proof Sys2Proof.Machine

/-- Settles O26: each command by the lemma that says what it answers when its condition holds; a mismatch, a verdict and a restart by the
registers and the record that they leave of the pair, which no post and no fault line changes. -/
theorem tandemCommandsComplete : Obligations.TandemCommandsComplete := by
  unfold Obligations.TandemCommandsComplete
  refine ⟨fun s p a w hj hh => ⟨_, execGateMismatch_compared a w hj hh, s.mismatch_fields p 0 a w (by decide)⟩,
    fun s p hj hh => execStateFold_runs none hj hh, fun s p d hj hh => execStateFold_runs (some d) hj hh,
    fun s m p ho hp => execFoldRequest_joined ho hp, fun s p d hp => execCacheEccError_mainSingle d hp,
    fun s p d hj => execCacheEccError_joinedDouble d hj, fun s p hp => congrArg Host.Outcome.next (if_pos hp),
    fun s p x hp => ⟨_, congrArg Host.Outcome.next (if_pos hp), ?_⟩, fun s p x hp => ⟨_, congrArg Host.Outcome.next (if_pos hp), ?_⟩,
    fun s p x y hp => ⟨_, congrArg Host.Outcome.next (if_pos hp), ?_⟩, fun s p hp => ⟨_, execAssayTimeout_assay hp, ?_⟩,
    fun s p hp ht => ⟨_, execRestartFetch_restarting hp, ?_⟩, fun s p hp hl => congrArg Host.Outcome.next (if_pos ⟨hp, hl⟩),
    fun s p hp hl => congrArg Host.Outcome.next (if_pos ⟨hp, hl⟩), fun s m p ho ha hp => execAssayRequest_idle ho ha hp,
    fun s m ho hl ha hp => execSplitRequest_ta ho hl ha hp, fun s p hp => execSplitSync_agrees hp,
    fun s p hp => congrArg Host.Outcome.next (if_pos hp), fun s m p ho hp => execRejoinRequest_split ho hp,
    fun s p hp => congrArg Host.Outcome.next (if_pos hp), fun s p hp hc => execRejoinCopyDone_agrees hp hc,
    fun s p hp => congrArg Host.Outcome.next (if_pos hp)⟩
  · obtain ⟨hstate, htarget, hverdict⟩ := (s.verdictShown p 2 1 x).restartPair_fields p 7
    exact ⟨hstate, htarget, hverdict.trans (s.verdictShown_fields p 1 x (by decide)).1⟩
  · obtain ⟨hstate, htarget, hverdict⟩ := (s.verdictShown p 3 2 x).restartPair_fields p 6
    exact ⟨hstate, htarget, hverdict.trans (s.verdictShown_fields p 2 x (by decide)).1⟩
  · obtain ⟨hstate, hverdict, -⟩ := (s.verdictShown p 4 1 x).stopPair_fields p
    exact ⟨hstate, hverdict.trans (s.verdictShown_fields p 1 x (by decide)).1⟩
  · obtain ⟨hstate, hverdict, hkept⟩ := ((s.opTo .tnd 0).verdictShown p 6 3 0x3F).stopPair_fields p
    obtain ⟨hshown, hshownKept⟩ := (s.opTo .tnd 0).verdictShown_fields p 3 0x3F (v := 6) (by decide)
    rw [State.verdict_stops _ _ _ _ (.inr rfl)]
    refine ⟨hstate, hverdict.trans hshown, ?_⟩
    rw [State.on_of_rd (f := hdr .tnd 0 0x28 1 1)
      ((hkept tndReg_opTo (tndStat_apart_opTo p)).trans (hshownKept tndReg_opTo (tndStat_apart_opTo p)))]
    exact State.on_setFld_fits _ _ rfl
  · have hkept := s.restarted_pairState p ht
    split
    · exact (State.fld_setFld_bits _ _ rfl).trans hkept
    · exact (State.fld_setFld_bits _ _ rfl).trans hkept

end

section
/-!
SUPPORT. The debugger: what a halt, a resume and the end of debug leave of the pairs' registers (R439–R441, R504).
-/
namespace Sys2Proof.Machine

theorem tndReg_ne (p q : Fin 2) : (p ≠ q → R.TND_STAT p ≠ R.TND_STAT q) ∧ R.SEC_DBG_CTL ≠ R.TND_STAT q ∧ R.SEC_DBG_CTL ≠ R.TND_DBG ∧
    R.SEC_DBG_CTL ≠ R.TND_CNT q := by
  revert p q
  decide

theorem secDbg_offJ2 : OffJ2 R.SEC_DBG_CTL := by
  constructor <;> decide

theorem secDbg_pageAt : pageAt R.SEC_DBG_CTL = some (.sec, 0) := by decide

namespace State

theorem fold_none_rd (s : State) (p : Nat) {a : Nat} (h : a ≠ R.TND_CNT p) : (s.fold p none).rd a = s.rd a := by
  unfold fold
  dsimp only
  rw [updTnd_rd, inc_rd_ne _ h]

/-- A halt's cause comes and goes without a change of the pair's other fields. -/
theorem tndClock_halted (s : State) (p : Fin 2) : (s.tndClock p).on (R.TND_STAT_HALTED p) = s.on (R.TND_STAT_HALTED p) := by
  unfold tndClock
  dsimp only
  split
  · exact congrArg (· != 0) (pairCause_fld s p 5 0 (tndReg_stat p) (.inr (.inl (Nat.le_of_ble_eq_true rfl))))
  · split
    · exact on_setFld_bits _ _ rfl
    · rfl

theorem haltPair_halted (s : State) (p : Fin 2) : (s.haltPair p none).on (R.TND_STAT_HALTED p) = true := by
  have hshown : (((s.setFld (R.TND_STAT_HALTED p) 1).showDbg p).post 0x4110 (locTnd p 3 0x3F) (p + 16)).on (R.TND_STAT_HALTED p) =
      true := by
    rw [on_of_rd (f := R.TND_STAT_HALTED p) ((post_rd_tnd (tndReg_stat p) ..).trans (showDbg_rd_ne _ _ (tndStat_apart p p).1)),
      on_setFld_fits _ _ rfl]
    rfl
  unfold haltPair
  rw [tndClock_halted]
  split
  · exact (on_of_rd (f := R.TND_STAT_HALTED p) (fold_none_rd _ _ (tndStat_apart p p).2)).trans hshown
  · exact hshown

/-- A resumed pair, before its fold (R440). -/
def released (s : State) (p : Nat) : State :=
  (((s.updTnd p fun t => { t with replay := [] }).setFld (R.TND_STAT_HALTED p) 0).showDbg p).post 0x4110 (locTnd p 3 0x3F) p

theorem released_halted (s : State) (p : Fin 2) : (s.released p).on (R.TND_STAT_HALTED p) = false := by
  unfold released
  rw [on_of_rd (f := R.TND_STAT_HALTED p) ((post_rd_tnd (tndReg_stat p) ..).trans (showDbg_rd_ne _ _ (tndStat_apart p p).1)),
    on_setFld_fits _ _ rfl]
  rfl

theorem released_replay (s : State) (p : Nat) : ((s.released p).tndRec p).replay = [] := by
  unfold released showDbg
  rw [post_tndRec, setFld_tndRec, setFld_tndRec, setFld_tndRec, tndRec_updTnd]

theorem released_rd_ne (s : State) (p : Fin 2) {a : Nat} (h : OffJ2 a) (hs : a ≠ R.TND_STAT p) (hd : a ≠ R.TND_DBG) :
    (s.released p).rd a = s.rd a := by
  unfold released
  rw [post_rd_offJ2 h, showDbg_rd_ne _ _ hd, rd_setFld_ne _ _ hs, updTnd_rd]

/-- A pair that is not halted has no cause of a halt. -/
theorem tndClock_running (s : State) {p : Nat} (h : s.on (R.TND_STAT_HALTED p) = false) :
    s.tndClock p = s ∨ s.tndClock p = s.setFld (R.TND_STAT_CAUSE p) 0 := by
  unfold tndClock
  dsimp only
  rw [h, if_neg (by rw [Bool.false_and, Bool.false_and]; decide)]
  split
  · exact .inr rfl
  · exact .inl rfl

theorem resumePair_none (s : State) (p : Fin 2) : ∃ t, (t = s.released p ∨ t = (s.released p).setFld (R.TND_STAT_CAUSE p) 0) ∧
    s.resumePair p none = if t.pairState p = 0 then t.fold p none else t :=
  ⟨_, tndClock_running _ (s.released_halted p), rfl⟩

theorem resumePair_fields (s : State) (p : Fin 2) : (s.resumePair p none).on (R.TND_STAT_HALTED p) = false ∧
    ((s.resumePair p none).tndRec p).replay = [] := by
  obtain ⟨t, ht, heq⟩ := s.resumePair_none p
  have hhalted : t.on (R.TND_STAT_HALTED p) = false := by
    rcases ht with rfl | rfl
    · exact s.released_halted p
    · rw [on_setFld_bits _ _ rfl, s.released_halted p]
  have hreplay : (t.tndRec p).replay = [] := by
    rcases ht with rfl | rfl <;> exact s.released_replay p
  rw [heq]
  split
  · refine ⟨(on_of_rd (f := R.TND_STAT_HALTED p) (fold_none_rd _ _ (tndStat_apart p p).2)).trans hhalted, ?_⟩
    unfold fold
    dsimp only
    rw [tndRec_updTnd]
    exact hreplay
  · exact ⟨hhalted, hreplay⟩

theorem resumePair_rd_ne (s : State) (p : Fin 2) {a : Nat} (h : OffJ2 a) (hs : a ≠ R.TND_STAT p) (hd : a ≠ R.TND_DBG)
    (hc : a ≠ R.TND_CNT p) : (s.resumePair p none).rd a = s.rd a := by
  obtain ⟨t, ht, heq⟩ := s.resumePair_none p
  have hrd : t.rd a = s.rd a := by
    rcases ht with rfl | rfl
    · exact s.released_rd_ne p h hs hd
    · rw [rd_setFld_ne _ _ hs, s.released_rd_ne p h hs hd]
  rw [heq]
  split
  · exact (fold_none_rd _ _ hc).trans hrd
  · exact hrd

/-- At the end of debug a halted pair resumes. -/
def resumeHalted (s : State) (p : Nat) : State := if s.on (R.TND_STAT_HALTED p) then s.resumePair p none else s

theorem resumeHalted_halted (s : State) (p : Fin 2) : (s.resumeHalted p).on (R.TND_STAT_HALTED p) = false := by
  unfold resumeHalted
  split
  case isTrue => exact (s.resumePair_fields p).1
  case isFalse h => exact Bool.eq_false_iff.mpr h

theorem resumeHalted_rd_ne (s : State) (p : Fin 2) {a : Nat} (h : OffJ2 a) (hs : a ≠ R.TND_STAT p) (hd : a ≠ R.TND_DBG)
    (hc : a ≠ R.TND_CNT p) : (s.resumeHalted p).rd a = s.rd a := by
  unfold resumeHalted
  split
  · exact s.resumePair_rd_ne p h hs hd hc
  · rfl

theorem debugClose_opened {s : State} (h : s.on R.SEC_DBG_CTL_OPENED = true) : s.debugClose =
    (((s.setFld R.SEC_DBG_CTL_OPENED 0).resumeHalted (0 : Fin 2)).resumeHalted (1 : Fin 2)).post 0x4005 locSec
      ((((s.setFld R.SEC_DBG_CTL_OPENED 0).resumeHalted (0 : Fin 2)).resumeHalted (1 : Fin 2)).fld R.SEC_DBG_CTL_PAIR * 16) :=
  if_pos h

theorem debugClose_fields {s : State} (h : s.on R.SEC_DBG_CTL_OPENED = true) : s.debugClose.on R.SEC_DBG_CTL_OPENED = false ∧
    ∀ p : Fin 2, s.debugClose.on (R.TND_STAT_HALTED p) = false := by
  obtain ⟨-, h0, h1, h2⟩ := tndReg_ne 0 0
  obtain ⟨hne, h3, -, h4⟩ := tndReg_ne 0 1
  rw [debugClose_opened h]
  refine ⟨?_, fun p => ?_⟩
  · rw [on_of_rd (f := R.SEC_DBG_CTL_OPENED) ((post_rd_offJ2 secDbg_offJ2 ..).trans
      ((resumeHalted_rd_ne _ 1 secDbg_offJ2 h3 h1 h4).trans (resumeHalted_rd_ne _ 0 secDbg_offJ2 h0 h1 h2))), on_setFld_fits _ _ rfl]
    rfl
  · rw [on_of_rd (f := R.TND_STAT_HALTED p) (post_rd_tnd (tndReg_stat p) ..)]
    match p with
    | 0 =>
      exact (on_of_rd (f := R.TND_STAT_HALTED (0 : Fin 2)) (resumeHalted_rd_ne _ 1 (tndReg_stat 0).offJ2 (hne (by decide))
        (tndStat_apart 0 0).1 (tndStat_apart 0 1).2)).trans (resumeHalted_halted _ 0)
    | 1 => exact resumeHalted_halted _ 1

theorem debugClose_closed {s : State} (h : s.on R.SEC_DBG_CTL_OPENED = false) : s.debugClose = s :=
  if_neg (Bool.eq_false_iff.mp h)

end State

/-! ### The commands -/

section

variable {s : State} {m : Master} {p : Fin 2}

theorem execDebugHalt_running (d : Option (Fin 100)) (ho : s.opens m .sec 0 = true) (hopen : s.on R.SEC_DBG_CTL_OPENED = true)
    (hst : s.pairState p ≤ 3 ∨ s.pairState p = 6 ∨ s.pairState p = 7) (hh : s.on (R.TND_STAT_HALTED p) = false)
    (ha : s.allOff = true ∨ (s.fld R.SEC_LC_STATE ≠ 2 ∧ s.fld R.SEC_LC_STATE ≠ 3)) : execDebugHalt m p d s =
    .next ((s.setFld R.SEC_DBG_CTL_PAIR p).haltPair p d).okResp := by
  have hhaltable : s.haltable p = true := by simpa [State.haltable, or_assoc] using hst
  have hallowed : s.haltAllowed = true := by simpa [State.haltAllowed] using ha
  exact congrArg Host.Outcome.next (State.write_single _ secDbg_pageAt ho (by rw [hopen, hhaltable, hh, hallowed]; rfl))

theorem execDebugResume_halted (d : Option (Fin 100)) (ho : s.opens m .sec 0 = true) (hh : s.on (R.TND_STAT_HALTED p) = true) :
    execDebugResume m p d s = .next ((s.setFld R.SEC_DBG_CTL_PAIR p).resumePair p d).okResp :=
  congrArg Host.Outcome.next (State.write_single _ secDbg_pageAt ho (by rw [hh]; rfl))

/-- A halted pair's replay queue is emptied before it steps. -/
theorem stepped_pairState (s : State) (p : Fin 2) :
    (((s.setFld R.SEC_DBG_CTL_PAIR p).updTnd p fun t => { t with replay := [] }).showDbg p).pairState p = s.pairState p := by
  unfold State.pairState
  rw [State.fld_of_rd (f := R.TND_STAT_STATE p) (State.showDbg_rd_ne _ _ (tndStat_apart p p).1), State.updTnd_fld,
    State.fld_setFld_ne _ _ (tndReg_ne p p).2.1.symm]

theorem execDebugStep_halted (d : Option (Fin 100)) (ho : s.opens m .sec 0 = true) (hh : s.on (R.TND_STAT_HALTED p) = true) :
    execDebugStep m p d s = .next (if s.pairState p = 0 then
      (((((s.setFld R.SEC_DBG_CTL_PAIR p).updTnd p fun t => { t with replay := [] }).showDbg p).fold p none).fold p d).okResp
    else (((s.setFld R.SEC_DBG_CTL_PAIR p).updTnd p fun t => { t with replay := [] }).showDbg p).okResp) := by
  unfold execDebugStep
  dsimp only
  rw [State.write_single _ secDbg_pageAt ho (by rw [hh]; rfl), stepped_pairState]
  split <;> rfl

theorem execDebugAccess_halted (op : Fin 4) (ho : s.opens m .sec 0 = true) (hopen : s.on R.SEC_DBG_CTL_OPENED = true)
    (hh : s.on (R.TND_STAT_HALTED p) = true) : execDebugAccess m p op s =
    .next (State.debugAccess (((s.setFld R.SEC_DBG_CTL_PAIR p).setFld R.SEC_DBG_CTL_OP op).okResp) p op) := by
  unfold execDebugAccess State.debugGo
  dsimp only
  rw [State.write_single _ secDbg_pageAt ho (by rw [hopen, hh]; rfl)]
  exact congrArg Host.Outcome.next (if_pos rfl)

end

end Sys2Proof.Machine
end

section
/-!
Debugger: the commands complete, and a write of core state that meets a full replay queue.
-/
open Sys2Proof Sys2Proof.Machine

/-- Settles O27: the writes of SEC_DBG_CTL by the condition that each of them states; HALTED after a halt, a resume and the end of debug by
the registers that `State.tndClock` and a fold without a difference leave. -/
theorem debugCommandsComplete : Obligations.DebugCommandsComplete := by
  unfold Obligations.DebugCommandsComplete
  refine ⟨fun s m ho hr hc => ?_, fun s m ho hr hopen => ?_, fun s m ho hopen => ?_, fun s m ho hc => ?_,
    fun s m p d ho hopen hst hh ha => execDebugHalt_running d ho hopen hst hh ha, fun s m p ho hopen hst hh ha =>
      ⟨_, execDebugHalt_running none ho hopen hst hh ha, rfl, State.haltPair_halted _ p⟩,
    fun s m p d ho hh => execDebugResume_halted d ho hh, fun s m p ho hh => ?_, fun s m p d ho hh hst => ?_, fun s m p d ho hh hst => ?_,
    fun s p g v hh hq => ?_, fun s m p op ho hopen hh => execDebugAccess_halted op ho hopen hh⟩
  · refine congrArg Host.Outcome.next ((State.write_single _ secDbg_pageAt ho (by rw [hr]; rfl)).trans ?_)
    rw [if_neg (Bool.eq_false_iff.mp hc)]
  · refine congrArg Host.Outcome.next ((State.write_single _ secDbg_pageAt ho (by rw [hr]; rfl)).trans ?_)
    rw [if_pos hopen]
  · exact ⟨_, congrArg Host.Outcome.next (State.write_single _ secDbg_pageAt ho rfl), rfl, State.debugClose_fields hopen⟩
  · refine congrArg Host.Outcome.next ((State.write_single _ secDbg_pageAt ho rfl).trans ?_)
    rw [State.debugClose_closed hc]
  · exact ⟨_, execDebugResume_halted none ho hh, rfl, State.resumePair_fields _ p⟩
  · exact (execDebugStep_halted d ho hh).trans (congrArg Host.Outcome.next (if_neg hst))
  · exact (execDebugStep_halted d ho hh).trans (congrArg Host.Outcome.next (if_pos hst))
  · exact congrArg Host.Outcome.next ((if_pos hh).trans (if_neg (Nat.not_le.mpr hq)))

/-- Settles O60: the write finds its pair halted and the queue full, and answers the error alone. -/
theorem replayQueueFull : Obligations.ReplayQueueFull := by
  unfold Obligations.ReplayQueueFull
  exact fun s p g v hh hq => congrArg Host.Outcome.next ((if_pos hh).trans (if_pos hq))

end

section
/-!
SUPPORT. The Eptal streams: what a copy handed to its network leaves of the registers, and what the commands answer when their condition
holds (R411–R416).
-/
namespace Sys2Proof.Machine

theorem eptCtl_pageAt (k : Fin 16) : pageAt (R.EPT_CTL k) = some (.ept, 0) := by
  revert k
  decide

theorem eptSeq_lt_can (k : Fin 16) : R.EPT_SEQ k < PageKind.can.base := by
  revert k
  decide

namespace State

/-! ### A copy handed to its network -/

section

variable {a : Nat} (h : a < PageKind.can.base)
include h

/-- CAN_PENDj and CAN_NEWj alone show a buffer's bits among the registers (R468). -/
theorem setCanBit_rd_below (s : State) (n k b : Nat) (v : Bool) : (s.setCanBit n k b v).rd a = s.rd a := by
  have hpend : a ≠ R.CAN_PEND n (k / 32) := by
    simp only [PageKind.base] at h
    simp only [R.CAN_PEND]
    omega
  have hnew : a ≠ R.CAN_NEW n (k / 32) := by
    simp only [PageKind.base] at h
    simp only [R.CAN_NEW]
    omega
  unfold setCanBit
  dsimp only
  split
  · rw [rd_setFld_ne _ _ hpend, setCanA_rd]
  · split
    · rw [rd_setFld_ne _ _ hnew, setCanA_rd]
    · rfl

omit h in
theorem canCopy_rd (s : State) (n k : Nat) : (s.canCopy n k).rd a = s.rd a := by
  unfold canCopy
  dsimp only
  rw [each_rd _ _ fun _ _ _ => setCanA_rd .., setCanA_rd, setCanA_rd]

theorem canActivate_rd_below (s : State) (n k : Nat) : (s.canActivate n k).rd a = s.rd a := by
  unfold canActivate
  rw [setCanBit_rd_below h, each_rd _ _ fun t b _ => setCanBit_rd_below h t n k b false, canCopy_rd]

theorem canAccept_rd_below (s : State) (n k : Nat) : (s.canAccept n k).rd a = s.rd a := by
  unfold canAccept
  split
  · rfl
  · exact canActivate_rd_below h s n k

omit h in
theorem ethFlush_rd (s : State) (n : Nat) : (s.ethFlush n).rd a = s.rd a := by
  unfold ethFlush
  split
  · exact foldl_rd _ _ fun _ _ _ => updEpt_rd ..
  · rfl

theorem eptHand_rd_below (s : State) (e : Nat) (pathB : Bool) (p : List Byte) : (s.eptHand e pathB p).rd a = s.rd a := by
  unfold eptHand
  dsimp only
  generalize (if pathB = true then s.fld (R.EPT_SID_NET_B e) else s.fld (R.EPT_SID_NET_A e)) = net
  split
  · rw [ethFlush_rd, apply_ite (State.rd · a), updEth_rd, ite_self, updEpt_rd]
  · rw [apply_ite (State.rd · a), canAccept_rd_below h, ite_self, each_rd _ _ fun _ _ _ => setCanS_rd .., setCanS_rd, setCanS_rd,
      tookFree_rd, updEpt_rd]

end

/-- The message that a stream sends, as the copy of a path (R409, R411). -/
def eptMessage (s : State) (k epoch : Nat) (pathB : Bool) : List Byte :=
  eptPdu (s.fld (R.EPT_SID_SID k)) epoch (s.fld (R.EPT_CFG_LEN k)) (s.fld (R.EPT_SEQ_SEQ k)) pathB
    ((List.range 8).flatMap fun j => leBytes (s.rd (R.EPT_DATA k j)).toNat 4)

end State

/-! ### The commands -/

section

variable {s : State} {k : Fin 16}

/-- A message of a stream that may send: it is numbered and both its copies are handed on (R411). -/
theorem execEptalSend_sends {m : Master} {e : Fin 256} (ho : s.opens m .ept 0 = true) (hA : (s.ept k).unsentA = false)
    (hB : (s.ept k).unsentB = false) (hen : s.on (R.EPT_CFG_EN k) = true) (hdir : s.on (R.EPT_CFG_DIR k) = true)
    (hepoch : s.fld (R.EPT_CFG_EPOCH k) = e.val) (hne : e.val ≠ 0) : execEptalSend m k e s =
    .next ((((s.setFld (R.EPT_SEQ_SEQ k) ((s.fld (R.EPT_SEQ_SEQ k) + 1) % 65536)).eptHand k false (s.eptMessage k e false)).eptHand k true
      (s.eptMessage k e true)).okResp) := by
  unfold execEptalSend State.eptSend
  rw [State.write_single _ (eptCtl_pageAt k) ho (by rw [hA, hB]; rfl), hen, hdir, if_neg (by decide),
    if_neg (not_or.mpr ⟨fun h => h hepoch, hne⟩)]
  rfl

/-- The first message of a stream may have any EPOCH but 0x00 (R52, R412). -/
theorem eptEpoch_fresh {l : List Byte} (hgot : (s.ept k).got = false) (he : eptEpoch l ≠ 0) :
    ¬ (eptEpoch l == 0 || ((s.ept k).got && eptEpoch l != s.fld (R.EPT_STAT_EXP_EPOCH k))) = true := by
  rw [hgot, Bool.false_and, Bool.or_false, beq_iff_eq]
  exact he

section

variable {b : Bool} {l : List Byte} (hen : s.on (R.EPT_CFG_EN k) = true) (hdir : s.on (R.EPT_CFG_DIR k) = false)
include hen hdir

theorem eptCopy_rejected (hv : s.eptValid k b l = false) : s.eptCopy k b l = s.inc (R.EPT_CNT_REJECT k) := by
  unfold State.eptCopy
  rw [hen, hdir, if_neg (by decide), hv, if_pos (by decide)]

variable (hv : s.eptValid k b l = true) (hgot : (s.ept k).got = false) (he : eptEpoch l ≠ 0)
include hv hgot he

/-- The first copy of a pair is held (R413). -/
theorem eptCopy_held (hh : (s.ept k).held = none) :
    s.eptCopy k b l = (s.updEpt k fun r => { r with held := some (b, l) }).eptShow k := by
  unfold State.eptCopy
  rw [hen, hdir, if_neg (by decide), hv, if_neg (by decide), if_neg (eptEpoch_fresh hgot he), hh]

/-- The second copy of a pair that agrees with the first is delivered (R413). -/
theorem eptCopy_paired {q : List Byte} (hh : (s.ept k).held = some (!b, q)) (hseq : eptSeq l = eptSeq q) (hbody : eptBody l = eptBody q) :
    s.eptCopy k b l = s.eptDeliver k l none := by
  unfold State.eptCopy
  rw [hen, hdir, if_neg (by decide), hv, if_neg (by decide), if_neg (eptEpoch_fresh hgot he), hh]
  dsimp only
  rw [if_pos hseq, if_neg (by cases b <;> decide), if_pos hbody]

end

theorem execEptalSendMiss_a (hu : (s.ept k).unsentA = true) (hn : s.fld (R.EPT_SID_NET_A k) < 4) :
    execEptalSendMiss k false s = .next (s.inc (R.EPT_CNT_MISS_A k)) :=
  congrArg Host.Outcome.next ((if_pos hu).trans (if_neg fun h => Nat.not_le.mpr hn h.1))

theorem execEptalSendMiss_b (hu : (s.ept k).unsentB = true) (hn : s.fld (R.EPT_SID_NET_B k) < 4) :
    execEptalSendMiss k true s = .next (s.inc (R.EPT_CNT_MISS_B k)) :=
  congrArg Host.Outcome.next ((if_pos hu).trans (if_neg fun h => Nat.not_le.mpr hn h.1))

theorem eptSingle_held {t : State} {b : Bool} {l : List Byte} (h : (t.ept k).held = some (b, l)) :
    t.eptSingle k = (t.eptMiss k (!b)).eptDeliver k l (some b) := by
  unfold State.eptSingle
  rw [h]

theorem execEptalWindowExpiry_held {b : Bool} {l : List Byte} (h : (s.ept k).held = some (b, l)) : execEptalWindowExpiry k s =
    .next (((s.opTo .ept 0).eptMiss k (!b)).eptDeliver k l (some b)) := by
  have hop : ((s.opTo .ept 0).ept k).held = some (b, l) := h
  unfold execEptalWindowExpiry
  rw [if_pos (by rw [h]; rfl), eptSingle_held hop]

end

end Sys2Proof.Machine
end

section
/-!
Eptal streams: the commands complete.
-/
open Sys2Proof Sys2Proof.Machine

/-- Settles O25: each command by the branch that its condition selects; the number of a sent message stays through the hand-over of its
copies, which changes no register of the EPT page. -/
theorem eptalCommandsComplete : Obligations.EptalCommandsComplete := by
  unfold Obligations.EptalCommandsComplete
  refine ⟨fun s m k e ho hA hB hen hdir hepoch hne => ?_, fun s k hu hn => execEptalSendMiss_a hu hn,
    fun s k hu hn => execEptalSendMiss_b hu hn, fun s k b l hen hdir hv => congrArg Host.Outcome.next (eptCopy_rejected hen hdir hv),
    fun s k b l hen hdir hv hgot he hh => congrArg Host.Outcome.next (eptCopy_held hen hdir hv hgot he hh),
    fun s k b l q hen hdir hv hgot he hh hseq hbody =>
      congrArg Host.Outcome.next (eptCopy_paired hen hdir hv hgot he hh hseq hbody),
    fun s k b l hh => execEptalWindowExpiry_held hh, fun s k hst => congrArg Host.Outcome.next (if_pos hst),
    fun s k hen hdir => congrArg Host.Outcome.next (if_pos (by rw [hen, hdir]; rfl)),
    fun s m k ho => congrArg Host.Outcome.next (State.write_single _ (eptCtl_pageAt k) ho rfl)⟩
  refine ⟨_, execEptalSend_sends ho hA hB hen hdir hepoch hne, rfl, ?_⟩
  rw [State.okResp_fld, State.fld_of_rd (f := R.EPT_SEQ_SEQ k) ((State.eptHand_rd_below (eptSeq_lt_can k) ..).trans
    (State.eptHand_rd_below (eptSeq_lt_can k) ..)), State.fld_setFld_fits _ _ rfl]
  exact Nat.mod_mod ..

end

section
/-!
SUPPORT. CAN buffers: what a commit leaves of the words of a buffer's two copies (R449, R450), and a controller that stands by (R77).
-/
namespace Sys2Proof.Machine

/-! ### Bits of a word -/

theorem bitAt_toNat (x : Word) (i : Nat) : bitAt x.toNat i = (getBits x i 1 == 1) := rfl

/-- Bits within other bits. -/
theorem getBits_within (x : Word) {lo w d n : Nat} (h : d + n ≤ w) : getBits x (lo + d) n = getBits x lo w / 2 ^ d % 2 ^ n := by
  obtain ⟨e, rfl⟩ : ∃ e, w = d + e := ⟨w - d, by omega⟩
  unfold getBits
  rw [Nat.pow_add 2 d e, Nat.mod_mul_right_div_self, Nat.mod_mod_of_dvd _ (Nat.pow_dvd_pow 2 (by omega)), Nat.div_div_eq_div_mul,
    Nat.pow_add]

theorem getBits_congr {x y : Word} {lo w : Nat} (h : getBits x lo w = getBits y lo w) (d n : Nat) (hd : d + n ≤ w) :
    getBits x (lo + d) n = getBits y (lo + d) n := by
  rw [getBits_within x hd, getBits_within y hd, h]

theorem getBits_setBits_of {lo w : Nat} (x y : Word) (h : lo + w ≤ 32) :
    getBits (setBits x lo w (getBits y lo w)) lo w = getBits y lo w := by
  rw [getBits_setBits _ _ h, Nat.mod_eq_of_lt (getBits_lt ..)]

theorem canBufCmd_pageAt (n : Fin 4) : pageAt (R.CAN_BUFCMD n) = some (.can, n.val) := by
  revert n
  decide

namespace State

/-! ### A buffer's words -/

theorem canA_setCanA (s : State) (n k w j : Nat) (v : Word) : (s.setCanA n k w v).canA n k j = if j = w then v else s.canA n k j := by
  unfold canA setCanA
  rw [Store.read_write]
  simp only [canWord, Nat.add_left_cancel_iff, Nat.mul_left_cancel_iff (show 0 < 4 by decide)]

theorem canA_setCanA_same (s : State) (n k w : Nat) (v : Word) : (s.setCanA n k w v).canA n k w = v := by
  rw [canA_setCanA, if_pos rfl]

theorem canA_setCanA_ne (s : State) (n k : Nat) {w j : Nat} (h : j ≠ w) (v : Word) : (s.setCanA n k w v).canA n k j = s.canA n k j := by
  rw [canA_setCanA, if_neg h]

theorem setCanBit_canAct (s : State) (n k b : Nat) (v : Bool) :
    (s.setCanBit n k b v).canAct = (s.setCanA n k 1 (setBits (s.canA n k 1) b 1 (b2n v))).canAct := by
  unfold setCanBit
  dsimp only
  split
  · rfl
  · split <;> rfl

theorem setCanBit_canA (s : State) (n k b j : Nat) (v : Bool) :
    (s.setCanBit n k b v).canA n k j = if j = 1 then setBits (s.canA n k 1) b 1 (b2n v) else s.canA n k j := by
  rw [← canA_setCanA]
  unfold canA
  rw [setCanBit_canAct]
  rfl

/-- The data words are copied one by one. -/
theorem each_copyData (s : State) (n k : Nat) (l : List Nat) (j : Nat) :
    (s.each l fun s i => s.setCanA n k (2 + i) (s.canS n k (2 + i))).canA n k j =
      if 2 ≤ j ∧ j - 2 ∈ l then s.canS n k j else s.canA n k j := by
  induction l generalizing s with
  | nil => simp [each]
  | cons i l ih =>
    refine (ih _).trans ?_
    rw [canA_setCanA]
    by_cases hj : j = 2 + i
    · subst hj
      simp [canS, setCanA]
    · have hne : 2 ≤ j → j - 2 ≠ i := by omega
      by_cases h2 : 2 ≤ j
      · simp [hj, h2, hne h2, canS, setCanA]
      · simp [hj, h2]

theorem canCopy_data (s : State) (n k : Nat) (j : Fin 16) : (s.canCopy n k).canA n k (2 + j) = s.canS n k (2 + j) := by
  unfold canCopy
  rw [each_copyData, if_pos (by simp)]
  rfl

theorem canCopy_head (s : State) {n k : Nat} (hdir : s.on (R.CAN_BUF_CFG_DIR n k) = true) :
    (s.canCopy n k).canA n k 0 = setBits (s.rd (R.CAN_BUF_CFG n k)) 30 2 (getBits (s.canS n k 0) 30 1) ∧
    (s.canCopy n k).canA n k 1 = setBits (s.canA n k 1) 0 7 (getBits (s.canS n k 1) 0 7) := by
  unfold canCopy
  dsimp only
  rw [if_pos hdir]
  constructor
  · rw [each_copyData, if_neg (by decide), canA_setCanA_ne _ _ _ (by decide), canA_setCanA_same]
  · rw [each_copyData, if_neg (by decide), canA_setCanA_same]

/-- A commit that takes effect copies the words, and in word 1 it clears the four bits of the frame before and sets PEND. -/
theorem canActivate_canA (s : State) (n k j : Nat) : (s.canActivate n k).canA n k j = if j = 1 then
      setBits (setBits (setBits (setBits (setBits ((s.canCopy n k).canA n k 1) 17 1 0) 18 1 0) 19 1 0) 20 1 0) 16 1 1
    else (s.canCopy n k).canA n k j := by
  change ((((((s.canCopy n k).setCanBit n k 17 false).setCanBit n k 18 false).setCanBit n k 19 false).setCanBit n k 20 false).setCanBit n k
    16 true).canA n k j = _
  rw [setCanBit_canA]
  split
  · rw [setCanBit_canA, if_pos rfl, setCanBit_canA, if_pos rfl, setCanBit_canA, if_pos rfl, setCanBit_canA, if_pos rfl]
    rfl
  case isFalse hj =>
    rw [setCanBit_canA, if_neg hj, setCanBit_canA, if_neg hj, setCanBit_canA, if_neg hj, setCanBit_canA, if_neg hj]

end State

/-- The five bits of word 1 after a commit, and the format bits below them. -/
theorem committed_bits (x : Word) : ∃ y, y = setBits (setBits (setBits (setBits (setBits x 17 1 0) 18 1 0) 19 1 0) 20 1 0) 16 1 1 ∧
    getBits y 0 7 = getBits x 0 7 ∧ bitAt y.toNat 16 = true ∧ ∀ b ∈ [17, 18, 19, 20], bitAt y.toNat b = false := by
  refine ⟨_, rfl, ?_, ?_, ?_⟩
  · simp [getBits_setBits_apart]
  · simp [bitAt_toNat, getBits_setBits]
  · simp [bitAt_toNat, getBits_setBits, getBits_setBits_apart]

namespace State

theorem canActivate_fields {s : State} {n k : Nat} (hdir : s.on (R.CAN_BUF_CFG_DIR n k) = true) :
    bitAt ((s.canActivate n k).canA n k 0).toNat 30 = bitAt (s.canS n k 0).toNat 30 ∧
    getBits ((s.canActivate n k).canA n k 1) 0 7 = getBits (s.canS n k 1) 0 7 ∧ (s.canActivate n k).canBit n k 16 = true ∧
    ∀ b ∈ [17, 18, 19, 20], (s.canActivate n k).canBit n k b = false := by
  obtain ⟨hword0, hword1⟩ := s.canCopy_head hdir
  obtain ⟨y, hy, hlow, hpend, hclear⟩ := committed_bits ((s.canCopy n k).canA n k 1)
  have hact : (s.canActivate n k).canA n k 1 = y := by rw [canActivate_canA, if_pos rfl, hy]
  refine ⟨?_, ?_, ?_, fun b hb => ?_⟩
  · have hrtr : getBits (setBits (s.rd (R.CAN_BUF_CFG n k)) 30 2 (getBits (s.canS n k 0) 30 1)) (30 + 0) 1 =
        getBits (s.canS n k 0) 30 1 := by
      have hlt := getBits_lt (s.canS n k 0) 30 1
      rw [getBits_within _ (w := 2) (by decide), getBits_setBits _ _ (by decide)]
      omega
    rw [canActivate_canA, if_neg (by decide), hword0, bitAt_toNat, bitAt_toNat, hrtr]
  · rw [hact, hlow, hword1, getBits_setBits_of _ _ (by decide)]
  · unfold canBit
    rw [hact, hpend]
  · unfold canBit
    rw [hact, hclear b hb]

/-- A stale commit is counted and changes neither copy. -/
theorem stale_canRam (s : State) (k : PageKind) (n : Nat) :
    (s.stale k n).okResp.canAct = s.canAct ∧ (s.stale k n).okResp.canShadow = s.canShadow := by
  unfold stale inc incBy
  exact ⟨by rw [okResp_canAct, setFld_canAct], by rw [okResp_canShadow, setFld_canShadow]⟩

theorem canAccept_free {s : State} {n k : Nat} (h : (s.can n).bus ≠ some k) : s.canAccept n k = s.canActivate n k := if_neg h

theorem canAccept_busy {s : State} {n k : Nat} (h : (s.can n).bus = some k) : (s.canAccept n k).canAct = s.canAct ∧
    k ∈ ((s.canAccept n k).can n).commits := by
  unfold canAccept
  rw [if_pos h]
  refine ⟨rfl, ?_⟩
  have hcan : ∀ f : CanRec → CanRec, (s.updCan n f).can n = f (s.can n) := fun f => Store.read_write_same ..
  rw [hcan]
  dsimp only
  split
  case isTrue hmem => exact List.contains_iff_mem.mp hmem
  case isFalse => exact List.mem_cons_self

theorem canBadFormat_of {s : State} {n k : Nat} (h : (bitAt (s.canS n k 0).toNat 30 = true ∧ bitAt (s.canS n k 1).toNat 4 = true) ∨
    (bitAt (s.canS n k 1).toNat 4 = true ∧ s.on (R.CAN_CTL_FD_EN n) = false) ∨
    (bitAt (s.canS n k 1).toNat 5 = true ∧ bitAt (s.canS n k 1).toNat 4 = false)) : s.canBadFormat n k = true := by
  unfold canBadFormat
  rcases h with ⟨hrtr, hfdf⟩ | ⟨hfdf, hen⟩ | ⟨hbrs, hfdf⟩
  · simp [hrtr, hfdf]
  · simp [hfdf, hen]
  · simp [hbrs, hfdf]

/-- A CAN controller in standby without a frame in progress: flush mode has shed it, and a reserved bit would be tolerated (R77). -/
def canInStandby : State := (reset.setFld R.PWR_STAT_ON_HOLDUP 1).wr (R.CAN_CTL 0) 0xFFFFFFFF |>.wr (R.CAN_STAT 0) 0

end State

/-! ### The commands -/

section

variable {s : State} {m : Master} {n : Fin 4} {k : Fin 128} {e : Fin 256}

theorem execCanCommit_stale (ho : s.opens m .can n = true) (hs : s.canStream n k = none) (hdir : s.on (R.CAN_BUF_CFG_DIR n k) = true)
    (he : s.canEpoch n k ≠ e.val) : execCanCommit m n k e s = .next ((s.stale .can n).okResp) := by
  unfold execCanCommit State.canCommit
  dsimp only
  rw [State.write_ok s m _ (canBufCmd_pageAt n) ho (by rw [hs, hdir, decide_eq_true (.inl he)]; rfl)
    (s.remoteDown_false n (by decide) (by decide)), if_pos (.inl he)]

/-- A commit of a format that R450 forbids. -/
theorem execCanCommit_badFormat (ho : s.opens m .can n = true) (hs : s.canStream n k = none) (hdir : s.on (R.CAN_BUF_CFG_DIR n k) = true)
    (he : s.canEpoch n k = e.val) (hne : e.val ≠ 0) (hbad : s.canBadFormat n k = true) :
    ∃ t, execCanCommit m n k e s = .next t ∧ s.Refused t .range := by
  have hstale : ¬ (s.canEpoch n k ≠ e.val ∨ e.val = 0) := not_or.mpr ⟨fun h => h he, hne⟩
  exact ⟨_, rfl, State.write_refused (canBufCmd_pageAt n) ho (b := true) (by rw [hs, hdir, hbad, decide_eq_false hstale]; rfl)⟩

theorem execCanReceiveError_standby {r : Bool} {x : Fin 7} {d b : Bool} (h : s.standby = true) (ha : s.on (R.CAN_STAT_ACT n) = false) :
    execCanReceiveError n r x d b s = .next s :=
  congrArg Host.Outcome.next (if_pos (by rw [h, ha]; simp))

end

end Sys2Proof.Machine
end

section
/-!
CAN: a commit of a buffer, and a reserved bit that a controller in standby does not see.
-/
open Sys2Proof Sys2Proof.Machine

/-- Settles O55: a stale commit is counted alone, a forbidden format is refused; an accepted commit through the words that
`canActivate` leaves of the buffer's active copy. -/
theorem canCommit : Obligations.CanCommit := by
  unfold Obligations.CanCommit
  refine ⟨fun s m n k e ho hs hdir he =>
      ⟨_, execCanCommit_stale ho hs hdir he, rfl, (s.stale_canRam .can n).1, (s.stale_canRam .can n).2, ?_⟩,
    fun s m n k e ho hs hdir he hne hbad => execCanCommit_badFormat ho hs hdir he hne (State.canBadFormat_of hbad),
    fun s n k hdir hbus => ⟨_, rfl, ?_⟩, fun s n k hbus => ⟨_, rfl, State.canAccept_busy hbus⟩⟩
  · have hmax : 2 ^ (hdr .can n 0x2C 16 16).w - 1 = 0xFFFF := show 2 ^ 16 - 1 = 0xFFFF by decide
    rw [State.okResp_fld, State.stale, State.fld_inc s (by exact Nat.le_of_ble_eq_true rfl), hmax]
  · obtain ⟨hrtr, hlow, hpend, hclear⟩ := State.canActivate_fields hdir
    rw [State.canAccept_free hbus]
    refine ⟨fun j => ?_, hrtr, ?_, ?_, getBits_congr hlow 0 4 (by decide), hpend, hclear 17 (by decide), hclear 18 (by decide),
      hclear 19 (by decide), hclear 20 (by decide)⟩
    · rw [State.canActivate_canA, if_neg (by omega), State.canCopy_data]
    · rw [bitAt_toNat, bitAt_toNat, getBits_congr hlow 4 1 (by decide)]
    · rw [bitAt_toNat, bitAt_toNat, getBits_congr hlow 5 1 (by decide)]

/-- Refutes O28: an error while receiving is stated for every state, and a controller in standby with no frame in progress does not see it:
RES_SEEN stays 0. -/
theorem not_canCommandsComplete : ¬ Obligations.CanCommandsComplete := by
  unfold Obligations.CanCommandsComplete
  rintro ⟨-, -, -, -, hReceiveError, -⟩
  have hstandby : State.canInStandby.standby = true ∧ State.canInStandby.on (R.CAN_STAT_ACT (0 : Fin 4)) = false := by decide
  have h := hReceiveError State.canInStandby 0 true 0 false false (by decide) rfl (by decide)
  rw [exec_canReceiveError, execCanReceiveError_standby hstandby.1 hstandby.2] at h
  have hseen := congrArg (fun o => match o with | .next t => t.on (R.CAN_STAT_RES_SEEN 0) | _ => false) h
  exact absurd hseen (by decide)

end

section
/-!
SUPPORT. Ethernet ports and the host port: the descriptor that the transmit ring leaves behind, and the frames of the host (R459–R465).
-/
namespace Sys2Proof.Machine

theorem ethTxKick_pageAt (n : Fin 2) : pageAt (R.ETH_TXKICK n) = some (.eth, n.val) := by
  revert n
  decide

/-- ETH_IDX lies apart from ETH_CTL and from the page's event flags. -/
theorem ethIdx_apart (n : Fin 2) : R.ETH_CTL n ≠ R.ETH_IDX n ∧ R.ETH_CTL n ≠ PageKind.eth.page n + 0x10 ∧
    R.ETH_IDX n ≠ PageKind.eth.page n + 0x10 := by
  revert n
  decide

namespace State

theorem setLe_rd (s : State) (a v n r : Nat) : (s.setLe a v n).rd r = s.rd r := by
  induction n generalizing s a v with
  | zero => rfl
  | succ n ih => exact (ih ..).trans (setByte_rd ..)

/-- A port switched off sends no copy and goes on with no descriptor. -/
theorem ethFlush_off {s : State} {n : Nat} (h : s.on (R.ETH_CTL_EN n) = false) : s.ethFlush n = s :=
  if_neg (by rw [h]; simp)

theorem ethNext_off {s : State} {n : Nat} (e : Ecc) (h : s.on (R.ETH_CTL_EN n) = false) : s.ethNext n e = s :=
  if_pos (by rw [h]; rfl)

/-- The state after a descriptor's frame has been sent (R461): its OWN bit cleared, the index moved on, the event set. -/
def txDone (s : State) (n : Nat) : State :=
  let d := s.fld (R.ETH_TXRING_BASE n) + 16 * s.fld (R.ETH_IDX_TX_NEXT n)
  let s' := s.setLe (d + 4) (setBits (BitVec.ofNat 32 (s.le (d + 4) 4)) 31 1 0).toNat 4
  let i := (s.fld (R.ETH_IDX_TX_NEXT n) + 1) % 2 ^ s'.fld (R.ETH_RING_TX_LOG2 n)
  ((s'.setFld (R.ETH_IDX_TX_NEXT n) i).evt .eth n E.ETH_TX_DONE).updEth n fun r => { r with sending := false }

theorem txDone_fields (s : State) (n : Fin 2) : ((s.txDone n).eth n).sending = false ∧
    (s.txDone n).on (R.ETH_CTL_EN n) = s.on (R.ETH_CTL_EN n) ∧
    (s.txDone n).fld (R.ETH_IDX_TX_NEXT n) = (s.fld (R.ETH_IDX_TX_NEXT n) + 1) % 2 ^ s.fld (R.ETH_RING_TX_LOG2 n) % 256 := by
  obtain ⟨hctl, hctlEvt, hidxEvt⟩ := ethIdx_apart n
  have heth : ∀ (t : State) (f : EthRec → EthRec), (t.updEth n f).eth n = f (t.eth n) := fun t f => Store.read_write_same ..
  have hrd : (s.txDone n).rd (R.ETH_CTL n) = s.rd (R.ETH_CTL n) := by
    unfold txDone
    rw [updEth_rd, evt_rd_ne _ _ _ _ hctlEvt, rd_setFld_ne _ _ hctl, setLe_rd]
  have hspan : 2 ^ (R.ETH_IDX_TX_NEXT n).w = 256 := show 2 ^ 8 = 256 by decide
  refine ⟨?_, on_of_rd (f := R.ETH_CTL_EN n) hrd, ?_⟩
  · unfold txDone
    rw [heth]
  · unfold txDone
    rw [updEth_fld, fld_of_rd (f := R.ETH_IDX_TX_NEXT n) (evt_rd_ne _ _ _ _ hidxEvt), fld_setFld_fits _ _ rfl,
      fld_of_rd (f := R.ETH_RING_TX_LOG2 n) (setLe_rd ..), hspan]

end State

/-! ### The commands -/

section

variable {s : State} {n : Fin 2}

theorem execEthTxDone_off (e : Ecc) (hs : (s.eth n).sending = true) (hen : s.on (R.ETH_CTL_EN n) = false) :
    execEthTxDone n e s = .next (s.txDone n) := by
  have hoff : (s.txDone n).on (R.ETH_CTL_EN n) = false := (s.txDone_fields n).2.1.trans hen
  have hnext : execEthTxDone n e s = .next (((s.txDone n).ethFlush n).ethNext n e) :=
    congrArg Host.Outcome.next (if_neg (by rw [hs]; decide))
  rw [hnext, State.ethFlush_off hoff, State.ethNext_off e hoff]

theorem execEthFrameReceived_taken (l : List Byte) (ok : Bool) (e : Ecc) (hshed : s.shed = false) (hen : s.on (R.ETH_CTL_EN n) = true)
    (hlink : s.on (R.ETH_STAT_LINK n) = true) (hmin : 60 ≤ l.length) (hmax : l.length ≤ 1518) : execEthFrameReceived n l ok e s =
    .next (if !ok then s.inc (R.ETH_CNT_FCS_ERR n) else s.ethReceive n l e) := by
  unfold execEthFrameReceived
  rw [hshed, hen, hlink, if_neg (by simp [hmin, hmax])]

/-- A good frame of the host while the port is on (R462, R463). -/
theorem hspFrame_good (p : Bool) (t : Nat) (request : Bool) (acc : State → State) (hshed : s.shed = false)
    (hen : s.on R.HSP_CTL_EN = true) : s.hspFrame .good p t request acc =
      if !request then s.hspMiso (p && !s.net.hsp.due.isEmpty)
      else if p && !s.net.hsp.due.isEmpty then
        ((s.hspMiso (p && !s.net.hsp.due.isEmpty)).inc R.HSP_CNT_BUSY_REJ).hspDue true ⟨7, t, 0⟩
      else (acc (s.hspMiso (p && !s.net.hsp.due.isEmpty))).hspAnswer t := by
  unfold State.hspFrame
  rw [hshed, hen, if_neg (by decide)]

/-- The answer that a timeout replaces is that of the oldest transaction (R465). -/
theorem execHspTimeout_due {a : HspAns} {rest : List HspAns} (t : Fin 16) (hen : s.on R.HSP_CTL_EN = true)
    (hdue : s.net.hsp.due = a :: rest) : execHspTimeout t s =
    .next ((((s.opTo .hsp 0).inc R.HSP_CNT_TIMEOUT).updHsp fun h => { h with due := rest }).hspDue true ⟨5, a.tag, 0⟩) := by
  have hnet : ((s.opTo .hsp 0).inc R.HSP_CNT_TIMEOUT).net = s.net := by
    unfold State.inc State.incBy State.opTo
    rw [State.setFld_net, State.setFld_net]
  unfold execHspTimeout
  rw [hen, if_neg (by decide)]
  dsimp only
  rw [hnet, hdue]

end

end Sys2Proof.Machine
end

section
/-!
Ethernet ports and the host port: the commands complete.
-/
open Sys2Proof Sys2Proof.Machine

/-- Settles O29: each command by the branch that its condition selects; with the port off the end of a frame only moves the ring's index. -/
theorem ethernetAndHostCommandsComplete : Obligations.EthernetAndHostCommandsComplete := by
  unfold Obligations.EthernetAndHostCommandsComplete
  refine ⟨fun s n l e hshed hen hlink hmin hmax => execEthFrameReceived_taken l false e hshed hen hlink hmin hmax,
    fun s n l e hshed hen hlink hmin hmax => execEthFrameReceived_taken l true e hshed hen hlink hmin hmax,
    fun s m n e ho => congrArg Host.Outcome.next
      (State.write_ok s m _ (ethTxKick_pageAt n) ho rfl (s.remoteDown_false n (by decide) (by decide))),
    fun s n e hs hen => ?_, fun s n q hst => ?_, fun s t a hshed hen => congrArg Host.Outcome.next (hspFrame_good false t true _ hshed hen),
    fun s t a v hshed hen => congrArg Host.Outcome.next (hspFrame_good false t true _ hshed hen),
    fun s p t hshed hen => congrArg Host.Outcome.next (hspFrame_good p t false id hshed hen),
    fun s t a rest hen hdue => execHspTimeout_due t hen hdue⟩
  · obtain ⟨hsending, -, hidx⟩ := s.txDone_fields n
    exact ⟨_, execEthTxDone_off e hs hen, hsending, hidx⟩
  · rw [exec_ethLinkChange]
    unfold execEthLinkChange
    rw [hst]
    rfl

end

section
/-!
SUPPORT. Bring-up: the stages of the start whose condition holds (R475–R483).
-/
namespace Sys2Proof.Machine

/-- A list of updates of which none changes the state. -/
theorem State.each_fixed {s : State} {l : List Nat} {f : State → Nat → State} (h : ∀ i ∈ l, f s i = s) : s.each l f = s :=
  List.foldlRecOn l f (motive := fun t => t = s) rfl fun t ht i hi => by rw [ht, h i hi]

section

variable {s : State}

theorem execRomStageDone_due (ok : Bool) (hr : s.sec.released = true) (hd : s.sec.romDone = false) (hst : s.fld R.SEC_BOOT_STAGE = 0) :
    execRomStageDone ok s = .next (s.romStage ok) :=
  congrArg Host.Outcome.next (if_neg (by rw [hr, hd, hst]; decide))

/-- Early service as the ROM enters it, before its post. -/
def earlyStage (s : State) : State := (s.setFld R.SEC_BOOT_TIME_EARLY_MS (min (s.now / 4000) 0xFFFF)).setStage 1

theorem execEarlyServiceReady_unparked (hd : s.sec.romDone = true) (hst : s.fld R.SEC_BOOT_STAGE = 0)
    (hp : (earlyStage s).on R.SEC_EARLY0_PARK_EN = false) : execEarlyServiceReady s =
    .next ((earlyStage s).post 0x0170 locSec
      ((earlyStage s).fld R.SEC_EARLY0_MA_EN + 2 * (earlyStage s).fld R.SEC_EARLY0_MB_EN + 4 * (earlyStage s).fld R.SEC_EARLY0_PARK_EN)) := by
  have hkept : ∀ d, ((earlyStage s).post 0x0170 locSec d).on R.SEC_EARLY0_PARK_EN = false := fun d =>
    (State.on_of_rd (f := R.SEC_EARLY0_PARK_EN) (State.rd_post _ _ _ _ (by decide) (by decide))).trans hp
  have hcond : (s.sec.romDone && s.fld R.SEC_BOOT_STAGE == 0) = true := by
    rw [hd, hst]
    rfl
  exact congrArg Host.Outcome.next ((if_pos hcond).trans (if_neg (Bool.eq_false_iff.mp (hkept _))))

theorem execFullServiceStart_preferred (hst : s.fld R.SEC_BOOT_STAGE = 1) (hp : s.slotPassed (s.fld R.SEC_BOOT_PREF) = true) :
    execFullServiceStart s = .next (s.fullService (s.fld R.SEC_BOOT_PREF)) := by
  unfold execFullServiceStart
  dsimp only
  rw [if_pos hp, hp, hst, if_pos (by decide)]

theorem execFullServiceStart_other (hst : s.fld R.SEC_BOOT_STAGE = 1) (hp : s.slotPassed (s.fld R.SEC_BOOT_PREF) = false)
    (ho : s.slotPassed (1 - s.fld R.SEC_BOOT_PREF) = true) :
    execFullServiceStart s = .next (s.fullService (1 - s.fld R.SEC_BOOT_PREF)) := by
  unfold execFullServiceStart
  dsimp only
  rw [if_neg (Bool.eq_false_iff.mp hp), ho, hst, if_pos (by decide)]

/-- EARLY_MAX with no slot passed and no machine's context running. -/
theorem execEarlyMaxExpiry_idle (hst : s.fld R.SEC_BOOT_STAGE = 1) (hA : s.slotPassed 0 = false) (hB : s.slotPassed 1 = false)
    (h0 : s.cstate 0 ≠ 2) (h3 : s.cstate 3 ≠ 2) : execEarlyMaxExpiry s =
    .next ((s.post 0x4008 locSec (s.fld R.SEC_BOOT_RES_A + s.fld R.SEC_BOOT_RES_B * 16)).setStage 3) := by
  have hkept : ∀ c ∈ [0, 3], ∀ d, (s.post 0x4008 locSec d).cstate c ≠ 2 := by
    simp only [List.mem_cons, List.not_mem_nil, or_false]
    rintro c (rfl | rfl) d
    · rwa [State.cstate, State.fld_post _ _ _ _ (by decide) (by decide)]
    · rwa [State.cstate, State.fld_post _ _ _ _ (by decide) (by decide)]
  unfold execEarlyMaxExpiry
  rw [hst, hA, hB, if_pos (by decide)]
  dsimp only
  rw [State.each_fixed fun c hc => if_neg (hkept c hc _)]

theorem execEarlyOverspeed_over {k : Fin 2} (hst : s.fld R.SEC_BOOT_STAGE = 1) (hc : s.cstate (3 * k) = 2)
    (hge : f32AbsGe (s.rd (R.POS_RPM k)) (s.fld R.SEC_EARLY3_EARLY_SPD) 1 = true)
    (hne : f32Mag (s.rd (R.POS_RPM k)) ≠ s.fld R.SEC_EARLY3_EARLY_SPD * f32One) : execEarlyOverspeed k s = .next (s.tripCtx (3 * k)) :=
  congrArg Host.Outcome.next (if_pos (by rw [hst, hc, hge, bne_iff_ne.mpr hne]; rfl))

end

end Sys2Proof.Machine
end

section
/-!
Bring-up: the commands complete.
-/
open Sys2Proof Sys2Proof.Machine

/-- Settles O2: each stage by the condition that it tests, which the stage before it has left. -/
theorem bringUpCommandsComplete : Obligations.BringUpCommandsComplete := by
  unfold Obligations.BringUpCommandsComplete
  exact ⟨fun s ok hr hd hst => execRomStageDone_due ok hr hd hst, fun s hd hst hp => execEarlyServiceReady_unparked hd hst hp,
    fun s k ecdsa lms hst ht => congrArg Host.Outcome.next (if_pos (by rw [hst, ht]; rfl)),
    fun s hst hp => execFullServiceStart_preferred hst hp, fun s hst hp ho => execFullServiceStart_other hst hp ho,
    fun s hst hA hB h0 h3 => execEarlyMaxExpiry_idle hst hA hB h0 h3, fun s k hst hc hge hne => execEarlyOverspeed_over hst hc hge hne,
    fun s k hst => congrArg Host.Outcome.next (if_pos (by rw [hst]; rfl))⟩

end

section
/-!
SUPPORT. The pages SEC, ROL and REC: what events and posts leave of their block registers, and the commands on images whose condition holds
(R483–R489).
-/
namespace Sys2Proof.Machine

/-- A register of the pages from SEC on, other than the event flags of SEC and ROL. -/
structure RoleReg (a : Nat) : Prop where
  base : PageKind.sec.base ≤ a
  secEvt : a ≠ PageKind.sec.page 0 + 0x10
  rolEvt : a ≠ PageKind.rol.page 0 + 0x10

theorem RoleReg.offJ2 {a : Nat} (h : RoleReg a) : OffJ2 a := by
  have hlo := h.base
  simp only [PageKind.base] at hlo
  constructor <;> simp only [PageKind.base] <;> omega

/-- A change that leaves the registers alone leaves every register's word. -/
theorem Within.rd {P : Part → Bool} {s t : State} (h : Within P s t) (hP : P .regs = false) (a : Nat) : t.rd a = s.rd a := by
  obtain ⟨hregs, -⟩ : t.regs = s.regs ∧ t.srstEnds = s.srstEnds := h.same .regs hP
  unfold State.rd
  rw [hregs]

theorem roleReg_imgStat : RoleReg R.SEC_IMG_STAT := by
  constructor <;> decide

theorem roleReg_boot : RoleReg R.SEC_BOOT := by
  constructor <;> decide

theorem roleReg_attCtl : RoleReg R.SEC_ATT_CTL := by
  constructor <;> decide

namespace State

section RoleReg

variable {a : Nat} (h : RoleReg a)
include h

theorem post_rd_role (s : State) (code l d : Nat) : (s.post code l d).rd a = s.rd a := post_rd_offJ2 h.offJ2 s code l d

theorem evtSec_rd_role (s : State) (b : Nat) : (s.evt .sec 0 b).rd a = s.rd a := evt_rd_ne s _ _ _ h.secEvt

theorem evtRol_rd_role (s : State) (b : Nat) : (s.evt .rol 0 b).rd a = s.rd a := evt_rd_ne s _ _ _ h.rolEvt

theorem postSlot_rd_role (s : State) (slot res : Nat) : (s.postSlot slot res).rd a = s.rd a := by
  unfold postSlot
  split <;> exact post_rd_role h ..

end RoleReg

theorem keysWritten_rd (s : State) (a : Nat) : s.keysWritten.rd a = s.rd a :=
  (s.keysWritten_within (P := (· == .bytes)) rfl).rd rfl a

end State

/-! ### The commands -/

section

variable {s : State} {m : Master}

theorem execImageConfirm_trial (ho : s.opens m .sec 0 = true) (hst : s.fld R.SEC_BOOT_STAGE = 2) (ht : s.onTrial = true) :
    execImageConfirm m s = .next ((((s.setFld R.SEC_BOOT_TRIAL 0).keysWritten).updSec fun x => { x with trialRun := false }).okResp) := by
  unfold execImageConfirm
  rw [State.write_single (a := R.SEC_CTL) _ (by decide) ho rfl, if_pos ⟨hst, ht⟩]

theorem execRollbackAdvance_right (ho : s.opens m .sec 0 = true) (hst : s.fld R.SEC_BOOT_STAGE = 2) (ht : s.onTrial = false)
    (hr : 2 ≤ s.role) (htemp : s.on R.SEC_IMG_STAT_OTP_TEMP_OK = true) : execRollbackAdvance m 0xA5 s =
    .next (((s.setFld R.SEC_VER_RB_CNT (max (s.fld R.SEC_VER_RB_CNT) (s.fld R.SEC_VER_RUN_VER))).post 0x4007 locSec
      (max (s.fld R.SEC_VER_RB_CNT) (s.fld R.SEC_VER_RUN_VER) % 128)).okResp) :=
  congrArg Host.Outcome.next (State.write_single (a := R.SEC_CTL) _ (by decide) ho
    (by rw [hst, ht, htemp, decide_eq_false (Nat.not_lt.mpr hr)]; rfl))

theorem execSlotOpen_right {k : Fin 2} (ho : s.opens m .sec 0 = true) (hrun : s.fld R.SEC_BOOT_SLOT ≠ k.val)
    (hopen : s.fld R.SEC_IMG_STAT_OPENED = 3) (hr : 2 ≤ s.role) (htemp : s.on R.SEC_IMG_STAT_IMG_TEMP_OK = true) :
    execSlotOpen m k s = .next (((s.setFld R.SEC_IMG_CTL_SLOT k).setFld R.SEC_IMG_STAT_OPENED k).okResp) :=
  congrArg Host.Outcome.next (State.write_single (a := R.SEC_IMG_CTL) _ (by decide) ho
    (by rw [hopen, htemp, decide_eq_false (Nat.not_lt.mpr hr), beq_false_of_ne hrun]; rfl))

theorem execSlotActivate_right {k : Fin 2} (ho : s.opens m .sec 0 = true) (hbusy : s.on R.SEC_IMG_STAT_IMG_BUSY = false)
    (hclosed : s.fld R.SEC_IMG_STAT_OPENED ≠ k.val) (hw : bitAt s.rcd.written k = true) (hr : 2 ≤ s.role)
    (htemp : s.on R.SEC_IMG_STAT_IMG_TEMP_OK = true) : execSlotActivate m k s =
    .next ((((s.setFld R.SEC_IMG_CTL_SLOT k).setFld R.SEC_IMG_STAT_IMG_BUSY 1).updSec fun x => { x with act := some k.val }).okResp) :=
  congrArg Host.Outcome.next (State.write_single (a := R.SEC_IMG_CTL) _ (by decide) ho
    (by rw [hbusy, hw, htemp, decide_eq_false (Nat.not_lt.mpr hr), beq_false_of_ne hclosed]; rfl))

/-- The slot that has been verified, after an activation that the checks of R483 ended with `r`. -/
def activated (s : State) (k r : Nat) : State :=
  let s := (s.setFld R.SEC_IMG_STAT_IMG_BUSY 0).updSec fun x => { x with act := none, trialRun := if r = 1 then false else x.trialRun }
  let s := if r = 1 then ((s.setFld R.SEC_BOOT_PREF k).setFld R.SEC_BOOT_TRIAL 1).keysWritten else s
  s.setFld R.SEC_IMG_STAT_RES r

theorem execActivationDone_act {k : Nat} {a b : Bool} (hact : s.sec.act = some k) : execActivationDone a b s =
    .next (((activated s k (s.hallmark k a b)).evt .sec 0 E.SEC_IMG_DONE).postSlot k (s.hallmark k a b)) := by
  unfold execActivationDone
  rw [hact]
  rfl

/-- What an ended activation posts changes neither SEC_IMG_STAT nor SEC_BOOT. -/
theorem activationPosts_rd {a : Nat} (h : RoleReg a) (t : State) (b k r : Nat) : ((t.evt .sec 0 b).postSlot k r).rd a = t.rd a :=
  (State.postSlot_rd_role h ..).trans (State.evtSec_rd_role h ..)

theorem activated_stat (s : State) (k : Nat) {r : Nat} (hr : r < 8) : (activated s k r).on R.SEC_IMG_STAT_IMG_BUSY = false ∧
    (activated s k r).fld R.SEC_IMG_STAT_RES = r := by
  unfold activated
  refine ⟨?_, ?_⟩
  · have hkept : ∀ u : State, (if r = 1 then ((u.setFld R.SEC_BOOT_PREF k).setFld R.SEC_BOOT_TRIAL 1).keysWritten else u).rd
        R.SEC_IMG_STAT = u.rd R.SEC_IMG_STAT := fun u => by
      split
      · rw [State.keysWritten_rd, State.rd_setFld_ne _ _ (by decide), State.rd_setFld_ne _ _ (by decide)]
      · rfl
    rw [State.on_setFld_bits _ _ rfl, State.on_of_rd (f := R.SEC_IMG_STAT_IMG_BUSY) (hkept _), State.updSec_on,
      State.on_setFld_fits _ _ rfl]
    rfl
  · rw [State.fld_setFld_fits _ _ rfl]
    exact Nat.mod_eq_of_lt hr

theorem activated_failed (s : State) (k : Nat) {r : Nat} (hr : r ≠ 1) : (activated s k r).rd R.SEC_BOOT = s.rd R.SEC_BOOT := by
  unfold activated
  dsimp only
  rw [if_neg hr, State.rd_setFld_ne _ _ (by decide), State.updSec_rd, State.rd_setFld_ne _ _ (by decide)]

theorem activated_passed (s : State) {k : Nat} (hk : k < 2) : (activated s k 1).fld R.SEC_BOOT_PREF = k ∧
    (activated s k 1).fld R.SEC_BOOT_TRIAL = 1 := by
  unfold activated
  dsimp only
  rw [if_pos rfl, State.fld_setFld_ne _ _ (by decide), State.fld_setFld_ne _ _ (by decide),
    State.fld_of_rd (f := R.SEC_BOOT_PREF) (State.keysWritten_rd ..), State.fld_of_rd (f := R.SEC_BOOT_TRIAL) (State.keysWritten_rd ..),
    State.fld_setFld_bits _ _ rfl, State.fld_setFld_fits _ _ rfl, State.fld_setFld_fits _ _ rfl]
  exact ⟨Nat.mod_eq_of_lt hk, rfl⟩

/-- The report ends with GO clear and DONE set. -/
theorem execAttestationDone_asked (hgo : s.on R.SEC_ATT_CTL_GO = true) : ∃ t, execAttestationDone s = .next t ∧
    t.on R.SEC_ATT_CTL_GO = false ∧ t.on R.SEC_ATT_CTL_DONE = true := by
  have hrd : ∀ (u : State) (b code l d : Nat), ((u.evt .sec 0 b).post code l d).rd R.SEC_ATT_CTL = u.rd R.SEC_ATT_CTL :=
    fun u b code l d => (State.post_rd_role roleReg_attCtl ..).trans (State.evtSec_rd_role roleReg_attCtl ..)
  refine ⟨_, congrArg Host.Outcome.next (if_pos hgo), ?_, ?_⟩
  · rw [State.on_of_rd (f := R.SEC_ATT_CTL_GO) (hrd ..), State.on_setFld_bits _ _ rfl, State.on_setFld_fits _ _ rfl]
    rfl
  · rw [State.on_of_rd (f := R.SEC_ATT_CTL_DONE) (hrd ..), State.on_setFld_fits _ _ rfl]
    rfl

end

end Sys2Proof.Machine
end

section
/-!
Images, rollback and attestation: the commands complete.
-/
open Sys2Proof Sys2Proof.Machine

/-- Settles O30: the requests by the condition that each of them states, an activation and a report by the registers that they leave. -/
theorem imageCommandsComplete : Obligations.ImageCommandsComplete := by
  unfold Obligations.ImageCommandsComplete
  refine ⟨fun s m ho hst ht => execImageConfirm_trial ho hst ht, fun s m ho hst ht hr htemp => execRollbackAdvance_right ho hst ht hr htemp,
    fun s m k ho hrun hopen hr htemp => execSlotOpen_right ho hrun hopen hr htemp,
    fun s m ho => congrArg Host.Outcome.next (State.write_single (a := R.SEC_IMG_CTL) _ (by decide) ho rfl),
    fun s m k ho hbusy hclosed hw hr htemp => execSlotActivate_right ho hbusy hclosed hw hr htemp,
    fun s k a b hact hne hlt => ⟨_, execActivationDone_act hact, ?_⟩, fun s k a b hact hk hpass => ⟨_, execActivationDone_act hact, ?_⟩,
    fun s m ho => congrArg Host.Outcome.next (State.write_single (a := R.SEC_ATT_CTL) _ (by decide) ho rfl),
    fun s hgo => execAttestationDone_asked hgo⟩
  · obtain ⟨hbusy, hres⟩ := activated_stat s k hlt
    have hboot := (activationPosts_rd roleReg_boot (activated s k (s.hallmark k a b)) E.SEC_IMG_DONE k (s.hallmark k a b)).trans
      (activated_failed s k hne)
    exact ⟨(State.on_of_rd (f := R.SEC_IMG_STAT_IMG_BUSY) (activationPosts_rd roleReg_imgStat ..)).trans hbusy,
      (State.fld_of_rd (f := R.SEC_IMG_STAT_RES) (activationPosts_rd roleReg_imgStat ..)).trans hres,
      State.fld_of_rd (f := R.SEC_BOOT_PREF) hboot, State.fld_of_rd (f := R.SEC_BOOT_TRIAL) hboot⟩
  · rw [hpass]
    obtain ⟨hbusy, hres⟩ := activated_stat s k (r := 1) (by decide)
    obtain ⟨hpref, htrial⟩ := activated_passed s hk
    exact ⟨(State.on_of_rd (f := R.SEC_IMG_STAT_IMG_BUSY) (activationPosts_rd roleReg_imgStat ..)).trans hbusy,
      (State.fld_of_rd (f := R.SEC_IMG_STAT_RES) (activationPosts_rd roleReg_imgStat ..)).trans hres,
      (State.fld_of_rd (f := R.SEC_BOOT_PREF) (activationPosts_rd roleReg_boot ..)).trans hpref,
      (State.fld_of_rd (f := R.SEC_BOOT_TRIAL) (activationPosts_rd roleReg_boot ..)).trans htrial⟩

end

section
/-!
SUPPORT. Statements and sessions: what the end of a verification and the end of a session leave (R491–R496, R504, R528).
-/
namespace Sys2Proof.Machine

theorem roleReg_of_rol {a : Nat} (h : 0x400D1020 ≤ a) : RoleReg a := by
  have hpages : PageKind.sec.page 0 + 0x10 = 0x400D0010 ∧ PageKind.rol.page 0 + 0x10 = 0x400D1010 ∧ PageKind.sec.base = 0x400D0000 := by
    decide
  obtain ⟨hsec, hrol, hbase⟩ := hpages
  constructor <;> omega

theorem roleReg_result : RoleReg R.ROL_RESULT := roleReg_of_rol (by decide)

theorem roleReg_sess : RoleReg R.ROL_SESS := roleReg_of_rol (by decide)

theorem roleReg_chgStat : RoleReg R.ROL_CHG_STAT := roleReg_of_rol (by decide)

theorem roleReg_lc : RoleReg R.SEC_LC := by
  constructor <;> decide

theorem roleReg_keyrev : RoleReg R.SEC_KEYREV := by
  constructor <;> decide

/-- A bit just set reads as set. -/
theorem bitAt_bitSet_fits (v : Fin 16) (i : Fin 4) : bitAt (bitSet v i % 16) i = true := by
  revert v i
  decide

namespace State

/-! ### The end of debug and of a session -/

/-- The end of debug changes no register from SEC on but SEC_DBG_CTL. -/
theorem debugClose_rd_role (s : State) {a : Nat} (h : RoleReg a) (hd : a ≠ R.SEC_DBG_CTL) : s.debugClose.rd a = s.rd a := by
  by_cases hopen : s.on R.SEC_DBG_CTL_OPENED = true
  · have hbase := h.base
    have hne : ∀ p : Fin 2, a ≠ R.TND_STAT p ∧ a ≠ R.TND_DBG ∧ a ≠ R.TND_CNT p := fun p => by
      have hpair : R.TND_STAT p < PageKind.sec.base ∧ R.TND_DBG < PageKind.sec.base ∧ R.TND_CNT p < PageKind.sec.base := by
        revert p
        decide
      omega
    rw [debugClose_opened hopen, post_rd_role h, resumeHalted_rd_ne _ 1 h.offJ2 (hne 1).1 (hne 1).2.1 (hne 1).2.2,
      resumeHalted_rd_ne _ 0 h.offJ2 (hne 0).1 (hne 0).2.1 (hne 0).2.2, rd_setFld_ne _ _ hd]
  · rw [debugClose_closed (Bool.eq_false_iff.mpr hopen)]

theorem debugClose_shut (s : State) : s.debugClose.on R.SEC_DBG_CTL_OPENED = false := by
  by_cases hopen : s.on R.SEC_DBG_CTL_OPENED = true
  · exact (debugClose_fields hopen).1
  · rw [debugClose_closed (Bool.eq_false_iff.mpr hopen)]
    exact Bool.eq_false_iff.mpr hopen

theorem sessEnd_rd_role (s : State) {a : Nat} (h : RoleReg a) (hd : a ≠ R.SEC_DBG_CTL) (hs : a ≠ R.ROL_SESS) (hi : a ≠ R.SEC_IMG_STAT) :
    s.sessEnd.rd a = s.rd a := by
  unfold sessEnd
  split
  · rfl
  · rw [debugClose_rd_role _ h hd, evtRol_rd_role h, rd_setFld_ne _ _ hi, rd_wr_ne _ _ hs]

theorem sessEnd_sec (s : State) : s.sessEnd.sec = s.sec :=
  (s.sessEnd_within (P := (· != .sec)) rfl rfl rfl rfl rfl rfl).same .sec rfl

/-- A session that ends: no role, no slot open, debug closed (R486, R494, R504). -/
theorem sessEnd_fields {s : State} (h : s.role ≠ 0) : s.sessEnd.role = 0 ∧ s.sessEnd.fld R.SEC_IMG_STAT_OPENED = 3 ∧
    s.sessEnd.on R.SEC_DBG_CTL_OPENED = false := by
  unfold sessEnd
  rw [if_neg h]
  refine ⟨?_, ?_, debugClose_shut _⟩
  · unfold role
    rw [fld_of_rd (f := R.ROL_SESS_ROLE) ((debugClose_rd_role _ roleReg_sess (by decide)).trans (evtRol_rd_role roleReg_sess ..)),
      fld_setFld_ne _ _ (by decide)]
    unfold fld
    rw [show R.ROL_SESS_ROLE.addr = R.ROL_SESS from rfl, rd_wr]
    rfl
  · rw [fld_of_rd (f := R.SEC_IMG_STAT_OPENED) ((debugClose_rd_role _ roleReg_imgStat (by decide)).trans
      (evtRol_rd_role roleReg_imgStat ..)), fld_setFld_fits _ _ rfl]
    rfl

/-! ### The end of a verification -/

/-- The state as an accepted statement leaves it, before its effect (R492, R493). -/
def stmtAccepted (s : State) : State :=
  let t := (if s.stmtKind = 2 then s else s.updSec fun x => { x with nonce := false }).wr R.ROL_RESULT (BitVec.ofNat 32 2)
  (t.evt .rol 0 E.ROL_RESULT).post 0x4003 locRol (s.stmtKind % 8 + t.stmtCred % 16 * 16)

theorem stmtEnd_accepted {s : State} {kind : Nat} (accept refuse : State → State) (hb : s.on R.ROL_RESULT_BUSY = true)
    (hk : s.stmtKind = kind) (hr : s.stmtReason = 0) : s.stmtEnd kind accept refuse = accept s.stmtAccepted := by
  unfold stmtEnd
  dsimp only
  rw [hb, hk, if_neg (by simp), hr, if_pos rfl, if_pos rfl, if_pos rfl, Nat.zero_mul, Nat.add_zero, Nat.add_zero, ← hk]
  rfl

theorem stmtAccepted_rd (s : State) {a : Nat} (h : RoleReg a) : s.stmtAccepted.rd a = if a = R.ROL_RESULT then 2 else s.rd a := by
  unfold stmtAccepted
  dsimp only
  rw [post_rd_role h, evtRol_rd_role h]
  by_cases ha : a = R.ROL_RESULT
  · rw [if_pos ha, ha, rd_wr]
    rfl
  · rw [if_neg ha, rd_wr_ne _ _ ha]
    split <;> rfl

theorem stmtAccepted_rd_ne (s : State) {a : Nat} (h : RoleReg a) (ha : a ≠ R.ROL_RESULT) : s.stmtAccepted.rd a = s.rd a := by
  rw [stmtAccepted_rd s h, if_neg ha]

theorem stmtAccepted_result (s : State) : s.stmtAccepted.rd R.ROL_RESULT = 2 := by
  rw [stmtAccepted_rd s roleReg_result, if_pos rfl]

theorem stmtAccepted_sec (s : State) (hk : s.stmtKind ≠ 2) : s.stmtAccepted.sec = { s.sec with nonce := false } := by
  have hpost : ∀ (t : State) (code l d : Nat), (t.post code l d).sec = t.sec := fun t code l d =>
    (t.post_within (P := (· != .sec)) code l d rfl rfl rfl).same .sec rfl
  unfold stmtAccepted
  dsimp only
  rw [hpost, if_neg hk]
  rfl

/-- The result that firmware reads: BUSY clear, RESULT accepted (R508). -/
theorem accepted_fields {t : State} (h : t.rd R.ROL_RESULT = 2) : t.on R.ROL_RESULT_BUSY = false ∧ t.fld R.ROL_RESULT_RESULT = 1 := by
  constructor
  · unfold on fld
    rw [show R.ROL_RESULT_BUSY.addr = R.ROL_RESULT from rfl, h]
    decide
  · unfold fld
    rw [show R.ROL_RESULT_RESULT.addr = R.ROL_RESULT from rfl, h]
    decide

theorem stmtAccepted_stmt (s : State) : s.stmtAccepted.stmt = s.stmt := by
  have hne : ∀ k, 0x400D1020 ≤ R.ROL_STMT k ∧ R.ROL_STMT k ≠ R.ROL_RESULT := fun k => by
    simp only [R.ROL_STMT, R.ROL_RESULT]
    omega
  unfold stmt
  exact congrArg (List.flatMap · _) (funext fun k => by rw [stmtAccepted_rd_ne s (roleReg_of_rol (hne k).1) (hne k).2])

theorem stmtAccepted_stmtCred (s : State) : s.stmtAccepted.stmtCred = s.stmtCred := by
  unfold stmtCred
  rw [stmtAccepted_stmt]

theorem stmtAccepted_stmtBody (s : State) (i : Nat) : s.stmtAccepted.stmtBody i = s.stmtBody i := by
  unfold stmtBody
  rw [stmtAccepted_stmt]

theorem stmtAccepted_credRole (s : State) (c : Nat) : s.stmtAccepted.credRole c = s.credRole c := by
  have hne : 0x400D1020 ≤ R.ROL_CRED c ∧ R.ROL_CRED c ≠ R.ROL_RESULT := by
    simp only [R.ROL_CRED, R.ROL_RESULT]
    omega
  exact fld_of_rd (f := R.ROL_CRED_ROLE c) (stmtAccepted_rd_ne s (roleReg_of_rol hne.1) hne.2)

/-- The right to a life-cycle transition does not depend on the verification's result. -/
theorem stmtAccepted_lcRight (s : State) (hk : s.stmtKind ≠ 2) (r target : Nat) : s.stmtAccepted.lcRight r target = s.lcRight r target := by
  have hreq : s.stmtAccepted.fld R.SEC_LC_REQ = s.fld R.SEC_LC_REQ :=
    fld_of_rd (f := R.SEC_LC_REQ) (stmtAccepted_rd_ne s roleReg_lc (by decide))
  unfold lcRight
  simp only [hreq, stmtAccepted_sec s hk, stmtAccepted_credRole, stmtAccepted_stmtCred]

end State

/-! ### The commands -/

section

variable {s : State}

/-- The session that an AUTH statement opens (R494). -/
theorem execAuthStatement_accepted (hb : s.on R.ROL_RESULT_BUSY = true) (hk : s.stmtKind = 1) (hr : s.stmtReason = 0) :
    ∃ t, execAuthStatement s = .next t ∧ t.on R.ROL_RESULT_BUSY = false ∧ t.fld R.ROL_RESULT_RESULT = 1 ∧ t.sec.nonce = false ∧
      t.fld R.ROL_SESS_LEFT_S = 900 := by
  have hsec := s.stmtAccepted_sec (by rw [hk]; decide)
  refine ⟨_, congrArg Host.Outcome.next (State.stmtEnd_accepted _ _ hb hk hr), ?_⟩
  obtain ⟨hbusy, hresult⟩ := State.accepted_fields (t := s.stmtAccepted.sessEnd.wr R.ROL_SESS
      (BitVec.ofNat 32 (s.stmtAccepted.credRole s.stmtAccepted.stmtCred + s.stmtAccepted.stmtCred % 16 * 16 + 900 * 2 ^ 16)))
    (by rw [State.rd_wr_ne _ _ (by decide), State.sessEnd_rd_role _ roleReg_result (by decide) (by decide) (by decide),
      State.stmtAccepted_result])
  refine ⟨hbusy, hresult, ?_, ?_⟩
  · rw [State.wr_sec, State.sessEnd_sec, hsec]
  · have hrole : s.stmtAccepted.credRole s.stmtAccepted.stmtCred < 4 := State.fld_lt ..
    unfold State.fld getBits
    rw [show R.ROL_SESS_LEFT_S.addr = R.ROL_SESS from rfl, State.rd_wr, BitVec.toNat_ofNat]
    simp only [R.ROL_SESS_LEFT_S]
    omega

/-- The first signature of a change (R500). -/
theorem execChangeStatement_first (hb : s.on R.ROL_RESULT_BUSY = true) (hk : s.stmtKind = 2) (hr : s.stmtReason = 0)
    (hc : s.chgState = 2) : ∃ t, execChangeStatement s = .next t ∧ t.on R.ROL_RESULT_BUSY = false ∧ t.fld R.ROL_RESULT_RESULT = 1 ∧
      t.chgState = 3 := by
  have hstate : s.stmtAccepted.chgState = 2 :=
    (State.fld_of_rd (f := R.ROL_CHG_STAT_STATE) (State.stmtAccepted_rd_ne s roleReg_chgStat (by decide))).trans hc
  have hsigned : s.stmtAccepted.chgSigned = (s.stmtAccepted.setFld R.ROL_CHG_STAT_CRED1 s.stmtAccepted.stmtCred).chgTo_ 3 := if_pos hstate
  refine ⟨_, congrArg Host.Outcome.next (State.stmtEnd_accepted _ _ hb hk hr), ?_⟩
  rw [hsigned]
  obtain ⟨hbusy, hresult⟩ := State.accepted_fields
    (t := (s.stmtAccepted.setFld R.ROL_CHG_STAT_CRED1 s.stmtAccepted.stmtCred).chgTo_ 3) (by
      unfold State.chgTo_
      rw [State.evtRol_rd_role roleReg_result, State.rd_setFld_ne _ _ (by decide), State.rd_setFld_ne _ _ (by decide),
        State.stmtAccepted_result])
  refine ⟨hbusy, hresult, ?_⟩
  unfold State.chgState State.chgTo_
  rw [State.fld_of_rd (f := R.ROL_CHG_STAT_STATE) (State.evtRol_rd_role roleReg_chgStat ..), State.fld_setFld_fits _ _ rfl]
  rfl

/-- A first RETURNED statement is held (R496). -/
theorem execLifecycleStatement_held (hb : s.on R.ROL_RESULT_BUSY = true) (hk : s.stmtKind = 3) (hr : s.stmtReason = 0)
    (hl : s.lcRight (s.credRole s.stmtCred) (s.stmtBody 0) = some true) : execLifecycleStatement s =
    .next ((s.stmtAccepted.setFld R.SEC_LC_HELD 1).updSec fun x => { x with held := some s.stmtCred }) := by
  have hright : s.stmtAccepted.lcRight (s.stmtAccepted.credRole s.stmtAccepted.stmtCred) (s.stmtAccepted.stmtBody 0) = some true := by
    rw [State.stmtAccepted_credRole, State.stmtAccepted_stmtCred, State.stmtAccepted_stmtBody,
      State.stmtAccepted_lcRight s (by rw [hk]; decide), hl]
  refine congrArg Host.Outcome.next ((State.stmtEnd_accepted _ _ hb hk hr).trans ((if_pos hright).trans ?_))
  rw [State.stmtAccepted_stmtCred]

/-- A CLEAR statement while the recorder flushes waits for the flush (R529). -/
theorem execClearStatement_flushing (hb : s.on R.ROL_RESULT_BUSY = true) (hk : s.stmtKind = 4) (hr : s.stmtReason = 0)
    (hf : s.on R.REC_STAT_FLUSHING = true) : execClearStatement s =
    .next (s.stmtAccepted.updRec fun r => { r with clearWait := some (s.stmtCred, s.stmtBody 0) }) := by
  have hflushing : s.stmtAccepted.on R.REC_STAT_FLUSHING = true :=
    (State.on_of_rd (f := R.REC_STAT_FLUSHING) (State.stmtAccepted_rd_ne s (roleReg_of_rol (by decide)) (by decide))).trans hf
  refine congrArg Host.Outcome.next ((State.stmtEnd_accepted _ _ hb hk hr).trans ((if_pos hflushing).trans ?_))
  rw [State.stmtAccepted_stmtCred, State.stmtAccepted_stmtBody]

/-- A REVOKE statement for an ECDSA key (R495). -/
theorem execRevokeStatement_ecdsa (hb : s.on R.ROL_RESULT_BUSY = true) (hk : s.stmtKind = 5) (hr : s.stmtReason = 0)
    (h0 : s.stmtBody 0 = 0) : execRevokeStatement s =
    .next (s.stmtAccepted.setFld R.SEC_KEYREV_ECDSA (bitSet (s.fld R.SEC_KEYREV_ECDSA) (s.stmtBody 1))) := by
  have hrev : s.stmtAccepted.fld R.SEC_KEYREV_ECDSA = s.fld R.SEC_KEYREV_ECDSA :=
    State.fld_of_rd (f := R.SEC_KEYREV_ECDSA) (State.stmtAccepted_rd_ne s roleReg_keyrev (by decide))
  refine congrArg Host.Outcome.next ((State.stmtEnd_accepted _ _ hb hk hr).trans ?_)
  dsimp only
  rw [State.stmtAccepted_stmtBody, if_pos h0, hrev, State.stmtAccepted_stmtBody]

end

end Sys2Proof.Machine
end

section
/-!
Statements and sessions: the commands complete.
-/
open Sys2Proof Sys2Proof.Machine

/-- Settles O31: an accepted statement by its effect on the state that its verification leaves, the end of a session by what it closes. -/
theorem statementCommandsComplete : Obligations.StatementCommandsComplete := by
  unfold Obligations.StatementCommandsComplete
  refine ⟨fun s m ho => ⟨_, congrArg Host.Outcome.next (State.write_single (a := R.ROL_CTL) _ (by decide) ho rfl), rfl, rfl⟩,
    fun s m ho hb => congrArg Host.Outcome.next (State.write_single (a := R.ROL_CTL) _ (by decide) ho (by rw [hb]; rfl)),
    fun s hb hk hr => execAuthStatement_accepted hb hk hr, fun s hb hk hr hc => execChangeStatement_first hb hk hr hc,
    fun s hb hk hr hl => ⟨_, execLifecycleStatement_held hb hk hr hl, ?_⟩,
    fun s hb hk hr hf => ⟨_, execClearStatement_flushing hb hk hr hf, ?_⟩,
    fun s hb hk hr h0 h1 => ⟨_, execRevokeStatement_ecdsa hb hk hr h0, ?_⟩, fun s => rfl,
    fun s m ho => congrArg Host.Outcome.next (State.write_single (a := R.ROL_CTL) _ (by decide) ho rfl),
    fun s hrole => ⟨_, rfl, State.sessEnd_fields hrole⟩⟩
  · refine ⟨(State.accepted_fields ?_).1, ?_, rfl⟩
    · rw [State.updSec_rd, State.rd_setFld_ne _ _ (by decide), State.stmtAccepted_result]
    · rw [State.updSec_on, State.on_setFld_fits _ _ rfl]
      rfl
  · obtain ⟨hbusy, hresult⟩ := State.accepted_fields s.stmtAccepted_result
    rw [State.updRec_on, State.updRec_fld]
    exact ⟨hbusy, hresult, rfl⟩
  · have hfld : s.fld R.SEC_KEYREV_ECDSA < 16 := State.fld_lt ..
    refine ⟨(State.accepted_fields ?_).1, ?_⟩
    · rw [State.rd_setFld_ne _ _ (by decide), State.stmtAccepted_result]
    · rw [State.fld_setFld_fits _ _ rfl]
      exact bitAt_bitSet_fits ⟨_, hfld⟩ ⟨_, h1⟩

end

section
/-!
SUPPORT. Two-party changes: what an opened session, its digest and its commit leave (R498–R502).
-/
namespace Sys2Proof.Machine

/-- The words of the digest lie apart from each other, from the state of the change and from the event flags. -/
theorem rolDigest_apart (k : Nat) : R.ROL_DIGEST k ≠ R.ROL_CHG_STAT ∧ RoleReg (R.ROL_DIGEST k) := by
  refine ⟨?_, roleReg_of_rol ?_⟩
  · simp only [R.ROL_DIGEST, R.ROL_CHG_STAT]
    omega
  · simp only [R.ROL_DIGEST]
    omega

theorem rolDigest_inj {i j : Nat} (h : R.ROL_DIGEST i = R.ROL_DIGEST j) : i = j := by
  simp only [R.ROL_DIGEST] at h
  omega

namespace State

/-- Registers written one by one, each with its own word. -/
theorem each_wr_rd (s : State) (reg : Nat → Nat) (v : Nat → Word) (hinj : ∀ i j, reg i = reg j → i = j) (l : List Nat) {i : Nat}
    (hi : i ∈ l ∨ s.rd (reg i) = v i) : (s.each l fun s k => s.wr (reg k) (v k)).rd (reg i) = v i := by
  induction l generalizing s with
  | nil => exact hi.resolve_left (List.not_mem_nil)
  | cons k l ih =>
    refine ih _ ?_
    by_cases hk : i = k
    · rw [hk, rd_wr]
      exact .inr rfl
    · rw [rd_wr_ne _ _ fun h => hk (hinj _ _ h)]
      exact hi.imp_left fun h => (List.mem_cons.mp h).resolve_left hk

theorem chgTo_state (s : State) {st : Nat} (h : st < 8) : (s.chgTo_ st).chgState = st := by
  unfold chgState chgTo_
  rw [fld_of_rd (f := R.ROL_CHG_STAT_STATE) (evtRol_rd_role roleReg_chgStat ..), fld_setFld_fits _ _ rfl]
  exact Nat.mod_eq_of_lt h

/-- The state of the change aside, its status register stays. -/
theorem chgTo_left (s : State) (st : Nat) : (s.chgTo_ st).fld R.ROL_CHG_STAT_LEFT_S = s.fld R.ROL_CHG_STAT_LEFT_S ∧
    (s.chgTo_ st).fld R.ROL_CHG_STAT_FAILS = s.fld R.ROL_CHG_STAT_FAILS := by
  unfold chgTo_
  rw [fld_of_rd (f := R.ROL_CHG_STAT_LEFT_S) (evtRol_rd_role roleReg_chgStat ..),
    fld_of_rd (f := R.ROL_CHG_STAT_FAILS) (evtRol_rd_role roleReg_chgStat ..), fld_setFld_bits _ _ rfl, fld_setFld_bits _ _ rfl]
  exact ⟨rfl, rfl⟩

/-- A session open on its pages (R498), before its post. -/
def chgOpened (s : State) (pages : Nat) : State :=
  let s := (s.setFld R.ROL_CHG_CTL_PAGES pages).setFld R.ROL_CHG_SEQ_SEQ (s.fld R.ROL_CHG_SEQ_SEQ + 1)
  let s := changePages.zipIdx.foldl (fun s e => if bitAt pages e.2 then s.setFld (sessionFld e.1) 1 else s) s
  (((s.setFld R.ROL_CHG_STAT_CRED1 0).setFld R.ROL_CHG_STAT_FAILS 0).setFld R.ROL_CHG_STAT_LEFT_S 600).chgTo_ 1

theorem chgOpened_fields (s : State) (pages : Nat) : (s.chgOpened pages).chgState = 1 ∧
    (s.chgOpened pages).fld R.ROL_CHG_STAT_LEFT_S = 600 ∧ (s.chgOpened pages).fld R.ROL_CHG_STAT_FAILS = 0 := by
  unfold chgOpened
  dsimp only
  refine ⟨chgTo_state _ (by decide), ?_, ?_⟩
  · rw [(chgTo_left _ _).1, fld_setFld_fits _ _ rfl]
    rfl
  · rw [(chgTo_left _ _).2, fld_setFld_bits _ _ rfl, fld_setFld_fits _ _ rfl]
    rfl

/-- A post changes nothing of the change's status. -/
theorem post_chgStat (s : State) (code l d : Nat) : (s.post code l d).rd R.ROL_CHG_STAT = s.rd R.ROL_CHG_STAT :=
  post_rd_role roleReg_chgStat ..

theorem post_sec (s : State) (code l d : Nat) : (s.post code l d).sec = s.sec :=
  (s.post_within (P := (· != .sec)) code l d rfl rfl rfl).same .sec rfl

/-- The digest of the change in ROL_DIGEST (R499). -/
def digestShown (s : State) : State :=
  s.each (List.range 12) fun t k => t.wr (R.ROL_DIGEST k) (BitVec.ofNat 32 (ofLe (((sha384 s.digestInput).drop (4 * k)).take 4)))

theorem digestShown_rd (s : State) (k : Fin 12) :
    s.digestShown.rd (R.ROL_DIGEST k) = BitVec.ofNat 32 (ofLe (((sha384 s.digestInput).drop (4 * k.val)).take 4)) :=
  each_wr_rd s R.ROL_DIGEST (fun k => BitVec.ofNat 32 (ofLe (((sha384 s.digestInput).drop (4 * k)).take 4))) (fun _ _ => rolDigest_inj) _
    (.inl (List.mem_range.mpr k.isLt))

/-- A committed change waits for the next boundary, still in its state (R501). -/
theorem chgCommitted_fields (s : State) : s.chgCommitted.sec.apply = true ∧ s.chgCommitted.chgState = s.chgState := by
  unfold chgCommitted
  dsimp only
  refine ⟨by rw [post_sec]; rfl, ?_⟩
  unfold chgState
  rw [fld_of_rd (f := R.ROL_CHG_STAT_STATE) (post_chgStat ..), updSec_fld, fld_of_rd (f := R.ROL_CHG_STAT_STATE) (keysWritten_rd ..)]

end State

/-! ### The commands -/

section

variable {s : State} {m : Master}

theorem execChangeOpen_idle (p : Fin 64) (ho : s.opens m .rol 0 = true) (hc : s.chgState = 0) : execChangeOpen m p s =
    .next (((s.chgOpened p).post 0x5001 locRol ((s.chgOpened p).fld R.ROL_CHG_SEQ_SEQ % 65536 + p * 2 ^ 16)).okResp) := by
  have hseq : ∀ t : State, (t.chgTo_ 1).fld R.ROL_CHG_SEQ_SEQ = t.fld R.ROL_CHG_SEQ_SEQ := fun t => by
    unfold State.chgTo_
    rw [State.fld_of_rd (f := R.ROL_CHG_SEQ_SEQ) (State.evtRol_rd_role (roleReg_of_rol (by decide)) ..), State.fld_setFld_ne _ _ (by decide)]
  unfold execChangeOpen
  rw [State.write_single (a := R.ROL_CHG_CTL) _ (by decide) ho (by rw [hc]; rfl)]
  dsimp only
  rw [State.chgOpened, hseq]

theorem execChangeSeal_open (ho : s.opens m .rol 0 = true) (hc : s.chgState = 1) (hs : s.sec.sealing = false)
    (hl : s.leavesInstaller = true) : execChangeSeal m s = .next ((s.updSec fun x => { x with sealing := true }).okResp) := by
  unfold execChangeSeal
  rw [State.write_single (a := R.ROL_CHG_CTL) _ (by decide) ho (by rw [hc, hs]; rfl), if_pos hl]

theorem execChangeDigestDone_sealing (hs : s.sec.sealing = true) : execChangeDigestDone s =
    .next ((s.digestShown.updSec fun x => { x with sealing := false }).chgTo_ 2) := congrArg Host.Outcome.next (if_pos hs)

theorem execChangeCommit_signed (ok : Bool) (hc : s.chgState = 4) (ha : s.sec.apply = false) : execChangeCommit ok s =
    .next (if ok then s.chgCommitted else s.chgDiscard 4) := congrArg Host.Outcome.next (if_pos ⟨hc, by rw [ha]; rfl⟩)

theorem execChangeAbort_window (ho : s.opens m .rol 0 = true) (h1 : 1 ≤ s.chgState) (h3 : s.chgState ≤ 3) :
    execChangeAbort m s = .next (s.chgDiscard 2).okResp := by
  unfold execChangeAbort
  rw [State.write_single (a := R.ROL_CHG_CTL) _ (by decide) ho rfl, if_pos ⟨h1, h3⟩]

end

end Sys2Proof.Machine
end

section
/-!
Two-party changes: the commands complete.
-/
open Sys2Proof Sys2Proof.Machine

/-- Settles O32: each command by the state of the change that it meets; an opened session, a digest and a commit by the registers that they
leave. -/
theorem changeCommandsComplete : Obligations.ChangeCommandsComplete := by
  unfold Obligations.ChangeCommandsComplete
  refine ⟨fun s m p ho hc => ⟨_, execChangeOpen_idle p ho hc, rfl, ?_⟩, fun s m ho hc hs hl => execChangeSeal_open ho hc hs hl,
    fun s hs => ⟨_, execChangeDigestDone_sealing hs, State.chgTo_state _ (by decide), rfl, fun k => ?_⟩,
    fun s hc ha => ⟨_, execChangeCommit_signed true hc ha, s.chgCommitted_fields.1, s.chgCommitted_fields.2.trans hc⟩,
    fun s hc ha => execChangeCommit_signed false hc ha, fun s h1 h3 => congrArg Host.Outcome.next (if_pos ⟨h1, h3⟩),
    fun s m ho h1 h3 => execChangeAbort_window ho h1 h3⟩
  · obtain ⟨hstate, hleft, hfails⟩ := s.chgOpened_fields p
    refine ⟨?_, ?_, ?_⟩
    · unfold State.chgState
      rw [State.okResp_fld, State.fld_of_rd (f := R.ROL_CHG_STAT_STATE) (State.post_chgStat ..)]
      exact hstate
    · rw [State.okResp_fld, State.fld_of_rd (f := R.ROL_CHG_STAT_LEFT_S) (State.post_chgStat ..), hleft]
    · rw [State.okResp_fld, State.fld_of_rd (f := R.ROL_CHG_STAT_FAILS) (State.post_chgStat ..), hfails]
  · obtain ⟨hne, hrole⟩ := rolDigest_apart k
    unfold State.chgTo_
    rw [State.evtRol_rd_role hrole, State.rd_setFld_ne _ _ hne, State.updSec_rd, State.digestShown_rd]

end

section
/-!
SUPPORT. The recorder's own registers, flush triggers and the NOR page: what each step leaves of the registers outside the REC page, how a
trigger starts or joins a flush, and what the ends of a flush and of a page operation leave (R513–R529, R539–R544).
-/
namespace Sys2Proof.Machine

/-- A register outside the REC page. -/
def RecOut (a : Nat) : Prop := a < PageKind.recorder.base ∨ PageKind.tmp.base ≤ a

theorem RecOut.ne {a b : Nat} (h : RecOut a) (h1 : PageKind.recorder.base ≤ b) (h2 : b < PageKind.tmp.base) : a ≠ b := by
  rintro rfl
  exact h.elim (Nat.not_lt.mpr h1) (Nat.not_le.mpr h2)

theorem recOut_detach : RecOut R.PWR_DETACH_STAT := .inl (by decide)

namespace State

/-! ### Registers -/

theorem putBytes_rd (s : State) (a : Nat) (l : List Byte) (r : Nat) : (s.putBytes a l).rd r = s.rd r :=
  (s.putBytes_within (P := (· == .bytes)) a l rfl).rd rfl r

theorem recSnapshot_rd (s : State) (r : Nat) : s.recSnapshot.rd r = s.rd r :=
  (s.recSnapshot_within (P := fun p => p == .bytes || p == .rcd) rfl rfl).rd rfl r

section RecOut

variable {a : Nat} (h : RecOut a)
include h

theorem setFld_rd_recOut (s : State) {f : Fld} (v : Nat) (h1 : PageKind.recorder.base ≤ f.addr := by decide)
    (h2 : f.addr < PageKind.tmp.base := by decide) : (s.setFld f v).rd a = s.rd a := rd_setFld_ne _ _ (h.ne h1 h2)

theorem evt_rd_recOut (s : State) (b : Nat) : (s.evt .recorder 0 b).rd a = s.rd a :=
  evt_rd_ne _ _ _ _ (h.ne (by decide) (by decide))

theorem recPut_rd_recOut (s : State) (p : Post) : (s.recPut p).rd a = s.rd a := by
  unfold recPut recTakeSeq
  dsimp only
  split
  · rw [updRec_rd, setFld_rd_recOut h, setFld_rd_recOut h, setFld_rd_recOut h, putBytes_rd]
  · rw [updRec_rd, evt_rd_recOut h, inc_rd_ne _ (h.ne (by decide) (by decide)), setFld_rd_recOut h]

theorem rateEnd_rd_recOut (s : State) : s.rateEnd.rd a = s.rd a := by
  unfold rateEnd
  dsimp only
  rw [foldl_rd _ _ fun t _ _ => recPut_rd_recOut h t _, updRec_rd]

theorem recSync_rd_recOut (s : State) : s.recSync.rd a = s.rd a := by
  unfold recSync
  dsimp only
  split
  · rfl
  · rw [setFld_rd_recOut h, updRec_rd, rateEnd_rd_recOut h]

theorem logReserve_rd_recOut (s : State) : s.logReserve.rd a = s.rd a := by
  unfold logReserve
  dsimp only
  split
  · rw [incBy, setFld_rd_recOut h, setFld_rd_recOut h]
    rfl
  · rfl

theorem logRecord_rd_recOut (s : State) : s.logRecord.rd a = s.rd a := by
  have hlogged : ∀ (t : State) (i j k : Nat),
      (((t.setFld R.REC_HEAD_INDEX i).setFld R.REC_RING_FL j).setFld R.REC_STAT_BACKLOG k).rd a = t.rd a := fun t i j k => by
    rw [setFld_rd_recOut h, setFld_rd_recOut h, setFld_rd_recOut h]
  have hwrapped : ∀ (t : State) (c : Prop) [Decidable c], (if c then t.setFld R.REC_TAIL_WRAPPED 1 else t).rd a = t.rd a := fun t c _ => by
    split
    · exact setFld_rd_recOut h ..
    · rfl
  unfold logRecord
  dsimp only
  split
  · rw [logReserve_rd_recOut h, hwrapped, hlogged, putBytes_rd]
  · rw [hwrapped, hlogged, putBytes_rd]

theorem logRecords_rd_recOut (s : State) (n : Nat) : (s.logRecords n).rd a = s.rd a := each_rd _ _ fun t _ _ => logRecord_rd_recOut h t

end RecOut

/-- A clear that takes effect moves TAIL and starts the erase. -/
theorem recClearEffect_rd_ne (s : State) (n : Nat) {a : Nat} (h1 : a ≠ R.REC_TAIL) (h2 : a ≠ R.REC_STAT)
    (h3 : a ≠ PageKind.recorder.page 0 + 0x10) : (s.recClearEffect n).rd a = s.rd a := by
  unfold recClearEffect
  split
  · rfl
  · dsimp only
    split
    · rfl
    · split
      · rw [rd_setFld_ne _ _ h2, rd_setFld_ne _ _ h1, evt_rd_ne _ _ _ _ h3, updRec_rd]
      · rw [evt_rd_ne _ _ _ _ h3, updRec_rd]

theorem logRecords_clearWait (s : State) (n : Nat) : (s.logRecords n).rcd.clearWait = s.rcd.clearWait := by
  have hrcd : (s.logRecords n).rcd = s.rcd := (s.logRecords_within (P := fun p => p == .regs || p == .bytes) n rfl rfl).same .rcd rfl
  rw [hrcd]

theorem recClearEffect_clearWait (s : State) (n : Nat) : (s.recClearEffect n).rcd.clearWait = s.rcd.clearWait := by
  unfold recClearEffect
  split
  · rfl
  · dsimp only
    split
    · rfl
    · split
      · rw [setFld_rcd, setFld_rcd, evt, setFld_rcd]
        rfl
      · rw [evt, setFld_rcd]
        rfl

theorem clearGo_none {s : State} (h : s.rcd.clearWait = none) : s.clearGo = s := by
  unfold clearGo
  rw [h]

/-- No detach waits for the flush. -/
theorem drainNets_idle {s : State} (h : s.fld R.PWR_DETACH_STAT_STATE = 0) : s.drainNets = s :=
  if_neg (by rw [h]; simp)

/-! ### Flush triggers (R524) -/

theorem recTrigger_starts {s : State} {cause : Nat} (hc : cause ≠ 2) (hf : s.on R.REC_STAT_FLUSHING = false) : s.recTrigger cause =
    ((s.setFld R.REC_STAT_FLUSHING 1).setFld R.REC_FLUSH_CAUSE cause).updRec fun r =>
      { r with upto := s.fld R.REC_STAT_BACKLOG, snapDue := s.snapWanted cause, step4 := false,
               open_ := if s.fld R.REC_STAT_BACKLOG = 0 then r.open_ else none } := by
  unfold recTrigger
  simp only [hc, hf, Bool.false_and, decide_false, Bool.false_eq_true, if_false]

theorem recTrigger_joins {s : State} {cause : Nat} (hc : cause ≠ 2) (hf : s.on R.REC_STAT_FLUSHING = true) (h4 : s.rcd.step4 = false) :
    s.recTrigger cause = s.updRec fun r =>
      { r with upto := s.fld R.REC_STAT_BACKLOG, snapDue := r.snapDue || s.snapWanted cause,
               open_ := if s.fld R.REC_STAT_BACKLOG = 0 then r.open_ else none } := by
  unfold recTrigger
  simp only [hc, hf, h4, Bool.true_and, decide_false, Bool.not_false, Bool.false_eq_true, if_false, if_true]

theorem recTrigger_starts_fields {s : State} {cause : Nat} (hc : cause ≠ 2) (hlt : cause < 8) (hf : s.on R.REC_STAT_FLUSHING = false) :
    (s.recTrigger cause).on R.REC_STAT_FLUSHING = true ∧ (s.recTrigger cause).fld R.REC_FLUSH_CAUSE = cause ∧
    (s.recTrigger cause).rcd.upto = s.fld R.REC_STAT_BACKLOG ∧ (s.recTrigger cause).rcd.snapDue = s.snapWanted cause := by
  rw [recTrigger_starts hc hf]
  refine ⟨?_, ?_, rfl, rfl⟩
  · rw [updRec_on, on_of_rd (f := R.REC_STAT_FLUSHING) (rd_setFld_ne _ _ (by decide)), on_setFld_fits _ _ rfl]
    rfl
  · rw [updRec_fld, fld_setFld_fits _ _ rfl]
    exact Nat.mod_eq_of_lt hlt

theorem recTrigger_joins_fields {s : State} {cause : Nat} (hc : cause ≠ 2) (hf : s.on R.REC_STAT_FLUSHING = true)
    (h4 : s.rcd.step4 = false) : (s.recTrigger cause).regs = s.regs ∧ (s.recTrigger cause).rcd.upto = s.fld R.REC_STAT_BACKLOG ∧
    (s.recTrigger cause).rcd.snapDue = (s.rcd.snapDue || s.snapWanted cause) := by
  rw [recTrigger_joins hc hf h4]
  exact ⟨rfl, rfl, rfl⟩

/-! ### The end of a flush (R524, R525, R527) -/

/-- Steps 1 to 3 of a flush are done: the records and the snapshot are written, the result shows, a clear takes effect. -/
def flushed (s : State) : State :=
  let n := min s.rcd.upto (s.fld R.REC_STAT_BACKLOG)
  let s := s.logRecords n
  let s := if s.rcd.snapDue then s.recSnapshot else s
  (((s.setFld R.REC_FLUSH_RESULT 1).setFld R.REC_FLUSH_COUNT n).evt .recorder 0 E.REC_FLUSHED).recClearEffect n

theorem flushed_fields (s : State) : s.flushed.fld R.REC_FLUSH_RESULT = 1 ∧
    s.flushed.fld R.REC_FLUSH_COUNT = min s.rcd.upto (s.fld R.REC_STAT_BACKLOG) ∧
    s.flushed.fld R.PWR_DETACH_STAT_STATE = s.fld R.PWR_DETACH_STAT_STATE ∧ s.flushed.rcd.clearWait = s.rcd.clearWait := by
  have hrd : ∀ {a : Nat}, RecOut a → ∀ t : State, (if t.rcd.snapDue then t.recSnapshot else t).rd a = t.rd a := fun h t => by
    split
    · exact recSnapshot_rd ..
    · rfl
  have hwait : ∀ t : State, (if t.rcd.snapDue then t.recSnapshot else t).rcd.clearWait = t.rcd.clearWait := fun t => by
    split <;> rfl
  have hflush : ∀ (t : State) (n : Nat), ((t.evt .recorder 0 E.REC_FLUSHED).recClearEffect n).rd R.REC_FLUSH = t.rd R.REC_FLUSH :=
    fun t n => (recClearEffect_rd_ne _ _ (by decide) (by decide) (by decide)).trans (evt_rd_ne _ _ _ _ (by decide))
  have hcount : min s.rcd.upto (s.fld R.REC_STAT_BACKLOG) < 2 ^ 16 :=
    Nat.lt_of_le_of_lt (Nat.min_le_right ..) (Nat.lt_trans (fld_lt s R.REC_STAT_BACKLOG) (by decide))
  unfold flushed
  dsimp only
  refine ⟨?_, ?_, ?_, ?_⟩
  · rw [fld_of_rd (f := R.REC_FLUSH_RESULT) (hflush ..), fld_setFld_bits _ _ rfl, fld_setFld_fits _ _ rfl]
    rfl
  · rw [fld_of_rd (f := R.REC_FLUSH_COUNT) (hflush ..), fld_setFld_fits _ _ rfl]
    exact Nat.mod_eq_of_lt hcount
  · refine fld_of_rd (f := R.PWR_DETACH_STAT_STATE) ?_
    rw [show R.PWR_DETACH_STAT_STATE.addr = R.PWR_DETACH_STAT from rfl, recClearEffect_rd_ne _ _ (by decide) (by decide) (by decide),
      evt_rd_recOut recOut_detach, setFld_rd_recOut recOut_detach, setFld_rd_recOut recOut_detach, hrd recOut_detach,
      logRecords_rd_recOut recOut_detach]
  · rw [recClearEffect_clearWait, evt, setFld_rcd, setFld_rcd, setFld_rcd, hwait, logRecords_clearWait]

theorem flushDone_ok {s : State} (hf : s.on R.REC_STAT_FLUSHING = true) (h4 : s.rcd.step4 = false) : s.flushDone true =
    let t := if s.flushed.fld R.PWR_DETACH_STAT_STATE = 1 then s.flushed.setFld R.PWR_DETACH_STAT_FLUSH_OK 1 else s.flushed
    if s.on R.REC_STAT_PF then
      t.updRec fun r => { r with step4 := true, upto := 0, pf := 2, snap := { r.snap with pf := min s.rcd.upto (s.fld R.REC_STAT_BACKLOG) } }
    else (t.setFld R.REC_STAT_FLUSHING 0).drainNets.clearGo := by
  unfold flushDone
  rw [hf, h4, if_neg (by simp), if_neg (by simp)]
  rfl

/-- A flush abandoned after a timeout, with neither a detach nor a clear that waits for it (R527). -/
def flushFailed (s : State) : State :=
  let s := ((s.setFld R.REC_STAT_FLUSHING 0).setFld R.REC_STAT_PF 0).setFld R.REC_FLUSH_RESULT 2
  ((s.opTo .recorder 0).flt .recorder 0 F.REC_FLUSH_FAIL).post 0x2180 locRec (s.fld R.REC_FLUSH_CAUSE)

theorem flushDone_failed {s : State} (hf : s.on R.REC_STAT_FLUSHING = true) (h4 : s.rcd.step4 = false) :
    s.flushDone false = s.flushFailed.drainNets.clearGo := by
  unfold flushDone
  rw [hf, h4, if_neg (by simp), if_pos (by simp)]
  rfl

theorem flushFailed_fields (s : State) : s.flushFailed.on R.REC_STAT_FLUSHING = false ∧ s.flushFailed.on R.REC_STAT_PF = false ∧
    s.flushFailed.fld R.REC_FLUSH_RESULT = 2 ∧ s.flushFailed.on (hdr .recorder 0 0x28 1 1) = true ∧
    s.flushFailed.fld R.PWR_DETACH_STAT_STATE = s.fld R.PWR_DETACH_STAT_STATE ∧ s.flushFailed.rcd.clearWait = s.rcd.clearWait := by
  have hpost : ∀ {a : Nat}, RoleReg a → a ≠ PageKind.recorder.page 0 + 0x1C → ∀ (t : State) (d : Nat),
      ((t.flt .recorder 0 F.REC_FLUSH_FAIL).post 0x2180 locRec d).rd a = t.rd a := fun h hne t d =>
    (post_rd_role h ..).trans (flt_rd_ne _ _ _ _ hne)
  have hrole : ∀ {a : Nat}, 0x400D1020 ≤ a → RoleReg a := roleReg_of_rol
  have hrcd : ∀ (t : State) (code l d : Nat), (t.post code l d).rcd = t.rcd := fun t code l d => post_rcd ..
  have hstat : ∀ t : State, ((t.setFld R.REC_FLUSH_RESULT 2).opTo .recorder 0).rd R.REC_STAT = t.rd R.REC_STAT := fun t =>
    (rd_setFld_ne _ _ (by decide)).trans (rd_setFld_ne _ _ (by decide))
  have hresult : ∀ t : State, (t.opTo .recorder 0).rd R.REC_FLUSH = t.rd R.REC_FLUSH := fun t => rd_setFld_ne _ _ (by decide)
  unfold flushFailed
  refine ⟨?_, ?_, ?_, ?_, ?_, ?_⟩
  · rw [on_of_rd (f := R.REC_STAT_FLUSHING) ((hpost (hrole (by decide)) (by decide) ..).trans (hstat _)), on_setFld_bits _ _ rfl,
      on_setFld_fits _ _ rfl]
    rfl
  · rw [on_of_rd (f := R.REC_STAT_PF) ((hpost (hrole (by decide)) (by decide) ..).trans (hstat _)), on_setFld_fits _ _ rfl]
    rfl
  · rw [fld_of_rd (f := R.REC_FLUSH_RESULT) ((hpost (hrole (by decide)) (by decide) ..).trans (hresult _)),
      fld_setFld_fits _ _ rfl]
    rfl
  · rw [on_of_rd (f := hdr .recorder 0 0x28 1 1) (hpost (hrole (by decide)) (by decide) ..)]
    exact on_setFld_fits _ _ rfl
  · refine (fld_post _ _ _ _ (by decide) (by decide)).trans (fld_of_rd (f := R.PWR_DETACH_STAT_STATE) ?_)
    exact (flt_rd_ne _ _ _ _ (by decide)).trans ((rd_setFld_ne _ _ (by decide)).trans ((setFld_rd_recOut recOut_detach ..).trans
      ((setFld_rd_recOut recOut_detach ..).trans (setFld_rd_recOut recOut_detach ..))))
  · rw [hrcd]
    rfl

end State
end Sys2Proof.Machine
end

section
/-!
SUPPORT. The recorder's commands and the NOR page's: what they answer when their condition holds (R513–R529, R539–R544).
-/
namespace Sys2Proof.Machine

section

variable {s u : State} {p : Post} {rest : List Post}

/-- The oldest post leaves the queue and is judged in the phase that then holds (R514). -/
theorem recCapture_post (hp : s.recPaused = false) (hj : s.j3 = p :: rest) (hu : u = State.recSync { s with j3 := rest }) : s.recCapture =
    if u.fld R.REC_STAT_PHASE = 1 then (if decide (p.code / 4096 < 4) && p.code != 0x1180 then u.recLimited p else u.recPut p)
    else if decide (p.code / 4096 < 4) && (u.rcd.open_.any fun o => o.code == p.code && o.loc == p.loc && o.data == p.data)
        && decide (u.recRepeat < 255) then u.recMerge
      else u.recPut p := by
  subst hu
  unfold State.recCapture
  rw [hp, if_neg (by decide), hj]

theorem execRecordCapture_limited (hp : s.recPaused = false) (hj : s.j3 = p :: rest) (hu : u = State.recSync { s with j3 := rest })
    (hph : u.fld R.REC_STAT_PHASE = 1) (hc : p.code / 4096 < 4) (hne : p.code ≠ 0x1180) :
    execRecordCapture s = .next (u.recLimited p) := by
  unfold execRecordCapture
  rw [recCapture_post hp hj hu, if_pos hph, if_pos (by simp [hc, hne])]

/-- A post of a class that is never limited or merged, or the recorder's own summary in SERVICE (R515, R516). -/
theorem execRecordCapture_plain (hp : s.recPaused = false) (hj : s.j3 = p :: rest) (hu : u = State.recSync { s with j3 := rest })
    (h : 4 ≤ p.code / 4096 ∨ (u.fld R.REC_STAT_PHASE = 1 ∧ p.code = 0x1180)) : execRecordCapture s = .next (u.recPut p) := by
  unfold execRecordCapture
  rw [recCapture_post hp hj hu]
  rcases h with hc | ⟨hph, hcode⟩
  · rw [decide_eq_false (Nat.not_lt.mpr hc), Bool.false_and, Bool.false_and, Bool.false_and]
    simp
  · rw [if_pos hph, if_neg (by simp [hcode])]

theorem execRecordCapture_merged {o : Post} (hp : s.recPaused = false) (hj : s.j3 = p :: rest)
    (hu : u = State.recSync { s with j3 := rest }) (hph : u.fld R.REC_STAT_PHASE ≠ 1) (hc : p.code / 4096 < 4) (ho : u.rcd.open_ = some o)
    (heq : o.code = p.code ∧ o.loc = p.loc ∧ o.data = p.data) (hr : u.recRepeat < 255) : execRecordCapture s = .next u.recMerge := by
  obtain ⟨hcode, hloc, hdata⟩ := heq
  unfold execRecordCapture
  rw [recCapture_post hp hj hu, if_neg hph, ho, if_pos (by simp [hc, hcode, hloc, hdata, hr])]

theorem execRecordCapture_closed (hp : s.recPaused = false) (hj : s.j3 = p :: rest) (hu : u = State.recSync { s with j3 := rest })
    (hph : u.fld R.REC_STAT_PHASE ≠ 1) (ho : u.rcd.open_ = none) : execRecordCapture s = .next (u.recPut p) := by
  unfold execRecordCapture
  rw [recCapture_post hp hj hu, if_neg hph, ho, if_neg (by simp)]

end

/-! ### Flushes -/

section

variable {s : State} {m : Master}

theorem execFlushRequest_opens (ho : s.opens m .recorder 0 = true) : execFlushRequest m s = .next (s.recTrigger 6).okResp :=
  congrArg Host.Outcome.next (State.write_single (a := R.REC_CTL) _ (by decide) ho rfl)

/-- A flush without a power fail that nothing waits for ends. -/
theorem execFlushDone_ends (hf : s.on R.REC_STAT_FLUSHING = true) (h4 : s.rcd.step4 = false) (hpf : s.on R.REC_STAT_PF = false)
    (hw : s.rcd.clearWait = none) (hd : s.fld R.PWR_DETACH_STAT_STATE = 0) :
    execFlushDone true s = .next (s.flushed.setFld R.REC_STAT_FLUSHING 0) := by
  obtain ⟨-, -, hdetach, hwait⟩ := s.flushed_fields
  have hidle : (s.flushed.setFld R.REC_STAT_FLUSHING 0).fld R.PWR_DETACH_STAT_STATE = 0 :=
    (State.fld_setFld_ne _ _ (by decide)).trans (hdetach.trans hd)
  have hnone : (s.flushed.setFld R.REC_STAT_FLUSHING 0).rcd.clearWait = none := by
    rw [State.setFld_rcd, hwait, hw]
  unfold execFlushDone
  rw [State.flushDone_ok hf h4]
  dsimp only
  rw [hpf, if_neg (by decide), if_neg (by rw [hdetach, hd]; decide), State.drainNets_idle hidle, State.clearGo_none hnone]

/-- The flush of a power fail goes on with its step 4 (R525). -/
theorem execFlushDone_powerFail (hf : s.on R.REC_STAT_FLUSHING = true) (h4 : s.rcd.step4 = false) (hpf : s.on R.REC_STAT_PF = true) :
    ∃ t, execFlushDone true s = .next t ∧ t.rcd.step4 = true ∧ t.fld R.REC_FLUSH_RESULT = 1 ∧
      t.fld R.REC_FLUSH_COUNT = min s.rcd.upto (s.fld R.REC_STAT_BACKLOG) := by
  obtain ⟨hresult, hcount, -, -⟩ := s.flushed_fields
  have hflush : (if s.flushed.fld R.PWR_DETACH_STAT_STATE = 1 then s.flushed.setFld R.PWR_DETACH_STAT_FLUSH_OK 1 else s.flushed).rd
      R.REC_FLUSH = s.flushed.rd R.REC_FLUSH := by
    split
    · exact State.rd_setFld_ne _ _ (by decide)
    · rfl
  refine ⟨_, congrArg Host.Outcome.next ((State.flushDone_ok hf h4).trans (if_pos hpf)), rfl, ?_, ?_⟩
  · rw [State.updRec_fld, State.fld_of_rd (f := R.REC_FLUSH_RESULT) hflush, hresult]
  · rw [State.updRec_fld, State.fld_of_rd (f := R.REC_FLUSH_COUNT) hflush, hcount]

theorem execFlushDone_fails (hf : s.on R.REC_STAT_FLUSHING = true) (h4 : s.rcd.step4 = false) (hw : s.rcd.clearWait = none)
    (hd : s.fld R.PWR_DETACH_STAT_STATE = 0) : execFlushDone false s = .next s.flushFailed := by
  obtain ⟨-, -, -, -, hdetach, hwait⟩ := s.flushFailed_fields
  unfold execFlushDone
  rw [State.flushDone_failed hf h4, State.drainNets_idle (hdetach.trans hd), State.clearGo_none (hwait.trans hw)]

/-! ### NOR page -/

/-- The region that holds an address lets a page operation begin: an image slot open for writing, or the calibration region with a session,
at a temperature that allows it (R488, R539). -/
theorem norRefusals_none {a : Nat} (h : (0x60000000 ≤ a ∧ a < 0x61000000 ∧ s.fld R.SEC_IMG_STAT_OPENED = 0) ∨
      (0x63000000 ≤ a ∧ a < 0x64000000 ∧ s.fld R.SEC_IMG_STAT_OPENED = 1) ∨
      (0x61000000 ≤ a ∧ a < 0x61400000 ∧ 2 ≤ s.fld R.ROL_SESS_ROLE))
    (ht : s.on R.SEC_IMG_STAT_IMG_TEMP_OK = true) : (s.norRefusals a).filter Prod.fst = [] ∧ 0x60000000 ≤ a ∧ a < 0x64000000 := by
  unfold State.norRefusals
  rcases h with ⟨hlo, hhi, hopen⟩ | ⟨hlo, hhi, hopen⟩ | ⟨hlo, hhi, hrole⟩
  · have hcal : ¬ 0x61000000 ≤ a := by omega
    refine ⟨?_, by omega, by omega⟩
    simp [ht, hopen, hhi, hcal]
  · have hlow : ¬ a < 0x61000000 := by omega
    have hcal : ¬ a < 0x61400000 := by omega
    refine ⟨?_, by omega, by omega⟩
    simp [ht, hopen, hlo, hlow, hcal]
  · have hlow : ¬ a < 0x61000000 := by omega
    have himage : ¬ 0x63000000 ≤ a := by omega
    have hright : ¬ s.fld R.ROL_SESS_ROLE < 2 := by omega
    refine ⟨?_, by omega, by omega⟩
    simp [ht, hlo, hhi, hlow, himage, hright]

/-- A page operation that no rule refuses begins. -/
theorem norGo_starts {op : Nat} (ho : s.opens m .nor 0 = true) (hb : s.on R.NOR_STAT_BUSY = false) (hpf : s.on R.REC_STAT_PF = false)
    (hop : op < 3) (hspan : op < 2 → 0x60000000 ≤ s.fld R.NOR_ADDR_ADDR ∧ s.fld R.NOR_ADDR_ADDR < 0x64000000)
    (hpage : op = 0 → s.fld R.NOR_ADDR_ADDR % 256 = 0) (hsector : op = 1 → s.fld R.NOR_ADDR_ADDR % 65536 = 0)
    (href : op < 2 → (s.norRefusals (s.fld R.NOR_ADDR_ADDR)).filter Prod.fst = []) : s.norGo m op =
    (((s.setFld R.NOR_CMD_OP op).setFld R.NOR_STAT_BUSY 1).updRec fun r => { r with nor := some (op, s.fld R.NOR_ADDR_ADDR) }).okResp := by
  have hbad : ¬ (op = 3 ∨ ((op = 0 ∨ op = 1) ∧ (s.fld R.NOR_ADDR_ADDR < 0x60000000 ∨ 0x64000000 ≤ s.fld R.NOR_ADDR_ADDR)) ∨
      (op = 0 ∧ s.fld R.NOR_ADDR_ADDR % 256 ≠ 0) ∨ (op = 1 ∧ s.fld R.NOR_ADDR_ADDR % 65536 ≠ 0)) := by
    omega
  refine State.write_single (a := R.NOR_CMD) _ (by decide) ho ?_
  rw [hb, hpf, decide_eq_false hbad]
  split
  case isTrue h2 => simpa using href h2
  case isFalse => rfl

theorem State.setFld_byte (s : State) (f : Fld) (v b : Nat) : (s.setFld f v).byte b = s.byte b := rfl

/-- A page operation is over, and the slot that it wrote is marked (R540). -/
def norEnded (s : State) (op a : Nat) : State :=
  s.updRec fun r => { r with nor := none, written := if op = 2 then r.written else
    if a < 0x61000000 then r.written ||| 1 else if 0x63000000 ≤ a then r.written ||| 2 else r.written }

/-- A page as it is programmed, and the verification of it (R539, R540). -/
def programmed (s : State) (a : Nat) (page : Option (List Byte)) : State :=
  let buf := (List.range 64).flatMap fun k => leBytes (s.rd (R.NOR_BUF k)).toNat 4
  let now := s.getBytes a 256
  let got := page.getD ((buf.zip now).map fun e => e.1 &&& e.2)
  let s := s.putBytes a (got.take 256)
  if got = buf then s else (s.flt .nor 0 F.NOR_VERIFY).inc R.NOR_CNT_VERIFY

/-- An ended page operation before its result shows (R540). -/
def norEffect (s : State) (op a : Nat) (page : Option (List Byte)) : State :=
  if op = 0 then programmed (norEnded s op a) a page
  else if op = 1 then ((norEnded s op a).clearMem a 65536).inc R.NOR_CNT_ERASES
  else norEnded s op a

theorem execNorOpDone_runs {op a : Nat} (page : Option (List Byte)) (hn : s.rcd.nor = some (op, a)) : execNorOpDone page s =
    .next ((((norEffect s op a page).setFld R.NOR_STAT_BUSY 0).setFld R.NOR_STAT_RESULT 1).evt .nor 0 E.NOR_OP_DONE) := by
  unfold execNorOpDone State.norDone
  rw [hn]
  rfl

theorem programmed_rcd (s : State) (a : Nat) (page : Option (List Byte)) : (programmed s a page).rcd = s.rcd := by
  have hput : ∀ (t : State) (l : List Byte), (t.putBytes a l).rcd = t.rcd := fun t l =>
    (t.putBytes_within (P := (· == .bytes)) a l rfl).same .rcd rfl
  unfold programmed
  dsimp only
  split
  · rw [hput]
  · rw [State.inc, State.incBy, State.setFld_rcd, State.flt, State.setFld_rcd, hput]

theorem norEffect_nor (s : State) (op a : Nat) (page : Option (List Byte)) : (norEffect s op a page).rcd.nor = none := by
  unfold norEffect
  split
  · rw [programmed_rcd]
    rfl
  · split
    · rw [State.inc, State.incBy, State.setFld_rcd]
      rfl
    · rfl

theorem norEffect_erase (s : State) (a : Nat) (page : Option (List Byte)) :
    (norEffect s 1 a page).fld R.NOR_CNT_ERASES = min (s.fld R.NOR_CNT_ERASES + 1) 0xFFFF ∧
    ∀ b, (norEffect s 1 a page).byte b = (s.clearMem a 65536).byte b := by
  refine ⟨?_, fun b => rfl⟩
  have hmax : 2 ^ R.NOR_CNT_ERASES.w - 1 = 0xFFFF := by decide
  have hkept : ((norEnded s 1 a).clearMem a 65536).fld R.NOR_CNT_ERASES = s.fld R.NOR_CNT_ERASES := rfl
  unfold norEffect
  rw [if_neg (by decide), if_pos rfl, State.fld_inc _ (by decide), hkept, hmax]

/-- A page operation that times out, before its flag and its post (R527, R540). -/
def norTimedOut (s : State) (op a : Nat) : State :=
  let s := if op = 0 then s.forget a 256 else if op = 1 then s.forget a 65536 else s
  let s := s.updRec fun r => { r with nor := none }
  (((s.setFld R.NOR_STAT_BUSY 0).setFld R.NOR_STAT_RESULT 2).inc R.NOR_CNT_TIMEOUTS).opTo .nor 0

theorem execNorOpTimeout_runs {op a : Nat} (hn : s.rcd.nor = some (op, a)) : execNorOpTimeout s =
    .next (((norTimedOut s op a).flt .nor 0 F.NOR_NOR_TO).post 0x21B0 locNor op) := by
  unfold execNorOpTimeout
  rw [hn]
  rfl

theorem norTimedOut_fields (s : State) (op a : Nat) : (norTimedOut s op a).rcd.nor = none ∧
    (norTimedOut s op a).on R.NOR_STAT_BUSY = false ∧ (norTimedOut s op a).fld R.NOR_STAT_RESULT = 2 ∧
    (norTimedOut s op a).on (hdr .nor 0 0x28 1 1) = true ∧
    (norTimedOut s op a).fld R.NOR_CNT_TIMEOUTS = min (s.fld R.NOR_CNT_TIMEOUTS + 1) 255 := by
  have hforget : ∀ r, (if op = 0 then s.forget a 256 else if op = 1 then s.forget a 65536 else s).rd r = s.rd r := fun r => by
    split
    · rfl
    · split <;> rfl
  have hstat : ∀ t : State, ((t.inc R.NOR_CNT_TIMEOUTS).opTo .nor 0).rd R.NOR_STAT = t.rd R.NOR_STAT := fun t =>
    (State.rd_setFld_ne _ _ (by decide)).trans (State.inc_rd_ne _ (by decide))
  have hmax : 2 ^ R.NOR_CNT_TIMEOUTS.w - 1 = 255 := by decide
  unfold norTimedOut
  dsimp only
  refine ⟨?_, ?_, ?_, State.on_setFld_fits _ _ rfl, ?_⟩
  · rw [State.opTo, State.setFld_rcd, State.inc, State.incBy, State.setFld_rcd, State.setFld_rcd, State.setFld_rcd]
    rfl
  · rw [State.on_of_rd (f := R.NOR_STAT_BUSY) (hstat _), State.on_setFld_bits _ _ rfl, State.on_setFld_fits _ _ rfl]
    rfl
  · rw [State.fld_of_rd (f := R.NOR_STAT_RESULT) (hstat _), State.fld_setFld_fits _ _ rfl]
    rfl
  · rw [State.opTo, State.fld_setFld_ne _ _ (by decide), State.fld_inc _ (by decide), State.fld_setFld_ne _ _ (by decide),
      State.fld_setFld_ne _ _ (by decide), State.updRec_fld, State.fld_of_rd (f := R.NOR_CNT_TIMEOUTS) (hforget _), hmax]

end

end Sys2Proof.Machine
end

section
/-!
Recorder and NOR: the commands complete.
-/
open Sys2Proof Sys2Proof.Machine

/-- Settles O33: a capture by the phase, a trigger by whether a flush runs, the end of a flush and of a page operation by the registers and
the record that they leave. -/
theorem recorderCommandsComplete : Obligations.RecorderCommandsComplete := by
  unfold Obligations.RecorderCommandsComplete
  refine ⟨fun s p rest u hp hj hu hph hc hne => execRecordCapture_limited hp hj hu hph hc hne,
    fun s p rest u hp hj hu h => execRecordCapture_plain hp hj hu h,
    fun s p rest u o hp hj hu hph hc ho heq hr => execRecordCapture_merged hp hj hu hph hc ho heq hr,
    fun s p rest u hp hj hu hph ho => execRecordCapture_closed hp hj hu hph ho,
    fun s hl hroom => congrArg Host.Outcome.next (if_pos ⟨hl, hroom⟩), fun s => rfl,
    fun s hf => ⟨_, rfl, State.recTrigger_starts_fields (by decide) (by decide) hf⟩,
    fun s hf h4 => ⟨_, rfl, ?_⟩,
    fun s hf => ⟨_, rfl, State.recTrigger_starts_fields (by decide) (by decide) hf⟩,
    fun s hf h4 => ⟨_, rfl, State.recTrigger_joins_fields (by decide) hf h4⟩,
    fun s hf hn => ⟨_, congrArg Host.Outcome.next (if_pos hn), State.recTrigger_starts_fields (by decide) (by decide) hf⟩,
    fun s hf h4 hn => ⟨_, congrArg Host.Outcome.next (if_pos hn), ?_⟩,
    fun s m ho hf => ⟨_, execFlushRequest_opens ho, rfl, State.recTrigger_starts_fields (by decide) (by decide) hf⟩,
    fun s m ho hf h4 => ⟨_, execFlushRequest_opens ho, rfl, (State.recTrigger_joins_fields (by decide) hf h4).2⟩,
    fun s hf h4 hpf hw hd => ⟨_, execFlushDone_ends hf h4 hpf hw hd, ?_⟩,
    fun s hf h4 hpf => execFlushDone_powerFail hf h4 hpf, fun s hf h4 hw hd => ⟨_, execFlushDone_fails hf h4 hw hd, ?_⟩,
    fun s hc => ⟨_, congrArg Host.Outcome.next (if_pos hc), State.on_setFld_fits _ _ rfl⟩,
    fun s m a ho hb hpf ha hmod hreg ht => ?_, fun s m a ho hb hpf ha hmod hreg ht => ?_, fun s m ho hb hpf => ?_,
    fun s op a p hn => ⟨_, execNorOpDone_runs p hn, ?_⟩, fun s op a hn => ⟨_, execNorOpTimeout_runs hn, ?_⟩⟩
  case refine_1 =>
    obtain ⟨hregs, hupto, hsnap⟩ := State.recTrigger_joins_fields (cause := 7) (by decide) hf h4
    exact ⟨hregs, hupto, hsnap.trans (Bool.or_true _)⟩
  case refine_2 =>
    obtain ⟨hregs, hupto, hsnap⟩ := State.recTrigger_joins_fields (cause := 4) (by decide) hf h4
    exact ⟨hregs, hupto, hsnap.trans (Bool.or_false _)⟩
  case refine_3 =>
    obtain ⟨hresult, hcount, -, -⟩ := s.flushed_fields
    refine ⟨State.on_setFld_fits _ _ rfl, ?_, ?_⟩
    · rw [State.fld_setFld_ne _ _ (by decide), hresult]
    · rw [State.fld_setFld_ne _ _ (by decide), hcount]
  case refine_4 =>
    obtain ⟨hflushing, hpf, hresult, hopTo, -, -⟩ := s.flushFailed_fields
    exact ⟨hflushing, hpf, hresult, hopTo⟩
  case refine_5 =>
    subst ha
    obtain ⟨href, hlo, hhi⟩ := norRefusals_none hreg ht
    exact congrArg Host.Outcome.next
      (norGo_starts ho hb hpf (by decide) (fun _ => ⟨hlo, hhi⟩) (fun _ => hmod) (fun h => absurd h (by decide)) fun _ => href)
  case refine_6 =>
    subst ha
    obtain ⟨href, hlo, hhi⟩ := norRefusals_none hreg ht
    exact congrArg Host.Outcome.next
      (norGo_starts ho hb hpf (by decide) (fun _ => ⟨hlo, hhi⟩) (fun h => absurd h (by decide)) (fun _ => hmod) fun _ => href)
  case refine_7 =>
    exact congrArg Host.Outcome.next (norGo_starts ho hb hpf (by decide) (fun h => absurd h (by decide)) (fun h => absurd h (by decide))
      (fun h => absurd h (by decide)) fun h => absurd h (by decide))
  case refine_8 =>
    have hstat : ∀ t : State, (t.evt .nor 0 E.NOR_OP_DONE).rd R.NOR_STAT = t.rd R.NOR_STAT := fun t =>
      State.evt_rd_ne _ _ _ _ (by decide)
    refine ⟨?_, ?_, ?_, ?_⟩
    · rw [State.evt, State.setFld_rcd, State.setFld_rcd, State.setFld_rcd, norEffect_nor]
    · rw [State.on_of_rd (f := R.NOR_STAT_BUSY) (hstat _), State.on_setFld_bits _ _ rfl, State.on_setFld_fits _ _ rfl]
      rfl
    · rw [State.fld_of_rd (f := R.NOR_STAT_RESULT) (hstat _), State.fld_setFld_fits _ _ rfl]
      rfl
    · rintro rfl
      obtain ⟨herases, hbytes⟩ := norEffect_erase s a p
      refine ⟨?_, fun b _ _ => by
        rw [State.evt, State.setFld_byte, State.setFld_byte, State.setFld_byte, hbytes]⟩
      rw [State.evt, State.fld_setFld_ne _ _ (by decide), State.fld_setFld_ne _ _ (by decide), State.fld_setFld_ne _ _ (by decide), herases]
  case refine_9 =>
    obtain ⟨hnor, hbusy, hresult, hopTo, hcount⟩ := norTimedOut_fields s op a
    have hposted : ∀ {r : Nat}, 0x400D1020 ≤ r → r ≠ PageKind.nor.page 0 + 0x1C → ∀ t : State,
        ((t.flt .nor 0 F.NOR_NOR_TO).post 0x21B0 locNor op).rd r = t.rd r := fun h hne t =>
      (State.post_rd_role (roleReg_of_rol h) ..).trans (State.flt_rd_ne _ _ _ _ hne)
    refine ⟨?_, ?_, ?_, ?_, ?_⟩
    · rw [State.post_rcd, State.flt, State.setFld_rcd, hnor]
    · rw [State.on_of_rd (f := R.NOR_STAT_BUSY) (hposted (by decide) (by decide) _), hbusy]
    · rw [State.fld_of_rd (f := R.NOR_STAT_RESULT) (hposted (by decide) (by decide) _), hresult]
    · rw [State.on_of_rd (f := hdr .nor 0 0x28 1 1) (hposted (by decide) (by decide) _), hopTo]
    · rw [State.fld_of_rd (f := R.NOR_CNT_TIMEOUTS) (hposted (by decide) (by decide) _), hcount]

end

section
/-!
SUPPORT. Derate channels and the memory self-test: what a test's failures and its end leave of BST_STAT, and what the commands answer when
their condition holds (R533–R538).
-/
namespace Sys2Proof.Machine

/-- A register of the BST page other than its event and fault flags. -/
structure BstReg (a : Nat) : Prop where
  out : RecOut a
  role : RoleReg a
  evt : a ≠ PageKind.bst.page 0 + 0x10
  flt : a ≠ PageKind.bst.page 0 + 0x1C

theorem bstReg_stat : BstReg R.BST_STAT := ⟨.inl (by decide), roleReg_of_rol (by decide), by decide, by decide⟩

theorem bstReg_ctl : BstReg R.BST_CTL := ⟨.inl (by decide), roleReg_of_rol (by decide), by decide, by decide⟩

theorem drtCfg_pageAt (k : Fin 8) : pageAt (R.TMP_DRT_CFG k) = some (.tmp, 0) := by
  revert k
  decide

/-- The EPOCH of a context lies apart from a derate channel's configuration. -/
theorem lpxCfg_ne_drtCfg (c : Nat) {k : Nat} (hc : c < 256) : R.LPX_CFG c ≠ R.TMP_DRT_CFG k := by
  simp only [R.LPX_CFG, R.TMP_DRT_CFG]
  omega

namespace State

/-- The event, the post and the phase at the end of a test leave BST_STAT and BST_CTL. -/
theorem bistEnd_rd {a : Nat} (h : BstReg a) (s : State) (b code l d : Nat) : (((s.evt .bst 0 b).post code l d).recSync).rd a = s.rd a := by
  rw [recSync_rd_recOut h.out, post_rd_role h.role, evt_rd_ne _ _ _ _ h.evt]

/-- A failing word is counted above BUSY and RESULT. -/
theorem bistFail_fld (s : State) (t : Nat) (f : BistFail) {lo w : Nat} (h : lo + w ≤ 16) :
    (s.bistFail t f).fld ⟨R.BST_STAT, lo, w⟩ = s.fld ⟨R.BST_STAT, lo, w⟩ := by
  have hwhen : ∀ (u : State) (c : Bool), (u.when c tookFree).rd R.BST_STAT = u.rd R.BST_STAT := fun u c => by
    cases c <;> rfl
  have hfirst : ∀ v : Word, (if s.fld R.BST_STAT_FAILS = 0 then (s.wr R.BST_FAIL_ADDR f.addr).wr R.BST_FAIL_BIT v else s).rd R.BST_STAT =
      s.rd R.BST_STAT := fun v => by
    split
    · rw [rd_wr_ne _ _ (by decide), rd_wr_ne _ _ (by decide)]
    · rfl
  unfold bistFail
  dsimp only
  rw [fld_of_rd (f := ⟨R.BST_STAT, lo, w⟩) (hwhen ..), fld_of_rd (f := ⟨R.BST_STAT, lo, w⟩) (post_rd_role bstReg_stat.role ..), inc, incBy,
    fld_setFld_apart _ _ (by decide) (.inr (.inr h)), fld_of_rd (f := ⟨R.BST_STAT, lo, w⟩) (hfirst _)]

theorem bistFails_fld (s : State) (t : Nat) (l : List BistFail) {lo w : Nat} (h : lo + w ≤ 16) :
    (l.foldl (fun s f => s.bistFail t f) s).fld ⟨R.BST_STAT, lo, w⟩ = s.fld ⟨R.BST_STAT, lo, w⟩ :=
  List.foldlRecOn l _ (motive := fun u => u.fld ⟨R.BST_STAT, lo, w⟩ = s.fld ⟨R.BST_STAT, lo, w⟩) rfl fun u hu f _ =>
    (bistFail_fld u t f h).trans hu

/-- A test that has ended with its failures, before its event and post (R538). -/
def bistEnded (s : State) (fails : List BistFail) : State :=
  let u := (s.setFld R.BST_STAT_BUSY 0).setFld R.BST_STAT_RESULT (if fails.isEmpty then 1 else 2)
  (fails.foldl (fun v f => v.bistFail (s.fld R.BST_CTL_TARGET) f) u).when (!fails.isEmpty) fun v => v.flt .bst 0 F.BST_BIST_FAIL

theorem bistEnded_fld (s : State) (fails : List BistFail) {lo w : Nat} (h : lo + w ≤ 16) : (s.bistEnded fails).fld ⟨R.BST_STAT, lo, w⟩ =
    ((s.setFld R.BST_STAT_BUSY 0).setFld R.BST_STAT_RESULT (if fails.isEmpty then 1 else 2)).fld ⟨R.BST_STAT, lo, w⟩ := by
  have hwhen : ∀ (u : State) (c : Bool), (u.when c fun v => v.flt .bst 0 F.BST_BIST_FAIL).rd R.BST_STAT = u.rd R.BST_STAT := fun u c => by
    cases c
    · rfl
    · exact flt_rd_ne _ _ _ _ bstReg_stat.flt
  unfold bistEnded
  rw [fld_of_rd (f := ⟨R.BST_STAT, lo, w⟩) (hwhen ..), bistFails_fld _ _ _ h]

theorem bistEnded_fields (s : State) (fails : List BistFail) : (s.bistEnded fails).on R.BST_STAT_BUSY = false ∧
    (s.bistEnded fails).fld R.BST_STAT_RESULT = if fails.isEmpty then 1 else 2 := by
  constructor
  · refine (congrArg (· != 0) (bistEnded_fld s fails (lo := 0) (w := 1) (by decide))).trans ?_
    exact (on_setFld_bits _ _ rfl).trans ((on_setFld_fits _ _ rfl).trans rfl)
  · refine (bistEnded_fld s fails (lo := 1) (w := 2) (by decide)).trans ((fld_setFld_fits _ _ rfl).trans ?_)
    split <;> rfl

/-- A test in progress is aborted: BUSY clear, RESULT aborted (R536). -/
theorem bistAbort_fields {s : State} (h : s.on R.BST_STAT_BUSY = true) : s.bistAbort.on R.BST_STAT_BUSY = false ∧
    s.bistAbort.fld R.BST_STAT_RESULT = 3 := by
  unfold bistAbort
  rw [if_pos h]
  dsimp only
  constructor
  · rw [on_of_rd (f := R.BST_STAT_BUSY) (bistEnd_rd bstReg_stat ..), on_setFld_bits _ _ rfl, on_setFld_fits _ _ rfl]
    rfl
  · rw [fld_of_rd (f := R.BST_STAT_RESULT) (bistEnd_rd bstReg_stat ..), fld_setFld_fits _ _ rfl]
    rfl

/-- A test starts on a target (R537). -/
def bistStarted (s : State) (t alg : Nat) : State :=
  ((((s.setFld R.BST_CTL_TARGET t).setFld R.BST_CTL_ALG alg).setFld R.BST_STAT_BUSY 1).setFld R.BST_STAT_FAILS 0).recSync

theorem bistStarted_fields (s : State) {t alg : Nat} (ht : t < 16) (ha : alg < 4) : (s.bistStarted t alg).on R.BST_STAT_BUSY = true ∧
    (s.bistStarted t alg).fld R.BST_CTL_TARGET = t ∧ (s.bistStarted t alg).fld R.BST_CTL_ALG = alg := by
  have hctl : (s.bistStarted t alg).rd R.BST_CTL = ((s.setFld R.BST_CTL_TARGET t).setFld R.BST_CTL_ALG alg).rd R.BST_CTL := by
    unfold bistStarted
    rw [recSync_rd_recOut bstReg_ctl.out, rd_setFld_ne _ _ (by decide), rd_setFld_ne _ _ (by decide)]
  refine ⟨?_, ?_, ?_⟩
  · unfold bistStarted
    rw [on_of_rd (f := R.BST_STAT_BUSY) (recSync_rd_recOut bstReg_stat.out _), on_setFld_bits _ _ rfl, on_setFld_fits _ _ rfl]
    rfl
  · rw [fld_of_rd (f := R.BST_CTL_TARGET) hctl, fld_setFld_bits _ _ rfl, fld_setFld_fits _ _ rfl]
    exact Nat.mod_eq_of_lt ht
  · rw [fld_of_rd (f := R.BST_CTL_ALG) hctl, fld_setFld_fits _ _ rfl]
    exact Nat.mod_eq_of_lt ha

/-- A spare row of a memory is used (R538). -/
theorem spareUsed_updRec (s : State) (b n : Nat) :
    (s.updRec fun r => { r with spare := r.spare.write (fun _ => 0) b n }).spareUsed b = n := Store.read_write_same ..

theorem spareUsed_congr {s t : State} (h : t.rcd = s.rcd) (b : Nat) : t.spareUsed b = s.spareUsed b := by
  unfold spareUsed
  rw [h]

end State

/-! ### The commands -/

section

variable {s : State} {m : Master}

theorem execDerateChannelWrite_enables {k : Fin 8} {v : Word} (ho : s.opens m .tmp 0 = true) (hen : s.on (R.TMP_DRT_CFG_EN k) = false)
    (hc : getBits v 8 8 ≤ 159) (hon : getBits v 0 1 = 1) (hne : s.rd (R.TMP_DRT_START k) ≠ s.rd (R.TMP_DRT_END k)) :
    execDerateChannelWrite m k v s = .next (((((s.wr (R.TMP_DRT_CFG k) (v &&& 0x7FF3F)).setFld (R.TMP_DRT_STAT_EPOCH k)
      (s.fld (R.LPX_CFG_EPOCH (getBits v 8 8)))).setFld (R.TMP_DRT_STAT_STALE k) 0)).okResp) := by
  have hepoch : ∀ w, (s.wr (R.TMP_DRT_CFG k) w).fld (R.LPX_CFG_EPOCH (getBits v 8 8)) = s.fld (R.LPX_CFG_EPOCH (getBits v 8 8)) :=
    fun w => State.fld_of_rd (f := R.LPX_CFG_EPOCH (getBits v 8 8)) (State.rd_wr_ne _ _ (lpxCfg_ne_drtCfg _ (getBits_lt v 8 8)))
  unfold execDerateChannelWrite State.drtConfig
  dsimp only
  rw [State.write_single _ (drtCfg_pageAt k) ho
    (by rw [hen, hon, beq_false_of_ne hne, decide_eq_false (Nat.not_lt.mpr hc)]; rfl), hen, Bool.false_and, Bool.false_and,
    if_pos hon, if_neg Bool.false_ne_true, hepoch]

/-- A test of target 6 has no words of its own and no condition. -/
theorem execBistRequest_target6 {a : Fin 4} (ho : s.opens m .bst 0 = true) (hb : s.on R.BST_STAT_BUSY = false) (ha : a.val ≠ 3)
    (hst : s.bistState = true) : execBistRequest m 6 a s = .next (s.bistStarted 6 a).okResp := by
  have hready : s.bistReady 6 = true := rfl
  refine congrArg Host.Outcome.next (State.write_single (a := R.BST_CTL) _ (by decide) ho ?_)
  rw [hb, hst, show ((6 : Fin 16) : Nat) = 6 from rfl, hready, decide_eq_false (by omega)]
  rfl

theorem execBistDone_busy (fails : List BistFail) (hb : s.on R.BST_STAT_BUSY = true) : execBistDone fails s =
    .next ((((s.bistEnded fails).evt .bst 0 E.BST_DONE).post 0x61A0 locBst
      (s.fld R.BST_CTL_TARGET + (if fails.isEmpty then 16 else 32))).recSync) := congrArg Host.Outcome.next (if_pos hb)

/-- The end of a test with its failures. -/
theorem execBistDone_fields (fails : List BistFail) (hb : s.on R.BST_STAT_BUSY = true) : ∃ t, execBistDone fails s = .next t ∧
    t.on R.BST_STAT_BUSY = false ∧ t.fld R.BST_STAT_RESULT = if fails.isEmpty then 1 else 2 := by
  obtain ⟨hbusy, hresult⟩ := s.bistEnded_fields fails
  exact ⟨_, execBistDone_busy fails hb, (State.on_of_rd (f := R.BST_STAT_BUSY) (State.bistEnd_rd bstReg_stat ..)).trans hbusy,
    (State.fld_of_rd (f := R.BST_STAT_RESULT) (State.bistEnd_rd bstReg_stat ..)).trans hresult⟩

/-- The state with a spare row of a memory burned (R538). -/
def repaired (s : State) (b : Nat) : State :=
  (s.updRec fun r => { r with spare := r.spare.write (fun _ => 0) b (s.spareUsed b + 1) }).inc
    (if b < 16 then R.BST_REPAIR_SRAM_USED else R.BST_REPAIR_LPE_USED)

theorem repaired_spareUsed (s : State) (b : Nat) : (repaired s b).spareUsed b = s.spareUsed b + 1 := by
  have hinc : ∀ (t : State) (f : Fld), (t.inc f).rcd = t.rcd := fun t f => by
    rw [State.inc, State.incBy, State.setFld_rcd]
  unfold repaired
  rw [State.spareUsed_congr (hinc ..), State.spareUsed_updRec]

/-- The repair of a failing word whose memory has a spare row left (R538). -/
theorem execBistRepair_spare {b : Nat} (ho : s.opens m .bst 0 = true) (hst : s.bistState = true)
    (ht : s.on R.SEC_IMG_STAT_OTP_TEMP_OK = true) (hr : s.fld R.BST_STAT_RESULT = 2) (hb : s.bistBank = some b)
    (hs : s.spareUsed b < (if b < 16 then 4 else 2)) : execBistRepair m s =
    .next ((((repaired s b).evt .bst 0 E.BST_REPAIRED).post 0x61A2 locBst ((repaired s b).fld R.BST_FAIL_ADDR_ADDR)).okResp) := by
  have hspare : decide ((if b < 16 then 4 else 2) ≤ s.spareUsed b) = false := decide_eq_false (Nat.not_le.mpr hs)
  unfold execBistRepair
  rw [hb]
  dsimp only
  rw [State.write_single (a := R.BST_CTL) _ (by decide) ho (by rw [hst, ht, hspare, Bool.and_false]; rfl), if_neg fun h => h hr, hb]
  rfl

end

end Sys2Proof.Machine
end

section
/-!
Derating and memory self-test: the commands complete.
-/
open Sys2Proof Sys2Proof.Machine

/-- Settles O34: each request by the condition that it states, the end of a test by BST_STAT, a repair by the spare rows used. -/
theorem thermalCommandsComplete : Obligations.ThermalCommandsComplete := by
  unfold Obligations.ThermalCommandsComplete
  refine ⟨fun s m k v ho hen hc hon hne => execDerateChannelWrite_enables ho hen hc hon hne,
    fun s m a ho hb ha hst => ⟨_, execBistRequest_target6 ho hb ha hst, rfl, ?_⟩, fun s hb => execBistDone_fields [] hb,
    fun s f l hb => execBistDone_fields (f :: l) hb, fun s m ho hb => ⟨_, congrArg Host.Outcome.next
      (State.write_single (a := R.BST_CTL) _ (by decide) ho rfl), rfl, ?_⟩,
    fun s m b ho hst ht hr hb hs => ⟨_, execBistRepair_spare ho hst ht hr hb hs, rfl, ?_⟩⟩
  · rw [State.okResp_on, State.okResp_fld, State.okResp_fld]
    exact s.bistStarted_fields (by decide) a.isLt
  · rw [State.okResp_on, State.okResp_fld]
    exact State.bistAbort_fields hb
  · have hrcd : ∀ (t : State) (code l d : Nat), ((t.evt .bst 0 E.BST_REPAIRED).post code l d).okResp.rcd = t.rcd := fun t code l d => by
      rw [State.okResp_rcd, State.post_rcd, State.evt, State.setFld_rcd]
    rw [State.spareUsed_congr (hrcd ..), repaired_spareUsed]

end
